-- ==== Sys2Proof/Word.lean ====
section
/-! DEFINITION. The word types: bytes, byte strings, and the 32-bit words of registers and needles. -/

namespace Sys2Proof

/-- A byte of a frame, a table entry or host memory. -/
abbrev Byte := BitVec 8

/-- A byte string, lowest address (or first on the wire) first. -/
abbrev Bytes := List Byte

/-- A 32-bit word: a needle register, a data word of a table entry, a 32-bit register. -/
abbrev Word := BitVec 32

end Sys2Proof
end

