-- ==== Sys2Proof/Syntax.lean ====
section
/-! DEFINITION. The commands of the device: one constructor of `Instr` per row of the opcode table, with the operands
that the outside world, or the moment at which the step happens, gives it. -/

namespace Sys2Proof

/-- An agent that reaches registers (R10, R14): a PCIe function by its ARI number (0 PF0, 1 PF1, 2 + v VF v), a
management core, a Chart sequencer, JTAG after the debug unlock, and JTAG through the TAP instruction SEC_UNLOCK. -/
inductive Agent where
  | fn (f : Fin 64)
  | mc (n : Fin 2)
  | cs (n : Fin 8)
  | jtag
  | tap
  deriving DecidableEq, Repr

/-- A memory BAR of a function, by the number of its first configuration register (R310). -/
inductive Bar where
  | bar0 | bar2 | bar4
  deriving DecidableEq, Repr

/-- A memory request to a BAR (R312, R335): the address of its first enabled byte, how many bytes its enabled bytes span, and
whether they are contiguous. Agents other than functions use BAR0 addresses. -/
structure BusReq where
  bar    : Bar
  addr   : Nat
  size   : Nat
  contig : Bool
  deriving DecidableEq, Repr

/-- How the PCIe link leaves DL_Active (R318). -/
inductive LinkDownCause where
  | hotReset | linkDisable | loss
  deriving DecidableEq, Repr

/-- The status of a completion for a device read (R325). -/
inductive CplStatus where
  | ok | unsupported | abort | poisoned
  deriving DecidableEq, Repr

/-- How a read of host memory made for a command ends: whole, timed out, or with an error completion (R324, R325). -/
inductive ReadEnd where
  | whole | timeout
  /-- Its reads end by commands of their own. -/
  | later
  | error (status : CplStatus)
  deriving DecidableEq, Repr

/-- A debounced input of a cage (R78). -/
inductive CageInput where
  | presence | button | powerGood
  deriving DecidableEq, Repr

/-- What a write to a program store or entry set names (R113, R114): an instruction word, or a register of entry set
`s`. -/
inductive ImageReg where
  | word (i : Fin 8192)
  | entry (s : Fin 2) (i : Fin 16)
  | srcMap (s : Fin 2)
  | pages (s : Fin 2)
  deriving DecidableEq, Repr

/-- An instruction of the JTAG test access port (R440); a code that names none of these is `bypass`. -/
inductive TapInstr where
  | bypass | idcode | sample | extest | pulse | train | secUnlock
  deriving DecidableEq, Repr

/-- A request on the SMBus target (R459): a numeric sensor by its number, or state sensor 1. -/
inductive SmbusReq where
  | numeric (i : Fin 7)
  | state
  deriving DecidableEq, Repr

/-- How a start goes (Table 18-5): the step it stays in (8: it reaches READY), uncorrectable MRAM lines met in slot A and
in slot B, domains that fail in C4, stacks that fail in C5, and pipelines whose ingress or egress image fails to load in
C6. -/
structure CastOn where
  stop   : Fin 9
  badA   : Bool
  badB   : Bool
  lost   : List (Fin 64)
  hbm : List (Fin 4)
  images : List (Fin 16 × Bool)
  deriving DecidableEq, Repr

/-- What a scrubber found in a slot (R205): contents rewritten from the shadow, or parity and shadow both lost. -/
inductive ScrubFind where
  | fixed | lost
  deriving DecidableEq, Repr

/-- What the sensors, the links and the memories give a tick edge: the junction temperature and whether the AVSBus
regulator answered (R427, R453); domains whose repair failed (R423); the ager's slice was late (R48); what the scrubbers
found, by TCAM slot (R205); codewords that the FEC of a port corrected and could not correct in the tick (R464); and a
lane's signal, CDR lock and PRBS bit errors of the tick (Table 3-9); whether the link partner holds CLKREQ# asserted (R316). -/
structure EdgeIn where
  tj     : BitVec 8
  avs    : Bool
  repair : List (Fin 64)
  late   : Bool
  scrub  : List (Fin 1572864 × ScrubFind)
  fec    : List (Fin 130 × Fin 65536 × Fin 65536)
  lanes  : List (Fin 130 × Bool × Bool × Fin 65536)
  clkreq : Bool
  deriving DecidableEq, Repr

/-- One command: an access, an operation or an event of the opcode table. -/
inductive Instr where
  /-- REGISTER_WRITE (R6): agent `a` writes the value `v` by the request `q`. -/
  | registerWrite (a : Agent) (q : BusReq) (v : BitVec 64)
  /-- HALF_READ_LATCH (R13): agent `a` reads the 32 bits at BAR0 offset `addr`, the lower half of a 64-bit register,
  and the upper half is latched. -/
  | halfReadLatch (a : Agent) (addr : Nat)
  /-- TICK_EDGE (R47): a tick edge: the core clocks left of the tick pass, and the edge's work is done; `x`: what it
  meets. -/
  | tickEdge (x : EdgeIn)
  /-- PERIOD_ARM (R41): agent `a` writes `v` to TIK_PERIOD_NEXT. -/
  | periodArm (a : Agent) (v : BitVec 32)
  /-- PERIOD_CHANGE_APPLY (R41): An armed tick period applies at its edge and ARM clears. -/
  | periodChangeApply
  /-- TICK_IN_PULSE (R45): a rising edge on TICK_IN, of a 32-clock pulse when `long`. -/
  | tickInPulse (long : Bool)
  /-- TICK_HOLDOVER (R45): No TICK_IN pulse arrives for two periods and the follower enters holdover. -/
  | tickHoldover
  /-- COMMIT_APPLY (R463): the commits due at this edge are taken. -/
  | commitApply
  /-- MODE_REQUEST (R28): agent `a` writes `v`, with GO 1, to GLB_MODE_REQ; `conflict`: a request of an agent taken
  before it was submitted in the same clock. -/
  | modeRequest (a : Agent) (conflict : Bool) (v : BitVec 32)
  /-- TRANSITION_COMPLETE (R30): An accepted mode transition completes at the first edge at which its work is done. -/
  | transitionComplete
  /-- HEARTBEAT_WRITE (R38): agent `a` writes `v` to GLB_HEARTBEAT. -/
  | heartbeatWrite (a : Agent) (v : BitVec 32)
  /-- HEARTBEAT_EXPIRED (R38): The heartbeat count reaches HB_LIMIT and host loss is declared with cause 3. -/
  | heartbeatExpired
  /-- HOSTLOSS_LOST_CLEAR (R35): agent `a` writes 1 to GLB_HOSTLOSS.LOST, with HB_LIMIT unchanged. -/
  | hostlossLostClear (a : Agent)
  /-- PORT_CFG_WRITE (R60): agent `a` writes `v` to MAC_PORT_CFG of port `p`. -/
  | portCfgWrite (a : Agent) (p : Fin 130) (v : BitVec 32)
  /-- RX_FRAME (R63): port `p` receives `frame`, from the destination address through the FCS; `arr`: it has wholly
  arrived by its dispatch (0), between dispatch and action merge (1), or later (2); `same`: it becomes ready in
  the clock of the frame before it in its pipeline. -/
  | rxFrame (p : Fin 130) (frame : Bytes) (arr : Fin 3) (same : Bool)
  /-- PAUSE_TIMER_EXPIRE (R66): the timer of priority `c` (8: the whole port) reaches zero. -/
  | pauseTimerExpire (p : Fin 130) (c : Fin 9)
  /-- XOFF_RESEND (R67): Half of an XOFF's quanta have elapsed while the condition holds, and the XOFF is sent again. -/
  | xoffResend (p : Fin 130) (c : Fin 8)
  /-- FRAME_TRANSMIT (R64): A frame is transmitted on a port, padded, or dropped for exceeding MAXLEN. -/
  | frameTransmit (p : Fin 130)
  /-- LINK_UP (R71): A TRAINING port finds the link OK at UP_DEB consecutive edges and goes UP. -/
  | linkUp (p : Fin 130)
  /-- LINK_FAULT_DEBOUNCED (R71): An UP port finds a link fault at DOWN_DEB consecutive edges and goes to BINDOFF or
  HELD. -/
  | linkFaultDebounced (p : Fin 130)
  /-- BINDOFF_CMD (R71): agent `a` writes `v` to MAC_PORT_CMD of port `p`. -/
  | bindoffCmd (a : Agent) (p : Fin 130) (v : BitVec 32)
  /-- BINDOFF_FLUSH_COMPLETE (R248): No queue of the port holds a cell, context or outstanding access, and the flush
  completes. -/
  | bindoffFlushComplete (p : Fin 130)
  /-- HOLDDOWN_EXPIRE (R72): The hold count reaches 0 after the flush and the port leaves BINDOFF for UP or TRAINING. -/
  | holddownExpire (p : Fin 130)
  /-- CMB_SCAN_FRAME (R76): a scan frame starts; `inputs` are captured from cage 0 on, bit 0 PRES_N, 1 BTN_N, 2 PGOOD,
  3 INT_N. -/
  | cmbScanFrame (inputs : List (BitVec 4))
  /-- CAGE_INPUT_ACCEPTED (R78): A change of PRES_N, BTN_N or PGOOD is accepted after DEB consecutive scans. -/
  | cageInputAccepted (g : Fin 128) (which : CageInput)
  /-- CAGE_CTL_WRITE (R83): agent `a` writes `v` to CAGE_CTL of cage `g`. -/
  | cageCtlWrite (a : Agent) (g : Fin 128) (v : BitVec 32)
  /-- BTN_WAIT_EXPIRE (R82): The attention-button wait count ends and the cage goes to BINDOFF or powers on. -/
  | btnWaitExpire (g : Fin 128)
  /-- CAGE_BINDOFF_DONE (R82): Every port on the cage has finished its flush and the cage powers off into IDLE. -/
  | cageBindoffDone (g : Fin 128)
  /-- I2C_GO (R85): agent `a` writes `v` to CAGE_I2C_CTL[m]. -/
  | i2cGo (a : Agent) (m : Fin 8) (v : BitVec 32)
  /-- I2C_DONE (R85): the transfer of master `m` ends; `data` is what a read returned. -/
  | i2cDone (m : Fin 8) (nack : Bool) (data : Bytes)
  /-- I2C_TIMEOUT (R85): Clock stretching passes 25 ms and the transfer ends with TIMEOUT. -/
  | i2cTimeout (m : Fin 8)
  /-- TOD_STEP (R86): agent `a` writes `v` to TIM_ADJ. -/
  | todStep (a : Agent) (v : BitVec 64)
  /-- TOD_SET (R86): agent `a` writes `v` to TIM_SET_SEC. -/
  | todSet (a : Agent) (v : BitVec 64)
  /-- SYNCE_LOS (R91): The selected lane loses CDR lock and the SyncE output is squelched. -/
  | synceLos (i : Fin 2)
  /-- INGRESS_DISPATCH (R95): Up to two ready frames are dispatched to free needles of the ingress engines. -/
  | ingressDispatch (n : Fin 16)
  /-- EGRESS_DISPATCH (R108): A packet read from the Skein is handed to a free needle of an egress engine. -/
  | egressDispatch (n : Fin 16)
  /-- BUDGET_ABORT (R99): needle `n` of engine `e` has not ended by its budget. -/
  | budgetAbort (e : Fin 64) (n : Fin 96)
  /-- REORDER_RELEASE (R106): the oldest packet of source `src` leaves the ingress reorder stage of pipeline `n`, or
  of egress port `src` its egress stage when `eg`; `late`: the clock d + budget of R465 has come. -/
  | reorderRelease (n : Fin 16) (eg : Bool) (src : Fin 160) (late : Bool)
  /-- PROGRAM_STORE_WRITE (R116): agent `a` writes `v` to `r` of the ingress, or egress, direction of pipeline `n`. -/
  | programStoreWrite (a : Agent) (n : Fin 16) (eg : Bool) (r : ImageReg) (v : BitVec 64)
  /-- IMAGE_ARM (R117): agent `a` writes `v` to STE_IMG of pipeline `n`. -/
  | imageArm (a : Agent) (n : Fin 16) (v : BitVec 32)
  /-- IMAGE_SWITCH (R118): An armed image switch applies at its edge; SWITCHED is set and OLD_BUSY if needed. -/
  | imageSwitch (n : Fin 16) (eg : Bool)
  /-- OLD_SET_DRAINED (R118): The last needle running under the old set ends and OLD_BUSY clears. -/
  | oldSetDrained (n : Fin 16) (eg : Bool)
  /-- NOP (R127): Stitch NOP does nothing for one clock. -/
  | nop (e : Fin 64) (n : Fin 96)
  /-- MOVI (R127): Loads an immediate into a register. -/
  | movi (e : Fin 64) (n : Fin 96)
  /-- MOV (R127): Copies a register. -/
  | mov (e : Fin 64) (n : Fin 96)
  /-- ADD (R126): Adds two registers and sets flags. -/
  | add (e : Fin 64) (n : Fin 96)
  /-- ADDI (R126): Adds an immediate and sets flags. -/
  | addi (e : Fin 64) (n : Fin 96)
  /-- SUB (R126): Subtracts two registers and sets flags. -/
  | sub (e : Fin 64) (n : Fin 96)
  /-- SUBI (R126): Subtracts an immediate and sets flags. -/
  | subi (e : Fin 64) (n : Fin 96)
  /-- AND (R126): Bitwise AND of two registers. -/
  | and (e : Fin 64) (n : Fin 96)
  /-- ANDI (R126): Bitwise AND with an immediate. -/
  | andi (e : Fin 64) (n : Fin 96)
  /-- OR (R126): Bitwise OR of two registers. -/
  | or (e : Fin 64) (n : Fin 96)
  /-- ORI (R126): Bitwise OR with an immediate. -/
  | ori (e : Fin 64) (n : Fin 96)
  /-- XOR (R126): Bitwise XOR of two registers. -/
  | xor (e : Fin 64) (n : Fin 96)
  /-- XORI (R126): Bitwise XOR with an immediate. -/
  | xori (e : Fin 64) (n : Fin 96)
  /-- SHL (R126): Shifts a register left. -/
  | shl (e : Fin 64) (n : Fin 96)
  /-- SHR (R126): Shifts a register right logically. -/
  | shr (e : Fin 64) (n : Fin 96)
  /-- EXT (R126): Extracts a bit field right-aligned. -/
  | ext (e : Fin 64) (n : Fin 96)
  /-- DEP (R126): Deposits a bit field into a register. -/
  | dep (e : Fin 64) (n : Fin 96)
  /-- CMP (R126): Sets flags from the difference of two registers. -/
  | cmp (e : Fin 64) (n : Fin 96)
  /-- CMPI (R126): Sets flags from a register minus an immediate. -/
  | cmpi (e : Fin 64) (n : Fin 96)
  /-- TSTI (R126): Sets flags from a register AND an immediate. -/
  | tsti (e : Fin 64) (n : Fin 96)
  /-- HASH (R156): Computes CRC-32C over key bytes into a register. -/
  | hash (e : Fin 64) (n : Fin 96)
  /-- LDH (R122): Loads bytes from the header window, ending with WINDOW if out of range. -/
  | ldh (e : Fin 64) (n : Fin 96)
  /-- LDM (R123): Loads a metadata field. -/
  | ldm (e : Fin 64) (n : Fin 96)
  /-- STM (R123): Stores a metadata field; RO bytes end with ILLEGAL. -/
  | stm (e : Fin 64) (n : Fin 96)
  /-- KPUT (R123): Stores a register into the key buffer. -/
  | kput (e : Fin 64) (n : Fin 96)
  /-- KCPY (R122): Copies window bytes into the key buffer. -/
  | kcpy (e : Fin 64) (n : Fin 96)
  /-- KCLR (R127): Clears key-buffer bytes. -/
  | kclr (e : Fin 64) (n : Fin 96)
  /-- LKD (R130): Issues a direct-indexed table read into a slot. -/
  | lkd (e : Fin 64) (n : Fin 96)
  /-- LKH (R131): Issues a hash-table search into a slot. -/
  | lkh (e : Fin 64) (n : Fin 96)
  /-- LKT (R186): Issues a TCAM search under a profile into a slot. -/
  | lkt (e : Fin 64) (n : Fin 96)
  /-- LOOKUP_ANSWER (R134): the answer of lookup `k` arrives `lat` clocks after its issue; `err`: an uncorrectable
  error was read. -/
  | lookupAnswer (k : Nat) (err : Bool) (lat : Nat)
  /-- WAIT (R133): Waits for a slot's answer and sets flags from its status. -/
  | wait (e : Fin 64) (n : Fin 96)
  /-- LDR (R133): Reads a data word of a slot, waiting for an outstanding answer. -/
  | ldr (e : Fin 64) (n : Fin 96)
  /-- FWD (R136): Sets the forwarding target in metadata. -/
  | fwd (e : Fin 64) (n : Fin 96)
  /-- DROP (R136): Sets the drop reason in metadata. -/
  | drop (e : Fin 64) (n : Fin 96)
  /-- TOHOST (R136): Sets the host-copy reason in metadata. -/
  | tohost (e : Fin 64) (n : Fin 96)
  /-- MIRROR (R140): Adds a mirror session to metadata, or sets C when full. -/
  | mirror (e : Fin 64) (n : Fin 96)
  /-- POLICE (R138): Sets the policer index in metadata. -/
  | police (e : Fin 64) (n : Fin 96)
  /-- SETTC (R138): Sets the traffic class in metadata. -/
  | settc (e : Fin 64) (n : Fin 96)
  /-- COUNT (R139): Adds to a STATS packet and byte counter pair. -/
  | count (e : Fin 64) (n : Fin 96)
  /-- RESP (R141): Marks the packet for a message responder. -/
  | resp (e : Fin 64) (n : Fin 96)
  /-- LEARN (R142): Raises a BRIDGE learning event to the event queues. -/
  | learn (e : Fin 64) (n : Fin 96)
  /-- SLEARN (R142): Raises a SESSION learning event. -/
  | slearn (e : Fin 64) (n : Fin 96)
  /-- JMP (R125): Jumps to a target. -/
  | jmp (e : Fin 64) (n : Fin 96)
  /-- B_CC (R125): Branches if the condition holds. -/
  | bCc (e : Fin 64) (n : Fin 96)
  /-- CALL (R125): Saves the return PC and jumps. -/
  | call (e : Fin 64) (n : Fin 96)
  /-- RET (R125): Jumps to the PC held in a register. -/
  | ret (e : Fin 64) (n : Fin 96)
  /-- OUTER (R148): Ends the program in outer classification with reason FRAG or UNPARSED. -/
  | outer (e : Fin 64) (n : Fin 96)
  /-- END (R148): Ends the program and frees the needle. -/
  | endProg (e : Fin 64) (n : Fin 96)
  /-- STH (R143): Stores bytes into the egress window. -/
  | sth (e : Fin 64) (n : Fin 96)
  /-- EINS (R144): Inserts key bytes into the egress window. -/
  | eins (e : Fin 64) (n : Fin 96)
  /-- EDEL (R144): Deletes bytes from the egress window. -/
  | edel (e : Fin 64) (n : Fin 96)
  /-- ETPL (R145): Inserts a TUNNEL template into the window. -/
  | etpl (e : Fin 64) (n : Fin 96)
  /-- CSUM4 (R146): Recomputes an IPv4 header checksum in the window. -/
  | csum4 (e : Fin 64) (n : Fin 96)
  /-- TSMARK (R147): Sets one-step timestamp marks. -/
  | tsmark (e : Fin 64) (n : Fin 96)
  /-- TSTAG (R147): Sets a two-step timestamp tag. -/
  | tstag (e : Fin 64) (n : Fin 96)
  /-- ACTION_MERGE (R207): Action merge resolves a packet's decision into copies, target and meter. -/
  | actionMerge (n : Fin 16) (errs : BitVec 8)
  /-- RESPONDER_REPLY (R223): A queued responder request is answered with a reply frame or punted. -/
  | responderReply (n : Fin 16)
  /-- BFD_CTL_WRITE (R227): agent `a` writes `v` to ACT_BFD_CTL of session `x` of pipeline `n`. -/
  | bfdCtlWrite (a : Agent) (n : Fin 16) (x : Fin 256) (v : BitVec 64)
  /-- BFD_TX (R227): The transmit interval of a session ends and a BFD frame is sent. -/
  | bfdTx (n : Fin 16) (x : Fin 256)
  /-- BFD_DETECT_EXPIRE (R227): DET ticks pass with no restart and the session goes Down with a record. -/
  | bfdDetectExpire (n : Fin 16) (x : Fin 256)
  /-- LACP_TX (R228): port 8 n + `j`. -/
  | lacpTx (n : Fin 16) (j : Fin 8)
  /-- YARN_PARSE (R280): A frame received on a Yarn port is parsed and delivered, transited, replicated or dropped. -/
  | yarnParse (n : Fin 16)
  /-- RESEQ_ARRIVE (R284): A TYPE 0 copy reaches its resequencing context and is delivered, held or dropped late. -/
  | reseqArrive (d : Fin 2)
  /-- RESEQ_TIMEOUT (R287): context `x` of die `d`. -/
  | reseqTimeout (d : Fin 2) (x : Fin 131072)
  /-- RESEQ_CMD (R288): agent `a` writes `v` to YRN_RESEQ_CMD. -/
  | reseqCmd (a : Agent) (v : BitVec 32)
  /-- YRN_ID_WRITE (R279): agent `a` writes `v` to YRN_ID. -/
  | yrnIdWrite (a : Agent) (v : BitVec 32)
  /-- BPM_CLAIM (R237): one clock of the claims of die `d`. -/
  | bpmClaim (d : Fin 2)
  /-- XBAR_MATCH (R255): one clock of the crossbar of die `d`. -/
  | xbarMatch (d : Fin 2)
  /-- COPY_LINK (R232): copy `id`. -/
  | copyLink (id : Nat)
  /-- SPILL_MOVE (R244): of queue `q` of die `d`. -/
  | spillMove (d : Fin 2) (q : Fin 34048)
  /-- SPILL_MOVE_ACK (R294): of queue `q` of die `d`. -/
  | spillMoveAck (d : Fin 2) (q : Fin 34048)
  /-- SPILL_FETCH (R244): of queue `q` of die `d`. -/
  | spillFetch (d : Fin 2) (q : Fin 34048)
  /-- SPILL_FETCH_DONE (R244): the first batch of queue `q` returns: `corr`: its cells with a corrected word, one for each; `bad`: its uncorrectable
  cells, each with access and word. -/
  | spillFetchDone (d : Fin 2) (q : Fin 34048) (corr : List Nat) (bad : List (Nat × Fin 4 × Fin 8))
  /-- SPLICE (R244): of queue `q` of die `d`. -/
  | splice (d : Fin 2) (q : Fin 34048)
  /-- EGRESS_SELECT (R263): local port `lp` of die `d` selects. -/
  | egressSelect (d : Fin 2) (lp : Fin 75)
  /-- SCH_LEAF_WRITE (R266): agent `a` writes `v` to SCH_LEAF of leaf queue `q`. -/
  | schLeafWrite (a : Agent) (d : Fin 2) (q : Fin 32768) (v : BitVec 64)
  /-- SCH_GRP_WRITE (R266): agent `a` writes `v` to SCH_GRP of group `g`. -/
  | schGrpWrite (a : Agent) (d : Fin 2) (g : Fin 4096) (v : BitVec 32)
  /-- REPLICATION (R271): The replication engine takes a packet and writes one copy per local member port. -/
  | replication (d : Fin 2) (err grpErr : Bool)
  /-- LEARN_PLAN (R165): The learning engine handles the next queued event: plan, update, refuse or record. -/
  | learnPlan (d : Fin 2)
  /-- RETRY_REPLAN (R167): After an edge with a deletion, retry-list events are planned again. -/
  | retryReplan (d : Fin 2)
  /-- HW_WRITES_APPLY (R162): Flush, aging and learning writes apply within the hardware budget after commits. -/
  | hwWritesApply
  /-- TABLE_FLUSH_COMPLETE (R177): the oldest flush that has ended on every named die completes. -/
  | tableFlushComplete
  /-- HASH_SEED_WRITE (R181): agent `a` writes `v` to LKP_HASH_SEED[t][sub] of die `d`. -/
  | hashSeedWrite (a : Agent) (d : Fin 2) (t : Fin 3) (sub : Fin 2) (v : BitVec 32)
  /-- PANEL_SEARCH (R192): panel `q` starts its next search; `err`: parity or ACTION of the entry that matches fails. -/
  | panelSearch (q : Fin 48) (err : Bool)
  /-- TCAM_RETRY (R193): A search refused by a full queue is tried again in the next clock. -/
  | tcamRetry (k : Nat)
  /-- TCAM_FALLBACK (R193): A search refused for four retry clocks is issued under its fallback profile. -/
  | tcamFallback (k : Nat)
  /-- PANEL_CFG_WRITE (R194): agent `a` writes `v` to TCM_PANEL_CFG of panel `q`. -/
  | panelCfgWrite (a : Agent) (q : Fin 48) (v : BitVec 32)
  /-- TWIN_COPY_DONE (R195): the pair whose primary is panel `q`. -/
  | twinCopyDone (q : Fin 48)
  /-- TWIN_RELEASE_END (R195): the pair whose primary is panel `q`. -/
  | twinReleaseEnd (q : Fin 48)
  /-- SPEED_COMMAND (R297): agent `a` writes `v`, with GO 1, to HBC_SPD_CMD of stack `h`. -/
  | speedCommand (a : Agent) (h : Fin 4) (v : BitVec 32)
  /-- SPEED_POLICY_WINDOW (R300): of die `d`, in which its data buses were `u` percent used. -/
  | speedPolicyWindow (d : Fin 2) (u : Nat)
  /-- SPEED_STEP (R298): of stack `h`. -/
  | speedStep (h : Fin 4)
  /-- SPEED_STEP_TIMEOUT (R299): of stack `h`. -/
  | speedStepTimeout (h : Fin 4)
  /-- REFRESH (R302): of stack `h`; `waiting`: the banks, by pseudo-channel, at which an access waits. -/
  | refresh (h : Fin 4) (waiting : List (Fin 32 × Fin 256))
  /-- HBM_TEMP_READ (R302): of stack `h`: `t` degrees. -/
  | hbmTempRead (h : Fin 4) (t : BitVec 8)
  /-- CONFIG_REQUEST (R308): a configuration read of dword `dw` of function `f`, or a write of `v` under byte enables
  `be` when `wr`. -/
  | configRequest (f : Fin 64) (dw : Fin 1024) (wr : Bool) (be : BitVec 4) (v : BitVec 32)
  /-- PCIE_LINK_UP (R309): the link reaches DL_Active at speed code `speed` + 1 and width 2^`log2w`. -/
  | pcieLinkUp (speed : Fin 6) (log2w : Fin 5) (flit : Bool)
  /-- LINK_DOWN (R318): The link leaves DL_Active, by hot reset, link disable or loss, and host-facing state resets. -/
  | linkDown (cause : LinkDownCause)
  /-- PERST_N_ASSERT (R318): PERST_N is sampled low and host-facing state resets. -/
  | perstNAssert
  /-- FLR_START (R319): A write of Initiate Function Level Reset starts the FLR of a function. -/
  | flrStart (f : Fin 64)
  /-- FLR_COMPLETE (R319): the FLR of `f` ends; `limit`: 90 ms have passed and outstanding reads are ended. -/
  | flrComplete (f : Fin 64) (limit : Bool)
  /-- BUS_MASTER_CLEAR (R320): Clearing Bus Master Enable stops requests and disables the function's rings. -/
  | busMasterClear (f : Fin 64)
  /-- D3HOT_TRANSITION (R321): A function enters D3hot, or leaves it with a reset as by FLR. -/
  | d3hotTransition (f : Fin 64) (enter : Bool)
  /-- VF_ENABLE_WRITE (R307): Setting or clearing VF Enable makes VFs answer or resets them all. -/
  | vfEnableWrite (on : Bool)
  /-- READ_COMPLETION (R325): a completion for the read of `tag` with `data`; `last`: it is the read's last part. -/
  | readCompletion (tag : Fin 16384) (status : CplStatus) (last : Bool) (data : Bytes)
  /-- COMPLETION_TIMEOUT (R324): A read's completion has not arrived in time and the read fails. -/
  | completionTimeout (tag : Fin 16384)
  /-- TAG_HOLD_EXPIRE (R325): Twice the timeout passes and a timed-out read's tag is freed. -/
  | tagHoldExpire (tag : Fin 16384)
  /-- L1_ENTRY (R315): L1_IDLE of idleness passes and the device requests L1. -/
  | l1Entry
  /-- L0P_WINDOW (R317): an L0p window ends with utilisation `u` percent. -/
  | l0pWindow (u : Fin 101)
  /-- MSIX_SEND (R328): A pending vector with zero hold count and unmasked sends its MSI-X message. -/
  | msixSend (k : Fin 4096)
  /-- FUNC_RINGS_WRITE (R331): agent `a` writes `v` to PCX_FUNC_RINGS[f]. -/
  | funcRingsWrite (a : Agent) (f : Fin 64) (v : BitVec 64)
  /-- DOORBELL (R336): a write of `size` bytes at BAR2 offset `off` of function `f`. -/
  | doorbell (f : Fin 64) (off : Nat) (size : Nat) (v : BitVec 64)
  /-- DOORBELL_FETCH (R338): a doorbell with FETCH = 1 for local ring `r` of function `f`. -/
  | doorbellFetch (f : Fin 64) (cq : Bool) (r : Fin 4096)
  /-- INDEX_WRITE (R340): The device writes a ring's published index entry. -/
  | indexWrite (cq : Bool) (g : Fin 4096)
  /-- DESCRIPTOR_FETCH (R342): The fetch arbiter issues a descriptor read for an eligible submission ring. -/
  | descriptorFetch
  /-- TX_FRAME (R344): the next frame of PKT_TX ring `g`, whose buffers hold `data`; `rd`: how reading them ends. -/
  | txFrame (g : Fin 4096) (rd : ReadEnd) (data : Bytes)
  /-- RX_DELIVER (R346): A copy for port 130 is written into PKT_RX buffers with a completion, or dropped. -/
  | rxDeliver
  /-- RING_ENABLE (R353): agent `a` writes `v`, with EN = 1, to the configuration of ring `g`. -/
  | ringEnable (a : Agent) (cq : Bool) (g : Fin 4096) (v : BitVec 64)
  /-- RING_DISABLE (R354): agent `a` writes `v`, with EN = 0, to the configuration of ring `g`. -/
  | ringDisable (a : Agent) (cq : Bool) (g : Fin 4096) (v : BitVec 64)
  /-- RING_DISABLE_DONE (R354): Begun entries complete; the index entry is written and ENABLED clears. -/
  | ringDisableDone (g : Fin 4096)
  /-- PROGRAM_START (R357): context `c` of sequencer `q` starts the next program of the sequencer's rings. -/
  | programStart (q : Fin 8) (c : Fin 8)
  /-- CHART_NOP (R362): context `c` of sequencer `q` executes NOP, or meets an entry whose opcode does not exist. -/
  | chartNop (q : Fin 8) (c : Fin 8)
  /-- RBASE (R371): context `c` of sequencer `q` executes RBASE. -/
  | rbase (q : Fin 8) (c : Fin 8)
  /-- FENCE (R370): context `c` of sequencer `q` executes FENCE. -/
  | fence (q : Fin 8) (c : Fin 8)
  /-- WAIT_TICK (R362): context `c` of sequencer `q` executes WAIT.TICK. -/
  | waitTick (q : Fin 8) (c : Fin 8)
  /-- WAIT_AT (R369): context `c` of sequencer `q` executes WAIT.AT. -/
  | waitAt (q : Fin 8) (c : Fin 8)
  /-- CHART_WAIT_END (R369): the edge that context `c` of sequencer `q` awaits has come. -/
  | chartWaitEnd (q : Fin 8) (c : Fin 8)
  /-- COMMIT (R365): context `c` of sequencer `q` executes COMMIT. -/
  | commit (q : Fin 8) (c : Fin 8)
  /-- DISCARD (R364): context `c` of sequencer `q` executes DISCARD. -/
  | discard (q : Fin 8) (c : Fin 8)
  /-- DWR (R150): context `c` of sequencer `q` executes DWR; `rd`, `data`: how the read of its operand ended, and what
  it returned. -/
  | dwr (q : Fin 8) (c : Fin 8) (rd : ReadEnd) (data : Bytes)
  /-- DINV (R150): context `c` of sequencer `q` executes DINV. -/
  | dinv (q : Fin 8) (c : Fin 8)
  /-- DRD (R368): context `c` of sequencer `q` executes DRD; `bad`: the records whose entry is uncorrectable. -/
  | drd (q : Fin 8) (c : Fin 8) (bad : List Nat)
  /-- HINS (R367): context `c` of sequencer `q` executes HINS; `rd`, `data`: how the read of its operand ended, and
  what it returned. -/
  | hins (q : Fin 8) (c : Fin 8) (rd : ReadEnd) (data : Bytes)
  /-- HDEL (R367): context `c` of sequencer `q` executes HDEL; `rd`, `data`: how the read of its operand ended, and
  what it returned. -/
  | hdel (q : Fin 8) (c : Fin 8) (rd : ReadEnd) (data : Bytes)
  /-- HSRCH (R174): context `c` of sequencer `q` executes HSRCH; `bad`: the records whose key has an uncorrectable
  slot in its buckets. -/
  | hsrch (q : Fin 8) (c : Fin 8) (rd : ReadEnd) (data : Bytes) (bad : List Nat)
  /-- HNEXT (R175): context `c` of sequencer `q` executes HNEXT. -/
  | hnext (q : Fin 8) (c : Fin 8)
  /-- FLUSH (R372): context `c` of sequencer `q` executes FLUSH. -/
  | flush (q : Fin 8) (c : Fin 8)
  /-- TWR (R200): context `c` of sequencer `q` executes TWR; `rd`, `data`: how the read of its operand ended, and what
  it returned. -/
  | twr (q : Fin 8) (c : Fin 8) (rd : ReadEnd) (data : Bytes)
  /-- TINV (R199): context `c` of sequencer `q` executes TINV. -/
  | tinv (q : Fin 8) (c : Fin 8)
  /-- TVAL (R199): context `c` of sequencer `q` executes TVAL. -/
  | tval (q : Fin 8) (c : Fin 8)
  /-- TACT (R199): context `c` of sequencer `q` executes TACT; `rd`, `data`: how the read of its operand ended, and
  what it returned. -/
  | tact (q : Fin 8) (c : Fin 8) (rd : ReadEnd) (data : Bytes)
  /-- TRD (R368): context `c` of sequencer `q` executes TRD. -/
  | trd (q : Fin 8) (c : Fin 8)
  /-- PIVW (R199): context `c` of sequencer `q` executes PIVW; `rd`, `data`: how the read of its operand ended, and
  what it returned. -/
  | pivw (q : Fin 8) (c : Fin 8) (rd : ReadEnd) (data : Bytes)
  /-- PIVR (R368): context `c` of sequencer `q` executes PIVR. -/
  | pivr (q : Fin 8) (c : Fin 8)
  /-- REGR (R373): context `c` of sequencer `q` executes REGR. -/
  | regr (q : Fin 8) (c : Fin 8)
  /-- REGW (R373): context `c` of sequencer `q` executes REGW. -/
  | regw (q : Fin 8) (c : Fin 8)
  /-- REGM (R373): context `c` of sequencer `q` executes REGM. -/
  | regm (q : Fin 8) (c : Fin 8)
  /-- POLL (R373): context `c` of sequencer `q` executes POLL, or reads its register again. -/
  | poll (q : Fin 8) (c : Fin 8)
  /-- POLL_TIMEOUT (R362): the edges of a POLL of context `c` of sequencer `q` have passed. -/
  | pollTimeout (q : Fin 8) (c : Fin 8)
  /-- XMIT (R374): context `c` of sequencer `q` executes XMIT; `rd`, `data`: how the read of its operand ended, and
  what it returned. -/
  | xmit (q : Fin 8) (c : Fin 8) (rd : ReadEnd) (data : Bytes)
  /-- FAULT_DETECT (R377): block `k` detects source `src` in instance `inst` with the information word `info`, at the
  packet or memory `hit` of the instance; `lasting`: the condition stays present. -/
  | faultDetect (k : Fin 23) (src : Fin 32) (inst : Fin 65536) (info : BitVec 48) (hit : Nat) (lasting : Bool)
  /-- FAULT_REACTION (R381): At the first edge after a fault bit sets, its enabled reaction is taken. -/
  | faultReaction (k : Fin 23) (src : Fin 32) (inst : Fin 65536)
  /-- FAULT_INJECT (R390): agent `a` writes `v` to FLT_INJ of block `k`. -/
  | faultInject (a : Agent) (k : Fin 23) (v : BitVec 32)
  /-- JOURNAL_WRITE (R387): The journal writer writes a queued record to MRAM within its bucket, or drops it. -/
  | journalWrite
  /-- JOURNAL_ERASE (R389): agent `a` writes `v` to BOOT_JRN_CMD. -/
  | journalErase (a : Agent) (v : BitVec 32)
  /-- GAUGE_COUNTER_WRITE (R395): agent `a` writes `v` to GGE_CNT of counter `c`: 16 n + i of a pipeline, 256 + 32 d +
  i of a die. -/
  | gaugeCounterWrite (a : Agent) (c : Fin 320) (v : BitVec 64)
  /-- COLLECTION_DUE (R399): A collection falls due at an edge and runs in dump or freeze mode, or is skipped. -/
  | collectionDue
  /-- COLLECTION_REQUEST (R399): agent `a` writes `v` to GGE_COL_CMD. -/
  | collectionRequest (a : Agent) (v : BitVec 32)
  /-- COLLECTION_RANGE_WRITE (R398): agent `a` writes `v` to GGE_COL_RNG_A[r], or to GGE_COL_RNG_B[r] when `hi`. -/
  | collectionRangeWrite (a : Agent) (hi : Bool) (r : Fin 32) (v : BitVec 64)
  /-- COLLECTION_DONE (R402): The last value and the trailer are written; DONE is set and BUSY clears. -/
  | collectionDone
  /-- SAMPLE_DRAIN (R405): A sample record leaves the buffer as a TYPE 10 notify record. -/
  | sampleDrain (d : Fin 2)
  /-- START (R413): a start runs, going as `c` says. -/
  | start (c : CastOn)
  /-- POR_N_ASSERT (R421): POR_N is recognised low and the device goes to OFF. -/
  | porNAssert
  /-- WATCHDOG_EXPIRE (R414): The management watchdog reaches zero and a start of cause 1 begins. -/
  | watchdogExpire
  /-- CAST_ON_STEP_TIMEOUT (R414): A cast-on step exceeds its limit and the start ends as a watchdog expiry. -/
  | castOnStepTimeout
  /-- KICK (R414): agent `a` writes `v`, with KICK 1, to BOOT_CTL. -/
  | kick (a : Agent) (v : BitVec 32)
  /-- RESTART (R413): agent `a` writes `v`, with RESTART 1, to BOOT_CTL. -/
  | restart (a : Agent) (v : BitVec 32)
  /-- CONFIRM (R416): agent `a` writes `v`, with CONFIRM 1, to BOOT_CTL. -/
  | confirm (a : Agent) (v : BitVec 32)
  /-- START_SETTLED (R416): SETTLE × 1,024 ticks pass in modes 3–11 and the start is confirmed. -/
  | startSettled
  /-- SVN_COMMIT (R411): agent `a` writes `v`, with SVN_COMMIT 1, to BOOT_CTL. -/
  | svnCommit (a : Agent) (v : BitVec 32)
  /-- REVOKE0 (R411): agent `a` writes `v`, with REVOKE0 1, to BOOT_CTL. -/
  | revoke0 (a : Agent) (v : BitVec 32)
  /-- SLOT_WRITE (R412): agent `a` writes `v`, with GO 1, to BOOT_SLOT_CTL. -/
  | slotWrite (a : Agent) (v : BitVec 32)
  /-- SLOT_LINE_WRITTEN (R412): The slot line write completes and BUSY clears. -/
  | slotLineWritten
  /-- DOMAIN_RAMP_DONE (R423): domain `d` has been in RAMP for RAMP ticks; `good`: its rail is good. -/
  | domainRampDone (d : Fin 64) (good : Bool)
  /-- DOMAIN_FENCE_DONE (R423): domain `d` is empty in FENCE. -/
  | domainFenceDone (d : Fin 64)
  /-- DOMAIN_RET_WAKE (R423): domain `d` wakes from RET. -/
  | domainRetWake (d : Fin 64)
  /-- DOMAIN_RESTORE (R426): agent `a` writes `v`, with GO 1, to PWR_DOM_CMD. -/
  | domainRestore (a : Agent) (v : BitVec 32)
  /-- DRAIN_COMPLETE (R420): In DRAIN every queue and buffer is empty and READY completes. -/
  | drainComplete
  /-- DRAIN_TIMEOUT (R420): DRAIN_LIMIT ticks pass in DRAIN and every queue is flushed. -/
  | drainTimeout
  /-- HIBERNATE_ENTRY (R422): Once Chart contexts are idle and queues empty, HBM enters self-refresh and domains go
  down. -/
  | hibernateEntry
  /-- POWER_WINDOW (R428): a power window ends with an average of `pwr` watts. -/
  | powerWindow (pwr : Fin 1024)
  /-- RAIL_FAULT (R452): a supply leaves its range; `aon`: it is VDD_AON. -/
  | railFault (aon : Bool)
  /-- THERMAL_TRIP (R458): A sensor reads 115 °C in four readings; THERM_TRIP_N is driven and the device goes OFF. -/
  | thermalTrip
  /-- REFCLK_LOSS (R455): SYS_REFCLK shows no edge for 1 µs and the loss is handled as POR_N. -/
  | refclkLoss
  /-- KEY_LOAD (R437): agent `a` writes `v`, with LOAD 1, to MSC_SA_CTL of SA `i` = 64 octet + SA. -/
  | keyLoad (a : Agent) (i : Fin 1024) (v : BitVec 32)
  /-- SA_DISABLE (R439): agent `a` writes `v`, with EN and LOAD 0, to MSC_SA_CTL of SA `i` = 64 octet + SA. -/
  | saDisable (a : Agent) (i : Fin 1024) (v : BitVec 32)
  /-- CHALLENGE (R441): agent `a` writes `v`, with CHAL 1, to SEC_DBG_CTL. -/
  | challenge (a : Agent) (v : BitVec 32)
  /-- UNLOCK_GO (R441): agent `a` writes `v`, with GO 1, to SEC_DBG_CTL; `tapToo`: the TAP writes GO in the same
  clock. -/
  | unlockGo (a : Agent) (v : BitVec 32) (tapToo : Bool)
  /-- UNLOCK_VERIFY_DONE (R442): Verification ends; LEVEL is set at the next edge or a failure is counted. -/
  | unlockVerifyDone
  /-- LOCK (R443): agent `a` writes `v`, with LOCK 1, to SEC_DBG_CTL. -/
  | lock (a : Agent) (v : BitVec 32)
  /-- TAP_INSTRUCTION (R440): the TAP executes `i`. -/
  | tapInstruction (i : TapInstr)
  /-- SMBUS_REQUEST (R459): the request `q` arrives on the SMBus target. -/
  | smbusRequest (q : SmbusReq)
  /-- REGISTER_READ (R17): agent `a` reads by the request `q`. -/
  | registerRead (a : Agent) (q : BusReq)
  /-- LINK_FAULT_CHANGE (R70): the PCS alignment, FEC alignment, local and remote fault of port `p` are now as given. -/
  | linkFaultChange (p : Fin 130) (aligned fecOk lfault rfault : Bool)
  /-- LINK_TRAINING_DONE (R58): auto-negotiation and training of lane `l` complete (128, 129: the management lanes). -/
  | linkTrainingDone (l : Fin 130)
  /-- CDR_LOCK_REGAINED (R91): The selected SyncE lane regains CDR lock, LOS clears and the recovered clock output
  resumes. -/
  | cdrLockRegained (i : Fin 2)
  /-- L1_EXIT (R315): The link leaves L1 because the link partner leaves it. -/
  | l1Exit
  /-- L0P_PARTNER_REQUEST (R317): the partner requests width 4 · 2^`log2w`. -/
  | l0pPartnerRequest (log2w : Fin 3)
  /-- FAULT_CONDITION_CLEARED (R377): The condition of a fault source with a lasting state ends and its FLT_LIVE bit
  clears while FLT_STS stays set. -/
  | faultConditionCleared (k : Fin 23) (src : Fin 32) (inst : Fin 65536)
  /-- TAP_RESET (R440): The TAP is reset, through TRST_N or TMS, and EXTEST releases the balls to the device's logic. -/
  | tapReset
  deriving DecidableEq, Repr

end Sys2Proof
end

