-- ==== Sys2Proof/Decode.lean ====
section
/-! DEFINITION. The commands that a word spells: none, since no row of the opcode table gives bits. -/

namespace Sys2Proof

/-- The command spelled by `nbits` bits of value `w`. The opcode table gives its rows no bits, so no word spells one. -/
def decodeTableWord (_nbits _w : Nat) : Option Instr := none

end Sys2Proof
end

