-- ==== Sys2Proof/Config.lean ====
section
/-! DEFINITION. What an implementation fixes and the spec leaves open: values with no body, so that nothing can be proved
of them but what holds whatever they are. -/

namespace Sys2Proof.Config

/-- The n-th free value: a value that the spec leaves open (undefined after an instruction, random by the spec's own
words, or not stated). `State.fresh` counts how many have been drawn. DESIGN CHOICE, log entry 2. -/
opaque freeValue : Nat → BitVec 64

/-- The fused key hash KH0 or KH1, 48 bytes (R410). -/
opaque keyHash : Nat → Bytes

/-- The fused debug key hash KD, 48 bytes (R441). -/
opaque debugKeyHash : Bytes

/-- Line `n` of boot slot `s` as it stood when the part left manufacture, 64 bytes (R409). -/
opaque mramLine : Nat → Nat → Bytes

/-- The CASTON entries of an image section of KIND 3: key, data words and HW word (R119, R410). -/
opaque castonEntries : Bytes → List (Bytes × List Word × Word)

/-- The instruction words of an image section of KIND 1 or 2, by number, and its entry, source map and page registers by
number: entries 0 to 15, then the source map, then the pages (R119, R410). -/
opaque imageWords : Bytes → List (BitVec 64)
opaque imageRegs : Bytes → List (BitVec 64)

/-- The fused VDD_CORE target in mV at a junction temperature (R453). -/
opaque coreTarget : BitVec 8 → Nat

end Sys2Proof.Config
end

