-- ==== Sys2Proof/Machine/Bits.lean ====
section
/-! DEFINITION. Bit fields, byte strings, byte orders and CRC-32C: the helpers that the meanings share. -/

namespace Sys2Proof.Machine

/-- The `w` bits of `v` from bit `lsb` up. -/
def bitsOf (v lsb w : Nat) : Nat := v / 2 ^ lsb % 2 ^ w

/-- Bit `i` of `v`. -/
def bitOf (v i : Nat) : Bool := v / 2 ^ i % 2 == 1

/-- 1 for true. -/
def boolNat (b : Bool) : Nat := if b then 1 else 0

/-- `v` with the `w` bits from `lsb` replaced by the low bits of `x`. -/
def setBits (v lsb w x : Nat) : Nat := v - bitsOf v lsb w * 2 ^ lsb + x % 2 ^ w * 2 ^ lsb

/-- The field `[lsb, lsb + w)` of a 64-bit value. -/
def getField (v : BitVec 64) (lsb w : Nat) : Nat := (v.extractLsb' lsb w).toNat

/-- The bits a field of a 64-bit value covers. -/
def fieldMask (lsb w : Nat) : BitVec 64 := ((BitVec.allOnes w).setWidth 64) <<< lsb

/-- A 64-bit value with the field `[lsb, lsb + w)` set to the low bits of `x`. -/
def putField (v : BitVec 64) (lsb w x : Nat) : BitVec 64 :=
  (v &&& ~~~ fieldMask lsb w) ||| (((BitVec.ofNat w x).setWidth 64) <<< lsb)

/-- The `n` bytes of `v`, least significant first (R3). -/
def leBytes : Nat → Nat → Bytes
  | 0, _ => []
  | n + 1, v => BitVec.ofNat 8 v :: leBytes n (v / 256)

/-- The number whose bytes, least significant first, are given (R3). -/
def ofLe : Bytes → Nat
  | [] => 0
  | b :: bs => b.toNat + 256 * ofLe bs

/-- The `n` bytes of `v`, most significant first (R2). -/
def beBytes (n v : Nat) : Bytes := (leBytes n v).reverse

/-- The number whose bytes, most significant first, are given (R2). -/
def ofBe (bs : Bytes) : Nat := bs.foldl (fun a b => a * 256 + b.toNat) 0

/-- Bytes `off` to `off + n - 1` of a string, bytes beyond its end read as zero. -/
def sliceZ (bs : Bytes) (off n : Nat) : Bytes := (List.range n).map (fun i => bs.getD (off + i) 0)

/-- The big-endian number in bytes `off` to `off + n - 1`. -/
def beAt (bs : Bytes) (off n : Nat) : Nat := ofBe (sliceZ bs off n)

/-- The little-endian number in bytes `off` to `off + n - 1`. -/
def leAt (bs : Bytes) (off n : Nat) : Nat := ofLe (sliceZ bs off n)

/-- The string with `new` written over it from byte `off`; what would pass its end is lost. -/
def overwrite (bs : Bytes) (off : Nat) (new : Bytes) : Bytes :=
  bs.take off ++ (new.take (bs.length - off)) ++ bs.drop (off + new.length)

/-- The string brought to length `n`: cut, or filled with zero bytes. -/
def padTo (n : Nat) (bs : Bytes) : Bytes := bs.take n ++ List.replicate (n - bs.length) 0

/-- `v + x`, held at `top` (a saturating counter). -/
def satAdd (top v x : Nat) : Nat := min top (v + x)

/-- The signed reading of a `w`-bit number. -/
def signedOf (w v : Nat) : Int := if v % 2 ^ w < 2 ^ (w - 1) then (v % 2 ^ w : Nat) else (v % 2 ^ w : Nat) - (2 ^ w : Nat)

/-- The `w`-bit two's complement of an integer. -/
def unsignedOf (w : Nat) (v : Int) : Nat := (v % (2 ^ w : Nat)).toNat

/-- One bit of the CRC-32C register: shift right, and fold in the reflected polynomial 0x82F6_3B78. -/
def crcBit (c : BitVec 32) : BitVec 32 :=
  if c &&& 1 = 1 then (c >>> 1) ^^^ 0x82F63B78 else c >>> 1

/-- `n` bits of the CRC-32C register. -/
def crcBits : Nat → BitVec 32 → BitVec 32
  | 0, c => c
  | n + 1, c => crcBits n (crcBit c)

/-- The CRC-32C register after one byte (polynomial 0x1EDC_6F41, reflected). -/
def crcByte (c : BitVec 32) (b : Byte) : BitVec 32 := crcBits 8 (c ^^^ b.setWidth 32)

/-- CRC-32C of a byte string from an initial register, without final inversion. -/
def crcRaw (init : BitVec 32) (bs : Bytes) : BitVec 32 := bs.foldl crcByte init

/-- CRC-32C with initial value and final inversion of all ones (R388). -/
def crc32c (bs : Bytes) : BitVec 32 := ~~~ crcRaw 0xFFFFFFFF bs

/-- Sixteen-bit ones' complement sum of a byte string, carries folded in. -/
def onesSum : Bytes → Nat
  | [] => 0
  | [a] => a.toNat * 256
  | a :: b :: r =>
    let t := a.toNat * 256 + b.toNat + onesSum r
    t % 65536 + t / 65536

/-- The element of a list at `i` replaced by `f` of it. -/
def modifyAt {α : Type} (l : List α) (i : Nat) (f : α → α) : List α :=
  match l, i with
  | [], _ => []
  | x :: r, 0 => f x :: r
  | x :: r, n + 1 => x :: modifyAt r n f

/-- The list without its first element that passes `p`. -/
def removeFirst {α : Type} (p : α → Bool) : List α → List α
  | [] => []
  | x :: r => if p x then r else x :: removeFirst p r

/-- Bits of a number as a list of the positions that are 1, rising, among the first `n`. -/
def onesOf (n v : Nat) : List Nat := (List.range n).filter (bitOf v)

end Sys2Proof.Machine
end

