-- ==== Sys2Proof/Machine/Reg.lean ====
section
/-! DEFINITION. The names of the device's registers: one constructor per register (or register array) of the
register tables of spec/01 to spec/19, in the order of the BAR0 block map (spec/01_architecture.md, R36). -/

namespace Sys2Proof.Machine

/-- A register, or an array of uniform registers, under the name its chapter of spec/ gives it (R10, R36). -/
inductive Reg where
  | GLB_ID | GLB_UNITS | GLB_FWVER | GLB_SERIAL | GLB_MODE | GLB_MODE_REQ | GLB_MODE_STS | GLB_SPLIT
  | GLB_SPLIT_LOSS | GLB_SPLIT_EFF | GLB_HOSTLOSS | GLB_HEARTBEAT | GLB_FLT_SUM | GLB_FLT_PIN | FLT_STS
  | FLT_LIVE | FLT_EN_INT | FLT_EN_PIN | FLT_EN_NTF | FLT_EN_JRN | FLT_EN_ACT | FLT_INJ | FLT_FIRST
  | FLT_FIRST_INFO | FLT_INST | FLT_CNT | TIK_PERIOD | TIK_PERIOD_NEXT | TIK_PERIOD_AT | TIK_COUNT | TIK_CLK
  | TIK_SYNC | TIK_SYNC_DLY | TIK_SYNC_STS | TIK_COMMIT_CUTOFF | TIK_COMMIT_STS | TIK_COMMIT_DEFER
  | TIK_OVERRUN | TIK_OVR_STS | PWR_SEL | PWR_ECO_OFF | PWR_SEQ | PWR_CAP | PWR_CAP_STS | PWR_TEMP
  | PWR_DOM_CMD | PWR_DOM_STS | BOOT_STS | BOOT_CFG | BOOT_CTL | BOOT_SLOT_CTL | BOOT_SLOT_DATA
  | BOOT_JRN_CFG | BOOT_JRN_STS | BOOT_JRN_IDX | BOOT_JRN_CMD | BOOT_JRN_DATA | PCX_LINK_STS | PCX_LPM
  | PCX_LTR | PCX_STS | PCX_FLR_BUSY | PCX_FUNC_RINGS | PCX_ISRC | PCX_CNT | PCX_IMOD | DMA_SQ_BASE
  | DMA_SQ_CFG | DMA_SQ_IDX | DMA_SQ_STS | DMA_CQ_BASE | DMA_CQ_CFG | DMA_CQ_IDX | DMA_CQ_STS | DMA_CFG
  | DMA_RX_SEL | DMA_NTF_MAP | DMA_CNT | CHT_CFG | CHT_SEQ_STS | CHT_ERR | CHT_CNT | TIM_TOD_SEC
  | TIM_TOD_NS | TIM_INCR | TIM_ADJ | TIM_SET_SEC | TIM_SET_NS | TIM_SYNCE | TIM_SYNCE_STS | TIM_PORT_DLY
  | CAGE_CMB_CFG | CAGE_CMB_CFG2 | CAGE_CMB_STS | CAGE_I2C_CTL | CAGE_I2C_STS | CAGE_I2C_DATA
  | MAC_MGT_PARSE | SEC_DBG_CTL | SEC_DBG_STS | SEC_CHAL | SEC_RESP | STE_BUDGET | STE_DISP_CFG | STE_IMG
  | STE_IMG_AT | STE_IMG_STS | STE_OUTER_CFG | STE_OUTER_ACT | STE_FIX_CFG | STE_ENTRY | STE_SRC_MAP
  | STE_PAGES | STE_CNT | STE_ENG_STS | STE_STORE | STE_STORE_RD | RCM_CMP | ACT_CFG | ACT_RSP_CFG
  | ACT_RSP_REASON | ACT_RSP_RATE | ACT_HOSTPOL | ACT_CNT | ACT_LAG | ACT_LAG_MEM | ACT_PORT_MAC
  | ACT_LACP_CTL | ACT_LACP_PDU | ACT_BFD_CTL | ACT_BFD_FMT | ACT_BFD_STS | ACT_BFD_TPL | GGE_CTL | GGE_CNT
  | GGE_OVF | GGE_SMP_CFG | GGE_SBUF_STS | GGE_COL_CFG | GGE_COL_CMD | GGE_COL_STS | GGE_FRZ | GGE_COL_ADDR
  | GGE_COL_SIZE | GGE_COL_RNG_A | GGE_COL_RNG_B | SDS_LANE_CFG | SDS_LANE_TXEQ | SDS_LANE_STS
  | MAC_PORT_CFG | MAC_PORT_LINK | MAC_PORT_STS | MAC_PORT_CMD | MAC_CNT | CAGE_CAP | CAGE_CTL | CAGE_STS
  | MSC_SECY_CFG | MSC_SECY_WIN | MSC_SECY_SCI | MSC_SECY_CNT | MSC_SA_CTL | MSC_SA_SCI | MSC_SA_PN
  | MSC_SA_SSCI | MSC_SA_STS | MSC_KEY | MSC_SALT | TCM_SCRUB_CFG | TCM_SCRUB_STS | TCM_ERR_SLOT | TCM_CNT
  | TCM_PANEL_CFG | TCM_PANEL_STS | TCM_PROF_CFG | TCM_PROF_PMASK | TCM_PROF_RCMASK | TCM_PROF_GMASK
  | LKP_CASTON_REDIR | LKP_HASH_SEED | LKP_HASH_CFG | LKP_HW_CFG | LKP_LEARN_CFG | LKP_SESS_CFG
  | LKP_AGE_CFG | LKP_TBL_STS | LKP_SID_STS | LKP_EVQ_STS | LKP_CNT | BPM_POOL_CFG | BPM_POOL_STS | BPM_SYS
  | BPM_QPROF | BPM_PGPROF | BPM_PORT | BPM_PG_STS | BPM_CNT | SKN_CELL_FREE | SKN_SPILL_CFG | SKN_SPILL_STS
  | SKN_SPILL_PROF_A | SKN_SPILL_PROF_B | SKN_CNT | SKN_CTX_STS | SKN_CTX_CNT | SKN_Q | SCH_XBAR_CFG
  | SCH_CFG | SCH_MC_CFG | SCH_MC_STS | SCH_BURST | SCH_PROBE | SCH_PROBE_TOK | SCH_CNT | SCH_PORT
  | SCH_PORT_PFC | SCH_PORT_CW | SCH_PORT_QW | SCH_PORT_MQW | SCH_PORT_STS | SCH_PORT_SHP | SCH_PORT_TOK
  | SCH_Q_SHP | SCH_Q_TOK | SCH_GRP | SCH_GRP_STS | SCH_GRP_SHP | SCH_GRP_TOK | SCH_LEAF | YRN_ID | YRN_CFG
  | YRN_MC | YRN_RESEQ_CFG | YRN_RESEQ_CMD | YRN_RSQ_STS | YRN_CNT | YRN_SET | YRN_ROUTE | YRN_CTX | HBC_STS
  | HBC_SPD_CMD | HBC_SPD_CFG | HBC_SPD_CFG2 | HBC_SET_VALID | HBC_GEOM | HBC_REF_CFG | HBC_TEMP
  | HBC_ECC_LOG | HBC_TIM | HBC_CNT | HBC_DLY
  deriving DecidableEq, Repr

/-- The agents that may appear in a register's Access domain (R10, Table 0-5); `own` is the function that owns the
ring or vector a register belongs to. -/
inductive Dom where
  | pf0 | pf1 | vf | own | mc | cs | jt | ts
  deriving DecidableEq, Repr

/-- Where the supply of a register lies (R16): always on, a fixed power domain, or a domain that the index of the
register's instance picks. `per n` carries how many registers of the array one unit holds. -/
inductive Power where
  /-- The always-on domain: never off. -/
  | aon
  /-- Power domain `d` for every instance. -/
  | pd (d : Nat)
  /-- Pipeline `idx / n`, whose domain has the pipeline's number. -/
  | pipe (n : Nat)
  /-- Lane octet `idx / n`. -/
  | oct (n : Nat)
  /-- Lane or port `idx / n`, in octet `(idx / n) / 8`; lanes from 128 on are the management ports, always on. -/
  | lane (n : Nat)
  /-- Domain `base + step * (idx / n)`: the copies of one block on the dies or stacks. -/
  | die (base step n : Nat)
  /-- TCAM panel `idx / 6` of the panel-group domains from 36. -/
  | panel
  /-- Registers of a die's TCAM block, off only with all four panel groups of that die. -/
  | tcm (n : Nat)
  /-- The profile registers, held once and reached through the TCAM block of C0. -/
  | tcmC0
  /-- Held once and reached while either of two domains is on. -/
  | either (a b : Nat)
  /-- A Gauge counter bank: sixteen pipelines' counters, then the two global banks. -/
  | gauge (n : Nat)
  deriving DecidableEq, Repr

/-- An address window of a register: the byte address of its first instance, the counts and strides of its array
dimensions from the outermost in, and the index of the window's first instance. -/
structure Window where
  base : Nat
  dims : List (Nat × Nat)
  off  : Nat
  deriving DecidableEq, Repr

/-- A bit field of a register: the register, its lowest bit and its width. -/
structure Fld where
  reg   : Reg
  lsb   : Nat
  width : Nat
  deriving DecidableEq, Repr


/-- Registers 0 and on, in the order of the constructors. -/
def Reg.all0 : List Reg :=
  [.GLB_ID, .GLB_UNITS, .GLB_FWVER, .GLB_SERIAL, .GLB_MODE, .GLB_MODE_REQ, .GLB_MODE_STS, .GLB_SPLIT,
   .GLB_SPLIT_LOSS, .GLB_SPLIT_EFF, .GLB_HOSTLOSS, .GLB_HEARTBEAT, .GLB_FLT_SUM, .GLB_FLT_PIN, .FLT_STS,
   .FLT_LIVE, .FLT_EN_INT, .FLT_EN_PIN, .FLT_EN_NTF, .FLT_EN_JRN, .FLT_EN_ACT, .FLT_INJ, .FLT_FIRST,
   .FLT_FIRST_INFO, .FLT_INST, .FLT_CNT, .TIK_PERIOD, .TIK_PERIOD_NEXT, .TIK_PERIOD_AT, .TIK_COUNT,
   .TIK_CLK, .TIK_SYNC, .TIK_SYNC_DLY, .TIK_SYNC_STS, .TIK_COMMIT_CUTOFF, .TIK_COMMIT_STS,
   .TIK_COMMIT_DEFER, .TIK_OVERRUN, .TIK_OVR_STS, .PWR_SEL, .PWR_ECO_OFF, .PWR_SEQ, .PWR_CAP, .PWR_CAP_STS,
   .PWR_TEMP, .PWR_DOM_CMD, .PWR_DOM_STS, .BOOT_STS, .BOOT_CFG, .BOOT_CTL, .BOOT_SLOT_CTL, .BOOT_SLOT_DATA,
   .BOOT_JRN_CFG, .BOOT_JRN_STS, .BOOT_JRN_IDX, .BOOT_JRN_CMD, .BOOT_JRN_DATA, .PCX_LINK_STS, .PCX_LPM,
   .PCX_LTR]

/-- Registers 60 and on, in the order of the constructors. -/
def Reg.all1 : List Reg :=
  [.PCX_STS, .PCX_FLR_BUSY, .PCX_FUNC_RINGS, .PCX_ISRC, .PCX_CNT, .PCX_IMOD, .DMA_SQ_BASE, .DMA_SQ_CFG,
   .DMA_SQ_IDX, .DMA_SQ_STS, .DMA_CQ_BASE, .DMA_CQ_CFG, .DMA_CQ_IDX, .DMA_CQ_STS, .DMA_CFG, .DMA_RX_SEL,
   .DMA_NTF_MAP, .DMA_CNT, .CHT_CFG, .CHT_SEQ_STS, .CHT_ERR, .CHT_CNT, .TIM_TOD_SEC, .TIM_TOD_NS,
   .TIM_INCR, .TIM_ADJ, .TIM_SET_SEC, .TIM_SET_NS, .TIM_SYNCE, .TIM_SYNCE_STS, .TIM_PORT_DLY,
   .CAGE_CMB_CFG, .CAGE_CMB_CFG2, .CAGE_CMB_STS, .CAGE_I2C_CTL, .CAGE_I2C_STS, .CAGE_I2C_DATA,
   .MAC_MGT_PARSE, .SEC_DBG_CTL, .SEC_DBG_STS, .SEC_CHAL, .SEC_RESP, .STE_BUDGET, .STE_DISP_CFG, .STE_IMG,
   .STE_IMG_AT, .STE_IMG_STS, .STE_OUTER_CFG, .STE_OUTER_ACT, .STE_FIX_CFG, .STE_ENTRY, .STE_SRC_MAP,
   .STE_PAGES, .STE_CNT, .STE_ENG_STS, .STE_STORE, .STE_STORE_RD, .RCM_CMP, .ACT_CFG, .ACT_RSP_CFG]

/-- Registers 120 and on, in the order of the constructors. -/
def Reg.all2 : List Reg :=
  [.ACT_RSP_REASON, .ACT_RSP_RATE, .ACT_HOSTPOL, .ACT_CNT, .ACT_LAG, .ACT_LAG_MEM, .ACT_PORT_MAC,
   .ACT_LACP_CTL, .ACT_LACP_PDU, .ACT_BFD_CTL, .ACT_BFD_FMT, .ACT_BFD_STS, .ACT_BFD_TPL, .GGE_CTL,
   .GGE_CNT, .GGE_OVF, .GGE_SMP_CFG, .GGE_SBUF_STS, .GGE_COL_CFG, .GGE_COL_CMD, .GGE_COL_STS, .GGE_FRZ,
   .GGE_COL_ADDR, .GGE_COL_SIZE, .GGE_COL_RNG_A, .GGE_COL_RNG_B, .SDS_LANE_CFG, .SDS_LANE_TXEQ,
   .SDS_LANE_STS, .MAC_PORT_CFG, .MAC_PORT_LINK, .MAC_PORT_STS, .MAC_PORT_CMD, .MAC_CNT, .CAGE_CAP,
   .CAGE_CTL, .CAGE_STS, .MSC_SECY_CFG, .MSC_SECY_WIN, .MSC_SECY_SCI, .MSC_SECY_CNT, .MSC_SA_CTL,
   .MSC_SA_SCI, .MSC_SA_PN, .MSC_SA_SSCI, .MSC_SA_STS, .MSC_KEY, .MSC_SALT, .TCM_SCRUB_CFG, .TCM_SCRUB_STS,
   .TCM_ERR_SLOT, .TCM_CNT, .TCM_PANEL_CFG, .TCM_PANEL_STS, .TCM_PROF_CFG, .TCM_PROF_PMASK,
   .TCM_PROF_RCMASK, .TCM_PROF_GMASK, .LKP_CASTON_REDIR, .LKP_HASH_SEED]

/-- Registers 180 and on, in the order of the constructors. -/
def Reg.all3 : List Reg :=
  [.LKP_HASH_CFG, .LKP_HW_CFG, .LKP_LEARN_CFG, .LKP_SESS_CFG, .LKP_AGE_CFG, .LKP_TBL_STS, .LKP_SID_STS,
   .LKP_EVQ_STS, .LKP_CNT, .BPM_POOL_CFG, .BPM_POOL_STS, .BPM_SYS, .BPM_QPROF, .BPM_PGPROF, .BPM_PORT,
   .BPM_PG_STS, .BPM_CNT, .SKN_CELL_FREE, .SKN_SPILL_CFG, .SKN_SPILL_STS, .SKN_SPILL_PROF_A,
   .SKN_SPILL_PROF_B, .SKN_CNT, .SKN_CTX_STS, .SKN_CTX_CNT, .SKN_Q, .SCH_XBAR_CFG, .SCH_CFG, .SCH_MC_CFG,
   .SCH_MC_STS, .SCH_BURST, .SCH_PROBE, .SCH_PROBE_TOK, .SCH_CNT, .SCH_PORT, .SCH_PORT_PFC, .SCH_PORT_CW,
   .SCH_PORT_QW, .SCH_PORT_MQW, .SCH_PORT_STS, .SCH_PORT_SHP, .SCH_PORT_TOK, .SCH_Q_SHP, .SCH_Q_TOK,
   .SCH_GRP, .SCH_GRP_STS, .SCH_GRP_SHP, .SCH_GRP_TOK, .SCH_LEAF, .YRN_ID, .YRN_CFG, .YRN_MC,
   .YRN_RESEQ_CFG, .YRN_RESEQ_CMD, .YRN_RSQ_STS, .YRN_CNT, .YRN_SET, .YRN_ROUTE, .YRN_CTX, .HBC_STS]

/-- Registers 240 and on, in the order of the constructors. -/
def Reg.all4 : List Reg :=
  [.HBC_SPD_CMD, .HBC_SPD_CFG, .HBC_SPD_CFG2, .HBC_SET_VALID, .HBC_GEOM, .HBC_REF_CFG, .HBC_TEMP,
   .HBC_ECC_LOG, .HBC_TIM, .HBC_CNT, .HBC_DLY]

/-- Every register, in the order of its constructors. -/
def Reg.all : List Reg := Reg.all0 ++ Reg.all1 ++ Reg.all2 ++ Reg.all3 ++ Reg.all4

/-- The place of a register in `Reg.all`. -/
def Reg.code (r : Reg) : Nat := r.ctorIdx

theorem Reg.code_inj {a b : Reg} (h : a.code = b.code) : a = b := by
  have ha := Reg.ofNat_ctorIdx a
  have hb := Reg.ofNat_ctorIdx b
  unfold Reg.code at h
  rw [h] at ha
  exact ha.symm.trans hb

end Sys2Proof.Machine
end

