-- ==== Sys2Proof/Machine/Fields.lean ====
section
/-! DEFINITION. The bit fields of the registers, as the field tables of spec/01 to spec/19 give them:
`F.<register>_<field>` (register, lowest bit, width). -/

namespace Sys2Proof.Machine

abbrev F.GLB_ID_VENDOR : Fld := ⟨.GLB_ID, 0, 16⟩
abbrev F.GLB_ID_DEVICE : Fld := ⟨.GLB_ID, 16, 16⟩
abbrev F.GLB_ID_STEPPING : Fld := ⟨.GLB_ID, 32, 8⟩
abbrev F.GLB_ID_FUSE_REV : Fld := ⟨.GLB_ID, 40, 8⟩
abbrev F.GLB_UNITS_PL_PRESENT : Fld := ⟨.GLB_UNITS, 0, 16⟩
abbrev F.GLB_UNITS_HBM_PRESENT : Fld := ⟨.GLB_UNITS, 16, 4⟩
abbrev F.GLB_FWVER_PATCH : Fld := ⟨.GLB_FWVER, 0, 8⟩
abbrev F.GLB_FWVER_MINOR : Fld := ⟨.GLB_FWVER, 8, 8⟩
abbrev F.GLB_FWVER_MAJOR : Fld := ⟨.GLB_FWVER, 16, 8⟩
abbrev F.GLB_FWVER_SLOT : Fld := ⟨.GLB_FWVER, 24, 1⟩
abbrev F.GLB_SERIAL_SERIAL : Fld := ⟨.GLB_SERIAL, 0, 64⟩
abbrev F.GLB_MODE_CUR : Fld := ⟨.GLB_MODE, 0, 4⟩
abbrev F.GLB_MODE_PREV : Fld := ⟨.GLB_MODE, 4, 4⟩
abbrev F.GLB_MODE_TARGET : Fld := ⟨.GLB_MODE, 8, 4⟩
abbrev F.GLB_MODE_BUSY : Fld := ⟨.GLB_MODE, 12, 1⟩
abbrev F.GLB_MODE_REASON : Fld := ⟨.GLB_MODE, 16, 8⟩
abbrev F.GLB_MODE_SEQ : Fld := ⟨.GLB_MODE, 24, 8⟩
abbrev F.GLB_MODE_REQ_MODE : Fld := ⟨.GLB_MODE_REQ, 0, 4⟩
abbrev F.GLB_MODE_REQ_TAG : Fld := ⟨.GLB_MODE_REQ, 8, 8⟩
abbrev F.GLB_MODE_REQ_GO : Fld := ⟨.GLB_MODE_REQ, 31, 1⟩
abbrev F.GLB_MODE_STS_DONE : Fld := ⟨.GLB_MODE_STS, 0, 1⟩
abbrev F.GLB_MODE_STS_REJECT : Fld := ⟨.GLB_MODE_STS, 1, 1⟩
abbrev F.GLB_MODE_STS_AUTO : Fld := ⟨.GLB_MODE_STS, 2, 1⟩
abbrev F.GLB_MODE_STS_REJ_CAUSE : Fld := ⟨.GLB_MODE_STS, 8, 3⟩
abbrev F.GLB_MODE_STS_TAG : Fld := ⟨.GLB_MODE_STS, 16, 8⟩
abbrev F.GLB_SPLIT_LEARN : Fld := ⟨.GLB_SPLIT, 0, 1⟩
abbrev F.GLB_SPLIT_AGE : Fld := ⟨.GLB_SPLIT, 1, 1⟩
abbrev F.GLB_SPLIT_ARPND : Fld := ⟨.GLB_SPLIT, 2, 1⟩
abbrev F.GLB_SPLIT_ICMP : Fld := ⟨.GLB_SPLIT, 3, 1⟩
abbrev F.GLB_SPLIT_BFD : Fld := ⟨.GLB_SPLIT, 4, 1⟩
abbrev F.GLB_SPLIT_LACP : Fld := ⟨.GLB_SPLIT, 5, 1⟩
abbrev F.GLB_SPLIT_SESSION : Fld := ⟨.GLB_SPLIT, 6, 1⟩
abbrev F.GLB_SPLIT_CAGEBTN : Fld := ⟨.GLB_SPLIT, 7, 1⟩
abbrev F.GLB_SPLIT_LINKFLUSH : Fld := ⟨.GLB_SPLIT, 8, 1⟩
abbrev F.GLB_SPLIT_HBMSPEED : Fld := ⟨.GLB_SPLIT, 9, 1⟩
abbrev F.GLB_SPLIT_RESEQ : Fld := ⟨.GLB_SPLIT, 10, 1⟩
abbrev F.GLB_SPLIT_FAULTACT : Fld := ⟨.GLB_SPLIT, 11, 1⟩
abbrev F.GLB_SPLIT_COUNTERS : Fld := ⟨.GLB_SPLIT, 12, 1⟩
abbrev F.GLB_HOSTLOSS_HB_LIMIT : Fld := ⟨.GLB_HOSTLOSS, 0, 24⟩
abbrev F.GLB_HOSTLOSS_LOST : Fld := ⟨.GLB_HOSTLOSS, 24, 1⟩
abbrev F.GLB_HOSTLOSS_LIVE : Fld := ⟨.GLB_HOSTLOSS, 25, 1⟩
abbrev F.GLB_HOSTLOSS_CAUSE : Fld := ⟨.GLB_HOSTLOSS, 26, 2⟩
abbrev F.GLB_HEARTBEAT_BEAT : Fld := ⟨.GLB_HEARTBEAT, 0, 32⟩
abbrev F.TIK_PERIOD_CLOCKS : Fld := ⟨.TIK_PERIOD, 0, 13⟩
abbrev F.TIK_PERIOD_NEXT_CLOCKS : Fld := ⟨.TIK_PERIOD_NEXT, 0, 13⟩
abbrev F.TIK_PERIOD_NEXT_ARM : Fld := ⟨.TIK_PERIOD_NEXT, 13, 1⟩
abbrev F.TIK_PERIOD_NEXT_IMM : Fld := ⟨.TIK_PERIOD_NEXT, 14, 1⟩
abbrev F.TIK_PERIOD_AT_AT : Fld := ⟨.TIK_PERIOD_AT, 0, 32⟩
abbrev F.TIK_COUNT_COUNT : Fld := ⟨.TIK_COUNT, 0, 64⟩
abbrev F.TIK_CLK_CLK : Fld := ⟨.TIK_CLK, 0, 13⟩
abbrev F.TIK_SYNC_ROLE : Fld := ⟨.TIK_SYNC, 0, 2⟩
abbrev F.TIK_SYNC_SLEW : Fld := ⟨.TIK_SYNC, 4, 4⟩
abbrev F.TIK_SYNC_LOCK_WIN : Fld := ⟨.TIK_SYNC, 8, 8⟩
abbrev F.TIK_SYNC_STEP_LIMIT : Fld := ⟨.TIK_SYNC, 16, 8⟩
abbrev F.TIK_SYNC_OUT_EN : Fld := ⟨.TIK_SYNC, 27, 1⟩
abbrev F.TIK_SYNC_DLY_DLY : Fld := ⟨.TIK_SYNC_DLY, 0, 16⟩
abbrev F.TIK_SYNC_STS_ERR : Fld := ⟨.TIK_SYNC_STS, 0, 16⟩
abbrev F.TIK_SYNC_STS_LOCKED : Fld := ⟨.TIK_SYNC_STS, 16, 1⟩
abbrev F.TIK_SYNC_STS_HOLDOVER : Fld := ⟨.TIK_SYNC_STS, 17, 1⟩
abbrev F.TIK_SYNC_STS_LOCK_LOST : Fld := ⟨.TIK_SYNC_STS, 18, 1⟩
abbrev F.TIK_SYNC_STS_STEPPED : Fld := ⟨.TIK_SYNC_STS, 19, 1⟩
abbrev F.TIK_SYNC_STS_COUNT_FIX : Fld := ⟨.TIK_SYNC_STS, 20, 1⟩
abbrev F.TIK_SYNC_STS_BADPER : Fld := ⟨.TIK_SYNC_STS, 21, 1⟩
abbrev F.TIK_SYNC_STS_PEER : Fld := ⟨.TIK_SYNC_STS, 22, 1⟩
abbrev F.TIK_COMMIT_CUTOFF_CLOCKS : Fld := ⟨.TIK_COMMIT_CUTOFF, 0, 8⟩
abbrev F.TIK_COMMIT_STS_LAST_C0 : Fld := ⟨.TIK_COMMIT_STS, 0, 13⟩
abbrev F.TIK_COMMIT_STS_LAST_C1 : Fld := ⟨.TIK_COMMIT_STS, 16, 13⟩
abbrev F.TIK_COMMIT_DEFER_COUNT : Fld := ⟨.TIK_COMMIT_DEFER, 0, 16⟩
abbrev F.TIK_OVERRUN_COUNT : Fld := ⟨.TIK_OVERRUN, 0, 16⟩
abbrev F.TIK_OVR_STS_ITEM : Fld := ⟨.TIK_OVR_STS, 0, 9⟩
abbrev F.SDS_LANE_CFG_TX_INV : Fld := ⟨.SDS_LANE_CFG, 0, 1⟩
abbrev F.SDS_LANE_CFG_RX_INV : Fld := ⟨.SDS_LANE_CFG, 1, 1⟩
abbrev F.SDS_LANE_CFG_LOOP : Fld := ⟨.SDS_LANE_CFG, 2, 2⟩
abbrev F.SDS_LANE_CFG_PRBS : Fld := ⟨.SDS_LANE_CFG, 4, 3⟩
abbrev F.SDS_LANE_CFG_LT_EN : Fld := ⟨.SDS_LANE_CFG, 7, 1⟩
abbrev F.SDS_LANE_TXEQ_PRE : Fld := ⟨.SDS_LANE_TXEQ, 0, 6⟩
abbrev F.SDS_LANE_TXEQ_MAIN : Fld := ⟨.SDS_LANE_TXEQ, 8, 6⟩
abbrev F.SDS_LANE_TXEQ_POST : Fld := ⟨.SDS_LANE_TXEQ, 16, 6⟩
abbrev F.SDS_LANE_STS_RATE : Fld := ⟨.SDS_LANE_STS, 0, 3⟩
abbrev F.SDS_LANE_STS_SIG : Fld := ⟨.SDS_LANE_STS, 3, 1⟩
abbrev F.SDS_LANE_STS_CDR_LOCK : Fld := ⟨.SDS_LANE_STS, 4, 1⟩
abbrev F.SDS_LANE_STS_LT_DONE : Fld := ⟨.SDS_LANE_STS, 5, 1⟩
abbrev F.SDS_LANE_STS_PRBS_ERR : Fld := ⟨.SDS_LANE_STS, 16, 16⟩
abbrev F.MAC_PORT_CFG_EN : Fld := ⟨.MAC_PORT_CFG, 0, 1⟩
abbrev F.MAC_PORT_CFG_WIDTH : Fld := ⟨.MAC_PORT_CFG, 1, 2⟩
abbrev F.MAC_PORT_CFG_SPEED : Fld := ⟨.MAC_PORT_CFG, 3, 3⟩
abbrev F.MAC_PORT_CFG_FEC : Fld := ⟨.MAC_PORT_CFG, 6, 2⟩
abbrev F.MAC_PORT_CFG_CT_EN : Fld := ⟨.MAC_PORT_CFG, 8, 1⟩
abbrev F.MAC_PORT_CFG_FC : Fld := ⟨.MAC_PORT_CFG, 9, 2⟩
abbrev F.MAC_PORT_CFG_YARN : Fld := ⟨.MAC_PORT_CFG, 11, 1⟩
abbrev F.MAC_PORT_CFG_MAXLEN : Fld := ⟨.MAC_PORT_CFG, 16, 14⟩
abbrev F.MAC_PORT_LINK_PRT_HOLDDOWN : Fld := ⟨.MAC_PORT_LINK, 0, 20⟩
abbrev F.MAC_PORT_LINK_DOWN_DEB : Fld := ⟨.MAC_PORT_LINK, 20, 4⟩
abbrev F.MAC_PORT_LINK_UP_DEB : Fld := ⟨.MAC_PORT_LINK, 24, 4⟩
abbrev F.MAC_PORT_STS_STATE : Fld := ⟨.MAC_PORT_STS, 0, 3⟩
abbrev F.MAC_PORT_STS_LINK_OK : Fld := ⟨.MAC_PORT_STS, 3, 1⟩
abbrev F.MAC_PORT_STS_LFAULT : Fld := ⟨.MAC_PORT_STS, 4, 1⟩
abbrev F.MAC_PORT_STS_RFAULT : Fld := ⟨.MAC_PORT_STS, 5, 1⟩
abbrev F.MAC_PORT_STS_CFG_ERR : Fld := ⟨.MAC_PORT_STS, 6, 1⟩
abbrev F.MAC_PORT_STS_LINK_DOWN : Fld := ⟨.MAC_PORT_STS, 7, 1⟩
abbrev F.MAC_PORT_STS_HOLD_LEFT : Fld := ⟨.MAC_PORT_STS, 12, 20⟩
abbrev F.MAC_PORT_CMD_BINDOFF : Fld := ⟨.MAC_PORT_CMD, 0, 1⟩
abbrev F.CAGE_CAP_ABP_PRES : Fld := ⟨.CAGE_CAP, 0, 1⟩
abbrev F.CAGE_CAP_PWR_PRES : Fld := ⟨.CAGE_CAP, 1, 1⟩
abbrev F.CAGE_CAP_AIND_PRES : Fld := ⟨.CAGE_CAP, 2, 1⟩
abbrev F.CAGE_CAP_PIND_PRES : Fld := ⟨.CAGE_CAP, 3, 1⟩
abbrev F.CAGE_CAP_LANES : Fld := ⟨.CAGE_CAP, 8, 8⟩
abbrev F.CAGE_CTL_ABP_EN : Fld := ⟨.CAGE_CTL, 0, 1⟩
abbrev F.CAGE_CTL_PFD_EN : Fld := ⟨.CAGE_CTL, 1, 1⟩
abbrev F.CAGE_CTL_PDC_EN : Fld := ⟨.CAGE_CTL, 2, 1⟩
abbrev F.CAGE_CTL_MINT_EN : Fld := ⟨.CAGE_CTL, 3, 1⟩
abbrev F.CAGE_CTL_AIND_CTL : Fld := ⟨.CAGE_CTL, 4, 2⟩
abbrev F.CAGE_CTL_PIND_CTL : Fld := ⟨.CAGE_CTL, 6, 2⟩
abbrev F.CAGE_CTL_PWR_CTL : Fld := ⟨.CAGE_CTL, 8, 1⟩
abbrev F.CAGE_CTL_LPMODE : Fld := ⟨.CAGE_CTL, 9, 1⟩
abbrev F.CAGE_CTL_AUTO_PWR : Fld := ⟨.CAGE_CTL, 10, 1⟩
abbrev F.CAGE_STS_ABP : Fld := ⟨.CAGE_STS, 0, 1⟩
abbrev F.CAGE_STS_PFD : Fld := ⟨.CAGE_STS, 1, 1⟩
abbrev F.CAGE_STS_PDC : Fld := ⟨.CAGE_STS, 2, 1⟩
abbrev F.CAGE_STS_CC : Fld := ⟨.CAGE_STS, 3, 1⟩
abbrev F.CAGE_STS_MINT : Fld := ⟨.CAGE_STS, 4, 1⟩
abbrev F.CAGE_STS_BTN_CANCEL : Fld := ⟨.CAGE_STS, 5, 1⟩
abbrev F.CAGE_STS_PDS : Fld := ⟨.CAGE_STS, 8, 1⟩
abbrev F.CAGE_STS_PGOOD : Fld := ⟨.CAGE_STS, 9, 1⟩
abbrev F.CAGE_STS_MINT_LIVE : Fld := ⟨.CAGE_STS, 10, 1⟩
abbrev F.CAGE_STS_SEQ : Fld := ⟨.CAGE_STS, 11, 2⟩
abbrev F.CAGE_CMB_CFG_NCAGE : Fld := ⟨.CAGE_CMB_CFG, 0, 8⟩
abbrev F.CAGE_CMB_CFG_DIV : Fld := ⟨.CAGE_CMB_CFG, 8, 10⟩
abbrev F.CAGE_CMB_CFG_SCAN : Fld := ⟨.CAGE_CMB_CFG, 18, 10⟩
abbrev F.CAGE_CMB_CFG_DEB : Fld := ⟨.CAGE_CMB_CFG, 28, 4⟩
abbrev F.CAGE_CMB_CFG2_PWR_STAGGER : Fld := ⟨.CAGE_CMB_CFG2, 0, 4⟩
abbrev F.CAGE_CMB_CFG2_BLINK : Fld := ⟨.CAGE_CMB_CFG2, 4, 8⟩
abbrev F.CAGE_CMB_CFG2_BTN_WAIT : Fld := ⟨.CAGE_CMB_CFG2, 12, 20⟩
abbrev F.CAGE_CMB_STS_RUN : Fld := ⟨.CAGE_CMB_STS, 0, 1⟩
abbrev F.CAGE_CMB_STS_OVERRUN : Fld := ⟨.CAGE_CMB_STS, 1, 1⟩
abbrev F.CAGE_I2C_CTL_SPEED : Fld := ⟨.CAGE_I2C_CTL, 0, 2⟩
abbrev F.CAGE_I2C_CTL_ADDR : Fld := ⟨.CAGE_I2C_CTL, 2, 7⟩
abbrev F.CAGE_I2C_CTL_OFFSET : Fld := ⟨.CAGE_I2C_CTL, 9, 8⟩
abbrev F.CAGE_I2C_CTL_LEN : Fld := ⟨.CAGE_I2C_CTL, 17, 8⟩
abbrev F.CAGE_I2C_CTL_RD : Fld := ⟨.CAGE_I2C_CTL, 25, 1⟩
abbrev F.CAGE_I2C_CTL_GO : Fld := ⟨.CAGE_I2C_CTL, 31, 1⟩
abbrev F.CAGE_I2C_STS_BUSY : Fld := ⟨.CAGE_I2C_STS, 0, 1⟩
abbrev F.CAGE_I2C_STS_DONE : Fld := ⟨.CAGE_I2C_STS, 1, 1⟩
abbrev F.CAGE_I2C_STS_NACK : Fld := ⟨.CAGE_I2C_STS, 2, 1⟩
abbrev F.CAGE_I2C_STS_TIMEOUT : Fld := ⟨.CAGE_I2C_STS, 3, 1⟩
abbrev F.TIM_TOD_SEC_SEC : Fld := ⟨.TIM_TOD_SEC, 0, 48⟩
abbrev F.TIM_TOD_NS_NS : Fld := ⟨.TIM_TOD_NS, 0, 30⟩
abbrev F.TIM_INCR_INCR : Fld := ⟨.TIM_INCR, 0, 40⟩
abbrev F.TIM_ADJ_STEP : Fld := ⟨.TIM_ADJ, 0, 32⟩
abbrev F.TIM_ADJ_STEP_GO : Fld := ⟨.TIM_ADJ, 32, 1⟩
abbrev F.TIM_SET_SEC_SEC : Fld := ⟨.TIM_SET_SEC, 0, 48⟩
abbrev F.TIM_SET_SEC_SET_GO : Fld := ⟨.TIM_SET_SEC, 63, 1⟩
abbrev F.TIM_SET_NS_NS : Fld := ⟨.TIM_SET_NS, 0, 30⟩
abbrev F.TIM_SYNCE_LANE : Fld := ⟨.TIM_SYNCE, 0, 7⟩
abbrev F.TIM_SYNCE_EN : Fld := ⟨.TIM_SYNCE, 7, 1⟩
abbrev F.TIM_SYNCE_DIV : Fld := ⟨.TIM_SYNCE, 8, 12⟩
abbrev F.TIM_SYNCE_SQ_MODE : Fld := ⟨.TIM_SYNCE, 20, 1⟩
abbrev F.TIM_SYNCE_STS_LOS0 : Fld := ⟨.TIM_SYNCE_STS, 0, 1⟩
abbrev F.TIM_SYNCE_STS_LOS1 : Fld := ⟨.TIM_SYNCE_STS, 1, 1⟩
abbrev F.TIM_SYNCE_STS_LOS0_ST : Fld := ⟨.TIM_SYNCE_STS, 2, 1⟩
abbrev F.TIM_SYNCE_STS_LOS1_ST : Fld := ⟨.TIM_SYNCE_STS, 3, 1⟩
abbrev F.TIM_PORT_DLY_RX_DLY : Fld := ⟨.TIM_PORT_DLY, 0, 16⟩
abbrev F.TIM_PORT_DLY_TX_DLY : Fld := ⟨.TIM_PORT_DLY, 16, 16⟩
abbrev F.STE_BUDGET_IG : Fld := ⟨.STE_BUDGET, 0, 11⟩
abbrev F.STE_BUDGET_EG : Fld := ⟨.STE_BUDGET, 16, 11⟩
abbrev F.STE_DISP_CFG_RECIRC_MAX : Fld := ⟨.STE_DISP_CFG, 0, 5⟩
abbrev F.STE_DISP_CFG_RECIRC_LIMIT : Fld := ⟨.STE_DISP_CFG, 8, 3⟩
abbrev F.STE_DISP_CFG_EG_ABORT_PASS : Fld := ⟨.STE_DISP_CFG, 16, 1⟩
abbrev F.STE_IMG_IG_ACTIVE : Fld := ⟨.STE_IMG, 0, 1⟩
abbrev F.STE_IMG_IG_NEXT : Fld := ⟨.STE_IMG, 1, 1⟩
abbrev F.STE_IMG_IG_ARM : Fld := ⟨.STE_IMG, 2, 1⟩
abbrev F.STE_IMG_EG_ACTIVE : Fld := ⟨.STE_IMG, 8, 1⟩
abbrev F.STE_IMG_EG_NEXT : Fld := ⟨.STE_IMG, 9, 1⟩
abbrev F.STE_IMG_EG_ARM : Fld := ⟨.STE_IMG, 10, 1⟩
abbrev F.STE_IMG_IMM : Fld := ⟨.STE_IMG, 16, 1⟩
abbrev F.STE_IMG_AT_AT : Fld := ⟨.STE_IMG_AT, 0, 32⟩
abbrev F.STE_IMG_STS_IG_OLD_BUSY : Fld := ⟨.STE_IMG_STS, 0, 1⟩
abbrev F.STE_IMG_STS_EG_OLD_BUSY : Fld := ⟨.STE_IMG_STS, 1, 1⟩
abbrev F.STE_IMG_STS_IG_SWITCHED : Fld := ⟨.STE_IMG_STS, 2, 1⟩
abbrev F.STE_IMG_STS_EG_SWITCHED : Fld := ⟨.STE_IMG_STS, 3, 1⟩
abbrev F.STE_IMG_STS_WR_REFUSED : Fld := ⟨.STE_IMG_STS, 4, 1⟩
abbrev F.STE_IMG_STS_ARM_REFUSED : Fld := ⟨.STE_IMG_STS, 5, 1⟩
abbrev F.STE_IMG_STS_REF_INDEX : Fld := ⟨.STE_IMG_STS, 16, 13⟩
abbrev F.STE_IMG_STS_REF_DIR : Fld := ⟨.STE_IMG_STS, 29, 1⟩
abbrev F.STE_OUTER_CFG_TPID_X : Fld := ⟨.STE_OUTER_CFG, 0, 16⟩
abbrev F.STE_OUTER_ACT_ACT : Fld := ⟨.STE_OUTER_ACT, 0, 2⟩
abbrev F.STE_OUTER_ACT_TC : Fld := ⟨.STE_OUTER_ACT, 2, 3⟩
abbrev F.STE_OUTER_ACT_TC_SRC : Fld := ⟨.STE_OUTER_ACT, 5, 2⟩
abbrev F.STE_OUTER_ACT_PORT : Fld := ⟨.STE_OUTER_ACT, 8, 8⟩
abbrev F.STE_FIX_CFG_HOST_EN : Fld := ⟨.STE_FIX_CFG, 0, 1⟩
abbrev F.STE_ENTRY_PC : Fld := ⟨.STE_ENTRY, 0, 13⟩
abbrev F.STE_SRC_MAP_RECIRC : Fld := ⟨.STE_SRC_MAP, 32, 4⟩
abbrev F.STE_PAGES_PAGES : Fld := ⟨.STE_PAGES, 0, 8⟩
abbrev F.LKP_CASTON_REDIR_PROF : Fld := ⟨.LKP_CASTON_REDIR, 0, 64⟩
abbrev F.LKP_HASH_SEED_SEED : Fld := ⟨.LKP_HASH_SEED, 0, 32⟩
abbrev F.LKP_HASH_CFG_MAX_DEPTH : Fld := ⟨.LKP_HASH_CFG, 0, 4⟩
abbrev F.LKP_HW_CFG_MAX_WR : Fld := ⟨.LKP_HW_CFG, 0, 13⟩
abbrev F.LKP_HW_CFG_FLUSH_SLICE : Fld := ⟨.LKP_HW_CFG, 16, 8⟩
abbrev F.LKP_LEARN_CFG_FAIL_NOTIFY : Fld := ⟨.LKP_LEARN_CFG, 0, 1⟩
abbrev F.LKP_LEARN_CFG_BINDOFF_FLUSH : Fld := ⟨.LKP_LEARN_CFG, 1, 1⟩
abbrev F.LKP_LEARN_CFG_RETRY_EN : Fld := ⟨.LKP_LEARN_CFG, 2, 1⟩
abbrev F.LKP_LEARN_CFG_SEND_NOTIFY : Fld := ⟨.LKP_LEARN_CFG, 3, 1⟩
abbrev F.LKP_LEARN_CFG_DEDUP : Fld := ⟨.LKP_LEARN_CFG, 8, 8⟩
abbrev F.LKP_SESS_CFG_SID_BASE : Fld := ⟨.LKP_SESS_CFG, 0, 20⟩
abbrev F.LKP_SESS_CFG_SID_LIMIT : Fld := ⟨.LKP_SESS_CFG, 32, 20⟩
abbrev F.LKP_AGE_CFG_SHIFT : Fld := ⟨.LKP_AGE_CFG, 0, 4⟩
abbrev F.LKP_AGE_CFG_EN : Fld := ⟨.LKP_AGE_CFG, 4, 1⟩
abbrev F.LKP_AGE_CFG_SLICE : Fld := ⟨.LKP_AGE_CFG, 8, 8⟩
abbrev F.LKP_AGE_CFG_LIMIT : Fld := ⟨.LKP_AGE_CFG, 16, 16⟩
abbrev F.LKP_TBL_STS_COUNT : Fld := ⟨.LKP_TBL_STS, 0, 20⟩
abbrev F.LKP_TBL_STS_SEED_REFUSED : Fld := ⟨.LKP_TBL_STS, 31, 1⟩
abbrev F.LKP_SID_STS_IN_USE : Fld := ⟨.LKP_SID_STS, 0, 20⟩
abbrev F.LKP_EVQ_STS_DEPTH : Fld := ⟨.LKP_EVQ_STS, 0, 13⟩
abbrev F.LKP_EVQ_STS_RETRY : Fld := ⟨.LKP_EVQ_STS, 16, 9⟩
abbrev F.TCM_SCRUB_CFG_SLICE : Fld := ⟨.TCM_SCRUB_CFG, 0, 12⟩
abbrev F.TCM_SCRUB_CFG_COPY_ROWS : Fld := ⟨.TCM_SCRUB_CFG, 16, 8⟩
abbrev F.TCM_SCRUB_STS_CURSOR : Fld := ⟨.TCM_SCRUB_STS, 0, 20⟩
abbrev F.TCM_SCRUB_STS_WRAP : Fld := ⟨.TCM_SCRUB_STS, 20, 1⟩
abbrev F.TCM_ERR_SLOT_SLOT : Fld := ⟨.TCM_ERR_SLOT, 0, 21⟩
abbrev F.TCM_PANEL_CFG_WIDTH : Fld := ⟨.TCM_PANEL_CFG, 0, 2⟩
abbrev F.TCM_PANEL_CFG_TWIN_EN : Fld := ⟨.TCM_PANEL_CFG, 2, 1⟩
abbrev F.TCM_PANEL_CFG_TWIN : Fld := ⟨.TCM_PANEL_CFG, 3, 5⟩
abbrev F.TCM_PANEL_STS_TWIN_STATE : Fld := ⟨.TCM_PANEL_STS, 0, 2⟩
abbrev F.TCM_PANEL_STS_LIVE : Fld := ⟨.TCM_PANEL_STS, 2, 1⟩
abbrev F.TCM_PANEL_STS_CFG_REFUSED : Fld := ⟨.TCM_PANEL_STS, 3, 1⟩
abbrev F.TCM_PANEL_STS_QMAX : Fld := ⟨.TCM_PANEL_STS, 4, 6⟩
abbrev F.TCM_PANEL_STS_ENTRIES : Fld := ⟨.TCM_PANEL_STS, 10, 16⟩
abbrev F.TCM_PROF_CFG_WIDTH : Fld := ⟨.TCM_PROF_CFG, 0, 2⟩
abbrev F.TCM_PROF_CFG_PIV_EN : Fld := ⟨.TCM_PROF_CFG, 2, 1⟩
abbrev F.TCM_PROF_CFG_RC_EN : Fld := ⟨.TCM_PROF_CFG, 3, 1⟩
abbrev F.TCM_PROF_CFG_AUTO : Fld := ⟨.TCM_PROF_CFG, 4, 1⟩
abbrev F.TCM_PROF_CFG_LKNUM : Fld := ⟨.TCM_PROF_CFG, 5, 3⟩
abbrev F.TCM_PROF_CFG_FB_PROF : Fld := ⟨.TCM_PROF_CFG, 8, 6⟩
abbrev F.TCM_PROF_CFG_FB_EN : Fld := ⟨.TCM_PROF_CFG, 14, 1⟩
abbrev F.TCM_PROF_CFG_RV_OFF : Fld := ⟨.TCM_PROF_CFG, 16, 7⟩
abbrev F.TCM_PROF_CFG_PIV_BASE : Fld := ⟨.TCM_PROF_CFG, 24, 12⟩
abbrev F.TCM_PROF_CFG_F0_POS : Fld := ⟨.TCM_PROF_CFG, 36, 10⟩
abbrev F.TCM_PROF_CFG_F0_LEN : Fld := ⟨.TCM_PROF_CFG, 46, 4⟩
abbrev F.TCM_PROF_CFG_F1_POS : Fld := ⟨.TCM_PROF_CFG, 50, 10⟩
abbrev F.TCM_PROF_CFG_F1_LEN : Fld := ⟨.TCM_PROF_CFG, 60, 4⟩
abbrev F.TCM_PROF_PMASK_PANELS : Fld := ⟨.TCM_PROF_PMASK, 0, 48⟩
abbrev F.TCM_PROF_RCMASK_RC : Fld := ⟨.TCM_PROF_RCMASK, 0, 64⟩
abbrev F.TCM_PROF_GMASK_GMASK : Fld := ⟨.TCM_PROF_GMASK, 0, 32⟩
abbrev F.ACT_CFG_METER_ADJ : Fld := ⟨.ACT_CFG, 0, 8⟩
abbrev F.ACT_CFG_LAG_ROT : Fld := ⟨.ACT_CFG, 8, 5⟩
abbrev F.ACT_RSP_CFG_TTL : Fld := ⟨.ACT_RSP_CFG, 0, 8⟩
abbrev F.ACT_RSP_CFG_TC : Fld := ⟨.ACT_RSP_CFG, 8, 3⟩
abbrev F.ACT_RSP_CFG_DISC_HI : Fld := ⟨.ACT_RSP_CFG, 12, 20⟩
abbrev F.ACT_RSP_RATE_RATE : Fld := ⟨.ACT_RSP_RATE, 0, 12⟩
abbrev F.ACT_RSP_RATE_BURST : Fld := ⟨.ACT_RSP_RATE, 16, 8⟩
abbrev F.ACT_HOSTPOL_INDEX : Fld := ⟨.ACT_HOSTPOL, 0, 18⟩
abbrev F.ACT_HOSTPOL_EN : Fld := ⟨.ACT_HOSTPOL, 31, 1⟩
abbrev F.ACT_LAG_COUNT : Fld := ⟨.ACT_LAG, 0, 5⟩
abbrev F.ACT_LAG_UP : Fld := ⟨.ACT_LAG, 16, 16⟩
abbrev F.ACT_LAG_MEM_PORT : Fld := ⟨.ACT_LAG_MEM, 0, 8⟩
abbrev F.ACT_PORT_MAC_MAC : Fld := ⟨.ACT_PORT_MAC, 0, 48⟩
abbrev F.ACT_PORT_MAC_RTR : Fld := ⟨.ACT_PORT_MAC, 48, 1⟩
abbrev F.ACT_LACP_CTL_PERIOD : Fld := ⟨.ACT_LACP_CTL, 0, 25⟩
abbrev F.ACT_LACP_CTL_HOLD : Fld := ⟨.ACT_LACP_CTL, 30, 1⟩
abbrev F.ACT_LACP_CTL_EN : Fld := ⟨.ACT_LACP_CTL, 31, 1⟩
abbrev F.ACT_LACP_PDU_BYTES : Fld := ⟨.ACT_LACP_PDU, 0, 32⟩
abbrev F.ACT_BFD_CTL_EN : Fld := ⟨.ACT_BFD_CTL, 0, 1⟩
abbrev F.ACT_BFD_CTL_SLOT : Fld := ⟨.ACT_BFD_CTL, 1, 3⟩
abbrev F.ACT_BFD_CTL_TC : Fld := ⟨.ACT_BFD_CTL, 4, 3⟩
abbrev F.ACT_BFD_CTL_TX_INT : Fld := ⟨.ACT_BFD_CTL, 8, 24⟩
abbrev F.ACT_BFD_CTL_DET : Fld := ⟨.ACT_BFD_CTL, 32, 24⟩
abbrev F.ACT_BFD_FMT_LEN : Fld := ⟨.ACT_BFD_FMT, 0, 7⟩
abbrev F.ACT_BFD_FMT_BFD_OFF : Fld := ⟨.ACT_BFD_FMT, 8, 7⟩
abbrev F.ACT_BFD_FMT_UCS_OFF : Fld := ⟨.ACT_BFD_FMT, 16, 7⟩
abbrev F.ACT_BFD_STS_STATE : Fld := ⟨.ACT_BFD_STS, 0, 2⟩
abbrev F.ACT_BFD_STS_DIAG : Fld := ⟨.ACT_BFD_STS, 2, 5⟩
abbrev F.ACT_BFD_STS_DOWN_EV : Fld := ⟨.ACT_BFD_STS, 8, 1⟩
abbrev F.ACT_BFD_STS_REFUSED : Fld := ⟨.ACT_BFD_STS, 9, 1⟩
abbrev F.ACT_BFD_STS_SINCE_RX : Fld := ⟨.ACT_BFD_STS, 16, 16⟩
abbrev F.ACT_BFD_TPL_BYTES : Fld := ⟨.ACT_BFD_TPL, 0, 32⟩
abbrev F.BPM_POOL_CFG_HR : Fld := ⟨.BPM_POOL_CFG, 0, 18⟩
abbrev F.BPM_POOL_CFG_HR_FREE : Fld := ⟨.BPM_POOL_CFG, 32, 18⟩
abbrev F.BPM_POOL_STS_TOTAL : Fld := ⟨.BPM_POOL_STS, 0, 19⟩
abbrev F.BPM_POOL_STS_RESERVED : Fld := ⟨.BPM_POOL_STS, 32, 19⟩
abbrev F.BPM_POOL_STS_CFG_REFUSED : Fld := ⟨.BPM_POOL_STS, 63, 1⟩
abbrev F.BPM_SYS_MIN : Fld := ⟨.BPM_SYS, 0, 18⟩
abbrev F.BPM_SYS_MAX : Fld := ⟨.BPM_SYS, 32, 18⟩
abbrev F.BPM_QPROF_MIN : Fld := ⟨.BPM_QPROF, 0, 18⟩
abbrev F.BPM_QPROF_A_G : Fld := ⟨.BPM_QPROF, 24, 8⟩
abbrev F.BPM_QPROF_A_Y : Fld := ⟨.BPM_QPROF, 32, 8⟩
abbrev F.BPM_QPROF_A_R : Fld := ⟨.BPM_QPROF, 40, 8⟩
abbrev F.BPM_PGPROF_W1 : Fld := ⟨.BPM_PGPROF, 0, 18⟩
abbrev F.BPM_PGPROF_W2 : Fld := ⟨.BPM_PGPROF, 18, 18⟩
abbrev F.BPM_PGPROF_W3 : Fld := ⟨.BPM_PGPROF, 36, 18⟩
abbrev F.BPM_PORT_PGPROF : Fld := ⟨.BPM_PORT, 0, 3⟩
abbrev F.BPM_PORT_LOSSLESS : Fld := ⟨.BPM_PORT, 8, 8⟩
abbrev F.BPM_PG_STS_COUNT : Fld := ⟨.BPM_PG_STS, 0, 18⟩
abbrev F.BPM_PG_STS_XOFF : Fld := ⟨.BPM_PG_STS, 18, 1⟩
abbrev F.SKN_CELL_FREE_FREE : Fld := ⟨.SKN_CELL_FREE, 0, 19⟩
abbrev F.SKN_CELL_FREE_SHARED_FREE : Fld := ⟨.SKN_CELL_FREE, 32, 19⟩
abbrev F.SKN_SPILL_CFG_EN : Fld := ⟨.SKN_SPILL_CFG, 0, 1⟩
abbrev F.SKN_SPILL_STS_CTX_USED : Fld := ⟨.SKN_SPILL_STS, 0, 13⟩
abbrev F.SKN_SPILL_STS_PAUSED : Fld := ⟨.SKN_SPILL_STS, 13, 1⟩
abbrev F.SKN_SPILL_STS_PAGES_FREE : Fld := ⟨.SKN_SPILL_STS, 32, 18⟩
abbrev F.SKN_SPILL_PROF_A_SPILL_HI : Fld := ⟨.SKN_SPILL_PROF_A, 0, 18⟩
abbrev F.SKN_SPILL_PROF_A_HEAD_LO : Fld := ⟨.SKN_SPILL_PROF_A, 18, 18⟩
abbrev F.SKN_SPILL_PROF_A_HEAD_HI : Fld := ⟨.SKN_SPILL_PROF_A, 36, 18⟩
abbrev F.SKN_SPILL_PROF_B_TAIL_MAX : Fld := ⟨.SKN_SPILL_PROF_B, 0, 18⟩
abbrev F.SKN_SPILL_PROF_B_HBM_MAX : Fld := ⟨.SKN_SPILL_PROF_B, 18, 28⟩
abbrev F.SKN_Q_QPROF : Fld := ⟨.SKN_Q, 0, 4⟩
abbrev F.SKN_Q_SPROF : Fld := ⟨.SKN_Q, 4, 4⟩
abbrev F.SKN_Q_SPILL_EN : Fld := ⟨.SKN_Q, 8, 1⟩
abbrev F.SKN_Q_CELLS : Fld := ⟨.SKN_Q, 32, 18⟩
abbrev F.SKN_Q_SPILLED : Fld := ⟨.SKN_Q, 50, 1⟩
abbrev F.SKN_Q_CTX : Fld := ⟨.SKN_Q, 51, 12⟩
abbrev F.SKN_CTX_STS_QUEUE : Fld := ⟨.SKN_CTX_STS, 0, 16⟩
abbrev F.SKN_CTX_STS_BUSY : Fld := ⟨.SKN_CTX_STS, 16, 1⟩
abbrev F.SKN_CTX_STS_MOVE : Fld := ⟨.SKN_CTX_STS, 17, 1⟩
abbrev F.SKN_CTX_STS_FILL : Fld := ⟨.SKN_CTX_STS, 18, 1⟩
abbrev F.SKN_CTX_STS_HEAD : Fld := ⟨.SKN_CTX_STS, 32, 18⟩
abbrev F.SKN_CTX_CNT_TAIL : Fld := ⟨.SKN_CTX_CNT, 0, 18⟩
abbrev F.SKN_CTX_CNT_MID : Fld := ⟨.SKN_CTX_CNT, 32, 28⟩
abbrev F.SCH_XBAR_CFG_ITER : Fld := ⟨.SCH_XBAR_CFG, 0, 3⟩
abbrev F.SCH_CFG_SHAPE_ADJ : Fld := ⟨.SCH_CFG, 0, 8⟩
abbrev F.SCH_MC_CFG_HI_TC : Fld := ⟨.SCH_MC_CFG, 0, 3⟩
abbrev F.SCH_MC_CFG_LO_MAX : Fld := ⟨.SCH_MC_CFG, 16, 14⟩
abbrev F.SCH_MC_STS_LO_CELLS : Fld := ⟨.SCH_MC_STS, 0, 14⟩
abbrev F.SCH_MC_STS_HI_CELLS : Fld := ⟨.SCH_MC_STS, 16, 14⟩
abbrev F.SCH_BURST_BYTES : Fld := ⟨.SCH_BURST, 0, 24⟩
abbrev F.SCH_PROBE_LEAF : Fld := ⟨.SCH_PROBE, 0, 15⟩
abbrev F.SCH_PROBE_TOK_TOK : Fld := ⟨.SCH_PROBE_TOK, 0, 40⟩
abbrev F.SCH_PORT_SP : Fld := ⟨.SCH_PORT, 0, 8⟩
abbrev F.SCH_PORT_MC8_CLASS : Fld := ⟨.SCH_PORT, 8, 3⟩
abbrev F.SCH_PORT_MC9_CLASS : Fld := ⟨.SCH_PORT, 12, 3⟩
abbrev F.SCH_PORT_LEAF_SRC : Fld := ⟨.SCH_PORT, 16, 1⟩
abbrev F.SCH_PORT_LEAF_OFF : Fld := ⟨.SCH_PORT, 17, 6⟩
abbrev F.SCH_PORT_INFLIGHT : Fld := ⟨.SCH_PORT, 24, 8⟩
abbrev F.SCH_PORT_MQW_QW_8 : Fld := ⟨.SCH_PORT_MQW, 0, 8⟩
abbrev F.SCH_PORT_MQW_QW_9 : Fld := ⟨.SCH_PORT_MQW, 8, 8⟩
abbrev F.SCH_PORT_STS_PAUSED : Fld := ⟨.SCH_PORT_STS, 0, 8⟩
abbrev F.SCH_PORT_STS_BACKLOG : Fld := ⟨.SCH_PORT_STS, 8, 8⟩
abbrev F.SCH_PORT_STS_SHAPED : Fld := ⟨.SCH_PORT_STS, 16, 1⟩
abbrev F.SCH_GRP_PORT : Fld := ⟨.SCH_GRP, 0, 6⟩
abbrev F.SCH_GRP_CLASS : Fld := ⟨.SCH_GRP, 8, 3⟩
abbrev F.SCH_GRP_EN : Fld := ⟨.SCH_GRP, 15, 1⟩
abbrev F.SCH_GRP_WEIGHT : Fld := ⟨.SCH_GRP, 16, 8⟩
abbrev F.SCH_GRP_STS_BACKLOG : Fld := ⟨.SCH_GRP_STS, 0, 16⟩
abbrev F.SCH_GRP_STS_CFG_REFUSED : Fld := ⟨.SCH_GRP_STS, 16, 1⟩
abbrev F.SCH_LEAF_GROUP : Fld := ⟨.SCH_LEAF, 0, 12⟩
abbrev F.SCH_LEAF_EN : Fld := ⟨.SCH_LEAF, 12, 1⟩
abbrev F.SCH_LEAF_CFG_REFUSED : Fld := ⟨.SCH_LEAF, 13, 1⟩
abbrev F.SCH_LEAF_WEIGHT : Fld := ⟨.SCH_LEAF, 16, 8⟩
abbrev F.SCH_LEAF_BPROF : Fld := ⟨.SCH_LEAF, 24, 4⟩
abbrev F.SCH_LEAF_SHP_EN : Fld := ⟨.SCH_LEAF, 28, 1⟩
abbrev F.SCH_LEAF_RATE : Fld := ⟨.SCH_LEAF, 32, 28⟩
abbrev F.YRN_ID_DEV : Fld := ⟨.YRN_ID, 0, 14⟩
abbrev F.YRN_ID_EPOCH : Fld := ⟨.YRN_ID, 16, 8⟩
abbrev F.YRN_ID_EN : Fld := ⟨.YRN_ID, 31, 1⟩
abbrev F.YRN_CFG_HOPS : Fld := ⟨.YRN_CFG, 0, 6⟩
abbrev F.YRN_CFG_YDST_OFF : Fld := ⟨.YRN_CFG, 8, 6⟩
abbrev F.YRN_CFG_XUSER_OFF : Fld := ⟨.YRN_CFG, 16, 6⟩
abbrev F.YRN_MC_MC_OFF : Fld := ⟨.YRN_MC, 0, 16⟩
abbrev F.YRN_RESEQ_CFG_TIMEOUT : Fld := ⟨.YRN_RESEQ_CFG, 0, 12⟩
abbrev F.YRN_RESEQ_CMD_CTX : Fld := ⟨.YRN_RESEQ_CMD, 0, 17⟩
abbrev F.YRN_RESEQ_CMD_DIE : Fld := ⟨.YRN_RESEQ_CMD, 17, 1⟩
abbrev F.YRN_RESEQ_CMD_GO : Fld := ⟨.YRN_RESEQ_CMD, 31, 1⟩
abbrev F.YRN_SET_LINKS : Fld := ⟨.YRN_SET, 0, 64⟩
abbrev F.YRN_ROUTE_SET : Fld := ⟨.YRN_ROUTE, 0, 6⟩
abbrev F.YRN_ROUTE_V : Fld := ⟨.YRN_ROUTE, 31, 1⟩
abbrev F.YRN_RSQ_STS_HELD_CELLS : Fld := ⟨.YRN_RSQ_STS, 0, 15⟩
abbrev F.YRN_RSQ_STS_HELD_PKTS : Fld := ⟨.YRN_RSQ_STS, 32, 14⟩
abbrev F.YRN_CTX_NEXT : Fld := ⟨.YRN_CTX, 0, 16⟩
abbrev F.YRN_CTX_EPOCH : Fld := ⟨.YRN_CTX, 16, 8⟩
abbrev F.YRN_CTX_ACTIVE : Fld := ⟨.YRN_CTX, 24, 1⟩
abbrev F.YRN_CTX_HELD : Fld := ⟨.YRN_CTX, 25, 1⟩
abbrev F.YRN_CTX_TIMED_OUT : Fld := ⟨.YRN_CTX, 26, 1⟩
abbrev F.HBC_STS_CUR_SP : Fld := ⟨.HBC_STS, 0, 2⟩
abbrev F.HBC_STS_TARGET : Fld := ⟨.HBC_STS, 2, 2⟩
abbrev F.HBC_STS_STEP : Fld := ⟨.HBC_STS, 4, 3⟩
abbrev F.HBC_STS_BUSY : Fld := ⟨.HBC_STS, 7, 1⟩
abbrev F.HBC_STS_STATE : Fld := ⟨.HBC_STS, 8, 2⟩
abbrev F.HBC_STS_DONE : Fld := ⟨.HBC_STS, 10, 1⟩
abbrev F.HBC_STS_SPD_FAIL : Fld := ⟨.HBC_STS, 11, 1⟩
abbrev F.HBC_STS_CMD_REFUSED : Fld := ⟨.HBC_STS, 12, 1⟩
abbrev F.HBC_STS_CFG_REFUSED : Fld := ⟨.HBC_STS, 13, 1⟩
abbrev F.HBC_STS_REJ_CAUSE : Fld := ⟨.HBC_STS, 16, 3⟩
abbrev F.HBC_SPD_CMD_TARGET : Fld := ⟨.HBC_SPD_CMD, 0, 2⟩
abbrev F.HBC_SPD_CMD_GO : Fld := ⟨.HBC_SPD_CMD, 31, 1⟩
abbrev F.HBC_SPD_CFG_CEIL : Fld := ⟨.HBC_SPD_CFG, 0, 2⟩
abbrev F.HBC_SPD_CFG_FLOOR : Fld := ⟨.HBC_SPD_CFG, 2, 2⟩
abbrev F.HBC_SPD_CFG_UP_PCT : Fld := ⟨.HBC_SPD_CFG, 8, 8⟩
abbrev F.HBC_SPD_CFG_DOWN_PCT : Fld := ⟨.HBC_SPD_CFG, 16, 8⟩
abbrev F.HBC_SPD_CFG_DWELL : Fld := ⟨.HBC_SPD_CFG, 24, 4⟩
abbrev F.HBC_SPD_CFG2_WIN : Fld := ⟨.HBC_SPD_CFG2, 0, 16⟩
abbrev F.HBC_SPD_CFG2_STEP_LIMIT : Fld := ⟨.HBC_SPD_CFG2, 16, 8⟩
abbrev F.HBC_SPD_CFG2_CAP_SP : Fld := ⟨.HBC_SPD_CFG2, 24, 2⟩
abbrev F.HBC_SET_VALID_VALID : Fld := ⟨.HBC_SET_VALID, 0, 3⟩
abbrev F.HBC_GEOM_BANKS : Fld := ⟨.HBC_GEOM, 0, 8⟩
abbrev F.HBC_REF_CFG_PB : Fld := ⟨.HBC_REF_CFG, 0, 1⟩
abbrev F.HBC_REF_CFG_POSTPONE : Fld := ⟨.HBC_REF_CFG, 4, 4⟩
abbrev F.HBC_REF_CFG_T85 : Fld := ⟨.HBC_REF_CFG, 8, 8⟩
abbrev F.HBC_REF_CFG_T95 : Fld := ⟨.HBC_REF_CFG, 16, 8⟩
abbrev F.HBC_TEMP_TEMP : Fld := ⟨.HBC_TEMP, 0, 8⟩
abbrev F.HBC_TEMP_RATE : Fld := ⟨.HBC_TEMP, 8, 2⟩
abbrev F.HBC_ECC_LOG_CELL : Fld := ⟨.HBC_ECC_LOG, 0, 27⟩
abbrev F.HBC_ECC_LOG_ACC : Fld := ⟨.HBC_ECC_LOG, 27, 2⟩
abbrev F.HBC_ECC_LOG_WORD : Fld := ⟨.HBC_ECC_LOG, 29, 3⟩
abbrev F.HBC_ECC_LOG_VALID : Fld := ⟨.HBC_ECC_LOG, 32, 1⟩
abbrev F.PCX_LINK_STS_SPEED : Fld := ⟨.PCX_LINK_STS, 0, 3⟩
abbrev F.PCX_LINK_STS_WIDTH : Fld := ⟨.PCX_LINK_STS, 3, 5⟩
abbrev F.PCX_LINK_STS_FLIT : Fld := ⟨.PCX_LINK_STS, 8, 1⟩
abbrev F.PCX_LINK_STS_DL_UP : Fld := ⟨.PCX_LINK_STS, 9, 1⟩
abbrev F.PCX_LINK_STS_L0P_WIDTH : Fld := ⟨.PCX_LINK_STS, 10, 5⟩
abbrev F.PCX_LINK_STS_PM : Fld := ⟨.PCX_LINK_STS, 16, 2⟩
abbrev F.PCX_LPM_L1_IDLE : Fld := ⟨.PCX_LPM, 0, 12⟩
abbrev F.PCX_LPM_L0P_EN : Fld := ⟨.PCX_LPM, 12, 1⟩
abbrev F.PCX_LPM_L0P_MIN : Fld := ⟨.PCX_LPM, 13, 2⟩
abbrev F.PCX_LPM_L0P_LO : Fld := ⟨.PCX_LPM, 16, 8⟩
abbrev F.PCX_LPM_L0P_HI : Fld := ⟨.PCX_LPM, 24, 8⟩
abbrev F.PCX_LPM_L0P_WIN : Fld := ⟨.PCX_LPM, 32, 16⟩
abbrev F.PCX_LTR_ACT_VAL : Fld := ⟨.PCX_LTR, 0, 10⟩
abbrev F.PCX_LTR_ACT_SCALE : Fld := ⟨.PCX_LTR, 10, 3⟩
abbrev F.PCX_LTR_IDLE_VAL : Fld := ⟨.PCX_LTR, 16, 10⟩
abbrev F.PCX_LTR_IDLE_SCALE : Fld := ⟨.PCX_LTR, 26, 3⟩
abbrev F.PCX_STS_CFG_REFUSED : Fld := ⟨.PCX_STS, 0, 1⟩
abbrev F.PCX_FLR_BUSY_BUSY : Fld := ⟨.PCX_FLR_BUSY, 0, 64⟩
abbrev F.PCX_FUNC_RINGS_SQ_BASE : Fld := ⟨.PCX_FUNC_RINGS, 0, 12⟩
abbrev F.PCX_FUNC_RINGS_SQ_COUNT : Fld := ⟨.PCX_FUNC_RINGS, 16, 13⟩
abbrev F.PCX_FUNC_RINGS_CQ_BASE : Fld := ⟨.PCX_FUNC_RINGS, 32, 12⟩
abbrev F.PCX_FUNC_RINGS_CQ_COUNT : Fld := ⟨.PCX_FUNC_RINGS, 48, 13⟩
abbrev F.PCX_ISRC_VEC : Fld := ⟨.PCX_ISRC, 0, 11⟩
abbrev F.PCX_ISRC_FUNC : Fld := ⟨.PCX_ISRC, 11, 1⟩
abbrev F.PCX_ISRC_EN : Fld := ⟨.PCX_ISRC, 15, 1⟩
abbrev F.PCX_IMOD_HOLD : Fld := ⟨.PCX_IMOD, 0, 12⟩
abbrev F.PCX_IMOD_CNT : Fld := ⟨.PCX_IMOD, 12, 12⟩
abbrev F.PCX_IMOD_PEND : Fld := ⟨.PCX_IMOD, 24, 1⟩
abbrev F.DMA_SQ_BASE_ADDR : Fld := ⟨.DMA_SQ_BASE, 12, 52⟩
abbrev F.DMA_SQ_CFG_EN : Fld := ⟨.DMA_SQ_CFG, 0, 1⟩
abbrev F.DMA_SQ_CFG_KIND : Fld := ⟨.DMA_SQ_CFG, 1, 2⟩
abbrev F.DMA_SQ_CFG_FORCE : Fld := ⟨.DMA_SQ_CFG, 3, 1⟩
abbrev F.DMA_SQ_CFG_LOG2SIZE : Fld := ⟨.DMA_SQ_CFG, 4, 4⟩
abbrev F.DMA_SQ_CFG_CQ : Fld := ⟨.DMA_SQ_CFG, 8, 12⟩
abbrev F.DMA_SQ_CFG_WEIGHT : Fld := ⟨.DMA_SQ_CFG, 20, 8⟩
abbrev F.DMA_SQ_CFG_BURST : Fld := ⟨.DMA_SQ_CFG, 28, 7⟩
abbrev F.DMA_SQ_CFG_PORT : Fld := ⟨.DMA_SQ_CFG, 35, 8⟩
abbrev F.DMA_SQ_CFG_SEQ : Fld := ⟨.DMA_SQ_CFG, 43, 3⟩
abbrev F.DMA_SQ_CFG_START : Fld := ⟨.DMA_SQ_CFG, 48, 16⟩
abbrev F.DMA_SQ_IDX_ADDR : Fld := ⟨.DMA_SQ_IDX, 4, 60⟩
abbrev F.DMA_SQ_STS_HEAD : Fld := ⟨.DMA_SQ_STS, 0, 16⟩
abbrev F.DMA_SQ_STS_TAIL : Fld := ⟨.DMA_SQ_STS, 16, 16⟩
abbrev F.DMA_SQ_STS_FETCH : Fld := ⟨.DMA_SQ_STS, 32, 16⟩
abbrev F.DMA_SQ_STS_ENABLED : Fld := ⟨.DMA_SQ_STS, 48, 1⟩
abbrev F.DMA_SQ_STS_BLOCKED : Fld := ⟨.DMA_SQ_STS, 49, 1⟩
abbrev F.DMA_SQ_STS_ERR : Fld := ⟨.DMA_SQ_STS, 50, 4⟩
abbrev F.DMA_SQ_STS_DB_ERR : Fld := ⟨.DMA_SQ_STS, 54, 1⟩
abbrev F.DMA_SQ_STS_CFG_REFUSED : Fld := ⟨.DMA_SQ_STS, 55, 1⟩
abbrev F.DMA_CQ_CFG_EN : Fld := ⟨.DMA_CQ_CFG, 0, 1⟩
abbrev F.DMA_CQ_CFG_KIND : Fld := ⟨.DMA_CQ_CFG, 1, 1⟩
abbrev F.DMA_CQ_CFG_LOG2SIZE : Fld := ⟨.DMA_CQ_CFG, 4, 4⟩
abbrev F.DMA_CQ_CFG_INT_EN : Fld := ⟨.DMA_CQ_CFG, 8, 1⟩
abbrev F.DMA_CQ_CFG_VEC : Fld := ⟨.DMA_CQ_CFG, 9, 11⟩
abbrev F.DMA_CQ_CFG_START : Fld := ⟨.DMA_CQ_CFG, 48, 16⟩
abbrev F.DMA_CQ_STS_TAIL : Fld := ⟨.DMA_CQ_STS, 0, 16⟩
abbrev F.DMA_CQ_STS_HEAD : Fld := ⟨.DMA_CQ_STS, 16, 16⟩
abbrev F.DMA_CQ_STS_STAGED : Fld := ⟨.DMA_CQ_STS, 32, 7⟩
abbrev F.DMA_CQ_STS_ENABLED : Fld := ⟨.DMA_CQ_STS, 39, 1⟩
abbrev F.DMA_CQ_STS_FULL : Fld := ⟨.DMA_CQ_STS, 40, 1⟩
abbrev F.DMA_CQ_STS_ERR : Fld := ⟨.DMA_CQ_STS, 41, 4⟩
abbrev F.DMA_CQ_STS_DB_ERR : Fld := ⟨.DMA_CQ_STS, 45, 1⟩
abbrev F.DMA_CQ_STS_CFG_REFUSED : Fld := ⟨.DMA_CQ_STS, 46, 1⟩
abbrev F.DMA_CQ_STS_DROPS : Fld := ⟨.DMA_CQ_STS, 48, 16⟩
abbrev F.DMA_CFG_IDX_BATCH : Fld := ⟨.DMA_CFG, 0, 7⟩
abbrev F.DMA_RX_SEL_BASE : Fld := ⟨.DMA_RX_SEL, 0, 12⟩
abbrev F.DMA_RX_SEL_COUNT : Fld := ⟨.DMA_RX_SEL, 16, 7⟩
abbrev F.DMA_RX_SEL_USER_SEL : Fld := ⟨.DMA_RX_SEL, 23, 1⟩
abbrev F.DMA_RX_SEL_USER_OFF : Fld := ⟨.DMA_RX_SEL, 24, 6⟩
abbrev F.DMA_NTF_MAP_RING : Fld := ⟨.DMA_NTF_MAP, 0, 12⟩
abbrev F.DMA_NTF_MAP_EN : Fld := ⟨.DMA_NTF_MAP, 15, 1⟩
abbrev F.CHT_CFG_CTX : Fld := ⟨.CHT_CFG, 0, 4⟩
abbrev F.CHT_SEQ_STS_CTX_BUSY : Fld := ⟨.CHT_SEQ_STS, 0, 8⟩
abbrev F.CHT_SEQ_STS_STG_CTX : Fld := ⟨.CHT_SEQ_STS, 8, 3⟩
abbrev F.CHT_SEQ_STS_STG_HELD : Fld := ⟨.CHT_SEQ_STS, 11, 1⟩
abbrev F.CHT_SEQ_STS_STG_C0 : Fld := ⟨.CHT_SEQ_STS, 12, 13⟩
abbrev F.CHT_SEQ_STS_STG_C1 : Fld := ⟨.CHT_SEQ_STS, 25, 13⟩
abbrev F.CHT_SEQ_STS_COMMIT_WAIT : Fld := ⟨.CHT_SEQ_STS, 38, 1⟩
abbrev F.CHT_ERR_STATUS : Fld := ⟨.CHT_ERR, 0, 8⟩
abbrev F.CHT_ERR_RING : Fld := ⟨.CHT_ERR, 8, 12⟩
abbrev F.CHT_ERR_INDEX : Fld := ⟨.CHT_ERR, 20, 16⟩
abbrev F.CHT_ERR_VALID : Fld := ⟨.CHT_ERR, 36, 1⟩
abbrev F.FLT_STS_STS : Fld := ⟨.FLT_STS, 0, 32⟩
abbrev F.FLT_LIVE_LIVE : Fld := ⟨.FLT_LIVE, 0, 32⟩
abbrev F.FLT_INJ_SRC : Fld := ⟨.FLT_INJ, 0, 5⟩
abbrev F.FLT_INJ_INST : Fld := ⟨.FLT_INJ, 8, 16⟩
abbrev F.FLT_INJ_MODE : Fld := ⟨.FLT_INJ, 28, 2⟩
abbrev F.FLT_INJ_GO : Fld := ⟨.FLT_INJ, 31, 1⟩
abbrev F.FLT_FIRST_SRC : Fld := ⟨.FLT_FIRST, 0, 5⟩
abbrev F.FLT_FIRST_INST : Fld := ⟨.FLT_FIRST, 16, 16⟩
abbrev F.FLT_FIRST_TICK : Fld := ⟨.FLT_FIRST, 32, 31⟩
abbrev F.FLT_FIRST_VALID : Fld := ⟨.FLT_FIRST, 63, 1⟩
abbrev F.FLT_FIRST_INFO_INFO : Fld := ⟨.FLT_FIRST_INFO, 0, 48⟩
abbrev F.FLT_FIRST_INFO_INJ : Fld := ⟨.FLT_FIRST_INFO, 63, 1⟩
abbrev F.FLT_INST_INST : Fld := ⟨.FLT_INST, 0, 64⟩
abbrev F.FLT_CNT_COUNT : Fld := ⟨.FLT_CNT, 0, 16⟩
abbrev F.GLB_FLT_SUM_SUM : Fld := ⟨.GLB_FLT_SUM, 0, 32⟩
abbrev F.GLB_FLT_PIN_PIN : Fld := ⟨.GLB_FLT_PIN, 0, 32⟩
abbrev F.BOOT_JRN_CFG_INTERVAL : Fld := ⟨.BOOT_JRN_CFG, 0, 16⟩
abbrev F.BOOT_JRN_CFG_BURST : Fld := ⟨.BOOT_JRN_CFG, 16, 8⟩
abbrev F.BOOT_JRN_STS_BOOT : Fld := ⟨.BOOT_JRN_STS, 0, 32⟩
abbrev F.BOOT_JRN_STS_NEXT : Fld := ⟨.BOOT_JRN_STS, 32, 13⟩
abbrev F.BOOT_JRN_STS_DROPS : Fld := ⟨.BOOT_JRN_STS, 48, 16⟩
abbrev F.BOOT_JRN_IDX_IDX : Fld := ⟨.BOOT_JRN_IDX, 0, 13⟩
abbrev F.BOOT_JRN_CMD_ERASE : Fld := ⟨.BOOT_JRN_CMD, 0, 1⟩
abbrev F.BOOT_JRN_DATA_BYTES : Fld := ⟨.BOOT_JRN_DATA, 0, 32⟩
abbrev F.GGE_CTL_EVENT : Fld := ⟨.GGE_CTL, 0, 8⟩
abbrev F.GGE_CTL_MODE : Fld := ⟨.GGE_CTL, 8, 2⟩
abbrev F.GGE_CTL_EN : Fld := ⟨.GGE_CTL, 10, 1⟩
abbrev F.GGE_CTL_FOV : Fld := ⟨.GGE_CTL, 11, 1⟩
abbrev F.GGE_CTL_INT : Fld := ⟨.GGE_CTL, 12, 1⟩
abbrev F.GGE_CTL_QUAL : Fld := ⟨.GGE_CTL, 16, 8⟩
abbrev F.GGE_CTL_THRESH : Fld := ⟨.GGE_CTL, 32, 16⟩
abbrev F.GGE_CNT_COUNT : Fld := ⟨.GGE_CNT, 0, 48⟩
abbrev F.GGE_OVF_OVF : Fld := ⟨.GGE_OVF, 0, 32⟩
abbrev F.GGE_SMP_CFG_IG_EN : Fld := ⟨.GGE_SMP_CFG, 0, 1⟩
abbrev F.GGE_SMP_CFG_EG_EN : Fld := ⟨.GGE_SMP_CFG, 1, 1⟩
abbrev F.GGE_SMP_CFG_MODE : Fld := ⟨.GGE_SMP_CFG, 2, 1⟩
abbrev F.GGE_SMP_CFG_JIT : Fld := ⟨.GGE_SMP_CFG, 8, 4⟩
abbrev F.GGE_SMP_CFG_PERIOD : Fld := ⟨.GGE_SMP_CFG, 16, 16⟩
abbrev F.GGE_SMP_CFG_PC : Fld := ⟨.GGE_SMP_CFG, 32, 13⟩
abbrev F.GGE_SBUF_STS_LEVEL : Fld := ⟨.GGE_SBUF_STS, 0, 13⟩
abbrev F.GGE_SBUF_STS_SB_FULL : Fld := ⟨.GGE_SBUF_STS, 13, 1⟩
abbrev F.GGE_SBUF_STS_DROPS : Fld := ⟨.GGE_SBUF_STS, 16, 16⟩
abbrev F.GGE_COL_CFG_PERIOD : Fld := ⟨.GGE_COL_CFG, 0, 24⟩
abbrev F.GGE_COL_CFG_EN : Fld := ⟨.GGE_COL_CFG, 31, 1⟩
abbrev F.GGE_COL_CMD_GO : Fld := ⟨.GGE_COL_CMD, 31, 1⟩
abbrev F.GGE_COL_STS_BUSY : Fld := ⟨.GGE_COL_STS, 0, 1⟩
abbrev F.GGE_COL_STS_MODE : Fld := ⟨.GGE_COL_STS, 1, 1⟩
abbrev F.GGE_COL_STS_DONE : Fld := ⟨.GGE_COL_STS, 2, 1⟩
abbrev F.GGE_COL_STS_SKIPPED : Fld := ⟨.GGE_COL_STS, 3, 1⟩
abbrev F.GGE_COL_STS_CFG_REFUSED : Fld := ⟨.GGE_COL_STS, 4, 1⟩
abbrev F.GGE_COL_STS_LOST : Fld := ⟨.GGE_COL_STS, 16, 16⟩
abbrev F.GGE_COL_STS_SEQ : Fld := ⟨.GGE_COL_STS, 32, 32⟩
abbrev F.GGE_FRZ_FREEZE : Fld := ⟨.GGE_FRZ, 0, 1⟩
abbrev F.GGE_FRZ_FROZEN : Fld := ⟨.GGE_FRZ, 1, 1⟩
abbrev F.GGE_FRZ_OVF_FROZE : Fld := ⟨.GGE_FRZ, 2, 1⟩
abbrev F.GGE_COL_ADDR_ADDR : Fld := ⟨.GGE_COL_ADDR, 12, 52⟩
abbrev F.GGE_COL_SIZE_PAGES : Fld := ⟨.GGE_COL_SIZE, 12, 20⟩
abbrev F.GGE_COL_RNG_A_FIRST : Fld := ⟨.GGE_COL_RNG_A, 0, 26⟩
abbrev F.GGE_COL_RNG_A_STATS : Fld := ⟨.GGE_COL_RNG_A, 26, 1⟩
abbrev F.GGE_COL_RNG_A_EN : Fld := ⟨.GGE_COL_RNG_A, 27, 1⟩
abbrev F.GGE_COL_RNG_A_ICOUNT : Fld := ⟨.GGE_COL_RNG_A, 32, 20⟩
abbrev F.GGE_COL_RNG_B_ISTRIDE : Fld := ⟨.GGE_COL_RNG_B, 0, 16⟩
abbrev F.GGE_COL_RNG_B_OCOUNT : Fld := ⟨.GGE_COL_RNG_B, 16, 16⟩
abbrev F.GGE_COL_RNG_B_OSTRIDE : Fld := ⟨.GGE_COL_RNG_B, 32, 24⟩
abbrev F.PWR_SEL_DOM : Fld := ⟨.PWR_SEL, 0, 64⟩
abbrev F.PWR_ECO_OFF_DOM : Fld := ⟨.PWR_ECO_OFF, 0, 64⟩
abbrev F.PWR_SEQ_STAGGER : Fld := ⟨.PWR_SEQ, 0, 4⟩
abbrev F.PWR_SEQ_RAMP : Fld := ⟨.PWR_SEQ, 4, 8⟩
abbrev F.PWR_SEQ_DRAIN_LIMIT : Fld := ⟨.PWR_SEQ, 16, 16⟩
abbrev F.PWR_CAP_CAP : Fld := ⟨.PWR_CAP, 0, 10⟩
abbrev F.PWR_CAP_EN : Fld := ⟨.PWR_CAP, 11, 1⟩
abbrev F.PWR_CAP_ECO_LVL : Fld := ⟨.PWR_CAP, 12, 3⟩
abbrev F.PWR_CAP_WIN : Fld := ⟨.PWR_CAP, 16, 8⟩
abbrev F.PWR_CAP_DWELL : Fld := ⟨.PWR_CAP, 24, 4⟩
abbrev F.PWR_CAP_HYST : Fld := ⟨.PWR_CAP, 28, 4⟩
abbrev F.PWR_CAP_STS_PWR : Fld := ⟨.PWR_CAP_STS, 0, 10⟩
abbrev F.PWR_CAP_STS_LEVEL : Fld := ⟨.PWR_CAP_STS, 10, 3⟩
abbrev F.PWR_CAP_STS_ALERT : Fld := ⟨.PWR_CAP_STS, 13, 1⟩
abbrev F.PWR_CAP_STS_PEAK : Fld := ⟨.PWR_CAP_STS, 16, 10⟩
abbrev F.PWR_TEMP_TJ : Fld := ⟨.PWR_TEMP, 0, 8⟩
abbrev F.PWR_TEMP_WARN : Fld := ⟨.PWR_TEMP, 8, 8⟩
abbrev F.PWR_TEMP_PEAK : Fld := ⟨.PWR_TEMP, 16, 8⟩
abbrev F.PWR_DOM_CMD_DOM : Fld := ⟨.PWR_DOM_CMD, 0, 6⟩
abbrev F.PWR_DOM_CMD_OP : Fld := ⟨.PWR_DOM_CMD, 6, 2⟩
abbrev F.PWR_DOM_CMD_GO : Fld := ⟨.PWR_DOM_CMD, 31, 1⟩
abbrev F.PWR_DOM_STS_STATE : Fld := ⟨.PWR_DOM_STS, 0, 3⟩
abbrev F.PWR_DOM_STS_REFUSED : Fld := ⟨.PWR_DOM_STS, 3, 1⟩
abbrev F.PWR_DOM_STS_UPS : Fld := ⟨.PWR_DOM_STS, 16, 16⟩
abbrev F.BOOT_STS_ATTEMPT : Fld := ⟨.BOOT_STS, 0, 2⟩
abbrev F.BOOT_STS_SLOT : Fld := ⟨.BOOT_STS, 2, 1⟩
abbrev F.BOOT_STS_FB : Fld := ⟨.BOOT_STS, 3, 1⟩
abbrev F.BOOT_STS_FB_REASON : Fld := ⟨.BOOT_STS, 4, 2⟩
abbrev F.BOOT_STS_CONFIRMED : Fld := ⟨.BOOT_STS, 6, 1⟩
abbrev F.BOOT_STS_FAIL_A : Fld := ⟨.BOOT_STS, 8, 4⟩
abbrev F.BOOT_STS_FAIL_B : Fld := ⟨.BOOT_STS, 12, 4⟩
abbrev F.BOOT_STS_LAST_END : Fld := ⟨.BOOT_STS, 16, 4⟩
abbrev F.BOOT_STS_CAUSE : Fld := ⟨.BOOT_STS, 20, 2⟩
abbrev F.BOOT_STS_SVN : Fld := ⟨.BOOT_STS, 24, 8⟩
abbrev F.BOOT_STS_SVN_MIN : Fld := ⟨.BOOT_STS, 32, 7⟩
abbrev F.BOOT_STS_KH0_REV : Fld := ⟨.BOOT_STS, 39, 1⟩
abbrev F.BOOT_CFG_PREFER : Fld := ⟨.BOOT_CFG, 0, 1⟩
abbrev F.BOOT_CFG_WDOG_MS : Fld := ⟨.BOOT_CFG, 4, 12⟩
abbrev F.BOOT_CFG_SETTLE : Fld := ⟨.BOOT_CFG, 16, 16⟩
abbrev F.BOOT_CTL_CONFIRM : Fld := ⟨.BOOT_CTL, 0, 1⟩
abbrev F.BOOT_CTL_RESTART : Fld := ⟨.BOOT_CTL, 1, 1⟩
abbrev F.BOOT_CTL_SVN_COMMIT : Fld := ⟨.BOOT_CTL, 2, 1⟩
abbrev F.BOOT_CTL_REVOKE0 : Fld := ⟨.BOOT_CTL, 3, 1⟩
abbrev F.BOOT_CTL_KICK : Fld := ⟨.BOOT_CTL, 4, 1⟩
abbrev F.BOOT_CTL_GUARD : Fld := ⟨.BOOT_CTL, 8, 8⟩
abbrev F.BOOT_SLOT_CTL_SLOT : Fld := ⟨.BOOT_SLOT_CTL, 0, 1⟩
abbrev F.BOOT_SLOT_CTL_LINE : Fld := ⟨.BOOT_SLOT_CTL, 1, 18⟩
abbrev F.BOOT_SLOT_CTL_BUSY : Fld := ⟨.BOOT_SLOT_CTL, 29, 1⟩
abbrev F.BOOT_SLOT_CTL_REFUSED : Fld := ⟨.BOOT_SLOT_CTL, 30, 1⟩
abbrev F.BOOT_SLOT_CTL_GO : Fld := ⟨.BOOT_SLOT_CTL, 31, 1⟩
abbrev F.BOOT_SLOT_DATA_BYTES : Fld := ⟨.BOOT_SLOT_DATA, 0, 32⟩
abbrev F.MSC_SECY_CFG_EN : Fld := ⟨.MSC_SECY_CFG, 0, 1⟩
abbrev F.MSC_SECY_CFG_VALIDATE : Fld := ⟨.MSC_SECY_CFG, 1, 2⟩
abbrev F.MSC_SECY_CFG_PROTECT : Fld := ⟨.MSC_SECY_CFG, 3, 1⟩
abbrev F.MSC_SECY_CFG_CONF : Fld := ⟨.MSC_SECY_CFG, 4, 1⟩
abbrev F.MSC_SECY_CFG_INCL_SCI : Fld := ⟨.MSC_SECY_CFG, 5, 1⟩
abbrev F.MSC_SECY_CFG_ENC_AN : Fld := ⟨.MSC_SECY_CFG, 6, 2⟩
abbrev F.MSC_SECY_CFG_REPLAY_EN : Fld := ⟨.MSC_SECY_CFG, 8, 1⟩
abbrev F.MSC_SECY_WIN_WINDOW : Fld := ⟨.MSC_SECY_WIN, 0, 32⟩
abbrev F.MSC_SECY_SCI_SCI : Fld := ⟨.MSC_SECY_SCI, 0, 64⟩
abbrev F.MSC_SA_CTL_EN : Fld := ⟨.MSC_SA_CTL, 0, 1⟩
abbrev F.MSC_SA_CTL_DIR : Fld := ⟨.MSC_SA_CTL, 1, 1⟩
abbrev F.MSC_SA_CTL_SLOT : Fld := ⟨.MSC_SA_CTL, 2, 3⟩
abbrev F.MSC_SA_CTL_AN : Fld := ⟨.MSC_SA_CTL, 5, 2⟩
abbrev F.MSC_SA_CTL_XPN : Fld := ⟨.MSC_SA_CTL, 7, 1⟩
abbrev F.MSC_SA_CTL_LOAD : Fld := ⟨.MSC_SA_CTL, 8, 1⟩
abbrev F.MSC_SA_SCI_SCI : Fld := ⟨.MSC_SA_SCI, 0, 64⟩
abbrev F.MSC_SA_PN_PN : Fld := ⟨.MSC_SA_PN, 0, 64⟩
abbrev F.MSC_SA_SSCI_SSCI : Fld := ⟨.MSC_SA_SSCI, 0, 32⟩
abbrev F.MSC_SA_STS_PN_WARN : Fld := ⟨.MSC_SA_STS, 0, 1⟩
abbrev F.MSC_SA_STS_EXHAUSTED : Fld := ⟨.MSC_SA_STS, 1, 1⟩
abbrev F.MSC_SA_STS_KEYED : Fld := ⟨.MSC_SA_STS, 2, 1⟩
abbrev F.MSC_SA_STS_REFUSED : Fld := ⟨.MSC_SA_STS, 3, 1⟩
abbrev F.SEC_DBG_CTL_CHAL : Fld := ⟨.SEC_DBG_CTL, 0, 1⟩
abbrev F.SEC_DBG_CTL_GO : Fld := ⟨.SEC_DBG_CTL, 1, 1⟩
abbrev F.SEC_DBG_CTL_REQ_LEVEL : Fld := ⟨.SEC_DBG_CTL, 2, 2⟩
abbrev F.SEC_DBG_CTL_LOCK : Fld := ⟨.SEC_DBG_CTL, 4, 1⟩
abbrev F.SEC_DBG_STS_LEVEL : Fld := ⟨.SEC_DBG_STS, 0, 2⟩
abbrev F.SEC_DBG_STS_BUSY : Fld := ⟨.SEC_DBG_STS, 2, 1⟩
abbrev F.SEC_DBG_STS_NONCE : Fld := ⟨.SEC_DBG_STS, 3, 1⟩
abbrev F.SEC_DBG_STS_FAILS : Fld := ⟨.SEC_DBG_STS, 4, 2⟩
abbrev F.SEC_DBG_STS_LOCKOUT : Fld := ⟨.SEC_DBG_STS, 6, 1⟩
abbrev F.SEC_DBG_STS_REFUSED : Fld := ⟨.SEC_DBG_STS, 7, 1⟩
abbrev F.SEC_CHAL_NONCE : Fld := ⟨.SEC_CHAL, 0, 32⟩
abbrev F.SEC_RESP_BYTES : Fld := ⟨.SEC_RESP, 0, 32⟩
abbrev F.GLB_SPLIT_LOSS_ALL : Fld := ⟨.GLB_SPLIT_LOSS, 0, 13⟩
abbrev F.GLB_SPLIT_EFF_ALL : Fld := ⟨.GLB_SPLIT_EFF, 0, 13⟩
abbrev F.FLT_EN_INT_EN : Fld := ⟨.FLT_EN_INT, 0, 32⟩
abbrev F.FLT_EN_PIN_EN : Fld := ⟨.FLT_EN_PIN, 0, 32⟩
abbrev F.FLT_EN_NTF_EN : Fld := ⟨.FLT_EN_NTF, 0, 32⟩
abbrev F.FLT_EN_JRN_EN : Fld := ⟨.FLT_EN_JRN, 0, 32⟩
abbrev F.FLT_EN_ACT_EN : Fld := ⟨.FLT_EN_ACT, 0, 32⟩
abbrev F.DMA_CQ_BASE_ADDR : Fld := ⟨.DMA_CQ_BASE, 12, 52⟩
abbrev F.DMA_CQ_IDX_ADDR : Fld := ⟨.DMA_CQ_IDX, 4, 60⟩
abbrev F.CAGE_I2C_DATA_BYTES : Fld := ⟨.CAGE_I2C_DATA, 0, 32⟩
abbrev F.MAC_MGT_PARSE_DEST : Fld := ⟨.MAC_MGT_PARSE, 0, 2⟩
abbrev F.MAC_MGT_PARSE_RPL : Fld := ⟨.MAC_MGT_PARSE, 4, 4⟩
abbrev F.MAC_MGT_PARSE_TC : Fld := ⟨.MAC_MGT_PARSE, 8, 3⟩
abbrev F.STE_SRC_MAP_SLOTS : Fld := ⟨.STE_SRC_MAP, 0, 32⟩
abbrev F.STE_ENG_STS_FREE : Fld := ⟨.STE_ENG_STS, 0, 7⟩
abbrev F.STE_ENG_STS_MIN_FREE : Fld := ⟨.STE_ENG_STS, 8, 7⟩
abbrev F.STE_STORE_INSTR : Fld := ⟨.STE_STORE, 0, 64⟩
abbrev F.STE_STORE_RD_INSTR : Fld := ⟨.STE_STORE_RD, 0, 64⟩
abbrev F.RCM_CMP_LOW : Fld := ⟨.RCM_CMP, 0, 16⟩
abbrev F.RCM_CMP_HIGH : Fld := ⟨.RCM_CMP, 16, 16⟩
abbrev F.RCM_CMP_OFF : Fld := ⟨.RCM_CMP, 32, 7⟩
abbrev F.RCM_CMP_EN : Fld := ⟨.RCM_CMP, 39, 1⟩
abbrev F.ACT_RSP_REASON_REASONS : Fld := ⟨.ACT_RSP_REASON, 8, 40⟩
abbrev F.MSC_KEY_BYTES : Fld := ⟨.MSC_KEY, 0, 32⟩
abbrev F.MSC_SALT_BYTES : Fld := ⟨.MSC_SALT, 0, 32⟩
abbrev F.SCH_PORT_PFC_PRIS : Fld := ⟨.SCH_PORT_PFC, 0, 24⟩
abbrev F.SCH_PORT_CW_CWS : Fld := ⟨.SCH_PORT_CW, 0, 64⟩
abbrev F.SCH_PORT_QW_QWS : Fld := ⟨.SCH_PORT_QW, 0, 64⟩
abbrev F.SCH_PORT_SHP_RATE : Fld := ⟨.SCH_PORT_SHP, 0, 28⟩
abbrev F.SCH_PORT_SHP_EN : Fld := ⟨.SCH_PORT_SHP, 31, 1⟩
abbrev F.SCH_PORT_SHP_BURST : Fld := ⟨.SCH_PORT_SHP, 32, 24⟩
abbrev F.SCH_PORT_TOK_TOK : Fld := ⟨.SCH_PORT_TOK, 0, 40⟩
abbrev F.SCH_Q_SHP_RATE : Fld := ⟨.SCH_Q_SHP, 0, 28⟩
abbrev F.SCH_Q_SHP_EN : Fld := ⟨.SCH_Q_SHP, 31, 1⟩
abbrev F.SCH_Q_SHP_BURST : Fld := ⟨.SCH_Q_SHP, 32, 24⟩
abbrev F.SCH_Q_TOK_TOK : Fld := ⟨.SCH_Q_TOK, 0, 40⟩
abbrev F.SCH_GRP_SHP_RATE : Fld := ⟨.SCH_GRP_SHP, 0, 28⟩
abbrev F.SCH_GRP_SHP_EN : Fld := ⟨.SCH_GRP_SHP, 31, 1⟩
abbrev F.SCH_GRP_SHP_BURST : Fld := ⟨.SCH_GRP_SHP, 32, 24⟩
abbrev F.SCH_GRP_TOK_TOK : Fld := ⟨.SCH_GRP_TOK, 0, 40⟩
abbrev F.PCX_CNT_COUNT : Fld := ⟨.PCX_CNT, 0, 64⟩
abbrev F.DMA_CNT_COUNT : Fld := ⟨.DMA_CNT, 0, 64⟩
abbrev F.CHT_CNT_COUNT : Fld := ⟨.CHT_CNT, 0, 64⟩
abbrev F.STE_CNT_COUNT : Fld := ⟨.STE_CNT, 0, 64⟩
abbrev F.ACT_CNT_COUNT : Fld := ⟨.ACT_CNT, 0, 64⟩
abbrev F.MAC_CNT_COUNT : Fld := ⟨.MAC_CNT, 0, 64⟩
abbrev F.MSC_SECY_CNT_COUNT : Fld := ⟨.MSC_SECY_CNT, 0, 64⟩
abbrev F.TCM_CNT_COUNT : Fld := ⟨.TCM_CNT, 0, 64⟩
abbrev F.LKP_CNT_COUNT : Fld := ⟨.LKP_CNT, 0, 64⟩
abbrev F.BPM_CNT_COUNT : Fld := ⟨.BPM_CNT, 0, 64⟩
abbrev F.SKN_CNT_COUNT : Fld := ⟨.SKN_CNT, 0, 64⟩
abbrev F.SCH_CNT_COUNT : Fld := ⟨.SCH_CNT, 0, 64⟩
abbrev F.YRN_CNT_COUNT : Fld := ⟨.YRN_CNT, 0, 64⟩
abbrev F.HBC_CNT_COUNT : Fld := ⟨.HBC_CNT, 0, 64⟩
abbrev F.HBC_TIM_WORD : Fld := ⟨.HBC_TIM, 0, 32⟩
abbrev F.HBC_DLY_WORD : Fld := ⟨.HBC_DLY, 0, 32⟩

end Sys2Proof.Machine
end

