-- ==== Sys2Proof/Machine/RegMap.lean ====
section
/-! DEFINITION. The register map: for every register of spec/ its address windows (R36), its width, its access domain
(R10), its power domain (R16), its reset value (R9) and the access codes of its fields as masks (R6). -/

namespace Sys2Proof.Machine

/-- The address windows of a register in BAR0 (R36). -/
def Reg.windows : Reg → List Window
  | .GLB_ID => [⟨0x0, [], 0⟩]
  | .GLB_UNITS => [⟨0x8, [], 0⟩]
  | .GLB_FWVER => [⟨0xC, [], 0⟩]
  | .GLB_SERIAL => [⟨0x10, [], 0⟩]
  | .GLB_MODE => [⟨0x20, [], 0⟩]
  | .GLB_MODE_REQ => [⟨0x24, [], 0⟩]
  | .GLB_MODE_STS => [⟨0x28, [], 0⟩]
  | .GLB_SPLIT => [⟨0x30, [], 0⟩]
  | .GLB_SPLIT_LOSS => [⟨0x34, [], 0⟩]
  | .GLB_SPLIT_EFF => [⟨0x38, [], 0⟩]
  | .GLB_HOSTLOSS => [⟨0x40, [], 0⟩]
  | .GLB_HEARTBEAT => [⟨0x44, [], 0⟩]
  | .GLB_FLT_SUM => [⟨0x100, [], 0⟩]
  | .GLB_FLT_PIN => [⟨0x104, [], 0⟩]
  | .FLT_STS => [⟨0x10000, [(23, 0x100)], 0⟩]
  | .FLT_LIVE => [⟨0x10004, [(23, 0x100)], 0⟩]
  | .FLT_EN_INT => [⟨0x10008, [(23, 0x100)], 0⟩]
  | .FLT_EN_PIN => [⟨0x1000C, [(23, 0x100)], 0⟩]
  | .FLT_EN_NTF => [⟨0x10010, [(23, 0x100)], 0⟩]
  | .FLT_EN_JRN => [⟨0x10014, [(23, 0x100)], 0⟩]
  | .FLT_EN_ACT => [⟨0x10018, [(23, 0x100)], 0⟩]
  | .FLT_INJ => [⟨0x1001C, [(23, 0x100)], 0⟩]
  | .FLT_FIRST => [⟨0x10020, [(23, 0x100)], 0⟩]
  | .FLT_FIRST_INFO => [⟨0x10028, [(23, 0x100)], 0⟩]
  | .FLT_INST => [⟨0x10030, [(23, 0x100), (2, 0x8)], 0⟩]
  | .FLT_CNT => [⟨0x10040, [(23, 0x100), (32, 0x4)], 0⟩]
  | .TIK_PERIOD => [⟨0x40000, [], 0⟩]
  | .TIK_PERIOD_NEXT => [⟨0x40004, [], 0⟩]
  | .TIK_PERIOD_AT => [⟨0x40008, [], 0⟩]
  | .TIK_COUNT => [⟨0x40010, [], 0⟩]
  | .TIK_CLK => [⟨0x40018, [], 0⟩]
  | .TIK_SYNC => [⟨0x40020, [], 0⟩]
  | .TIK_SYNC_DLY => [⟨0x40024, [], 0⟩]
  | .TIK_SYNC_STS => [⟨0x40028, [], 0⟩]
  | .TIK_COMMIT_CUTOFF => [⟨0x40030, [], 0⟩]
  | .TIK_COMMIT_STS => [⟨0x40034, [], 0⟩]
  | .TIK_COMMIT_DEFER => [⟨0x40038, [], 0⟩]
  | .TIK_OVERRUN => [⟨0x40040, [(9, 0x4)], 0⟩]
  | .TIK_OVR_STS => [⟨0x40070, [], 0⟩]
  | .PWR_SEL => [⟨0x100000, [], 0⟩]
  | .PWR_ECO_OFF => [⟨0x100008, [], 0⟩]
  | .PWR_SEQ => [⟨0x100010, [], 0⟩]
  | .PWR_CAP => [⟨0x100014, [], 0⟩]
  | .PWR_CAP_STS => [⟨0x100018, [], 0⟩]
  | .PWR_TEMP => [⟨0x10001C, [], 0⟩]
  | .PWR_DOM_CMD => [⟨0x100020, [], 0⟩]
  | .PWR_DOM_STS => [⟨0x100100, [(64, 0x4)], 0⟩]
  | .BOOT_STS => [⟨0x180000, [], 0⟩]
  | .BOOT_CFG => [⟨0x180008, [], 0⟩]
  | .BOOT_CTL => [⟨0x18000C, [], 0⟩]
  | .BOOT_SLOT_CTL => [⟨0x180010, [], 0⟩]
  | .BOOT_SLOT_DATA => [⟨0x180040, [(16, 0x4)], 0⟩]
  | .BOOT_JRN_CFG => [⟨0x1F0000, [], 0⟩]
  | .BOOT_JRN_STS => [⟨0x1F0008, [], 0⟩]
  | .BOOT_JRN_IDX => [⟨0x1F0010, [], 0⟩]
  | .BOOT_JRN_CMD => [⟨0x1F0014, [], 0⟩]
  | .BOOT_JRN_DATA => [⟨0x1F0100, [(32, 0x4)], 0⟩]
  | .PCX_LINK_STS => [⟨0x200000, [], 0⟩]
  | .PCX_LPM => [⟨0x200008, [], 0⟩]
  | .PCX_LTR => [⟨0x200010, [], 0⟩]
  | .PCX_STS => [⟨0x200014, [], 0⟩]
  | .PCX_FLR_BUSY => [⟨0x200018, [], 0⟩]
  | .PCX_FUNC_RINGS => [⟨0x200100, [(64, 0x8)], 0⟩]
  | .PCX_ISRC => [⟨0x200400, [(64, 0x4)], 0⟩]
  | .PCX_CNT => [⟨0x200600, [(12, 0x8)], 0⟩]
  | .PCX_IMOD => [⟨0x210000, [(4096, 0x4)], 0⟩]
  | .DMA_SQ_BASE => [⟨0x300000, [(4096, 0x20)], 0⟩]
  | .DMA_SQ_CFG => [⟨0x300008, [(4096, 0x20)], 0⟩]
  | .DMA_SQ_IDX => [⟨0x300010, [(4096, 0x20)], 0⟩]
  | .DMA_SQ_STS => [⟨0x300018, [(4096, 0x20)], 0⟩]
  | .DMA_CQ_BASE => [⟨0x320000, [(4096, 0x20)], 0⟩]
  | .DMA_CQ_CFG => [⟨0x320008, [(4096, 0x20)], 0⟩]
  | .DMA_CQ_IDX => [⟨0x320010, [(4096, 0x20)], 0⟩]
  | .DMA_CQ_STS => [⟨0x320018, [(4096, 0x20)], 0⟩]
  | .DMA_CFG => [⟨0x380000, [], 0⟩]
  | .DMA_RX_SEL => [⟨0x380040, [(8, 0x8)], 0⟩]
  | .DMA_NTF_MAP => [⟨0x380100, [(16, 0x4)], 0⟩]
  | .DMA_CNT => [⟨0x380200, [(14, 0x8)], 0⟩]
  | .CHT_CFG => [⟨0x400000, [], 0⟩]
  | .CHT_SEQ_STS => [⟨0x400100, [(8, 0x10)], 0⟩]
  | .CHT_ERR => [⟨0x400108, [(8, 0x10)], 0⟩]
  | .CHT_CNT => [⟨0x401000, [(9, 0x8)], 0⟩]
  | .TIM_TOD_SEC => [⟨0x600000, [], 0⟩]
  | .TIM_TOD_NS => [⟨0x600008, [], 0⟩]
  | .TIM_INCR => [⟨0x600010, [], 0⟩]
  | .TIM_ADJ => [⟨0x600018, [], 0⟩]
  | .TIM_SET_SEC => [⟨0x600020, [], 0⟩]
  | .TIM_SET_NS => [⟨0x600028, [], 0⟩]
  | .TIM_SYNCE => [⟨0x600100, [(2, 0x4)], 0⟩]
  | .TIM_SYNCE_STS => [⟨0x600108, [], 0⟩]
  | .TIM_PORT_DLY => [⟨0x601000, [(130, 0x4)], 0⟩]
  | .CAGE_CMB_CFG => [⟨0x684000, [], 0⟩]
  | .CAGE_CMB_CFG2 => [⟨0x684004, [], 0⟩]
  | .CAGE_CMB_STS => [⟨0x684008, [], 0⟩]
  | .CAGE_I2C_CTL => [⟨0x685000, [(8, 0x100)], 0⟩]
  | .CAGE_I2C_STS => [⟨0x685004, [(8, 0x100)], 0⟩]
  | .CAGE_I2C_DATA => [⟨0x685080, [(8, 0x100), (32, 0x4)], 0⟩]
  | .MAC_MGT_PARSE => [⟨0x680040, [(2, 0x1000)], 0⟩]
  | .SEC_DBG_CTL => [⟨0x700000, [], 0⟩]
  | .SEC_DBG_STS => [⟨0x700004, [], 0⟩]
  | .SEC_CHAL => [⟨0x700040, [(8, 0x4)], 0⟩]
  | .SEC_RESP => [⟨0x700100, [(48, 0x4)], 0⟩]
  | .STE_BUDGET => [⟨0x1000000, [(16, 0x100000)], 0⟩]
  | .STE_DISP_CFG => [⟨0x1000004, [(16, 0x100000)], 0⟩]
  | .STE_IMG => [⟨0x1000010, [(16, 0x100000)], 0⟩]
  | .STE_IMG_AT => [⟨0x1000014, [(16, 0x100000)], 0⟩]
  | .STE_IMG_STS => [⟨0x1000018, [(16, 0x100000)], 0⟩]
  | .STE_OUTER_CFG => [⟨0x1000040, [(16, 0x100000)], 0⟩]
  | .STE_OUTER_ACT => [⟨0x1000050, [(16, 0x100000), (8, 0x4)], 0⟩]
  | .STE_FIX_CFG => [⟨0x1000070, [(16, 0x100000)], 0⟩]
  | .STE_ENTRY => [⟨0x1000100, [(16, 0x100000), (2, 0x80), (2, 0x40), (16, 0x4)], 0⟩]
  | .STE_SRC_MAP => [⟨0x1000200, [(16, 0x100000), (2, 0x10), (2, 0x8)], 0⟩]
  | .STE_PAGES => [⟨0x1000220, [(16, 0x100000), (2, 0x8), (2, 0x4)], 0⟩]
  | .STE_CNT => [⟨0x1000300, [(16, 0x100000), (16, 0x8)], 0⟩]
  | .STE_ENG_STS => [⟨0x1001000, [(16, 0x100000), (4, 0x400)], 0⟩]
  | .STE_STORE => [⟨0x1010000, [(16, 0x100000), (2, 0x10000), (8192, 0x8)], 0⟩]
  | .STE_STORE_RD => [⟨0x1040000, [(16, 0x100000), (4, 0x10000), (8192, 0x8)], 0⟩]
  | .RCM_CMP => [⟨0x1080000, [(16, 0x100000), (64, 0x8)], 0⟩]
  | .ACT_CFG => [⟨0x10A0000, [(16, 0x100000)], 0⟩]
  | .ACT_RSP_CFG => [⟨0x10A0004, [(16, 0x100000)], 0⟩]
  | .ACT_RSP_REASON => [⟨0x10A0008, [(16, 0x100000)], 0⟩]
  | .ACT_RSP_RATE => [⟨0x10A0010, [(16, 0x100000), (4, 0x4)], 0⟩]
  | .ACT_HOSTPOL => [⟨0x10A0020, [(16, 0x100000), (8, 0x4)], 0⟩]
  | .ACT_CNT => [⟨0x10A0100, [(16, 0x100000), (25, 0x8)], 0⟩]
  | .ACT_LAG => [⟨0x10A1000, [(16, 0x100000), (128, 0x80)], 0⟩]
  | .ACT_LAG_MEM => [⟨0x10A1004, [(16, 0x100000), (128, 0x80), (16, 0x4)], 0⟩]
  | .ACT_PORT_MAC => [⟨0x10A6000, [(16, 0x100000), (8, 0x100)], 0⟩]
  | .ACT_LACP_CTL => [⟨0x10A6008, [(16, 0x100000), (8, 0x100)], 0⟩]
  | .ACT_LACP_PDU => [⟨0x10A6080, [(16, 0x100000), (8, 0x100), (31, 0x4)], 0⟩]
  | .ACT_BFD_CTL => [⟨0x10A8000, [(16, 0x100000), (256, 0x80)], 0⟩]
  | .ACT_BFD_FMT => [⟨0x10A8008, [(16, 0x100000), (256, 0x80)], 0⟩]
  | .ACT_BFD_STS => [⟨0x10A800C, [(16, 0x100000), (256, 0x80)], 0⟩]
  | .ACT_BFD_TPL => [⟨0x10A8020, [(16, 0x100000), (256, 0x80), (24, 0x4)], 0⟩]
  | .GGE_CTL => [⟨0x10C0000, [(16, 0x100000), (16, 0x8)], 0⟩, ⟨0x3E00000, [(2, 0x10000), (32, 0x8)], 256⟩]
  | .GGE_CNT => [⟨0x10C0200, [(16, 0x100000), (16, 0x8)], 0⟩, ⟨0x3E00200, [(2, 0x10000), (32, 0x8)], 256⟩]
  | .GGE_OVF => [⟨0x10C0400, [(16, 0x100000)], 0⟩, ⟨0x3E00400, [(2, 0x10000)], 16⟩]
  | .GGE_SMP_CFG => [⟨0x10C0408, [(16, 0x100000)], 0⟩]
  | .GGE_SBUF_STS => [⟨0x3E00408, [(2, 0x10000)], 0⟩]
  | .GGE_COL_CFG => [⟨0x3F00000, [], 0⟩]
  | .GGE_COL_CMD => [⟨0x3F00004, [], 0⟩]
  | .GGE_COL_STS => [⟨0x3F00008, [], 0⟩]
  | .GGE_FRZ => [⟨0x3F00010, [], 0⟩]
  | .GGE_COL_ADDR => [⟨0x3F00020, [(2, 0x8)], 0⟩]
  | .GGE_COL_SIZE => [⟨0x3F00030, [], 0⟩]
  | .GGE_COL_RNG_A => [⟨0x3F00100, [(32, 0x10)], 0⟩]
  | .GGE_COL_RNG_B => [⟨0x3F00108, [(32, 0x10)], 0⟩]
  | .SDS_LANE_CFG => [⟨0x2000000, [(16, 0x80000), (8, 0x1000)], 0⟩, ⟨0x682000, [(2, 0x1000)], 128⟩]
  | .SDS_LANE_TXEQ => [⟨0x2000004, [(16, 0x80000), (8, 0x1000)], 0⟩, ⟨0x682004, [(2, 0x1000)], 128⟩]
  | .SDS_LANE_STS => [⟨0x2000008, [(16, 0x80000), (8, 0x1000)], 0⟩, ⟨0x682008, [(2, 0x1000)], 128⟩]
  | .MAC_PORT_CFG => [⟨0x2010000, [(16, 0x80000), (8, 0x1000)], 0⟩, ⟨0x680000, [(2, 0x1000)], 128⟩]
  | .MAC_PORT_LINK => [⟨0x2010004, [(16, 0x80000), (8, 0x1000)], 0⟩, ⟨0x680004, [(2, 0x1000)], 128⟩]
  | .MAC_PORT_STS => [⟨0x2010008, [(16, 0x80000), (8, 0x1000)], 0⟩, ⟨0x680008, [(2, 0x1000)], 128⟩]
  | .MAC_PORT_CMD => [⟨0x201000C, [(16, 0x80000), (8, 0x1000)], 0⟩, ⟨0x68000C, [(2, 0x1000)], 128⟩]
  | .MAC_CNT => [⟨0x2010100, [(16, 0x80000), (8, 0x1000), (16, 0x8)], 0⟩, ⟨0x680100, [(2, 0x1000), (16, 0x8)], 2048⟩]
  | .CAGE_CAP => [⟨0x2070000, [(16, 0x80000), (8, 0x100)], 0⟩]
  | .CAGE_CTL => [⟨0x2070004, [(16, 0x80000), (8, 0x100)], 0⟩]
  | .CAGE_STS => [⟨0x2070008, [(16, 0x80000), (8, 0x100)], 0⟩]
  | .MSC_SECY_CFG => [⟨0x2040000, [(16, 0x80000), (8, 0x100)], 0⟩]
  | .MSC_SECY_WIN => [⟨0x2040004, [(16, 0x80000), (8, 0x100)], 0⟩]
  | .MSC_SECY_SCI => [⟨0x2040008, [(16, 0x80000), (8, 0x100)], 0⟩]
  | .MSC_SECY_CNT => [⟨0x2040040, [(16, 0x80000), (8, 0x100), (8, 0x8)], 0⟩]
  | .MSC_SA_CTL => [⟨0x2050000, [(16, 0x80000), (64, 0x80)], 0⟩]
  | .MSC_SA_SCI => [⟨0x2050008, [(16, 0x80000), (64, 0x80)], 0⟩]
  | .MSC_SA_PN => [⟨0x2050010, [(16, 0x80000), (64, 0x80)], 0⟩]
  | .MSC_SA_SSCI => [⟨0x2050018, [(16, 0x80000), (64, 0x80)], 0⟩]
  | .MSC_SA_STS => [⟨0x205001C, [(16, 0x80000), (64, 0x80)], 0⟩]
  | .MSC_KEY => [⟨0x2060000, [(16, 0x80000), (8, 0x4)], 0⟩]
  | .MSC_SALT => [⟨0x2060020, [(16, 0x80000), (3, 0x4)], 0⟩]
  | .TCM_SCRUB_CFG => [⟨0x3000000, [(2, 0x200000)], 0⟩]
  | .TCM_SCRUB_STS => [⟨0x3000004, [(2, 0x200000)], 0⟩]
  | .TCM_ERR_SLOT => [⟨0x3000008, [(2, 0x200000)], 0⟩]
  | .TCM_CNT => [⟨0x3000100, [(2, 0x200000), (12, 0x8)], 0⟩]
  | .TCM_PANEL_CFG => [⟨0x3001000, [(2, 0x200000), (24, 0x10)], 0⟩]
  | .TCM_PANEL_STS => [⟨0x3001004, [(2, 0x200000), (24, 0x10)], 0⟩]
  | .TCM_PROF_CFG => [⟨0x3010000, [(64, 0x100)], 0⟩]
  | .TCM_PROF_PMASK => [⟨0x3010008, [(64, 0x100)], 0⟩]
  | .TCM_PROF_RCMASK => [⟨0x3010010, [(64, 0x100)], 0⟩]
  | .TCM_PROF_GMASK => [⟨0x3010040, [(64, 0x100), (20, 0x4)], 0⟩]
  | .LKP_CASTON_REDIR => [⟨0x3400000, [], 0⟩]
  | .LKP_HASH_SEED => [⟨0x3410000, [(2, 0x10000), (3, 0x8), (2, 0x4)], 0⟩]
  | .LKP_HASH_CFG => [⟨0x3410020, [(2, 0x10000)], 0⟩]
  | .LKP_HW_CFG => [⟨0x3410024, [(2, 0x10000)], 0⟩]
  | .LKP_LEARN_CFG => [⟨0x3410028, [(2, 0x10000)], 0⟩]
  | .LKP_SESS_CFG => [⟨0x3410030, [(2, 0x10000)], 0⟩]
  | .LKP_AGE_CFG => [⟨0x3410040, [(2, 0x10000), (2, 0x4)], 0⟩]
  | .LKP_TBL_STS => [⟨0x3410050, [(2, 0x10000), (3, 0x4)], 0⟩]
  | .LKP_SID_STS => [⟨0x341005C, [(2, 0x10000)], 0⟩]
  | .LKP_EVQ_STS => [⟨0x3410060, [(2, 0x10000)], 0⟩]
  | .LKP_CNT => [⟨0x3410100, [(2, 0x10000), (16, 0x8)], 0⟩]
  | .BPM_POOL_CFG => [⟨0x3800000, [(2, 0x8000)], 0⟩]
  | .BPM_POOL_STS => [⟨0x3800008, [(2, 0x8000)], 0⟩]
  | .BPM_SYS => [⟨0x3800010, [(2, 0x8000), (2, 0x8)], 0⟩]
  | .BPM_QPROF => [⟨0x3800100, [(2, 0x8000), (16, 0x8)], 0⟩]
  | .BPM_PGPROF => [⟨0x3800200, [(2, 0x8000), (8, 0x8)], 0⟩]
  | .BPM_PORT => [⟨0x3800400, [(2, 0x8000), (64, 0x4)], 0⟩]
  | .BPM_PG_STS => [⟨0x3800800, [(2, 0x8000), (64, 0x20), (8, 0x4)], 0⟩]
  | .BPM_CNT => [⟨0x3801000, [(2, 0x8000), (6, 0x8)], 0⟩]
  | .SKN_CELL_FREE => [⟨0x3810000, [(2, 0x8000)], 0⟩]
  | .SKN_SPILL_CFG => [⟨0x3810008, [(2, 0x8000)], 0⟩]
  | .SKN_SPILL_STS => [⟨0x3810010, [(2, 0x8000)], 0⟩]
  | .SKN_SPILL_PROF_A => [⟨0x3810100, [(2, 0x8000), (16, 0x10)], 0⟩]
  | .SKN_SPILL_PROF_B => [⟨0x3810108, [(2, 0x8000), (16, 0x10)], 0⟩]
  | .SKN_CNT => [⟨0x3810200, [(2, 0x8000), (11, 0x8)], 0⟩]
  | .SKN_CTX_STS => [⟨0x3820000, [(2, 0x20000), (4096, 0x20)], 0⟩]
  | .SKN_CTX_CNT => [⟨0x3820008, [(2, 0x20000), (4096, 0x20)], 0⟩]
  | .SKN_Q => [⟨0x3860000, [(2, 0x50000), (34048, 0x8)], 0⟩]
  | .SCH_XBAR_CFG => [⟨0x3900000, [(2, 0x80000)], 0⟩]
  | .SCH_CFG => [⟨0x3900004, [(2, 0x80000)], 0⟩]
  | .SCH_MC_CFG => [⟨0x3900008, [(2, 0x80000)], 0⟩]
  | .SCH_MC_STS => [⟨0x390000C, [(2, 0x80000)], 0⟩]
  | .SCH_BURST => [⟨0x3900040, [(2, 0x80000), (16, 0x4)], 0⟩]
  | .SCH_PROBE => [⟨0x3900080, [(2, 0x80000)], 0⟩]
  | .SCH_PROBE_TOK => [⟨0x3900088, [(2, 0x80000)], 0⟩]
  | .SCH_CNT => [⟨0x3900100, [(2, 0x80000), (10, 0x8)], 0⟩]
  | .SCH_PORT => [⟨0x3901000, [(2, 0x80000), (75, 0x100)], 0⟩]
  | .SCH_PORT_PFC => [⟨0x3901004, [(2, 0x80000), (75, 0x100)], 0⟩]
  | .SCH_PORT_CW => [⟨0x3901008, [(2, 0x80000), (75, 0x100)], 0⟩]
  | .SCH_PORT_QW => [⟨0x3901010, [(2, 0x80000), (75, 0x100)], 0⟩]
  | .SCH_PORT_MQW => [⟨0x3901018, [(2, 0x80000), (75, 0x100)], 0⟩]
  | .SCH_PORT_STS => [⟨0x390101C, [(2, 0x80000), (75, 0x100)], 0⟩]
  | .SCH_PORT_SHP => [⟨0x3901020, [(2, 0x80000), (75, 0x100)], 0⟩]
  | .SCH_PORT_TOK => [⟨0x3901028, [(2, 0x80000), (75, 0x100)], 0⟩]
  | .SCH_Q_SHP => [⟨0x3901030, [(2, 0x80000), (75, 0x100), (10, 0x10)], 0⟩]
  | .SCH_Q_TOK => [⟨0x3901038, [(2, 0x80000), (75, 0x100), (10, 0x10)], 0⟩]
  | .SCH_GRP => [⟨0x3910000, [(2, 0x80000), (4096, 0x20)], 0⟩]
  | .SCH_GRP_STS => [⟨0x3910004, [(2, 0x80000), (4096, 0x20)], 0⟩]
  | .SCH_GRP_SHP => [⟨0x3910008, [(2, 0x80000), (4096, 0x20)], 0⟩]
  | .SCH_GRP_TOK => [⟨0x3910010, [(2, 0x80000), (4096, 0x20)], 0⟩]
  | .SCH_LEAF => [⟨0x3940000, [(2, 0x80000), (32768, 0x8)], 0⟩]
  | .YRN_ID => [⟨0x3A00000, [], 0⟩]
  | .YRN_CFG => [⟨0x3A00004, [], 0⟩]
  | .YRN_MC => [⟨0x3A00008, [], 0⟩]
  | .YRN_RESEQ_CFG => [⟨0x3A0000C, [], 0⟩]
  | .YRN_RESEQ_CMD => [⟨0x3A00010, [], 0⟩]
  | .YRN_RSQ_STS => [⟨0x3A10000, [(2, 0x8000)], 0⟩]
  | .YRN_CNT => [⟨0x3A10100, [(2, 0x8000), (19, 0x8)], 0⟩]
  | .YRN_SET => [⟨0x3A30000, [(64, 0x10), (2, 0x8)], 0⟩]
  | .YRN_ROUTE => [⟨0x3A40000, [(16384, 0x4)], 0⟩]
  | .YRN_CTX => [⟨0x3B00000, [(2, 0x80000), (131072, 0x4)], 0⟩]
  | .HBC_STS => [⟨0x3C00000, [(4, 0x40000)], 0⟩]
  | .HBC_SPD_CMD => [⟨0x3C00004, [(4, 0x40000)], 0⟩]
  | .HBC_SPD_CFG => [⟨0x3C00008, [(4, 0x40000)], 0⟩]
  | .HBC_SPD_CFG2 => [⟨0x3C0000C, [(4, 0x40000)], 0⟩]
  | .HBC_SET_VALID => [⟨0x3C00010, [(4, 0x40000)], 0⟩]
  | .HBC_GEOM => [⟨0x3C00014, [(4, 0x40000)], 0⟩]
  | .HBC_REF_CFG => [⟨0x3C00020, [(4, 0x40000)], 0⟩]
  | .HBC_TEMP => [⟨0x3C00024, [(4, 0x40000)], 0⟩]
  | .HBC_ECC_LOG => [⟨0x3C00030, [(4, 0x40000)], 0⟩]
  | .HBC_TIM => [⟨0x3C00100, [(4, 0x40000), (4, 0x20), (8, 0x4)], 0⟩]
  | .HBC_CNT => [⟨0x3C00200, [(4, 0x40000), (9, 0x8)], 0⟩]
  | .HBC_DLY => [⟨0x3C01000, [(4, 0x40000), (4, 0x400), (160, 0x4)], 0⟩]

/-- The width of a register in bits: 32 or 64. -/
def Reg.width : Reg → Nat
  | .GLB_ID | .GLB_SERIAL | .FLT_FIRST | .FLT_FIRST_INFO | .FLT_INST | .TIK_COUNT | .PWR_SEL | .PWR_ECO_OFF
  | .BOOT_STS | .BOOT_JRN_STS | .PCX_LPM | .PCX_FLR_BUSY | .PCX_FUNC_RINGS | .PCX_CNT | .DMA_SQ_BASE
  | .DMA_SQ_CFG | .DMA_SQ_IDX | .DMA_SQ_STS | .DMA_CQ_BASE | .DMA_CQ_CFG | .DMA_CQ_IDX | .DMA_CQ_STS
  | .DMA_RX_SEL | .DMA_CNT | .CHT_SEQ_STS | .CHT_ERR | .CHT_CNT | .TIM_TOD_SEC | .TIM_INCR | .TIM_ADJ
  | .TIM_SET_SEC | .STE_SRC_MAP | .STE_CNT | .STE_STORE | .STE_STORE_RD | .RCM_CMP | .ACT_RSP_REASON
  | .ACT_CNT | .ACT_PORT_MAC | .ACT_BFD_CTL | .GGE_CTL | .GGE_CNT | .GGE_SMP_CFG | .GGE_COL_STS
  | .GGE_COL_ADDR | .GGE_COL_RNG_A | .GGE_COL_RNG_B | .MAC_CNT | .MSC_SECY_SCI | .MSC_SECY_CNT
  | .MSC_SA_SCI | .MSC_SA_PN | .TCM_CNT | .TCM_PROF_CFG | .TCM_PROF_PMASK | .TCM_PROF_RCMASK
  | .LKP_CASTON_REDIR | .LKP_SESS_CFG | .LKP_CNT | .BPM_POOL_CFG | .BPM_POOL_STS | .BPM_SYS | .BPM_QPROF
  | .BPM_PGPROF | .BPM_CNT | .SKN_CELL_FREE | .SKN_SPILL_STS | .SKN_SPILL_PROF_A | .SKN_SPILL_PROF_B
  | .SKN_CNT | .SKN_CTX_STS | .SKN_CTX_CNT | .SKN_Q | .SCH_PROBE_TOK | .SCH_CNT | .SCH_PORT_CW
  | .SCH_PORT_QW | .SCH_PORT_SHP | .SCH_PORT_TOK | .SCH_Q_SHP | .SCH_Q_TOK | .SCH_GRP_SHP | .SCH_GRP_TOK
  | .SCH_LEAF | .YRN_RSQ_STS | .YRN_CNT | .YRN_SET | .HBC_ECC_LOG | .HBC_CNT => 64
  | _ => 32

/-- The access domain of a register (R10, Table 0-5). -/
def Reg.dom : Reg → List Dom
  | .GLB_ID | .TIK_COUNT => [.pf0, .pf1, .vf, .mc, .cs, .jt]
  | .GLB_UNITS | .GLB_MODE | .GLB_SPLIT_EFF | .GLB_FLT_SUM | .GLB_FLT_PIN | .FLT_STS | .FLT_LIVE | .FLT_CNT
  | .TIK_PERIOD | .TIK_CLK | .TIK_COMMIT_STS | .TIM_TOD_SEC | .TIM_TOD_NS | .STE_IMG_STS | .STE_CNT
  | .STE_ENG_STS | .ACT_CNT | .ACT_BFD_STS | .GGE_CNT | .GGE_OVF | .GGE_SBUF_STS | .MAC_PORT_STS | .MAC_CNT
  | .TCM_SCRUB_STS | .TCM_ERR_SLOT | .TCM_CNT | .TCM_PANEL_STS | .LKP_TBL_STS | .LKP_SID_STS | .LKP_EVQ_STS
  | .LKP_CNT | .BPM_POOL_STS | .BPM_PG_STS | .BPM_CNT | .SKN_CELL_FREE | .SKN_SPILL_STS | .SKN_CNT
  | .SKN_CTX_STS | .SKN_CTX_CNT | .SCH_MC_STS | .SCH_PROBE_TOK | .SCH_CNT | .SCH_PORT_STS | .SCH_PORT_TOK
  | .SCH_Q_TOK | .SCH_GRP_STS | .SCH_GRP_TOK | .YRN_RSQ_STS | .YRN_CNT | .HBC_STS | .HBC_TEMP | .HBC_CNT => [.pf0, .pf1, .mc, .cs, .jt]
  | .GLB_FWVER | .GLB_SERIAL | .GLB_MODE_STS | .FLT_FIRST | .FLT_FIRST_INFO | .FLT_INST | .TIK_SYNC_STS
  | .TIK_COMMIT_DEFER | .TIK_OVR_STS | .PWR_CAP_STS | .PWR_TEMP | .PWR_DOM_STS | .BOOT_STS | .BOOT_JRN_STS
  | .BOOT_JRN_IDX | .BOOT_JRN_DATA | .PCX_LINK_STS | .PCX_FLR_BUSY | .PCX_CNT | .DMA_CNT | .CHT_SEQ_STS
  | .CHT_ERR | .CHT_CNT | .TIM_SYNCE_STS | .CAGE_CMB_STS | .GGE_COL_STS | .SDS_LANE_STS | .CAGE_STS
  | .MSC_SECY_CNT | .MSC_SA_STS | .YRN_CTX | .HBC_GEOM | .HBC_ECC_LOG => [.pf0, .pf1, .mc, .jt]
  | .GLB_MODE_REQ | .GLB_SPLIT_LOSS | .GLB_HOSTLOSS | .FLT_EN_INT | .FLT_EN_PIN | .FLT_EN_NTF | .FLT_EN_JRN
  | .FLT_EN_ACT | .FLT_INJ | .TIK_PERIOD_NEXT | .TIK_PERIOD_AT | .TIK_SYNC | .TIK_SYNC_DLY
  | .TIK_COMMIT_CUTOFF | .TIK_OVERRUN | .PWR_SEL | .PWR_ECO_OFF | .PWR_SEQ | .PWR_CAP | .PWR_DOM_CMD
  | .BOOT_CFG | .BOOT_CTL | .BOOT_SLOT_CTL | .BOOT_SLOT_DATA | .BOOT_JRN_CFG | .BOOT_JRN_CMD | .PCX_LPM
  | .PCX_LTR | .PCX_STS | .PCX_FUNC_RINGS | .PCX_ISRC | .DMA_CFG | .DMA_RX_SEL | .DMA_NTF_MAP | .CHT_CFG
  | .TIM_INCR | .TIM_ADJ | .TIM_SET_SEC | .TIM_SET_NS | .TIM_SYNCE | .TIM_PORT_DLY | .CAGE_CMB_CFG
  | .CAGE_CMB_CFG2 | .CAGE_I2C_CTL | .CAGE_I2C_STS | .CAGE_I2C_DATA | .MAC_MGT_PARSE | .STE_FIX_CFG
  | .GGE_COL_CFG | .GGE_COL_CMD | .GGE_COL_ADDR | .GGE_COL_SIZE | .GGE_COL_RNG_A | .GGE_COL_RNG_B
  | .SDS_LANE_CFG | .SDS_LANE_TXEQ | .MAC_PORT_LINK | .CAGE_CAP | .CAGE_CTL | .MSC_SECY_CFG | .MSC_SECY_WIN
  | .MSC_SECY_SCI | .MSC_SA_CTL | .MSC_SA_SCI | .MSC_SA_PN | .MSC_SA_SSCI | .HBC_SET_VALID | .HBC_REF_CFG
  | .HBC_TIM | .HBC_DLY => [.pf0, .mc, .jt]
  | .GLB_SPLIT | .STE_BUDGET | .STE_DISP_CFG | .STE_IMG | .STE_IMG_AT | .STE_OUTER_CFG | .STE_OUTER_ACT
  | .STE_ENTRY | .STE_SRC_MAP | .STE_PAGES | .STE_STORE | .STE_STORE_RD | .RCM_CMP | .ACT_CFG
  | .ACT_RSP_CFG | .ACT_RSP_REASON | .ACT_RSP_RATE | .ACT_HOSTPOL | .ACT_LAG | .ACT_LAG_MEM | .ACT_PORT_MAC
  | .ACT_LACP_CTL | .ACT_LACP_PDU | .ACT_BFD_CTL | .ACT_BFD_FMT | .ACT_BFD_TPL | .GGE_CTL | .GGE_SMP_CFG
  | .GGE_FRZ | .MAC_PORT_CFG | .MAC_PORT_CMD | .TCM_SCRUB_CFG | .TCM_PANEL_CFG | .TCM_PROF_CFG
  | .TCM_PROF_PMASK | .TCM_PROF_RCMASK | .TCM_PROF_GMASK | .LKP_CASTON_REDIR | .LKP_HASH_SEED
  | .LKP_HASH_CFG | .LKP_HW_CFG | .LKP_LEARN_CFG | .LKP_SESS_CFG | .LKP_AGE_CFG | .BPM_POOL_CFG | .BPM_SYS
  | .BPM_QPROF | .BPM_PGPROF | .BPM_PORT | .SKN_SPILL_CFG | .SKN_SPILL_PROF_A | .SKN_SPILL_PROF_B | .SKN_Q
  | .SCH_XBAR_CFG | .SCH_CFG | .SCH_MC_CFG | .SCH_BURST | .SCH_PROBE | .SCH_PORT | .SCH_PORT_PFC
  | .SCH_PORT_CW | .SCH_PORT_QW | .SCH_PORT_MQW | .SCH_PORT_SHP | .SCH_Q_SHP | .SCH_GRP | .SCH_GRP_SHP
  | .SCH_LEAF | .YRN_ID | .YRN_CFG | .YRN_MC | .YRN_RESEQ_CFG | .YRN_RESEQ_CMD | .YRN_SET | .YRN_ROUTE
  | .HBC_SPD_CMD | .HBC_SPD_CFG | .HBC_SPD_CFG2 => [.pf0, .mc, .cs, .jt]
  | .GLB_HEARTBEAT => [.pf0, .pf1]
  | .PCX_IMOD => [.pf0, .pf1, .vf, .mc, .jt]
  | .DMA_SQ_BASE | .DMA_SQ_CFG | .DMA_SQ_IDX | .DMA_SQ_STS | .DMA_CQ_BASE | .DMA_CQ_CFG | .DMA_CQ_IDX
  | .DMA_CQ_STS => [.pf0, .own, .mc, .jt]
  | .SEC_DBG_CTL | .SEC_CHAL | .SEC_RESP => [.pf0, .mc, .ts]
  | .SEC_DBG_STS => [.pf0, .pf1, .mc, .ts]
  | .MSC_KEY | .MSC_SALT => [.pf0, .mc]

/-- Where the supply of a register lies (R16). -/
def Reg.power : Reg → Power
  | .GLB_ID | .GLB_UNITS | .GLB_FWVER | .GLB_SERIAL | .GLB_MODE | .GLB_MODE_REQ | .GLB_MODE_STS
  | .GLB_SPLIT | .GLB_SPLIT_LOSS | .GLB_SPLIT_EFF | .GLB_HOSTLOSS | .GLB_HEARTBEAT | .GLB_FLT_SUM
  | .GLB_FLT_PIN | .FLT_STS | .FLT_LIVE | .FLT_EN_INT | .FLT_EN_PIN | .FLT_EN_NTF | .FLT_EN_JRN
  | .FLT_EN_ACT | .FLT_INJ | .FLT_FIRST | .FLT_FIRST_INFO | .FLT_INST | .FLT_CNT | .TIK_PERIOD
  | .TIK_PERIOD_NEXT | .TIK_PERIOD_AT | .TIK_COUNT | .TIK_CLK | .TIK_SYNC | .TIK_SYNC_DLY | .TIK_SYNC_STS
  | .TIK_COMMIT_CUTOFF | .TIK_COMMIT_STS | .TIK_COMMIT_DEFER | .TIK_OVERRUN | .TIK_OVR_STS | .PWR_SEL
  | .PWR_ECO_OFF | .PWR_SEQ | .PWR_CAP | .PWR_CAP_STS | .PWR_TEMP | .PWR_DOM_CMD | .PWR_DOM_STS | .BOOT_STS
  | .BOOT_CFG | .BOOT_CTL | .BOOT_SLOT_CTL | .BOOT_SLOT_DATA | .BOOT_JRN_CFG | .BOOT_JRN_STS
  | .BOOT_JRN_IDX | .BOOT_JRN_CMD | .BOOT_JRN_DATA | .CAGE_CMB_CFG | .CAGE_CMB_CFG2 | .CAGE_CMB_STS
  | .CAGE_I2C_CTL | .CAGE_I2C_STS | .CAGE_I2C_DATA | .MAC_MGT_PARSE | .SEC_DBG_CTL | .SEC_DBG_STS
  | .SEC_CHAL | .SEC_RESP | .CAGE_CAP | .CAGE_CTL | .CAGE_STS => .aon
  | .PCX_LINK_STS | .PCX_LPM | .PCX_LTR | .PCX_STS | .PCX_FLR_BUSY | .PCX_FUNC_RINGS | .PCX_ISRC | .PCX_CNT
  | .PCX_IMOD | .DMA_SQ_BASE | .DMA_SQ_CFG | .DMA_SQ_IDX | .DMA_SQ_STS | .DMA_CQ_BASE | .DMA_CQ_CFG
  | .DMA_CQ_IDX | .DMA_CQ_STS | .DMA_CFG | .DMA_RX_SEL | .DMA_NTF_MAP | .DMA_CNT => .pd 56
  | .CHT_CFG | .CHT_SEQ_STS | .CHT_ERR | .CHT_CNT => .pd 57
  | .TIM_TOD_SEC | .TIM_TOD_NS | .TIM_INCR | .TIM_ADJ | .TIM_SET_SEC | .TIM_SET_NS | .TIM_SYNCE
  | .TIM_SYNCE_STS | .TIM_PORT_DLY => .pd 63
  | .STE_BUDGET | .STE_DISP_CFG | .STE_IMG | .STE_IMG_AT | .STE_IMG_STS | .STE_OUTER_CFG | .STE_FIX_CFG
  | .ACT_CFG | .ACT_RSP_CFG | .ACT_RSP_REASON | .GGE_SMP_CFG => .pipe 1
  | .STE_OUTER_ACT | .ACT_HOSTPOL | .ACT_PORT_MAC | .ACT_LACP_CTL => .pipe 8
  | .STE_ENTRY | .RCM_CMP => .pipe 64
  | .STE_SRC_MAP | .STE_PAGES | .STE_ENG_STS | .ACT_RSP_RATE => .pipe 4
  | .STE_CNT => .pipe 16
  | .STE_STORE => .pipe 16384
  | .STE_STORE_RD => .pipe 32768
  | .ACT_CNT => .pipe 25
  | .ACT_LAG => .pipe 128
  | .ACT_LAG_MEM => .pipe 2048
  | .ACT_LACP_PDU => .pipe 248
  | .ACT_BFD_CTL | .ACT_BFD_FMT | .ACT_BFD_STS => .pipe 256
  | .ACT_BFD_TPL => .pipe 6144
  | .GGE_CTL | .GGE_CNT => .gauge 16
  | .GGE_OVF => .gauge 1
  | .GGE_SBUF_STS => .die 54 1 1
  | .GGE_COL_CFG | .GGE_COL_CMD | .GGE_COL_STS | .GGE_FRZ | .GGE_COL_ADDR | .GGE_COL_SIZE | .GGE_COL_RNG_A
  | .GGE_COL_RNG_B => .pd 54
  | .SDS_LANE_CFG | .SDS_LANE_TXEQ | .SDS_LANE_STS | .MAC_PORT_CFG | .MAC_PORT_LINK | .MAC_PORT_STS
  | .MAC_PORT_CMD => .lane 1
  | .MAC_CNT => .lane 16
  | .MSC_SECY_CFG | .MSC_SECY_WIN | .MSC_SECY_SCI | .MSC_KEY => .oct 8
  | .MSC_SECY_CNT | .MSC_SA_CTL | .MSC_SA_SCI | .MSC_SA_PN | .MSC_SA_SSCI | .MSC_SA_STS => .oct 64
  | .MSC_SALT => .oct 3
  | .TCM_SCRUB_CFG | .TCM_SCRUB_STS | .TCM_ERR_SLOT => .tcm 1
  | .TCM_CNT => .tcm 12
  | .TCM_PANEL_CFG | .TCM_PANEL_STS => .panel
  | .TCM_PROF_CFG | .TCM_PROF_PMASK | .TCM_PROF_RCMASK | .TCM_PROF_GMASK => .tcmC0
  | .LKP_CASTON_REDIR => .either 50 51
  | .LKP_HASH_SEED => .die 50 1 6
  | .LKP_HASH_CFG | .LKP_HW_CFG | .LKP_LEARN_CFG | .LKP_SESS_CFG | .LKP_SID_STS | .LKP_EVQ_STS => .die 50 1 1
  | .LKP_AGE_CFG => .die 50 1 2
  | .LKP_TBL_STS => .die 50 1 3
  | .LKP_CNT => .die 50 1 16
  | .BPM_POOL_CFG | .BPM_POOL_STS | .SKN_CELL_FREE | .SKN_SPILL_CFG | .SKN_SPILL_STS | .SCH_XBAR_CFG
  | .SCH_CFG | .SCH_MC_CFG | .SCH_MC_STS | .SCH_PROBE | .SCH_PROBE_TOK => .die 44 2 1
  | .BPM_SYS => .die 44 2 2
  | .BPM_QPROF | .SKN_SPILL_PROF_A | .SKN_SPILL_PROF_B | .SCH_BURST => .die 44 2 16
  | .BPM_PGPROF => .die 44 2 8
  | .BPM_PORT => .die 44 2 64
  | .BPM_PG_STS => .die 44 2 512
  | .BPM_CNT => .die 44 2 6
  | .SKN_CNT => .die 44 2 11
  | .SKN_CTX_STS | .SKN_CTX_CNT | .SCH_GRP | .SCH_GRP_STS | .SCH_GRP_SHP | .SCH_GRP_TOK => .die 44 2 4096
  | .SKN_Q => .die 44 2 34048
  | .SCH_CNT => .die 44 2 10
  | .SCH_PORT | .SCH_PORT_PFC | .SCH_PORT_CW | .SCH_PORT_QW | .SCH_PORT_MQW | .SCH_PORT_STS | .SCH_PORT_SHP
  | .SCH_PORT_TOK => .die 44 2 75
  | .SCH_Q_SHP | .SCH_Q_TOK => .die 44 2 750
  | .SCH_LEAF => .die 44 2 32768
  | .YRN_ID | .YRN_CFG | .YRN_MC | .YRN_RESEQ_CFG | .YRN_RESEQ_CMD | .YRN_SET | .YRN_ROUTE => .either 52 53
  | .YRN_RSQ_STS => .die 52 1 1
  | .YRN_CNT => .die 52 1 19
  | .YRN_CTX => .die 52 1 131072
  | .HBC_STS | .HBC_SPD_CMD | .HBC_SPD_CFG | .HBC_SPD_CFG2 | .HBC_SET_VALID | .HBC_GEOM | .HBC_REF_CFG
  | .HBC_TEMP | .HBC_ECC_LOG => .die 32 1 1
  | .HBC_TIM => .die 32 1 32
  | .HBC_CNT => .die 32 1 9
  | .HBC_DLY => .die 32 1 640

/-- The bits of a register that a write sets and the register keeps: its RW fields, and the data bits that are
WO but held (staged keys and responses) (R6). -/
def Reg.rwMask : Reg → BitVec 64
  | .GLB_MODE_REQ | .CAGE_CAP | .LKP_LEARN_CFG => 0xFF0F
  | .GLB_SPLIT | .GLB_SPLIT_LOSS | .BOOT_JRN_IDX | .STE_ENTRY | .ACT_CFG => 0x1FFF
  | .GLB_HOSTLOSS | .BOOT_JRN_CFG | .SCH_BURST | .SCH_PORT_PFC | .HBC_SPD_CFG2 => 0xFFFFFF
  | .FLT_EN_INT | .FLT_EN_PIN | .FLT_EN_NTF | .FLT_EN_JRN | .FLT_EN_ACT | .TIK_PERIOD_AT | .BOOT_SLOT_DATA
  | .TIM_ADJ | .TIM_PORT_DLY | .CAGE_CMB_CFG | .CAGE_CMB_CFG2 | .CAGE_I2C_DATA | .SEC_RESP | .STE_IMG_AT
  | .ACT_LACP_PDU | .ACT_BFD_TPL | .MSC_SECY_WIN | .MSC_SA_SSCI | .MSC_KEY | .MSC_SALT | .TCM_PROF_GMASK
  | .LKP_HASH_SEED | .HBC_TIM | .HBC_DLY => 0xFFFFFFFF
  | .TIK_PERIOD_NEXT | .SCH_PROBE => 0x7FFF
  | .TIK_SYNC => 0x8FFFFF3
  | .TIK_SYNC_DLY | .STE_OUTER_CFG | .SCH_PORT_MQW | .YRN_MC => 0xFFFF
  | .TIK_COMMIT_CUTOFF | .PWR_DOM_CMD | .STE_PAGES | .ACT_LAG_MEM | .SDS_LANE_CFG | .MSC_SA_CTL
  | .TCM_PANEL_CFG | .SCH_CFG => 0xFF
  | .PWR_SEL | .PWR_ECO_OFF | .STE_STORE | .MSC_SECY_SCI | .MSC_SA_SCI | .MSC_SA_PN | .TCM_PROF_RCMASK
  | .LKP_CASTON_REDIR | .SCH_PORT_CW | .SCH_PORT_QW | .YRN_SET => 0xFFFFFFFFFFFFFFFF
  | .PWR_SEQ => 0xFFFF0FFF
  | .PWR_CAP => 0xFFFF7BFF
  | .PWR_CAP_STS => 0x3FF0000
  | .PWR_TEMP => 0xFFFF00
  | .BOOT_CFG => 0xFFFFFFF1
  | .BOOT_SLOT_CTL => 0x7FFFF
  | .PCX_LPM => 0xFFFFFFFF7FFF
  | .PCX_LTR => 0x1FFF1FFF
  | .PCX_FUNC_RINGS => 0x1FFF0FFF1FFF0FFF
  | .PCX_ISRC | .DMA_NTF_MAP => 0x8FFF
  | .PCX_IMOD | .YRN_RESEQ_CFG => 0xFFF
  | .DMA_SQ_BASE | .DMA_CQ_BASE | .GGE_COL_ADDR => 0xFFFFFFFFFFFFF000
  | .DMA_SQ_CFG => 0xFFFF3FFFFFFFFFFF
  | .DMA_SQ_IDX | .DMA_CQ_IDX => 0xFFFFFFFFFFFFFFF0
  | .DMA_CQ_CFG => 0xFFFF0000000FFFF3
  | .DMA_CFG => 0x7F
  | .DMA_RX_SEL | .MAC_PORT_CFG => 0x3FFF0FFF
  | .CHT_CFG | .LKP_HASH_CFG => 0xF
  | .TIM_INCR | .RCM_CMP => 0xFFFFFFFFFF
  | .TIM_SET_SEC | .GGE_CNT | .TCM_PROF_PMASK => 0xFFFFFFFFFFFF
  | .TIM_SET_NS => 0x3FFFFFFF
  | .TIM_SYNCE => 0x1FFFFF
  | .CAGE_I2C_CTL => 0x3FFFFFF
  | .MAC_MGT_PARSE => 0x7F3
  | .STE_BUDGET => 0x7FF07FF
  | .STE_DISP_CFG => 0x1071F
  | .STE_IMG => 0x10606
  | .STE_OUTER_ACT => 0xFF7F
  | .STE_FIX_CFG | .GGE_FRZ | .SKN_SPILL_CFG => 0x1
  | .STE_SRC_MAP => 0xFFFFFFFFF
  | .STE_ENG_STS => 0x7F00
  | .ACT_RSP_CFG => 0xFFFFF7FF
  | .ACT_RSP_REASON => 0xFFFFFFFFFF00
  | .ACT_RSP_RATE | .TCM_SCRUB_CFG => 0xFF0FFF
  | .ACT_HOSTPOL => 0x8003FFFF
  | .ACT_LAG => 0x1F
  | .ACT_PORT_MAC => 0x1FFFFFFFFFFFF
  | .ACT_LACP_CTL => 0xC1FFFFFF
  | .ACT_BFD_CTL => 0xFFFFFFFFFFFF7F
  | .ACT_BFD_FMT => 0x7F7F7F
  | .GGE_CTL => 0xFFFF00FF1FFF
  | .GGE_SMP_CFG => 0x1FFFFFFF0F07
  | .GGE_COL_CFG => 0x80FFFFFF
  | .GGE_COL_SIZE => 0xFFFFF000
  | .GGE_COL_RNG_A => 0xFFFFF0FFFFFFF
  | .GGE_COL_RNG_B => 0xFFFFFFFFFFFFFF
  | .SDS_LANE_TXEQ | .YRN_CFG => 0x3F3F3F
  | .MAC_PORT_LINK => 0xFFFFFFF
  | .CAGE_CTL => 0x7FF
  | .MSC_SECY_CFG | .SKN_Q => 0x1FF
  | .TCM_PANEL_STS => 0x3F0
  | .TCM_PROF_CFG => 0xFFFFFFFFFF7F7FFF
  | .LKP_HW_CFG => 0xFF1FFF
  | .LKP_SESS_CFG => 0xFFFFF000FFFFF
  | .LKP_AGE_CFG => 0xFFFFFF1F
  | .BPM_POOL_CFG | .YRN_RESEQ_CMD => 0x3FFFF
  | .BPM_SYS => 0x3FFFF0003FFFF
  | .BPM_QPROF => 0xFFFFFF03FFFF
  | .BPM_PGPROF | .SKN_SPILL_PROF_A => 0x3FFFFFFFFFFFFF
  | .BPM_PORT => 0xFF07
  | .SKN_SPILL_PROF_B => 0x3FFFFFFFFFFF
  | .SCH_XBAR_CFG | .HBC_SET_VALID => 0x7
  | .SCH_MC_CFG => 0x3FFF0007
  | .SCH_PORT => 0xFF7F77FF
  | .SCH_PORT_SHP | .SCH_Q_SHP | .SCH_GRP_SHP => 0xFFFFFF8FFFFFFF
  | .SCH_GRP => 0xFF873F
  | .SCH_LEAF => 0xFFFFFFF1FFF1FFF
  | .YRN_ID => 0x80FF3FFF
  | .YRN_ROUTE => 0x8000003F
  | .HBC_SPD_CMD => 0x3
  | .HBC_SPD_CFG => 0xFFFFF0F
  | .HBC_REF_CFG => 0xFFFFF1
  | _ => 0x0

/-- The bits of a register that a written 1 clears one by one: its RW1C and RWS fields (R6). -/
def Reg.w1cMask : Reg → BitVec 64
  | .GLB_MODE_STS => 0x7
  | .GLB_HOSTLOSS => 0x1000000
  | .FLT_STS | .GGE_OVF => 0xFFFFFFFF
  | .FLT_FIRST | .BPM_POOL_STS => 0x8000000000000000
  | .FLT_INST => 0xFFFFFFFFFFFFFFFF
  | .TIK_SYNC_STS => 0x7C0000
  | .TIK_OVR_STS => 0x1FF
  | .PWR_DOM_STS | .TCM_PANEL_STS => 0x8
  | .BOOT_SLOT_CTL => 0x40000000
  | .PCX_STS => 0x1
  | .DMA_SQ_STS => 0xC0000000000000
  | .DMA_CQ_STS => 0x600000000000
  | .CHT_ERR => 0x1000000000
  | .TIM_SYNCE_STS => 0xC
  | .CAGE_CMB_STS => 0x2
  | .CAGE_I2C_STS => 0xE
  | .SEC_DBG_STS => 0x80
  | .STE_IMG_STS => 0x3C
  | .ACT_BFD_STS => 0x300
  | .GGE_SBUF_STS | .SCH_LEAF => 0x2000
  | .GGE_COL_STS => 0x1C
  | .GGE_FRZ => 0x4
  | .MAC_PORT_STS => 0xC0
  | .CAGE_STS => 0x3F
  | .MSC_SA_STS => 0x9
  | .TCM_SCRUB_STS => 0x100000
  | .LKP_TBL_STS => 0x80000000
  | .SCH_GRP_STS => 0x10000
  | .HBC_STS => 0x3C00
  | .HBC_ECC_LOG => 0x100000000
  | _ => 0x0

/-- The counting field of a register that a 1 written to any of its bits clears whole. -/
def Reg.countMask : Reg → BitVec 64
  | .FLT_CNT | .TIK_COMMIT_DEFER | .TIK_OVERRUN => 0xFFFF
  | .BOOT_JRN_STS | .DMA_CQ_STS => 0xFFFF000000000000
  | .GGE_SBUF_STS | .GGE_COL_STS => 0xFFFF0000
  | _ => 0x0

/-- The bits of a register kept across every reset but POR_N and loss of supply: its RWS fields (R6). -/
def Reg.stickyMask : Reg → BitVec 64
  | .GLB_MODE_STS => 0x4
  | .GLB_HOSTLOSS => 0x1000000
  | .FLT_STS => 0xFFFFFFFF
  | .FLT_FIRST => 0x8000000000000000
  | .FLT_INST => 0xFFFFFFFFFFFFFFFF
  | .TIK_SYNC_STS => 0x5C0000
  | .TIK_OVR_STS => 0x1FF
  | .TIM_SYNCE_STS => 0xC
  | .CAGE_CMB_STS => 0x2
  | .MAC_PORT_STS => 0x80
  | .HBC_STS => 0x800
  | .HBC_ECC_LOG => 0x100000000
  | _ => 0x0

/-- The bits of a register that a read returns: all but its WO and RSV fields (R6). -/
def Reg.readMask : Reg → BitVec 64
  | .GLB_ID | .TIM_TOD_SEC | .TIM_SET_SEC | .GGE_CNT | .TCM_PROF_PMASK => 0xFFFFFFFFFFFF
  | .GLB_UNITS | .LKP_SID_STS => 0xFFFFF
  | .GLB_FWVER | .PCX_IMOD => 0x1FFFFFF
  | .GLB_SERIAL | .FLT_INST | .TIK_COUNT | .PWR_SEL | .PWR_ECO_OFF | .PCX_FLR_BUSY | .PCX_CNT | .DMA_CNT
  | .CHT_CNT | .STE_CNT | .STE_STORE | .STE_STORE_RD | .ACT_CNT | .MAC_CNT | .MSC_SECY_SCI | .MSC_SECY_CNT
  | .MSC_SA_SCI | .MSC_SA_PN | .TCM_CNT | .TCM_PROF_RCMASK | .LKP_CASTON_REDIR | .LKP_CNT | .BPM_CNT
  | .SKN_CNT | .SCH_CNT | .SCH_PORT_CW | .SCH_PORT_QW | .YRN_CNT | .YRN_SET | .HBC_CNT => 0xFFFFFFFFFFFFFFFF
  | .GLB_MODE => 0xFFFF1FFF
  | .GLB_MODE_REQ | .CAGE_CAP | .LKP_LEARN_CFG => 0xFF0F
  | .GLB_MODE_STS => 0xFF0707
  | .GLB_SPLIT | .GLB_SPLIT_LOSS | .GLB_SPLIT_EFF | .TIK_PERIOD | .TIK_CLK | .BOOT_JRN_IDX | .STE_ENTRY
  | .ACT_CFG => 0x1FFF
  | .GLB_HOSTLOSS | .MAC_PORT_LINK => 0xFFFFFFF
  | .GLB_HEARTBEAT | .FLT_INJ | .BOOT_CTL | .BOOT_JRN_CMD | .SEC_DBG_CTL | .SEC_RESP | .GGE_COL_CMD
  | .MAC_PORT_CMD | .MSC_KEY | .MSC_SALT => 0x0
  | .GLB_FLT_SUM | .GLB_FLT_PIN | .FLT_STS | .FLT_LIVE | .FLT_EN_INT | .FLT_EN_PIN | .FLT_EN_NTF
  | .FLT_EN_JRN | .FLT_EN_ACT | .TIK_PERIOD_AT | .BOOT_SLOT_DATA | .BOOT_JRN_DATA | .TIM_ADJ
  | .TIM_PORT_DLY | .CAGE_CMB_CFG | .CAGE_CMB_CFG2 | .CAGE_I2C_DATA | .SEC_CHAL | .STE_IMG_AT
  | .ACT_LACP_PDU | .ACT_BFD_TPL | .GGE_OVF | .MSC_SECY_WIN | .MSC_SA_SSCI | .TCM_PROF_GMASK
  | .LKP_HASH_SEED | .HBC_TIM | .HBC_DLY => 0xFFFFFFFF
  | .FLT_FIRST | .GGE_COL_STS => 0xFFFFFFFFFFFF001F
  | .FLT_FIRST_INFO => 0x8000FFFFFFFFFFFF
  | .FLT_CNT | .TIK_SYNC_DLY | .TIK_COMMIT_DEFER | .TIK_OVERRUN | .STE_OUTER_CFG | .SCH_PORT_MQW | .YRN_MC => 0xFFFF
  | .TIK_PERIOD_NEXT | .SCH_PROBE => 0x7FFF
  | .TIK_SYNC => 0x8FFFFF3
  | .TIK_SYNC_STS => 0x7FFFFF
  | .TIK_COMMIT_CUTOFF | .PWR_DOM_CMD | .SEC_DBG_STS | .STE_PAGES | .ACT_LAG_MEM | .SDS_LANE_CFG
  | .MSC_SA_CTL | .TCM_PANEL_CFG | .SCH_CFG | .HBC_GEOM => 0xFF
  | .TIK_COMMIT_STS | .PCX_LTR => 0x1FFF1FFF
  | .TIK_OVR_STS | .MSC_SECY_CFG => 0x1FF
  | .PWR_SEQ => 0xFFFF0FFF
  | .PWR_CAP => 0xFFFF7BFF
  | .PWR_CAP_STS => 0x3FF3FFF
  | .PWR_TEMP | .BOOT_JRN_CFG | .SCH_BURST | .SCH_PORT_PFC => 0xFFFFFF
  | .PWR_DOM_STS => 0xFFFF000F
  | .BOOT_STS => 0xFFFF3FFF7F
  | .BOOT_CFG => 0xFFFFFFF1
  | .BOOT_SLOT_CTL => 0x6007FFFF
  | .BOOT_JRN_STS => 0xFFFF1FFFFFFFFFFF
  | .PCX_LINK_STS => 0x37FFF
  | .PCX_LPM => 0xFFFFFFFF7FFF
  | .PCX_STS | .STE_FIX_CFG | .SKN_SPILL_CFG => 0x1
  | .PCX_FUNC_RINGS => 0x1FFF0FFF1FFF0FFF
  | .PCX_ISRC | .DMA_NTF_MAP => 0x8FFF
  | .DMA_SQ_BASE | .DMA_CQ_BASE | .GGE_COL_ADDR => 0xFFFFFFFFFFFFF000
  | .DMA_SQ_CFG => 0xFFFF3FFFFFFFFFFF
  | .DMA_SQ_IDX | .DMA_CQ_IDX => 0xFFFFFFFFFFFFFFF0
  | .DMA_SQ_STS | .GGE_COL_RNG_B => 0xFFFFFFFFFFFFFF
  | .DMA_CQ_CFG => 0xFFFF0000000FFFF3
  | .DMA_CQ_STS => 0xFFFF7FFFFFFFFFFF
  | .DMA_CFG => 0x7F
  | .DMA_RX_SEL | .MAC_PORT_CFG => 0x3FFF0FFF
  | .CHT_CFG | .TIM_SYNCE_STS | .CAGE_I2C_STS | .MSC_SA_STS | .LKP_HASH_CFG => 0xF
  | .CHT_SEQ_STS => 0x7FFFFFFFFF
  | .CHT_ERR => 0x1FFFFFFFFF
  | .TIM_TOD_NS | .TIM_SET_NS => 0x3FFFFFFF
  | .TIM_INCR | .RCM_CMP | .SCH_PROBE_TOK | .SCH_PORT_TOK | .SCH_Q_TOK | .SCH_GRP_TOK => 0xFFFFFFFFFF
  | .TIM_SYNCE | .TCM_SCRUB_STS | .TCM_ERR_SLOT => 0x1FFFFF
  | .CAGE_CMB_STS | .HBC_SPD_CMD => 0x3
  | .CAGE_I2C_CTL | .TCM_PANEL_STS | .HBC_SPD_CFG2 => 0x3FFFFFF
  | .MAC_MGT_PARSE => 0x7F3
  | .STE_BUDGET => 0x7FF07FF
  | .STE_DISP_CFG => 0x1071F
  | .STE_IMG => 0x10707
  | .STE_IMG_STS => 0x3FFF003F
  | .STE_OUTER_ACT => 0xFF7F
  | .STE_SRC_MAP => 0xFFFFFFFFF
  | .STE_ENG_STS => 0x7F7F
  | .ACT_RSP_CFG => 0xFFFFF7FF
  | .ACT_RSP_REASON => 0xFFFFFFFFFF00
  | .ACT_RSP_RATE | .TCM_SCRUB_CFG => 0xFF0FFF
  | .ACT_HOSTPOL => 0x8003FFFF
  | .ACT_LAG => 0xFFFF001F
  | .ACT_PORT_MAC => 0x1FFFFFFFFFFFF
  | .ACT_LACP_CTL => 0xC1FFFFFF
  | .ACT_BFD_CTL => 0xFFFFFFFFFFFF7F
  | .ACT_BFD_FMT => 0x7F7F7F
  | .ACT_BFD_STS => 0xFFFF037F
  | .GGE_CTL => 0xFFFF00FF1FFF
  | .GGE_SMP_CFG => 0x1FFFFFFF0F07
  | .GGE_SBUF_STS => 0xFFFF3FFF
  | .GGE_COL_CFG => 0x80FFFFFF
  | .GGE_FRZ | .SCH_XBAR_CFG | .HBC_SET_VALID => 0x7
  | .GGE_COL_SIZE => 0xFFFFF000
  | .GGE_COL_RNG_A => 0xFFFFF0FFFFFFF
  | .SDS_LANE_TXEQ | .YRN_CFG => 0x3F3F3F
  | .SDS_LANE_STS => 0xFFFF003F
  | .MAC_PORT_STS => 0xFFFFF0FF
  | .CAGE_CTL => 0x7FF
  | .CAGE_STS => 0x1F3F
  | .TCM_PROF_CFG => 0xFFFFFFFFFF7F7FFF
  | .LKP_HW_CFG => 0xFF1FFF
  | .LKP_SESS_CFG => 0xFFFFF000FFFFF
  | .LKP_AGE_CFG => 0xFFFFFF1F
  | .LKP_TBL_STS => 0x800FFFFF
  | .LKP_EVQ_STS => 0x1FF1FFF
  | .BPM_POOL_CFG | .BPM_SYS => 0x3FFFF0003FFFF
  | .BPM_POOL_STS => 0x8007FFFF0007FFFF
  | .BPM_QPROF => 0xFFFFFF03FFFF
  | .BPM_PGPROF | .SKN_SPILL_PROF_A => 0x3FFFFFFFFFFFFF
  | .BPM_PORT => 0xFF07
  | .BPM_PG_STS => 0x7FFFF
  | .SKN_CELL_FREE => 0x7FFFF0007FFFF
  | .SKN_SPILL_STS => 0x3FFFF00003FFF
  | .SKN_SPILL_PROF_B => 0x3FFFFFFFFFFF
  | .SKN_CTX_STS => 0x3FFFF0007FFFF
  | .SKN_CTX_CNT => 0xFFFFFFF0003FFFF
  | .SKN_Q => 0x7FFFFFFF000001FF
  | .SCH_MC_CFG => 0x3FFF0007
  | .SCH_MC_STS => 0x3FFF3FFF
  | .SCH_PORT => 0xFF7F77FF
  | .SCH_PORT_STS | .SCH_GRP_STS => 0x1FFFF
  | .SCH_PORT_SHP | .SCH_Q_SHP | .SCH_GRP_SHP => 0xFFFFFF8FFFFFFF
  | .SCH_GRP => 0xFF873F
  | .SCH_LEAF => 0xFFFFFFF1FFF3FFF
  | .YRN_ID => 0x80FF3FFF
  | .YRN_RESEQ_CFG => 0xFFF
  | .YRN_RESEQ_CMD => 0x3FFFF
  | .YRN_RSQ_STS => 0x3FFF00007FFF
  | .YRN_ROUTE => 0x8000003F
  | .YRN_CTX => 0x7FFFFFF
  | .HBC_STS => 0x73FFF
  | .HBC_SPD_CFG => 0xFFFFF0F
  | .HBC_REF_CFG => 0xFFFFF1
  | .HBC_TEMP => 0x3FF
  | .HBC_ECC_LOG => 0x1FFFFFFFF

end Sys2Proof.Machine
end

