-- ==== Sys2Proof/Machine/Map.lean ====
section
/-! DEFINITION. Sparse maps from numbers to values: lists of (key, value) pairs in one canonical form, keys strictly
rising and no entry equal to what an unlisted key reads as. Registers, tables and the units of the device are held so. -/

namespace Sys2Proof.Machine

/-- A sparse map. What an unlisted key reads as is given to each operation (`d`). -/
abbrev SMap (α : Type) := List (Nat × α)

/-- The value at key `k`. -/
def SMap.get {α : Type} (d : Nat → α) : SMap α → Nat → α
  | [], k => d k
  | (j, v) :: m, k => if j = k then v else SMap.get d m k

/-- The map with key `k` unlisted. -/
def SMap.drop {α : Type} : SMap α → Nat → SMap α
  | [], _ => []
  | (j, v) :: m, k => if j = k then SMap.drop m k else (j, v) :: SMap.drop m k

/-- The map with `v` listed at key `k`. -/
def SMap.put {α : Type} : SMap α → Nat → α → SMap α
  | [], k, v => [(k, v)]
  | (j, w) :: m, k, v =>
    if k < j then (k, v) :: (j, w) :: m
    else if j = k then (k, v) :: m
    else (j, w) :: SMap.put m k v

/-- The map reading `v` at key `k`, in canonical form. -/
def SMap.set {α : Type} [DecidableEq α] (d : Nat → α) (m : SMap α) (k : Nat) (v : α) : SMap α :=
  if v = d k then SMap.drop m k else SMap.put m k v

/-- The canonical form: keys strictly rising from `lo` on, and no entry equal to the default. -/
def SMap.wfFrom {α : Type} [DecidableEq α] (d : Nat → α) : Nat → SMap α → Bool
  | _, [] => true
  | lo, (k, v) :: m => decide (lo ≤ k) && !decide (v = d k) && SMap.wfFrom d (k + 1) m

/-- The map is in canonical form. -/
def SMap.wf {α : Type} [DecidableEq α] (d : Nat → α) (m : SMap α) : Bool := SMap.wfFrom d 0 m

/-- The listed keys whose value passes `p`, rising. -/
def SMap.keysWhere {α : Type} (p : α → Bool) : SMap α → List Nat
  | [] => []
  | (k, v) :: m => if p v then k :: SMap.keysWhere p m else SMap.keysWhere p m

/-- Every listed value passed through `f`, in canonical form again. -/
def SMap.update {α : Type} [DecidableEq α] (d : Nat → α) (f : Nat → α → α) (m : SMap α) : SMap α :=
  m.foldl (fun acc e => SMap.set d acc e.1 (f e.1 e.2)) m

end Sys2Proof.Machine
end

