-- ==== Sys2Proof/Machine/FaultTables.lean ====
section
/-! DEFINITION. The fault sources of each block with their class and default reaction (R384, Table 16-3). -/

namespace Sys2Proof.Machine

/-- The sources of each block in order of block and source number: (class, reaction), the reaction coded as in the
journal record: 0 none, 1 BINDOFF, 2 SHUT, 3 unit removed, 4 mode change, 5 as listed (R384, Table 16-3, Table 16-5). -/
def fltTable : List (List (Nat × Nat)) :=
  [[(1, 0), (2, 5), (2, 0), (4, 3), (5, 4), (0, 0)],          -- GLB
   [(2, 0), (1, 0), (1, 0), (1, 0)],                          -- TIK
   [(2, 4), (5, 5), (2, 4), (5, 5), (4, 3)],                  -- PWR
   [(2, 0), (5, 5), (1, 0), (2, 0)],                          -- BOOT
   [(2, 5), (1, 5), (2, 5), (2, 0), (2, 5), (1, 0)],          -- PCX
   [(2, 5), (0, 0), (2, 0), (2, 0)],                          -- DMA
   [(1, 0), (2, 5), (2, 5)],                                  -- CHT
   [(2, 5)],                                                  -- TIM
   [(0, 5), (2, 5)],                                          -- SEC
   [(1, 0), (2, 5), (2, 5)],                                  -- STE
   [(2, 5), (2, 5), (2, 5)],                                  -- ACT
   [(1, 0), (2, 5), (2, 0)],                                  -- LKP
   [(1, 5), (2, 5), (2, 5)],                                  -- TCM
   [(2, 5), (2, 0)],                                          -- BPM
   [(1, 0), (2, 5), (2, 5), (0, 0)],                          -- SKN
   [(2, 5), (2, 5), (2, 5)],                                  -- SCH
   [(2, 5), (2, 5), (2, 5), (2, 0)],                          -- YRN
   [(1, 5), (2, 5), (2, 5), (2, 5), (4, 3), (1, 0), (2, 5)],  -- HBC
   [(2, 5)],                                                  -- GGE
   [(3, 2), (3, 2)],                                          -- SDS
   [(0, 0), (2, 0), (3, 1)],                                  -- MAC
   [(3, 2), (2, 5)],                                          -- MSC
   [(3, 5), (2, 0), (0, 0)]]                                  -- CAGE

/-- The class and reaction of source `s` of block `k`, if the block has that source. -/
def fltSource (k s : Nat) : Option (Nat × Nat) := (fltTable.getD k [])[s]?

/-- The sources of block `k` whose class and reaction pass `p`, as a bit mask. -/
def fltMask (p : Nat → Nat → Bool) (k : Nat) : Nat :=
  ((fltTable.getD k []).zipIdx.map (fun e => if p e.1.1 e.1.2 then 2 ^ e.2 else 0)).sum

end Sys2Proof.Machine
end

