-- ==== Sys2Proof/Machine/RegReset.lean ====
section
/-! DEFINITION. The reset value of every register (R9): the value the spec states; where it states none, the value that
the assumption log names (DESIGN CHOICE, entry 1), zero unless said otherwise there. -/

namespace Sys2Proof.Machine

/-- The value of instance `i` of a register after reset. -/
def Reg.reset (r : Reg) (i : Nat) : BitVec 64 :=
  match r with
  | .GLB_ID => 0xB025601FD4
  | .GLB_UNITS => 0xFFFFF
  | .GLB_MODE => 0x2020313
  | .GLB_SPLIT_LOSS => 0x1FFF
  | .FLT_EN_PIN => BitVec.ofNat 64 (fltMask (fun c _ => 3 ≤ c) i)
  | .FLT_EN_NTF | .FLT_EN_JRN => BitVec.ofNat 64 (fltMask (fun c _ => 2 ≤ c) i)
  | .FLT_EN_ACT => BitVec.ofNat 64 (fltMask (fun _ r => 0 < r) i)
  | .TIK_PERIOD | .TIK_PERIOD_NEXT => 0x4B0
  | .TIK_SYNC => 0x8100410
  | .TIK_COMMIT_CUTOFF => 0x40
  | .PWR_SEL => 0xFFFFFFFFFFFFFFFF
  | .PWR_SEQ => 0x27100082
  | .PWR_CAP => 0x24401B2A
  | .PWR_TEMP => 0x6400
  | .PWR_DOM_STS => 3
  | .BOOT_STS => 0xF1001
  | .BOOT_CFG => 0xE4E27D00
  | .BOOT_JRN_CFG => 0x404000
  | .PCX_LPM => 0x3E846141010
  | .PCX_LTR => 0x1003080A
  | .PCX_FUNC_RINGS => if i = 0 then 0x0040000000400000 else if i = 1 then 0x0FC000400FC00040 else 0
  | .PCX_ISRC => BitVec.ofNat 64 i
  | .DMA_CFG => 0x20
  | .DMA_RX_SEL => 0x10040
  | .CHT_CFG => 0x8
  | .TIM_INCR => 0xD5555555
  | .TIM_SYNCE => 0x55000
  | .CAGE_CMB_CFG => 0xAFA01000
  | .CAGE_CMB_CFG2 => 0x4C4B4F44
  | .STE_BUDGET => 0xA000A0
  | .STE_DISP_CFG => 0x304
  | .STE_OUTER_CFG => 0x9100
  | .STE_FIX_CFG => if i = 0 then 1 else 0
  | .STE_ENG_STS => 0x6060
  | .ACT_CFG => 0x804
  | .ACT_RSP_CFG => 0x740
  | .ACT_RSP_REASON => 0x612423222100
  | .ACT_RSP_RATE => 0x40001A
  | .ACT_PORT_MAC => 0x1000000000000
  | .ACT_LACP_CTL | .GGE_COL_CFG => 0xF4240
  | .GGE_SMP_CFG => 0x4000800
  | .SDS_LANE_CFG => 0x80
  | .MAC_PORT_CFG => 0x24000000
  | .MAC_PORT_LINK => 0x13186A0
  | .CAGE_CAP => if i % 8 = 0 then 0xFF0F else 0x0F
  | .CAGE_CTL => 0x7F0
  | .TCM_SCRUB_CFG => 0x400100
  | .TCM_PROF_GMASK => 0xFFFFFFFF
  | .LKP_HASH_SEED => if i % 2 = 0 then 0xFFFFFFFF else 0
  | .LKP_HASH_CFG => 0x4
  | .LKP_HW_CFG => 0x400400
  | .LKP_LEARN_CFG => 0x1006
  | .LKP_SESS_CFG => if i = 0 then 0x0008000000000000 else 0x0008000000080000
  | .LKP_AGE_CFG => if i % 2 = 0 then 0x4787101E else 0x4787101F
  | .BPM_POOL_STS => BitVec.ofNat 64 (262144 + (if i = 0 then 6320 else 6080) * 2 ^ 32)
  | .BPM_SYS => if i % 2 = 0 then 0x0000100000000100 else 0x0000040000000040
  | .BPM_QPROF => if i % 16 = 0 then 0x0000020820000008 else 0x0000020820000000
  | .SKN_CELL_FREE => BitVec.ofNat 64 (262144 + (if i = 0 then 255824 else 256064) * 2 ^ 32)
  | .SKN_SPILL_CFG => 0x1
  | .SKN_SPILL_STS => 0x3000000000000
  | .SKN_SPILL_PROF_A => 0x400004002000
  | .SKN_SPILL_PROF_B => 0x30000000200
  | .SKN_Q => if i % 34048 ≤ 32767 then 1 else 0
  | .SCH_XBAR_CFG => 0x3
  | .SCH_CFG => 0x18
  | .SCH_MC_CFG => 0x18000006
  | .SCH_BURST => 0x3E80
  | .SCH_PORT => 0x200051C0
  | .SCH_PORT_PFC => 0xFAC688
  | .SCH_PORT_CW | .SCH_PORT_QW => 0x101010101010101
  | .SCH_PORT_MQW => 0x101
  | .YRN_CFG => 0x40008
  | .YRN_RESEQ_CFG => 0x10
  | .HBC_STS => 0x100
  | .HBC_SPD_CFG => 0x4193C08
  | .HBC_SPD_CFG2 => 0x8003E8
  | .HBC_SET_VALID => 0x7
  | .HBC_REF_CFG => 0x5F5541
  | _ => 0

end Sys2Proof.Machine
end

