-- ==== Sys2Proof/Machine/State.lean ====
section
/-! DEFINITION. The state of the device as plain data: every register (a sparse map over the register map), every table,
queue, buffer, needle, counter and pin that spec/ gives it, the queue of waiting commands, and the state after reset. -/

namespace Sys2Proof.Machine

/-- Why a command stops the machine: nothing does. The device answers every access that does not exist, is off or is
forbidden with a value of its own (R15, R16, R17), and every event it meets has an effect. Safe. -/
inductive Fault where
  deriving DecidableEq, Repr

/-- Why a command has no meaning. -/
inductive Refusal where
  /-- A row of the opcode table that has no meaning yet, raised by `exec` alone. Safe. -/
  | notModelled (mnemonic : String)
  deriving DecidableEq, Repr

/-- The parts of the family (Table 0-1). -/
inductive Part where
  | bx2560 | bx1920 | bx1280
  deriving DecidableEq, Repr

/-- What a SYNCE_CLK ball carries (R91): nothing, SYS_REFCLK, or the recovered clock of a lane divided. -/
inductive SynceClk where
  | low
  | refclk
  | lane (l div : Nat)
  deriving DecidableEq, Repr

/-- What the last command sent out of the device, in order: to the sender of an access, to host memory, to the pins. -/
inductive Out where
  /-- SYNCE_CLK output `i` is held low for one of its periods while it changes (R91). -/
  | synceLow (i : Fin 2)
  /-- What SYNCE_CLK output `i` carries changes. -/
  | synceClk (i : Fin 2) (c : SynceClk)
  /-- The data that a register or table read returns to an agent, and how many bytes of it. -/
  | readData (a : Agent) (v : BitVec 64) (size : Nat)
  /-- A memory read of a function completed with Unsupported Request (R308). -/
  | unsupported (f : Nat)
  /-- A memory read of a function completed with Completer Abort (R312). -/
  | abort (f : Nat)
  /-- A write into host memory by a function. -/
  | memWrite (f addr : Nat) (data : Bytes)
  /-- A write of packet data that carries the Relaxed Ordering attribute (R305). -/
  | memWriteRelaxed (f addr : Nat) (data : Bytes)
  /-- A read of host memory issued by a function under a tag. -/
  | memRead (f tag addr len : Nat)
  /-- The MSI-X message of vector `k`. -/
  | msix (k : Nat) (addr : BitVec 64) (data : BitVec 32)
  /-- The data of a configuration read. -/
  | cfgData (f : Nat) (v : BitVec 32)
  /-- A Latency Tolerance Reporting message (R316). -/
  | ltr (v : Nat)
  /-- A TICK_OUT pulse of so many clocks (R44). -/
  | tickOut (clocks : Nat)
  /-- The outputs of a Cage Management Bus frame, by cage (R76). -/
  | cmb (outs : List (BitVec 4))
  /-- An I²C transfer started by master `m`: device, register offset, read or not, length, and bytes written (R85). -/
  | i2c (m addr off : Nat) (rd : Bool) (len : Nat) (data : Bytes)
  /-- A frame that a port sends, destination address through FCS; a stomped one carries an inverted FCS (R64, R252). -/
  | frame (port : Nat) (bytes : Bytes) (stomped : Bool)
  /-- A frame received on a management port for the management cores (R111). -/
  | mgmtFrame (m : Nat) (bytes : Bytes)
  /-- What the TAP shifts out for an instruction (R440). -/
  | tap (v : BitVec 32)
  /-- Cells that HBM controllers write (or read) for a batch, in order: stack, pseudo-channel group, bank, and row with
  column; each cell in four accesses, on pseudo-channels 4g to 4g + 3 (R293, R294). -/
  | hbmCells (wr : Bool) (cells : List (Nat × Nat × Nat × Nat))
  /-- Refreshes that controller `h` issues, per bank or all-bank, over all its pseudo-channels (R302). -/
  | hbmRefresh (h : Nat) (perBank : Bool) (n : Nat)
  /-- Stack `h` enters, or leaves, self-refresh (Table 12-3). -/
  | hbmSelfRefresh (h : Nat) (enter : Bool)
  /-- A sensor's value on the SMBus: its number, 0 for the state sensor (R459). -/
  | sensor (i v : Nat)
  deriving DecidableEq, Repr

/-- A 32-bit half kept for an agent: the register instance it belongs to and its value (R12, R13, R14). -/
structure Half where
  key   : Nat
  value : BitVec 32
  deriving DecidableEq, Repr

/-- The held lower halves and the shadows of the agents, by agent number (R14). -/
structure BusSt where
  holds   : SMap (Option Half)
  shadows : SMap (Option Half)
  deriving DecidableEq, Repr

/-- The tick generator (R40 to R45) and the host-loss causes (R33, R38). -/
structure TickSt where
  /-- Length of the tick in progress, core clocks. -/
  len       : Nat
  /-- Clocks by which the follower correction of its edge would have the tick in progress longer or, negative, shorter. -/
  adjust    : Int
  /-- What a step correction leaves for later edges. -/
  remainder : Int
  /-- TIK_COUNT[11:0] is to be realigned at the next edge. -/
  fixCount  : Bool
  /-- The heartbeat count of R38. -/
  beat      : Nat
  /-- The link has reached DL_Active since the start (R33 cause 1). -/
  linkSeen  : Bool
  /-- Cause 2 of R33 has happened and is still present. -/
  pf1Lost   : Bool
  /-- The error of the last TICK_IN pulse, on which the next edge acts (R45). -/
  pulse     : Option Int
  /-- The correction of the tick in progress is a step, or the remainder of one (R45). -/
  stepped   : Bool
  /-- Cause 3 of R33 is present: the count has reached its limit and no write to GLB_HEARTBEAT has come since (R38). -/
  beatLost  : Bool
  /-- The tick tags whose states `prev1` and `prev2` keep (R50). -/
  tag1      : Nat
  tag2      : Nat
  /-- The hardware table writes of the last edge have been made (R162). -/
  hwDone    : Bool
  deriving DecidableEq, Repr

/-- A pending mode request: whether MC made it, and its tag (R28, R30). -/
structure ModeReq where
  byMc : Bool
  tag  : Nat
  deriving DecidableEq, Repr

/-- An entry of an MSI-X table: message address and data, and the vector's mask bit. -/
structure MsixEnt where
  addr : BitVec 64
  data : BitVec 32
  mask : Bool
  deriving DecidableEq, Repr

/-- What a read of host memory is for: descriptors of a submission ring, or a ring's HOST index word (R338, R342). -/
inductive ReadFor where
  | descriptors (g idx n : Nat)
  | hostIndex (cq : Bool) (g : Nat)
  /-- The buffers of the PKT_TX frame whose last descriptor is entry `last` of ring `g` (R344). -/
  | frame (g last : Nat)
  /-- The operand of the instruction that Chart context `k` executes next, where it was not read ahead (R359). -/
  | operand (k : Nat)
  /-- The operand of a fetched entry of a CHART ring, read ahead under this number (R359). -/
  | ahead (n : Nat)
  deriving DecidableEq, Repr

/-- A read of host memory under a tag: part `part` of read operation `op`. -/
structure ReadRec where
  tag     : Nat
  fn      : Nat
  op      : Nat
  part    : Nat
  /-- Data of the completions that have arrived. -/
  got     : Bytes
  /-- The read has timed out or was ended; the tag is held until a completion or twice the timeout (R325). -/
  ended   : Bool
  /-- Completions are accepted and discarded (R320). -/
  discard : Bool
  deriving DecidableEq, Repr

/-- What the device reads for one purpose, in requests of at most the Max Read Request Size (R305). -/
structure ReadOp where
  id    : Nat
  fn    : Nat
  what  : ReadFor
  /-- Requests that wait for a tag: part, address, length. -/
  todo  : List (Nat × Nat × Nat)
  /-- The data of each part, once it is all there. -/
  parts : List (Option Bytes)
  deriving DecidableEq, Repr

/-- A PKT_TX frame whose buffers are being read (R344): its descriptors, its destination, and, once the reading is over, its
data or its failure. -/
structure TxRead where
  ring  : Nat
  last  : Nat
  descs : List Bytes
  dest  : Nat
  ended : Option (Option Bytes)
  deriving DecidableEq, Repr

/-- The PCIe endpoint beside its registers. -/
structure PcieSt where
  /-- Configuration space, by function × 1024 + dword. -/
  cfg       : SMap (BitVec 32)
  /-- MSI-X tables, by vector number k of R326. -/
  msix      : SMap MsixEnt
  reads     : List ReadRec
  /-- Read operations not yet over, oldest first, and the number of the next one. -/
  ops       : List ReadOp
  nextOp    : Nat
  /-- Speed code and lanes the link last reached. -/
  lastSpeed : Nat
  lastWidth : Nat
  /-- The LTR value last sent. -/
  ltrSent   : Option Nat
  /-- Subsystem Vendor ID and Subsystem ID (R306). -/
  subsys    : BitVec 32
  /-- Ticks of the L0p window in progress (R317). -/
  l0pTicks  : Nat
  /-- The link partner held CLKREQ# asserted at the last edge (R316). -/
  clkreq    : Bool
  deriving DecidableEq, Repr

/-- A submission ring beside its registers. -/
structure SqSt where
  /-- Entries fetched and not yet consumed, with their index, oldest first. -/
  entries   : List (Nat × Bytes)
  /-- Entries whose read is outstanding. -/
  reading   : Nat
  /-- WEIGHT less the arbiter's count C of R342: the reads taken in this round. -/
  used      : Int
  /-- The published head (R340). -/
  published : Nat
  /-- A disable is under way (R354). -/
  stopping  : Bool
  /-- A HOST index read is outstanding, and another FETCH doorbell has merged behind it (R338). -/
  fetching  : Bool
  fetchMore : Bool
  /-- Frames or programs begun, in order: index of the last entry, entries, and, once finished, the completion to write
  (R348). -/
  begun     : List (Nat × Nat × Option (Option Bytes))
  /-- The disable under way is that of a failed read (R355). -/
  failed    : Bool
  deriving DecidableEq, Repr

/-- A completion ring beside its registers. -/
structure CqSt where
  /-- Staged entries, oldest first (R349). -/
  staged    : List Bytes
  /-- The next record accepted carries OVERFLOW (R350). -/
  overflow  : Bool
  /-- Places promised to begun entries (R348). -/
  promised  : Nat
  published : Nat
  stopping  : Bool
  fetching  : Bool
  fetchMore : Bool
  deriving DecidableEq, Repr

/-- An operand read ahead (R359): its number, the ring and index of its entry, whether the entry is left to a program whose ring
is disabled, and, once the read has ended, its data or that it failed. -/
structure Ahead where
  id   : Nat
  ring : Nat
  idx  : Nat
  cut  : Bool
  got  : Option (Option Bytes)
  deriving DecidableEq, Repr

/-- The descriptor rings beside their registers. -/
structure DmaSt where
  sq      : SMap SqSt
  cq      : SMap CqSt
  /-- The fetch arbiter's pointer (R342), and the pipeline that the HOST parser tries first (R110). -/
  pointer : Nat
  turn    : Nat
  /-- PKT_TX frames begun whose reading, or whose turn to enter, is not yet over, oldest first. -/
  frames  : List TxRead
  /-- Operands read ahead for fetched entries of CHART rings (R359). -/
  ahead   : List Ahead
  deriving DecidableEq, Repr

/-- A reaction due at the first edge after its fault bit was set (R381). -/
structure React where
  block    : Nat
  src      : Nat
  inst     : Nat
  info     : BitVec 48
  /-- What in the instance was hit, where the information word does not say it. -/
  hit      : Nat
  tick     : BitVec 64
  injected : Bool
  /-- GLB_SPLIT_EFF.FAULTACT as the source was detected (R32, R382). -/
  withheld : Bool
  deriving DecidableEq, Repr

/-- Faults beside their registers. -/
structure FltSt where
  /-- Lasting conditions present now: block, source, instance (R377). -/
  live  : List (Nat × Nat × Nat)
  react : List React
  /-- Injected bit errors waiting for the read of their word: block, source, instance, flipped bits (R390). -/
  armed : List (Nat × Nat × Nat × Nat)
  /-- Die-to-die modules out of service (R22). -/
  modules : List Nat
  deriving DecidableEq, Repr

/-- A record on its way to the journal (Table 16-5): the fields fixed when it is made. -/
structure JrnRec where
  type   : Nat
  flags  : Nat
  tick   : BitVec 64
  todNs  : Nat
  todSec : Nat
  /-- Bytes 32 to 119. -/
  body   : Bytes
  deriving DecidableEq, Repr

/-- The journal: the writer's queue and bucket, and the records in MRAM (R386, R387). -/
structure JrnSt where
  queue    : List JrnRec
  bucket   : Nat
  /-- Ticks since a record was last added to the bucket. -/
  ticks    : Nat
  /-- SEQ of the next record of this boot. -/
  seq      : Nat
  /-- Slot of the next ring record. -/
  ringNext : Nat
  /-- A record was dropped since the last one written. -/
  dropped  : Bool
  /-- Records in MRAM by slot, 128 bytes each. -/
  mram     : SMap Bytes
  deriving DecidableEq, Repr

/-- A front or management port beside its registers (R66, R70, R71). -/
structure PortSt where
  /-- The PCS has block lock and lane alignment; the FEC is aligned; local and remote fault ordered sets are seen. -/
  aligned  : Bool
  fecOk    : Bool
  lfault   : Bool
  rfault   : Bool
  /-- A link fault was present at some time during the tick in progress. -/
  faultSeen : Bool
  /-- Consecutive edges that found the link OK, and that found a fault. -/
  okRun    : Nat
  faultRun : Nat
  /-- BINDOFF was commanded by register, cage sequence or fault reaction and takes effect at the next edge. -/
  bindoff  : Bool
  /-- BINDOFF is to end in DISABLED. -/
  marked   : Bool
  /-- A flush is running; it has completed; an edge has found it completed. -/
  flushing : Bool
  flushed  : Bool
  finished : Bool
  /-- Running pause timers: bits 0 to 7 the PFC priorities, bit 8 the whole port (R66). -/
  paused   : Nat
  /-- Pause and PFC frames to send ahead of queued frames: priority 0 to 7, 8 the whole port; XOFF or XON (R67). -/
  ctrl     : List (Nat × Bool)
  deriving DecidableEq, Repr

/-- A cage beside its registers (R76 to R83). -/
structure CageSt where
  /-- Inputs of the last scan: PRES_N, BTN_N, PGOOD, INT_N in bits 0 to 3. -/
  raw      : BitVec 4
  /-- Consecutive scans in which PRES_N, BTN_N and PGOOD differed from the accepted value. -/
  presRun  : Nat
  btnRun   : Nat
  goodRun  : Nat
  /-- Consecutive scans with PGOOD 0 while PWR_EN is driven 1 (R81). -/
  badRun   : Nat
  /-- Accepted level of BTN_N. -/
  btn      : Bool
  /-- Outputs latched, and outputs shifted in the frame before. -/
  latched  : BitVec 4
  shifted  : BitVec 4
  /-- A changed output waits for the frame that carries it; it has been carried and waits to be loaded (R79). -/
  changed  : Bool
  carried  : Bool
  /-- Ticks left of the button wait; PIND_CTL before WAIT; power was on at the press. -/
  waitLeft : Nat
  pindWas  : Nat
  wasOn    : Bool
  /-- Values of PWR_CTL and of PIND_CTL written during BINDOFF, held until the flush has finished (R83). -/
  held     : Option Nat × Option Nat
  /-- Automatic power is withheld after a power fault (R81). -/
  noAuto   : Bool
  /-- The ports that the sequence put into bind-off (R82). -/
  flushing : List Nat
  deriving DecidableEq, Repr

/-- The Cage Management Bus controller: frames so far, core clocks left of the frame in progress, and whether a frame is due
(R76, R77); and the direction and length of the transfer that each I²C master runs (R85). -/
structure CmbSt where
  scans : Nat
  left  : Nat
  due   : Bool
  i2c   : SMap (Bool × Nat)
  deriving DecidableEq, Repr

/-- The time of day beside its registers (R86). -/
structure TimSt where
  /-- Fraction of a nanosecond, in units of 2^-32. -/
  frac    : Nat
  /-- The time advances. -/
  running : Bool
  /-- A step, a set, waiting for the next edge. -/
  stepGo  : Bool
  setGo   : Bool
  /-- SEC latched by a read of TIM_TOD_NS. -/
  latch   : Option (BitVec 64)
  deriving DecidableEq, Repr

/-- A direct-indexed entry: VALID and its words as one number, word 0 lowest (R150). -/
structure DEnt where
  valid : Bool
  data  : Nat
  deriving DecidableEq, Repr

/-- A hash-table entry: key bytes, data words without the HW word, HW word, STAMP (R158). -/
structure HEnt where
  key   : Bytes
  words : List Word
  hw    : Word
  stamp : Nat
  deriving DecidableEq, Repr

/-- Everything that a tick tag selects: the tables as they stand after the commits and hardware writes of one edge
(R50). -/
structure Tables where
  /-- Direct-indexed entries, by table ID × 2^20 + index. -/
  direct : SMap DEnt
  /-- Hash entries, by (die × 3 + table) × 2^20 + loc. -/
  hash   : SMap (Option HEnt)
  /-- Multicast group entries, by die × 65,536 + group (Table 10-7). -/
  mcg    : SMap (BitVec 128)
  /-- Pivot entries, by die × 4,096 + index: V in bit 48, PANELS below (R189). -/
  piv    : SMap (BitVec 49)
  /-- TCAM ACTIONs, by first slot. -/
  action : SMap (BitVec 64)
  /-- Hash seeds in force, by (die × 3 + table) × 2 + sub-table (R181). -/
  seed   : SMap (BitVec 32)
  deriving DecidableEq, Repr

/-- The contents of a TCAM slot (R184). -/
structure TSlot where
  value : BitVec 80
  care  : BitVec 80
  deriving DecidableEq, Repr

/-- The validity of a TCAM entry: by tick tag, in the current state, and in the states of the last two edges (R198,
R200). -/
structure TVal where
  tags : BitVec 4
  cur  : Bool
  one  : Bool
  two  : Bool
  deriving DecidableEq, Repr

/-- A POLICER entry: words 0 to 3, and the buckets of words 4 and 5 (Table 6-3). -/
structure Meter where
  cir  : Nat
  pir  : Nat
  cbs  : Nat
  opt  : Nat
  pbs  : Nat
  ctok : Nat
  ptok : Nat
  deriving DecidableEq, Repr

/-- A frame on its way to or in an ingress pass, without FCS. -/
structure Pkt where
  id    : Nat
  pipe  : Nat
  /-- SRC_PORT: front port, or recirculation port 144 + n. -/
  src   : Nat
  bytes : Bytes
  /-- Recirculation pass count (R94). -/
  pass  : Nat
  tsNs  : Nat
  tsSec : Nat
  /-- Its fault is found after dispatch (R105). -/
  bad   : Bool
  /-- Number of the clock in which it became ready: equal for frames that became ready together (R93). -/
  grp   : Nat
  /-- Arrival: 0 whole by its dispatch, 1 between dispatch and action merge, 2 still arriving at action merge (R105). -/
  arr   : Nat
  /-- A Yarn frame's tick tag and mode, those of its dispatch slot (R26, R49). -/
  tag   : Nat
  mode  : Nat
  deriving DecidableEq, Repr

/-- A collected ACL answer: profile's LKNUM, order of issue, and ACTION (R203). -/
structure Acl where
  lknum  : Nat
  seq    : Nat
  action : BitVec 64
  deriving DecidableEq, Repr

/-- A lookup slot of a needle (Table 5-1). -/
structure Slot where
  status : Nat
  words  : List Word
  /-- The last lookup was a TUNNEL read. -/
  tunnel : Bool
  /-- The lookup outstanding, by its number. -/
  asked  : Option Nat
  /-- Clock of residence in which the answer arrived. -/
  arr    : Nat
  deriving DecidableEq, Repr

/-- A needle that runs a program (Table 5-1), with the clock of residence in which its next instruction issues. -/
structure Needle where
  job    : Nat
  set    : Nat
  pc     : Nat
  regs   : List Word
  z      : Bool
  n      : Bool
  c      : Bool
  win    : Bytes
  vlen   : Nat
  key    : Bytes
  md     : Bytes
  slots  : List Slot
  clk    : Nat
  budget : Nat
  /-- The instruction at PC has issued and waits for an answer. -/
  stalled : Bool
  /-- TSTAG has requested the record of R90. -/
  twoStep : Bool
  /-- ACL searches issued so far, and what a sample record needs (R404). -/
  aclSeq : Nat
  /-- ACL searches issued before each session of MIRROR was added (R204). -/
  mirSeq : List Nat
  sample : Bool
  entry  : Nat
  lastPc : Nat
  dclk   : Nat
  dtick  : Nat
  stall  : Nat
  lookups : Nat
  remote : Nat
  maxLat : Nat
  maxSlot : Nat
  deriving DecidableEq, Repr

/-- What a lookup asks. -/
inductive Ask where
  | direct (tid idx : Nat)
  | hash (t : Nat) (key : Bytes)
  | tcam
  deriving DecidableEq, Repr

/-- An answer: status of Table 5-8 and its words. -/
structure Answer where
  status : Nat
  words  : List Word
  deriving DecidableEq, Repr

/-- The candidate of a TCAM search: first slot, whether its parity or ACTION failed. -/
structure Cand where
  slot : Nat
  bad  : Bool
  deriving DecidableEq, Repr

/-- A lookup issued and not yet answered (R131 to R134, R186 to R193). -/
structure Lookup where
  needle : Nat
  job    : Nat
  slot   : Nat
  issued : Nat
  tag    : Nat
  ask    : Ask
  remote : Bool
  answer : Option Answer
  /-- TCAM: the profile of the `lkt`, the first segment. -/
  prof   : Nat
  seg    : Nat
  /-- The key segments at issue, the key as searched, and the global mask of its bytes. -/
  raw    : Bytes
  key    : Bytes
  mask   : Bytes
  /-- Panels whose search has not been made, each with the panel that its set names, and the best entry so far. -/
  todo   : List (Nat × Nat)
  best   : Option Cand
  /-- Refused by a full queue: clocks of retry so far (R193). -/
  waits  : Option Nat
  /-- Issued under the fallback profile. -/
  fb     : Bool
  /-- Order of issue among the packet's ACL searches. -/
  seq    : Nat
  /-- The clock in which it entered its panels' queues: TIK_COUNT and TIK_CLK (R192). -/
  entered : Option (BitVec 64 × Nat)
  deriving DecidableEq, Repr

/-- A packet between dispatch and action merge, or between the Skein and transmission, in dispatch order (R106). -/
structure Job where
  id     : Nat
  /-- Ingress source, or egress port. -/
  src    : Nat
  pkt    : Pkt
  /-- Egress: the copy in the Skein. -/
  copy   : Option Nat
  tag    : Nat
  mode   : Nat
  oclass : Nat
  ended  : Bool
  /-- 0 for END, or the reason of Table 4-1. -/
  reason : Nat
  /-- Metadata at the end, and the egress frame's new head. -/
  md     : Bytes
  head   : Bytes
  twoStep : Bool
  acls   : List Acl
  mirSeq : List Nat
  deriving DecidableEq, Repr

/-- Who made a copy. -/
inductive CopyKind where
  | forward | host | mirror | replica | reply | hostTx | chartTx | transit | link
  deriving DecidableEq, Repr

/-- A Yarn header to be sent (Table 11-1). -/
structure YHdr where
  type  : Nat
  hops  : Nat
  src   : Nat
  dst   : Nat
  port  : Nat
  epoch : Nat
  seq   : Nat
  deriving DecidableEq, Repr

/-- A copy of a frame bound for one queue, from action merge until it leaves the chip (R230 to R242). -/
structure Copy where
  die   : Nat
  lp    : Nat
  port  : Nat
  queue : Nat
  bytes : Bytes
  /-- Metadata carried (Table 5-2), its FWD as Table 8-4 gives it. -/
  md    : Bytes
  kind  : CopyKind
  tc    : Nat
  colour : Nat
  /-- Ingress group of R239. -/
  group : Option (Nat × Nat)
  req   : Nat
  /-- FIFO of the crossbar input. -/
  fifo  : Nat
  /-- Frame of the ingress staging that it holds (R92). -/
  stage : Option Nat
  reason : Nat
  yarn  : Option YHdr
  /-- XUSER of a transit copy, as it was received (R281). -/
  xuser : Option Bytes
  /-- PKT_TX frame: ring, index of the last descriptor, descriptors, whether a completion is wanted. -/
  tx    : Option (Nat × Nat × Nat × Bool)
  /-- Chart program that sends it. -/
  chart : Option Nat
  /-- Cells claimed; bank groups of the cells placed so far. -/
  need  : Nat
  cells : List Nat
  cut   : Bool
  linked : Bool
  /-- A cell of it is poisoned, and the error is of an on-chip cell, found only when the cell is read (R247). -/
  poison : Bool
  late  : Bool
  /-- Its ingress fault was found after action merge (R105, R250). -/
  bad   : Bool
  /-- Tick tag of its egress pass (R49), and the entry set and budget of its read from the Skein (R100, R118). -/
  tag   : Nat
  egSet : Nat
  egBudget : Nat
  /-- The mode in force at its ingress dispatch (R26). -/
  mode  : Nat
  /-- Of the cells charged: those in headroom, and those in the common remainder; and beside them the cells fetched from
  HBM, charged to its queue, and those of them in the common remainder (R234, R237, R245). -/
  hr    : Nat
  sh    : Nat
  fetched : Nat
  fsh   : Nat
  /-- Its last cell is written and its claim settled; it has been selected, with its length then (R232, R262). -/
  done  : Bool
  sel   : Bool
  len   : Nat
  /-- The only copy of its frame; the frame had not wholly arrived at action merge (R68, R236). -/
  solo  : Bool
  arriving : Bool
  /-- Its egress program asked for a two-step timestamp (R90). -/
  twoStep : Bool
  /-- Resequencing context that released it (R285). -/
  ctx   : Option Nat
  deriving DecidableEq, Repr

/-- A fetch batch of a spilled queue: cells, whether its claim has been granted, the cells of it charged to the common
remainder, and the bank groups of those that the crossbar has placed (R237, R253; Table 9-4, S2). -/
structure Fetch where
  cells : Nat
  granted : Bool
  sh : Nat
  placed : List Nat
  deriving DecidableEq, Repr

/-- A spilled queue (R243, R244): context, cells of H and of M, FILL, cells of the outstanding move, fetch batches, the
pages of M in order, and the cells of the first page already fetched. -/
structure Spill where
  ctx   : Nat
  head  : Nat
  mid   : Nat
  fill  : Bool
  move  : Nat
  fetches : List Fetch
  pages : List Nat
  first : Nat
  /-- Flushed: what is outstanding is discarded as it completes (R248). -/
  dead  : Bool
  deriving DecidableEq, Repr

/-- A queue of the Skein beside its registers (R231 to R244). -/
structure QSt where
  /-- Copies linked, in order; completed copies that wait behind a cut-through copy (R232). -/
  chain : List Nat
  wait  : List Nat
  /-- Cells of its account, claims included; those of them in headroom, and in the common remainder; cells of HOST_TX and
  CHART that it holds (R234). -/
  used  : Nat
  hr    : Nat
  sh    : Nat
  other : Nat
  /-- Next bank group of its stripe (R254). -/
  stripe : Nat
  /-- Tokens of a leaf's shaper, where they are its own and not those of every untouched leaf (R267). -/
  tok   : Option Int
  spill : Option Spill
  deriving DecidableEq, Repr

/-- A claim of cells: for a copy, or for a fetch batch of a queue (R236, R244). -/
inductive Claim where
  | copy (id : Nat)
  | fetch (q : Nat)
  deriving DecidableEq, Repr

/-- A FIFO of a crossbar input: copies with their cells not yet offered, and the offered cells with their targets, two at
most (R254). -/
structure XFifo where
  copies : List (Nat × Nat)
  offer : List (Nat × Nat)
  deriving DecidableEq, Repr

/-- A packet in the replication engine (R270): its copy to make, group, and the traffic class that chose its FIFO. -/
structure Repl where
  base  : Copy
  grp   : Nat
  high  : Bool
  cells : Nat
  /-- Once started: the numbers of its copies. -/
  made  : Option (List Nat)
  deriving DecidableEq, Repr

/-- The buffer pool manager, crossbar and replication engine of a die beside their registers (spec/09, spec/10). -/
structure BufSt where
  /-- Cells of HOST_TX and CHART, and those of them in the common remainder. -/
  hostTx : Nat
  hostSh : Nat
  chart : Nat
  chartSh : Nat
  /-- Rotation pointer of R238, and claims by requester, in order. -/
  ptr   : Nat
  claims : List (Nat × Claim)
  /-- FIFOs, by input × 16 + FIFO (those of X14 hold queue keys); grant pointers by output; accept pointers and last FIFOs by input (R255, R256). -/
  fifos : SMap XFifo
  grant : List Nat
  accept : List Nat
  last  : List Nat
  /-- Cells in use or held for a target, by bank group (R254). -/
  banks : List Nat
  repl  : List Repl
  /-- DWRR pointers and deficits of the egress hierarchy, by node (R263). -/
  dptr  : SMap Nat
  dc    : SMap Int
  /-- Tokens of every leaf whose shaper no write and no charge has touched (R267). -/
  leafTok : Int
  deriving DecidableEq, Repr

/-- A packet held for resequencing: its SEQ, its copy, and the edges since it arrived (R283 to R287). -/
structure Held where
  seq   : Nat
  copy  : Nat
  age   : Nat
  deriving DecidableEq, Repr

/-- A BFD session beside its registers: ticks since its detection timer restarted, and since its last frame (R227). -/
structure BfdSt where
  since : Nat
  sent  : Nat
  deriving DecidableEq, Repr

/-- An HBM controller beside its registers (spec/12). -/
structure HbcSt where
  /-- The speed point before the change; whether the return of R299 is running; edges since the step started. -/
  former : Nat
  ret   : Bool
  edges : Nat
  /-- A speed command waits for the edge, and its target; one was decided at the last edge. -/
  cmd   : Option Nat
  asked : Bool
  /-- Refreshes postponed now, by pseudo-channel × 256 + bank (bank 0 for all-bank ones); ticks since the temperature was
  read (R302). -/
  postponed : SMap Nat
  ticks : Nat
  /-- Ticks of the policy window, and consecutive windows below DOWN_PCT (R300). -/
  win   : Nat
  low   : Nat
  /-- The steps in progress are those of HIBERNATE or of a power-down (R299, R422, Table 18-12). -/
  rest  : Bool
  deriving DecidableEq, Repr

/-- The key and the salt of a MACsec SA (R437). -/
structure SaKey where
  key  : Bytes
  salt : Bytes
  deriving DecidableEq, Repr

/-- Staging of a frame: pipeline, cells, copies not yet out of staging, and whether action merge has taken it (R92). -/
structure Staged where
  pipe   : Nat
  cells  : Nat
  left   : Nat
  merged : Bool
  deriving DecidableEq, Repr

/-- What waits for action merge in a pipeline (R207). -/
inductive Merge where
  /-- From reorder. -/
  | job (j : Job)
  /-- From the fixed parser of a Yarn port: the target port or group, its kind, header fields (R280). -/
  | yarn (p : Pkt) (md : Bytes) (tc dp : Nat) (h : YHdr) (xuser : Bytes) (own : Bool)
  /-- From the HOST parser: destination, traffic class, metadata, PKT_TX bookkeeping (R110). -/
  | host (bytes md : Bytes) (dest tc : Nat) (tx : Option (Nat × Nat × Nat × Bool)) (chart : Option Nat)
  deriving DecidableEq, Repr

/-- A pipeline beside its registers (spec/04, spec/08). -/
structure PipeSt where
  /-- Frames ready for dispatch, in order of readiness (R93). -/
  ready   : List Pkt
  /-- Yarn frames that have taken a dispatch slot, on their way to the fixed parser (R97). -/
  parser  : List Pkt
  /-- Source taken last: slot 0 to 7, 8 the recirculation port. -/
  last    : Nat
  /-- Pointers to the ingress and egress engines (R95). -/
  igPtr   : Nat
  egPtr   : Nat
  /-- The port selected last: slot 0 to 7, 8 the recirculation port (R262). -/
  egTurn  : Nat
  /-- Packets read from the Skein for the egress engines, in order. -/
  egress  : List Nat
  /-- Packets in reorder, ingress and egress, in dispatch order. -/
  ig      : List Job
  eg      : List Job
  merge   : List Merge
  /-- Armed image switches: set, IMM, AT, and the count when it was armed, by direction (R117). -/
  arms    : List (Option (Nat × Bool × Nat × Nat))
  /-- Recirculation dispatches of the last 16 dispatch clocks, two bits each, the latest lowest (R94). -/
  recirc  : Nat
  /-- Responder requests queued: kind, frame, port (R223). -/
  replies : List (Nat × Bytes × Nat)
  /-- Responder buckets by kind, in 1/256 reply. -/
  buckets : List Nat
  /-- Mirror requests counted by session (R220). -/
  mirror  : SMap Nat
  /-- Spray pointers by set (R277). -/
  spray   : SMap Nat
  /-- Packets until the next sample, ingress and egress; drawn or not (R403). -/
  sampleIg : Option Nat
  sampleEg : Option Nat
  /-- A packet was dispatched in the last dispatch clock, at throttle level 4 (Table 18-13). -/
  paced   : Bool
  deriving DecidableEq, Repr

/-- A twinned pair beside its registers, held for the primary panel: the member that the next search goes to, the next
row to copy, what the last tick asked for, and edges since RELEASE began (R195, R196). -/
structure Twin where
  turn  : Bool
  row   : Nat
  edges : Nat
  deriving DecidableEq, Repr

/-- A learning event: table (0 BRIDGE, 1 SESSION), key, SRC_PORT, DATA and tick of issue (R163). -/
structure LEvent where
  table : Nat
  key   : Bytes
  src   : Nat
  data  : Nat
  tick  : BitVec 64
  /-- It arose in host-assisted mode (R32). -/
  host  : Bool
  deriving DecidableEq, Repr

/-- A planned learning write (R160, R162): the slots of its path, first the one that takes the new entry; what they held
when it was planned (AGED apart); the seeds it was planned under. -/
structure LPlan where
  ev     : LEvent
  path   : List Nat
  new    : HEnt
  update : Bool
  retry  : Bool
  seen   : List (Option HEnt)
  seeds  : List (BitVec 32)
  deriving DecidableEq, Repr

/-- A deletion that the ager or a flush has decided: table, location, and the entry as it was judged (R171, R177). -/
structure HDel where
  table : Nat
  loc   : Nat
  ent   : HEnt
  /-- The entry's words or HW word have been written since (R171). -/
  written : Bool
  deriving DecidableEq, Repr

/-- A flush of a table by port, on the dies of a mask; queued by Chart program `chart` when it has one (R177, R178). -/
structure Flush where
  id     : Nat
  table  : Nat
  port   : Nat
  static : Bool
  dies   : Nat
  chart  : Option Nat
  deriving DecidableEq, Repr

/-- The flush that a die runs: next bucket, and deletions applied. -/
structure FlushRun where
  flush   : Flush
  bucket  : Nat
  deleted : Nat
  deriving DecidableEq, Repr

/-- An open scan: its handle, table, cursor, catch-up list of keys, whether it has overflowed (R175, R176). -/
structure Scan where
  handle : Nat
  table  : Nat
  cursor : Nat
  caught : List Bytes
  lost   : Bool
  /-- The cursor of the scan that this one closed and whose handle it took, until a NEXT has named that (R175). -/
  was    : Option Nat
  deriving DecidableEq, Repr

/-- The engines of a die's hash tables beside its registers (R163 to R178). -/
structure LearnSt where
  queue  : List LEvent
  /-- The last 256 events accepted, latest first (R164). -/
  recent : List LEvent
  retry  : List LEvent
  plans  : List LPlan
  ages   : List HDel
  dels   : List HDel
  run    : Option FlushRun
  wait   : List Flush
  auto   : List Flush
  /-- Flushes of this die that have ended: identifier and entries deleted. -/
  ended  : List (Nat × Nat)
  scans  : List Scan
  /-- Bucket that each table's ager examines next. -/
  cursor : List Nat
  /-- SIDs held after they were freed, with edges left (R166). -/
  held   : List (Nat × Nat)
  /-- SIDs that the allocator has handed out and that are not freed (R166). -/
  sids   : List Nat
  /-- A BRIDGE entry was deleted at this edge; one was deleted at an earlier edge and the retry list has not been planned
  since (R167). -/
  gone   : Bool
  due    : Bool
  deriving DecidableEq, Repr

/-- A collection being written (R399 to R402). -/
structure ColRun where
  seq    : Nat
  freeze : Bool
  tick   : BitVec 64
  todNs  : Nat
  todSec : Nat
  /-- What is collected, in set order: a register by its key, or half of a STATS pair. -/
  set    : List (Bool × Nat × Nat)
  /-- Dump mode: the values of the edge. -/
  values : List Nat
  /-- Counters of the set that lost additions. -/
  lost   : Nat
  deriving DecidableEq, Repr

/-- A record of the sample buffer: A, B, words 1 to 6, tick of dispatch (R405). -/
structure Sample where
  a    : Nat
  b    : Nat
  body : Bytes
  tick : Nat
  deriving DecidableEq, Repr

/-- Gauge beside its registers (spec/17). -/
structure GaugeSt where
  /-- Pending counts of frozen counters, by register key, and of frozen STATS pairs (R396). -/
  pend      : SMap Nat
  statPend  : SMap (Nat × Nat)
  /-- Frozen counters that have lost an addition: register keys, and STATS counts as 2^32 + 2 × index + half. -/
  losers    : List Nat
  /-- Registers and STATS pairs frozen by a collection. -/
  held      : List Nat
  heldStats : List Nat
  /-- v of the previous clock, by counter, for MODE 2; v so far of the clock that runs, for MODE 1 and 2 (R393). -/
  before    : SMap Nat
  now       : SMap Nat
  col       : Option ColRun
  /-- A collection was requested in this tick; the edge whose collection was decided last; the next SEQ. -/
  go        : Bool
  decided   : Option (BitVec 64)
  nextSeq   : Nat
  /-- Sample buffers by die, and records dropped since the last that entered. -/
  samples   : SMap (List Sample)
  missed    : SMap Nat
  deriving DecidableEq, Repr

/-- A write that a Chart program has staged (R54, R364). -/
inductive CWrite where
  /-- A direct-indexed entry, invalidated without data (R150). -/
  | direct (tid idx : Nat) (data : Option Nat)
  | meter (idx data : Nat)
  | stat (idx pkts bytes : Nat)
  | group (die idx data : Nat)
  | insert (die tb : Nat) (key : Bytes) (words : List Word) (hw : Word)
  | delete (die tb : Nat) (key : Bytes)
  /-- TWR of the entry at a first slot, valid from the edge when `val`. -/
  | twr (slot : Nat) (value care : Bytes) (action : BitVec 64) (val : Bool)
  | tinv (slot : Nat)
  | tval (slot : Nat)
  | tact (slot : Nat) (action : BitVec 64)
  | pivot (idx data : Nat)
  deriving DecidableEq, Repr

/-- The plan of an insertion of a commit: its path, what the path held when it was planned (STAMP and AGED apart), and the
seeds it was planned under (R160, R161). -/
structure CPlan where
  die   : Nat
  tb    : Nat
  key   : Bytes
  path  : List Nat
  seen  : List (Option HEnt)
  seeds : List (BitVec 32)
  deriving DecidableEq, Repr

/-- A commit that waits for its edge: its program's context, when its COMMIT executed, the tick whose edge it is due at
(R53, R55). -/
structure Commit where
  ctx    : Nat
  tick   : BitVec 64
  clk    : Nat
  /-- Edges until it is due, 0 at the edge that takes it (R53). -/
  due    : Nat
  writes : List CWrite
  plans  : List CPlan
  deriving DecidableEq, Repr

/-- What a Chart program waits for. -/
inductive CWait where
  | none
  | ticks (n : Nat)
  | edge (t : Nat)
  /-- The edge awaited has come. -/
  | ready
  | commit
  | flush (id : Nat)
  /-- Edges left to a POLL. -/
  | poll (n : Nat)
  | xmit
  /-- The read of an operand is under way (R359). -/
  | operand
  deriving DecidableEq, Repr

/-- A context of a Chart sequencer that runs a program (R357 to R375). -/
structure Ctx where
  ring    : Nat
  /-- Its ring is disabled: the entries left are those fetched before; its completion is withheld (R356, R361). -/
  cut     : Bool
  entries : List (Nat × Bytes)
  withheld : Bool
  /-- Index of the last entry taken, entries taken, and whether the last one had LAST. -/
  last    : Nat
  taken   : Nat
  tail    : Bool
  /-- EXECUTED, and the status it has failed with. -/
  done    : Nat
  status  : Nat
  /-- Result area: address, size, bytes written into it (R371). -/
  area    : Option (Nat × Nat × Nat)
  bytes   : Nat
  ctick   : Nat
  commits : Nat
  staged  : List CWrite
  dropped : Bool
  /-- It holds the sequencer's staging (R364). -/
  holds   : Bool
  wait    : CWait
  /-- The operand of the next instruction, read ahead (R359). -/
  operand : Option Bytes
  deriving DecidableEq, Repr

/-- The Chart sequencers beside their registers: contexts by sequencer × 8 + context, the ring that each sequencer started
last, and the commits that wait, in order. -/
structure ChartSt where
  ctxs    : SMap (Option Ctx)
  started : SMap Nat
  commits : List Commit
  deriving DecidableEq, Repr

/-- Modes and power beside their registers (spec/18). -/
structure PwrSt where
  /-- Edges that each domain has been in the state it is in. -/
  ticks   : SMap Nat
  /-- Domains in RET that have a target of ON, with edges left. -/
  waking  : SMap Nat
  /-- Edges since the pending request was accepted; ticks in DRAIN for READY; the flush of R420 has been made. -/
  edges   : Nat
  drain   : Nat
  flushed : Bool
  /-- HIBERNATE: the stacks are in self-refresh and domains may go down (R422). -/
  hib     : Bool
  /-- Consecutive windows below the cap; the level decided at a window's end, for the next edge (R428). -/
  below   : Nat
  level   : Option Nat
  /-- THERM_TRIP_N is driven low (R458). -/
  trip    : Bool
  /-- The VDD_CORE target, mV (R453). -/
  avs     : Nat
  deriving DecidableEq, Repr

/-- Boot beside its registers (R409 to R417). -/
structure BootSt where
  /-- Lines of the boot slots written here, by slot × 229,376 + line; the others are `Config.mramLine`. -/
  slots   : SMap (Option Bytes)
  /-- The line write in progress: its place and bytes. -/
  line    : Option (Nat × Bytes)
  /-- Cast-on step in progress, 0 to 7; 8 outside cast-on. -/
  step    : Nat
  /-- CONFIRM has been written; ticks on end in modes 3 to 11 (R416). -/
  confirm : Bool
  settled : Nat
  /-- Core clocks left to the watchdog (R414). -/
  wdog    : Nat
  /-- Key hash that verified the running image (R411). -/
  kh      : Nat
  /-- How the start before this one ended, as LAST_END codes it. -/
  prev    : Nat
  /-- OFF is left only once POR_N has been asserted (R452). -/
  needPor : Bool
  /-- The YRN_ID.EPOCH that cast-on wrote last (R290). -/
  epoch   : Nat
  deriving DecidableEq, Repr

/-- Debug access beside its registers (R438 to R443). -/
structure SecSt where
  /-- The level that applies at the next edge. -/
  level   : Option Nat
  /-- The level whose response is being verified, and whether key and signature pass. -/
  asked   : Option (Nat × Bool)
  /-- The TAP's instruction, and EXTEST holding the balls (R440). -/
  tap     : TapInstr
  extest  : Bool
  deriving DecidableEq, Repr

/-- The whole device. -/
structure State where
  /-- Commands waiting, first in, first out. -/
  pending : List Instr
  /-- What the last command sent out. -/
  out     : List Out
  /-- How many free values have been drawn: the model's own field (`Config.freeValue`). -/
  fresh   : Nat
  part    : Part
  /-- The registers, by `Reg.key`. -/
  regs    : SMap (BitVec 64)
  /-- The registers as they stood at the last tick edge: what the functions whose settings take effect at an edge read. -/
  inForce : SMap (BitVec 64)
  bus     : BusSt
  tick    : TickSt
  mode    : Option ModeReq
  pcie    : PcieSt
  dma     : DmaSt
  flt     : FltSt
  jrn     : JrnSt
  ports   : SMap PortSt
  cages   : SMap CageSt
  cmb     : CmbSt
  tim     : TimSt
  /-- The number of the next frame, copy or lookup. -/
  nextId  : Nat
  /-- Tables now, and as they stood after the last edge but one and the one before (R50). -/
  tabs    : Tables
  prev1   : Tables
  prev2   : Tables
  /-- TCAM slots by global index, and entry validity by first slot. -/
  tslots  : SMap TSlot
  tvals   : SMap TVal
  meters  : SMap Meter
  /-- STATS pairs: packets and bytes (R154). -/
  stats   : SMap (Nat × Nat)
  /-- Hash hits of the tick: die × 3 + table, and key (R169). -/
  hits    : List (Nat × Bytes)
  needles : SMap (Option Needle)
  lookups : SMap (Option Lookup)
  pipes   : SMap PipeSt
  staged  : SMap (Option Staged)
  copies  : SMap (Option Copy)
  gauge   : GaugeSt
  /-- Lookups queued at each panel, and twinned pairs (R192, R195). -/
  tqueue  : SMap (List Nat)
  /-- First slots of entries whose check failed in a search, which the scrubber repairs next (R206). -/
  scrubNext : List Nat
  twins   : SMap Twin
  /-- Learning, aging, flush and scans, by die. -/
  learn   : SMap LearnSt
  /-- Flushes that name both dies complete when both have ended: identifier, dies still running, deleted on each. -/
  flushes : List (Flush × Nat × Nat × Nat)
  /-- Front ports whose BRIDGE flush is to be queued at the next edge (R178). -/
  flushPorts : List Nat
  /-- Copies that wait at each port for its MAC, or at port 130 for the host's rings, in order. -/
  txq     : SMap (List Nat)
  /-- Queues, by die × 65,536 + number, and the buffers of each die. -/
  queues  : SMap QSt
  bufs    : SMap BufSt
  /-- Cells of the lossless groups, by port × 8 + TC, and the groups in XOFF (R239, R241). -/
  groups  : SMap Nat
  xoff    : List Nat
  bfd     : SMap BfdSt
  /-- Ticks since each LACP port last sent (R228). -/
  lacp    : SMap Nat
  /-- LAG writes waiting for the edge: register of a member or of a group, instance, value (R214). -/
  lags    : List (Bool × Nat × BitVec 64)
  /-- The sequencer's counters, by (device × 2 + die) × 8 + TC (R279). -/
  seqs    : SMap Nat
  /-- Copies on their way to the resequencer of each die, packets held by context, and contexts to release at the edge
  with NEXT as it stood when that was commanded (R283 to R288). -/
  rsq     : SMap (List Nat)
  held    : SMap (List Held)
  rsqGo   : List (Nat × Nat)
  hbc     : SMap HbcSt
  /-- Keys of the MACsec SAs, by octet × 64 + SA. -/
  keys    : SMap SaKey
  /-- Writes that commits have applied at this edge on each die (R55, R162). -/
  wrote   : Nat × Nat
  chart   : ChartSt
  pwr     : PwrSt
  boot    : BootSt
  sec     : SecSt
  deriving DecidableEq, Repr

/-- The key of instance `i` of a register. -/
def Reg.key (r : Reg) (i : Nat) : Nat := i * 256 + r.code

/-- What an unlisted register key reads as: its reset value. -/
def Reg.resetAt (k : Nat) : BitVec 64 :=
  match Reg.all[k % 256]? with
  | some r => r.reset (k / 256)
  | none => 0

/-- An idle submission ring. -/
def SqSt.idle : SqSt := ⟨[], 0, 0, 0, false, false, false, [], false⟩

/-- An idle completion ring. -/
def CqSt.idle : CqSt := ⟨[], false, 0, 0, false, false, false⟩

/-- An MSI-X entry after reset: masked (PRESUMED: PCI Express). -/
def MsixEnt.reset : MsixEnt := ⟨0, 0, true⟩

/-- A port after reset: DISABLED, no lock, no timers. -/
def PortSt.reset : PortSt := ⟨false, false, false, false, true, 0, 0, false, false, false, false, false, 0, []⟩

/-- A cage after reset: no module, button up, power good low, no interrupt; outputs as the reset CAGE_CTL drives them. -/
def CageSt.reset : CageSt := ⟨0xB, 0, 0, 0, 0, true, 2, 2, false, false, 0, 3, false, (none, none), false, []⟩

/-- Tables with no entry. -/
def Tables.empty : Tables := ⟨[], [], [], [], [], []⟩

/-- The reset seeds of the hash tables: all ones for sub-table 0, zero for sub-table 1 (Table 6-10). -/
def seedReset (k : Nat) : BitVec 32 := if k % 2 = 0 then 0xFFFFFFFF else 0

/-- An idle pipeline: the recirculation port counts as the source taken last (R93). -/
def PipeSt.idle : PipeSt :=
  ⟨[], [], 8, 0, 0, 8, [], [], [], [], [none, none], 0, [], [16384, 16384, 16384, 16384], [], [], none, none, false⟩

/-- A zeroed key. -/
def SaKey.zero : SaKey := ⟨List.replicate 32 0, List.replicate 12 0⟩

/-- An empty queue. -/
def QSt.empty : QSt := ⟨[], [], 0, 0, 0, 0, 0, none, none⟩

/-- Idle buffers: every pointer at 0. -/
def BufSt.idle : BufSt :=
  ⟨0, 0, 0, 0, 0, [], [], List.replicate 32 0, List.replicate 15 0, List.replicate 15 15, List.replicate 16 0, [], [], [], 0⟩

/-- An HBM controller with no change in progress. -/
def HbcSt.idle : HbcSt := ⟨0, false, 0, none, false, [], 0, 0, 0, false⟩

/-- Learning, aging and flush of a die with nothing to do. -/
def LearnSt.idle : LearnSt := ⟨[], [], [], [], [], [], none, [], [], [], [], [0, 0], [], [], false, false⟩

/-- The state after cast-on has initialised the device: READY, every register at its reset value (R9), tables, queues and
buffers empty. -/
def State.reset : State where
  pending := []
  out := []
  fresh := 0
  part := .bx2560
  regs := []
  inForce := []
  bus := ⟨[], []⟩
  tick := ⟨1200, 0, 0, false, 0, false, false, none, false, false, 3, 2, false⟩
  mode := none
  pcie := ⟨[], [], [], [], 0, 0, 0, none, 0x00001FD4, 0, false⟩
  dma := ⟨[], [], 0, 0, [], []⟩
  flt := ⟨[], [], [], []⟩
  jrn := ⟨[], 64, 0, 0, 2048, false, []⟩
  ports := []
  cages := []
  cmb := ⟨0, 0, false, []⟩
  tim := ⟨0, true, false, false, none⟩
  nextId := 0
  tabs := Tables.empty
  prev1 := Tables.empty
  prev2 := Tables.empty
  tslots := []
  tvals := []
  meters := []
  stats := []
  hits := []
  needles := []
  lookups := []
  pipes := []
  staged := []
  copies := []
  gauge := ⟨[], [], [], [], [], [], [], none, false, none, 0, [], []⟩
  tqueue := []
  scrubNext := []
  twins := []
  learn := []
  flushes := []
  flushPorts := []
  txq := []
  queues := []
  bufs := []
  groups := []
  xoff := []
  bfd := []
  lacp := []
  lags := []
  seqs := []
  rsq := []
  held := []
  rsqGo := []
  hbc := []
  keys := []
  wrote := (0, 0)
  chart := ⟨[], [], []⟩
  pwr := ⟨[], [], 0, 0, false, false, 0, none, false, 750⟩
  boot := ⟨[], none, 8, false, 0, 2400000000, 0, 15, false, 0⟩
  sec := ⟨none, none, .bypass, false⟩

end Sys2Proof.Machine
end

