-- ==== Sys2Proof/Machine/Ops.lean ====
section
/-! DEFINITION. The named operations over the registers, the outputs and the free values: the one way in which every
meaning reads and changes them. -/

namespace Sys2Proof.Machine

/-- What a command's meaning answers. -/
abbrev Res := Host.Outcome State Fault Refusal

/-- The stored value of instance `i` of a register. -/
def State.reg (s : State) (r : Reg) (i : Nat) : BitVec 64 := SMap.get Reg.resetAt s.regs (r.key i)

/-- The state with instance `i` of a register storing `v`. -/
def State.setReg (s : State) (r : Reg) (i : Nat) (v : BitVec 64) : State :=
  { s with regs := SMap.set Reg.resetAt s.regs (r.key i) v }

/-- The value of a register that is in force in the tick: as it stood at the last edge. -/
def State.regInForce (s : State) (r : Reg) (i : Nat) : BitVec 64 := SMap.get Reg.resetAt s.inForce (r.key i)

/-- A field of instance `i` of its register. -/
def State.fld (s : State) (f : Fld) (i : Nat) : Nat := getField (s.reg f.reg i) f.lsb f.width

/-- A field as it is in force in the tick. -/
def State.eff (s : State) (f : Fld) (i : Nat) : Nat := getField (s.regInForce f.reg i) f.lsb f.width

/-- The state with a field of instance `i` set to the low bits of `v`. -/
def State.setFld (s : State) (f : Fld) (i v : Nat) : State :=
  s.setReg f.reg i (putField (s.reg f.reg i) f.lsb f.width v)

/-- A one-bit field as a truth value. -/
def State.bit (s : State) (f : Fld) (i : Nat) : Bool := s.fld f i == 1

/-- A one-bit field in force in the tick. -/
def State.effBit (s : State) (f : Fld) (i : Nat) : Bool := s.eff f i == 1

/-- A frozen counter loses an addition: counted once for each counter in GGE_COL_STS.LOST, and in the collection that
froze it (R396). -/
def State.lose (s : State) (k : Nat) : State :=
  if s.gauge.losers.contains k then s
  else
    let l := min 65535 (getField (s.reg .GGE_COL_STS 0) 16 16 + 1)
    { s.setReg .GGE_COL_STS 0 (putField (s.reg .GGE_COL_STS 0) 16 16 l) with gauge := { s.gauge with
        losers := k :: s.gauge.losers,
        col := s.gauge.col.map (fun c => if c.freeze then { c with lost := c.lost + 1 } else c) } }

/-- The state with `n` more in the 32-bit pending count of a frozen counter; what would pass it is lost (R396). -/
def State.pend (s : State) (k n : Nat) : State :=
  let p := SMap.get (fun _ => 0) s.gauge.pend k
  if p + n < 2 ^ 32 then
    { s with gauge := { s.gauge with pend := SMap.set (fun _ => 0) s.gauge.pend k (p + n) } }
  else s.lose k

/-- The state with `n` added to a counter register, wrapping at its width (R5); into its pending count while a
collection holds it frozen (R396, R401). -/
def State.bump (s : State) (r : Reg) (i n : Nat) : State :=
  if s.gauge.held.contains (r.key i) then s.pend (r.key i) n
  else s.setReg r i (s.reg r i + BitVec.ofNat 64 n)

/-- The state with a saturating count field raised by `n`. -/
def State.satFld (s : State) (f : Fld) (i n : Nat) : State :=
  s.setFld f i (satAdd (2 ^ f.width - 1) (s.fld f i) n)

/-- The state with bit `b` of a register set. -/
def State.setBit (s : State) (r : Reg) (i b : Nat) : State := s.setReg r i (s.reg r i ||| ((1 : BitVec 64) <<< b))

/-- The state with bit `b` of a register cleared. -/
def State.clearBit (s : State) (r : Reg) (i b : Nat) : State :=
  s.setReg r i (s.reg r i &&& ~~~ ((1 : BitVec 64) <<< b))

/-- The state with one more output. -/
def State.emit (s : State) (o : Out) : State := { s with out := s.out ++ [o] }

/-- The device sends a packet over the PCIe link, which leaves L1 for it (R315). -/
def State.sendTlp (s : State) (o : Out) : State := (s.emit o).setFld F.PCX_LINK_STS_PM 0 0

/-- The state at the start of a command: nothing sent out yet. -/
def State.begin (s : State) : State := { s with out := [] }

/-- The next free value. -/
def State.free (s : State) : BitVec 64 := Config.freeValue s.fresh

/-- The state with the next free value drawn. -/
def State.drawn (s : State) : State := { s with fresh := s.fresh + 1 }

/-- TIK_COUNT. -/
def State.tikCount (s : State) : BitVec 64 := s.reg .TIK_COUNT 0

/-- The tick tag: TIK_COUNT[1:0] (R49). -/
def State.tag (s : State) : Nat := s.fld F.TIK_COUNT_COUNT 0 % 4

/-- This core clock is that of a tick edge, the first of its tick (R40): TIK_CLK is 0. -/
def State.atEdge (s : State) : Bool := s.fld F.TIK_CLK_CLK 0 == 0

/-- GLB_MODE.CUR (R25). -/
def State.curMode (s : State) : Nat := s.fld F.GLB_MODE_CUR 0

/-- Bit `b` of GLB_SPLIT_EFF: 1 is host-assisted mode (R32, R34). -/
def State.split (s : State) (b : Nat) : Bool := bitOf (s.fld F.GLB_SPLIT_EFF_ALL 0) b

/-- Folds an operation over a list of numbers. -/
def State.each (s : State) (l : List Nat) (f : State → Nat → State) : State := l.foldl f s

/-- The state after `f` when `b`, unchanged otherwise. -/
def State.when (s : State) (b : Bool) (f : State → State) : State := if b then f s else s

/-- The number of an agent: the functions 0 to 63, MC0 and MC1 64 and 65, Chart sequencers from 66, and JTAG 74, also
through SEC_UNLOCK (R14; Table 16-3, ACC_VIOL). -/
def agentNum : Agent → Nat
  | .fn f => f.val
  | .mc n => 64 + n.val
  | .cs n => 66 + n.val
  | .jtag | .tap => 74

end Sys2Proof.Machine
end

