-- ==== Sys2Proof/Machine/Access.lean ====
section
/-! DEFINITION. Which register an address names, which unit and supply it needs, and which agents reach it (R10 to R17,
R36, R311, R330). -/

namespace Sys2Proof.Machine

/-- The power domains that a part has fused off (R408, Table 18-1). -/
def absentDomains : Part → List Nat
  | .bx2560 => []
  | .bx1920 => [6, 7, 14, 15, 22, 23, 30, 31]
  | .bx1280 => [4, 5, 6, 7, 12, 13, 14, 15, 20, 21, 22, 23, 28, 29, 30, 31, 33, 34]

/-- The domains that supply instance `i` of a register: it is off when all of them are (none: never off). -/
def Reg.domains (r : Reg) (i : Nat) : List Nat :=
  match r.power with
  | .aon => []
  | .pd d => [d]
  | .pipe n => [i / n]
  | .oct n => [16 + i / n]
  | .lane n => if i / n < 128 then [16 + i / n / 8] else []
  | .die b st n => [b + st * (i / n)]
  | .panel => [36 + i / 6]
  | .tcm n => if i / n = 0 then [36, 37, 38, 39] else [40, 41, 42, 43]
  | .tcmC0 => [36, 37, 38, 39]
  | .either a b => [a, b]
  | .gauge n => if i < 16 * n then [i / n] else [54 + (i - 16 * n) / (2 * n - n % 2)]

/-- The state code of a power domain: ABSENT where the part lacks it (R408, Table 18-10). -/
def State.domState (s : State) (d : Nat) : Nat :=
  if (absentDomains s.part).contains d then 7 else s.fld F.PWR_DOM_STS_STATE d

/-- The domain is supplied so that its registers can be reached: INIT, ON or FENCE (R16, R423). -/
def State.domOn (s : State) (d : Nat) : Bool := s.domState d == 2 || s.domState d == 3 || s.domState d == 4

/-- Number `q` names a queue of die `d` (R231, Table 9-1): HOST, MGT0 and MGT1 are local ports of C0 alone. -/
def isQueue (d q : Nat) : Bool :=
  q < 32768 || (32768 ≤ q && (q - 32768) % 16 < 10 && (q - 32768) / 16 < (if d = 0 then 75 else 72))

/-- The index of an instance lies in the range of its template, where that depends on the die (R15, R231, Table 10-8). -/
def Reg.inRange (r : Reg) (i : Nat) : Bool :=
  match r with
  | .SCH_PORT | .SCH_PORT_PFC | .SCH_PORT_CW | .SCH_PORT_QW | .SCH_PORT_MQW | .SCH_PORT_STS | .SCH_PORT_SHP | .SCH_PORT_TOK =>
    i < 75 || i % 75 < 72
  | .SCH_Q_SHP | .SCH_Q_TOK => i < 750 || i / 10 % 75 < 72
  | .SKN_Q => isQueue (i / 34048) (i % 34048)
  | _ => true

/-- The instance is defined, and the unit that holds it is present in the part (R15, R37). -/
def State.regPresent (s : State) (r : Reg) (i : Nat) : Bool :=
  r.inRange i && ((r.domains i).isEmpty || (r.domains i).any (fun d => !(absentDomains s.part).contains d))

/-- The supply of instance `i` of a register is on (R16). -/
def State.regOn (s : State) (r : Reg) (i : Nat) : Bool :=
  (r.domains i).isEmpty || (r.domains i).any s.domOn

/-- Walks the array dimensions of a window: the instance number and the byte offset within its stride. -/
def Window.walk : List (Nat × Nat) → Nat → Nat → Option (Nat × Nat)
  | [], rem, acc => some (acc, rem)
  | (c, st) :: ds, rem, acc => if rem / st < c then Window.walk ds (rem % st) (acc * c + rem / st) else none

/-- The instance and byte offset that an address has in a window of a register of `bytes` bytes. -/
def Window.find (w : Window) (bytes addr : Nat) : Option (Nat × Nat) :=
  if addr < w.base then none
  else match Window.walk w.dims (addr - w.base) 0 with
    | some (i, rem) => if rem < bytes then some (w.off + i, rem) else none
    | none => none

/-- The instance and byte offset that an address has in a register. -/
def Reg.find (r : Reg) (addr : Nat) : Option (Nat × Nat) :=
  r.windows.findSome? (fun w => w.find (r.width / 8) addr)

/-- The register, instance and byte offset at a BAR0 address (R36). -/
def locate (addr : Nat) : Option (Reg × Nat × Nat) :=
  Reg.all.findSome? (fun r => (r.find addr).map (fun e => (r, e.1, e.2)))

/-- The function that owns global submission ring `g`, or completion ring `g` when `cq` (R333). -/
def State.ringOwner (s : State) (cq : Bool) (g : Nat) : Option Nat :=
  (List.range 64).find? (fun f =>
    let b := if cq then s.fld F.PCX_FUNC_RINGS_CQ_BASE f else s.fld F.PCX_FUNC_RINGS_SQ_BASE f
    let n := if cq then s.fld F.PCX_FUNC_RINGS_CQ_COUNT f else s.fld F.PCX_FUNC_RINGS_SQ_COUNT f
    b ≤ g && g < b + n)

/-- The BAR0 address of a PF that an offset in the BAR0 of VF function `f` reaches (R311, Table 13-5). -/
def State.vfAddr (s : State) (f addr : Nat) : Option Nat :=
  if addr < 8 then some addr
  else if 0x10 ≤ addr ∧ addr < 0x18 then some (0x40000 + addr)
  else if 0x1000 ≤ addr ∧ addr < 0x1080 then some (0x210000 + (2112 + 32 * (f - 2)) * 4 + (addr - 0x1000))
  else if 0x8000 ≤ addr ∧ addr < 0xC000 then
    if (addr - 0x8000) / 0x20 < s.fld F.PCX_FUNC_RINGS_SQ_COUNT f
    then some (0x300000 + s.fld F.PCX_FUNC_RINGS_SQ_BASE f * 0x20 + (addr - 0x8000)) else none
  else if 0xC000 ≤ addr ∧ addr < 0x10000 then
    if (addr - 0xC000) / 0x20 < s.fld F.PCX_FUNC_RINGS_CQ_COUNT f
    then some (0x320000 + s.fld F.PCX_FUNC_RINGS_CQ_BASE f * 0x20 + (addr - 0xC000)) else none
  else none

/-- Instance `i` of a register belongs to a ring of function `f`. -/
def State.ownsReg (s : State) (r : Reg) (i f : Nat) : Bool :=
  match r with
  | .DMA_SQ_BASE | .DMA_SQ_CFG | .DMA_SQ_IDX | .DMA_SQ_STS => s.ringOwner false i == some f
  | .DMA_CQ_BASE | .DMA_CQ_CFG | .DMA_CQ_IDX | .DMA_CQ_STS => s.ringOwner true i == some f
  | _ => false

/-- The agent is listed in the access domain of instance `i` of a register (R10, R17, R330, R440). -/
def State.listed (s : State) (a : Agent) (r : Reg) (i : Nat) : Bool :=
  match a with
  | .fn f =>
    if f.val = 0 then r.dom.contains .pf0
    else if f.val = 1 then
      (r.dom.contains .pf1 && (!(decide (r = .PCX_IMOD)) || (64 ≤ i && i ≤ 2111))) || s.ownsReg r i 1
    else (r.dom.contains .vf && (!(decide (r = .PCX_IMOD)) || (2112 + 32 * (f.val - 2) ≤ i && i < 2144 + 32 * (f.val - 2))))
      || s.ownsReg r i f.val
  | .mc _ => r.dom.contains .mc
  | .cs _ => r.dom.contains .cs
  | .jtag => r.dom.contains .jt && 0 < s.fld F.SEC_DBG_STS_LEVEL 0
  | .tap => r.dom.contains .ts

/-- What an access to a register comes to, before its own meaning (R15, R16, R17). -/
inductive Reach where
  /-- No such register in this part: reads zero, writes discarded (R15). -/
  | undefined
  /-- The agent is not listed: reads zero, discarded and counted (R17). -/
  | violation
  /-- The register's domain is off: reads all ones, writes discarded (R16). -/
  | off
  | ok
  deriving DecidableEq, Repr

/-- What an access by agent `a` to instance `i` of a register comes to: R15, R17 and R16 in that order. -/
def State.reach (s : State) (a : Agent) (r : Reg) (i : Nat) : Reach :=
  if !s.regPresent r i then .undefined
  else if !s.listed a r i then .violation
  else if !s.regOn r i then .off
  else .ok

/-- A dword of a function's configuration space as stored (written values; see `Pcie` for what it reads as). -/
def State.cfgWord (s : State) (f dw : Nat) : BitVec 32 := SMap.get (fun _ => 0) s.pcie.cfg (f * 1024 + dw)

/-- The state with a dword of configuration space stored. -/
def State.setCfg (s : State) (f dw : Nat) (v : BitVec 32) : State :=
  { s with pcie := { s.pcie with cfg := SMap.set (fun _ => 0) s.pcie.cfg (f * 1024 + dw) v } }

/-- Bus Master Enable of function `f`: Command bit 2 (PRESUMED: PCI Express). -/
def State.busMaster (s : State) (f : Nat) : Bool := bitOf (s.cfgWord f 1).toNat 2

/-- Function `f` is in D3hot: PMCSR[1:0] = 3 at 0x44 (PRESUMED: PCI Express). -/
def State.inD3 (s : State) (f : Nat) : Bool := bitsOf (s.cfgWord f 0x11).toNat 0 2 == 3

/-- VF Enable of PF1: SR-IOV Control bit 0 at 0x308 (PRESUMED: PCI Express). -/
def State.vfEnable (s : State) : Bool := bitOf (s.cfgWord 1 0xC2).toNat 0

/-- NumVFs of PF1, at 0x310; above 62 handled as 62 (R307). -/
def State.numVfs (s : State) : Nat := min 62 (bitsOf (s.cfgWord 1 0xC4).toNat 0 16)

/-- Bit `f` of PCX_FLR_BUSY (R319). -/
def State.flrBusy (s : State) (f : Nat) : Bool := bitOf (s.fld F.PCX_FLR_BUSY_BUSY 0) f

/-- An FLR of function `f` is in progress: its own, or for a VF that of PF1, which takes every VF (R319). -/
def State.inFlr (s : State) (f : Nat) : Bool := s.flrBusy f || (2 ≤ f && s.flrBusy 1)

/-- Function `f` answers: a PF always, VF v while VF Enable is set and v < NumVFs, and until its FLR completes (R307). -/
def State.fnExists (s : State) (f : Nat) : Bool := f < 2 || s.flrBusy f || (s.vfEnable && f < 2 + s.numVfs)

/-- The mode refuses memory requests to function `f` (R308). -/
def State.modeRefuses (s : State) (f : Nat) : Bool :=
  s.curMode ≤ 1 || ((s.curMode == 2 || s.curMode == 11) && 1 ≤ f)

/-- Function `f` can issue requests: Bus Master Enable, D0, no FLR, and the mode allows it (R308, R319, R320, R321). -/
def State.fnMayIssue (s : State) (f : Nat) : Bool :=
  s.busMaster f && !s.inD3 f && !s.inFlr f && !s.modeRefuses f && s.fnExists f

end Sys2Proof.Machine
end

