-- ==== Sys2Proof/Machine/Report.lean ====
section
/-! DEFINITION. How the device reports: interrupt events, entries of completion rings, notify records, journal records,
and the detection of a fault (spec/13, spec/14, spec/16). -/

namespace Sys2Proof.Machine

/-- The number k of vector `j` of function `f`, if the function has it (R326, Table 13-11). -/
def vectorNum (f j : Nat) : Option Nat :=
  if f = 0 then if j < 64 then some j else none
  else if f = 1 then if j < 2048 then some (64 + j) else none
  else if j < 32 then some (2112 + 32 * (f - 2) + j) else none

/-- An interrupt event for vector `j` of function `f`: its pending bit is set, or the event is dropped and counted in
PCX_IVEC_BAD (R327, R328). -/
def State.event (s : State) (f j : Nat) : State :=
  match vectorNum f j with
  | some k => if s.modeRefuses f then s.bump .PCX_CNT 5 1 else s.setFld F.PCX_IMOD_PEND k 1
  | none => s.bump .PCX_CNT 5 1

/-- An interrupt event of source `i`, routed by PCX_ISRC[i] (R327). -/
def State.interrupt (s : State) (i : Nat) : State :=
  if s.bit F.PCX_ISRC_EN i then s.event (s.fld F.PCX_ISRC_FUNC i) (s.fld F.PCX_ISRC_VEC i) else s

/-- The dynamic state of submission ring `g`. -/
def State.sq (s : State) (g : Nat) : SqSt := SMap.get (fun _ => SqSt.idle) s.dma.sq g

/-- The state with submission ring `g` changed. -/
def State.setSq (s : State) (g : Nat) (v : SqSt) : State :=
  { s with dma := { s.dma with sq := SMap.set (fun _ => SqSt.idle) s.dma.sq g v } }

/-- The dynamic state of completion ring `g`. -/
def State.cq (s : State) (g : Nat) : CqSt := SMap.get (fun _ => CqSt.idle) s.dma.cq g

/-- The state with completion ring `g` changed. -/
def State.setCq (s : State) (g : Nat) (v : CqSt) : State :=
  { s with dma := { s.dma with cq := SMap.set (fun _ => CqSt.idle) s.dma.cq g v } }

/-- Differences of ring indices, modulo 65,536 (R334). -/
def idxSub (a b : Nat) : Nat := (a + 65536 - b % 65536) % 65536

/-- Free entries of completion ring `g` (R334). -/
def State.cqFree (s : State) (g : Nat) : Nat :=
  2 ^ s.fld F.DMA_CQ_CFG_LOG2SIZE g - idxSub (s.fld F.DMA_CQ_STS_TAIL g) (s.fld F.DMA_CQ_STS_HEAD g)

/-- The function that owns a ring; a ring no function owns is PF0's. -/
def State.ownerOf (s : State) (cq : Bool) (g : Nat) : Nat := (s.ringOwner cq g).getD 0

/-- The size of an entry of completion ring `g`: 16 bytes for CMPL, 32 for NOTIFY (R332, Table 14-1). -/
def State.cqEntrySize (s : State) (g : Nat) : Nat := if s.bit F.DMA_CQ_CFG_KIND g then 32 else 16

/-- FULL and STAGED of completion ring `g` as the ring now stands (R334, R349). -/
def State.cqRefresh (s : State) (g : Nat) : State :=
  (s.setFld F.DMA_CQ_STS_FULL g (boolNat (s.cqFree g == 0))).setFld F.DMA_CQ_STS_STAGED g (s.cq g).staged.length

/-- The entry with bit PHASE set for index `idx` in a ring of 2^`log` entries: the inverse of bit `log` (R341). -/
def withPhase (log idx : Nat) (e : Bytes) : Bytes :=
  overwrite e (e.length - 1)
    [BitVec.ofNat 8 ((e.getD (e.length - 1) 0).toNat % 128 + (if bitOf idx log then 0 else 128))]

/-- Writes an entry into the next slot of completion ring `g`, advances its tail and raises its event (R341, R351). -/
def State.cqWrite (s : State) (g : Nat) (e : Bytes) : State :=
  let log := s.fld F.DMA_CQ_CFG_LOG2SIZE g
  let tail := s.fld F.DMA_CQ_STS_TAIL g
  let f := s.ownerOf true g
  let addr := s.fld F.DMA_CQ_BASE_ADDR g * 4096 + tail % 2 ^ log * s.cqEntrySize g
  let s1 := (s.sendTlp (.memWrite f addr (withPhase log tail e))).setFld F.DMA_CQ_STS_TAIL g (tail + 1)
  (if s.bit F.DMA_CQ_CFG_INT_EN g then s1.event f (s.fld F.DMA_CQ_CFG_VEC g) else s1).cqRefresh g

/-- An entry can be written into completion ring `g` now: the ring has room, and its function may issue requests (R308,
R319, R320; what waits then waits in the staging: DESIGN CHOICE, log entry 65). -/
def State.cqOpen (s : State) (g : Nat) : Bool := 0 < s.cqFree g && s.fnMayIssue (s.ownerOf true g)

/-- Completion ring `g` can take one more entry: in the ring behind nothing staged, or in its staging of 64 (R349). -/
def State.cqRoom (s : State) (g : Nat) : Bool :=
  ((s.cq g).staged.isEmpty && s.cqOpen g) || (s.cq g).staged.length < 64

/-- An entry enters completion ring `g`: written when nothing is staged ahead of it and the ring is open, staged
otherwise (R349). -/
def State.cqPush (s : State) (g : Nat) (e : Bytes) : State :=
  if (s.cq g).staged.isEmpty && s.cqOpen g then s.cqWrite g e
  else (s.setCq g { s.cq g with staged := (s.cq g).staged ++ [e] }).cqRefresh g

/-- Up to `n` staged entries of completion ring `g` are written, in order, while the ring is open (R349). -/
def State.cqDrain (s : State) (g : Nat) : Nat → State
  | 0 => s
  | n + 1 =>
    match (s.cq g).staged with
    | [] => s
    | e :: r =>
      if !s.cqOpen g then s
      else (((s.setCq g { s.cq g with staged := r }).cqWrite g e).cqDrain g n)

/-- Places of completion ring `g` not yet promised: free entries and free staging entries (R348). -/
def State.cqPlaces (s : State) (g : Nat) : Nat :=
  s.cqFree g + (64 - (s.cq g).staged.length) - (s.cq g).promised

/-- The global completion ring that submission ring `g` is bound to (R333, R348). -/
def State.boundCq (s : State) (g : Nat) : Nat :=
  s.fld F.PCX_FUNC_RINGS_CQ_BASE (s.ownerOf false g) + s.fld F.DMA_SQ_CFG_CQ g

/-- The local number of global submission ring `g` (R333). -/
def State.localSq (s : State) (g : Nat) : Nat := g - s.fld F.PCX_FUNC_RINGS_SQ_BASE (s.ownerOf false g)

/-- A completion entry from its four words (Table 14-7). -/
def cmplEntry (w0 w1 w2 w3 : Nat) : Bytes := leBytes 4 w0 ++ leBytes 4 w1 ++ leBytes 4 w2 ++ leBytes 4 w3

/-- A notify record of TYPE `t`: `a` and `b` of its header, `body` its words 1 to 6 as 24 bytes (Table 14-9). -/
def notifyEntry (t die a b tick : Nat) (overflow : Bool) (body : Bytes) : Bytes :=
  leBytes 4 (t + boolNat overflow * 256 + die * 512 + a * 65536) ++ padTo 24 body ++
    leBytes 4 (tick % 65536 + b * 65536)

/-- A notify record goes to the NOTIFY ring of its TYPE, is staged, is dropped with the ring's overflow noted, or is
discarded where no ring takes it (R350, R352). Answers the ring that dropped it, if any. -/
def State.notifyCore (s : State) (t die a b : Nat) (body : Bytes) : State × Option Nat :=
  let g := s.fld F.DMA_NTF_MAP_RING t
  if !(s.bit F.DMA_NTF_MAP_EN t && s.bit F.DMA_CQ_STS_ENABLED g && s.bit F.DMA_CQ_CFG_KIND g) then
    (s.bump .DMA_CNT 10 1, none)
  else if s.cqRoom g then
    let e := notifyEntry t die a b s.tikCount.toNat (s.cq g).overflow body
    (((s.setCq g { s.cq g with overflow := false }).cqPush g e).bump .DMA_CNT 8 1, none)
  else
    (((s.setCq g { s.cq g with overflow := true }).satFld F.DMA_CQ_STS_DROPS g 1).bump .DMA_CNT 9 1, some g)

/-- A record enters the journal writer's queue of 64, or is counted as dropped (R387). -/
def State.journal (s : State) (r : JrnRec) : State :=
  if s.jrn.queue.length < 64 then { s with jrn := { s.jrn with queue := s.jrn.queue ++ [r] } }
  else { s.satFld F.BOOT_JRN_STS_DROPS 0 1 with jrn := { s.jrn with dropped := true } }

/-- The journal header fields of this moment. -/
def State.journalNow (s : State) (type flags : Nat) (body : Bytes) : State :=
  s.journal ⟨type, flags, s.tikCount, s.fld F.TIM_TOD_NS_NS 0, s.fld F.TIM_TOD_SEC_SEC 0 % 65536, padTo 88 body⟩

/-- FLT_LIVE of block `k`: the sources with a lasting condition present in any instance (R377). -/
def State.fltLive (s : State) (k : Nat) : Nat :=
  ((List.range 32).map (fun b => if s.flt.live.any (fun e => e.1 == k && e.2.1 == b) then 2 ^ b else 0)).sum

/-- Marks, counts and captures an occurrence of source `src` of block `k` in instance `inst` (R377). -/
def State.fltMark (s : State) (k src inst : Nat) (info : BitVec 48) (inj : Bool) : State :=
  let s1 := (s.setBit .FLT_STS k src).satFld F.FLT_CNT_COUNT (k * 32 + src) 1
  let s2 := if inst < 128 then s1.setBit .FLT_INST (k * 2 + inst / 64) (inst % 64) else s1
  if s.bit F.FLT_FIRST_VALID k then s2
  else
    (s2.setReg .FLT_FIRST k (BitVec.ofNat 64 (src + inst * 65536 + (s.tikCount.toNat % 2 ^ 31) * 2 ^ 32 + 2 ^ 63))).setReg
      .FLT_FIRST_INFO k (info.setWidth 64 ||| (if inj then (1 : BitVec 64) <<< 63 else 0))

/-- The body of a TYPE 1 journal record, bytes 32 to 55 (Table 16-5). -/
def State.fltBody (s : State) (k src inst cls react : Nat) (info : BitVec 48) : Bytes :=
  leBytes 1 k ++ leBytes 1 src ++ leBytes 1 (cls + react * 16) ++ leBytes 1 s.curMode ++ leBytes 2 inst ++
    leBytes 2 (s.fld F.FLT_CNT_COUNT (k * 32 + src)) ++ leBytes 8 info.toNat ++
    leBytes 4 (s.reg .FLT_STS k).toNat ++ leBytes 4 (s.fltLive k ||| 2 ^ src)

/-- A reaction of an injected fault that changes mode is withheld (R391): unit loss, mode change, and the two supplies'
losses. -/
def reactChangesMode (k src react : Nat) : Bool := react == 3 || react == 4 || (k == 2 && (src == 1 || src == 3))

/-- The reports that a bit of FLT_STS going from 0 to 1 raises: interrupt, notify record, journal record, and the
reaction of the next edge (R380, R381). Answers the NOTIFY ring that dropped the record, if one did. -/
def State.fltReport (s : State) (k src inst cls react : Nat) (info : BitVec 48) (inj : Bool) : State × Option Nat :=
  let s1 := if bitOf (s.fld F.FLT_EN_INT_EN k) src then s.interrupt (16 + k) else s
  let p := if bitOf (s.fld F.FLT_EN_NTF_EN k) src
    then s1.notifyCore 9 0 k 0
      (leBytes 4 (src + cls * 256 + 4096) ++ leBytes 4 (s.fld F.FLT_CNT_COUNT (k * 32 + src)))
    else (s1, none)
  let withheld := !bitOf (s.fld F.FLT_EN_ACT_EN k) src || (inj && reactChangesMode k src react) ||
    (s.split 11 && (react == 1 || react == 2))
  let s2 := if bitOf (s.fld F.FLT_EN_JRN_EN k) src
    then p.1.journalNow 1 (boolNat inj + boolNat withheld * 2) (s.fltBody k src inst cls react info) else p.1
  (if react = 0 then s2
   else { s2 with flt := { s2.flt with react := s2.flt.react ++ [⟨k, src, inst, info, 0, s.tikCount, inj, s.split 11⟩] } }, p.2)

/-- Block `k` detects source `src` in instance `inst` (R377 to R381): marked, counted, captured, and reported where its
status bit was 0. -/
def State.fltCore (s : State) (k src inst : Nat) (info : BitVec 48) (lasting inj : Bool) : State × Option Nat :=
  match fltSource k src with
  | none => (s, none)
  | some (cls, react) =>
    let armed := s.flt.armed.any (fun e => e.1 == k && e.2.1 == src && e.2.2.1 == inst)
    let s0 := { s with flt := { s.flt with
      armed := removeFirst (fun e => e.1 == k && e.2.1 == src && e.2.2.1 == inst) s.flt.armed
      live := if lasting && !s.flt.live.contains (k, src, inst) then s.flt.live ++ [(k, src, inst)] else s.flt.live } }
    let s1 := s0.fltMark k src inst info (inj || armed)
    if bitOf (s.fld F.FLT_STS_STS k) src then (s1, none)
    else s1.fltReport k src inst cls react info (inj || armed)

/-- A fault is detected; where its own record finds no room, that is a further fault of the DMA block (R350, R377). -/
def State.faultWith (s : State) (k src inst : Nat) (info : BitVec 48) (lasting inj : Bool) : State :=
  match s.fltCore k src inst info lasting inj with
  | (s1, none) => s1
  | (s1, some g) =>
    match s1.fltCore 5 2 g (BitVec.ofNat 48 g) false false with
    | (s2, none) => s2
    | (s2, some g2) => (s2.fltCore 5 2 g2 (BitVec.ofNat 48 g2) false false).1

/-- An event source of block `k` is detected in instance `inst`, with information word `info`. -/
def State.fault (s : State) (k src inst : Nat) (info : Nat := 0) : State :=
  s.faultWith k src inst (BitVec.ofNat 48 info) false false

/-- A source with a lasting condition is detected. -/
def State.faultLasting (s : State) (k src inst : Nat) (info : Nat := 0) : State :=
  s.faultWith k src inst (BitVec.ofNat 48 info) true false

/-- The condition of a source ends in an instance: its live mark goes, its status stays (R377). -/
def State.faultEnds (s : State) (k src inst : Nat) : State :=
  { s with flt := { s.flt with live := s.flt.live.filter (fun e => !(e == (k, src, inst))) } }

/-- A notify record of TYPE `t`; one dropped for want of room raises DMA source NTF_DROP (R350, R352). -/
def State.notify (s : State) (t die a b : Nat) (body : Bytes) : State :=
  match s.notifyCore t die a b body with
  | (s1, none) => s1
  | (s1, some g) => s1.fault 5 2 g g

/-- A refused access is counted and raises ACC_VIOL with the agent's instance (R17, Table 16-3). -/
def State.accViol (s : State) (a : Agent) : State :=
  (s.bump .PCX_CNT 11 1).fault 4 3 (agentNum a)

/-- GLB_FLT_SUM: bit k is 1 while FLT_STS of block k is not zero (Table 16-7). -/
def State.fltSum (s : State) : Nat :=
  ((List.range 23).map (fun k => if s.reg .FLT_STS k = 0 then 0 else 2 ^ k)).sum

/-- GLB_FLT_PIN: bit k is 1 while FLT_STS AND FLT_EN_PIN of block k is not zero (R385). -/
def State.fltPin (s : State) : Nat :=
  ((List.range 23).map (fun k => if s.reg .FLT_STS k &&& s.reg .FLT_EN_PIN k = 0 then 0 else 2 ^ k)).sum

/-- ERR_N is driven low (R385). -/
def State.errNLow (s : State) : Bool := s.fltPin != 0

end Sys2Proof.Machine
end

