-- ==== Sys2Proof/Machine/Gate.lean ====
section
/-! DEFINITION. What every write of a register passes before its own meaning: the host gate of R308, R319 and R321, the
shadow rule of R14, and R15, R17 and R16; and the plain write of a register by the access codes of its fields (R6). -/

namespace Sys2Proof.Machine

/-- A host request that its function does not take: counted in PCX_RX_UR where the mode refuses it (R308), discarded
during an FLR, in D3hot, or where the function does not answer (R307, R319, R321). -/
def State.gate (s : State) (a : Agent) : Option State :=
  match a with
  | .fn f =>
    if s.modeRefuses f.val then some (s.bump .PCX_CNT 3 1)
    else if s.inFlr f.val || s.inD3 f.val || !s.fnExists f.val then some s
    else none
  | _ => none

/-- The shadow of an agent is cleared by its access to another register (R14). -/
def State.touch (s : State) (a : Agent) (key : Nat) : State :=
  match SMap.get (fun _ => none) s.bus.shadows (agentNum a) with
  | some h =>
    if h.key = key then s
    else { s with bus := { s.bus with shadows := SMap.set (fun _ => none) s.bus.shadows (agentNum a) none } }
  | none => s

/-- A write of instance `i` of register `r` by agent `a`, whose effect is `f` where the write is taken. -/
def State.writeBy (s : State) (a : Agent) (r : Reg) (i : Nat) (f : State → State) : State :=
  match s.gate a with
  | some s' => s'
  | none =>
    match s.reach a r i with
    | .undefined => s
    | .violation => (s.touch a (r.key i)).accViol a
    | .off => s.touch a (r.key i)
    | .ok => f (s.touch a (r.key i))

/-- What a register holds after the bits `mask` of it are written with `v`, by the access codes of its fields (R6):
RW fields take the value, RW1C and RWS bits written 1 clear, a counting field written with any 1 clears whole. -/
def Reg.written (r : Reg) (old mask v : BitVec 64) : BitVec 64 :=
  let kept := old &&& ~~~ (r.rwMask &&& mask) ||| (v &&& r.rwMask &&& mask)
  let cleared := kept &&& ~~~ (v &&& mask &&& r.w1cMask)
  if v &&& mask &&& r.countMask = 0 then cleared else cleared &&& ~~~ r.countMask

/-- The plain write of a register: nothing but its fields changes. -/
def State.plainWrite (s : State) (r : Reg) (i : Nat) (mask v : BitVec 64) : State :=
  s.setReg r i (r.written (s.reg r i) mask v)

/-- The mask of a whole 32-bit register. -/
def low32 : BitVec 64 := 0xFFFFFFFF

/-- The mask of a whole 64-bit register. -/
def all64 : BitVec 64 := 0xFFFFFFFFFFFFFFFF

/-- A bit of the written value, where the write covers it. -/
def wbit (mask v : BitVec 64) (b : Nat) : Bool := (v &&& mask).getLsbD b

/-- A field of what a register would hold after the write. -/
def wfld (old mask v : BitVec 64) (lsb w : Nat) : Nat := getField ((old &&& ~~~ mask) ||| (v &&& mask)) lsb w

end Sys2Proof.Machine
end

