-- ==== Sys2Proof/Machine/Tables.lean ====
section
/-! DEFINITION. The tables that packets read: direct-indexed entries, hash tables, their placement and their state under a
tick tag (spec/06; R49, R50). -/

namespace Sys2Proof.Machine

/-- The tables as a packet of tick tag `tag` sees them: the state of the tick whose number ends in the tag (R49, R50). Where a
realigned TIK_COUNT gives two of the three ticks one tag, the later is meant (DESIGN CHOICE, log entry 62). -/
def State.tabsAt (s : State) (tag : Nat) : Tables :=
  if tag = s.tag then s.tabs else if tag = s.tick.tag1 then s.prev1 else s.prev2

/-- The table IDs of Table 5-6, and the numbers this model gives the tables that programs do not read. -/
def tidNexthop : Nat := 1
def tidEcmpGroup : Nat := 2
def tidEcmpMember : Nat := 3
def tidBd : Nat := 4
def tidVid : Nat := 5
def tidPortcfg : Nat := 6
def tidTunnel : Nat := 7
def tidMirror : Nat := 8
def tidPolicer : Nat := 9
def tidStats : Nat := 10
def tidMcg : Nat := 11

/-- Bits of the index of a direct-indexed table (Tables 5-6 and 6-1). -/
def indexWidth (tid : Nat) : Nat := [0, 18, 16, 20, 14, 18, 8, 16, 6, 18, 20, 16].getD tid 0

/-- Data words of an entry of a direct-indexed table (Tables 6-1 and 8-5). -/
def entryWords (tid : Nat) : Nat := [0, 5, 1, 1, 2, 1, 4, 16, 2, 4, 4, 4].getD tid 0

/-- The die of a port: 0 for ports 0 to 63, 128 to 130, 144 to 151 and numbers that are no port (Table 6-1). -/
def portDie (p : Nat) : Nat := if (64 ≤ p ∧ p < 128) ∨ (152 ≤ p ∧ p < 160) then 1 else 0

/-- The die on which an entry lies (R149, Table 6-1). -/
def directDie (tid idx : Nat) : Nat :=
  if tid = tidPortcfg then portDie idx
  else boolNat (bitOf idx ([0, 16, 15, 16, 13, 16, 0, 15, 5, 16, 16, 0].getD tid 0))

/-- An entry that is not valid, its data zero (R150). -/
def DEnt.none : DEnt := ⟨false, 0⟩

/-- A direct-indexed entry. -/
def Tables.direct? (t : Tables) (tid idx : Nat) : DEnt := SMap.get (fun _ => DEnt.none) t.direct (tid * 2 ^ 20 + idx)

/-- The tables with a direct-indexed entry replaced. -/
def Tables.setDirect (t : Tables) (tid idx : Nat) (e : DEnt) : Tables :=
  { t with direct := SMap.set (fun _ => DEnt.none) t.direct (tid * 2 ^ 20 + idx) e }

/-- Word `w` of an entry. -/
def DEnt.word (e : DEnt) (w : Nat) : Nat := bitsOf e.data (32 * w) 32

/-- The first `n` words of an entry. -/
def DEnt.words (e : DEnt) (n : Nat) : List Word := (List.range n).map (fun w => BitVec.ofNat 32 (e.word w))

/-- A direct read under a tag: the entry where its domain is on and it is valid (R130, R150). -/
def State.readDirect (s : State) (tag tid idx : Nat) : Option DEnt :=
  if s.domOn (50 + directDie tid idx) then
    let e := (s.tabsAt tag).direct? tid idx
    if e.valid then some e else none
  else none

/-- The hash tables: 0 BRIDGE, 1 SESSION, 2 CASTON. Buckets of a sub-table (Table 6-4). -/
def hashBuckets (t : Nat) : Nat := [32768, 65536, 2048].getD t 0

/-- Key bytes of a hash table. -/
def hashKeyLen (t : Nat) : Nat := if t = 0 then 10 else 20

/-- Data words of a hash entry before its HW word. -/
def hashWords (t : Nat) : Nat := [1, 2, 3].getD t 0

/-- The power domain of a hash table of a die (R149). -/
def hashDomain (d t : Nat) : Nat := if t = 1 then 48 + d else 50 + d

/-- One bit of a reflected CRC whose reversed polynomial is `rp` (R156). -/
def hashBit (rp c : BitVec 32) : BitVec 32 := if c &&& 1 = 1 then (c >>> 1) ^^^ rp else c >>> 1

/-- `n` bits of a reflected CRC. -/
def hashBits (rp : BitVec 32) : Nat → BitVec 32 → BitVec 32
  | 0, c => c
  | n + 1, c => hashBits rp n (hashBit rp c)

/-- The hash of key bytes in sub-table `sub` from a seed (R156). -/
def hashOf (sub : Nat) (seed : BitVec 32) (key : Bytes) : Nat :=
  let rp : BitVec 32 := if sub = 0 then 0x82F63B78 else 0xEB31D82E
  (key.foldl (fun c b => hashBits rp 8 (c ^^^ b.setWidth 32)) seed).toNat

/-- The seed of a sub-table in a table state. -/
def Tables.seedOf (t : Tables) (d tb sub : Nat) : BitVec 32 := SMap.get seedReset t.seed ((d * 3 + tb) * 2 + sub)

/-- The slot at a location (R155). -/
def Tables.slotAt (t : Tables) (d tb loc : Nat) : Option HEnt := SMap.get (fun _ => none) t.hash ((d * 3 + tb) * 2 ^ 20 + loc)

/-- The tables with a slot replaced. -/
def Tables.setSlot (t : Tables) (d tb loc : Nat) (e : Option HEnt) : Tables :=
  { t with hash := SMap.set (fun _ => none) t.hash ((d * 3 + tb) * 2 ^ 20 + loc) e }

/-- The location of a way of a bucket of a sub-table (R155). -/
def locOf (tb sub bucket way : Nat) : Nat := sub * 4 * hashBuckets tb + bucket * 4 + way

/-- The eight locations of a key, lowest first within each sub-table (R157, R160). -/
def Tables.candidates (t : Tables) (d tb : Nat) (key : Bytes) : List Nat :=
  (List.range 8).map (fun i =>
    locOf tb (i / 4) (hashOf (i / 4) (t.seedOf d tb (i / 4)) key % hashBuckets tb) (i % 4))

/-- The location that holds a key: the lowest of its eight slots that hits (R157). -/
def Tables.findKey (t : Tables) (d tb : Nat) (key : Bytes) : Option Nat :=
  (t.candidates d tb key).find? (fun l => match t.slotAt d tb l with
    | some e => e.key == key
    | none => false)

/-- The words of a hash entry, its HW word last (Table 6-4). -/
def HEnt.all (e : HEnt) : List Word := e.words ++ [e.hw]

/-- Fields of the HW word (Table 6-5). -/
def HEnt.port (e : HEnt) : Nat := bitsOf e.hw.toNat 0 8
def HEnt.isStatic (e : HEnt) : Bool := bitOf e.hw.toNat 8
def HEnt.home (e : HEnt) : Nat := bitsOf e.hw.toNat 9 1
def HEnt.aged (e : HEnt) : Bool := bitOf e.hw.toNat 10
def HEnt.sidV (e : HEnt) : Bool := bitOf e.hw.toNat 12
def HEnt.sid (e : HEnt) : Nat := bitsOf e.hw.toNat 13 19

/-- A hash search of die `d` under a tag (R131, R132, R157); off where its domain is off. -/
def State.searchHash (s : State) (tag d tb : Nat) (key : Bytes) : Option (Option HEnt) :=
  if s.domOn (hashDomain d tb) then
    let t := s.tabsAt tag
    some ((t.findKey d tb key).bind (t.slotAt d tb))
  else none

/-- The domain state of the pipeline's dies: die of pipeline `n`. -/
def pipeDie (n : Nat) : Nat := n / 8

/-- A multicast group entry of die `d` under a tag; VALID 0 where its domain is off (R268). -/
def State.readGroup (s : State) (t : Tables) (d g : Nat) : BitVec 128 :=
  if s.domOn (52 + d) then SMap.get (fun _ => 0) t.mcg (d * 65536 + g) else 0

/-- The state with its current tables changed. -/
def State.setTabs (s : State) (t : Tables) : State := { s with tabs := t }

/-- A pair of STATS (R154). -/
def State.statPair (s : State) (i : Nat) : Nat × Nat := SMap.get (fun _ => (0, 0)) s.stats i

/-- The state with a pair of STATS set, wrapping at 40 and 56 bits (R154). -/
def State.setStat (s : State) (i : Nat) (v : Nat × Nat) : State :=
  { s with stats := SMap.set (fun _ => (0, 0)) s.stats i (v.1 % 2 ^ 40, v.2 % 2 ^ 56) }

/-- An empty POLICER entry. -/
def Meter.zero : Meter := ⟨0, 0, 0, 0, 0, 0, 0⟩

/-- A POLICER entry. -/
def State.meter (s : State) (i : Nat) : Meter := SMap.get (fun _ => Meter.zero) s.meters i

/-- The state with a POLICER entry set. -/
def State.setMeter (s : State) (i : Nat) (m : Meter) : State :=
  { s with meters := SMap.set (fun _ => Meter.zero) s.meters i m }

end Sys2Proof.Machine
end

