-- ==== Sys2Proof/Machine/ChartEntry.lean ====
section
/-! DEFINITION. Entries of Chart programs: their fields, the checks of an entry, its operand, and the start of a program's
context (spec/15, Tables 15-1 to 15-3, R358, R360, R362, R363). -/

namespace Sys2Proof.Machine

/-- Fields of an entry (Table 15-1). -/
def cOp (e : Bytes) : Nat := leAt e 0 1
def cF0 (e : Bytes) : Bool := bitOf (leAt e 0 2) 9
def cF1 (e : Bytes) : Bool := bitOf (leAt e 0 2) 10
def cTbl (e : Bytes) : Nat := bitsOf (leAt e 0 2) 12 4
def cDies (e : Bytes) : Nat := bitsOf (leAt e 0 4) 16 2
def cCount (e : Bytes) : Nat := bitsOf (leAt e 0 4) 18 14
def cA (e : Bytes) : Nat := leAt e 4 4
def cB (e : Bytes) : Nat := leAt e 8 8

/-- Bit LAST of an entry (Table 15-1). -/
def entryLast (e : Bytes) : Bool := bitOf (leAt e 0 2) 8

/-- The fields that an instruction uses beside OP and LAST: F0, F1, TBL, DIES, COUNT, A, B. -/
structure CUse where
  f0    : Bool := false
  f1    : Bool := false
  tbl   : Bool := false
  dies  : Bool := false
  count : Bool := false
  a     : Bool := false
  b     : Bool := false

/-- The fields that an entry's opcode uses (Table 15-3); none for an opcode absent from the table. -/
def chartUse (e : Bytes) : Option CUse :=
  match cOp e with
  | 0x00 | 0x02 | 0x05 | 0x06 => some {}
  | 0x01 => some { a := true, b := true }
  | 0x03 => some { count := true }
  | 0x04 => some { a := true, f0 := true }
  | 0x10 => some { tbl := true, a := true, count := true, b := true, dies := cTbl e == 10 }
  | 0x11 => some { tbl := true, a := true, count := true, dies := cTbl e == 10 }
  | 0x12 => some { tbl := true, a := true, count := true, dies := cTbl e == 10, f0 := cTbl e == 9 }
  | 0x18 | 0x19 | 0x1A => some { tbl := true, dies := true, count := true, b := true }
  | 0x1B => some { tbl := true, dies := true, count := true, a := true, b := true }
  | 0x1C => some { tbl := true, dies := true, a := true, f0 := true, f1 := true }
  | 0x20 => some { a := true, count := true, b := true, f0 := true }
  | 0x21 | 0x22 | 0x24 | 0x26 => some { a := true, count := true }
  | 0x23 | 0x25 | 0x32 | 0x33 | 0x38 => some { a := true, count := true, b := true }
  | 0x30 => some { a := true, count := true, f0 := true }
  | 0x31 => some { a := true, count := true, b := true, f0 := true }
  | _ => none

/-- The entry's opcode is in Table 15-3 and every field it does not use is 0; WAIT.AT has F0 = 1 (R362). -/
def chartFormOk (e : Bytes) : Bool :=
  match chartUse e with
  | none => false
  | some u =>
    (u.f0 || !cF0 e) && (u.f1 || !cF1 e) && !bitOf (leAt e 0 2) 11 && (u.tbl || cTbl e == 0) && (u.dies || cDies e == 0) &&
      (u.count || cCount e == 0) && (u.a || cA e == 0) && (u.b || cB e == 0) && (cOp e != 4 || cF0 e)

/-- A COUNT of 0 makes the instruction a no-operation (Table 15-1). -/
def chartIdle (e : Bytes) : Bool := (chartUse e).any (fun u => u.count) && cCount e == 0

/-- The instructions that stage writes (Table 15-3). -/
def chartStages (e : Bytes) : Bool := [0x10, 0x11, 0x18, 0x19, 0x20, 0x21, 0x22, 0x23, 0x25].contains (cOp e)

/-- The instructions that a program of a VF's ring may use (R360). -/
def chartVfOp (e : Bytes) : Bool := [0x00, 0x01, 0x02, 0x03, 0x04, 0x12].contains (cOp e)

/-- The slots A to A + COUNT − 1 exist and none lies past row 4,095 of its block group. -/
def chartSlotsOk (e : Bytes) : Bool := cA e < 1572864 && cA e % 4096 + cCount e ≤ 4096

/-- The bytes of a register that REGR and REGW step by. -/
def chartStride (e : Bytes) : Nat := if cF0 e then 8 else 4

/-- LEN, DEST and TC of XMIT (Table 15-3). -/
def xmitLen (e : Bytes) : Nat := cA e % 2 ^ 14
def xmitDest (e : Bytes) : Nat := bitsOf (cA e) 14 8
def xmitTc (e : Bytes) : Nat := bitsOf (cA e) 22 3

/-- What the entry names exists, and its operand is aligned (Table 15-3, R363, R371, R374). -/
def chartOperandOk (e : Bytes) : Bool :=
  let hash := 11 ≤ cTbl e && cTbl e ≤ 13
  let direct (top : Nat) : Bool := cTbl e ≤ top && cA e + cCount e ≤ 2 ^ indexWidth (cTbl e + 1)
  let aligned := cB e % 8 == 0
  match cOp e with
  | 0x01 => aligned
  | 0x10 => direct 10 && aligned
  | 0x11 => direct 10 && cTbl e != 8 && cTbl e != 9
  | 0x12 => direct 10
  | 0x18 | 0x19 | 0x1A => hash && aligned
  | 0x1B => hash && cDies e != 3 && cA e < 2 ^ 20 && cB e < 8
  | 0x1C => (cTbl e == 11 || cTbl e == 12) && cA e < 256
  | 0x20 | 0x23 => chartSlotsOk e && aligned
  | 0x21 | 0x22 | 0x24 => chartSlotsOk e
  | 0x25 => cA e + cCount e ≤ 4096 && aligned
  | 0x26 => cA e + cCount e ≤ 4096
  | 0x30 | 0x31 => cA e + cCount e * chartStride e ≤ 2 ^ 26
  | 0x32 => cA e < 2 ^ 26 && cCount e == 1
  | 0x33 => cA e < 2 ^ 26
  | 0x38 => cA e < 2 ^ 25 && 14 ≤ xmitLen e && xmitLen e ≤ 16000 && xmitDest e < 130 && aligned
  | _ => true

/-- Bytes of a record of a direct-indexed table in an operand (Table 15-2). -/
def operandStride (tbl : Nat) : Nat := [32, 8, 8, 8, 8, 16, 64, 8, 16, 16, 16].getD tbl 0

/-- The bytes at which the frames of XMIT follow one another (R374). -/
def xmitStride (e : Bytes) : Nat := (xmitLen e + 63) / 64 * 64

/-- Bytes of the operand that an entry names at B, 0 where it has none (R363, Tables 15-2 and 15-3, R374). -/
def operandLen (e : Bytes) : Nat :=
  match cOp e with
  | 0x10 => operandStride (cTbl e) * cCount e
  | 0x18 | 0x19 | 0x1A => 64 * cCount e
  | 0x20 => 192 * cCount e
  | 0x23 | 0x25 => 8 * cCount e
  | 0x38 => xmitStride e * cCount e
  | _ => 0

/-- A context that begins a program of ring `g`. -/
def Ctx.start (g : Nat) : Ctx :=
  ⟨g, false, [], false, 0, 0, false, 0, 0, none, 0, 0, 0, [], false, false, .none, none⟩

/-- The status with which an entry that a context has taken fails before it does anything, 0 when it executes (R358, R360,
R362, Table 15-7). -/
def State.chartCheck (s : State) (c : Ctx) (e : Bytes) : Nat :=
  if c.taken = 4096 && !entryLast e then 12
  else if 2 ≤ s.ownerOf false c.ring && !chartVfOp e then 3
  else if !chartFormOk e then 1
  else if !chartIdle e && !chartOperandOk e then 2
  else 0

end Sys2Proof.Machine
end

