-- ==== Sys2Proof/Machine/ChartCore.lean ====
section
/-! DEFINITION. How entries of submission rings begin and are consumed (R348), and how Chart programs take their entries,
fail and end (spec/15, R357 to R361, R375). The instructions are in `Chart`. -/

namespace Sys2Proof.Machine

/-- The first `n` fetched entries of ring `g` begin consumption: a place of its completion ring is promised (R348). -/
def State.beginEntries (s : State) (g n : Nat) : State :=
  let q := s.sq g
  let last := ((q.entries.take n).getLast?.map (fun e => e.1)).getD 0
  let c := s.boundCq g
  (s.setSq g { q with entries := q.entries.drop n, begun := q.begun ++ [(last, n, none)] }).setCq c
    { s.cq c with promised := (s.cq c).promised + 1 }

/-- Finished entries at the head of ring `g` are consumed in index order: HEAD advances, the place is released, and the
completion is written if there is one (R348). -/
def State.consume (s : State) (g : Nat) : List (Nat × Nat × Option (Option Bytes)) → State
  | [] => s.setSq g { s.sq g with begun := [] }
  | (_, n, some e) :: r =>
    let c := s.boundCq g
    let s1 := (s.setFld F.DMA_SQ_STS_HEAD g (s.fld F.DMA_SQ_STS_HEAD g + n)).setCq c
      { s.cq c with promised := (s.cq c).promised - 1 }
    let s2 := match e with
      | some b => if s1.bit F.DMA_CQ_STS_ENABLED c then s1.cqPush c b else s1
      | none => s1
    s2.consume g r
  | (l, n, none) :: r => s.setSq g { s.sq g with begun := (l, n, none) :: r }

/-- The frame or program of ring `g` whose last entry is `last` has finished, with this completion (R348). -/
def State.finishEntries (s : State) (g last : Nat) (e : Option Bytes) : State :=
  s.consume g ((s.sq g).begun.map (fun b => if b.1 = last && b.2.2.isNone then (b.1, b.2.1, some e) else b))

/-- Context `k` = 8 × sequencer + context. -/
def State.ctx (s : State) (k : Nat) : Option Ctx := SMap.get (fun _ => none) s.chart.ctxs k

/-- The state with a context changed. -/
def State.setCtx (s : State) (k : Nat) (c : Option Ctx) : State :=
  { s with chart := { s.chart with ctxs := SMap.set (fun _ => none) s.chart.ctxs k c } }

/-- A program that has begun, before its entries are counted: what `begun` of its ring holds meanwhile. -/
def programMark : List (Nat × Nat × Option (Option Bytes)) := [(0, 0, none)]

/-- The entries that a context can take now: those of its ring, or those left to a program whose ring is disabled
(R361). -/
def State.ctxEntries (s : State) (c : Ctx) : List (Nat × Bytes) := if c.cut then c.entries else (s.sq c.ring).entries

/-- The read is that of the operand of entry `i` of a context's program (R359). -/
def Ahead.isOf (a : Ahead) (c : Ctx) (i : Nat) : Bool := a.ring == c.ring && a.cut == c.cut && a.idx == i

/-- What has been read ahead for entry `i` of a context's program. -/
def State.aheadOf (s : State) (c : Ctx) (i : Nat) : Option Ahead := s.dma.ahead.find? (fun a => a.isOf c i)

/-- What has been read ahead for the entry that a context takes next. -/
def State.aheadNext (s : State) (c : Ctx) : Option Ahead := (s.ctxEntries c).head?.bind (fun e => s.aheadOf c e.1)

/-- What was read ahead for an entry goes with the entry. -/
def State.forgetAhead (s : State) (c : Ctx) (i : Nat) : State :=
  { s with dma := { s.dma with ahead := s.dma.ahead.filter (fun a => !a.isOf c i) } }

/-- The context takes its next entry: its number, whether it is LAST, and how many were taken. -/
def State.takeEntry (s : State) (k : Nat) (c : Ctx) : Option (Nat × Bytes × Ctx × State) :=
  match s.ctxEntries c with
  | [] => none
  | (i, e) :: r =>
    let c1 := { c with last := i, taken := c.taken + 1, tail := entryLast e, entries := if c.cut then r else c.entries }
    let s1 := if c.cut then s else s.setSq c.ring { s.sq c.ring with entries := r }
    some (i, e, c1, (s1.forgetAhead c i).setCtx k (some c1))

/-- The TYPE 3 completion of a program (Table 15-6). -/
def State.programEntry (s : State) (c : Ctx) : Bytes :=
  cmplEntry (c.last + s.localSq c.ring * 65536 + 3 * 2 ^ 28) (c.done % 2 ^ 14 + c.status * 2 ^ 20) (c.bytes % 2 ^ 32)
    (c.ctick % 65536 + min 255 c.commits * 65536 + boolNat (c.dropped || !c.staged.isEmpty) * 2 ^ 24)

/-- A program ends: its context is free, its entries are consumed, and its completion is written unless R356 withholds it
(R361, R375). -/
def State.chartEnd (s : State) (k : Nat) (c : Ctx) : State :=
  let s1 := s.setCtx k none
  if (s1.sq c.ring).begun != programMark then s1
  else if c.withheld then s1.setSq c.ring { s1.sq c.ring with begun := [] }
  else
    ((s1.setSq c.ring { s1.sq c.ring with begun := [(c.last, c.taken, none)] }).bump .DMA_CNT 13 c.taken).finishEntries
      c.ring c.last (some (s.programEntry c))

/-- A failed program consumes its entries up to its LAST, those that have been fetched now, at most `n` (R358, R375). -/
def State.chartDrain (s : State) (k : Nat) : Nat → State
  | 0 => s
  | n + 1 =>
    match s.ctx k with
    | none => s
    | some c =>
      if c.tail then s.chartEnd k c
      else match s.takeEntry k c with
        | some (_, _, _, s1) => s1.chartDrain k n
        | none => if c.cut then s.chartEnd k c else s

/-- Entries that a drain can meet: every one fetched, and the end. -/
def State.drainAll (s : State) (k : Nat) : State :=
  match s.ctx k with
  | none => s
  | some c => s.chartDrain k ((s.ctxEntries c).length + 2)

/-- The program of a context fails with a status of Table 15-7: counted, recorded where CHT_ERR is clear, its staged writes
dropped and its staging released (R364, R375). -/
def State.chartFail (s : State) (k st : Nat) : State :=
  match s.ctx k with
  | none => s
  | some c =>
    let q := k / 8
    let s1 := s.bump .CHT_CNT 5 1
    let s2 := if s1.bit F.CHT_ERR_VALID q then s1
      else s1.setReg .CHT_ERR q (BitVec.ofNat 64 (st + c.ring * 2 ^ 8 + c.last * 2 ^ 20 + 2 ^ 36))
    (s2.setCtx k (some { c with
      status := st, dropped := c.dropped || !c.staged.isEmpty, staged := [], holds := false, wait := .none, operand := none })).drainAll k

/-- The operand that a context waits for will not come: its program ends at that instruction with CHT_E_OPREAD (R325,
R375). -/
def State.operandFails (s : State) (k : Nat) : State :=
  match s.ctx k with
  | none => s
  | some c =>
    if c.wait == CWait.operand then
      match s.takeEntry k { c with wait := .none } with
      | some (_, _, _, s1) => s1.chartFail k 4
      | none => s
    else s

/-- The operand that a context waits for has arrived (R359). -/
def State.operandArrives (s : State) (k : Nat) (data : Bytes) : State :=
  match s.ctx k with
  | none => s
  | some c => if c.wait == CWait.operand then s.setCtx k (some { c with wait := .none, operand := some data }) else s

/-- The instruction of a context has ended without error: the program ends after its LAST entry, or goes on; one whose ring
is disabled and whose fetched entries are used up ends with CHT_E_CUT (R359, R361). -/
def State.chartDone (s : State) (k : Nat) : State :=
  match s.ctx k with
  | none => s
  | some c =>
    let c1 := { c with done := c.done + 1, wait := .none }
    let s1 := (s.bump .CHT_CNT 1 1).setCtx k (some c1)
    if c1.tail then s1.chartEnd k c1
    else if c1.cut && c1.entries.isEmpty then s1.chartFail k 13
    else s1

/-- The fetched entries of the program that runs: up to the first with LAST. -/
def programRest : List (Nat × Bytes) → List (Nat × Bytes)
  | [] => []
  | e :: r => if entryLast e.2 then [e] else e :: programRest r

/-- The contexts that run a program of ring `g`. -/
def State.ctxsOf (s : State) (g : Nat) : List Nat :=
  SMap.keysWhere (fun (c : Option Ctx) => c.elim false (fun x => x.ring == g)) s.chart.ctxs

/-- The read ahead `n` ends with its data, or without: what it was for keeps that until it executes, or goes on where it waits
(R359). -/
def State.aheadEnds (s : State) (n : Nat) (got : Option Bytes) : State :=
  match s.dma.ahead.find? (fun a => a.id == n) with
  | none => s
  | some a =>
    let s1 := { s with dma := { s.dma with ahead := s.dma.ahead.map (fun (b : Ahead) => if b.id = n then { b with got := some got } else b) } }
    s1.each (s1.ctxsOf a.ring) (fun t k =>
      if (t.ctx k).any (fun x => (t.aheadNext x).any (fun b => b.id == n)) then
        match got with
        | some d => t.operandArrives k d
        | none => t.operandFails k
      else t)

/-- Ring `g` is disabled: a program of it that has begun goes on with the entries already fetched (R361); `withheld`: no
completion will be written (R356). -/
def State.chartCut (s : State) (g : Nat) (withheld : Bool) : State :=
  s.each (s.ctxsOf g) (fun t k => match t.ctx k with
    | none => t
    | some c =>
      let rest := if c.cut then c.entries else if c.tail then [] else programRest (t.sq g).entries
      let c1 := { c with cut := true, entries := rest, withheld := c.withheld || withheld }
      let t1 := t.setCtx k (some c1)
      if c1.status != 0 then t1.drainAll k
      else if c1.wait == CWait.none && rest.isEmpty then t1.chartFail k 13
      else t1)

/-- Failed programs of ring `g` go on draining as entries arrive. -/
def State.chartArrived (s : State) (g : Nat) : State :=
  s.each (s.ctxsOf g) (fun t k => if (t.ctx k).elim false (fun c => c.status != 0) then t.drainAll k else t)

end Sys2Proof.Machine
end

