-- ==== Sys2Proof/Machine/Rings.lean ====
section
/-! DEFINITION. The descriptor rings: doorbells, host reads under tags, index entries, fetch arbitration, enabling and
disabling (spec/14; R324, R325, R331 of spec/13). -/

namespace Sys2Proof.Machine

/-- The most reads outstanding: 2,048 in Flit mode, 768 otherwise (R305). -/
def State.maxReads (s : State) : Nat := if s.bit F.PCX_LINK_STS_FLIT 0 then 2048 else 768

/-- The lowest tag not in use. -/
def State.freeTag (s : State) : Option Nat :=
  (List.range s.maxReads).find? (fun t => !s.pcie.reads.any (fun r => r.tag == t))

/-- Device Control of function `f`, a VF's being PF1's: at 0x68, 0x2110 at reset (PRESUMED: PCI Express). -/
def State.devCtl (s : State) (f : Nat) : Nat := 0x2110 ^^^ (s.cfgWord (min f 1) 0x1A).toNat

/-- Max Read Request Size of function `f`: 128 to 4,096 bytes, Device Control bits 14 to 12 (R305). -/
def State.maxRequest (s : State) (f : Nat) : Nat := 128 * 2 ^ min 5 (bitsOf (s.devCtl f) 12 3)

/-- The requests that read `len` bytes at `addr`, cut at multiples of `unit`, numbered from `i` (where they are cut: DESIGN
CHOICE, log entry 65). -/
def cutRead (unit : Nat) : Nat → Nat → Nat → Nat → List (Nat × Nat × Nat)
  | 0, _, _, _ => []
  | fuel + 1, i, addr, len =>
    let n := min len (unit - addr % unit)
    if len = 0 then [] else (i, addr, n) :: cutRead unit fuel (i + 1) (addr + n) (len - n)

/-- The requests that read spans of host memory, address and length each, in order. -/
def cutReads (unit : Nat) : Nat → List (Nat × Nat) → List (Nat × Nat × Nat)
  | _, [] => []
  | i, (addr, len) :: r =>
    let l := cutRead unit (len / unit + 2) i addr len
    l ++ cutReads unit (i + l.length) r

/-- The first request that waits for a tag and that its function may issue. -/
def State.nextRequest (s : State) : Option (ReadOp × (Nat × Nat × Nat)) :=
  s.pcie.ops.findSome? (fun o => if s.fnMayIssue o.fn then o.todo.head?.map (fun r => (o, r)) else none)

/-- The next waiting request is issued under the lowest free tag, if there are both. -/
def State.issueNext (s : State) : State :=
  match s.freeTag, s.nextRequest with
  | some t, some (o, part, addr, len) =>
    { s.sendTlp (.memRead o.fn t addr len) with pcie := { s.pcie with
        reads := s.pcie.reads ++ [ReadRec.mk t o.fn o.id part [] false false]
        ops := s.pcie.ops.map (fun x => if x.id = o.id then { x with todo := x.todo.drop 1 } else x) } }
  | _, _ => s

/-- Up to `n` waiting requests are issued. -/
def State.issueReads (s : State) : Nat → State
  | 0 => s
  | n + 1 => s.issueNext.issueReads n

/-- Every waiting request that finds a tag is issued. -/
def State.pumpReads (s : State) : State := s.issueReads (s.pcie.ops.map (fun o => o.todo.length)).sum

/-- Function `f` reads spans of host memory: in requests of at most the Max Read Request Size, each under a tag of its own,
which wait in order where no tag is free (R305). -/
def State.startRead (s : State) (f : Nat) (spans : List (Nat × Nat)) (what : ReadFor) : State :=
  let todo := cutReads (s.maxRequest f) 0 spans
  State.pumpReads { s with pcie := { s.pcie with
      ops := s.pcie.ops ++ [⟨s.pcie.nextOp, f, what, todo, todo.map (fun _ => none)⟩]
      nextOp := s.pcie.nextOp + 1 } }

/-- What issued a read whose data will be discarded goes on without it: a HOST index is not applied, a program ends with
CHT_E_OPREAD. -/
def State.readLost (s : State) : ReadFor → State
  | .hostIndex true g => s.setCq g { s.cq g with fetching := false, fetchMore := false }
  | .hostIndex false g => s.setSq g { s.sq g with fetching := false, fetchMore := false }
  | .operand k => s.operandFails k
  | .ahead n => s.aheadEnds n none
  | _ => s

/-- The read operations that `p` picks are given up: what they have outstanding will be accepted and discarded, and what
waits is not issued. -/
def State.dropOps (s : State) (p : ReadOp → Bool) : State :=
  let gone := s.pcie.ops.filter p
  let s1 := { s with pcie := { s.pcie with
    ops := s.pcie.ops.filter (fun o => !p o)
    reads := s.pcie.reads.map (fun r => if gone.any (fun o => o.id == r.op) then { r with discard := true } else r) } }
  gone.foldl (fun t o => t.readLost o.what) s1

/-- The operation reads descriptors of ring `g`. -/
def ReadOp.fetches (g : Nat) (o : ReadOp) : Bool :=
  match o.what with
  | .descriptors q _ _ => q == g
  | _ => false

/-- The operation reads a frame of ring `g`. -/
def ReadOp.sends (g : Nat) (o : ReadOp) : Bool :=
  match o.what with
  | .frame q _ => q == g
  | _ => false

/-- Packet data is written into host memory: with Relaxed Ordering where Device Control bit 4 enables it (R305). -/
def State.packetWrite (s : State) (f addr : Nat) (data : Bytes) : State :=
  s.sendTlp (if bitOf (s.devCtl f) 4 then .memWriteRelaxed f addr data else .memWrite f addr data)

/-- Entries per index write: 1 to 64 (R340, DMA_CFG). -/
def State.idxBatch (s : State) : Nat := min 64 (max 1 (s.fld F.DMA_CFG_IDX_BATCH 0))

/-- The address of a ring's index entry. -/
def State.idxAddr (s : State) (cq : Bool) (g : Nat) : Nat :=
  (if cq then s.fld F.DMA_CQ_IDX_ADDR g else s.fld F.DMA_SQ_IDX_ADDR g) * 16

/-- The index a ring publishes: a submission ring's consumed head, a completion ring's tail (R339). -/
def State.ringIdx (s : State) (cq : Bool) (g : Nat) : Nat :=
  if cq then s.fld F.DMA_CQ_STS_TAIL g else s.fld F.DMA_SQ_STS_HEAD g

/-- The index a ring last published. -/
def State.ringPublished (s : State) (cq : Bool) (g : Nat) : Nat := if cq then (s.cq g).published else (s.sq g).published

/-- Writes bytes 0 to 7 of a ring's index entry, where its function may issue requests (R339, R340, Table 14-3). -/
def State.writeIndex (s : State) (cq : Bool) (g : Nat) : State :=
  let i := s.ringIdx cq g
  if !s.fnMayIssue (s.ownerOf cq g) then s else
  let en := if cq then s.fld F.DMA_CQ_STS_ENABLED g else s.fld F.DMA_SQ_STS_ENABLED g
  let err := if cq then s.fld F.DMA_CQ_STS_ERR g else s.fld F.DMA_SQ_STS_ERR g
  let s1 := s.sendTlp (.memWrite (s.ownerOf cq g) (s.idxAddr cq g)
    (leBytes 8 (i + en * 65536 + err * 2 ^ 17 + s.tikCount.toNat % 2 ^ 32 * 2 ^ 32)))
  if cq then s1.setCq g { s1.cq g with published := i } else s1.setSq g { s1.sq g with published := i }

/-- A ring is enabled, a completion ring or a submission ring. -/
def State.ringEnabled (s : State) (cq : Bool) (g : Nat) : Bool :=
  if cq then s.bit F.DMA_CQ_STS_ENABLED g else s.bit F.DMA_SQ_STS_ENABLED g

/-- Entries by which a ring's published index lags the device's (R340). -/
def State.ringLag (s : State) (cq : Bool) (g : Nat) : Nat := idxSub (s.ringIdx cq g) (s.ringPublished cq g)

/-- An enabled ring that lags by `n` entries or more publishes its index. -/
def State.publish (s : State) (n : Nat) (cq : Bool) (g : Nat) : State :=
  if s.ringEnabled cq g && n ≤ s.ringLag cq g then s.writeIndex cq g else s

/-- INDEX_WRITE: a ring whose published index lags by IDX_BATCH entries, or in an edge's clock at all, publishes it
(R340). -/
def execIndexWrite (cq : Bool) (g : Fin 4096) (s : State) : Res :=
  let s0 := s.begin
  .next (s0.publish (if s0.atEdge then 1 else s0.idxBatch) cq g.val)

/-- The numbers of the rings whose register `r` is not at its reset value. -/
def State.ringsListed (s : State) (r : Reg) : List Nat :=
  (s.regs.filter (fun e => e.1 % 256 == r.code)).map (fun e => e.1 / 256)

/-- At the edge: staged entries that may be written now, every advance not yet published, and requests that may be issued
now (R340; R308). -/
def State.edgeRings (s : State) : State :=
  let s1 := s.each (s.ringsListed .DMA_CQ_STS) (fun t g => (t.cqDrain g (t.cq g).staged.length).publish 1 true g)
  (s1.each (s1.ringsListed .DMA_SQ_STS) (fun t g => t.publish 1 false g)).pumpReads

/-- The LTR value: ACTIVE while any ring is enabled, IDLE otherwise, for snoop and no-snoop alike (R316). -/
def State.ltrValue (s : State) : Nat :=
  let any := (List.range 4096).any (fun g => s.bit F.DMA_SQ_STS_ENABLED g || s.bit F.DMA_CQ_STS_ENABLED g)
  if any then s.fld F.PCX_LTR_ACT_VAL 0 + s.fld F.PCX_LTR_ACT_SCALE 0 * 1024
  else s.fld F.PCX_LTR_IDLE_VAL 0 + s.fld F.PCX_LTR_IDLE_SCALE 0 * 1024

/-- LTR Mechanism Enable of PF0: Device Control 2 bit 10 at 0x88 (PRESUMED: PCI Express). -/
def State.ltrEnabled (s : State) : Bool := bitOf (s.cfgWord 0 0x22).toNat 10

/-- Sends an LTR message when the value has changed (R316). -/
def State.ltrUpdate (s : State) : State :=
  let v := s.ltrValue
  if s.ltrEnabled && s.pcie.ltrSent != some v then
    { s.sendTlp (.ltr v) with pcie := { s.pcie with ltrSent := some v } }
  else s

/-- A discarded doorbell is counted, and raises DB_BAD (R336). -/
def State.badDoorbell (s : State) (g : Nat) : State := (s.bump .DMA_CNT 11 1).fault 5 1 g g

/-- Applies index `t` to a ring as a doorbell carrying it would (R336, R337). -/
def State.applyDoorbell (s : State) (cq : Bool) (g t : Nat) : State :=
  if cq then
    if !s.bit F.DMA_CQ_STS_ENABLED g || (s.cq g).stopping then s.badDoorbell g
    else if idxSub (s.fld F.DMA_CQ_STS_TAIL g) t ≤ idxSub (s.fld F.DMA_CQ_STS_TAIL g) (s.fld F.DMA_CQ_STS_HEAD g) then
      let s1 := s.setFld F.DMA_CQ_STS_HEAD g t
      (s1.cqDrain g (s1.cq g).staged.length).cqRefresh g
    else (s.setFld F.DMA_CQ_STS_DB_ERR g 1).badDoorbell g
  else
    if !s.bit F.DMA_SQ_STS_ENABLED g || (s.sq g).stopping then s.badDoorbell g
    else
      let d := idxSub t (s.fld F.DMA_SQ_STS_HEAD g)
      if d ≤ 2 ^ s.fld F.DMA_SQ_CFG_LOG2SIZE g ∧ idxSub (s.fld F.DMA_SQ_STS_TAIL g) (s.fld F.DMA_SQ_STS_HEAD g) ≤ d then
        s.setFld F.DMA_SQ_STS_TAIL g t
      else (s.setFld F.DMA_SQ_STS_DB_ERR g 1).badDoorbell g

/-- A FETCH doorbell: the HOST word is read, or the doorbell merges behind the read outstanding (R338). -/
def State.fetchDoorbell (s : State) (cq : Bool) (g : Nat) : State :=
  let en := if cq then s.bit F.DMA_CQ_STS_ENABLED g && !(s.cq g).stopping
    else s.bit F.DMA_SQ_STS_ENABLED g && !(s.sq g).stopping
  if !en then s.badDoorbell g
  else if cq then
    if (s.cq g).fetching then s.setCq g { s.cq g with fetchMore := true }
    else (s.setCq g { s.cq g with fetching := true }).startRead (s.ownerOf true g) [(s.idxAddr true g + 8, 8)] (.hostIndex true g)
  else
    if (s.sq g).fetching then s.setSq g { s.sq g with fetchMore := true }
    else (s.setSq g { s.sq g with fetching := true }).startRead (s.ownerOf false g) [(s.idxAddr false g + 8, 8)] (.hostIndex false g)

/-- The global number of local ring `r` of function `f`, if it has that ring and the ring a doorbell page (R333, R335). -/
def State.globalRing (s : State) (f : Nat) (cq : Bool) (r : Nat) : Option Nat :=
  let b := if cq then s.fld F.PCX_FUNC_RINGS_CQ_BASE f else s.fld F.PCX_FUNC_RINGS_SQ_BASE f
  let n := if cq then s.fld F.PCX_FUNC_RINGS_CQ_COUNT f else s.fld F.PCX_FUNC_RINGS_SQ_COUNT f
  if r < n ∧ (f < 2 ∨ r < 16) then some (b + r) else none

/-- A doorbell word for a ring (Table 14-2). -/
def State.doorbellWord (s : State) (cq : Bool) (g : Nat) (v : BitVec 64) : State :=
  if v.getLsbD 16 then s.fetchDoorbell cq g else s.applyDoorbell cq g (v.toNat % 65536)

/-- A write at an offset of BAR2: a doorbell, or discarded (R335). -/
def State.writeBar2 (s : State) (f off size : Nat) (v : BitVec 64) : State :=
  if (size = 4 ∨ size = 8) ∧ (off % 0x1000 = 0 ∨ off % 0x1000 = 8) then
    match s.globalRing f (off % 0x1000 == 8) (off / 0x1000) with
    | some g => s.doorbellWord (off % 0x1000 == 8) g v
    | none => s
  else s

/-- DOORBELL: a write to BAR2 (R335, R336, R338). -/
def execDoorbell (f : Fin 64) (off size : Nat) (v : BitVec 64) (s : State) : Res :=
  let s0 := s.begin
  match s0.gate (.fn f) with
  | some s' => .next s'
  | none => .next (s0.writeBar2 f.val off size v)

/-- DOORBELL_FETCH: a doorbell with FETCH = 1 (R338). -/
def execDoorbellFetch (f : Fin 64) (cq : Bool) (r : Fin 4096) (s : State) : Res :=
  let s0 := s.begin
  match s0.gate (.fn f) with
  | some s' => .next s'
  | none =>
    match s0.globalRing f.val cq r.val with
    | some g => .next (s0.fetchDoorbell cq g)
    | none => .next s0

/-- BURST of a submission ring: 1 to 64 (DMA_SQ_CFG). -/
def State.burst (s : State) (g : Nat) : Nat := min 64 (max 1 (s.fld F.DMA_SQ_CFG_BURST g))

/-- WEIGHT of a submission ring: at least 1 (DMA_SQ_CFG). -/
def State.weight (s : State) (g : Nat) : Nat := max 1 (s.fld F.DMA_SQ_CFG_WEIGHT g)

/-- Entries fetched, or being fetched, and not yet consumed (R342). -/
def State.sqHeld (s : State) (g : Nat) : Nat := idxSub (s.fld F.DMA_SQ_STS_FETCH g) (s.fld F.DMA_SQ_STS_HEAD g)

/-- A submission ring is BLOCKED: enabled, and the staging of the completion ring it is bound to is full (R349). -/
def State.sqBlocked (s : State) (g : Nat) : Bool :=
  s.bit F.DMA_SQ_STS_ENABLED g && 64 ≤ (s.cq (s.boundCq g)).staged.length

/-- A submission ring is eligible for a fetch (R342), its function being one that may issue requests (R308, R319 to
R321). -/
def State.fetchEligible (s : State) (g : Nat) : Bool :=
  s.bit F.DMA_SQ_STS_ENABLED g && !(s.sq g).stopping && !s.sqBlocked g &&
    s.fld F.DMA_SQ_STS_FETCH g != s.fld F.DMA_SQ_STS_TAIL g && s.sqHeld g < 2 * s.burst g &&
    s.fnMayIssue (s.ownerOf false g)

/-- The size of an entry of submission ring `g`: 16 bytes for CHART, 32 otherwise (Table 14-1). -/
def State.sqEntrySize (s : State) (g : Nat) : Nat := if s.fld F.DMA_SQ_CFG_KIND g = 2 then 16 else 32

/-- The arbiter's read for ring `g`: step 3 and 4 of R342. -/
def State.fetchFrom (s : State) (g : Nat) : State :=
  let size := 2 ^ s.fld F.DMA_SQ_CFG_LOG2SIZE g
  let at_ := s.fld F.DMA_SQ_STS_FETCH g
  let n := min (min (s.burst g) (idxSub (s.fld F.DMA_SQ_STS_TAIL g) at_))
    (min (size - at_ % size) (2 * s.burst g - s.sqHeld g))
  let addr := s.fld F.DMA_SQ_BASE_ADDR g * 4096 + at_ % size * s.sqEntrySize g
  let s1 := s.startRead (s.ownerOf false g) [(addr, n * s.sqEntrySize g)] (.descriptors g at_ n)
  let s2 := s1.setSq g { s1.sq g with reading := (s1.sq g).reading + n, used := (s1.sq g).used + 1 }
  let s3 := s2.setFld F.DMA_SQ_STS_FETCH g (at_ + n)
  { s3 with dma := { s3.dma with pointer := (g + 1) % 4096 } }

/-- The eligible rings from the arbiter's pointer on, with wraparound (R342). -/
def State.fetchOrder (s : State) : List Nat :=
  ((List.range 4096).map (fun i => (s.dma.pointer + i) % 4096)).filter s.fetchEligible

/-- A new round: every ring's count C is its WEIGHT again (R342). -/
def State.newRound (s : State) : State :=
  { s with dma := { s.dma with sq := SMap.update (fun _ => SqSt.idle) (fun _ q => { q with used := 0 }) s.dma.sq } }

/-- DESCRIPTOR_FETCH: the arbiter issues one descriptor read for an eligible submission ring (R342). -/
def execDescriptorFetch (s : State) : Res :=
  let s0 := s.begin
  let el := s0.fetchOrder
  if el.isEmpty || s0.freeTag.isNone then .next s0
  else
    match el.find? (fun g => (s0.sq g).used < (s0.weight g : Int)) with
    | some g => .next (s0.fetchFrom g)
    | none => .next (s0.newRound.fetchFrom (el.headD 0))

/-- The entries that a completed descriptor read brought: `n` of them from index `idx`. -/
def splitEntries (size : Nat) : Nat → Nat → Bytes → List (Nat × Bytes)
  | 0, _, _ => []
  | n + 1, idx, bs => (idx % 65536, padTo size (bs.take size)) :: splitEntries size n (idx + 1) (bs.drop size)

/-- The ring's PKT_TX bookkeeping, when it is `g`'s. -/
def txOf (g : Nat) (tx : Option (Nat × Nat × Nat × Bool)) : Bool := tx.any (fun t => t.1 == g)

/-- A host packet of a ring forgets its descriptors. -/
def Merge.forget (g : Nat) : Merge → Merge
  | .host b md dest tc tx ch => .host b md dest tc (if txOf g tx then none else tx) ch
  | m => m

/-- The frames of ring `g` that have been read go on without a completion, and those being read are abandoned (R356; which
of them go on: DESIGN CHOICE, log entry 65). -/
def State.abandonFrames (s : State) (g : Nat) : State :=
  { s with
    dma := { s.dma with frames := s.dma.frames.filter (fun f => f.ring != g) }
    pipes := SMap.update (fun _ => PipeSt.idle) (fun _ (p : PipeSt) => { p with merge := p.merge.map (Merge.forget g) }) s.pipes
    copies := SMap.update (fun _ => none)
      (fun _ (c : Option Copy) => c.map (fun (x : Copy) => if txOf g x.tx then { x with tx := none } else x)) s.copies }

/-- Of what was read ahead for ring `g`, that of the entries left to a program that runs on stays, and the rest is discarded
(R354, R361). -/
def State.dropAhead (s : State) (g : Nat) : State :=
  let left := ((s.ctxsOf g).filterMap s.ctx).flatMap (fun (c : Ctx) => c.entries.map (fun e => e.1))
  let kept := s.dma.ahead.filter (fun a => a.ring != g || a.cut || left.contains a.idx)
  let s1 := { s with dma := { s.dma with ahead := kept.map (fun (a : Ahead) => if a.ring = g then { a with cut := true } else a) } }
  s1.dropOps (fun o => match o.what with
    | .ahead n => !s1.dma.ahead.any (fun a => a.id == n)
    | _ => false)

/-- A submission ring is disabled by the host's resets or by Bus Master Enable: fetched entries are discarded, frames begun
have no completion, ENABLED clears and ERR says HOST (R356). -/
def State.sqOff (s : State) (g : Nat) : State :=
  let s0 := ((s.chartCut g true).dropAhead g).abandonFrames g
  let s1 := s0.dropOps (fun o => o.fetches g || o.sends g)
  let s2 := (s1.setFld F.DMA_SQ_STS_ENABLED g 0).setFld F.DMA_SQ_STS_ERR g 8
  (s2.setSq g { s2.sq g with entries := [], reading := 0, stopping := false, failed := false, begun := [] }).bump .DMA_CNT 12 1

/-- A completion ring is disabled: its staged entries are discarded, NOTIFY records counted in DROPS (R354, R356). -/
def State.cqOff (s : State) (g err : Nat) : State :=
  let n := (s.cq g).staged.length
  let s1 := if s.bit F.DMA_CQ_CFG_KIND g then s.satFld F.DMA_CQ_STS_DROPS g n else s
  let s2 := (s1.setFld F.DMA_CQ_STS_ENABLED g 0).setFld F.DMA_CQ_STS_ERR g err
  (s2.setCq g { s2.cq g with staged := [], promised := 0, stopping := false }).cqRefresh g

/-- A submission ring's fetching stops and its fetched entries are discarded; reads of descriptors under way are discarded as
they arrive (R354). -/
def State.sqStop (s : State) (g : Nat) : State :=
  let s0 := ((s.chartCut g false).dropAhead g).dropOps (ReadOp.fetches g)
  s0.setSq g { s0.sq g with entries := [], reading := 0, stopping := true }

/-- The disable of submission ring `g` ends, once every entry begun has completed: after a failed read the TYPE 4 completion,
which waits for a place, then the index entry, and ENABLED clears (R354, R355; HEAD is that of this moment: DESIGN CHOICE,
log entry 65). -/
def State.sqFinish (s : State) (g : Nat) : State :=
  let q := s.sq g
  let c := s.boundCq g
  let tells := q.failed && s.bit F.DMA_CQ_STS_ENABLED c
  if q.stopping && q.begun.isEmpty && !(tells && s.cqPlaces c == 0) then
    let s1 := if tells
      then s.cqPush c (cmplEntry (s.fld F.DMA_SQ_STS_HEAD g + s.localSq g * 65536 + 4 * 2 ^ 28) 7 0 0) else s
    let s2 := (s1.setSq g { s1.sq g with stopping := false, failed := false }).setFld F.DMA_SQ_STS_ENABLED g 0
    (s2.writeIndex false g).ltrUpdate
  else s

/-- A descriptor read of ring `g` fails: the ring is disabled with ERR READ; a TYPE 4 completion carries its head, and its
index entry is written (R355). -/
def State.descFail (s : State) (g : Nat) : State :=
  if s.bit F.DMA_SQ_STS_ENABLED g then
    let s1 := (s.sqStop g).setFld F.DMA_SQ_STS_ERR g 7
    (((s1.setSq g { s1.sq g with failed := true }).bump .DMA_CNT 12 1).fault 5 0 g g).sqFinish g
  else s

/-- What a HOST index read ends with: the index is applied, or DB_ERR is set where it failed; then the merged read (R338). -/
def State.hostIndexDone (s : State) (cq : Bool) (g : Nat) (idx : Option Nat) : State :=
  let more := if cq then (s.cq g).fetchMore else (s.sq g).fetchMore
  let s1 := if cq then s.setCq g { s.cq g with fetching := false, fetchMore := false }
    else s.setSq g { s.sq g with fetching := false, fetchMore := false }
  let s2 := match idx with
    | some t => s1.applyDoorbell cq g t
    | none => if cq then s1.setFld F.DMA_CQ_STS_DB_ERR g 1 else s1.setFld F.DMA_SQ_STS_DB_ERR g 1
  if more then s2.fetchDoorbell cq g else s2

/-- The operands that the entries `l` of CHART ring `g` name are read ahead, as soon as the entries have been fetched, where
the entry can execute and the ring's function may read (R359). -/
def State.readAhead (s : State) (g : Nat) (l : List (Nat × Bytes)) : State :=
  let fn := s.ownerOf false g
  (l.filter (fun e => (s.sq g).entries.contains e)).foldl (fun t e =>
    if s.fld F.DMA_SQ_CFG_KIND g == 2 && s.fnMayIssue fn && operandLen e.2 != 0 && s.chartCheck (Ctx.start g) e.2 == 0 then
      let n := t.pcie.nextOp
      let t1 := { t with dma := { t.dma with ahead := t.dma.ahead ++ [Ahead.mk n g e.1 false none] } }
      t1.startRead fn [(cB e.2, operandLen e.2)] (.ahead n)
    else t) s

/-- A descriptor or index read, or that of an operand, ends with all its data. -/
def State.ringReadDone (s : State) (what : ReadFor) (data : Bytes) : State :=
  match what with
  | .descriptors g idx n =>
    if s.bit F.DMA_SQ_STS_ENABLED g && !(s.sq g).stopping then
      (s.setSq g { s.sq g with
        entries := (s.sq g).entries ++ splitEntries (s.sqEntrySize g) n idx data
        reading := (s.sq g).reading - n }).chartArrived g |>.readAhead g (splitEntries (s.sqEntrySize g) n idx data)
    else s
  | .hostIndex cq g => s.hostIndexDone cq g (some (leAt data 0 2))
  | .operand k => s.operandArrives k data
  | .ahead n => s.aheadEnds n (some data)
  | .frame _ _ => s

/-- A descriptor or index read, or that of an operand, ends without its data (R325): what issued it fails. -/
def State.ringReadFailed (s : State) (what : ReadFor) : State :=
  match what with
  | .descriptors g _ _ => s.descFail g
  | .hostIndex cq g => s.hostIndexDone cq g none
  | .operand k => (s.fault 6 2 (k / 8)).operandFails k
  | .ahead n => match s.dma.ahead.find? (fun a => a.id == n) with
    | some a => (s.fault 6 2 (s.fld F.DMA_SQ_CFG_SEQ a.ring)).aheadEnds n none
    | none => s
  | .frame _ _ => s

/-- The local number of a ring within its function. -/
def State.localRing (s : State) (cq : Bool) (g : Nat) : Nat :=
  if cq then g - s.fld F.PCX_FUNC_RINGS_CQ_BASE (s.ownerOf true g) else s.localSq g

/-- Why enabling submission ring `g` with configuration `v` is refused: the first cause of Table 14-11, 0 for none (R353). -/
def State.sqEnableErr (s : State) (g : Nat) (v : BitVec 64) : Nat :=
  let f := s.ownerOf false g
  let c := s.fld F.PCX_FUNC_RINGS_CQ_BASE f + getField v 8 12
  let log := getField v 4 4
  if getField v 1 2 = 3 then 1
  else if log < 6 then 2
  else if !(getField v 8 12 < s.fld F.PCX_FUNC_RINGS_CQ_COUNT f && s.bit F.DMA_CQ_STS_ENABLED c
      && !s.bit F.DMA_CQ_CFG_KIND c) then 3
  else if 2 ≤ f ∧ 16 ≤ s.localSq g then 4
  else 0

/-- Why enabling completion ring `g` is refused (R353). -/
def State.cqEnableErr (s : State) (g : Nat) (v : BitVec 64) : Nat :=
  if getField v 4 4 < 6 then 2
  else if 2 ≤ s.ownerOf true g ∧ 16 ≤ s.localRing true g then 4
  else 0

/-- The bits of a ring configuration that may change while the ring is enabled: EN, WEIGHT and BURST; EN, INT_EN and VEC
(R353). -/
def liveMask (cq : Bool) : BitVec 64 := if cq then 0xFFF01 else 0x7FFF00001

/-- A write to the configuration of a ring is refused with ERR `e`: nothing else changes (R353). -/
def State.ringRefuse (s : State) (cq : Bool) (g e : Nat) : State :=
  if cq then (s.setFld F.DMA_CQ_STS_CFG_REFUSED g 1).setFld F.DMA_CQ_STS_ERR g e
  else (s.setFld F.DMA_SQ_STS_CFG_REFUSED g 1).setFld F.DMA_SQ_STS_ERR g e

/-- The ring starts at START: HEAD, tail and FETCH, or TAIL and head with the staging empty (R353). -/
def State.ringStart (s : State) (cq : Bool) (g : Nat) : State :=
  if cq then
    let st := s.fld F.DMA_CQ_CFG_START g
    let s1 := (((s.setFld F.DMA_CQ_STS_TAIL g st).setFld F.DMA_CQ_STS_HEAD g st).setFld F.DMA_CQ_STS_ERR g 0).setFld
      F.DMA_CQ_STS_ENABLED g 1
    let q := s1.cq g
    (s1.setCq g { CqSt.idle with published := st, overflow := q.overflow, fetching := q.fetching, fetchMore := q.fetchMore }).cqRefresh g
  else
    let st := s.fld F.DMA_SQ_CFG_START g
    let s1 := (((s.setFld F.DMA_SQ_STS_TAIL g st).setFld F.DMA_SQ_STS_HEAD g st).setFld F.DMA_SQ_STS_FETCH g st).setFld
      F.DMA_SQ_STS_ERR g 0
    let q := s1.sq g
    (s1.setFld F.DMA_SQ_STS_ENABLED g 1).setSq g { SqSt.idle with
      published := st, used := q.used, fetching := q.fetching, fetchMore := q.fetchMore }

/-- The register that configures a ring. -/
def ringCfg (cq : Bool) : Reg := if cq then .DMA_CQ_CFG else .DMA_SQ_CFG

/-- An enabled submission ring is bound to completion ring `g` (R353, BOUND). -/
def State.cqBound (s : State) (g : Nat) : Bool :=
  (List.range 4096).any (fun q => s.bit F.DMA_SQ_STS_ENABLED q && s.boundCq q == g)

/-- The configuration of a ring takes a new value; the arbiter's count C stays as it is where WEIGHT changes within a round
(R342). -/
def State.setRingCfg (s : State) (cq : Bool) (g : Nat) (new : BitVec 64) : State :=
  let s1 := s.setReg (ringCfg cq) g new
  if cq || s1.weight g == s.weight g then s1
  else s1.setSq g { s1.sq g with used := (s1.sq g).used + ((s1.weight g : Int) - (s.weight g : Int)) }

/-- A write to a ring's configuration (R353, R354): refused with a cause, enabling, changing what an enabled ring may
change, or disabling. -/
def State.writeRingCfg (s : State) (cq : Bool) (g : Nat) (mask v : BitVec 64) : State :=
  let r := ringCfg cq
  let old := s.reg r g
  let new := r.written old mask v
  let stopping := if cq then (s.cq g).stopping else (s.sq g).stopping
  if s.ringEnabled cq g then
    if (old ^^^ new) &&& ~~~ liveMask cq ≠ 0 || (stopping && new.getLsbD 0) then s.ringRefuse cq g 5
    else if new.getLsbD 0 then s.setRingCfg cq g new
    else if cq then
      if s.cqBound g then s.ringRefuse cq g 6
      else (((s.setReg r g new).cqOff g (s.fld F.DMA_CQ_STS_ERR g)).writeIndex true g).ltrUpdate
    else (s.setRingCfg cq g new).sqStop g
  else if new.getLsbD 0 then
    let e := if cq then s.cqEnableErr g new else s.sqEnableErr g new
    if e ≠ 0 then s.ringRefuse cq g e else ((s.setRingCfg cq g new).ringStart cq g).ltrUpdate
  else s.setRingCfg cq g new

/-- A write to the base or index address of a ring: refused with BUSY while the ring is enabled (R353). -/
def State.writeRingAddr (s : State) (cq : Bool) (r : Reg) (g : Nat) (mask v : BitVec 64) : State :=
  if s.ringEnabled cq g && r.written (s.reg r g) mask v != s.reg r g then s.ringRefuse cq g 5 else s.plainWrite r g mask v

/-- RING_ENABLE (R353). -/
def execRingEnable (a : Agent) (cq : Bool) (g : Fin 4096) (v : BitVec 64) (s : State) : Res :=
  .next (s.begin.writeBy a (ringCfg cq) g.val (fun t => t.writeRingCfg cq g.val all64 (v ||| 1)))

/-- RING_DISABLE (R354). -/
def execRingDisable (a : Agent) (cq : Bool) (g : Fin 4096) (v : BitVec 64) (s : State) : Res :=
  .next (s.begin.writeBy a (ringCfg cq) g.val (fun t => t.writeRingCfg cq g.val all64 (v &&& ~~~ 1)))

/-- PCX_FUNC_RINGS[f] with value `v` would overlap the same kind of range of another function (R331). -/
def State.ringsOverlap (s : State) (f : Nat) (v : BitVec 64) : Bool :=
  let overlap (b1 n1 b2 n2 : Nat) : Bool := 0 < n1 && 0 < n2 && b1 < b2 + n2 && b2 < b1 + n1
  (List.range 64).any (fun h => h != f &&
    (overlap (getField v 0 12) (getField v 16 13) (s.fld F.PCX_FUNC_RINGS_SQ_BASE h) (s.fld F.PCX_FUNC_RINGS_SQ_COUNT h) ||
     overlap (getField v 32 12) (getField v 48 13) (s.fld F.PCX_FUNC_RINGS_CQ_BASE h) (s.fld F.PCX_FUNC_RINGS_CQ_COUNT h)))

/-- Some ring of the ranges of a PCX_FUNC_RINGS value is enabled (R331). -/
def State.ringsLive (s : State) (v : BitVec 64) : Bool :=
  (List.range (getField v 16 13)).any (fun r => s.bit F.DMA_SQ_STS_ENABLED (getField v 0 12 + r)) ||
  (List.range (getField v 48 13)).any (fun r => s.bit F.DMA_CQ_STS_ENABLED (getField v 32 12 + r))

/-- A write of PCX_FUNC_RINGS[f]: discarded with CFG_REFUSED where the ranges overlap, pass 4,096 or hold an enabled ring
(R331). -/
def State.writeFuncRings (s : State) (f : Nat) (mask v : BitVec 64) : State :=
  let old := s.reg .PCX_FUNC_RINGS f
  let new := Reg.written .PCX_FUNC_RINGS old mask v
  if s.ringsOverlap f new || 4096 < getField new 0 12 + getField new 16 13 || 4096 < getField new 32 12 + getField new 48 13
      || s.ringsLive old || s.ringsLive new
  then s.setFld F.PCX_STS_CFG_REFUSED 0 1
  else s.setReg .PCX_FUNC_RINGS f new

/-- FUNC_RINGS_WRITE (R331). -/
def execFuncRingsWrite (a : Agent) (f : Fin 64) (v : BitVec 64) (s : State) : Res :=
  .next (s.begin.writeBy a .PCX_FUNC_RINGS f.val (fun t => t.writeFuncRings f.val all64 v))

/-- Every ring of function `f` is disabled by a reset or by Bus Master Enable, with ERR HOST; no index entry is written
(R356, Table 13-8). -/
def State.ringsOffOf (s : State) (f : Nat) : State :=
  let s1 := s.each ((List.range 4096).filter (fun g => s.bit F.DMA_SQ_STS_ENABLED g && s.ringOwner false g == some f))
    (fun t g => t.sqOff g)
  s1.each ((List.range 4096).filter (fun g => s1.bit F.DMA_CQ_STS_ENABLED g && s1.ringOwner true g == some f))
    (fun t g => (t.cqOff g 8).bump .DMA_CNT 12 1)

end Sys2Proof.Machine
end

