-- ==== Sys2Proof/Machine/Gauge.lean ====
section
/-! DEFINITION. Gauge: event counters, freezing, counter collection and needle sampling (spec/17). -/

namespace Sys2Proof.Machine

/-- The block of a Gauge counter: pipeline 0 to 15, or 16 + die. -/
def gaugeBlock (c : Nat) : Nat := if c < 256 then c / 16 else 16 + (c - 256) / 32

/-- The number of a Gauge counter within its block. -/
def gaugeBit (c : Nat) : Nat := if c < 256 then c % 16 else (c - 256) % 32

/-- Counter `c` is frozen, by GGE_FRZ or by a collection (R396, R397, R401). -/
def State.gaugeFrozen (s : State) (c : Nat) : Bool :=
  s.bit F.GGE_FRZ_FROZEN 0 || s.gauge.held.contains (Reg.key .GGE_CNT c)

/-- Counter `c` overflows: its bit of GGE_OVF, the freeze of FOV, and interrupt source 48 as a bit goes from 0 to 1 (R395, R397, R406;
log entry 67). -/
def State.gaugeOverflow (s : State) (c : Nat) : State :=
  let s1 := s.setBit .GGE_OVF (gaugeBlock c) (gaugeBit c)
  let s2 := if s1.effBit F.GGE_CTL_INT c && !(s.reg .GGE_OVF (gaugeBlock c)).getLsbD (gaugeBit c) then s1.interrupt 48 else s1
  if s2.effBit F.GGE_CTL_FOV c then
    let s3 := (s2.setFld F.GGE_FRZ_FREEZE 0 1).setFld F.GGE_FRZ_OVF_FROZE 0 1
    if s2.bit F.GGE_FRZ_OVF_FROZE 0 then s3 else s3.interrupt 48
  else s2

/-- Counter `c` takes `n` more: in its pending count while frozen, wrapping with an overflow otherwise (R395, R396). -/
def State.gaugeAdd (s : State) (c n : Nat) : State :=
  if n = 0 then s
  else if s.gaugeFrozen c then s.pend (Reg.key .GGE_CNT c) n
  else
    let v := s.fld F.GGE_CNT_COUNT c + n
    let s1 := s.setFld F.GGE_CNT_COUNT c v
    if v < 2 ^ 48 then s1 else s1.gaugeOverflow c

/-- The counters of a block: pipeline `b` below 16, die `b` − 16 otherwise. -/
def gaugeCounters (b : Nat) : List Nat :=
  if b < 16 then (List.range 16).map (b * 16 + ·) else (List.range 32).map (256 + (b - 16) * 32 + ·)

/-- QUAL of a counter counts an instance of number `q` (R394). -/
def State.gaugeQual (s : State) (c : Nat) (q : Option Nat) : Bool :=
  match q with
  | none => true
  | some b => bitOf (if s.eff F.GGE_CTL_QUAL c = 0 then 255 else s.eff F.GGE_CTL_QUAL c) b

/-- An enabled counter adds event values as they come: MODE 1 and 2 look at the clock's whole value (R393). -/
def State.gaugeSums (s : State) (c : Nat) : Bool := s.eff F.GGE_CTL_MODE c != 1 && s.eff F.GGE_CTL_MODE c != 2

/-- Event `code` of block `b` yields `v` more in this clock, of instance `q` where QUAL is a mask (R393). -/
def State.gauge! (s : State) (b code v : Nat) (q : Option Nat := none) : State :=
  s.each (gaugeCounters b) (fun t c =>
    if t.effBit F.GGE_CTL_EN c && t.eff F.GGE_CTL_EVENT c == code && t.gaugeQual c q then
      if t.gaugeSums c then t.gaugeAdd c v
      else { t with gauge := { t.gauge with now := SMap.set (fun _ => 0) t.gauge.now c (SMap.get (fun _ => 0) t.gauge.now c + v) } }
    else t)

/-- `n` clocks of a counter pass, the first with value `v` and the others with `w`: what MODE 1 and 2 count in them
(R393). -/
def gaugeMarks (mode th was v w n : Nat) : Nat :=
  if mode = 1 then boolNat (decide (th ≤ v)) + (if th ≤ w then n - 1 else 0)
  else boolNat (decide (th ≤ v ∧ was < th)) + boolNat (decide (2 ≤ n ∧ th ≤ w ∧ v < th))

/-- `n` clocks pass, at least one, for a counter: a level stands at `level` in each of them; an event has come in the first
(R393). -/
def State.gaugePass (s : State) (n c : Nat) (level : Option Nat) : State :=
  let v := level.getD (SMap.get (fun _ => 0) s.gauge.now c)
  let w := level.getD 0
  let t := s.gaugeAdd c (if s.gaugeSums c then level.getD 0 * n
    else gaugeMarks (s.eff F.GGE_CTL_MODE c) (s.eff F.GGE_CTL_THRESH c) (SMap.get (fun _ => 0) s.gauge.before c) v w n)
  { t with gauge := { t.gauge with before := SMap.set (fun _ => 0) t.gauge.before c (if n = 1 then v else w) } }

/-- A frozen counter register thaws: its pending count is added, with the overflow of R395 for a Gauge counter (R396). -/
def State.thaw (s : State) (r : Reg) (i : Nat) : State :=
  let k := r.key i
  let p := SMap.get (fun _ => 0) s.gauge.pend k
  let s1 := { s with gauge := { s.gauge with
    pend := SMap.set (fun _ => 0) s.gauge.pend k 0
    losers := s.gauge.losers.filter (· != k)
    held := s.gauge.held.filter (· != k) } }
  if r = .GGE_CNT then
    if s1.gaugeFrozen i then s1.pend k p else s1.gaugeAdd i p
  else s1.bump r i p

/-- The freeze of GGE_FRZ at an edge: FROZEN follows FREEZE; counters that no other freeze holds thaw (R396, R397). -/
def State.edgeFreeze (s : State) : State :=
  if s.bit F.GGE_FRZ_FROZEN 0 && !s.bit F.GGE_FRZ_FREEZE 0 then
    (s.setFld F.GGE_FRZ_FROZEN 0 0).each (List.range 320) (fun t c =>
      if t.gauge.held.contains (Reg.key .GGE_CNT c) then t else t.thaw .GGE_CNT c)
  else s.setFld F.GGE_FRZ_FROZEN 0 (s.fld F.GGE_FRZ_FREEZE 0)

/-- A COUNT adds packets and bytes to a STATS pair, or to its pending counts while a collection holds it (R139, R154,
R396). -/
def State.countStat (s : State) (i pkts bytes : Nat) : State :=
  if s.gauge.heldStats.contains i then
    let p := SMap.get (fun _ => (0, 0)) s.gauge.statPend i
    let put (t : State) (v : Nat × Nat) : State :=
      { t with gauge := { t.gauge with statPend := SMap.set (fun _ => (0, 0)) t.gauge.statPend i v } }
    let s1 := if p.1 + pkts < 2 ^ 32 then put s (p.1 + pkts, p.2) else s.lose (2 ^ 32 + 2 * i)
    let q := SMap.get (fun _ => (0, 0)) s1.gauge.statPend i
    if q.2 + bytes < 2 ^ 32 then put s1 (q.1, q.2 + bytes) else s1.lose (2 ^ 32 + 2 * i + 1)
  else s.setStat i ((s.statPair i).1 + pkts, (s.statPair i).2 + bytes)

/-- A STATS pair thaws (R396). -/
def State.thawStat (s : State) (i : Nat) : State :=
  let p := SMap.get (fun _ => (0, 0)) s.gauge.statPend i
  let s1 := { s with gauge := { s.gauge with
    statPend := SMap.set (fun _ => (0, 0)) s.gauge.statPend i (0, 0)
    losers := s.gauge.losers.filter (fun k => k != 2 ^ 32 + 2 * i && k != 2 ^ 32 + 2 * i + 1)
    heldStats := s.gauge.heldStats.filter (· != i) } }
  s1.setStat i ((s1.statPair i).1 + p.1, (s1.statPair i).2 + p.2)

/-- A write of GGE_CNT: the value of COUNT, or the held value of a frozen counter (R395, R396). -/
def State.writeGaugeCnt (s : State) (c : Nat) (mask v : BitVec 64) : State := s.plainWrite .GGE_CNT c mask v

/-- GAUGE_COUNTER_WRITE (R395). -/
def execGaugeCounterWrite (a : Agent) (c : Fin 320) (v : BitVec 64) (s : State) : Res :=
  .next (s.begin.writeBy a .GGE_CNT c.val (fun t => t.writeGaugeCnt c.val all64 v))

/-- The registers that a collection may name besides Gauge counters: 64-bit counters that wrap under R5 (R398). -/
def Reg.collectable (r : Reg) : Bool :=
  [Reg.GGE_CNT, .PCX_CNT, .DMA_CNT, .CHT_CNT, .STE_CNT, .ACT_CNT, .MAC_CNT, .MSC_SECY_CNT, .TCM_CNT, .LKP_CNT, .BPM_CNT,
    .SKN_CNT, .SCH_CNT, .YRN_CNT, .HBC_CNT].contains r

/-- The register and instance whose first byte lies at an address, where a collection may name it (R398). -/
def collectAt (addr : Nat) : Option (Reg × Nat) :=
  match locate addr with
  | some (r, i, 0) => if r.collectable && r.width == 64 then some (r, i) else none
  | _ => none

/-- The values that a range names: (true, pair, half) or (false, register key, 0); none where it names what it may not
(R398). -/
def State.rangeSet (a b : BitVec 64) : Option (List (Bool × Nat × Nat)) :=
  let first := getField a 0 26
  let icount := getField a 32 20
  if a.getLsbD 26 then
    if first + icount ≤ 2 ^ 20 then
      some ((List.range icount).flatMap (fun i => [(true, first + i, 0), (true, first + i, 1)]))
    else none
  else
    ((List.range (max 1 (getField b 16 16))).flatMap (fun o => (List.range icount).map (fun i =>
      first + o * getField b 32 24 + i * getField b 0 16))).mapM (fun addr =>
        (collectAt addr).map (fun r => (false, r.1.key r.2, 0)))

/-- How many values a range gives (R398). -/
def rangeCount (a b : BitVec 64) : Nat :=
  if a.getLsbD 26 then 2 * getField a 32 20 else max 1 (getField b 16 16) * getField a 32 20

/-- The whole collection set, in range order, with range `r` taken to hold (a, b) where it is given. -/
def State.collectSet (s : State) : List (Bool × Nat × Nat) :=
  (List.range 32).flatMap (fun r =>
    if s.bit F.GGE_COL_RNG_A_EN r then (State.rangeSet (s.reg .GGE_COL_RNG_A r) (s.reg .GGE_COL_RNG_B r)).getD [] else [])

/-- N if range `r` held (a, b) (R398). -/
def State.collectN (s : State) (r : Nat) (a b : BitVec 64) : Nat :=
  ((List.range 32).map (fun q =>
    if q = r then (if a.getLsbD 27 then rangeCount a b else 0)
    else if s.bit F.GGE_COL_RNG_A_EN q then rangeCount (s.reg .GGE_COL_RNG_A q) (s.reg .GGE_COL_RNG_B q) else 0)).sum

/-- A write of half `hi` of a collection range: refused while it is enabled and another field changes, and where it would
enable a range that names what it may not or does not fit (R398). -/
def State.writeRange (s : State) (hi : Bool) (r : Nat) (mask v : BitVec 64) : State :=
  let reg := if hi then Reg.GGE_COL_RNG_B else .GGE_COL_RNG_A
  let new := reg.written (s.reg reg r) mask v
  let a := if hi then s.reg .GGE_COL_RNG_A r else new
  let b := if hi then new else s.reg .GGE_COL_RNG_B r
  let en : BitVec 64 := 1 <<< 27
  let others := ((s.reg .GGE_COL_RNG_A r ^^^ a) &&& ~~~ en) ||| (s.reg .GGE_COL_RNG_B r ^^^ b)
  if (s.bit F.GGE_COL_RNG_A_EN r && others != 0) ||
      (a.getLsbD 27 && ((State.rangeSet a b).isNone || s.fld F.GGE_COL_SIZE_PAGES 0 * 4096 < 40 + 8 * s.collectN r a b))
  then s.setFld F.GGE_COL_STS_CFG_REFUSED 0 1
  else s.setReg reg r new

/-- COLLECTION_RANGE_WRITE: a write of GGE_COL_RNG_A[r], or GGE_COL_RNG_B[r] when `hi` (R398). -/
def execCollectionRangeWrite (a : Agent) (hi : Bool) (r : Fin 32) (v : BitVec 64) (s : State) : Res :=
  .next (s.begin.writeBy a (if hi then .GGE_COL_RNG_B else .GGE_COL_RNG_A) r.val (fun t => t.writeRange hi r.val all64 v))

/-- A write of GGE_COL_CMD: GO asks for a collection at the next edge, or is discarded while one is written (R399). -/
def State.writeColCmd (s : State) (mask v : BitVec 64) : State :=
  if wbit mask v 31 then
    if s.bit F.GGE_COL_STS_BUSY 0 then s.setFld F.GGE_COL_STS_SKIPPED 0 1
    else { s with gauge := { s.gauge with go := true } }
  else s

/-- COLLECTION_REQUEST (R399). -/
def execCollectionRequest (a : Agent) (v : BitVec 32) (s : State) : Res :=
  .next (s.begin.writeBy a .GGE_COL_CMD 0 (fun t => t.writeColCmd low32 (v.setWidth 64)))

/-- The instance and register of a key. -/
def keyReg (k : Nat) : Option (Reg × Nat) := (Reg.all[k % 256]?).map (fun r => (r, k / 256))

/-- The value that a collection takes: all ones from a domain that is off (R402). -/
def State.collectValue (s : State) (e : Bool × Nat × Nat) : Nat :=
  if e.1 then
    if s.domOn (50 + directDie tidStats e.2.1) then (if e.2.2 = 0 then (s.statPair e.2.1).1 else (s.statPair e.2.1).2)
    else 2 ^ 64 - 1
  else match keyReg e.2.1 with
    | some (r, i) => if s.regOn r i then (s.reg r i).toNat else 2 ^ 64 - 1
    | none => 0

/-- A collection falls due at this edge: by period in hardware mode, by request in host-assisted mode (R399). -/
def State.collectionDue (s : State) : Bool :=
  s.atEdge && s.gauge.decided != some s.tikCount &&
    (if s.split 12 then s.gauge.go
     else s.bit F.GGE_COL_CFG_EN 0 && s.tikCount.toNat % max 1 (s.fld F.GGE_COL_CFG_PERIOD 0) == 0)

/-- The collection of this edge starts: in dump mode its values are taken now, in freeze mode its counters freeze
(R400, R401). -/
def State.collectStart (s : State) : State :=
  let set := s.collectSet
  let frz := 4096 < set.length
  let c : ColRun := ⟨s.gauge.nextSeq % 2 ^ 32, frz, s.tikCount, s.fld F.TIM_TOD_NS_NS 0, s.fld F.TIM_TOD_SEC_SEC 0 % 65536, set,
    if frz then [] else set.map s.collectValue, 0⟩
  let s1 := ((s.setFld F.GGE_COL_STS_BUSY 0 1).setFld F.GGE_COL_STS_MODE 0 (boolNat frz)).setFld F.GGE_COL_STS_SEQ 0
    (s.gauge.nextSeq % 2 ^ 32)
  { s1 with gauge := { s1.gauge with
      col := some c, nextSeq := s.gauge.nextSeq + 1
      held := if frz then (set.filter (fun e => !e.1)).map (fun e => e.2.1) else []
      heldStats := if frz then (set.filter (fun e => e.1 && e.2.2 == 0)).map (fun e => e.2.1) else [] } }

/-- COLLECTION_DUE (R399 to R401). -/
def execCollectionDue (s : State) : Res :=
  let s0 := s.begin
  if s0.collectionDue then
    let s1 := { s0 with gauge := { s0.gauge with decided := some s0.tikCount, go := false } }
    if s1.bit F.GGE_COL_STS_BUSY 0 then
      .next (((s1.setFld F.GGE_COL_STS_SKIPPED 0 1).satFld F.TIK_OVERRUN_COUNT 6 1).setBit .TIK_OVR_STS 0 6 |>.interrupt 1 |>.fault 1 3 6)
    else if !s1.fnMayIssue 0 || s1.collectSet.isEmpty then .next (s1.setFld F.GGE_COL_STS_SKIPPED 0 1)
    else .next s1.collectStart
  else .next s0

/-- Every counter of the set thaws. -/
def State.collectThaw (s : State) (set : List (Bool × Nat × Nat)) : State :=
  set.foldl (fun t e =>
    if e.1 then (if e.2.2 = 1 then t.thawStat e.2.1 else t)
    else match keyReg e.2.1 with
      | some (r, i) => t.thaw r i
      | none => t) s

/-- COLLECTION_DONE: header, values and trailer are written, in that order; DONE is set and BUSY clears (R402). While PF0 may
issue no request nothing is written (DESIGN CHOICE, log entry 65). -/
def execCollectionDone (s : State) : Res :=
  let s0 := s.begin
  match if s0.fnMayIssue 0 then s0.gauge.col else none with
  | none => .next s0
  | some c =>
    let n := c.set.length
    let addr := s0.fld F.GGE_COL_ADDR_ADDR (c.seq % 2) * 4096
    let vals := if c.freeze then c.set.map s0.collectValue else c.values
    let head := leBytes 4 c.seq ++ leBytes 4 n ++ leBytes 8 c.tick.toNat ++ leBytes 1 (boolNat c.freeze) ++ leBytes 3 0 ++
      leBytes 4 c.lost ++ leBytes 4 c.todNs ++ leBytes 2 c.todSec ++ leBytes 2 0
    let s1 := ((s0.sendTlp (.memWrite 0 addr head)).sendTlp (.memWrite 0 (addr + 32) (vals.flatMap (leBytes 8)))).sendTlp
      (.memWrite 0 (addr + 32 + 8 * n) (leBytes 4 c.seq ++ leBytes 4 n))
    let s2 := { s1 with gauge := { s1.gauge with col := none } }
    let s3 := if c.freeze then s2.collectThaw c.set else s2
    .next ((s3.setFld F.GGE_COL_STS_DONE 0 1).setFld F.GGE_COL_STS_BUSY 0 0)

/-- The records in the sample buffer of die `d`. -/
def State.samplesOf (s : State) (d : Nat) : List Sample := SMap.get (fun _ => []) s.gauge.samples d

/-- The state with the sample buffer of die `d` set, and LEVEL with it. -/
def State.setSamples (s : State) (d : Nat) (l : List Sample) : State :=
  { s.setFld F.GGE_SBUF_STS_LEVEL d l.length with gauge := { s.gauge with samples := SMap.set (fun _ => []) s.gauge.samples d l } }

/-- Records dropped since the last that entered the buffer of die `d`. -/
def State.setMissed (s : State) (d n : Nat) : State :=
  { s with gauge := { s.gauge with missed := SMap.set (fun _ => 0) s.gauge.missed d n } }

/-- A record enters the sample buffer of its die, or is dropped where the buffer of 4,096 is full (R405). -/
def State.sampleEnter (s : State) (d a : Nat) (body : Bytes) (tick : Nat) : State :=
  let miss := SMap.get (fun _ => 0) s.gauge.missed d
  if (s.samplesOf d).length < 4096 then
    (s.setSamples d (s.samplesOf d ++ [⟨a, miss, body, tick⟩])).setMissed d 0
  else
    let s1 := (s.satFld F.GGE_SBUF_STS_DROPS d 1).setMissed d (min 32767 (miss + 1))
    if s1.bit F.GGE_SBUF_STS_SB_FULL d then s1 else (s1.setFld F.GGE_SBUF_STS_SB_FULL d 1).interrupt 48

/-- A notify record with a TICK of its own (Table 17-4). -/
def State.notifySample (s : State) (d : Nat) (r : Sample) : State :=
  match (s.setReg .TIK_COUNT 0 (BitVec.ofNat 64 r.tick)).notifyCore 10 d r.a r.b r.body with
  | (t, none) => t.setReg .TIK_COUNT 0 s.tikCount
  | (t, some g) => (t.setReg .TIK_COUNT 0 s.tikCount).fault 5 2 g g

/-- SAMPLE_DRAIN: the oldest record of the die's sample buffer becomes a TYPE 10 notify record (R405). -/
def execSampleDrain (d : Fin 2) (s : State) : Res :=
  let s0 := s.begin
  match s0.samplesOf d.val with
  | [] => .next s0
  | r :: rest => .next ((s0.setSamples d.val rest).notifySample d.val r)

/-- The count of R403 is loaded with PERIOD + x, x a free value below 2^JIT. -/
def State.sampleLoad (s : State) (n : Nat) : Nat × State :=
  (max 1 (s.eff F.GGE_SMP_CFG_PERIOD n) + s.free.toNat % 2 ^ s.eff F.GGE_SMP_CFG_JIT n, s.drawn)

end Sys2Proof.Machine
end

