-- ==== Sys2Proof/Machine/Events.lean ====
section
/-! DEFINITION. The event queues of the learning engines (spec/06, R163, R164). -/

namespace Sys2Proof.Machine

/-- Learning, aging and flush of die `d`. -/
def State.learning (s : State) (d : Nat) : LearnSt := SMap.get (fun _ => LearnSt.idle) s.learn d

/-- Events of a die's queue: those not yet handled and those whose plan has not applied, retried ones apart (R167). -/
def LearnSt.depth (l : LearnSt) : Nat := l.queue.length + (l.plans.filter (fun p => !p.retry)).length

/-- Events on the retry list, which holds each until its plan applies (R167). -/
def LearnSt.retrying (l : LearnSt) : Nat := l.retry.length

/-- An event leaves the retry list (R167). -/
def LearnSt.unretry (l : LearnSt) (e : LEvent) : LearnSt := { l with retry := removeFirst (· == e) l.retry }

/-- The oldest event of the retry list is dropped, and with it a plan made for it (R167). -/
def LearnSt.dropOldest (l : LearnSt) : LearnSt :=
  match l.retry with
  | [] => l
  | e :: rest => { l with retry := rest, plans := removeFirst (fun p => p.retry && p.ev == e) l.plans }

/-- The state with the learning engine of die `d` changed, and LKP_EVQ_STS with it. -/
def State.setLearning (s : State) (d : Nat) (v : LearnSt) : State :=
  let s1 := { s with learn := SMap.set (fun _ => LearnSt.idle) s.learn d v }
  (s1.setFld F.LKP_EVQ_STS_DEPTH d v.depth).setFld F.LKP_EVQ_STS_RETRY d v.retrying

/-- An LKP_CNT counter of die `d`. -/
def State.lkpCount (s : State) (d i n : Nat) : State := s.bump .LKP_CNT (d * 16 + i) n

/-- Two events are the same but for their tick (R164). -/
def LEvent.same (a b : LEvent) : Bool := a.table == b.table && a.key == b.key && a.src == b.src && a.data == b.data

/-- An event reaches the queue of die `d`: counted, discarded as a repetition, dropped for want of room, or accepted
(R163, R164). -/
def State.eventAt (s : State) (e : LEvent) (d : Nat) : State :=
  if !s.domOn (50 + d) then s
  else
    let s1 := s.lkpCount d 0 1
    let l := s1.learning d
    if l.recent.any (fun o => o.same e && (e.tick - o.tick).toNat < s1.fld F.LKP_LEARN_CFG_DEDUP d) then s1.lkpCount d 1 1
    else if 4096 ≤ l.depth then (s1.lkpCount d 2 1).fault 11 2 d
    else (s1.setLearning d { l with queue := l.queue ++ [e], recent := (e :: l.recent).take 256 }).gauge! (16 + d) 0x4C 1

/-- A LEARN or SLEARN raises its event: BRIDGE on both dies, SESSION on the die of SRC_PORT (R163). -/
def State.learnEvent (s : State) (table : Nat) (key : Bytes) (src data : Nat) : State :=
  let e : LEvent := ⟨table, key, src, data, s.tikCount, s.split (if table = 0 then 0 else 6)⟩
  if table = 0 then (s.eventAt e 0).eventAt e 1 else s.eventAt e (portDie src)

end Sys2Proof.Machine
end

