-- ==== Sys2Proof/Machine/Ports.lean ====
section
/-! DEFINITION. Port configuration, live link state and the requests that the link state machine takes at an edge
(spec/03, R58 to R62, R70, R71). The machine's bind-off, which flushes queues, is in `LinkState`; frames are in `Mac`. -/

namespace Sys2Proof.Machine

/-- The dynamic state of port `p`. -/
def State.port (s : State) (p : Nat) : PortSt := SMap.get (fun _ => PortSt.reset) s.ports p

/-- The state with port `p` changed. -/
def State.setPort (s : State) (p : Nat) (v : PortSt) : State :=
  { s with ports := SMap.set (fun _ => PortSt.reset) s.ports p v }

/-- The rows of Table 3-1: SPEED, WIDTH, lane rate code of SDS_LANE_STS.RATE, FEC values accepted (R58). -/
def portModes : List (Nat × Nat × Nat × List Nat) :=
  [(0, 0, 1, [0]), (1, 0, 2, [0, 1]), (2, 0, 3, [2]), (3, 0, 4, [2]), (3, 1, 3, [2]), (3, 2, 2, [1]), (4, 0, 5, [2]), (4, 1, 4, [2]),
   (4, 2, 3, [2]), (5, 1, 5, [2]), (5, 2, 4, [2]), (5, 3, 3, [2]), (6, 2, 5, [2]), (6, 3, 4, [2]), (7, 3, 5, [2])]

/-- The lane rate code of a speed and width with an accepted FEC, if Table 3-1 has the combination (R58). -/
def portRate (speed width fec : Nat) : Option Nat :=
  (portModes.find? (fun r => r.1 == speed && r.2.1 == width && r.2.2.2.contains fec)).map (fun r => r.2.2.1)

/-- The speed of a SPEED code in Gb/s, a tenth of 100GbE's code 3 for 10GbE and so on (Table 3-1). -/
def speedGbps (speed : Nat) : Nat := [10, 25, 50, 100, 200, 400, 800, 1600].getD speed 0

/-- The management ports (R62). -/
def isMgt (p : Nat) : Bool := p == 128 || p == 129

/-- Lane slots of a port's octet that the port occupies at a WIDTH code: first and count (R59). -/
def portSlots (p width : Nat) : List Nat := if isMgt p then [0] else (List.range (2 ^ width)).map (p % 8 + ·)

/-- The other ports that share an octet with port `p`. -/
def octetMates (p : Nat) : List Nat :=
  if isMgt p then [] else ((List.range 8).map (p / 8 * 8 + ·)).filter (· != p)

/-- A lane that port `p` at WIDTH `width` needs belongs to another enabled port, or a MAC slot it covers is enabled
(R59, R60). -/
def State.lanesTaken (s : State) (p width : Nat) : Bool :=
  (octetMates p).any (fun q => s.bit F.MAC_PORT_CFG_EN q &&
    (portSlots q (s.fld F.MAC_PORT_CFG_WIDTH q)).any ((portSlots p width).contains ·))

/-- The configuration with EN set is one that port `p` may be enabled with (R58, R59, R60, R62). -/
def State.portCfgOk (s : State) (p : Nat) (v : BitVec 64) : Bool :=
  let width := getField v 1 2
  let speed := getField v 3 3
  let fec := getField v 6 2
  if isMgt p then speed == 1 && width == 0 && (fec == 0 || fec == 1) && !v.getLsbD 11
  else (portRate speed width fec).isSome && p % 8 % 2 ^ width == 0 && !s.lanesTaken p width

/-- The bits WIDTH, SPEED, FEC and YARN of MAC_PORT_CFG. -/
def modeBits : BitVec 64 := 0x8FE

/-- A write to MAC_PORT_CFG is accepted: what R60 refuses is not asked. -/
def State.portWriteOk (s : State) (p : Nat) (old new : BitVec 64) : Bool :=
  (!new.getLsbD 0 || s.portCfgOk p new) &&
    ((old ^^^ new) &&& modeBits == 0 || (!old.getLsbD 0 && s.fld F.MAC_PORT_STS_STATE p == 0))

/-- A write to MAC_PORT_CFG: refused with CFG_ERR, or stored, to take effect at the next edge (R60, R61). -/
def State.writePortCfg (s : State) (p : Nat) (mask v : BitVec 64) : State :=
  let old := s.reg .MAC_PORT_CFG p
  let new := Reg.written .MAC_PORT_CFG old mask v
  if s.portWriteOk p old new then s.setReg .MAC_PORT_CFG p new else s.setFld F.MAC_PORT_STS_CFG_ERR p 1

/-- PORT_CFG_WRITE (R60, R61). -/
def execPortCfgWrite (a : Agent) (p : Fin 130) (v : BitVec 32) (s : State) : Res :=
  .next (s.begin.writeBy a .MAC_PORT_CFG p.val (fun t => t.writePortCfg p.val low32 (v.setWidth 64)))

/-- The port's EN in force at this tick (R61). -/
def State.portEn (s : State) (p : Nat) : Bool := s.effBit F.MAC_PORT_CFG_EN p

/-- The port's link state code (Table 3-3): 0 DISABLED, 1 TRAINING, 2 UP, 3 BINDOFF, 4 HELD. -/
def State.portState (s : State) (p : Nat) : Nat := s.fld F.MAC_PORT_STS_STATE p

/-- Largest frame of a port: 64 to 16,000 bytes (R63). -/
def State.maxLen (s : State) (p : Nat) : Nat := min 16000 (max 64 (s.eff F.MAC_PORT_CFG_MAXLEN p))

/-- Flow control in force: 0 none, 1 pause, 2 PFC; 3 is handled as 0 (R65). -/
def State.flowCtl (s : State) (p : Nat) : Nat := if s.eff F.MAC_PORT_CFG_FC p = 3 then 0 else s.eff F.MAC_PORT_CFG_FC p

/-- A link fault is present now (R70). -/
def PortSt.fault (q : PortSt) : Bool := !q.aligned || !q.fecOk || q.lfault || q.rfault

/-- LINK_FAULT_CHANGE: the live bits follow the link, and a fault is remembered for the next edge (R70). -/
def execLinkFaultChange (p : Fin 130) (aligned fecOk lfault rfault : Bool) (s : State) : Res :=
  let s0 := s.begin
  let q := { s0.port p.val with aligned := aligned, fecOk := fecOk, lfault := lfault, rfault := rfault }
  let q' := { q with faultSeen := q.faultSeen || q.fault }
  .next ((((s0.setPort p.val q').setFld F.MAC_PORT_STS_LINK_OK p.val (boolNat (!q.fault))).setFld F.MAC_PORT_STS_LFAULT p.val
    (boolNat lfault)).setFld F.MAC_PORT_STS_RFAULT p.val (boolNat rfault))

/-- LINK_TRAINING_DONE: LT_DONE of the lane is set, where training is enabled (R58). -/
def execLinkTrainingDone (l : Fin 130) (s : State) : Res :=
  let s0 := s.begin
  .next (if s0.bit F.SDS_LANE_CFG_LT_EN l.val then s0.setFld F.SDS_LANE_STS_LT_DONE l.val 1 else s0)

/-- A write to SDS_LANE_CFG: writing PRBS clears the error count (Table 3-9). -/
def State.writeLaneCfg (s : State) (l : Nat) (mask v : BitVec 64) : State :=
  let s1 := s.plainWrite .SDS_LANE_CFG l mask v
  if mask &&& 0x70 = 0 then s1 else s1.setFld F.SDS_LANE_STS_PRBS_ERR l 0

/-- Bind-off of a port is asked for, to be taken at the next edge: from UP or HELD only (R71). -/
def State.requestBindoff (s : State) (p : Nat) : State :=
  if s.portState p = 2 ∨ s.portState p = 4 then s.setPort p { s.port p with bindoff := true } else s

/-- A write to MAC_PORT_CMD (R71). -/
def State.writePortCmd (s : State) (p : Nat) (mask v : BitVec 64) : State :=
  if wbit mask v 0 then s.requestBindoff p else s

/-- BINDOFF_CMD: ignored in DISABLED and TRAINING (R71). -/
def execBindoffCmd (a : Agent) (p : Fin 130) (v : BitVec 32) (s : State) : Res :=
  .next (s.begin.writeBy a .MAC_PORT_CMD p.val (fun t => t.writePortCmd p.val low32 (v.setWidth 64)))

/-- The lanes of octet `k` that cage `g` carries: a lane named by two cages is the lower-numbered one's (R74). -/
def State.cageLanes (s : State) (g : Nat) : List Nat :=
  ((List.range 8).filter (fun j => bitOf (s.fld F.CAGE_CAP_LANES g) j &&
    !(List.range (g % 8)).any (fun c => bitOf (s.fld F.CAGE_CAP_LANES (g / 8 * 8 + c)) j)))

/-- The enabled ports on the lanes of cage `g` (R74, R75). -/
def State.cagePorts (s : State) (g : Nat) : List Nat :=
  if (absentDomains s.part).contains (16 + g / 8) then []
  else ((List.range 8).map (g / 8 * 8 + ·)).filter (fun p => s.bit F.MAC_PORT_CFG_EN p &&
    (portSlots p (s.fld F.MAC_PORT_CFG_WIDTH p)).any ((s.cageLanes g).contains ·))

end Sys2Proof.Machine
end

