-- ==== Sys2Proof/Machine/Ste.lean ====
section
/-! DEFINITION. Staging, dispatch, needles at their start and end, and program images (spec/04, R92 to R104, R113 to R119;
sampling, R403 to R405). -/

namespace Sys2Proof.Machine

/-- Pipeline `n` beside its registers. -/
def State.pipe (s : State) (n : Nat) : PipeSt := SMap.get (fun _ => PipeSt.idle) s.pipes n

/-- The state with pipeline `n` changed. -/
def State.setPipe (s : State) (n : Nat) (v : PipeSt) : State :=
  { s with pipes := SMap.set (fun _ => PipeSt.idle) s.pipes n v }

/-- An STE_CNT counter of pipeline `n` counts. -/
def State.steCount (s : State) (n i : Nat) : State := s.bump .STE_CNT (n * 16 + i) 1

/-- Needle `k` = 96 × engine + number. -/
def State.needle (s : State) (k : Nat) : Option Needle := SMap.get (fun _ => none) s.needles k

/-- The needle numbers of engine `e` that hold no packet, rising. -/
def State.freeNeedles (s : State) (e : Nat) : List Nat := (List.range 96).filter (fun i => (s.needle (e * 96 + i)).isNone)

/-- The state with needle `k` changed, and FREE and MIN_FREE of its engine with it (Table 4-9). -/
def State.setNeedle (s : State) (k : Nat) (v : Option Needle) : State :=
  let s1 := { s with needles := SMap.set (fun _ => none) s.needles k v }
  let f := (s1.freeNeedles (k / 96)).length
  (s1.setFld F.STE_ENG_STS_FREE (k / 96) f).setFld F.STE_ENG_STS_MIN_FREE (k / 96)
    (min f (s.fld F.STE_ENG_STS_MIN_FREE (k / 96)))

/-- The pipeline, and the direction (0 ingress, 1 egress), of an engine. -/
def enginePipe (e : Nat) : Nat := e / 4
def engineDir (e : Nat) : Nat := e % 4 / 2

/-- Staging cells in use in pipeline `n` (R92). -/
def State.stageUsed (s : State) (n : Nat) : Nat :=
  (s.staged.map (fun e => match e.2 with
    | some t => if t.pipe = n then t.cells else 0
    | none => 0)).sum

/-- The staging record of frame `id`. -/
def State.stagedOf (s : State) (id : Nat) : Option Staged := SMap.get (fun _ => none) s.staged id

/-- The state with the staging record of a frame set; its cells are free once action merge has it and no copy is left
(R92). -/
def State.setStaged (s : State) (id : Nat) (t : Staged) : State :=
  { s with staged := SMap.set (fun _ => none) s.staged id (if t.merged && t.left == 0 then none else some t) }

/-- A copy of frame `id` has left staging (R92). -/
def State.leaveStaging (s : State) (id : Nat) : State :=
  match s.stagedOf id with
  | some t => s.setStaged id { t with left := t.left - 1 }
  | none => s

/-- Staging cells of a frame of `len` bytes without FCS (R92). -/
def stageCells (len : Nat) : Nat := max 1 ((len + 255) / 256)

/-- A frame enters the staging of pipeline `n` and becomes ready, together with the frames that became ready in the same
clock when `same`; or it is dropped for want of cells, or in DRAIN and READY (R92, R93, R420). A pipeline that is not ON takes
none. -/
def State.enterStaging (s : State) (n : Nat) (p : Pkt) (same : Bool) : State :=
  let c := stageCells p.bytes.length
  if s.domState n ≠ 3 then s
  else if s.curMode = 3 ∨ s.curMode = 7 ∨ 2048 < s.stageUsed n + c then s.steCount n 10
  else
    let id := s.nextId
    let grp := match same, (s.pipe n).ready.getLast? with
      | true, some q => q.grp
      | _, _ => id
    let s1 := { s with nextId := id + 1, staged := SMap.set (fun _ => none) s.staged id (some ⟨n, c, 0, false⟩) }
    s1.setPipe n { s1.pipe n with ready := (s1.pipe n).ready ++ [{ p with id := id, pipe := n, grp := grp }] }

/-- The place of a source in the rotation of R93: port slots 0 to 7, then the recirculation port. -/
def rotation (src : Nat) : Nat := if 144 ≤ src then 8 else src % 8

/-- The frame that dispatch takes next: of those that became ready first, the one whose source comes first after the
source taken last (R93). -/
def PipeSt.next (p : PipeSt) : Option Pkt :=
  match p.ready with
  | [] => none
  | h :: _ =>
    ((p.ready.filter (fun q => q.grp == h.grp)).foldl (fun best q =>
      match best with
      | none => some q
      | some b => if (rotation q.src + 8 - p.last) % 9 < (rotation b.src + 8 - p.last) % 9 then some q else some b) none)

/-- Metadata at ingress start (Table 5-2). -/
def mdStart (src pass len vlen oclass tag ns sec : Nat) : Bytes :=
  beBytes 1 src ++ beBytes 1 pass ++ beBytes 2 len ++ beBytes 2 vlen ++ beBytes 1 oclass ++ beBytes 1 tag ++ beBytes 4 ns ++
    beBytes 2 sec ++ List.replicate 114 0

/-- Metadata at egress start, from what the ingress pass left (Table 5-2). -/
def mdEgress (c : Bytes) (len vlen tag port tc : Nat) : Bytes :=
  c.take 2 ++ beBytes 2 len ++ beBytes 2 vlen ++ sliceZ c 6 1 ++ beBytes 1 (tag + beAt c 7 1 / 4 % 16 * 4) ++ sliceZ c 8 6 ++
    beBytes 1 port ++ beBytes 1 tc ++ sliceZ c 0x10 4 ++ List.replicate 12 0 ++ sliceZ c 0x20 6 ++ List.replicate 10 0 ++
    sliceZ c 0x30 48 ++ List.replicate 32 0

/-- The EtherTypes of Table 4-2. -/
def etherClass (t : Nat) : Nat :=
  if t = 0x0806 then 1 else if t = 0x0800 then 2 else if t = 0x86DD then 3 else if t = 0x8847 ∨ t = 0x8848 then 4
  else if t = 0x8863 then 5 else if t = 0x8864 then 6 else if t = 0x8809 ∨ t = 0x88CC then 7 else 0

/-- A TPID that the outer logic skips (R103). -/
def outerTpid (x t : Nat) : Bool := t == 0x8100 || t == 0x88A8 || t == x

/-- The VLAN tags that the outer logic skips: 0 to 2 (R103). -/
def outerTags (x : Nat) (b : Bytes) : Nat :=
  if outerTpid x (beAt b 12 2) then (if outerTpid x (beAt b 16 2) then 2 else 1) else 0

/-- The outer class of a frame; a third tag makes it class 0 (R103, Table 4-2). -/
def outerClass (x : Nat) (b : Bytes) : Nat :=
  let t := beAt b (12 + 4 * outerTags x b) 2
  if outerTpid x t then 0 else etherClass t

/-- The budget in force for a direction of pipeline `n`, within 32 and 1,100 (R99, R100). -/
def State.budget (s : State) (n dir : Nat) : Nat :=
  min 1100 (max 32 (if dir = 0 then s.eff F.STE_BUDGET_IG n else s.eff F.STE_BUDGET_EG n))

/-- The active entry set of a direction of pipeline `n` (R114). -/
def State.activeSet (s : State) (n dir : Nat) : Nat :=
  if dir = 0 then s.fld F.STE_IMG_IG_ACTIVE n else s.fld F.STE_IMG_EG_ACTIVE n

/-- The entry PC that a source selects in an entry set (R114). -/
def State.entryPc (s : State) (n dir set src : Nat) : Nat :=
  let k := (n * 2 + dir) * 2 + set
  let i := getField (s.reg .STE_SRC_MAP k) (4 * rotation src) 4
  s.fld F.STE_ENTRY_PC (k * 16 + i)

/-- The sampling count of a direction, and the pipeline with it changed (R403). -/
def PipeSt.sample (p : PipeSt) (dir : Nat) : Option Nat := if dir = 0 then p.sampleIg else p.sampleEg
def PipeSt.setSample (p : PipeSt) (dir : Nat) (v : Option Nat) : PipeSt :=
  if dir = 0 then { p with sampleIg := v } else { p with sampleEg := v }

/-- A packet is dispatched in a direction: whether it is sampled (R403). -/
def State.sampleStep (s : State) (n dir : Nat) : Bool × State :=
  if !(if dir = 0 then s.effBit F.GGE_SMP_CFG_IG_EN n else s.effBit F.GGE_SMP_CFG_EG_EN n) then
    (false, s.setPipe n ((s.pipe n).setSample dir none))
  else
    let c := match (s.pipe n).sample dir with
      | some v => (v, s)
      | none => s.sampleLoad n
    if c.1 ≤ 1 then
      let r := c.2.sampleLoad n
      (true, r.2.setPipe n ((r.2.pipe n).setSample dir (some r.1)))
    else (false, c.2.setPipe n ((c.2.pipe n).setSample dir (some (c.1 - 1))))

/-- An empty lookup slot (Table 5-1). -/
def Slot.empty : Slot := ⟨0, [], false, none, 0⟩

/-- A needle at program start: its first instruction issues in clock d + 4 (R98, R120). -/
def Needle.start (job set pc : Nat) (win : Bytes) (vlen : Nat) (md : Bytes) (budget : Nat) (sample : Bool) (clk tick : Nat) :
    Needle :=
  { job := job, set := set, pc := pc, regs := List.replicate 16 0, z := false, n := false, c := false, win := padTo 256 win,
    vlen := vlen, key := List.replicate 80 0, md := md, slots := List.replicate 4 Slot.empty, clk := 4, budget := budget,
    stalled := false, twoStep := false, aclSeq := 0, mirSeq := [], sample := sample, entry := pc, lastPc := pc, dclk := clk, dtick := tick, stall := 0,
    lookups := 0, remote := 0, maxLat := 0, maxSlot := 0 }

/-- The engine of a direction that takes the next packet, given the engines that have taken one in this clock (R95). -/
def State.pickEngine (s : State) (n dir : Nat) (taken : List Nat) : Option Nat :=
  let ptr := if dir = 0 then (s.pipe n).igPtr else (s.pipe n).egPtr
  let ok (e : Nat) : Bool := !taken.contains e && !(s.freeNeedles e).isEmpty
  let p := 4 * n + 2 * dir + ptr
  let o := 4 * n + 2 * dir + 1 - ptr
  if ok p then some p else if ok o then some o else none

/-- A packet starts on the lowest free needle of engine `e`; the pointer then names the other engine (R95, R96). -/
def State.startOn (s : State) (e : Nat) (nd : Needle) : State :=
  let n := enginePipe e
  match s.freeNeedles e with
  | [] => s
  | i :: _ =>
    let s1 := s.setNeedle (e * 96 + i) (some nd)
    let p := s1.pipe n
    s1.setPipe n (if engineDir e = 0 then { p with igPtr := 1 - e % 2 } else { p with egPtr := 1 - e % 2 })

/-- An ingress packet starts on engine `e` (R95 to R98, R114, R120, R121). -/
def State.startIngress (s : State) (n e : Nat) (p : Pkt) : State :=
  let r := s.sampleStep n 0
  let s1 := r.2
  let oc := outerClass (s1.fld F.STE_OUTER_CFG_TPID_X n) p.bytes
  let len := p.bytes.length
  let vlen := min 256 len
  let set := s1.activeSet n 0
  let md := mdStart p.src p.pass len vlen oc s1.tag p.tsNs p.tsSec
  let nd := Needle.start p.id set (s1.entryPc n 0 set p.src) (p.bytes.take 256) vlen md (s1.budget n 0) r.1
    (s1.fld F.TIK_CLK_CLK 0) (s1.tikCount.toNat)
  let j : Job := ⟨p.id, p.src, p, none, s1.tag, s1.curMode, oc, false, 0, md, [], false, [], []⟩
  let s2 := s1.startOn e nd
  ((s2.setPipe n { s2.pipe n with ig := (s2.pipe n).ig ++ [j] }).steCount n 0).gauge! n 0x01 1

/-- Recirculation dispatches in the last 15 dispatch clocks and this one, from the pipeline's history (R94). -/
def recircSum (h : Nat) : Nat := ((List.range 16).map (fun i => bitsOf h (2 * i) 2)).sum

/-- The state with the frame at the head of dispatch taken out of the list of ready frames. -/
def State.takeReady (s : State) (n : Nat) (p : Pkt) : State :=
  let q := s.pipe n
  s.setPipe n { q with ready := removeFirst (fun x => x.id == p.id) q.ready, last := rotation p.src }

/-- A frame leaves dispatch with no packet made of it: its staging cells are free. -/
def State.dropStaged (s : State) (id : Nat) : State := { s with staged := SMap.set (fun _ => none) s.staged id none }

/-- One dispatch slot of a clock: the state, the engines that have taken a packet, and whether dispatch goes on (R93 to
R97). DESIGN CHOICE: frames behind a recirculated frame that RECIRC_MAX holds back wait with it (log entry 58). -/
def State.dispatchSlot (s : State) (n : Nat) (taken : List Nat) : State × List Nat × Bool :=
  match (s.pipe n).next with
  | none => (s, taken, false)
  | some p =>
    if p.src < 128 && s.effBit F.MAC_PORT_CFG_YARN p.src then
      let s1 := s.takeReady n p
      (s1.setPipe n { s1.pipe n with parser := (s1.pipe n).parser ++ [{ p with tag := s.tag, mode := s.curMode }] }, taken, true)
    else if 144 ≤ p.src && s.fld F.STE_DISP_CFG_RECIRC_LIMIT n < p.pass then
      (((s.takeReady n p).dropStaged p.id).steCount n 12, taken, true)
    else if 144 ≤ p.src && min 16 (max 1 (s.fld F.STE_DISP_CFG_RECIRC_MAX n)) ≤ recircSum (s.pipe n).recirc then
      (s, taken, false)
    else match s.pickEngine n 0 taken with
      | none => ((s.steCount n 11).gauge! n 0x0B 1, taken, false)
      | some e =>
        let s1 := (s.takeReady n p).startIngress n e p
        let q := s1.pipe n
        (s1.setPipe n { q with recirc := q.recirc + (if 144 ≤ p.src then 1 else 0) }, e :: taken, true)

/-- INGRESS_DISPATCH: a clock of ingress dispatch, up to two frames; one at throttle level 3, one in two clocks at level 4
(R93 to R97, Table 18-13). -/
def execIngressDispatch (n : Fin 16) (s : State) : Res :=
  let s0 := s.begin
  let level := s0.fld F.PWR_CAP_STS_LEVEL 0
  if s0.domOn n.val then
    let q := s0.pipe n.val
    let s1 := s0.setPipe n.val { q with recirc := q.recirc * 4 % 2 ^ 32, paced := false }
    if 4 ≤ level && q.paced then .next s1
    else
      let a := s1.dispatchSlot n.val []
      let t := if a.2.2 && level < 3 then (a.1.dispatchSlot n.val a.2.1).1 else a.1
      .next (t.setPipe n.val { t.pipe n.val with paced := a.2.2 && 4 ≤ level })
  else .next s0

/-- A copy in the device. -/
def State.copy (s : State) (id : Nat) : Option Copy := SMap.get (fun _ => none) s.copies id

/-- The state with a copy changed, or gone. -/
def State.setCopy (s : State) (id : Nat) (c : Option Copy) : State :=
  { s with copies := SMap.set (fun _ => none) s.copies id c }

/-- An egress packet starts on engine `e` (R100, R108, R118, R120, R121). -/
def State.startEgress (s : State) (n e id : Nat) (c : Copy) : State :=
  let r := s.sampleStep n 1
  let s1 := r.2
  let len := c.bytes.length
  let vlen := min 192 len
  let md := mdEgress c.md len vlen c.tag c.port c.tc
  let nd := Needle.start id c.egSet (s1.entryPc n 1 c.egSet c.port) (c.bytes.take vlen) vlen md c.egBudget r.1
    (s1.fld F.TIK_CLK_CLK 0) (s1.tikCount.toNat)
  let pk : Pkt := ⟨id, n, c.port, c.bytes, 0, 0, 0, false, 0, 0, 0, 0⟩
  let j : Job := ⟨id, c.port, pk, some id, c.tag, c.mode, 0, false, 0, md, [], false, [], []⟩
  let s2 := s1.startOn e nd
  ((s2.setPipe n { s2.pipe n with eg := (s2.pipe n).eg ++ [j] }).steCount n 8).gauge! n 0x02 1

/-- Responders' replies, timer frames and the frames of Chart take no egress program (R215, R225, R374). -/
def Copy.plain (c : Copy) : Bool := c.kind == .reply || c.kind == .chartTx

/-- A copy that takes no egress program goes to egress reorder as it is, behind the packets read before it (R108). -/
def State.passEgress (s : State) (n id : Nat) (c : Copy) : State :=
  let j : Job := ⟨id, c.port, ⟨id, n, c.port, c.bytes, 0, 0, 0, false, 0, 0, 0, 0⟩, some id, c.tag, c.mode, 0, true, 0, c.md,
    c.bytes.take (min 192 c.bytes.length), false, [], []⟩
  s.setPipe n { s.pipe n with eg := (s.pipe n).eg ++ [j] }

/-- EGRESS_DISPATCH: the next packet read from the Skein is handed to an egress engine, or passes it by (R108). -/
def execEgressDispatch (n : Fin 16) (s : State) : Res :=
  let s0 := s.begin
  match (s0.pipe n.val).egress with
  | [] => .next s0
  | id :: rest =>
    match s0.copy id with
    | none => .next (s0.setPipe n.val { s0.pipe n.val with egress := rest })
    | some c =>
      if c.plain then .next ((s0.setPipe n.val { s0.pipe n.val with egress := rest }).passEgress n.val id c)
      else match s0.pickEngine n.val 1 [] with
      | none => .next s0
      | some e => .next ((s0.setPipe n.val { s0.pipe n.val with egress := rest }).startEgress n.val e id c)

/-- The sample record of a needle (Table 17-4): END code `r`, residence, index of the last instruction, metadata. -/
def State.sampleRecord (s : State) (k : Nat) (nd : Needle) (r res endPc : Nat) (md : Bytes) : State :=
  let e := k / 96
  let mode := boolNat (r == 7)
  let a := enginePipe e + e % 4 * 16 + k % 96 * 64 + mode * 8192
  let body := leBytes 4 (nd.entry + endPc * 2 ^ 13 + r * 2 ^ 26) ++ leBytes 4 (min 2047 res + min 2047 nd.stall * 2 ^ 11) ++
    leBytes 4 (min 255 nd.lookups + min 255 nd.remote * 256 + beAt md 0 1 * 2 ^ 16 + (if engineDir e = 0 then 0 else beAt md 0x0E 1) * 2 ^ 24) ++
    leBytes 4 nd.dclk ++ leBytes 4 (beAt md 2 2 + min 2047 nd.maxLat * 2 ^ 16 + nd.maxSlot * 2 ^ 27) ++
    leBytes 4 (beAt md 0x11 3 + beAt md 0x14 1 * 2 ^ 24)
  s.sampleEnter (pipeDie (enginePipe e)) a body nd.dtick

/-- Metadata of an ingress packet whose program ended with reason `r`: as at program start, with OUTER and the reason
set (R99, R102, R148). -/
def Job.outerMd (j : Job) (r : Nat) : Bytes :=
  mdStart j.src j.pkt.pass j.pkt.bytes.length (min 256 j.pkt.bytes.length) j.oclass (j.tag + 4 + r * 8) j.pkt.tsNs j.pkt.tsSec

/-- The job as it stands once its program has ended with reason `r` (0: END). -/
def Job.end (j : Job) (r : Nat) (nd : Needle) : Job :=
  if r = 0 then { j with ended := true, md := nd.md, head := nd.win.take nd.vlen, twoStep := nd.twoStep, mirSeq := nd.mirSeq }
  else { j with ended := true, reason := r, md := (if j.copy.isNone then j.outerMd r else j.md), acls := [] }

/-- The program of needle `k` ends with reason `r` of Table 4-1, 0 for END; where it does not end by END the ACL answers collected
for it are discarded, counted in ACL_LATE (R203) (R96, R99, R101, R102, R109, R148). -/
def State.endNeedle (s : State) (k : Nat) (nd : Needle) (r res endPc : Nat) : State :=
  let e := k / 96
  let n := enginePipe e
  let p := s.pipe n
  let upd (l : List Job) : List Job := l.map (fun j => if j.id = nd.job then j.end r nd else j)
  let s1 := s.setPipe n { p with ig := upd p.ig, eg := upd p.eg }
  let s2 := s1.setNeedle k none
  let s3 := if nd.sample && s2.fld F.GGE_SMP_CFG_MODE n == 0 then
      s2.sampleRecord k nd r res endPc (if r = 0 then nd.md
        else ((p.ig ++ p.eg).find? (fun j => j.id == nd.job)).elim nd.md (fun j => (j.end r nd).md)) else s2
  let s4 := if r = 0 then s3 else s3.gauge! n 0x0A 1 (some (r - 1))
  let lost := if r = 0 then 0 else ((p.ig.filter (fun j => j.id == nd.job)).map (fun j => j.acls.length)).sum
  if engineDir e = 0 then (s4.bump .ACT_CNT (n * 25 + 24) lost).steCount n (if r = 0 then 1 else r + 1)
  else if r = 0 then s4 else s4.steCount n 9

/-- OLD_BUSY and SWITCHED of a direction (R116, R118). -/
def oldBusyFld (dir : Nat) : Fld := if dir = 0 then F.STE_IMG_STS_IG_OLD_BUSY else F.STE_IMG_STS_EG_OLD_BUSY
def switchedFld (dir : Nat) : Fld := if dir = 0 then F.STE_IMG_STS_IG_SWITCHED else F.STE_IMG_STS_EG_SWITCHED

/-- Some needle of a direction of pipeline `n` runs under entry set `set`. -/
def State.setRunning (s : State) (n dir set : Nat) : Bool :=
  s.needles.any (fun e => e.1 / 96 / 4 == n && engineDir (e.1 / 96) == dir && (match e.2 with
    | some nd => nd.set == set
    | none => false))

/-- A status bit of STE_IMG_STS is set, an event of interrupt source 4 (R327, Table 13-12). -/
def State.imageEvent (s : State) (f : Fld) (n : Nat) : State := (s.setFld f n 1).interrupt 4

/-- A write to a program store or an entry set is refused (R116). -/
def State.imageRefused (s : State) (n dir : Nat) (r : ImageReg) : Bool :=
  let act := s.activeSet n dir
  let busy := s.bit (oldBusyFld dir) n
  let pages (set : Nat) : Nat := s.fld F.STE_PAGES_PAGES ((n * 2 + dir) * 2 + set)
  match r with
  | .word i => bitOf (pages act) (i.val / 1024) || (busy && bitOf (pages (1 - act)) (i.val / 1024))
  | .entry t _ | .srcMap t | .pages t => t.val == act || busy

/-- The register and instance that an image write names. -/
def imageTarget (n dir : Nat) : ImageReg → Reg × Nat
  | .word i => (.STE_STORE, (n * 2 + dir) * 8192 + i.val)
  | .entry t i => (.STE_ENTRY, ((n * 2 + dir) * 2 + t.val) * 16 + i.val)
  | .srcMap t => (.STE_SRC_MAP, (n * 2 + dir) * 2 + t.val)
  | .pages t => (.STE_PAGES, (n * 2 + dir) * 2 + t.val)

/-- The index recorded for a refused write: the instruction's, 0 for a register (Table 4-8). -/
def imageIndex : ImageReg → Nat
  | .word i => i.val
  | _ => 0

/-- A write to a program store or an entry set: stored, or refused with its place recorded (R113, R116). -/
def State.writeImage (s : State) (n dir : Nat) (r : ImageReg) (mask v : BitVec 64) : State :=
  if s.imageRefused n dir r then
    ((s.imageEvent F.STE_IMG_STS_WR_REFUSED n).setFld F.STE_IMG_STS_REF_INDEX n (imageIndex r)).setFld F.STE_IMG_STS_REF_DIR n dir
  else s.plainWrite (imageTarget n dir r).1 (imageTarget n dir r).2 mask v

/-- PROGRAM_STORE_WRITE (R116). -/
def execProgramStoreWrite (a : Agent) (n : Fin 16) (eg : Bool) (r : ImageReg) (v : BitVec 64) (s : State) : Res :=
  let t := imageTarget n.val (boolNat eg) r
  .next (s.begin.writeBy a t.1 t.2 (fun u => u.writeImage n.val (boolNat eg) r (if t.1.width = 64 then all64 else low32) v))

/-- The bits of STE_IMG for a direction: NEXT, ARM. -/
def imgNext (dir : Nat) : Fld := if dir = 0 then F.STE_IMG_IG_NEXT else F.STE_IMG_EG_NEXT
def imgArm (dir : Nat) : Fld := if dir = 0 then F.STE_IMG_IG_ARM else F.STE_IMG_EG_ARM
def imgActive (dir : Nat) : Fld := if dir = 0 then F.STE_IMG_IG_ACTIVE else F.STE_IMG_EG_ACTIVE

/-- The pending switch of a direction: set, IMM, AT, and the count at which it was armed. -/
def State.arm (s : State) (n dir : Nat) : Option (Nat × Bool × Nat × Nat) := ((s.pipe n).arms.getD dir none)

/-- The state with the pending switch of a direction changed. -/
def State.setArm (s : State) (n dir : Nat) (v : Option (Nat × Bool × Nat × Nat)) : State :=
  let p := s.pipe n
  s.setPipe n { p with arms := modifyAt p.arms dir (fun _ => v) }

/-- A write of STE_IMG for one direction, the value the register would hold being `w` (R117). -/
def State.armDir (s : State) (n dir : Nat) (w : BitVec 64) : State :=
  let b := if dir = 0 then 1 else 9
  let next := getField w b 1
  let arm := w.getLsbD (b + 1)
  if arm then
    if (s.arm n dir).isSome then s
    else if s.bit (oldBusyFld dir) n || next == s.activeSet n dir then s.imageEvent F.STE_IMG_STS_ARM_REFUSED n
    else
      let imm := w.getLsbD 16
      ((s.setFld (imgNext dir) n next).setFld (imgArm dir) n 1).setArm n dir
        (some (next, imm, s.fld F.STE_IMG_AT_AT n, s.tikCount.toNat))
  else (((s.setFld (imgNext dir) n next).setFld (imgArm dir) n 0).setArm n dir none)

/-- A write of STE_IMG (R117). -/
def State.writeImg (s : State) (n : Nat) (mask v : BitVec 64) : State :=
  let w := (s.reg .STE_IMG n &&& ~~~ mask) ||| (v &&& mask)
  ((s.armDir n 0 w).armDir n 1 w).setFld F.STE_IMG_IMM n (getField w 16 1)

/-- IMAGE_ARM (R117). -/
def execImageArm (a : Agent) (n : Fin 16) (v : BitVec 32) (s : State) : Res :=
  .next (s.begin.writeBy a .STE_IMG n.val (fun t => t.writeImg n.val low32 (v.setWidth 64)))

/-- The armed switch of a direction is due at this edge, an edge later than its arming (R42, R117). -/
def State.switchDue (s : State) (n dir : Nat) : Option Nat :=
  match s.arm n dir with
  | some (set, imm, at', armed) =>
    if !s.atEdge || s.tikCount.toNat = armed then none
    else if imm then some set
    else if s.tikCount.toNat % 2 ^ 32 = at' then some set else none
  | none => none

/-- IMAGE_SWITCH (R117, R118). -/
def execImageSwitch (n : Fin 16) (eg : Bool) (s : State) : Res :=
  let s0 := s.begin
  let dir := boolNat eg
  match s0.switchDue n.val dir with
  | none => .next s0
  | some set =>
    let old := s0.activeSet n.val dir
    let s1 := (((s0.setArm n.val dir none).setFld (imgArm dir) n.val 0).setFld (imgActive dir) n.val set).imageEvent
      (switchedFld dir) n.val
    .next (if s0.setRunning n.val dir old then s1.setFld (oldBusyFld dir) n.val 1 else s1)

/-- OLD_SET_DRAINED: the last needle under the old set has ended (R118). -/
def execOldSetDrained (n : Fin 16) (eg : Bool) (s : State) : Res :=
  let s0 := s.begin
  let dir := boolNat eg
  if s0.setRunning n.val dir (1 - s0.activeSet n.val dir) then .next s0
  else .next (s0.setFld (oldBusyFld dir) n.val 0)

end Sys2Proof.Machine
end

