-- ==== Sys2Proof/Machine/Buffers.lean ====
section
/-! DEFINITION. The buffer pool manager and the Skein (spec/09): accounts, claims, groups and pause, linking, release of
cells, and spill to HBM. -/

namespace Sys2Proof.Machine

/-- The die and local port of a port (Table 9-1). -/
def localPort (p : Nat) : Nat × Nat :=
  if p < 128 then (p / 64, p % 64) else if 144 ≤ p then ((p - 144) / 8, 64 + (p - 144) % 8)
  else if p = 130 then (0, 72) else (0, 73 + (p - 128))

/-- The port of a local port of a die (Table 9-1). -/
def globalPort (d lp : Nat) : Nat :=
  if lp < 64 then 64 * d + lp else if lp < 72 then 144 + 8 * d + (lp - 64) else if lp = 72 then 130 else 128 + (lp - 73)

/-- Port queue `i` of a local port (Table 9-1). -/
def portQueue (lp i : Nat) : Nat := 32768 + 16 * lp + i

/-- Cells of a copy of `len` bytes (R230). -/
def cellsOf (len : Nat) : Nat := max 1 ((len + 255) / 256)

/-- The queue with key die × 65,536 + number. -/
def State.queue (s : State) (k : Nat) : QSt := SMap.get (fun _ => QSt.empty) s.queues k

/-- The state with a queue changed. -/
def State.setQueue (s : State) (k : Nat) (q : QSt) : State :=
  { s with queues := SMap.set (fun _ => QSt.empty) s.queues k q }

/-- The buffers of die `d`. -/
def State.buf (s : State) (d : Nat) : BufSt := SMap.get (fun _ => BufSt.idle) s.bufs d

/-- The state with the buffers of die `d` changed. -/
def State.setBuf (s : State) (d : Nat) (b : BufSt) : State := { s with bufs := SMap.set (fun _ => BufSt.idle) s.bufs d b }

/-- Counters of the BPM, the Skein, the scheduler and a port. -/
def State.bpmCount (s : State) (d i n : Nat) : State := s.bump .BPM_CNT (d * 6 + i) n
def State.sknCount (s : State) (d i n : Nat) : State := s.bump .SKN_CNT (d * 11 + i) n
def State.schCount (s : State) (d i n : Nat) : State := s.bump .SCH_CNT (d * 10 + i) n
def State.macCount (s : State) (p i n : Nat) : State := s.bump .MAC_CNT (p * 16 + i) n

/-- The key of a copy's queue. -/
def Copy.key (c : Copy) : Nat := c.die * 65536 + c.queue

/-- The profile of a queue, and its reserve MIN (R234). -/
def State.qprof (s : State) (k : Nat) : Nat :=
  k / 65536 * 16 + s.fld F.SKN_Q_QPROF (k / 65536 * 34048 + k % 65536)
def State.qmin (s : State) (k : Nat) : Nat := s.fld F.BPM_QPROF_MIN (s.qprof k)

/-- Skein quarter `h` of die `d` is in allocation: its domain is ON (R235). -/
def State.quarterOn (s : State) (d h : Nat) : Bool := s.domState (44 + 2 * d + h) == 3

/-- TOTAL: the cells of the die's powered quarters (R235). -/
def State.total (s : State) (d : Nat) : Nat :=
  131072 * (boolNat (s.quarterOn d 0) + boolNat (s.quarterOn d 1))

/-- The queues of a die whose profile is not the reset one: each with its profile and its reset profile. -/
def State.profiled (s : State) (d : Nat) : List (Nat × Nat) :=
  s.regs.filterMap (fun e =>
    if e.1 % 256 = Reg.SKN_Q.code ∧ e.1 / 256 / 34048 = d
    then some (getField e.2 0 4, if e.1 / 256 % 34048 < 32768 then 1 else 0) else none)

/-- RESERVED: the reserves of all accounts of the die, and HR (R235). -/
def State.reserved (s : State) (d : Nat) : Nat :=
  let m (k : Nat) : Int := s.fld F.BPM_QPROF_MIN (d * 16 + k)
  let base : Int := 32768 * m 1 + (if d = 0 then 750 else 720) * m 0
  (base + ((s.profiled d).map (fun e => m e.1 - m e.2)).sum).toNat + s.fld F.BPM_SYS_MIN (2 * d) + s.fld F.BPM_SYS_MIN (2 * d + 1) +
    s.fld F.BPM_POOL_CFG_HR d

/-- The queues of die `d` with their keys. -/
def State.dieQueues (s : State) (d : Nat) : List (Nat × QSt) := s.queues.filter (fun e => e.1 / 65536 == d)

/-- Cells that an account takes from the common remainder: those charged to it there, and what it holds of its reserve
beyond a MIN that has been lowered since (log entry 55). -/
def sharedUse (used hr sh mn : Nat) : Nat := sh + (used - hr - sh - mn)

/-- FREE_S: free cells of the common remainder (R235, R237). -/
def State.freeS (s : State) (d : Nat) : Nat :=
  let b := s.buf d
  s.total d - s.reserved d - (((s.dieQueues d).map (fun e => sharedUse e.2.used e.2.hr e.2.sh (s.qmin e.1))).sum +
    sharedUse b.hostTx 0 b.hostSh (s.fld F.BPM_SYS_MIN (2 * d)) + sharedUse b.chart 0 b.chartSh (s.fld F.BPM_SYS_MIN (2 * d + 1)))

/-- FREE_H: free headroom cells (R237). -/
def State.freeH (s : State) (d : Nat) : Nat :=
  s.fld F.BPM_POOL_CFG_HR d - ((s.dieQueues d).map (fun e => e.2.hr)).sum

/-- A number moved by an integer, at least 0. -/
def moveBy (a : Nat) (d : Int) : Nat := ((a : Int) + d).toNat

/-- The account of a copy changes by `dn` cells, `dh` of them headroom and `ds` of the common remainder (R234). -/
def State.account (s : State) (c : Copy) (dn dh ds : Int) : State :=
  let q := s.queue c.key
  let b := s.buf c.die
  match c.kind with
  | .hostTx => (s.setQueue c.key { q with other := moveBy q.other dn }).setBuf c.die
      { b with hostTx := moveBy b.hostTx dn, hostSh := moveBy b.hostSh ds }
  | .chartTx => (s.setQueue c.key { q with other := moveBy q.other dn }).setBuf c.die
      { b with chart := moveBy b.chart dn, chartSh := moveBy b.chartSh ds }
  | _ => s.setQueue c.key { q with used := moveBy q.used dn, hr := moveBy q.hr dh, sh := moveBy q.sh ds }

/-- Of `n` cells that a copy gives back before its others: those of headroom first, then those of the common remainder, its
reserve last (the rules name no order: log entry 55). -/
def Copy.gives (c : Copy) (n : Nat) : Nat × Nat := (min n c.hr, min (n - min n c.hr) c.sh)

/-- The group that stands for (port, TC): with FC 1 the port's eight groups act as one, of TC 0 (R239). -/
def State.groupTc (s : State) (p tc : Nat) : Nat := if s.flowCtl p = 1 then 0 else tc

/-- Cells of a group (R239). -/
def State.groupCount (s : State) (p tc : Nat) : Nat :=
  if s.flowCtl p = 1 then ((List.range 8).map (fun t => SMap.get (fun _ => 0) s.groups (p * 8 + t))).sum
  else SMap.get (fun _ => 0) s.groups (p * 8 + tc)

/-- The levels W1, W2 and W3 of a port's groups (R240). -/
def State.levels (s : State) (p : Nat) : Nat × Nat × Nat :=
  let k := p / 64 * 8 + s.fld F.BPM_PORT_PGPROF p
  let w2 := s.fld F.BPM_PGPROF_W2 k
  (min (s.fld F.BPM_PGPROF_W1 k) (w2 - 1), w2, max (s.fld F.BPM_PGPROF_W3 k) w2)

/-- A group is lossless (R240). -/
def State.lossless (s : State) (p tc : Nat) : Bool :=
  match s.flowCtl p with
  | 1 => bitOf (s.fld F.BPM_PORT_LOSSLESS p) 0
  | 2 => bitOf (s.fld F.BPM_PORT_LOSSLESS p) tc
  | _ => false

/-- A pause or PFC frame waits for the next frame boundary of a port (R67, R241). -/
def State.sendCtrl (s : State) (p cls : Nat) (off : Bool) : State :=
  s.setPort p { s.port p with ctrl := (s.port p).ctrl ++ [(cls, off)] }

/-- The class that a pause frame of a group names: 8 for the whole port (R65). -/
def State.ctrlClass (s : State) (p tc : Nat) : Nat := if s.flowCtl p = 1 then 8 else tc

/-- A group enters or leaves XOFF as its count stands (R241). -/
def State.fixGroup (s : State) (p tc0 : Nat) : State :=
  let tc := s.groupTc p tc0
  let k := p * 8 + tc
  let w := s.levels p
  let n := s.groupCount p tc
  if s.lossless p tc then
    if s.xoff.contains k then
      if n ≤ w.1 then ({ s with xoff := s.xoff.filter (· != k) }).sendCtrl p (s.ctrlClass p tc) false else s
    else if w.2.1 < n then
      (({ s with xoff := s.xoff ++ [k] }).bpmCount (p / 64) 5 1).sendCtrl p (s.ctrlClass p tc) true
    else s
  else { s with xoff := s.xoff.filter (· != k) }

/-- The cells of a copy's ingress group change (R239). -/
def State.groupMove (s : State) (g : Option (Nat × Nat)) (dn : Int) : State :=
  match g with
  | none => s
  | some (p, tc) =>
    let k := p * 8 + tc
    ({ s with groups := SMap.set (fun _ => 0) s.groups k (moveBy (SMap.get (fun _ => 0) s.groups k) dn) }).fixGroup p tc

/-- Cells of bank groups are given back; codes above 15 are no Skein cells. -/
def State.freeBanks (s : State) (d : Nat) (l : List Nat) : State :=
  let b := s.buf d
  s.setBuf d { b with banks := (l.filter (· < 16)).foldl (fun m g => modifyAt m g (· - 1)) b.banks }

/-- A copy leaves ingress staging: written, or dropped (R92). -/
def State.unstage (s : State) (id : Nat) (c : Copy) : State :=
  match c.stage with
  | some f => (s.leaveStaging f).setCopy id (some { c with stage := none })
  | none => s

/-- The PKT_TX frame of a copy ends with a status: it is counted, and has its
completion when one is wanted or it failed (R344, R348). -/
def State.txDone (s : State) (c : Copy) (status : Nat) : State :=
  match c.tx with
  | none => s
  | some (g, last, _, want) =>
    (if status = 0 then (s.bump .DMA_CNT 0 1).bump .DMA_CNT 1 c.bytes.length else s.bump .DMA_CNT 2 1).finishEntries g last (if want || status != 0
      then some (cmplEntry (last + s.localSq g * 65536 + 2 ^ 28) (c.bytes.length + status * 2 ^ 20) 0 0) else none)

/-- The on-chip cells of a queue, claims included: SKN_Q.CELLS (Table 9-9). -/
def QSt.cells (q : QSt) : Nat := q.used + q.other

/-- Cells of the copies of a chain. -/
def State.chainCells (s : State) (l : List Nat) : Nat :=
  (l.map (fun id => (s.copy id).elim 0 (fun c => c.cells.length))).sum

/-- T: the tail cells of a spilled queue (R244). -/
def State.tailCells (s : State) (q : QSt) : Nat :=
  match q.spill with
  | some p => if p.dead then 0 else s.chainCells q.chain - p.head - p.mid
  | none => 0

/-- F: cells claimed for fetches in flight (R244). -/
def Spill.flight (p : Spill) : Nat := (p.fetches.map (fun f => f.cells)).sum

/-- The spill profile of a queue: SPILL_HI, HEAD_LO, HEAD_HI, TAIL_MAX, HBM_MAX as they are handled (R244). -/
def State.sprof (s : State) (k : Nat) : Nat × Nat × Nat × Nat × Nat :=
  let i := k / 65536 * 16 + s.fld F.SKN_Q_SPROF (k / 65536 * 34048 + k % 65536)
  let lo := max 64 (s.fld F.SKN_SPILL_PROF_A_HEAD_LO i)
  (s.fld F.SKN_SPILL_PROF_A_SPILL_HI i, lo, max (lo + 64) (s.fld F.SKN_SPILL_PROF_A_HEAD_HI i),
    s.fld F.SKN_SPILL_PROF_B_TAIL_MAX i, s.fld F.SKN_SPILL_PROF_B_HBM_MAX i)

/-- The HBM stacks of die `d` whose pages are in allocation: powered and not FAILED (R243, R299). -/
def State.stacks (s : State) (d : Nat) : List Nat :=
  [2 * d, 2 * d + 1].filter (fun h => s.domState (32 + h) == 3 && s.fld F.HBC_STS_STATE h != 2)

/-- Spill of die `d` is paused: a controller of it is in a step other than IDLE (R246, R298). -/
def State.spillPaused (s : State) (d : Nat) : Bool := [2 * d, 2 * d + 1].any (fun h => s.fld F.HBC_STS_STEP h != 0)

/-- The pages of a spilled queue with an access outstanding: those of its move and of its granted fetch batches, counted
from the start of the first page. -/
def Spill.accessed (p : Spill) : List Nat :=
  let fl := ((p.fetches.filter (fun f => f.granted)).map (fun f => f.cells)).sum
  let hit (a n i : Nat) : Bool := n != 0 && a / 1024 ≤ i && i ≤ (a + n - 1) / 1024
  (p.pages.zipIdx.filter (fun e => hit p.first fl e.2 || hit (p.first + p.mid) p.move e.2)).map (fun e => e.1)

/-- The HBM pages that queues of die `d` hold, stack × 98,304 + page; a flushed queue's are back on the free list (R248). -/
def State.pagesHeld (s : State) (d : Nat) : List Nat :=
  (s.dieQueues d).flatMap (fun e => e.2.spill.elim [] (fun p => if p.dead then [] else p.pages))

/-- The pages that may not be allocated: those held, and those freed with an access outstanding (R295). -/
def State.pagesBusy (s : State) (d : Nat) : List Nat :=
  (s.dieQueues d).flatMap (fun e => e.2.spill.elim [] (fun p => if p.dead then p.accessed else p.pages))

/-- PAGES_FREE of die `d` (Table 9-8). -/
def State.pagesFree (s : State) (d : Nat) : Nat :=
  let st := s.stacks d
  98304 * st.length - ((s.pagesHeld d).filter (fun p => st.contains (p / 98304))).length

/-- The lowest free page of a stack. -/
def State.pageIn (s : State) (d h : Nat) (taken : List Nat) : Option Nat :=
  let l := s.pagesBusy d ++ taken
  ((List.range (min 98304 (l.length + 1))).map (h * 98304 + ·)).find? (fun p => !l.contains p)

/-- The next page of a queue: of the stack after the one of its last page, where that has one (R243). -/
def State.nextPage (s : State) (d : Nat) (pages : List Nat) : Option Nat :=
  let st := s.stacks d
  let pref := match pages.getLast? with
    | some p => st.filter (· != p / 98304) ++ st.filter (· == p / 98304)
    | none => st
  pref.findSome? (fun h => s.pageIn d h pages)

/-- Pages are added to a queue's until they hold `n` cells; none where too few are free. -/
def State.growPages (s : State) (d n : Nat) (pages : List Nat) : Nat → Option (List Nat)
  | 0 => if n ≤ pages.length * 1024 then some pages else none
  | f + 1 =>
    if n ≤ pages.length * 1024 then some pages
    else (s.nextPage d pages).bind (fun p => s.growPages d n (pages ++ [p]) f)

/-- Contexts of die `d` in use. -/
def State.ctxHeld (s : State) (d : Nat) : List Nat := (s.dieQueues d).filterMap (fun e => e.2.spill.map (fun p => p.ctx))

/-- The lowest free spill context of die `d`. -/
def State.freeCtx (s : State) (d : Nat) : Option Nat :=
  (List.range (min 4096 ((s.ctxHeld d).length + 1))).find? (fun x => !(s.ctxHeld d).contains x)

/-- S0: a linking has brought the queue above SPILL_HI: it takes a context and a page, or the want of them is counted
(Table 9-4). The on-chip cells are those of SKN_Q.CELLS, claims included (log entry 55). -/
def State.spillStart (s : State) (k : Nat) : State :=
  let d := k / 65536
  let q := s.queue k
  let pr := s.sprof k
  let n := s.chainCells q.chain
  if q.spill.isSome || q.cells ≤ pr.1 || !s.bit F.SKN_Q_SPILL_EN (d * 34048 + k % 65536) || !s.bit F.SKN_SPILL_CFG_EN d ||
    s.spillPaused d then s
  else match s.freeCtx d, s.nextPage d [] with
    | some x, some p =>
      (s.setQueue k { q with spill := some ⟨x, min n pr.2.2.1, 0, false, 0, [], [p], 0, false⟩ }).sknCount d 5 1
    | _, _ => (s.sknCount d 6 1).fault 14 3 d

/-- Copies join the tail of their queue's chain (R232, Table 9-4 S3). -/
def State.linkTo (s : State) (k : Nat) (ids : List Nat) : State :=
  let s1 := s.each ids (fun t id => match t.copy id with
    | some c => t.setCopy id (some { c with linked := true })
    | none => t)
  let q := s1.queue k
  ((s1.setQueue k { q with chain := q.chain ++ ids }).sknCount (k / 65536) 0 ids.length).spillStart k

/-- A cut-through copy of queue `k` that has been linked is still being written (R232). -/
def State.cutOpen (s : State) (k : Nat) : Bool :=
  s.copies.any (fun e => e.2.elim false (fun c => c.key == k && c.cut && c.linked && !c.done))

/-- The copies that waited behind a cut-through copy of queue `k` are linked (R232). -/
def State.linkWaiting (s : State) (k : Nat) : State :=
  (s.setQueue k { s.queue k with wait := [] }).linkTo k (s.queue k).wait

/-- A copy is gone: its cells leave their accounts, its group and their bank groups (R233, R239); the copies that wait behind
one that was cut through are linked when it is gone before its last cell was written (R232). -/
def State.release (s : State) (id : Nat) (c : Copy) : State :=
  let s1 := (s.account c (-c.need) (-c.hr) (-c.sh)).groupMove c.group (-c.need)
  let s2 := s1.setQueue c.key { s1.queue c.key with
    used := (s1.queue c.key).used - c.fetched
    sh := (s1.queue c.key).sh - c.fsh }
  let s3 := (s2.freeBanks c.die c.cells).setCopy id none
  let s4 := if c.cut && c.linked && !c.done && !s3.cutOpen c.key then s3.linkWaiting c.key else s3
  match c.stage with
  | some f => s4.leaveStaging f
  | none => s4

/-- The port of a copy refuses admission: the MAC counter of R73 that counts it. -/
def State.refusedBy (s : State) (p : Nat) : Option Nat :=
  if p < 130 then
    match s.portState p with
    | 3 => some 12
    | 2 | 4 => none
    | _ => some 13
  else none

/-- A dropped copy of a die is also counted against the stacks that are changing speed (R246). -/
def State.dropSpeed (s : State) (d : Nat) : State :=
  s.each ([2 * d, 2 * d + 1].filter (fun h => s.bit F.HBC_STS_BUSY h)) (fun t h => t.bump .HBC_CNT (h * 9 + 7) 1)

/-- A claim is dropped at admission: 1 EMPTY, 2 LIMIT, 3 HEADROOM (R237). -/
def State.dropClaim (s : State) (d id : Nat) (c : Copy) (why : Nat) : State :=
  let s1 := ((((s.bpmCount d why 1).dropSpeed d).gauge! (16 + d) 0x45 1 (some (why - 1))).release id c)
  if why = 3 then s1.fault 13 1 d c.port else s1

/-- Cells that a copy's claim asks for: by its length when its frame has arrived, by MAXLEN of its ingress port otherwise
(R236). -/
def State.claimCells (s : State) (c : Copy) : Nat :=
  if c.arriving then cellsOf (s.maxLen (beAt c.md 0 1) - 4) else cellsOf c.bytes.length

/-- The answer to a claim (R237). -/
inductive ClaimVerdict where
  | grant (n r s hr : Nat) | retry | drop (why : Nat) | refuse (mac : Nat)
  deriving DecidableEq, Repr

/-- The claim of a copy is decided, with FREE_S at the start of the clock, and FREE_S and FREE_H now (R237, R73). -/
def State.decideCopy (s : State) (c : Copy) (free0 : Nat) : ClaimVerdict :=
  let d := c.die
  let fs := s.freeS d
  match s.refusedBy c.port with
  | some m => .refuse m
  | none =>
    let n := s.claimCells c
    match c.kind with
    | .hostTx | .chartTx =>
      let k := 2 * d + boolNat (c.kind == .chartTx)
      let used := if c.kind == .chartTx then (s.buf d).chart else (s.buf d).hostTx
      let mn := s.fld F.BPM_SYS_MIN k
      let r := min n (mn - used)
      if max mn (s.fld F.BPM_SYS_MAX k) < used + n || fs < n - r then .retry else .grant n r (n - r) 0
    | _ =>
      let q := s.queue c.key
      let mn := s.qmin c.key
      let r := min n (mn - q.used)
      let sh := n - r
      let ll := match c.group with
        | some (p, tc) => if s.lossless p (s.groupTc p tc) then some (s.groupCount p tc, s.levels p) else none
        | none => none
      match ll with
      | some (cnt, w) =>
        if w.2.2 < cnt + n then .drop 3
        else if w.2.1 ≤ cnt || fs < sh then
          (if s.freeH d < sh then .drop 3 else .grant n r 0 sh)
        else .grant n r sh 0
      | none =>
        let a := match c.colour with
          | 0 => s.fld F.BPM_QPROF_A_G (s.qprof c.key)
          | 1 => s.fld F.BPM_QPROF_A_Y (s.qprof c.key)
          | _ => s.fld F.BPM_QPROF_A_R (s.qprof c.key)
        if sh ≠ 0 && a * free0 < 16 * (q.used - mn + sh) then .drop 2
        else if fs < sh then .drop 1
        else .grant n r sh 0

/-- The FIFO of a crossbar input. -/
def BufSt.fifo (b : BufSt) (i f : Nat) : XFifo := SMap.get (fun _ => ⟨[], []⟩) b.fifos (i * 16 + f)

/-- The buffers with a FIFO changed. -/
def BufSt.setFifo (b : BufSt) (i f : Nat) (x : XFifo) : BufSt :=
  { b with fifos := SMap.set (fun _ => ⟨[], []⟩) b.fifos (i * 16 + f) x }

/-- The target of the next cell of a queue: the first bank group from its stripe pointer on that is in allocation and has
a free cell (R254). -/
def State.target (s : State) (d stripe : Nat) : Option Nat :=
  ((List.range 16).map (fun i => (stripe + i) % 16)).find? (fun g =>
    s.quarterOn d (g / 8) && (s.buf d).banks.getD g 0 < 16384)

/-- A cell of queue `k` takes a bank group: held for it, and the stripe pointer moves past it (R254). -/
def State.takeBank (s : State) (k : Nat) : Option (Nat × State) :=
  let d := k / 65536
  (s.target d (s.queue k).stripe).map (fun g =>
    (g, (s.setBuf d { s.buf d with banks := modifyAt (s.buf d).banks g (· + 1) }).setQueue k
      { s.queue k with stripe := (g + 1) % 16 }))

/-- The queue that the cells of an entry of a FIFO of input `i` are for: an entry is a copy, that of X14 a queue's key. -/
def State.fifoKey (s : State) (i id : Nat) : Option Nat := if i = 14 then some id else (s.copy id).map Copy.key

/-- The next cell of a FIFO's copy is one of a frame that is cut through and still arrives (R254). -/
def State.cutCell (s : State) (i id : Nat) : Bool := i != 14 && (s.copy id).elim false (fun c => c.cut && c.arriving)

/-- A FIFO offers its first two unsent cells (R254): up to `n` more are offered. Whether the next cell of a frame that is
cut through has arrived from the MAC is a free value, since no command says when a cell of it arrives (log entry 32). -/
def State.offer (s : State) (d i f : Nat) : Nat → State
  | 0 => s
  | n + 1 =>
    let x := (s.buf d).fifo i f
    match x.copies with
    | [] => s
    | (id, left) :: r =>
      if 2 ≤ x.offer.length then s
      else match s.fifoKey i id with
        | none => (s.setBuf d ((s.buf d).setFifo i f { x with copies := r })).offer d i f n
        | some k =>
          let s0 := if s.cutCell i id then s.drawn else s
          if s.cutCell i id && s.free.toNat % 2 = 0 then s0
          else match s0.takeBank k with
          | none => s0
          | some (g, s1) =>
            (s1.setBuf d ((s1.buf d).setFifo i f ⟨if left ≤ 1 then r else (id, left - 1) :: r, x.offer ++ [(id, g)]⟩)).offer d i f n

/-- Every FIFO of a die offers what it can, in ascending order of input and FIFO. -/
def State.offerAll (s : State) (d : Nat) : State :=
  s.each ((s.buf d).fifos.map (fun e => e.1)) (fun t k => t.offer d (k / 16) (k % 16) 3)

/-- A copy's claim is granted: charged, counted, and in the FIFO of its crossbar input (R237, R239, R254). -/
def State.accept (s : State) (id : Nat) (c : Copy) (n sh hr : Nat) : State :=
  let s1 := ((s.account c n hr sh).groupMove c.group n).bpmCount c.die 0 1
  let s2 := s1.setCopy id (some { c with need := n, hr := hr, sh := sh })
  let x := (s2.buf c.die).fifo c.req c.fifo
  s2.setBuf c.die ((s2.buf c.die).setFifo c.req c.fifo { x with copies := x.copies ++ [(id, cellsOf c.bytes.length)] })

/-- Where a cell of stack `h` lies: its pseudo-channel group, its bank, and its row and column there as one number (R293). -/
def State.cellPlace (s : State) (h n : Nat) : Nat × Nat × Nat × Nat :=
  let nb := s.fld F.HBC_GEOM_BANKS h
  (h, n % 8, n / 8 % nb, n / 8 / nb)

/-- The controllers access `n` cells of a batch, from place `at` of the pages on (R293, R294). -/
def State.accessCells (s : State) (wr : Bool) (pages : List Nat) (at_ n : Nat) : State :=
  s.emit (.hbmCells wr ((List.range n).map (fun i =>
    let pg := pages.getD ((at_ + i) / 1024) 0
    s.cellPlace (pg / 98304) (pg % 98304 * 1024 + (at_ + i) % 1024))))

/-- A spilled queue's first fetch batch whose claim waits. -/
def Spill.waiting (p : Spill) : Nat := ((p.fetches.filter (fun f => !f.granted)).map (fun f => f.cells)).headD 0

/-- A frame of a Chart program has been admitted, or dropped: counted; XMIT ends once none of the program's frames waits
(R374). -/
def State.chartFrame (s : State) (c : Copy) (granted : Bool) : State :=
  match c.chart with
  | none => s
  | some k =>
    let s1 := s.bump .CHT_CNT (if granted then 6 else 7) 1
    let left := s1.copies.any (fun e => e.2.elim false (fun x => x.chart == some k && x.need == 0))
    if !left && (s1.ctx k).elim false (fun x => x.wait == CWait.xmit) then s1.chartDone k else s1

/-- One claim is decided: the state, whether it stays for the next clock, and whether it took cells of the remainder or of
headroom (R237, R238). -/
def State.decideClaim (s : State) (d : Nat) (cl : Claim) (free0 : Nat) : State × Bool × Bool :=
  match cl with
  | .copy id =>
    match s.copy id with
    | none => (s, false, false)
    | some c =>
      match s.decideCopy c free0 with
      | .grant n _ sh hr => ((s.accept id c n sh hr).chartFrame c true, false, sh + hr != 0)
      | .retry => (s.bpmCount d 4 1, true, false)
      | .drop w => (s.dropClaim d id c w, false, false)
      | .refuse m => ((((s.macCount c.port m 1).txDone c 7).release id c).chartFrame c false, false, false)
  | .fetch q =>
    let k := d * 65536 + q
    let qs := s.queue k
    match qs.spill with
    | none => (s, false, false)
    | some p =>
      let n := p.waiting
      let sh := n - min n (s.qmin k - qs.used)
      if s.freeS d < sh then (s.bpmCount d 4 1, true, false)
      else
        let upd (l : List Fetch) : List Fetch := match l.findIdx? (fun f => !f.granted) with
          | some i => modifyAt l i (fun f => { f with granted := true, sh := sh })
          | none => l
        let s1 := s.setQueue k { qs with used := qs.used + n, sh := qs.sh + sh, spill := some { p with fetches := upd p.fetches } }
        let x := (s1.buf d).fifo 14 0
        let flown := ((p.fetches.filter (fun f => f.granted)).map (fun f => f.cells)).sum
        ((s1.setBuf d ((s1.buf d).setFifo 14 0 { x with copies := x.copies ++ [(k, n)] })).accessCells false p.pages (p.first + flown) n,
          false, sh != 0)

/-- The claims of one clock, in ring order from the pointer: the requesters are given (R238). -/
def State.claimRound (s : State) (d free0 : Nat) : List Nat → State
  | [] => s
  | r :: rest =>
    match (s.buf d).claims.find? (fun e => e.1 == r) with
    | none => s.claimRound d free0 rest
    | some e =>
      let a := s.decideClaim d e.2 free0
      let b := a.1.buf d
      let b1 := if a.2.1 then b else { b with claims := removeFirst (fun x => x.1 == r) b.claims }
      (a.1.setBuf d (if a.2.2 then { b1 with ptr := (r + 1) % 15 } else b1)).claimRound d free0 rest

/-- BPM_CLAIM: one clock of the BPM of die `d` (R237, R238). -/
def execBpmClaim (d : Fin 2) (s : State) : Res :=
  let s0 := s.begin
  let p := (s0.buf d.val).ptr
  .next ((s0.claimRound d.val (s0.freeS d.val) ((List.range 15).map (fun i => (p + i) % 15))).offerAll d.val)

/-- The claim of a copy whose last cell is written is settled: cells not used are returned (R236). -/
def State.settle (s : State) (id : Nat) (c : Copy) : State :=
  let extra := c.need - c.cells.length
  let g := c.gives extra
  ((s.account c (-extra) (-g.1) (-g.2)).groupMove c.group (-extra)).setCopy id
    (some { c with need := c.need - extra, hr := c.hr - g.1, sh := c.sh - g.2, done := true })

/-- The copies of a port's flush are dropped: their on-chip cells counted as freed by it (R248). -/
def State.flushCopies (s : State) (d : Nat) (ids : List Nat) : State :=
  s.each ids (fun t id => match t.copy id with
    | some c => (t.sknCount d 9 (c.cells.filter (· < 16)).length).release id c
    | none => t)

/-- The queues of a port: its port queues, and every leaf queue whose group's PORT it is (R248, R260). -/
def State.portQueues (s : State) (p : Nat) : List Nat :=
  let l := localPort p
  (s.dieQueues l.1).filterMap (fun e =>
    let q := e.1 % 65536
    if q < 32768 then
      let g := l.1 * 4096 + s.eff F.SCH_LEAF_GROUP (l.1 * 32768 + q)
      if s.eff F.SCH_GRP_PORT g = l.2 && p < 128 then some e.1 else none
    else if (q - 32768) / 16 = l.2 then some e.1 else none)

/-- A queue of a flushed port is emptied: its chain onto the free list, its pages unlinked, what is outstanding left to
complete (R248). -/
def State.flushQueue (s : State) (k : Nat) : State :=
  let d := k / 65536
  let q := s.queue k
  let s1 := s.flushCopies d (q.chain ++ q.wait)
  let q1 := { s1.queue k with chain := [], wait := [] }
  match q1.spill with
  | none => s1.setQueue k q1
  | some p =>
    let waiting := ((p.fetches.filter (fun f => !f.granted)).map (fun f => f.cells)).sum
    let p1 := { p with head := 0, fill := false, fetches := p.fetches.filter (fun f => f.granted), dead := true }
    let s2 := s1.sknCount d 10 p.pages.length
    let b := s2.buf d
    let s3 := if waiting = 0 then s2 else s2.setBuf d { b with claims := b.claims.filter (fun e => e.2 != Claim.fetch (k % 65536)) }
    s3.setQueue k { q1 with spill := if p1.move = 0 && p1.fetches.isEmpty then none else some p1 }

/-- The flush of a port has nothing left: no queue of it holds a cell, a context or an outstanding access (R248). -/
def State.flushEmpty (s : State) (p : Nat) : Bool :=
  (s.portQueues p).all (fun k => (s.queue k).cells == 0 && (s.queue k).spill.isNone)

/-- A copy of a port in flush goes with the rest as soon as it is written (R248 step 1). -/
def State.flushing (s : State) (p : Nat) : Bool := p < 130 && (s.port p).flushing

/-- COPY_LINK: the last cell of a copy is written, or the first of a cut-through copy (R232, R236, R250). -/
def execCopyLink (id : Nat) (s : State) : Res :=
  let s0 := s.begin
  match s0.copy id with
  | none => .next s0
  | some c =>
    let whole := c.need != 0 && cellsOf c.bytes.length ≤ c.cells.length
    if c.cut && !c.linked && !s0.flushing c.port then
      (if c.cells.isEmpty || s0.cutOpen c.key then .next s0 else .next (s0.linkTo c.key [id]))
    else if !whole || c.done then .next s0
    else
      let s1 := s0.unstage id c
      let c1 := { c with stage := none }
      if !c.cut && c.bad then .next ((s1.sknCount c.die 1 1).release id c1)
      else
        let s2 := (s1.settle id c1).txDone c1 0
        if s2.flushing c.port && !c.linked then .next ((s2.linkTo c.key [id]).flushQueue c.key)
        else if c.cut then .next (s2.linkWaiting c.key)
        else if s2.cutOpen c.key then .next (s2.setQueue c.key { s2.queue c.key with wait := (s2.queue c.key).wait ++ [id] })
        else .next (s2.linkTo c.key [id])

/-- `n` cells of a chain from cell `skip` on are changed, copy by copy: `f` gets the copy, its first such cell and how many
(the chain in order). -/
def State.walkCells (s : State) (f : State → Nat → Copy → Nat → Nat → State) : List Nat → Nat → Nat → State
  | [], _, _ => s
  | id :: r, skip, n =>
    match s.copy id with
    | none => s.walkCells f r skip n
    | some c =>
      let l := c.cells.length
      if n = 0 then s
      else if l ≤ skip then s.walkCells f r (skip - l) n
      else
        let k := min (l - skip) n
        (f s id c skip k).walkCells f r 0 (n - k)

/-- The code of a cell that lies in HBM. -/
def inHbm : Nat := 101

/-- Cells of a copy have moved to HBM: they leave its account and its group, and are free on-chip (R233, R245). -/
def State.cellsOut (s : State) (id : Nat) (c : Copy) (i n : Nat) : State :=
  let g := c.gives n
  let s1 := ((s.account c (-n) (-g.1) (-g.2)).groupMove c.group (-n)).freeBanks c.die ((c.cells.drop i).take n)
  s1.setCopy id (some { c with
    need := c.need - n
    hr := c.hr - g.1
    sh := c.sh - g.2
    cells := c.cells.take i ++ List.replicate n inHbm ++ c.cells.drop (i + n) })

/-- A cell of a copy has come back from HBM into bank group `g`, poisoned when `bad`, in the common remainder when `shared`
(R245, R247). -/
def State.cellIn (g : Nat) (shared bad : Bool) (s : State) (id : Nat) (c : Copy) (i n : Nat) : State :=
  s.setCopy id (some { c with
    fetched := c.fetched + n
    fsh := c.fsh + (if shared then n else 0)
    poison := c.poison || bad
    cells := c.cells.take i ++ List.replicate n g ++ c.cells.drop (i + n) })

/-- H holds no whole packet (Table 9-4, S2). -/
def State.noWhole (s : State) (q : QSt) (head : Nat) : Bool :=
  match q.chain with
  | id :: _ => (s.copy id).elim true (fun c => head < c.cells.length || c.cells.contains inHbm)
  | [] => true

/-- FILL of a spilled queue as it stands (Table 9-4, S2). -/
def State.fillNow (s : State) (k : Nat) (q : QSt) (p : Spill) : Bool :=
  let pr := s.sprof k
  let hf := p.head + p.flight
  if pr.2.2.1 ≤ hf || p.mid ≤ p.flight then false
  else if hf < pr.2.1 || s.noWhole q p.head then true
  else p.fill

/-- SPILL_MOVE: step S1 starts for a queue (R244). -/
def execSpillMove (d : Fin 2) (q : Fin 34048) (s : State) : Res :=
  let s0 := s.begin
  let k := d.val * 65536 + q.val
  let qs := s0.queue k
  match qs.spill with
  | none => .next s0
  | some p =>
    let pr := s0.sprof k
    let t := s0.tailCells qs
    let n := min 64 (min (t - pr.2.2.2.1) (pr.2.2.2.2 - p.mid))
    if p.dead || p.move != 0 || n = 0 || s0.spillPaused d.val then .next s0
    else match s0.growPages d.val (p.first + p.mid + n) p.pages 2 with
      | some pages =>
        .next ((s0.setQueue k { qs with spill := some { p with move := n, pages := pages } }).accessCells true pages (p.first + p.mid) n)
      | none => .next s0

/-- A flushed queue's context is free once nothing is outstanding (R248 step 4). -/
def Spill.deadDone (p : Spill) : Option Spill := if p.dead && p.move == 0 && p.fetches.isEmpty then none else some p

/-- The stack of cell `i` of M, counted from the start of its first page. -/
def Spill.stackOf (p : Spill) (i : Nat) : Nat := p.pages.getD (i / 1024) 0 / 98304

/-- Cells of a batch, from place `at` of the pages on, counted on their stacks (HBC_CNT 0 WR_CELLS, 1 RD_CELLS). -/
def State.countCells (s : State) (p : Spill) (at_ n which : Nat) : State :=
  s.each (List.range n) (fun t i => t.bump .HBC_CNT (p.stackOf (at_ + i) * 9 + which) 1)

/-- SPILL_MOVE_ACK: HBM has acknowledged the move of a queue: its cells leave T, join the end of M and are free on-chip
(R244, R294). -/
def execSpillMoveAck (d : Fin 2) (q : Fin 34048) (s : State) : Res :=
  let s0 := s.begin
  let k := d.val * 65536 + q.val
  let qs := s0.queue k
  match qs.spill with
  | none => .next s0
  | some p =>
    if p.move = 0 then .next s0
    else
      let s1 := s0.countCells p (p.first + p.mid) p.move 0
      if p.dead then .next (s1.setQueue k { s1.queue k with spill := { p with move := 0 }.deadDone })
      else
        let s2 := (s1.walkCells State.cellsOut qs.chain (p.head + p.mid) p.move).gauge! (16 + d.val) 0x46 p.move
        .next (s2.setQueue k { s2.queue k with spill := some { p with mid := p.mid + p.move, move := 0 } })

/-- SPILL_FETCH: FILL is brought up to date, and while it is set the next cells of M are claimed as requester 14
(R244). -/
def execSpillFetch (d : Fin 2) (q : Fin 34048) (s : State) : Res :=
  let s0 := s.begin
  let k := d.val * 65536 + q.val
  let qs := s0.queue k
  match qs.spill with
  | none => .next s0
  | some p =>
    if p.dead then .next s0
    else
      let fill := s0.fillNow k qs p
      let n := min 64 (min (p.mid - p.flight) (max 1 ((s0.sprof k).2.2.1 - p.head - p.flight)))
      if !fill || s0.spillPaused d.val then .next (s0.setQueue k { qs with spill := some { p with fill := fill } })
      else
        let s1 := s0.setQueue k { qs with spill := some { p with fill := true, fetches := p.fetches ++ [⟨n, false, 0, []⟩] } }
        let b := s1.buf d.val
        .next (s1.setBuf d.val { b with claims := b.claims ++ [(14, .fetch q.val)] })

/-- An uncorrectable cell of a fetch: counted, logged and reported (R303). -/
def State.fetchError (s : State) (h cell acc word : Nat) : State :=
  let s1 := s.bump .HBC_CNT (h * 9 + 3) 1
  let s2 := if s1.bit F.HBC_ECC_LOG_VALID h then s1
    else s1.setReg .HBC_ECC_LOG h (BitVec.ofNat 64 (cell % 2 ^ 27 + acc % 4 * 2 ^ 27 + word % 8 * 2 ^ 29 + 2 ^ 32))
  s2.fault 17 1 h cell

/-- A corrected word of a cell of stack `h` (R303). -/
def State.corrected (s : State) (h : Nat) : State := (s.bump .HBC_CNT (h * 9 + 2) 1).fault 17 0 h

/-- SPILL_FETCH_DONE: the first fetch batch of a queue has returned and been checked; words of the cells of `corr` were
corrected, and `bad` cells of it, each with access and word, were uncorrectable; once the crossbar has placed all of them its cells join the
end of H (R244, R247, R253, R294, R303). -/
def execSpillFetchDone (d : Fin 2) (q : Fin 34048) (corr : List Nat) (bad : List (Nat × Fin 4 × Fin 8)) (s : State) : Res :=
  let s0 := s.begin
  let k := d.val * 65536 + q.val
  let qs := s0.queue k
  match qs.spill with
  | none => .next s0
  | some p =>
    match p.fetches with
    | [] => .next s0
    | f :: rest =>
      if !f.granted || f.placed.length < f.cells then .next s0
      else
        let at_ (i : Nat) : Nat := p.first + i
        let s1 := (s0.countCells p p.first f.cells 1).each (corr.filter (· < f.cells)) (fun t i => t.corrected (p.stackOf (at_ i)))
        let cellNo (i : Nat) : Nat := p.pages.getD (at_ i / 1024) 0 % 98304 * 1024 + at_ i % 1024
        let errs := bad.filter (fun e => e.1 < f.cells)
        let s2 := errs.foldl (fun t e => t.fetchError (p.stackOf (at_ e.1)) (cellNo e.1) e.2.1.val e.2.2.val) s1
        if p.dead then
          let q2 := s2.queue k
          .next ((s2.setQueue k { q2 with
            used := q2.used - f.cells
            sh := q2.sh - f.sh
            spill := { p with fetches := rest, first := p.first + f.cells, mid := p.mid - f.cells }.deadDone }).freeBanks d.val f.placed)
        else
          let wrong (i : Nat) : Bool := errs.any (fun e => e.1 == i)
          let s4 := (f.placed.zipIdx).foldl (fun t e =>
            t.walkCells (State.cellIn e.1 (f.cells ≤ e.2 + f.sh) (wrong e.2)) qs.chain (p.head + e.2) 1) s2
          let first := p.first + f.cells
          let s5 := s4.gauge! (16 + d.val) 0x47 f.cells
          .next (s5.setQueue k { s5.queue k with spill := some { p with
            head := p.head + f.cells
            mid := p.mid - f.cells
            fetches := rest
            pages := p.pages.drop (first / 1024)
            first := first % 1024 } })

/-- SPLICE: M is empty with nothing outstanding: H and T are one chain again, and context and page are free (Table 9-4,
S5). -/
def execSplice (d : Fin 2) (q : Fin 34048) (s : State) : Res :=
  let s0 := s.begin
  let k := d.val * 65536 + q.val
  let qs := s0.queue k
  match qs.spill with
  | none => .next s0
  | some p =>
    if p.dead || p.mid != 0 || p.move != 0 || !p.fetches.isEmpty then .next s0
    else .next ((s0.setQueue k { qs with spill := none }).sknCount d.val 7 1)

end Sys2Proof.Machine
end

