-- ==== Sys2Proof/Machine/Sched.lean ====
section
/-! DEFINITION. The crossbar, the egress scheduler with its shapers, and multicast replication (spec/10). -/

namespace Sys2Proof.Machine

/-- Cells that a crossbar input sends in one clock (Table 10-1). -/
def xbarCap (i : Nat) : Nat := [2, 2, 2, 2, 2, 2, 2, 2, 4, 4, 4, 1, 1, 1, 3].getD i 0

/-- The crossbar within one clock: capacities left, outputs taken, cells still offered by FIFO (input × 16 + FIFO), cells
placed with their inputs, the pointers, the last FIFO of each input, and the inputs that have placed a cell. -/
structure XState where
  cap    : List Nat
  taken  : List Nat
  offers : List (Nat × List (Nat × Nat))
  placed : List (Nat × Nat × Nat)
  grant  : List Nat
  accept : List Nat
  last   : List Nat
  won    : List Nat
  deriving DecidableEq, Repr

/-- The offered cells of an input that are not yet placed, by FIFO. -/
def XState.of (x : XState) (i : Nat) : List (Nat × List (Nat × Nat)) := x.offers.filter (fun o => o.1 / 16 == i)

/-- Step 1: input `i` requests output `y` (Table 10-2). -/
def XState.requests (x : XState) (i y : Nat) : Bool :=
  x.cap.getD i 0 != 0 && (x.of i).any (fun o => o.2.any (fun c => c.2 == y / 2))

/-- Step 2: the input that output `y` grants (Table 10-2). -/
def XState.granted (x : XState) (y : Nat) : Option Nat :=
  if x.taken.contains y then none
  else ((List.range 15).map (fun k => (x.grant.getD y 0 + k) % 15)).find? (fun i => x.requests i y)

/-- The candidate FIFO of input `i` for output `y`: the first, in rotation after the last used, whose foremost cell targets
the output's bank group (R256). -/
def XState.candidate (x : XState) (i y : Nat) : Option Nat :=
  ((List.range 16).map (fun k => (x.last.getD i 0 + 1 + k) % 16)).find? (fun f =>
    (x.of i).any (fun o => o.1 % 16 == f && (o.2.head?.map (fun c => c.2)) == some (y / 2)))

/-- Step 3 for one grant: accepted where the input has capacity and a candidate (R256). -/
def XState.tryAccept (x : XState) (first : Bool) (i y : Nat) : XState :=
  if x.cap.getD i 0 = 0 then x
  else match x.candidate i y with
    | none => x
    | some f =>
      match (x.of i).find? (fun o => o.1 % 16 == f) with
      | some (k, c :: r) =>
        { cap := modifyAt x.cap i (· - 1)
          taken := x.taken ++ [y]
          offers := x.offers.map (fun o => if o.1 = k then (k, r) else o)
          placed := x.placed ++ [(i, c)]
          grant := if first then modifyAt x.grant y (fun _ => (i + 1) % 15) else x.grant
          accept := if first then modifyAt x.accept i (fun _ => (y + 1) % 32) else x.accept
          last := modifyAt x.last i (fun _ => f)
          won := if x.won.contains i then x.won else x.won ++ [i] }
      | _ => x

/-- One iteration of the matching: grants, then every input accepts in order from its pointer (R255). -/
def XState.iterate (x : XState) (first : Bool) : XState :=
  let grants := (List.range 32).filterMap (fun y => (x.granted y).map (fun i => (i, y)))
  (List.range 15).foldl (fun a i =>
    ((List.range 32).map (fun k => (x.accept.getD i 0 + k) % 32)).foldl (fun b y =>
      if grants.contains (i, y) then b.tryAccept first i y else b) a) x

/-- All iterations of a clock. -/
def XState.run (x : XState) : Nat → XState
  | 0 => x
  | n + 1 => (x.iterate false).run n

/-- Port `p` is idle for a copy of class `c`: no other copy for it holds a cell, and no pause timer stops the class (R69). -/
def State.idleFor (s : State) (id : Nat) (c : Copy) : Bool :=
  !s.copies.any (fun e => e.1 != id && (match e.2 with
    | some x => x.port == c.port && !x.cells.isEmpty
    | none => false)) &&
    !bitOf (s.port c.port).paused 8 &&
    !bitOf (s.port c.port).paused (getField (s.regInForce .SCH_PORT_PFC (c.die * 75 + c.lp)) (3 * (c.tc % 8)) 3)

/-- A copy whose head is granted is cut through (R68). -/
def State.cutsThrough (s : State) (id : Nat) (c : Copy) : Bool :=
  let i := beAt c.md 0 1
  (c.kind == .forward || c.kind == .transit) && c.solo && c.port < 128 && i < 128 && s.effBit F.MAC_PORT_CFG_CT_EN i && s.effBit F.MAC_PORT_CFG_CT_EN c.port &&
    speedGbps (s.eff F.MAC_PORT_CFG_SPEED c.port) ≤ speedGbps (s.eff F.MAC_PORT_CFG_SPEED i) && s.idleFor id c

/-- A cell is placed in its bank group, the first deciding whether its copy is cut through; the hold is given back where the
copy is gone (R68, R249, R257). -/
def State.placeCell (s : State) (d id g : Nat) : State :=
  match s.copy id with
  | some c =>
    let cut := c.cells.isEmpty && s.cutsThrough id c
    (s.setCopy id (some { c with cells := c.cells ++ [g], cut := c.cut || cut })).when cut (fun t => t.sknCount d 3 1)
  | none => s.freeBanks d [g]

/-- A fetched cell of queue `k` is placed: it is the next of the first granted batch that is not whole (R253). -/
def State.placeFetched (s : State) (k g : Nat) : State :=
  let q := s.queue k
  match q.spill with
  | none => s.freeBanks (k / 65536) [g]
  | some p =>
    match p.fetches.findIdx? (fun f => f.granted && f.placed.length < f.cells) with
    | none => s.freeBanks (k / 65536) [g]
    | some i => s.setQueue k { q with spill := some { p with fetches := modifyAt p.fetches i (fun f => { f with placed := f.placed ++ [g] }) } }

/-- XBAR_MATCH: one clock of the central scheduler of die `d` (R253 to R257). -/
def execXbarMatch (d : Fin 2) (s : State) : Res :=
  let s0 := s.begin.offerAll d.val
  let b := s0.buf d.val
  let iter := min 4 (max 1 (s0.eff F.SCH_XBAR_CFG_ITER d.val))
  let offers := (b.fifos.map (fun e => (e.1, e.2.offer))).filter (fun o => !o.2.isEmpty)
  let x0 : XState := ⟨(List.range 15).map xbarCap, [], offers, [], b.grant, b.accept, b.last, []⟩
  let x := (x0.iterate true).run (iter - 1)
  let waiting := (List.range 15).filter (fun i => !(x0.of i).isEmpty && !x.won.contains i)
  let fifos := x.offers.foldl (fun m o => let f := SMap.get (fun _ => (⟨[], []⟩ : XFifo)) m o.1
    SMap.set (fun _ => ⟨[], []⟩) m o.1 { f with offer := o.2 }) b.fifos
  let s1 := s0.setBuf d.val { b with fifos := fifos, grant := x.grant, accept := x.accept, last := x.last }
  let s2 := x.placed.foldl (fun t c => if c.1 = 14 then t.placeFetched c.2.1 c.2.2 else t.placeCell d.val c.2.1 c.2.2) s1
  let s3 := (s2.schCount d.val 0 x.placed.length).schCount d.val 1 waiting.length
  .next (((s3.gauge! (16 + d.val) 0x41 x.placed.length).gauge! (16 + d.val) 0x42 waiting.length).offerAll d.val)

/-- A node of the egress hierarchy of a die: the ring of a port's classes, a class of a port, a group, a queue. -/
def nodePort (lp : Nat) : Nat := lp
def nodeClass (lp c : Nat) : Nat := 128 + lp * 8 + c
def nodeGroup (g : Nat) : Nat := 1024 + g
def nodeQueue (q : Nat) : Nat := 8192 + q

/-- A member of a DWRR ring: its node, whether it is eligible, whether it is backlogged, its weight (R263). -/
structure Member where
  node : Nat
  ok   : Bool
  back : Bool
  weight : Nat
  deriving DecidableEq, Repr

/-- The deficit of a node. -/
def BufSt.deficit (b : BufSt) (x : Nat) : Int := SMap.get (fun _ => 0) b.dc x

/-- The buffers with the deficit of a node set. -/
def BufSt.setDeficit (b : BufSt) (x : Nat) (v : Int) : BufSt := { b with dc := SMap.set (fun _ => 0) b.dc x v }

/-- The pseudocode of R263 from place `i` of the ring on, with `n` visits left. -/
def dwrrFrom (ring : List Member) (b : BufSt) (i : Nat) : Nat → Option (Nat × BufSt)
  | 0 => none
  | n + 1 =>
    match ring[i]? with
    | none => none
    | some x =>
      if x.ok && 0 < b.deficit x.node then some (i, b)
      else
        let b1 := if x.back then b else b.setDeficit x.node 0
        let j := (i + 1) % ring.length
        match ring[j]? with
        | none => none
        | some y =>
          let q : Int := max 1 y.weight * 256
          let b2 := if y.ok then b1.setDeficit y.node (min (b1.deficit y.node + q) q) else b1
          dwrrFrom ring b2 j n

/-- The place of a node in its ring: queues by number, then groups; classes by number (R263). -/
def ringRank (x : Nat) : Nat := if 8192 ≤ x then x - 8192 else 65536 + x

/-- DWRR over a ring whose pointer is that of `node`, at `first` before its first selection: the member chosen. The pointer
names a member: where the ring does not list it, since it holds no packet and has no deficit, or has left the ring, it is
passed over for the next in ring order (R263; log entry 56). -/
def dwrr (node : Nat) (first : Option Nat) (ring : List Member) (b : BufSt) : Option (Member × BufSt) :=
  let p := match SMap.get (fun _ => 0) b.dptr node with
    | 0 => first.getD (ring.head?.elim 0 (fun m => m.node))
    | x + 1 => x
  let at_ : Nat × BufSt := match ring.findIdx? (fun m => m.node == p) with
    | some i => (i, b)
    | none =>
      let j := (ring.findIdx? (fun m => ringRank p < ringRank m.node)).getD 0
      (j, match ring[j]? with
        | some y => if y.ok then b.setDeficit y.node (min (b.deficit y.node + max 1 y.weight * 256) (max 1 y.weight * 256)) else b
        | none => b)
  match dwrrFrom ring at_.2 at_.1 (ring.length * 70 + 2) with
  | some (j, b1) => (ring[j]?).map (fun m => (m, { b1 with dptr := SMap.set (fun _ => 0) b1.dptr node (m.node + 1) }))
  | none => none

/-- A shaper passes: not enabled, or its tokens are 0 or more (R261). -/
def State.shaperPasses (s : State) (shp tok : Reg) (i : Nat) : Bool :=
  !(s.regInForce shp i).getLsbD 31 || !(s.reg tok i).getLsbD 39

/-- Queue `k` is spilled, and its head H holds no whole packet (R232, Table 9-4, S4). -/
def State.starved (s : State) (k : Nat) : Bool :=
  (s.queue k).spill.elim false (fun p => !p.dead && s.noWhole (s.queue k) p.head)

/-- The first copy of a queue that is eligible for the scheduler (R232). -/
def State.firstCopy (s : State) (k : Nat) : Option (Nat × Copy) :=
  match (s.queue k).chain with
  | [] => none
  | id :: _ =>
    match s.copy id with
    | none => none
    | some c => if s.starved k then none else some (id, c)

/-- The classes of a port that a pause timer stops (R264). -/
def State.classPaused (s : State) (p lp d c : Nat) : Bool :=
  p < 130 && bitOf (s.port p).paused (getField (s.regInForce .SCH_PORT_PFC (d * 75 + lp)) (3 * c) 3)

/-- The leaves of a die that hold a linked copy, rising. -/
def State.backlogged (s : State) (d : Nat) : List Nat :=
  ((s.dieQueues d).filter (fun e => e.1 % 65536 < 32768 && !e.2.chain.isEmpty)).map (fun e => e.1 % 65536)

/-- A number put into a rising list. -/
def insertRising (x : Nat) : List Nat → List Nat
  | [] => [x]
  | y :: r => if x < y then x :: y :: r else if x = y then y :: r else y :: insertRising x r

/-- The groups of a die that a write has touched, that keep a deficit or that are backlogged, rising (R260). -/
def State.knownGroups (s : State) (d : Nat) : List Nat :=
  let l := (s.inForce.filter (fun e => e.1 % 256 == Reg.SCH_GRP.code && e.1 / 256 / 4096 == d)).map (fun e => e.1 / 256 % 4096)
  let m := ((s.buf d).dc.filter (fun e => 1024 ≤ e.1 && e.1 < 5120)).map (fun e => e.1 - 1024)
  let n := (s.backlogged d).map (fun q => s.eff F.SCH_LEAF_GROUP (d * 32768 + q))
  (m ++ n).foldl (fun a x => insertRising x a) (l.foldl (fun a x => insertRising x a) [])

/-- The leaves of group `g` of a die that hold a copy or keep a deficit, rising (R260). -/
def State.knownLeaves (s : State) (d g : Nat) : List Nat :=
  let m := ((s.buf d).dc.filter (fun e => 8192 ≤ e.1 && e.1 < 40960)).map (fun e => e.1 - 8192)
  (m.foldl (fun a x => insertRising x a) (s.backlogged d)).filter (fun q => s.eff F.SCH_LEAF_GROUP (d * 32768 + q) == g)

/-- The lowest leaf of group `g` of a die (R260). -/
def State.firstLeaf (s : State) (d g : Nat) : Option Nat :=
  if g = 0 then (List.range 32768).find? (fun q => s.eff F.SCH_LEAF_GROUP (d * 32768 + q) == 0)
  else ((s.inForce.filter (fun e => e.1 % 256 == Reg.SCH_LEAF.code && e.1 / 256 / 32768 == d)).map (fun e => e.1 / 256 % 32768)).find?
    (fun q => s.eff F.SCH_LEAF_GROUP (d * 32768 + q) == g)

/-- The tokens of leaf `q` of a die (R267). -/
def State.leafTok (s : State) (d q : Nat) : Int := (s.queue (d * 65536 + q)).tok.getD (s.buf d).leafTok

/-- The member that a leaf is in its group (Table 10-5). -/
def State.leafMember (s : State) (d q : Nat) : Member :=
  let i := d * 32768 + q
  let pass := !s.effBit F.SCH_LEAF_SHP_EN i || 0 ≤ s.leafTok d q
  ⟨nodeQueue q, (s.firstCopy (d * 65536 + q)).isSome && s.effBit F.SCH_LEAF_EN i && pass,
    !(s.queue (d * 65536 + q)).chain.isEmpty, s.eff F.SCH_LEAF_WEIGHT i⟩

/-- The ring of a group's leaves. -/
def State.leafRing (s : State) (d g : Nat) : List Member := (s.knownLeaves d g).map (s.leafMember d)

/-- The member that a group is in its class (Table 10-5). -/
def State.groupMember (s : State) (d g : Nat) (paused : Bool) : Member :=
  let i := d * 4096 + g
  let r := s.leafRing d g
  ⟨nodeGroup g, s.effBit F.SCH_GRP_EN i && r.any (fun m => m.ok) && !paused && s.shaperPasses .SCH_GRP_SHP .SCH_GRP_TOK i,
    r.any (fun m => m.back), s.eff F.SCH_GRP_WEIGHT i⟩

/-- The member that port queue `i` is in its class (Table 10-5). -/
def State.queueMember (s : State) (d lp i : Nat) (paused : Bool) : Member :=
  let k := d * 65536 + portQueue lp i
  let w := if i < 8 then getField (s.regInForce .SCH_PORT_QW (d * 75 + lp)) (8 * i) 8
    else if i = 8 then s.eff F.SCH_PORT_MQW_QW_8 (d * 75 + lp) else s.eff F.SCH_PORT_MQW_QW_9 (d * 75 + lp)
  ⟨nodeQueue (portQueue lp i), (s.firstCopy k).isSome && !paused && s.shaperPasses .SCH_Q_SHP .SCH_Q_TOK ((d * 75 + lp) * 10 + i),
    !(s.queue k).chain.isEmpty, w⟩

/-- The port queues and the groups of a class: queue c, queue 8, queue 9; groups ascending (R260). -/
def State.classQueues (s : State) (d lp c : Nat) : List Nat :=
  let pp := d * 75 + lp
  [c] ++ (if s.eff F.SCH_PORT_MC8_CLASS pp = c then [8] else []) ++ (if s.eff F.SCH_PORT_MC9_CLASS pp = c then [9] else [])
def State.classGroups (s : State) (d lp c : Nat) : List Nat :=
  if 64 ≤ lp then [] else (s.knownGroups d).filter (fun g =>
    s.eff F.SCH_GRP_PORT (d * 4096 + g) == lp && s.eff F.SCH_GRP_CLASS (d * 4096 + g) == c)

/-- The ring of a class (R263). -/
def State.classRing (s : State) (d lp c : Nat) : List Member :=
  let paused := s.classPaused (globalPort d lp) lp d c
  (s.classQueues d lp c).map (fun i => s.queueMember d lp i paused) ++ (s.classGroups d lp c).map (fun g => s.groupMember d g paused)

/-- A port that selects nothing loses its clock because the head of a queue holds no whole packet: a queue that nothing else
holds back is starved (Table 9-4, S4). -/
def State.headWait (s : State) (d lp : Nat) : Bool :=
  (List.range 8).any (fun c => !s.classPaused (globalPort d lp) lp d c &&
    ((s.classQueues d lp c).any (fun i => s.starved (d * 65536 + portQueue lp i) &&
        !(s.queue (d * 65536 + portQueue lp i)).chain.isEmpty && s.shaperPasses .SCH_Q_SHP .SCH_Q_TOK ((d * 75 + lp) * 10 + i)) ||
      (s.classGroups d lp c).any (fun g => s.effBit F.SCH_GRP_EN (d * 4096 + g) &&
        s.shaperPasses .SCH_GRP_SHP .SCH_GRP_TOK (d * 4096 + g) && (s.knownLeaves d g).any (fun q =>
          s.starved (d * 65536 + q) && !(s.queue (d * 65536 + q)).chain.isEmpty && s.effBit F.SCH_LEAF_EN (d * 32768 + q) &&
            (!s.effBit F.SCH_LEAF_SHP_EN (d * 32768 + q) || 0 ≤ s.leafTok d q)))))

/-- The member that a class is in its port. -/
def State.classMember (s : State) (d lp c : Nat) : Member :=
  let r := s.classRing d lp c
  ⟨nodeClass lp c, r.any (fun m => m.ok), r.any (fun m => m.back),
    getField (s.regInForce .SCH_PORT_CW (d * 75 + lp)) (8 * c) 8⟩

/-- Bytes selected for a port and not yet transmitted (R261). -/
def State.inflight (s : State) (p : Nat) : Nat :=
  (s.copies.map (fun e => match e.2 with
    | some c => if c.sel && c.port == p then c.len else 0
    | none => 0)).sum

/-- A port that has a MAC state is UP; the others always are (Table 10-5). -/
def State.portReady (s : State) (p : Nat) : Bool := 130 ≤ p || s.portState p == 2

/-- A local port is eligible but for its classes (Table 10-5). -/
def State.portEligible (s : State) (d lp : Nat) : Bool :=
  let p := globalPort d lp
  s.portReady p && !(p < 130 && bitOf (s.port p).paused 8) && s.shaperPasses .SCH_PORT_SHP .SCH_PORT_TOK (d * 75 + lp) &&
    s.inflight p < 1024 * max 1 (s.eff F.SCH_PORT_INFLIGHT (d * 75 + lp))

/-- A local port exists on a die (Table 9-1). -/
def localExists (d lp : Nat) : Bool := lp < (if d = 0 then 75 else 72)

/-- The charge of a selection in 1/256 byte (R263). -/
def State.shapeCost (s : State) (d len : Nat) : Int :=
  max 0 ((len : Int) + signedOf 8 (s.eff F.SCH_CFG_SHAPE_ADJ d)) * 256

/-- A shaper's tokens are charged, where it is enabled (R263, R267). -/
def State.chargeReg (s : State) (shp tok : Reg) (i : Nat) (cost : Int) : State :=
  if (s.regInForce shp i).getLsbD 31 then
    s.setReg tok i (BitVec.ofNat 64 (unsignedOf 40 (signedOf 40 (getField (s.reg tok i) 0 40) - cost)))
  else s

/-- A leaf's tokens are charged. -/
def State.chargeLeaf (s : State) (d q : Nat) (cost : Int) : State :=
  if s.effBit F.SCH_LEAF_SHP_EN (d * 32768 + q) then
    s.setQueue (d * 65536 + q) { s.queue (d * 65536 + q) with tok := some (s.leafTok d q - cost) }
  else s

/-- The choice of R263 for a port: the class if DWRR chose it, the member of the class, the leaf where that is a group, and
the buffers with pointers and deficits moved. -/
def State.choose (s : State) (d lp : Nat) : Option (Option Nat × Nat × Option Nat × BufSt) :=
  let pp := d * 75 + lp
  let sp := s.eff F.SCH_PORT_SP pp
  let cls := (List.range 8).map (fun c => (c, s.classMember d lp c))
  let b := s.buf d
  let strict := (cls.filter (fun e => bitOf sp e.1 && e.2.ok)).getLast?
  let pick : Option (Nat × Option Nat × BufSt) := match strict with
    | some e => some (e.1, none, b)
    | none =>
      let ring := (cls.filter (fun e => !bitOf sp e.1)).map (fun e => e.2)
      if ring.any (fun m => m.ok) then (dwrr (nodePort lp) none ring b).map (fun r => (r.1.node - 128 - lp * 8, some r.1.node, r.2)) else none
  pick.bind (fun e =>
    (dwrr (nodeClass lp e.1) none (s.classRing d lp e.1) e.2.2).bind (fun m =>
      if m.1.node < 8192 then
        (dwrr m.1.node ((s.firstLeaf d (m.1.node - 1024)).map nodeQueue) (s.leafRing d (m.1.node - 1024)) m.2).map (fun l => (e.2.1, m.1.node, some l.1.node, l.2))
      else some (e.2.1, m.1.node, none, m.2)))

/-- A selected copy goes to its egress program, or past it to its MAC or the host's rings (R108, R262). -/
def State.handOver (s : State) (id : Nat) (c : Copy) : State :=
  let p := c.port
  if (p < 128 && !s.effBit F.MAC_PORT_CFG_YARN p) || 144 ≤ p then
    let n := if p < 128 then p / 8 else p - 144
    s.setPipe n { s.pipe n with egress := (s.pipe n).egress ++ [id] }
  else { s with txq := SMap.set (fun _ => []) s.txq p (SMap.get (fun _ => []) s.txq p ++ [id]) }

/-- The copy at the head of a queue is selected: out of the chain and of H, its tag, entry set and budget fixed
(R49, R100, R118, R262). -/
def State.selectFrom (s : State) (k : Nat) : State :=
  match s.firstCopy k with
  | none => s
  | some (id, c) =>
    let q := s.queue k
    let n := if c.port < 128 then c.port / 8 else c.port - 144
    let c1 := { c with sel := true, len := c.bytes.length, tag := s.tag, egSet := s.activeSet n 1, egBudget := s.budget n 1 }
    let s1 := s.setQueue k { q with
      chain := q.chain.drop 1
      spill := q.spill.map (fun p => { p with head := p.head - c.cells.length }) }
    (s1.setCopy id (some c1)).handOver id c1

/-- A local port of a die can be selected for: it is eligible, and has an eligible class (Table 10-5). -/
def State.selectable (s : State) (d lp : Nat) : Bool := s.portEligible d lp && (s.choose d lp).isSome

/-- The local port of place `i`, 0 to 7 the slots and 8 the recirculation port, of pipeline `n` (R262). -/
def turnPort (n i : Nat) : Nat := if i < 8 then n % 8 * 8 + i else 64 + n % 8

/-- The pipeline of a local port and its place in it; none for HOST and the management ports (R262). -/
def turnOf (d lp : Nat) : Option (Nat × Nat) :=
  if lp < 64 then some (8 * d + lp / 8, lp % 8) else if lp < 72 then some (8 * d + (lp - 64), 8) else none

/-- It is the turn of a local port: no port of its pipeline that can be selected for comes between the one selected last and
it (R262). -/
def State.isTurn (s : State) (d lp : Nat) : Bool :=
  match turnOf d lp with
  | none => true
  | some (n, i) =>
    let t := (s.pipe n).egTurn
    ((List.range 9).takeWhile (fun k => (t + 1 + k) % 9 != i)).all (fun k => !s.selectable d (turnPort n ((t + 1 + k) % 9)))

/-- The rotation of a pipeline goes on after the port selected (R262). -/
def State.takeTurn (s : State) (d lp : Nat) : State :=
  match turnOf d lp with
  | none => s
  | some (n, i) => s.setPipe n { s.pipe n with egTurn := i }

/-- EGRESS_SELECT: the egress scheduler selects a copy for a local port of a die whose turn it is, and charges what it went
through (R260 to R265, R267). -/
def execEgressSelect (d : Fin 2) (lp : Fin 75) (s : State) : Res :=
  let s0 := s.begin
  if !(localExists d.val lp.val && s0.portEligible d.val lp.val) then .next s0
  else match s0.choose d.val lp.val with
    | none => .next (if s0.headWait d.val lp.val then s0.sknCount d.val 8 1 else s0)
    | some (cls, mem, leaf, b) =>
      if !s0.isTurn d.val lp.val then .next s0 else
      let q := leaf.getD mem - 8192
      let k := d.val * 65536 + q
      let len := (s0.firstCopy k).elim 0 (fun e => e.2.bytes.length)
      let b1 := ((cls.toList ++ [mem] ++ leaf.toList)).foldl (fun a x => a.setDeficit x (a.deficit x - (len : Int))) b
      let s1 := s0.setBuf d.val b1
      let cost := s1.shapeCost d.val len
      let s2 := s1.chargeReg .SCH_PORT_SHP .SCH_PORT_TOK (d.val * 75 + lp.val) cost
      let s3 := match leaf with
        | some l => (s2.chargeReg .SCH_GRP_SHP .SCH_GRP_TOK (d.val * 4096 + (mem - 1024)) cost).chargeLeaf d.val (l - 8192) cost
        | none => s2.chargeReg .SCH_Q_SHP .SCH_Q_TOK ((d.val * 75 + lp.val) * 10 + (q - 32768) % 16) cost
      let s4 := ((s3.takeTurn d.val lp.val).selectFrom k).schCount d.val 2 1
      let p := globalPort d.val lp.val
      .next (if p < 128 then s4.gauge! (p / 8) 0x12 1 (some (p % 8)) else s4)

/-- A shaper's tokens after a refill (R267). -/
def refill (tok : Int) (rate burst : Nat) : Int := min ((burst : Int) * 256) (tok + rate)

/-- The shapers of one kind are refilled at the edge; one whose settings change starts full first (R267). -/
def State.refillRegs (s : State) (shp tok : Reg) : State :=
  let listed (m : SMap (BitVec 64)) : List Nat := (m.filter (fun e => e.1 % 256 == shp.code)).map (fun e => e.1 / 256)
  s.each (listed s.regs ++ listed s.inForce).eraseDups (fun t i =>
    let v := t.reg shp i
    let burst := getField v 32 24
    let old := signedOf 40 (getField (t.reg tok i) 0 40)
    let start : Int := if v = t.regInForce shp i then old else burst * 256
    t.setReg tok i (BitVec.ofNat 64 (unsignedOf 40 (refill start (getField v 0 28) burst))))

/-- The leaves of a die whose shaper a write or a charge has touched. -/
def State.touchedLeaves (s : State) (d : Nat) : List Nat :=
  let listed (m : SMap (BitVec 64)) : List Nat :=
    (m.filter (fun e => e.1 % 256 == Reg.SCH_LEAF.code && e.1 / 256 / 32768 == d)).map (fun e => e.1 / 256 % 32768)
  let own := ((s.dieQueues d).filter (fun e => e.2.tok.isSome)).map (fun e => e.1 % 65536)
  (listed s.regs ++ own).foldl (fun a x => insertRising x a) (listed s.inForce)

/-- The leaf shapers are refilled at the edge; one whose RATE, burst, BPROF or SHP_EN changes starts full first. The leaves
that nothing has touched follow SCH_BURST[0] together (R267). -/
def State.refillLeaves (s : State) (d : Nat) : State :=
  let b0 := s.fld F.SCH_BURST_BYTES (d * 16)
  let s1 := if b0 = s.eff F.SCH_BURST_BYTES (d * 16) then s else s.setBuf d { s.buf d with leafTok := b0 * 256 }
  s1.each (s.touchedLeaves d) (fun t q =>
    let i := d * 32768 + q
    let k := d * 65536 + q
    let prof := t.fld F.SCH_LEAF_BPROF i
    let burst := t.fld F.SCH_BURST_BYTES (d * 16 + prof)
    let same := t.fld F.SCH_LEAF_RATE i == t.eff F.SCH_LEAF_RATE i && prof == t.eff F.SCH_LEAF_BPROF i &&
      t.fld F.SCH_LEAF_SHP_EN i == t.eff F.SCH_LEAF_SHP_EN i && burst == t.eff F.SCH_BURST_BYTES (d * 16 + prof)
    let start : Int := if same then t.leafTok d q else burst * 256
    t.setQueue k { t.queue k with tok := some (refill start (t.fld F.SCH_LEAF_RATE i) burst) })

/-- Every shaper's refill at item 4 of a tick edge (R267), before the new settings come into force. -/
def State.edgeShapers (s : State) : State :=
  (((s.refillRegs .SCH_PORT_SHP .SCH_PORT_TOK).refillRegs .SCH_Q_SHP .SCH_Q_TOK).refillRegs .SCH_GRP_SHP .SCH_GRP_TOK).each [0, 1]
    State.refillLeaves

/-- A write to SCH_LEAF: a change of GROUP is refused while the leaf holds a cell or a context (R266). -/
def State.writeLeaf (s : State) (i : Nat) (mask v : BitVec 64) : State :=
  let old := s.reg .SCH_LEAF i
  let new := Reg.written .SCH_LEAF old mask v
  let q := s.queue (i / 32768 * 65536 + i % 32768)
  if getField old 0 12 ≠ getField new 0 12 && (q.cells != 0 || q.spill.isSome) then s.setFld F.SCH_LEAF_CFG_REFUSED i 1
  else s.setReg .SCH_LEAF i new

/-- SCH_LEAF_WRITE (R266). -/
def execSchLeafWrite (a : Agent) (d : Fin 2) (q : Fin 32768) (v : BitVec 64) (s : State) : Res :=
  .next (s.begin.writeBy a .SCH_LEAF (d.val * 32768 + q.val) (fun t => t.writeLeaf (d.val * 32768 + q.val) all64 v))

/-- BACKLOG of a group: leaves of it that hold a linked copy (Table 10-11). -/
def State.backlog (s : State) (i : Nat) : Nat :=
  ((s.dieQueues (i / 4096)).filter (fun e => e.1 % 65536 < 32768 && !e.2.chain.isEmpty &&
    s.eff F.SCH_LEAF_GROUP (i / 4096 * 32768 + e.1 % 65536) == i % 4096)).length

/-- A write to SCH_GRP: a change of PORT or CLASS is refused while the group is backlogged (R266). -/
def State.writeGrp (s : State) (i : Nat) (mask v : BitVec 64) : State :=
  let old := s.reg .SCH_GRP i
  let new := Reg.written .SCH_GRP old mask v
  if (getField old 0 6 ≠ getField new 0 6 || getField old 8 3 ≠ getField new 8 3) && s.backlog i != 0
  then s.setFld F.SCH_GRP_STS_CFG_REFUSED i 1 else s.setReg .SCH_GRP i new

/-- SCH_GRP_WRITE (R266). -/
def execSchGrpWrite (a : Agent) (d : Fin 2) (g : Fin 4096) (v : BitVec 32) (s : State) : Res :=
  .next (s.begin.writeBy a .SCH_GRP (d.val * 4096 + g.val) (fun t => t.writeGrp (d.val * 4096 + g.val) low32 (v.setWidth 64)))

/-- Every copy of a packet that the engine has started is written or gone (R270, R271). -/
def State.replDone (s : State) (r : Repl) : Bool :=
  match r.made with
  | none => false
  | some l => l.all (fun id => (s.copy id).elim true (fun c => c.done))

/-- Cells of a FIFO of the replication engine of a die (R270). -/
def State.replCells (s : State) (d : Nat) (high : Bool) : Nat :=
  (((s.buf d).repl.filter (fun r => r.high == high && !s.replDone r)).map (fun r => r.cells)).sum

/-- A packet goes to the replication engine of die `d`, or finds no room (R270). -/
def State.replicate (s : State) (d grp : Nat) (c : Copy) : State :=
  let high := s.eff F.SCH_MC_CFG_HI_TC d ≤ c.tc
  let n := cellsOf c.bytes.length
  let lo := s.replCells d false
  let used := lo + s.replCells d true
  if !s.domOn (52 + d) || 8192 < used + n || (!high && min 8192 (s.eff F.SCH_MC_CFG_LO_MAX d) < lo + n) then s.schCount d 6 1
  else s.setBuf d { s.buf d with repl := (s.buf d).repl ++ [⟨c, grp, high, n, none⟩] }

/-- A copy claims cells: it has a number, and its claim waits at its requester (R236, R238). -/
def State.claim (s : State) (c : Copy) : State :=
  let id := s.nextId
  let s1 := ({ s with nextId := id + 1 }).setCopy id (some c)
  s1.setBuf c.die { s1.buf c.die with claims := (s1.buf c.die).claims ++ [(c.req, .copy id)] }

/-- The copy of a replicated packet to a local port (R258, R271, Table 8-4). -/
def Repl.copyTo (r : Repl) (d lp hi : Nat) : Copy :=
  let q := portQueue lp (if hi ≤ r.base.tc then 9 else 8)
  { r.base with
    die := d, lp := lp, port := globalPort d lp, queue := q, kind := .replica, req := 10, fifo := 0, arriving := false }

/-- One local port of a replicated packet: skipped, not made, or claimed; on a Yarn link it is sent TYPE 1, or TYPE 2 while
YRN_ID.EN is 0, and HOPS decides (R271, R275, R282). -/
def State.replicaTo (s : State) (d : Nat) (r : Repl) (srcx : Bool) (a : State × Nat) (lp : Nat) : State × Nat :=
  let t := a.1
  let p := globalPort d lp
  if srcx && p == beAt r.base.md 0 1 then (t.schCount d 9 1, a.2)
  else
    let c := r.copyTo d lp (s.eff F.SCH_MC_CFG_HI_TC d)
    let link := p < 128 && t.effBit F.MAC_PORT_CFG_YARN p
    match c.yarn, link with
    | some h, true =>
      if h.hops = 0 then (t.bump .YRN_CNT (d * 19 + 10) 1, a.2)
      else
        let c1 := { c with yarn := some { h with type := if t.bit F.YRN_ID_EN 0 then 1 else 2 } }
        (((t.claim c1).schCount d 5 1).gauge! (16 + d) 0x4F 1, a.2 + 1)
    | _, _ => (((t.claim c).schCount d 5 1).gauge! (16 + d) 0x4F 1, a.2 + 1)

/-- REPLICATION: the engine of die `d` takes its next packet and makes a copy for each local port of the group; `err`: a
cell of the packet is uncorrectable, and the packet is dropped; `grpErr`: the group entry is (R271, Table 16-3). -/
def execReplication (d : Fin 2) (err grpErr : Bool) (s : State) : Res :=
  let s0 := s.begin
  let s1 := s0.setBuf d.val { s0.buf d.val with repl := (s0.buf d.val).repl.filter (fun r => !s0.replDone r) }
  let b := s1.buf d.val
  let take : Option Repl := match b.repl.find? (fun r => r.high) with
    | some r => some r
    | none => b.repl.head?
  match take with
  | none => .next s1
  | some r =>
    if b.repl.any (fun x => x.made.isSome) then .next s1
    else
      let rest := removeFirst (fun x => x == r) b.repl
      if err then .next ((s1.setBuf d.val { b with repl := rest }).fault 15 1 d.val)
      else
        let s2 := if grpErr then s1.fault 15 2 d.val r.grp else s1
        let e : BitVec 128 := if grpErr then 0 else s2.readGroup s2.tabs d.val r.grp
        let lps := (List.range (if d.val = 0 then 75 else 72)).filter (fun lp => e.getLsbD lp && e.getLsbD 96)
        let a := lps.foldl (s2.replicaTo d.val r (e.getLsbD 97)) (s2, 0)
        let ids := (List.range (a.1.nextId - s2.nextId)).map (s2.nextId + ·)
        let s3 := (a.1.setBuf d.val { a.1.buf d.val with repl := rest ++ [{ r with made := some ids }] }).schCount d.val 4 1
        .next (if a.2 = 0 then s3.schCount d.val 7 1 else s3)

end Sys2Proof.Machine
end

