-- ==== Sys2Proof/Machine/Yarn.lean ====
section
/-! DEFINITION. Copies on their way to the Skein, and Yarn links: headers, routing and spraying, receiving and resequencing
(spec/11). -/

namespace Sys2Proof.Machine

/-- YRN_CNT of a die. -/
def State.yrnCount (s : State) (d i n : Nat) : State := s.bump .YRN_CNT (d * 19 + i) n

/-- A port is a Yarn link (R272). -/
def State.isYarn (s : State) (p : Nat) : Bool := p < 128 && s.effBit F.MAC_PORT_CFG_YARN p

/-- The destination die of a DST_PORT (R279). -/
def destDie (p : Nat) : Nat :=
  if p < 64 || (128 ≤ p && p ≤ 130) || (144 ≤ p && p < 152) then 0 else 1

/-- A copy with its die, local port and unicast queue, and the crossbar input of its source: pipeline `n`, source port
`src` (R23, R258, Table 10-1). -/
def Copy.route (c : Copy) (n src q : Nat) : Copy :=
  let l := localPort c.port
  let own := l.1 == pipeDie n
  { c with
    die := l.1
    lp := l.2
    queue := q
    req := if c.kind == .hostTx then 12 else if c.kind == .chartTx then 13 else if c.kind == .reply then 11
      else if own then n % 8 else 8 + n % 2
    fifo := if c.kind == .hostTx || c.kind == .chartTx || c.kind == .reply then 0
      else if !own then n % 8 else if 144 ≤ src then 8 else src % 8 }

/-- A copy's claim joins those of its requester (R238). -/
def State.claimAt (s : State) (id : Nat) (c : Copy) : State :=
  (s.setCopy id (some c)).setBuf c.die { s.buf c.die with claims := (s.buf c.die).claims ++ [(c.req, .copy id)] }

/-- A copy leaves action merge for the BPM of its die; one that crosses the die-to-die link is counted (R23). -/
def State.submit (s : State) (n : Nat) (c : Copy) : State :=
  let s1 := if c.die = pipeDie n then s else s.gauge! (16 + pipeDie n) 0x4E (cellsOf c.bytes.length)
  let s2 := match c.stage with
    | some f => match s1.stagedOf f with
      | some t => s1.setStaged f { t with left := t.left + 1 }
      | none => s1
    | none => s1
  s2.claim c

/-- YDST of a packet's metadata: V, DEV, PORT (R276). -/
def State.ydst (s : State) (md : Bytes) : Bool × Nat × Nat :=
  let w := beAt md (0x30 + min 44 (s.fld F.YRN_CFG_YDST_OFF 0)) 4
  (bitOf w 31, bitsOf w 16 14, w % 256)

/-- HOPS of frames sent from this device: 0 is handled as 1 (YRN_CFG). -/
def State.hops (s : State) : Nat := max 1 (s.fld F.YRN_CFG_HOPS 0)

/-- The header of a TYPE 1 or TYPE 2 frame that this device sends (R279). -/
def State.localHdr (s : State) (type dst : Nat) : YHdr := ⟨type, s.hops, s.fld F.YRN_ID_DEV 0, dst, 0, 0, 0⟩

/-- The next SEQ toward a device, a die and a class (R279). -/
def State.takeSeq (s : State) (dev die tc : Nat) : Nat × State :=
  let k := (dev * 2 + die) * 8 + tc
  let v := SMap.get (fun _ => 0) s.seqs k
  (v, { s with seqs := SMap.set (fun _ => 0) s.seqs k ((v + 1) % 65536) })

/-- The link of a spray set that pipeline `n` takes next: the first eligible one at or after its pointer (R277). -/
def State.sprayLink (s : State) (n set : Nat) : Option Nat :=
  let p0 := SMap.get (fun _ => 0) (s.pipe n).spray set
  ((List.range 128).map (fun i => (p0 + i) % 128)).find? (fun p =>
    bitOf (s.eff F.YRN_SET_LINKS (set * 2 + p / 64)) (p % 64) && s.isYarn p && s.portState p == 2)

/-- A TYPE 0 copy is routed toward a device and sprayed by pipeline `n`; no route or no eligible link gives none (R277). -/
def State.spray (s : State) (n dev : Nat) : Option (Nat × State) :=
  if !s.effBit F.YRN_ROUTE_V dev then none
  else
    let set := s.eff F.YRN_ROUTE_SET dev
    (s.sprayLink n set).map (fun p =>
      let q := s.pipe n
      (p, s.setPipe n { q with spray := SMap.set (fun _ => 0) q.spray set ((p + 1) % 128) }))

/-- XUSER of a frame that this device sends: the USER bytes at XUSER_OFF (YRN_CFG). -/
def State.xuserOf (s : State) (md : Bytes) : Bytes := sliceZ md (0x30 + min 44 (s.fld F.YRN_CFG_XUSER_OFF 0)) 4

/-- A forwarding copy whose egress port is a Yarn link: sent TYPE 2 while YRN_ID.EN is 0, else routed by its YDST or dropped
(R275 to R279). `d` is the die that counts. -/
def State.yarnForward (s : State) (n d : Nat) (c : Copy) : Option Copy × State :=
  if !s.bit F.YRN_ID_EN 0 then (some { c with yarn := some (s.localHdr 2 0) }, s)
  else
    let y := s.ydst c.md
    if !y.1 then (none, s.yrnCount d 8 1)
    else if y.2.1 == s.fld F.YRN_ID_DEV 0 then (none, s.yrnCount d 11 1)
    else match s.spray n y.2.1 with
      | none => (none, s.yrnCount d 9 1)
      | some (p, s1) =>
        let q := s1.takeSeq y.2.1 (destDie y.2.2) c.tc
        (some { c with
          port := p
          yarn := some ⟨0, s1.hops, s1.fld F.YRN_ID_DEV 0, y.2.1, y.2.2, s1.fld F.YRN_ID_EPOCH 0, q.1⟩ }, q.2)

/-- The fields of a received Yarn header (Table 11-1). -/
def yarnHdr (b : Bytes) : YHdr :=
  ⟨bitsOf (beAt b 0 1) 4 2, beAt b 1 1 % 64, beAt b 2 2 % 16384, beAt b 4 2, beAt b 6 1, beAt b 7 1, beAt b 8 2⟩

/-- Metadata of a frame received on a Yarn port (R280): SRC_PORT, LEN, timestamp, TC, HASH and XUSER. -/
def State.yarnMd (s : State) (p : Pkt) (b : Bytes) (len : Nat) : Bytes :=
  let m := mdStart p.src 0 len (min 256 len) 0 0 p.tsNs p.tsSec
  let m1 := overwrite m 0x0F (beBytes 1 (beAt b 0 1 % 8))
  let m2 := overwrite m1 0x20 (beBytes 4 (beAt b 10 2))
  overwrite m2 (0x30 + min 44 (s.fld F.YRN_CFG_XUSER_OFF 0)) (sliceZ b 12 4)

/-- A Yarn frame is dropped by the fixed parser and counted (Table 11-3). -/
def State.yarnDrop (s : State) (p : Pkt) (i : Nat) : State := (s.dropStaged p.id).yrnCount (portDie p.src) i 1

/-- YARN_PARSE: the next frame of pipeline `n` in the fixed Yarn parser (R107, R280 to R282). A fault of the frame that is found
after its dispatch drops it at action merge (R105). -/
def execYarnParse (n : Fin 16) (s : State) : Res :=
  let s0 := s.begin
  let q := s0.pipe n.val
  match q.parser with
  | [] => .next s0
  | p :: rest =>
    let s1 := (s0.setPipe n.val { q with parser := rest }).steCount n.val 13
    let b := p.bytes
    let h := yarnHdr b
    let body := (b.drop 16).take (b.length - 20)
    let d := portDie p.src
    let me := s1.fld F.YRN_ID_DEV 0
    if !s1.bit F.YRN_ID_EN 0 || beAt b 0 1 / 64 != 1 || h.type == 3 || b.length < 80 then .next (s1.yarnDrop p 7)
    else if h.type ≤ 1 && h.src == me then .next (s1.yarnDrop p 11)
    else
      let md := s1.yarnMd p b body.length
      let go (t : State) (h1 : YHdr) (own : Bool) : State :=
        t.setPipe n.val { t.pipe n.val with merge := (t.pipe n.val).merge ++
          [.yarn { p with bytes := body } md (beAt b 0 1 % 8) (beAt b 1 1 / 64) h1 (sliceZ b 12 4) own] }
      if h.type = 2 then .next (go (s1.yrnCount d 5 1) h true)
      else if h.type = 1 then
        .next (go (s1.yrnCount d 4 1) { h with dst := (h.dst + s1.fld F.YRN_MC_MC_OFF 0) % 65536, hops := h.hops - 1 } true)
      else if h.dst % 16384 ≠ me then
        if h.hops ≤ 1 then .next ((s1.yrnCount d 6 1).yarnDrop p 10)
        else .next (go (s1.yrnCount d 6 1) { h with hops := h.hops - 1, dst := h.dst % 16384 } false)
      else if s1.isYarn h.port then .next (s1.yarnDrop p 7)
      else .next (go (s1.yrnCount d 3 1) h true)

/-- The packets held in a context, die × 131,072 + number (R283). -/
def State.heldIn (s : State) (k : Nat) : List Held := SMap.get (fun _ => []) s.held k

/-- The state with the packets held in a context changed, and HELD with them. -/
def State.setHeld (s : State) (k : Nat) (l : List Held) : State :=
  ({ s with held := SMap.set (fun _ => []) s.held k l }).setFld F.YRN_CTX_HELD k (boolNat (!l.isEmpty))

/-- Distance of a sequence number from NEXT (Table 11-4). -/
def seqDist (seq next : Nat) : Nat := (seq + 65536 - next % 65536) % 65536

/-- A context has released, so it is no longer TIMED_OUT (R287). -/
def State.unmarkSeq (s : State) (k : Nat) : State := s.setFld F.YRN_CTX_TIMED_OUT k 0

/-- A packet leaves the resequencer through X10, in release order; its frame has wholly arrived (R236, R285). -/
def State.releaseSeq (s : State) (k id : Nat) : State :=
  match s.copy id with
  | some c => s.claimAt id { c with req := 10, fifo := 0, ctx := some k, arriving := false }
  | none => s

/-- Held packets are released while the lowest held SEQ equals NEXT, NEXT rising with each (Table 11-4). -/
def State.runSeq (s : State) (k : Nat) : Nat → State
  | 0 => s
  | n + 1 =>
    let next := s.fld F.YRN_CTX_NEXT k
    match (s.heldIn k).find? (fun h => h.seq == next) with
    | none => s
    | some h =>
      ((((s.setHeld k (removeFirst (fun x => x.seq == next) (s.heldIn k))).unmarkSeq k).setFld F.YRN_CTX_NEXT k
        ((next + 1) % 65536)).releaseSeq k h.copy).runSeq k n

/-- Release goes on as for d = 0. -/
def State.resumeSeq (s : State) (k : Nat) : State := s.runSeq k ((s.heldIn k).length + 1)

/-- Held packets nearer than `lim` to NEXT are released in SEQ order, and NEXT moves by `lim`; the numbers passed over are
counted in SKIPPED (R284). -/
def State.skipTo (s : State) (k lim : Nat) : State :=
  let next := s.fld F.YRN_CTX_NEXT k
  let near := (s.heldIn k).filter (fun h => seqDist h.seq next < lim)
  let order := near.foldl (fun l h => (l.takeWhile (fun x => seqDist x.seq next < seqDist h.seq next)) ++ [h] ++
    (l.dropWhile (fun x => seqDist x.seq next < seqDist h.seq next))) ([] : List Held)
  let s1 := (s.setHeld k ((s.heldIn k).filter (fun h => !(seqDist h.seq next < lim)))).when (!near.isEmpty) (fun t => t.unmarkSeq k)
  let s2 := order.foldl (fun t h => t.releaseSeq k h.copy) s1
  (s2.setFld F.YRN_CTX_NEXT k ((next + lim) % 65536)).yrnCount (k / 131072) 15 (lim - near.length)

/-- Every held packet of a context is released (R284). -/
def State.releaseAll (s : State) (k : Nat) : State :=
  let next := s.fld F.YRN_CTX_NEXT k
  let far := ((s.heldIn k).map (fun h => seqDist h.seq next + 1)).foldl max 0
  s.skipTo k far

/-- The gap before the lowest held packet of a context is closed: NEXT becomes its SEQ and release goes on (R287). -/
def State.closeGap (s : State) (k : Nat) : State :=
  let next := s.fld F.YRN_CTX_NEXT k
  let lo := ((s.heldIn k).map (fun h => seqDist h.seq next)).foldl min 65535
  if (s.heldIn k).isEmpty then s
  else (((s.skipTo k lo).resumeSeq k).yrnCount (k / 131072) 14 1).unmarkSeq k

/-- Packets and cells held by the engine of a die (R286). -/
def State.heldPkts (s : State) (d : Nat) : List Held := (s.held.filter (fun e => e.1 / 131072 == d)).flatMap (fun e => e.2)
def State.heldCells (s : State) (d : Nat) : Nat :=
  ((s.heldPkts d).map (fun h => (s.copy h.copy).elim 0 (fun c => cellsOf c.bytes.length))).sum

/-- A copy is held, or dropped where the engine has no room (R286). -/
def State.holdSeq (s : State) (k id seq : Nat) (c : Copy) : State :=
  let d := k / 131072
  if 16384 < s.heldCells d + cellsOf c.bytes.length || 8192 ≤ (s.heldPkts d).length then
    ((s.yrnCount d 17 1).fault 16 3 d (k % 131072)).release id c
  else (s.unstage id c).setHeld k (s.heldIn k ++ [⟨seq, id, 0⟩])

/-- A copy is delivered: straight to the crossbar input of its source when nothing of its context is held or waits, through
X10 otherwise (R285). -/
def State.deliverSeq (s : State) (k id : Nat) (c : Copy) : State :=
  let busy := !(s.heldIn k).isEmpty || (s.buf c.die).claims.any (fun e => match e.2 with
    | .copy x => (s.copy x).elim false (fun y => y.ctx == some k)
    | .fetch _ => false)
  if busy then (s.unstage id c).releaseSeq k id else s.claimAt id c

/-- Table 11-4 for one copy. -/
def State.seqArrive (s : State) (k id seq : Nat) (c : Copy) : State :=
  let next := s.fld F.YRN_CTX_NEXT k
  let d := seqDist seq next
  if d = 0 then ((s.deliverSeq k id c).setFld F.YRN_CTX_NEXT k ((next + 1) % 65536)).resumeSeq k
  else if d < 4096 then s.holdSeq k id seq c
  else if d < 32768 then
    (((s.skipTo k (d - 4095)).resumeSeq k).yrnCount (k / 131072) 16 1).holdSeq k id seq c
  else (s.yrnCount (k / 131072) 13 1).release id c

/-- RESEQ_ARRIVE: the next TYPE 0 copy reaches the resequencer of die `d` (R284 to R286). -/
def execReseqArrive (d : Fin 2) (s : State) : Res :=
  let s0 := s.begin
  match SMap.get (fun _ => []) s0.rsq d.val with
  | [] => .next s0
  | id :: rest =>
    let s1 := { s0 with rsq := SMap.set (fun _ => []) s0.rsq d.val rest }
    match s1.copy id with
    | none => .next s1
    | some c =>
      match c.yarn with
      | none => .next s1
      | some h =>
        let k := d.val * 131072 + h.src * 8 + c.tc
        let s2 := if s1.bit F.YRN_CTX_ACTIVE k && s1.fld F.YRN_CTX_EPOCH k == h.epoch then s1
          else (((s1.releaseAll k).setFld F.YRN_CTX_EPOCH k h.epoch).setFld F.YRN_CTX_NEXT k h.seq).setFld F.YRN_CTX_ACTIVE k 1
        .next (s2.seqArrive k id h.seq c)

/-- The age of a context: edges since its oldest held packet arrived (R287). -/
def State.seqAge (s : State) (k : Nat) : Nat := ((s.heldIn k).map (fun h => h.age)).foldl max 0

/-- RESEQ_TIMEOUT: the age of a context has reached TIMEOUT, or it was marked and RESEQ is 0 (R287). -/
def execReseqTimeout (d : Fin 2) (x : Fin 131072) (s : State) : Res :=
  let s0 := s.begin
  let k := d.val * 131072 + x.val
  let marked := s0.bit F.YRN_CTX_TIMED_OUT k
  if (s0.heldIn k).isEmpty || !(marked || max 1 (s0.fld F.YRN_RESEQ_CFG_TIMEOUT 0) ≤ s0.seqAge k) then .next s0
  else if !s0.split 10 then .next (s0.closeGap k)
  else if marked then .next s0
  else
    let next := s0.fld F.YRN_CTX_NEXT k
    let lo := ((s0.heldIn k).map (fun h => seqDist h.seq next)).foldl min 65535
    let body := leBytes 4 x.val ++ leBytes 4 (next + (next + lo) % 65536 * 65536) ++ leBytes 4 ((s0.heldIn k).length)
    .next (((s0.setFld F.YRN_CTX_TIMED_OUT k 1).yrnCount d.val 18 1).notify 8 d.val 0 0 body)

/-- A write of YRN_RESEQ_CMD: with GO the context is released at the next edge (R288). -/
def State.writeReseqCmd (s : State) (mask v : BitVec 64) : State :=
  let s1 := s.plainWrite .YRN_RESEQ_CMD 0 mask v
  if wbit mask v 31 then
    let k := s1.fld F.YRN_RESEQ_CMD_DIE 0 * 131072 + s1.fld F.YRN_RESEQ_CMD_CTX 0
    { s1 with rsqGo := s1.rsqGo ++ [(k, s1.fld F.YRN_CTX_NEXT k)] } else s1

/-- RESEQ_CMD (R288). -/
def execReseqCmd (a : Agent) (v : BitVec 32) (s : State) : Res :=
  .next (s.begin.writeBy a .YRN_RESEQ_CMD 0 (fun t => t.writeReseqCmd low32 (v.setWidth 64)))

/-- A commanded release: none where the gap has been filled since, so that NEXT has moved on (R288). -/
def State.closeNamed (s : State) (e : Nat × Nat) : State := if s.fld F.YRN_CTX_NEXT e.1 = e.2 then s.closeGap e.1 else s

/-- The edge's work on contexts: commanded releases, then ages advance (R287, R288). -/
def State.edgeReseq (s : State) : State :=
  let s1 := s.rsqGo.foldl State.closeNamed { s with rsqGo := [] }
  { s1 with held := SMap.update (fun _ => []) (fun _ l => l.map (fun h => { h with age := h.age + 1 })) s1.held }

/-- A write of YRN_ID: one that writes EPOCH restarts the sequencer, and is the EPOCH that the device used last (R279,
R290). -/
def State.writeYrnId (s : State) (mask v : BitVec 64) : State :=
  let s1 := s.plainWrite .YRN_ID 0 mask v
  if getField mask 16 8 = 0 then s1 else { s1 with seqs := [], boot := { s1.boot with epoch := s1.fld F.YRN_ID_EPOCH 0 } }

/-- YRN_ID_WRITE (R279). -/
def execYrnIdWrite (a : Agent) (v : BitVec 32) (s : State) : Res :=
  .next (s.begin.writeBy a .YRN_ID 0 (fun t => t.writeYrnId low32 (v.setWidth 64)))

end Sys2Proof.Machine
end

