-- ==== Sys2Proof/Machine/Respond.lean ====
section
/-! DEFINITION. The message responders: ARP, neighbour solicitation, echo, BFD and LACP (spec/08, R222 to R229). -/

namespace Sys2Proof.Machine

/-- ACT_CNT of a pipeline. -/
def State.actCount (s : State) (n i : Nat) : State := s.bump .ACT_CNT (n * 25 + i) 1

/-- The offset of the EtherType behind the VLAN tags that the outer logic reads (R103, R223). -/
def State.etherAt (s : State) (n : Nat) (b : Bytes) : Nat := 12 + 4 * outerTags (s.fld F.STE_OUTER_CFG_TPID_X n) b

/-- A frame carries IPv4 without options or IPv6 at `o`, with this next protocol: the offset of what it carries, and whether
it is IPv6. -/
def l4At (b : Bytes) (o proto4 proto6 : Nat) : Option (Nat × Bool) :=
  if beAt b o 2 = 0x0800 && beAt b (o + 2) 1 == 0x45 && beAt b (o + 11) 1 == proto4 && o + 22 ≤ b.length then some (o + 22, false)
  else if beAt b o 2 = 0x86DD && beAt b (o + 2) 1 / 16 == 6 && beAt b (o + 8) 1 == proto6 && o + 42 ≤ b.length then some (o + 42, true)
  else none

/-- The TTL or hop limit of the packet at EtherType offset `o`. -/
def ttlAt (b : Bytes) (o : Nat) (v6 : Bool) : Nat := if v6 then beAt b (o + 9) 1 else beAt b (o + 10) 1

/-- Ones' complement sum of the ICMPv6 message of `len` bytes at `p` with its pseudo-header (addresses at `o` + 10). -/
def icmp6Sum (b : Bytes) (o p len : Nat) : Nat :=
  onesSum (sliceZ b (o + 10) 32 ++ beBytes 4 len ++ beBytes 4 58 ++ sliceZ b p len)

/-- Length of the IPv4 packet's payload, or of the IPv6 payload (its header's length field). -/
def ipPayload (b : Bytes) (o : Nat) (v6 : Bool) : Nat := if v6 then beAt b (o + 6) 2 else beAt b (o + 4) 2 - 20

/-- The accepted form of an echo request (Table 8-8). -/
def echoForm (b : Bytes) (o : Nat) (v6 : Bool) : Bool :=
  match l4At b o 1 58 with
  | none => false
  | some (p, six) =>
    let len := ipPayload b o six
    six == v6 && b.length ≤ 1514 && 8 ≤ len && p + len ≤ b.length && beAt b (p + 1) 1 == 0 &&
      (if v6 then beAt b p 1 == 128 && beAt b (o + 26) 1 != 255 && icmp6Sum b o p len == 65535
       else beAt b p 1 == 8 && beAt b (o + 8) 2 % 16384 == 0 && onesSum (sliceZ b p len) == 65535)

/-- The accepted form of a request of a kind (Table 8-8). -/
def State.rspForm (s : State) (n kind : Nat) (b : Bytes) : Bool :=
  let o := s.etherAt n b
  match kind with
  | 1 => beAt b o 2 == 0x0806 && o + 30 ≤ b.length && beAt b (o + 2) 8 == 0x0001080006040001 &&
      sliceZ b (o + 16) 4 != sliceZ b (o + 26) 4
  | 2 =>
    match l4At b o 256 58 with
    | some (p, true) =>
      let len := ipPayload b o true
      24 ≤ len && p + len ≤ b.length && beAt b p 2 == 0x8700 && ttlAt b o true == 255 && beAt b (o + 10) 16 != 0 &&
        icmp6Sum b o p len == 65535
    | _ => false
  | 3 => echoForm b o false
  | 4 => echoForm b o true
  | 5 =>
    match l4At b o 17 17 with
    | some (p, six) => p + 32 ≤ b.length && beAt b (p + 2) 2 == 3784 && ttlAt b o six == 255 && beAt b (p + 8) 1 / 32 == 1 &&
        beAt b (p + 9) 1 % 8 / 4 + beAt b (p + 9) 1 % 2 == 0
    | none => false
  | _ => false

/-- A checksum over bytes whose checksum field is zero. -/
def csumOf (b : Bytes) : Bytes := beBytes 2 (65535 - onesSum b)

/-- The reply to a request of an accepted form (Table 8-8): `mac` the port's address, `rtr` the R flag, `ttl` of echo
replies. Fields that the table does not name are as in the request. -/
def reply (o kind mac rtr ttl : Nat) (b : Bytes) : Bytes :=
  let eth := sliceZ b 6 6 ++ beBytes 6 mac ++ sliceZ b 12 (o - 12)
  match kind with
  | 1 => eth ++ sliceZ b o 8 ++ beBytes 2 2 ++ beBytes 6 mac ++ sliceZ b (o + 26) 4 ++ sliceZ b (o + 10) 6 ++ sliceZ b (o + 16) 4
  | 2 =>
    let target := sliceZ b (o + 50) 16
    let dst := sliceZ b (o + 10) 16
    let msg (cs : Bytes) : Bytes :=
      [0x88, 0] ++ cs ++ beBytes 4 (rtr * 2 ^ 31 + 2 ^ 30 + 2 ^ 29) ++ target ++ [2, 1] ++ beBytes 6 mac
    let cs := csumOf (target ++ dst ++ beBytes 4 32 ++ beBytes 4 58 ++ msg [0, 0])
    eth ++ sliceZ b o 6 ++ beBytes 2 32 ++ [58, 255] ++ target ++ dst ++ msg cs
  | 3 =>
    let head (cs : Bytes) : Bytes :=
      sliceZ b (o + 2) 8 ++ beBytes 1 ttl ++ sliceZ b (o + 11) 1 ++ cs ++ sliceZ b (o + 18) 4 ++ sliceZ b (o + 14) 4
    let len := ipPayload b o false
    let body := sliceZ b (o + 26) (len - 4)
    eth ++ sliceZ b o 2 ++ head (csumOf (head [0, 0])) ++ [0, 0] ++ csumOf ([0, 0, 0, 0] ++ body) ++ body ++ b.drop (o + 22 + len)
  | _ =>
    let len := ipPayload b o true
    let body := sliceZ b (o + 46) (len - 4)
    let cs := csumOf (sliceZ b (o + 10) 32 ++ beBytes 4 len ++ beBytes 4 58 ++ [129, 0, 0, 0] ++ body)
    eth ++ sliceZ b o 9 ++ beBytes 1 ttl ++ sliceZ b (o + 26) 16 ++ sliceZ b (o + 10) 16 ++ [129, 0] ++ cs ++ body ++
      b.drop (o + 42 + len)

/-- A copy that a block of the device makes of bytes of its own, to a port with a class (R225). -/
def Copy.own (kind : CopyKind) (port tc : Nat) (bytes : Bytes) : Copy :=
  { die := 0, lp := 0, port := port, queue := 0, bytes := bytes, md := List.replicate 128 0, kind := kind, tc := tc, colour := 0,
    group := none, req := 0, fifo := 0, stage := none, reason := 0, yarn := none, xuser := none, tx := none, chart := none, need := 0, cells := [],
    cut := false, linked := false, poison := false, late := false, bad := false, tag := 0, egSet := 0, egBudget := 0, mode := 0, hr := 0, sh := 0,
    fetched := 0, fsh := 0, done := false, sel := false, len := 0, solo := false, arriving := false, twoStep := false, ctx := none }

/-- A responder's or timer's frame is passed to the BPM of its port's die as requester 11 (R225, Table 9-2). -/
def State.sendOwn (s : State) (port tc : Nat) (bytes : Bytes) : State :=
  let c := Copy.own .reply port tc bytes
  let c1 := { c with mode := s.curMode, yarn := if s.isYarn port then some (s.localHdr 2 0) else none }
  s.claim (c1.route (port / 8) port (portQueue (localPort port).2 tc))

/-- Responders, BFD and LACP send nothing in READY (R420). -/
def State.repliesHeld (s : State) : Bool := s.curMode == 3

/-- RESPONDER_REPLY: the request at the head of the responder's queue of pipeline `n` is answered; in READY it waits (R223, R225,
R420). -/
def execResponderReply (n : Fin 16) (s : State) : Res :=
  let s0 := s.begin
  let q := s0.pipe n.val
  match if s0.repliesHeld then [] else q.replies with
  | [] => .next s0
  | (kind, b, port) :: rest =>
    let s1 := (s0.setPipe n.val { q with replies := rest }).actCount n.val 15
    let f := reply (s1.etherAt n.val b) kind (s1.fld F.ACT_PORT_MAC_MAC port) (s1.fld F.ACT_PORT_MAC_RTR port)
      (s1.fld F.ACT_RSP_CFG_TTL n.val) b
    .next (s1.sendOwn port (s1.fld F.ACT_RSP_CFG_TC n.val) f)

/-- The split bit that governs a responder kind (R222). -/
def rspSplit (kind : Nat) : Nat := if kind ≤ 2 then 2 else if kind ≤ 4 then 3 else 4

/-- The host-copy reason of a responder kind: 0 is handled as 1 (ACT_RSP_REASON). -/
def State.rspReason (s : State) (n kind : Nat) : Nat := max 1 (getField (s.reg .ACT_RSP_REASON n) (8 * kind) 8)

/-- A request of kinds 1 to 4 is queued, or dropped for want of rate or room (R224). -/
def State.rspQueue (s : State) (n kind : Nat) (b : Bytes) (port : Nat) : State :=
  let q := s.pipe n
  if q.buckets.getD (kind - 1) 0 < 256 || 64 ≤ q.replies.length then s.actCount n 17
  else s.setPipe n { q with
    buckets := modifyAt q.buckets (kind - 1) (· - 256)
    replies := q.replies ++ [(kind, b, port)] }

/-- The responder buckets' refill at item 4 of an edge (R224). -/
def State.edgeResponders (s : State) : State :=
  s.each (List.range 16) (fun t n =>
    let q := t.pipe n
    let b := (List.range 4).map (fun k => min (max 1 (t.fld F.ACT_RSP_RATE_BURST (n * 4 + k)) * 256)
      (q.buckets.getD k 0 + t.fld F.ACT_RSP_RATE_RATE (n * 4 + k)))
    t.setPipe n { q with buckets := b })

/-- The timers of a BFD session, pipeline × 256 + number. -/
def State.bfdOf (s : State) (k : Nat) : BfdSt := SMap.get (fun _ => ⟨0, 0⟩) s.bfd k

/-- The state with the timers of a session changed, and SINCE_RX with them (Table 8-14). -/
def State.setBfd (s : State) (k : Nat) (b : BfdSt) : State :=
  ({ s with bfd := SMap.set (fun _ => ⟨0, 0⟩) s.bfd k b }).setFld F.ACT_BFD_STS_SINCE_RX k (min 65535 b.since)

/-- My Discriminator of a session (R226). -/
def State.discOf (s : State) (k : Nat) : Nat := s.fld F.ACT_RSP_CFG_DISC_HI (k / 256) * 4096 + k

/-- A session goes Down with a diagnostic (R227). -/
def State.bfdDown (s : State) (k diag : Nat) : State :=
  let n := k / 256
  let s1 := ((s.setFld F.ACT_BFD_STS_STATE k 1).setFld F.ACT_BFD_STS_DIAG k diag).setFld F.ACT_BFD_STS_DOWN_EV k 1
  (s1.notify 7 (pipeDie n) (k % 256) 0 (leBytes 4 (n + diag * 16) ++ leBytes 4 (s.discOf k))).actCount n 21

/-- A BFD packet of accepted form: whether it makes a host copy, and what it does to its session (Table 8-9). `n` is the
pipeline that received it. -/
def State.bfdReceive (s : State) (n : Nat) (b : Bytes) : Bool × State :=
  match l4At b (s.etherAt n b) 17 17 with
  | none => (true, s)
  | some (p, _) =>
    let d := beAt b (p + 16) 4
    let k := d % 4096
    let st := s.fld F.ACT_BFD_STS_STATE k
    if d / 4096 ≠ s.fld F.ACT_RSP_CFG_DISC_HI n || !s.bit F.ACT_BFD_CTL_EN k || st == 0 then (true, s.actCount n 20)
    else
      let flags := beAt b (p + 9) 1
      let rx := flags / 64
      let again := s.setBfd k { s.bfdOf k with since := 0 }
      if bitOf flags 5 || bitOf flags 4 then (true, if st = 3 then again else s)
      else if rx = 3 then (if st = 3 then (false, again.actCount n 19) else (true, s))
      else if rx = 2 then (true, s)
      else (true, if st = 3 then s.bfdDown k 3 else s)

/-- A write of ACT_BFD_CTL: while EN is 1 only EN is written, and a change of other fields is refused; EN written 0 ends the
session, STATE being 0 while EN is (R227, Table 8-14). -/
def State.writeBfdCtl (s : State) (k : Nat) (mask v : BitVec 64) : State :=
  let old := s.reg .ACT_BFD_CTL k
  let new := Reg.written .ACT_BFD_CTL old mask v
  if old.getLsbD 0 then
    let s1 := s.setReg .ACT_BFD_CTL k (putField old 0 1 (boolNat (new.getLsbD 0)))
    let s2 := if new.getLsbD 0 then s1 else (s1.setFld F.ACT_BFD_STS_STATE k 0).setBfd k ⟨0, 0⟩
    if (old ^^^ new) &&& ~~~ (1 : BitVec 64) = 0 then s2 else s2.setFld F.ACT_BFD_STS_REFUSED k 1
  else s.setReg .ACT_BFD_CTL k new

/-- BFD_CTL_WRITE (R227). -/
def execBfdCtlWrite (a : Agent) (n : Fin 16) (x : Fin 256) (v : BitVec 64) (s : State) : Res :=
  let k := n.val * 256 + x.val
  .next (s.begin.writeBy a .ACT_BFD_CTL k (fun t => t.writeBfdCtl k all64 v))

/-- A write of a session's FMT or template: discarded while EN is 1 (R227). -/
def State.writeBfdFixed (s : State) (r : Reg) (i k : Nat) (mask v : BitVec 64) : State :=
  if s.bit F.ACT_BFD_CTL_EN k then s.setFld F.ACT_BFD_STS_REFUSED k 1 else s.plainWrite r i mask v

/-- The first `n` bytes held in big-endian registers. -/
def State.regBytes (s : State) (r : Reg) (i n : Nat) : Bytes :=
  ((List.range ((n + 3) / 4)).flatMap (fun w => beBytes 4 (s.reg r (i + w)).toNat)).take n

/-- The incremental update of a checksum when a 16-bit word at even offset changes (RFC 1624). -/
def csumUpdate (cs old new : Nat) : Nat :=
  let t := (65535 - cs) + (65535 - old) + new
  let u := t % 65536 + t / 65536
  65535 - (u % 65536 + u / 65536)

/-- The frame that a session sends: its template, marked Down while it is, with the UDP checksum updated; a result of 0 is
sent as all ones (R227, log entry 10). -/
def State.bfdFrame (s : State) (k : Nat) : Bytes :=
  let len := min 96 (s.fld F.ACT_BFD_FMT_LEN k)
  let b := s.regBytes .ACT_BFD_TPL (k * 24) len
  if s.fld F.ACT_BFD_STS_STATE k = 1 then
    let o := s.fld F.ACT_BFD_FMT_BFD_OFF k
    let u := s.fld F.ACT_BFD_FMT_UCS_OFF k
    let w0 := beAt b o 1 / 32 * 32 + s.fld F.ACT_BFD_STS_DIAG k
    let w1 := beAt b (o + 1) 1 % 16 + 64
    let b1 := overwrite b o (beBytes 1 w0 ++ beBytes 1 w1)
    let cs := beAt b u 2
    let at_ := o / 2 * 2
    let step (c i : Nat) : Nat := csumUpdate c (beAt b i 2) (beAt b1 i 2)
    let cs1 := if o % 2 = 0 then step cs at_ else step (step cs at_) (at_ + 2)
    if u = 0x7F || cs = 0 then b1 else overwrite b1 u (beBytes 2 (if cs1 = 0 then 65535 else cs1))
  else b

/-- BFD_TX: a session's interval has ended, by up to a quarter early: its frame is sent, or skipped while its port is not UP
or in READY (R225, R227, R229, R420; log entry 66). -/
def execBfdTx (n : Fin 16) (x : Fin 256) (s : State) : Res :=
  let s0 := s.begin
  let k := n.val * 256 + x.val
  let int := s0.fld F.ACT_BFD_CTL_TX_INT k
  let port := 8 * n.val + s0.fld F.ACT_BFD_CTL_SLOT k
  if s0.fld F.ACT_BFD_STS_STATE k = 0 || int = 0 || s0.split 4 || (s0.bfdOf k).sent < int - int / 4 then .next s0
  else
    let s1 := s0.setBfd k { s0.bfdOf k with sent := 0 }
    if s1.portState port ≠ 2 || s1.repliesHeld then .next s1
    else .next ((s1.actCount n.val 18).sendOwn port (s1.fld F.ACT_BFD_CTL_TC k) (s1.bfdFrame k))

/-- BFD_DETECT_EXPIRE: DET ticks have passed in Up with no restart (R227). -/
def execBfdDetectExpire (n : Fin 16) (x : Fin 256) (s : State) : Res :=
  let s0 := s.begin
  let k := n.val * 256 + x.val
  let det := s0.fld F.ACT_BFD_CTL_DET k
  if s0.fld F.ACT_BFD_STS_STATE k ≠ 3 || det = 0 || s0.split 4 || (s0.bfdOf k).since < det then .next s0
  else .next (s0.bfdDown k 1)

/-- LACP_TX: the port of slot `j` sends its LACPDU, or skips it while it is not UP or in READY (R225, R228, R229, R420; log
entry 66). -/
def execLacpTx (n : Fin 16) (j : Fin 8) (s : State) : Res :=
  let s0 := s.begin
  let p := 8 * n.val + j.val
  let t := SMap.get (fun _ => 0) s0.lacp p
  if !s0.bit F.ACT_LACP_CTL_EN p || s0.bit F.ACT_LACP_CTL_HOLD p || s0.split 5 || t < max 1 (s0.fld F.ACT_LACP_CTL_PERIOD p) then .next s0
  else
    let s1 := { s0 with lacp := SMap.set (fun _ => 0) s0.lacp p 0 }
    if s1.portState p ≠ 2 || s1.repliesHeld then .next s1
    else .next ((s1.actCount n.val 22).sendOwn p 7 (s1.regBytes .ACT_LACP_PDU (p * 31) 124))

/-- The timers of a session at an edge: it starts, stops, starts afresh as BFD returns to hardware, or counts a tick
(R227, R229). -/
def State.edgeBfd (fresh : Bool) (s : State) (k : Nat) : State :=
  let en := s.bit F.ACT_BFD_CTL_EN k
  let st := s.fld F.ACT_BFD_STS_STATE k
  if !en then (if st = 0 then s else (s.setFld F.ACT_BFD_STS_STATE k 0).setBfd k ⟨0, 0⟩)
  else if st = 0 then (s.setFld F.ACT_BFD_STS_STATE k 3).setBfd k ⟨0, 0⟩
  else if fresh then s.setBfd k ⟨0, 0⟩
  else if s.split 4 then s
  else s.setBfd k ⟨(s.bfdOf k).since + 1, (s.bfdOf k).sent + 1⟩

/-- The edge's work on BFD sessions and LACP ports; `was` is GLB_SPLIT_EFF before the edge (R227 to R229). -/
def State.edgeTimers (s : State) (was : Nat) : State :=
  let listed (r : Reg) : List Nat := (s.regs.filter (fun e => e.1 % 256 == r.code)).map (fun e => e.1 / 256)
  let run := ((listed .ACT_BFD_CTL) ++ (listed .ACT_BFD_STS)).eraseDups
  let s1 := s.each run (State.edgeBfd (bitOf was 4 && !s.split 4))
  s1.each (listed .ACT_LACP_CTL) (fun t p =>
    if t.bit F.ACT_LACP_CTL_EN p then
      let v := if (bitOf was 5 && !t.split 5) || !t.effBit F.ACT_LACP_CTL_EN p || t.split 5 then 0
        else SMap.get (fun _ => 0) t.lacp p + 1
      { t with lacp := SMap.set (fun _ => 0) t.lacp p v }
    else { t with lacp := SMap.set (fun _ => 0) t.lacp p 0 })

end Sys2Proof.Machine
end

