-- ==== Sys2Proof/Machine/Tcam.lean ====
section
/-! DEFINITION. Associative search: panels, profiles, pivots, range comparators, panel queues, fallback, twins
(spec/07, R182 to R206). -/

namespace Sys2Proof.Machine

/-- The die of a panel. -/
def panelDie (q : Nat) : Nat := q / 24

/-- The bank group of panel `q` is on. -/
def State.panelOn (s : State) (q : Nat) : Bool := s.domOn (36 + q / 6)

/-- Slots per entry at a WIDTH code (R183). -/
def widthSlots (w : Nat) : Nat := 2 ^ w

/-- A TCM_CNT counter of die `d`. -/
def State.tcmCount (s : State) (d i n : Nat) : State := s.bump .TCM_CNT (d * 12 + i) n

/-- The contents of a slot, and the validity of the entry at a first slot. -/
def State.tslot (s : State) (i : Nat) : TSlot := SMap.get (fun _ => ⟨0, 0⟩) s.tslots i
def TVal.none : TVal := ⟨0, false, false, false⟩
def State.tval (s : State) (i : Nat) : TVal := SMap.get (fun _ => TVal.none) s.tvals i
def State.setTslot (s : State) (i : Nat) (v : TSlot) : State := { s with tslots := SMap.set (fun _ => ⟨0, 0⟩) s.tslots i v }
def State.setTval (s : State) (i : Nat) (v : TVal) : State := { s with tvals := SMap.set (fun _ => TVal.none) s.tvals i v }

/-- The panel of a slot (R182). -/
def slotPanel (i : Nat) : Nat := i / 32768

/-- First slots of panel `q` that hold an entry valid in some state or tag, rising. -/
def State.panelEntries (s : State) (q : Nat) : List Nat := SMap.keysWhere (fun _ => true) (s.tvals.filter (fun e => slotPanel e.1 == q))

/-- LIVE of a panel: an entry is valid in the current or a retained state (Table 7-5). -/
def State.panelLive (s : State) (q : Nat) : Bool :=
  (s.panelEntries q).any (fun i => let v := s.tval i; v.cur || v.one || v.two)

/-- ENTRIES of a panel: entries valid in the current state (Table 7-5). -/
def State.panelCount (s : State) (q : Nat) : Nat := ((s.panelEntries q).filter (fun i => (s.tval i).cur)).length

/-- The twin's state of panel `q`: 0 OFF, 1 COPY, 2 ACTIVE, 3 RELEASE (Table 7-1). -/
def State.twinState (s : State) (q : Nat) : Nat := s.fld F.TCM_PANEL_STS_TWIN_STATE q

/-- Panel `q` names a twin, in force or still to be released (R194). -/
def State.isPrimary (s : State) (q : Nat) : Bool :=
  s.bit F.TCM_PANEL_CFG_TWIN_EN q || (SMap.get (fun _ => ⟨false, 0, 0⟩) s.twins q != (⟨false, 0, 0⟩ : Twin))

/-- The panel that is the twin of panel `q`. -/
def State.twinOf (s : State) (q : Nat) : Nat := q / 24 * 24 + s.fld F.TCM_PANEL_CFG_TWIN q

/-- The primary whose twin panel `q` is. -/
def State.primaryOf (s : State) (q : Nat) : Option Nat :=
  ((List.range 24).map (q / 24 * 24 + ·)).find? (fun p => s.isPrimary p && s.twinOf p == q)

/-- The twin's state of the pair whose primary is panel `q`, beside its registers. -/
def State.twin (s : State) (q : Nat) : Twin := SMap.get (fun _ => ⟨false, 0, 0⟩) s.twins q
def State.setTwin (s : State) (q : Nat) (v : Twin) : State := { s with twins := SMap.set (fun _ => ⟨false, 0, 0⟩) s.twins q v }

/-- TWIN_STATE of a pair, shown on both panels. -/
def State.setTwinState (s : State) (q v : Nat) : State :=
  (s.setFld F.TCM_PANEL_STS_TWIN_STATE q v).setFld F.TCM_PANEL_STS_TWIN_STATE (s.twinOf q) v

/-- Key bytes of a profile's width (R183). -/
def State.profBytes (s : State) (p : Nat) : Nat := 10 * 2 ^ s.eff F.TCM_PROF_CFG_WIDTH p

/-- The range vector of profile `p` over a key, for a search of pipeline `n` (R191). -/
def State.rangeVector (s : State) (n p : Nat) (key : Bytes) : Nat :=
  ((List.range 64).map (fun c =>
    let k := n * 64 + c
    let off := s.eff F.RCM_CMP_OFF k
    let v := beAt key off 2
    if s.effBit F.RCM_CMP_EN k && off + 1 < key.length && s.eff F.RCM_CMP_LOW k ≤ v && v ≤ s.eff F.RCM_CMP_HIGH k &&
        bitOf (s.eff F.TCM_PROF_RCMASK_RC p) c then 2 ^ c else 0)).sum

/-- The key as searched: with the range vector in it where RC_EN is 1 and it fits (R186 step 3, R191). -/
def State.searchKey (s : State) (n p : Nat) (raw : Bytes) : Bytes :=
  let off := s.eff F.TCM_PROF_CFG_RV_OFF p
  if s.effBit F.TCM_PROF_CFG_RC_EN p && off + 7 < raw.length then overwrite raw off (beBytes 8 (s.rangeVector n p raw)) else raw

/-- `len` key bits from bit position `pos`, position 0 being bit 7 of byte 0; bits past the key read 0 (R188). -/
def keyBits (key : Bytes) (pos len : Nat) : Nat :=
  (List.range len).foldl (fun a i => a * 2 + boolNat (bitOf (key.getD ((pos + i) / 8) 0).toNat (7 - (pos + i) % 8))) 0

/-- The pivot index of a key under profile `p` (R188). -/
def State.pivotIndex (s : State) (p : Nat) (key : Bytes) : Nat :=
  let l0 := min 12 (s.eff F.TCM_PROF_CFG_F0_LEN p)
  let l1 := min (12 - l0) (s.eff F.TCM_PROF_CFG_F1_LEN p)
  (s.eff F.TCM_PROF_CFG_PIV_BASE p + (keyBits key (s.eff F.TCM_PROF_CFG_F0_POS p) l0 * 2 ^ l1 +
    keyBits key (s.eff F.TCM_PROF_CFG_F1_POS p) l1)) % 4096

/-- The panel set of a search on die `d` under a tag (R186 step 4, R189). -/
def State.panelSet (s : State) (d tag p : Nat) (key : Bytes) : List Nat :=
  let pm := s.eff F.TCM_PROF_PMASK_PANELS p
  if s.effBit F.TCM_PROF_CFG_PIV_EN p then
    let e := (SMap.get (fun _ => 0) (s.tabsAt tag).piv (d * 4096 + s.pivotIndex p key)).toNat
    (onesOf 48 pm).filter (fun q => !bitOf e 48 || bitOf e q)
  else onesOf 48 pm

/-- The global mask of a profile, as bytes of the key (Table 7-6). -/
def State.globalMask (s : State) (p : Nat) : Bytes :=
  (List.range 20).flatMap (fun i => beBytes 4 (s.eff F.TCM_PROF_GMASK_GMASK (p * 20 + i)))

/-- The lookups queued at panel `q`. -/
def State.panelQueue (s : State) (q : Nat) : List Nat := SMap.get (fun _ => []) s.tqueue q

/-- The state with the queue of panel `q` set. -/
def State.setPanelQueue (s : State) (q : Nat) (l : List Nat) : State := { s with tqueue := SMap.set (fun _ => []) s.tqueue q l }

/-- The queue that a search of panel `q` enters, and whether the other member of a pair took it (R196); none where it is
full. `taken`: the queues that the same search enters for other panels. -/
def State.panelTarget (s : State) (taken : List Nat) (q : Nat) : Option (Nat × Bool) :=
  let room (x : Nat) : Bool := (s.panelQueue x).length + taken.count x < 32
  if s.isPrimary q && s.twinState q == 2 then
    let t := if (s.twin q).turn then s.twinOf q else q
    let o := if (s.twin q).turn then q else s.twinOf q
    if room t then some (t, false) else if room o then some (o, true) else none
  else if room q then some (q, false) else none

/-- A lookup in flight. -/
def State.lookup (s : State) (k : Nat) : Option Lookup := SMap.get (fun _ => none) s.lookups k
def State.setLookup (s : State) (k : Nat) (v : Option Lookup) : State :=
  { s with lookups := SMap.set (fun _ => none) s.lookups k v }

/-- The queues that a search of panels `qs` enters, each with its panel; none where one has no room (R192). -/
def State.panelTargets (s : State) (qs : List Nat) : Option (List ((Nat × Bool) × Nat)) :=
  qs.foldl (fun acc q => acc.bind (fun ts => (s.panelTarget (ts.map (fun e => e.1.1)) q).map (fun t => ts ++ [(t, q)]))) (some [])

/-- The pipeline that issued a lookup. -/
def Lookup.pipe (lk : Lookup) : Nat := enginePipe (lk.needle / 96)

/-- The core clock: TIK_COUNT and TIK_CLK. -/
def State.now (s : State) : BitVec 64 × Nat := (s.tikCount, s.fld F.TIK_CLK_CLK 0)

/-- The lookup is one of the other die that entered its queues in this clock, so that a search of the panel's own die goes
ahead of it (R192). -/
def State.yields (s : State) (q k : Nat) : Bool :=
  (s.lookup k).any (fun lk => lk.entered == some s.now && pipeDie lk.pipe != panelDie q)

/-- Lookup `k` placed in the queue of panel `q`: behind what is there, but for searches of the other die that came in this
clock when it is one of the panel's own (R192). -/
def State.placed (s : State) (k q : Nat) : List Nat :=
  let l := s.panelQueue q
  if (s.lookup k).any (fun lk => pipeDie lk.pipe == panelDie q)
  then l.takeWhile (fun x => !s.yields q x) ++ [k] ++ l.dropWhile (fun x => !s.yields q x)
  else l ++ [k]

/-- Lookup `k` enters the queue of panel `q` (R192, R196). -/
def State.enterPanel (s : State) (k : Nat) (t : Nat × Bool) (q : Nat) : State :=
  let l := s.placed k t.1
  let s1 := s.setPanelQueue t.1 l
  let s2 := s1.setFld F.TCM_PANEL_STS_QMAX t.1 (max l.length (s1.fld F.TCM_PANEL_STS_QMAX t.1))
  let s3 := if t.2 then s2.tcmCount (panelDie q) 7 1 else s2
  let s4 := if s3.isPrimary q && s3.twinState q == 2 then s3.setTwin q { s3.twin q with turn := !(s3.twin q).turn } else s3
  match s4.lookup k with
  | some lk => s4.setLookup k (some { lk with todo := lk.todo ++ [(t.1, q)] })
  | none => s4

/-- Lookup `k` enters the queues of all its panels, or of none: then it is to be tried again, or falls back for good
(R192, R193). `k` is a record whose panels are `qs`. -/
def State.tryPanels (s : State) (k d : Nat) (qs : List Nat) : State :=
  match s.lookup k with
  | none => s
  | some lk =>
    match s.panelTargets qs with
    | some ts =>
      let s1 := s.setLookup k (some { lk with waits := none, entered := some s.now })
      ts.foldl (fun u e => u.enterPanel k e.1 e.2) s1
    | none =>
      let s1 := s.gauge! (16 + d) 0x4B 1
      if lk.fb then (s1.tcmCount d 5 1).setLookup k (some { lk with answer := some ⟨5, []⟩, waits := none })
      else match lk.waits with
        | none => (s1.tcmCount d 3 1).setLookup k (some { lk with waits := some 0 })
        | some w => s1.setLookup k (some { lk with waits := some (w + 1) })

/-- The panels of a lookup's set that have the profile's width, and those that do not (R186 step 5). -/
def State.widthPanels (s : State) (p : Nat) (qs : List Nat) : List Nat :=
  qs.filter (fun q => s.eff F.TCM_PANEL_CFG_WIDTH q == s.eff F.TCM_PROF_CFG_WIDTH p)

/-- The search of lookup `k` under profile `p` starts: answered at once from a domain that is off or an empty set,
queued otherwise (R186 to R193). `first`: it is issued under the profile now, not tried again. -/
def State.startSearch (s : State) (k n p : Nat) (first : Bool) : State :=
  match s.lookup k with
  | none => s
  | some lk =>
    let d := pipeDie n
    let key := s.searchKey n p lk.raw
    let set := s.panelSet d lk.tag p key
    let lk1 := { lk with key := key, mask := s.globalMask p, remote := set.any (fun q => panelDie q != d) }
    if set.any (fun q => !s.panelOn q) then s.setLookup k (some { lk1 with answer := some ⟨6, []⟩, waits := none })
    else
      let qs := s.widthPanels p set
      let s1 := if first then s.tcmCount d 6 (set.length - qs.length) else s
      if qs.isEmpty then s1.setLookup k (some { lk1 with answer := some ⟨if lk.fb then 5 else 2, []⟩, waits := none })
      else (s1.setLookup k (some lk1)).tryPanels k d qs

/-- TCAM_RETRY: a refused search is tried again, in each of the four clocks after its refusal (R193). -/
def execTcamRetry (k : Nat) (s : State) : Res :=
  let s0 := s.begin
  match s0.lookup k with
  | some lk =>
    match lk.waits with
    | some w => .next (if w < 4 then s0.startSearch k lk.pipe lk.prof false else s0)
    | none => .next s0
  | none => .next s0

/-- The fallback of profile `p` makes a search: FB_EN is 1, FB_PROF is another profile of the same width (R193). -/
def State.fallbackOk (s : State) (p : Nat) : Bool :=
  s.effBit F.TCM_PROF_CFG_FB_EN p && s.eff F.TCM_PROF_CFG_FB_PROF p != p &&
    s.eff F.TCM_PROF_CFG_WIDTH (s.eff F.TCM_PROF_CFG_FB_PROF p) == s.eff F.TCM_PROF_CFG_WIDTH p

/-- TCAM_FALLBACK: a search refused in its fourth retry clock is issued under FB_PROF (R193). -/
def execTcamFallback (k : Nat) (s : State) : Res :=
  let s0 := s.begin
  match s0.lookup k with
  | some lk =>
    if lk.waits = some 4 then
      if s0.fallbackOk lk.prof then
        .next (((s0.tcmCount (pipeDie lk.pipe) 4 1).setLookup k (some { lk with fb := true, waits := none })).startSearch k
          lk.pipe (s0.eff F.TCM_PROF_CFG_FB_PROF lk.prof) true)
      else .next (s0.setLookup k (some { lk with fb := true, waits := none, answer := some ⟨5, []⟩ }))
    else .next s0
  | none => .next s0

/-- Ten bytes as the 80 bits of a slot: the first byte in bits 79 to 72 (R184). -/
def slotBits (b : Bytes) : BitVec 80 := BitVec.ofNat 80 (ofBe (padTo 10 b))

/-- The entry at first slot `i` of `w` slots matches a key under a mask (R183, R184). -/
def State.entryMatches (s : State) (i w : Nat) (key mask : Bytes) : Bool :=
  (List.range w).all (fun k =>
    let t := s.tslot (i + k * 4096)
    (slotBits (sliceZ key (10 * k) 10) ^^^ t.value) &&& t.care &&& slotBits (sliceZ mask (10 * k) 10) == 0)

/-- The entry of panel `q` with the lowest first slot that matches a search under a tag (R184, R185). -/
def State.searchPanel (s : State) (q tag : Nat) (key mask : Bytes) : Option Nat :=
  (s.panelEntries q).find? (fun i => (s.tval i).tags.getLsbD tag && s.entryMatches i (key.length / 10) key mask)

/-- The answer of a TCAM lookup whose panels have all searched (R185, R193, R206). -/
def State.tcamAnswer (s : State) (lk : Lookup) : Answer :=
  match lk.best with
  | none => ⟨if lk.fb then 5 else 2, []⟩
  | some c =>
    if c.bad then ⟨6, []⟩
    else
      let a := SMap.get (fun _ => 0) (s.tabsAt lk.tag).action c.slot
      ⟨if lk.fb then 4 else 1, [a.extractLsb' 0 32, a.extractLsb' 32 32, BitVec.ofNat 32 c.slot]⟩

/-- The entry of the panel that a search names, as found in the member `q` of a pair that made the search (R196, R197). -/
def State.memberHit (s : State) (q named : Nat) (lk : Lookup) : Option Nat :=
  let dead := named == q && (s.primaryOf q).isSome
  if dead || !s.panelOn q then none
  else (s.searchPanel q lk.tag lk.key lk.mask).map (fun i => named * 32768 + i % 32768)

/-- The entry of panel `q` that answered with a failed check is repaired next by the scrubber (R206). -/
def State.repairNext (s : State) (q : Nat) (bad : Bool) (i : Nat) : State :=
  s.when bad (fun t => { t with scrubNext := t.scrubNext ++ [q * 32768 + i % 32768] })

/-- PANEL_SEARCH: panel `q` searches for the head of its queue; the lookup's last panel completes its answer (R185, R192,
R196, R206). `err` fails the check of the entry that matches. -/
def execPanelSearch (q : Fin 48) (err : Bool) (s : State) : Res :=
  let s0 := s.begin
  match s0.panelQueue q.val with
  | [] => .next s0
  | k :: rest =>
    let s1 := ((s0.setPanelQueue q.val rest).tcmCount (panelDie q.val) 0 1).gauge! (16 + panelDie q.val) 0x49 1
    match s1.lookup k with
    | none => .next s1
    | some lk =>
      let named := ((lk.todo.find? (fun e => e.1 == q.val)).map (·.2)).getD q.val
      let hit := s1.memberHit q.val named lk
      let best := match hit, lk.best with
        | some i, some c => if i < c.slot then some ⟨i, err⟩ else some c
        | some i, none => some ⟨i, err⟩
        | none, b => b
      let lk1 := { lk with todo := removeFirst (fun e => e.1 == q.val) lk.todo, best := best }
      let s2 := match hit with
        | some i => s1.repairNext q.val (err && best == some (⟨i, true⟩ : Cand)) i
        | none => s1
      if lk1.todo.isEmpty then
        let s3 := match lk1.best with
          | some c => if c.bad then (s2.tcmCount (panelDie (slotPanel c.slot)) 10 1).fault 12 1 (panelDie (slotPanel c.slot)) c.slot else s2
          | none => s2
        .next (s3.setLookup k (some { lk1 with answer := some (s3.tcamAnswer lk1) }))
      else .next (s2.setLookup k (some lk1))

/-- The panels of a pair: neither may be part of another (R194). -/
def State.paired (s : State) (q : Nat) : Bool := s.isPrimary q || (s.primaryOf q).isSome

/-- A write of TCM_PANEL_CFG of panel `q` is refused (R194, R201). Of a panel that is part of a pair, every write to the three
fields is, but TWIN_EN 0 to the primary with its other fields as they are. -/
def State.panelCfgRefused (s : State) (q : Nat) (mask old new : BitVec 64) : Bool :=
  let w := getField new 0 2
  let t := getField new 3 5
  let tq := q / 24 * 24 + t
  let chg (lsb n : Nat) : Bool := getField old lsb n != getField new lsb n
  if 23 < t then true
  else if chg 0 2 && s.panelLive q then true
  else if s.paired q then mask &&& 0xFF != 0 && (chg 0 2 || chg 3 5 || new.getLsbD 2 || !s.isPrimary q)
  else new.getLsbD 2 && (tq == q || s.paired tq || s.fld F.TCM_PANEL_CFG_WIDTH tq != w || s.panelLive tq ||
    !s.panelOn q || !s.panelOn tq)

/-- A write of TCM_PANEL_CFG (R194, R201). -/
def State.writePanelCfg (s : State) (q : Nat) (mask v : BitVec 64) : State :=
  let old := s.reg .TCM_PANEL_CFG q
  let new := Reg.written .TCM_PANEL_CFG old mask v
  if s.panelCfgRefused q mask old new then s.setFld F.TCM_PANEL_STS_CFG_REFUSED q 1 else s.setReg .TCM_PANEL_CFG q new

/-- PANEL_CFG_WRITE (R194, R201). -/
def execPanelCfgWrite (a : Agent) (q : Fin 48) (v : BitVec 32) (s : State) : Res :=
  .next (s.begin.writeBy a .TCM_PANEL_CFG q.val (fun t => t.writePanelCfg q.val low32 (v.setWidth 64)))

/-- TWIN_COPY_DONE: the last row is copied, the pair is ACTIVE from this edge (R195). -/
def execTwinCopyDone (q : Fin 48) (s : State) : Res :=
  let s0 := s.begin
  if s0.bit F.TCM_PANEL_CFG_TWIN_EN q.val && s0.twinState q.val == 1 && 4096 ≤ (s0.twin q.val).row then
    .next (s0.setTwinState q.val 2)
  else .next s0

/-- Every entry of panel `q` is invalid for every tag and state. -/
def State.panelClear (s : State) (q : Nat) : State := { s with tvals := s.tvals.filter (fun e => slotPanel e.1 != q) }

/-- TWIN_RELEASE_END: two edges after RELEASE began the pair is OFF and the twin free (R195). -/
def execTwinReleaseEnd (q : Fin 48) (s : State) : Res :=
  let s0 := s.begin
  if s0.isPrimary q.val && s0.twinState q.val == 3 && 2 ≤ (s0.twin q.val).edges then
    .next (((s0.setTwinState q.val 0).panelClear (s0.twinOf q.val)).setTwin q.val ⟨false, 0, 0⟩)
  else .next s0

/-- Row `r` of panel `q` is copied to panel `t`: contents, ACTION and validity of all tags (R195). -/
def State.copyRow (s : State) (q t r : Nat) : State :=
  s.each (List.range 8) (fun u b =>
    let i := (8 * q + b) * 4096 + r
    let j := (8 * t + b) * 4096 + r
    let u1 := (u.setTslot j (u.tslot i)).setTval j (u.tval i)
    u1.setTabs { u1.tabs with action := SMap.set (fun _ => 0) u1.tabs.action j (SMap.get (fun _ => 0) u1.tabs.action i) })

/-- The twin of panel `q` at an edge (R195): COPY begins, goes on by COPY_ROWS rows, or RELEASE begins or goes on. -/
def State.edgeTwin (s : State) (q : Nat) : State :=
  let en := s.bit F.TCM_PANEL_CFG_TWIN_EN q
  let w := s.twin q
  if s.primaryOf q |>.isSome then s
  else match s.twinState q with
  | 0 => if en then (s.setTwinState q 1).setTwin q ⟨true, 0, 0⟩ else s
  | 1 =>
    if en then
      let n := max 1 (s.fld F.TCM_SCRUB_CFG_COPY_ROWS (panelDie q))
      let rows := (List.range n).map (w.row + ·) |>.filter (· < 4096)
      (rows.foldl (fun u r => u.copyRow q (s.twinOf q) r) s).setTwin q { w with row := min 4096 (w.row + n) }
    else (s.setTwinState q 3).setTwin q ⟨true, 0, 0⟩
  | 2 => if en then s else (s.setTwinState q 3).setTwin q ⟨true, 0, 0⟩
  | _ => s.setTwin q { w with edges := w.edges + 1 }

/-- Item of the edge: the twins of all panels (R195). -/
def State.edgeTwins (s : State) : State := s.each (List.range 48) State.edgeTwin

/-- The validity of every TCAM entry moves on by an edge of number `e`: the states of the last two edges, and the bit of
tag e mod 4 (R198, R200). -/
def State.edgeTcamValidity (s : State) : State :=
  let bit : BitVec 4 := (1 : BitVec 4) <<< s.tag
  let f (v : TVal) : TVal := ⟨if v.cur then v.tags ||| bit else v.tags &&& ~~~ bit, v.cur, v.cur, v.one⟩
  { s with tvals := SMap.update (fun _ => TVal.none) (fun _ v => f v) s.tvals }

/-- The current validity of the entry at a first slot is set: in the state of this edge and for its tag (R198). -/
def State.setValid (s : State) (i : Nat) (b : Bool) : State :=
  let v := s.tval i
  let bit : BitVec 4 := (1 : BitVec 4) <<< s.tag
  s.setTval i { v with cur := b, tags := if b then v.tags ||| bit else v.tags &&& ~~~ bit }

end Sys2Proof.Machine
end

