-- ==== Sys2Proof/Machine/Stitch.lean ====
section
/-! DEFINITION. The Stitch instruction set: how a needle issues an instruction, and the meaning of each instruction
(spec/05, R120 to R148). -/

namespace Sys2Proof.Machine

/-- What issuing an instruction comes to: the needle goes on, waits for an answer, or its program ends. -/
inductive Did where
  | go (s : State) (nd : Needle)
  | hold
  | stop (s : State) (nd : Needle) (reason : Nat)

/-- Register Gi of a needle. -/
def Needle.g (nd : Needle) (i : Nat) : Word := nd.regs.getD i 0

/-- The needle with register Gi written. -/
def Needle.setG (nd : Needle) (i : Nat) (v : Word) : Needle := { nd with regs := modifyAt nd.regs i (fun _ => v) }

/-- The needle with Z and N of a result, and C (R126). -/
def Needle.flags (nd : Needle) (r : Word) (c : Bool) : Needle := { nd with z := r == 0, n := r.getLsbD 31, c := c }

/-- The needle after an instruction of `cost` clocks, at the next instruction (R125). -/
def Needle.adv (nd : Needle) (cost : Nat) : Needle := { nd with pc := nd.pc + 1, clk := nd.clk + cost, stalled := false }

/-- The needle after a taken branch to `t` (R125). -/
def Needle.jump (nd : Needle) (t : Nat) : Needle := { nd with pc := t, clk := nd.clk + 2, stalled := false }

/-- The needle with VLEN set, in its metadata too (Table 5-2). -/
def Needle.setVlen (nd : Needle) (v : Nat) : Needle := { nd with vlen := v, md := overwrite nd.md 4 (beBytes 2 v) }

/-- The fields of an instruction word (Table 5-3). -/
def wRd (w : BitVec 64) : Nat := getField w 52 4
def wRa (w : BitVec 64) : Nat := getField w 48 4
def wRb (w : BitVec 64) : Nat := getField w 44 4
def wC (w : BitVec 64) : Nat := getField w 40 4
def wX (w : BitVec 64) : Nat := getField w 32 8
def wImm (w : BitVec 64) : Word := w.extractLsb' 0 32

/-- The bits that each field covers, and the opcode's. -/
def mRD : BitVec 64 := 0x00F0000000000000
def mRA : BitVec 64 := 0x000F000000000000
def mRB : BitVec 64 := 0x0000F00000000000
def mC : BitVec 64 := 0x00000F0000000000
def mX : BitVec 64 := 0x000000FF00000000
def mImm : BitVec 64 := 0x00000000FFFFFFFF
def mOp : BitVec 64 := 0xFF00000000000000

/-- The opcodes of Table 5-5. -/
def opcodes : List Nat :=
  [0x00, 0x01, 0x02, 0x03, 0x04, 0x05, 0x06, 0x07, 0x08, 0x09, 0x0A, 0x0B, 0x0C, 0x0D, 0x0E, 0x0F, 0x10, 0x11, 0x12, 0x13, 0x14] ++
  [0x20, 0x21, 0x22, 0x23, 0x24, 0x25, 0x30, 0x31, 0x32, 0x33, 0x34, 0x40, 0x41, 0x42, 0x43, 0x44, 0x45, 0x46, 0x47, 0x48, 0x49] ++
  [0x50, 0x51, 0x52, 0x53, 0x5E, 0x5F, 0x60, 0x61, 0x62, 0x63, 0x64, 0x65, 0x66]

/-- Where an instruction may issue: on any engine, on ingress engines only, on egress engines only (R128). -/
inductive Side where
  | any | ingress | egress
  deriving DecidableEq, Repr

/-- The side allows a direction. -/
def Side.allows (d : Side) (dir : Nat) : Bool :=
  match d with
  | .any => true
  | .ingress => dir == 0
  | .egress => dir == 1

/-- The instruction that a needle fetches: none past index 8,191 or from a page outside PAGES of its set (R115, R129). -/
def State.fetch (s : State) (k : Nat) (nd : Needle) : Option (BitVec 64) :=
  let b := enginePipe (k / 96) * 2 + engineDir (k / 96)
  if nd.pc < 8192 && bitOf (s.fld F.STE_PAGES_PAGES (b * 2 + nd.set)) (nd.pc / 1024) then some (s.reg .STE_STORE (b * 8192 + nd.pc))
  else none

/-- The record of a sampled packet in MODE 1, when its needle first issues the instruction at index PC (R404). -/
def State.samplePoint (s : State) (k : Nat) (nd : Needle) : State × Needle :=
  let n := enginePipe (k / 96)
  if nd.sample && s.fld F.GGE_SMP_CFG_MODE n == 1 && nd.pc == s.fld F.GGE_SMP_CFG_PC n then
    (s.sampleRecord k nd 7 nd.clk nd.pc nd.md, { nd with sample := false })
  else (s, nd)

/-- A needle issues the instruction at its PC, which is the one commanded, of opcode `op` with used bits `mask`; another
instruction due leaves the state as it is. An undefined encoding ends the program with ILLEGAL (R124, R127 to R129). DESIGN
CHOICE: a field that a form uses in part may hold anything in the bits that no text names, and the operand that C[3] does not
select may hold anything (log entry 59). -/
def State.issue (s : State) (op : Nat) (mask : BitVec 64) (side : Side) (e : Fin 64) (i : Fin 96)
    (f : State → Nat → Needle → BitVec 64 → Did) : Res :=
  let s0 := s.begin
  let k := e.val * 96 + i.val
  match s0.needle k with
  | none => .next s0
  | some nd =>
    if nd.budget ≤ nd.clk then .next s0
    else match s0.fetch k nd with
      | none => .next (s0.endNeedle k nd 3 nd.clk nd.lastPc)
      | some w =>
        if getField w 56 8 = op then
          let q := if nd.stalled then (s0, nd) else (s0.gauge! (enginePipe e.val) 0x05 1 (some (engineDir e.val))).samplePoint k nd
          let nd1 := { q.2 with lastPc := nd.pc }
          if w &&& ~~~ (mOp ||| mask) != 0 || !side.allows (engineDir e.val) then
            .next (q.1.endNeedle k nd1 3 nd.clk nd.pc)
          else match f q.1 k nd1 w with
            | .go s1 nd2 => .next (s1.setNeedle k (some nd2))
            | .hold => .next (q.1.setNeedle k (some { nd1 with stalled := true }))
            | .stop s1 nd2 r => .next (s1.endNeedle k nd2 r nd2.clk nd.pc)
        else if opcodes.contains (getField w 56 8) then .next s0
        else .next (s0.endNeedle k nd 3 nd.clk nd.pc)

/-- An instruction that writes a register and perhaps flags, in one clock. -/
def Did.write (s : State) (nd : Needle) (rd : Nat) (v : Word) : Did := .go s ((nd.setG rd v).adv 1)
def Did.alu (s : State) (nd : Needle) (rd : Nat) (v : Word) (c : Bool) : Did := .go s (((nd.setG rd v).flags v c).adv 1)

/-- Carry out of bit 31 of a sum (R126). -/
def carryOut (a b : Word) : Bool := decide (2 ^ 32 ≤ a.toNat + b.toNat)

/-- The first operand is below the second as unsigned numbers (R126). -/
def below (a b : Word) : Bool := decide (a.toNat < b.toNat)

/-- The shapes of the arithmetic instructions: two registers, or a register and the immediate. -/
def aluReg (op : Word → Word → Word) (c : Word → Word → Bool) (s : State) (_k : Nat) (nd : Needle) (w : BitVec 64) : Did :=
  .alu s nd (wRd w) (op (nd.g (wRa w)) (nd.g (wRb w))) (c (nd.g (wRa w)) (nd.g (wRb w)))
def aluImm (op : Word → Word → Word) (c : Word → Word → Bool) (s : State) (_k : Nat) (nd : Needle) (w : BitVec 64) : Did :=
  .alu s nd (wRd w) (op (nd.g (wRa w)) (wImm w)) (c (nd.g (wRa w)) (wImm w))

/-- C becomes 0 (R126). -/
def noCarry (_a _b : Word) : Bool := false

/-- NOP. -/
def execNop (e : Fin 64) (n : Fin 96) (s : State) : Res := s.issue 0x00 0 .any e n (fun t _ nd _ => .go t (nd.adv 1))

/-- MOVI. -/
def execMovi (e : Fin 64) (n : Fin 96) (s : State) : Res :=
  s.issue 0x01 (mRD ||| mImm) .any e n (fun t _ nd w => .write t nd (wRd w) (wImm w))

/-- MOV. -/
def execMov (e : Fin 64) (n : Fin 96) (s : State) : Res :=
  s.issue 0x02 (mRD ||| mRA) .any e n (fun t _ nd w => .write t nd (wRd w) (nd.g (wRa w)))

/-- ADD. -/
def execAdd (e : Fin 64) (n : Fin 96) (s : State) : Res :=
  s.issue 0x03 (mRD ||| mRA ||| mRB) .any e n (aluReg (· + ·) carryOut)

/-- ADDI. -/
def execAddi (e : Fin 64) (n : Fin 96) (s : State) : Res :=
  s.issue 0x04 (mRD ||| mRA ||| mImm) .any e n (aluImm (· + ·) carryOut)

/-- SUB. -/
def execSub (e : Fin 64) (n : Fin 96) (s : State) : Res :=
  s.issue 0x05 (mRD ||| mRA ||| mRB) .any e n (aluReg (· - ·) below)

/-- SUBI. -/
def execSubi (e : Fin 64) (n : Fin 96) (s : State) : Res :=
  s.issue 0x06 (mRD ||| mRA ||| mImm) .any e n (aluImm (· - ·) below)

/-- AND. -/
def execAnd (e : Fin 64) (n : Fin 96) (s : State) : Res :=
  s.issue 0x07 (mRD ||| mRA ||| mRB) .any e n (aluReg (· &&& ·) noCarry)

/-- ANDI. -/
def execAndi (e : Fin 64) (n : Fin 96) (s : State) : Res :=
  s.issue 0x08 (mRD ||| mRA ||| mImm) .any e n (aluImm (· &&& ·) noCarry)

/-- OR. -/
def execOr (e : Fin 64) (n : Fin 96) (s : State) : Res :=
  s.issue 0x09 (mRD ||| mRA ||| mRB) .any e n (aluReg (· ||| ·) noCarry)

/-- ORI. -/
def execOri (e : Fin 64) (n : Fin 96) (s : State) : Res :=
  s.issue 0x0A (mRD ||| mRA ||| mImm) .any e n (aluImm (· ||| ·) noCarry)

/-- XOR. -/
def execXor (e : Fin 64) (n : Fin 96) (s : State) : Res :=
  s.issue 0x0B (mRD ||| mRA ||| mRB) .any e n (aluReg (· ^^^ ·) noCarry)

/-- XORI. -/
def execXori (e : Fin 64) (n : Fin 96) (s : State) : Res :=
  s.issue 0x0C (mRD ||| mRA ||| mImm) .any e n (aluImm (· ^^^ ·) noCarry)

/-- The shift count or bit position IMM[4:0], and the length IMM[12:8] + 1 of EXT and DEP. -/
def wPos (w : BitVec 64) : Nat := getField w 0 5
def wLen (w : BitVec 64) : Nat := getField w 8 5 + 1

/-- The low `len` bits. -/
def lowMask (len : Nat) : Word := if 32 ≤ len then BitVec.allOnes 32 else ((1 : Word) <<< len) - 1

/-- SHL. -/
def execShl (e : Fin 64) (n : Fin 96) (s : State) : Res :=
  s.issue 0x0D (mRD ||| mRA ||| 0x1F) .any e n (fun t _ nd w => .alu t nd (wRd w) (nd.g (wRa w) <<< wPos w) false)

/-- SHR. -/
def execShr (e : Fin 64) (n : Fin 96) (s : State) : Res :=
  s.issue 0x0E (mRD ||| mRA ||| 0x1F) .any e n (fun t _ nd w => .alu t nd (wRd w) (nd.g (wRa w) >>> wPos w) false)

/-- EXT. -/
def execExt (e : Fin 64) (n : Fin 96) (s : State) : Res :=
  s.issue 0x0F (mRD ||| mRA ||| 0x1F1F) .any e n (fun t _ nd w =>
    .alu t nd (wRd w) ((nd.g (wRa w) >>> wPos w) &&& lowMask (wLen w)) false)

/-- DEP. -/
def execDep (e : Fin 64) (n : Fin 96) (s : State) : Res :=
  s.issue 0x10 (mRD ||| mRA ||| 0x1F1F) .any e n (fun t _ nd w =>
    let m := lowMask (wLen w) <<< wPos w
    .alu t nd (wRd w) ((nd.g (wRd w) &&& ~~~ m) ||| ((nd.g (wRa w) <<< wPos w) &&& m)) false)

/-- CMP. -/
def execCmp (e : Fin 64) (n : Fin 96) (s : State) : Res :=
  s.issue 0x11 (mRA ||| mRB) .any e n (fun t _ nd w =>
    .go t ((nd.flags (nd.g (wRa w) - nd.g (wRb w)) (below (nd.g (wRa w)) (nd.g (wRb w)))).adv 1))

/-- CMPI. -/
def execCmpi (e : Fin 64) (n : Fin 96) (s : State) : Res :=
  s.issue 0x12 (mRA ||| mImm) .any e n (fun t _ nd w =>
    .go t ((nd.flags (nd.g (wRa w) - wImm w) (below (nd.g (wRa w)) (wImm w))).adv 1))

/-- TSTI. -/
def execTsti (e : Fin 64) (n : Fin 96) (s : State) : Res :=
  s.issue 0x13 (mRA ||| mImm) .any e n (fun t _ nd w => .go t ((nd.flags (nd.g (wRa w) &&& wImm w) false).adv 1))

/-- HASH: CRC-32C of key bytes from the initial value G[RB] (R156). -/
def execHash (e : Fin 64) (n : Fin 96) (s : State) : Res :=
  s.issue 0x14 (mRD ||| mRB ||| mX ||| 0x7F) .any e n (fun t _ nd w =>
    let o := getField w 0 7
    let len := wX w
    if len = 0 ∨ 80 < len ∨ 80 < o + len then .stop t nd 3
    else .go t ((nd.setG (wRd w) (crcRaw (nd.g (wRb w)) (sliceZ nd.key o len))).adv 2))

/-- Bytes of an access of size code C[1:0]; code 3 is undefined (R124). -/
def accessSize (w : BitVec 64) : Option Nat := match getField w 40 2 with
  | 0 => some 1
  | 1 => some 2
  | 2 => some 4
  | _ => none

/-- C[3]: base register or immediate operand. -/
def wC3 (w : BitVec 64) : Bool := w.getLsbD 43

/-- The effective offset of a window access (R122). -/
def effOffset (nd : Needle) (w : BitVec 64) (base imm : Nat) : Nat := (if wC3 w then (nd.g base).toNat else 0) + imm

/-- Window bytes `off` to `off + n - 1` may be accessed (R122). -/
def windowOk (nd : Needle) (off n : Nat) : Bool := off < 256 && off + n ≤ nd.vlen

/-- A byte of metadata that programs may store to (Table 5-2). -/
def mdWritable (i : Nat) : Bool := (0x20 ≤ i && i ≤ 0x25) || (0x30 ≤ i && i ≤ 0x5F) || (0x70 ≤ i && i ≤ 0x7F)

/-- LDH (R122). -/
def execLdh (e : Fin 64) (n : Fin 96) (s : State) : Res :=
  s.issue 0x20 (mRD ||| mRA ||| mC ||| 0xFFFF) .any e n (fun t _ nd w =>
    match accessSize w with
    | none => .stop t nd 3
    | some sz =>
      let off := effOffset nd w (wRa w) (getField w 0 16)
      if windowOk nd off sz then .write t nd (wRd w) (BitVec.ofNat 32 (beAt nd.win off sz)) else .stop t nd 2)

/-- LDM (R123). -/
def execLdm (e : Fin 64) (n : Fin 96) (s : State) : Res :=
  s.issue 0x21 (mRD ||| mC ||| 0x7F) .any e n (fun t _ nd w =>
    match accessSize w with
    | none => .stop t nd 3
    | some sz =>
      let off := getField w 0 7
      if off + sz ≤ 128 then .write t nd (wRd w) (BitVec.ofNat 32 (beAt nd.md off sz)) else .stop t nd 3)

/-- STM (R123). -/
def execStm (e : Fin 64) (n : Fin 96) (s : State) : Res :=
  s.issue 0x22 (mRA ||| mC ||| 0x7F) .any e n (fun t _ nd w =>
    match accessSize w with
    | none => .stop t nd 3
    | some sz =>
      let off := getField w 0 7
      if off + sz ≤ 128 && (List.range sz).all (fun i => mdWritable (off + i)) then
        .go t ({ nd with md := overwrite nd.md off (beBytes sz (nd.g (wRa w)).toNat) }.adv 1)
      else .stop t nd 3)

/-- KPUT (R123). -/
def execKput (e : Fin 64) (n : Fin 96) (s : State) : Res :=
  s.issue 0x23 (mRA ||| mC ||| 0x7F) .any e n (fun t _ nd w =>
    match accessSize w with
    | none => .stop t nd 3
    | some sz =>
      let off := getField w 0 7
      if off + sz ≤ 80 then .go t ({ nd with key := overwrite nd.key off (beBytes sz (nd.g (wRa w)).toNat) }.adv 1)
      else .stop t nd 3)

/-- KCPY (R122, R123). -/
def execKcpy (e : Fin 64) (n : Fin 96) (s : State) : Res :=
  s.issue 0x24 (mRA ||| mC ||| mX ||| 0x7F00FF) .any e n (fun t _ nd w =>
    let o := getField w 16 7
    let len := wX w
    let off := effOffset nd w (wRa w) (getField w 0 8)
    if len = 0 ∨ 32 < len ∨ 80 < o + len then .stop t nd 3
    else if windowOk nd off len then .go t ({ nd with key := overwrite nd.key o (sliceZ nd.win off len) }.adv 2)
    else .stop t nd 2)

/-- KCLR (R123). -/
def execKclr (e : Fin 64) (n : Fin 96) (s : State) : Res :=
  s.issue 0x25 (mX ||| 0x7F) .any e n (fun t _ nd w =>
    let o := getField w 0 7
    let len := wX w
    if len = 0 ∨ 80 < len ∨ 80 < o + len then .stop t nd 3
    else .go t ({ nd with key := overwrite nd.key o (List.replicate len 0) }.adv 1))

/-- Slot `i` of a needle. -/
def Needle.slot (nd : Needle) (i : Nat) : Slot := nd.slots.getD i Slot.empty

/-- The needle with slot `i` changed. -/
def Needle.setSlot (nd : Needle) (i : Nat) (v : Slot) : Needle := { nd with slots := modifyAt nd.slots i (fun _ => v) }

/-- The clock in which an instruction that waits for slot `i` completes: none while the answer is outstanding or comes
after the budget (R99, R133). -/
def Needle.ready (nd : Needle) (i : Nat) : Option Nat :=
  let t := max nd.clk (nd.slot i).arr
  if (nd.slot i).asked.isSome || nd.budget ≤ t then none else some t

/-- The slot that the instruction at PC waits for, where it is one that may wait: the lookups' own, or that of WAIT, LDR and
ETPL (R133). -/
def State.awaits (s : State) (k : Nat) (nd : Needle) : Nat :=
  match s.fetch k nd with
  | some w => if getField w 56 8 ≤ 0x32 then wRd w else wRa w
  | none => 0

/-- BUDGET_ABORT: the program of needle `n` of engine `e` has reached its budget: it has used it, or waits for an answer that
does not come within it (R99). -/
def execBudgetAbort (e : Fin 64) (n : Fin 96) (s : State) : Res :=
  let s0 := s.begin
  let k := e.val * 96 + n.val
  match s0.needle k with
  | none => .next s0
  | some nd =>
    if nd.budget ≤ nd.clk then .next (s0.endNeedle k nd 1 nd.budget nd.pc)
    else if nd.stalled && (nd.ready (s0.awaits k nd)).isNone then .next (s0.endNeedle k nd 1 nd.budget (min 8191 (nd.pc + 1)))
    else .next s0

/-- The packet that a needle works on. -/
def State.jobOf (s : State) (k : Nat) (nd : Needle) : Option Job :=
  let p := s.pipe (enginePipe (k / 96))
  (p.ig ++ p.eg).find? (fun j => j.id == nd.job)

/-- The tick tag of a needle's packet: STAT[1:0] of its metadata (Table 5-2). -/
def Needle.tag (nd : Needle) : Nat := beAt nd.md 7 1 % 4

/-- A lookup is issued into slot `i` in clock `t`, under number `k`; its answer may be known already (R132, R133). -/
def State.send (s : State) (k : Nat) (nd : Needle) (i t kind : Nat) (lk : Lookup) (tunnel : Bool) : State × Needle × Nat :=
  let id := s.nextId
  let s1 := { s with nextId := id + 1 }
  let s2 := (s1.setLookup id (some lk)).gauge! (enginePipe (k / 96)) 0x07 1 (some kind)
  let old := nd.slot i
  let nd1 := nd.setSlot i { old with tunnel := tunnel, asked := some id }
  (s2, { nd1 with pc := nd1.pc + 1, clk := t + 1, stalled := false, lookups := nd1.lookups + 1 }, id)

/-- A lookup record with nothing answered. -/
def Lookup.new (k : Nat) (nd : Needle) (slot t : Nat) (ask : Ask) : Lookup :=
  { needle := k, job := nd.job, slot := slot, issued := t, tag := nd.tag, ask := ask, remote := false, answer := none, prof := 0,
    seg := 0, raw := [], key := [], mask := [], todo := [], best := none, waits := none, fb := false, seq := 0,
    entered := none }

/-- LKD (R128, R130, R133, R150). -/
def execLkd (e : Fin 64) (n : Fin 96) (s : State) : Res :=
  s.issue 0x30 (mRD ||| mRA ||| mX) .any e n (fun t k nd w =>
    let tid := wX w
    if 3 < wRd w ∨ tid = 0 ∨ 8 < tid then .stop t nd 3
    else match nd.ready (wRd w) with
      | none => .hold
      | some c =>
        let idx := (nd.g (wRa w)).toNat % 2 ^ indexWidth tid
        let ans : Answer := match t.readDirect nd.tag tid idx with
          | some d => ⟨1, d.words (entryWords tid)⟩
          | none => ⟨3, []⟩
        let lk := { Lookup.new k nd (wRd w) c (.direct tid idx) with
          answer := some ans, remote := directDie tid idx != pipeDie (enginePipe (k / 96)) }
        let r := t.send k nd (wRd w) c 0 lk (tid == 7)
        .go r.1 r.2.1)

/-- The answer of a hash search of die `d`, and its hit recorded for the tick (R134, R135, R157, R169). -/
def State.askHash (s : State) (tag d tb : Nat) (key : Bytes) : Answer × State :=
  match s.searchHash tag d tb key with
  | none => (⟨6, []⟩, s)
  | some none => (⟨2, []⟩, s)
  | some (some h) =>
    (⟨1, h.all⟩, if s.hits.contains (d * 3 + tb, key) then s else { s with hits := (d * 3 + tb, key) :: s.hits })

/-- LKH (R128, R131, R133, R157). -/
def execLkh (e : Fin 64) (n : Fin 96) (s : State) : Res :=
  s.issue 0x31 (mRD ||| mX ||| 0x7) .any e n (fun t k nd w =>
    let tb := wX w - 0x10
    let seg := getField w 0 3
    if 3 < wRd w ∨ wX w < 0x10 ∨ 0x12 < wX w then .stop t nd 3
    else if 80 < 10 * seg + hashKeyLen tb then .stop t nd 3
    else match nd.ready (wRd w) with
      | none => .hold
      | some c =>
        let key := sliceZ nd.key (10 * seg) (hashKeyLen tb)
        let a := t.askHash nd.tag (pipeDie (enginePipe (k / 96))) tb key
        let lk := { Lookup.new k nd (wRd w) c (.hash tb key) with answer := some a.1 }
        let r := a.2.send k nd (wRd w) c 1 lk false
        .go r.1 r.2.1)

/-- The packet's mode redirects searches of profile `p` to CASTON (R26, R180). -/
def State.redirected (s : State) (k : Nat) (nd : Needle) (p : Nat) : Bool :=
  ((s.jobOf k nd).map (·.mode)).getD s.curMode == 8 && bitOf (s.fld F.LKP_CASTON_REDIR_PROF 0) p

/-- The answer that CASTON gives in place of a search (R180). -/
def State.castonAnswer (s : State) (tag d : Nat) (key : Bytes) : Answer × State :=
  let a := s.askHash tag d 2 (padTo 20 key)
  if a.1.status = 1 then (⟨1, a.1.words.take 2 ++ [0xFFFFFFFF]⟩, a.2) else (⟨a.1.status, []⟩, a.2)

/-- LKT (R128, R131, R133, R186); its fields are checked in the clock of its first issue. -/
def execLkt (e : Fin 64) (n : Fin 96) (s : State) : Res :=
  s.issue 0x32 (mRD ||| mX ||| 0x7) .any e n (fun t k nd w =>
    let p := wX w
    let seg := getField w 0 3
    if 3 < wRd w ∨ 63 < p then .stop t nd 3
    else if !nd.stalled && 80 < 10 * seg + t.profBytes p then .stop t nd 3
    else match nd.ready (wRd w) with
      | none => .hold
      | some c =>
        let key := sliceZ nd.key (10 * seg) (t.profBytes p)
        let lk := { Lookup.new k nd (wRd w) c .tcam with prof := p, seg := seg, raw := key, seq := nd.aclSeq }
        let nd1 := { nd with aclSeq := nd.aclSeq + 1 }
        let pn := enginePipe (k / 96)
        if t.redirected k nd p then
          let a := t.castonAnswer nd.tag (pipeDie pn) key
          let r := a.2.send k nd1 (wRd w) c 2 { lk with ask := .hash 2 (padTo 20 key), answer := some a.1 } false
          .go r.1 r.2.1
        else
          let r := t.send k nd1 (wRd w) c 2 lk false
          .go (r.1.startSearch r.2.2 pn p true) r.2.1)

/-- LOOKUP_ANSWER: the answer of lookup `k` arrives, `lat` clocks after its issue (R99, R133 to R135, R157, R185, R203,
R465). -/
def execLookupAnswer (k : Nat) (err : Bool) (lat : Nat) (s : State) : Res :=
  let s0 := s.begin
  match s0.lookup k with
  | none => .next s0
  | some lk =>
    match lk.answer with
    | none => .next s0
    | some a0 =>
      let a : Answer := match lk.ask with
        | .direct _ _ => if err then ⟨6, []⟩ else a0
        | .hash _ _ => if err && a0.status == 2 then ⟨6, []⟩ else a0
        | .tcam => a0
      let n := lk.pipe
      let d := pipeDie n
      let s1 := s0.setLookup k none
      let s2 := if lk.ask = .tcam && a.status != 6 then s1.tcmCount d (if a.status == 1 || a.status == 4 then 1 else 2) 1 else s1
      let kind := match lk.ask with
        | .direct _ _ => 0
        | .hash _ _ => 1
        | .tcam => 2
      let s3 := if lk.remote then s2.gauge! n 0x08 1 (some kind) else s2
      let s4 := if a.status == 4 || a.status == 5 then s3.gauge! n 0x09 1 else s3
      let acl := (lk.raw.length != 0) && s4.effBit F.TCM_PROF_CFG_AUTO lk.prof && engineDir (lk.needle / 96) == 0 &&
        (a.status == 1 || a.status == 4)
      let p := s4.pipe n
      let entry : Acl := ⟨s4.eff F.TCM_PROF_CFG_LKNUM lk.prof, lk.seq,
        (a.words.getD 1 0) ++ (a.words.getD 0 0)⟩
      let s5 := if acl then s4.setPipe n { p with ig := p.ig.map (fun j =>
          if j.id = lk.job && j.reason == 0 then { j with acls := j.acls ++ [entry] } else j) } else s4
      match s5.needle lk.needle with
      | some nd =>
        if nd.job = lk.job && (nd.slot lk.slot).asked == some k then
          let l := max 1 lat
          let nd1 := nd.setSlot lk.slot { nd.slot lk.slot with status := a.status, words := a.words, asked := none, arr := lk.issued + l }
          .next (s5.setNeedle lk.needle (some { nd1 with
            remote := nd1.remote + boolNat lk.remote
            maxLat := max l nd1.maxLat
            maxSlot := if nd1.maxLat < l then lk.slot else nd1.maxSlot }))
        else .next s5
      | none => .next s5

/-- The flags of WAIT by status: Z, C, N (Table 5-8). -/
def waitFlags (st : Nat) : Bool × Bool × Bool :=
  (st != 1 && st != 4, st == 4 || st == 5, st == 6)

/-- An instruction completes in clock `t` after waiting for a slot: its stall is counted (R133, R404). -/
def Needle.waited (nd : Needle) (t : Nat) : Needle := { nd with clk := t, stall := nd.stall + (t - nd.clk) }

/-- WAIT (R133, R134). -/
def execWait (e : Fin 64) (n : Fin 96) (s : State) : Res :=
  s.issue 0x33 mRA .any e n (fun t _ nd w =>
    if 3 < wRa w then .stop t nd 3
    else match nd.ready (wRa w) with
      | none => .hold
      | some c =>
        let f := waitFlags (nd.slot (wRa w)).status
        .go t ({ nd.waited c with z := f.1, c := f.2.1, n := f.2.2 }.adv 1))

/-- Data word `i` of a slot: zero unless its status is HIT or FB_HIT (R134, R135). -/
def Slot.word (l : Slot) (i : Nat) : Word := if l.status = 1 ∨ l.status = 4 then l.words.getD i 0 else 0

/-- LDR (R133, R134). -/
def execLdr (e : Fin 64) (n : Fin 96) (s : State) : Res :=
  s.issue 0x34 (mRD ||| mRA ||| 0xF) .any e n (fun t _ nd w =>
    if 3 < wRa w then .stop t nd 3
    else match nd.ready (wRa w) with
      | none => .hold
      | some c => .go t (((nd.waited c).setG (wRd w) ((nd.slot (wRa w)).word (getField w 0 4))).adv 1))

/-- The operand of a "reg/imm" instruction (R124). -/
def regImm (nd : Needle) (w : BitVec 64) : Nat := if wC3 w then (wImm w).toNat else (nd.g (wRa w)).toNat

/-- The needle with metadata bytes written. -/
def Needle.putMd (nd : Needle) (off : Nat) (b : Bytes) : Needle := { nd with md := overwrite nd.md off b }

/-- FWD (R128, R136). DESIGN CHOICE: the operand that C[3] does not select may hold anything (log entry 59). -/
def execFwd (e : Fin 64) (n : Fin 96) (s : State) : Res :=
  s.issue 0x40 (mRA ||| mC ||| 0xFFFFFF) .ingress e n (fun t _ nd w =>
    let v := regImm nd w % 2 ^ 24
    if 7 ≤ v / 2 ^ 20 then .stop t nd 3 else .go t ((nd.putMd 0x10 (beBytes 4 v)).adv 1))

/-- DROP (R136). -/
def execDrop (e : Fin 64) (n : Fin 96) (s : State) : Res :=
  s.issue 0x41 mX .any e n (fun t _ nd w => if wX w = 0 then .stop t nd 3 else .go t ((nd.putMd 0x14 (beBytes 1 (wX w))).adv 1))

/-- TOHOST (R136). -/
def execTohost (e : Fin 64) (n : Fin 96) (s : State) : Res :=
  s.issue 0x42 mX .ingress e n (fun t _ nd w => if wX w = 0 then .stop t nd 3 else .go t ((nd.putMd 0x15 (beBytes 1 (wX w))).adv 1))

/-- MIRROR bytes with a session in them, added to the first free entry unless it is there already; none where all four are
in use (R140). -/
def addMirror (m : Bytes) (sess : Nat) : Option Bytes :=
  let b : Byte := BitVec.ofNat 8 (0x80 + sess % 64)
  match m.findIdx? (fun x => !x.getLsbD 7) with
  | some i => some (if m.contains b then m else modifyAt m i (fun _ => b))
  | none => none

/-- MIRROR (R140). DESIGN CHOICE: a register names the session by its low six bits (log entry 59). -/
def execMirror (e : Fin 64) (n : Fin 96) (s : State) : Res :=
  s.issue 0x43 (mRA ||| mC ||| 0x3F) .ingress e n (fun t _ nd w =>
    match addMirror (sliceZ nd.md 0x18 4) (regImm nd w % 64) with
    | some m => .go t ({ nd.putMd 0x18 m with
        c := false
        mirSeq := if m = sliceZ nd.md 0x18 4 then nd.mirSeq else nd.mirSeq ++ [nd.aclSeq] }.adv 1)
    | none => .go t ({ nd with c := true }.adv 1))

/-- POLICE (R138). -/
def execPolice (e : Fin 64) (n : Fin 96) (s : State) : Res :=
  s.issue 0x44 mRA .ingress e n (fun t _ nd w => .go t ((nd.putMd 0x1C (beBytes 4 ((nd.g (wRa w)).toNat % 2 ^ 18 + 2 ^ 31))).adv 1))

/-- SETTC (R138). -/
def execSettc (e : Fin 64) (n : Fin 96) (s : State) : Res :=
  s.issue 0x45 (mRA ||| mC ||| 0x7) .ingress e n (fun t _ nd w => .go t ((nd.putMd 0x0F (beBytes 1 (regImm nd w % 8))).adv 1))

/-- COUNT: one packet, and LEN or G[RB] bytes, at the entry's die if it is on (R138, R139, R154). -/
def execCount (e : Fin 64) (n : Fin 96) (s : State) : Res :=
  s.issue 0x46 (mRA ||| mRB ||| mC) .any e n (fun t _ nd w =>
    let i := (nd.g (wRa w)).toNat % 2 ^ 20
    let b := if wC3 w then (nd.g (wRb w)).toNat else beAt nd.md 2 2
    .go (if t.domOn (50 + directDie tidStats i) then t.countStat i 1 b else t) (nd.adv 1))

/-- RESP (R141). -/
def execResp (e : Fin 64) (n : Fin 96) (s : State) : Res :=
  s.issue 0x47 mX .ingress e n (fun t _ nd w =>
    if wX w = 0 ∨ 5 < wX w then .stop t nd 3 else .go t ((nd.putMd 0x16 (beBytes 1 (wX w))).adv 1))

/-- LEARN: a learning event of one key segment (R138, R142, R163). -/
def execLearn (e : Fin 64) (n : Fin 96) (s : State) : Res :=
  s.issue 0x48 (mRA ||| 0x7) .ingress e n (fun t _ nd w =>
    .go (t.learnEvent 0 (sliceZ nd.key (10 * getField w 0 3) 10) (beAt nd.md 0 1) (nd.g (wRa w)).toNat) (nd.adv 1))

/-- SLEARN: a session event of two key segments (R123, R138, R142, R163). -/
def execSlearn (e : Fin 64) (n : Fin 96) (s : State) : Res :=
  s.issue 0x49 (mRA ||| 0x7) .ingress e n (fun t _ nd w =>
    if getField w 0 3 = 7 then .stop t nd 3
    else .go (t.learnEvent 1 (sliceZ nd.key (10 * getField w 0 3) 20) (beAt nd.md 0 1) (nd.g (wRa w)).toNat) (nd.adv 1))

/-- JMP. -/
def execJmp (e : Fin 64) (n : Fin 96) (s : State) : Res :=
  s.issue 0x50 0x1FFF .any e n (fun t _ nd w => .go t (nd.jump (getField w 0 13)))

/-- The branch conditions; none for the undefined codes 9 to 15 (Table 5-4). -/
def branchTaken (nd : Needle) (c : Nat) : Option Bool :=
  [true, nd.z, !nd.z, nd.c, !nd.c, nd.c || nd.z, !nd.c && !nd.z, nd.n, !nd.n][c]?

/-- B.cc (R125). -/
def execBCc (e : Fin 64) (n : Fin 96) (s : State) : Res :=
  s.issue 0x51 (mC ||| 0x1FFF) .any e n (fun t _ nd w =>
    match branchTaken nd (wC w) with
    | none => .stop t nd 3
    | some true => .go t (nd.jump (getField w 0 13))
    | some false => .go t (nd.adv 1))

/-- CALL. -/
def execCall (e : Fin 64) (n : Fin 96) (s : State) : Res :=
  s.issue 0x52 (mRD ||| 0x1FFF) .any e n (fun t _ nd w =>
    .go t ((nd.setG (wRd w) (BitVec.ofNat 32 (nd.pc + 1))).jump (getField w 0 13)))

/-- RET. -/
def execRet (e : Fin 64) (n : Fin 96) (s : State) : Res :=
  s.issue 0x53 mRA .any e n (fun t _ nd w => .go t (nd.jump ((nd.g (wRa w)).toNat % 2 ^ 13)))

/-- OUTER: the program ends in outer classification, reason FRAG or UNPARSED (R148). -/
def execOuter (e : Fin 64) (n : Fin 96) (s : State) : Res :=
  s.issue 0x5E mX .any e n (fun t _ nd w => .stop t nd (if wX w = 4 ∨ wX w = 5 then wX w else 3))

/-- END (R148). -/
def execEndProg (e : Fin 64) (n : Fin 96) (s : State) : Res := s.issue 0x5F 0 .any e n (fun t _ nd _ => .stop t nd 0)

/-- STH (R122, R143). -/
def execSth (e : Fin 64) (n : Fin 96) (s : State) : Res :=
  s.issue 0x60 (mRA ||| mRB ||| mC ||| 0xFFFF) .egress e n (fun t _ nd w =>
    match accessSize w with
    | none => .stop t nd 3
    | some sz =>
      let off := effOffset nd w (wRb w) (getField w 0 16)
      if windowOk nd off sz then .go t ({ nd with win := overwrite nd.win off (beBytes sz (nd.g (wRa w)).toNat) }.adv 1)
      else .stop t nd 2)

/-- The needle with bytes inserted in its window at `off`; none where off is above VLEN or VLEN would exceed 256 (R144). -/
def Needle.insert (nd : Needle) (off : Nat) (b : Bytes) : Option Needle :=
  if nd.vlen < off ∨ 256 < nd.vlen + b.length then none
  else some ({ nd with win := padTo 256 (nd.win.take off ++ b ++ nd.win.drop off) }.setVlen (nd.vlen + b.length))

/-- EINS (R144). -/
def execEins (e : Fin 64) (n : Fin 96) (s : State) : Res :=
  s.issue 0x61 (mX ||| 0x7F00FF) .egress e n (fun t _ nd w =>
    let o := getField w 16 7
    let len := wX w
    if len = 0 ∨ 64 < len ∨ 80 < o + len then .stop t nd 3
    else match nd.insert (getField w 0 8) (sliceZ nd.key o len) with
      | some nd1 => .go t (nd1.adv 2)
      | none => .stop t nd 2)

/-- EDEL (R144). -/
def execEdel (e : Fin 64) (n : Fin 96) (s : State) : Res :=
  s.issue 0x62 (mX ||| 0xFF) .egress e n (fun t _ nd w =>
    let off := getField w 0 8
    let len := wX w
    if len = 0 then .stop t nd 3
    else if nd.vlen < off + len ∨ nd.vlen < len + 14 then .stop t nd 2
    else .go t (({ nd with win := padTo 256 (nd.win.take off ++ nd.win.drop (off + len)) }.setVlen (nd.vlen - len)).adv 2))

/-- The header bytes that a TUNNEL entry gives (Table 6-2). -/
def tunnelBytes (ws : List Word) : Bytes :=
  (((List.range 15).flatMap (fun i => beBytes 4 (ws.getD i 0).toNat))).take (min 60 (bitsOf (ws.getD 15 0).toNat 0 6))

/-- ETPL (R145, R152). -/
def execEtpl (e : Fin 64) (n : Fin 96) (s : State) : Res :=
  s.issue 0x63 (mRA ||| 0xFF) .egress e n (fun t _ nd w =>
    if 3 < wRa w then .stop t nd 3
    else match nd.ready (wRa w) with
      | none => .hold
      | some c =>
        let l := nd.slot (wRa w)
        let nd1 := { nd with clk := c }
        if l.status = 1 && l.tunnel then
          let b := tunnelBytes l.words
          if b.isEmpty then .go t ({ nd1 with z := false }.adv 2)
          else match nd1.insert (getField w 0 8) b with
            | some nd2 => .go t ({ nd2 with z := false }.adv 2)
            | none => .stop t nd1 2
        else .go t ({ nd1 with z := true }.adv 2))

/-- A header with its checksum recomputed at offset 10 (R146). -/
def fixChecksum (h : Bytes) : Bytes :=
  let z := overwrite h 10 [0, 0]
  overwrite z 10 (beBytes 2 (65535 - onesSum z))

/-- CSUM4 (R146). -/
def execCsum4 (e : Fin 64) (n : Fin 96) (s : State) : Res :=
  s.issue 0x64 0xFF .egress e n (fun t _ nd w =>
    let off := getField w 0 8
    if !windowOk nd off 1 then .stop t nd 2
    else
      let ihl := beAt nd.win off 1 % 16
      if ihl < 5 then .go t ({ nd with z := true }.adv 2)
      else if !windowOk nd off (4 * ihl) then .stop t nd 2
      else .go t ({ nd with win := overwrite nd.win off (fixChecksum (sliceZ nd.win off (4 * ihl))), z := false }.adv 2))

/-- TSMARK (R147). -/
def execTsmark (e : Fin 64) (n : Fin 96) (s : State) : Res :=
  s.issue 0x65 (mX ||| mRA ||| mRB) .egress e n (fun t _ nd w =>
    if wX w = 0 ∨ 2 < wX w then .stop t nd 3
    else .go t ((((nd.putMd 0x60 (beBytes 2 (nd.g (wRa w)).toNat)).putMd 0x62 (beBytes 2 (nd.g (wRb w)).toNat)).putMd 0x64
      (beBytes 1 (wX w))).adv 1))

/-- TSTAG (R147). -/
def execTstag (e : Fin 64) (n : Fin 96) (s : State) : Res :=
  s.issue 0x66 mRA .egress e n (fun t _ nd w =>
    .go t ({ nd.putMd 0x66 (beBytes 2 (nd.g (wRa w)).toNat) with twoStep := true }.adv 1))

end Sys2Proof.Machine
end

