-- ==== Sys2Proof/Machine/Tim.lean ====
section
/-! DEFINITION. The time of day and SyncE (spec/03, R86, R91). -/

namespace Sys2Proof.Machine

/-- The time of day in units of 2^-32 ns. -/
def State.todUnits (s : State) : Nat :=
  (s.fld F.TIM_TOD_SEC_SEC 0 * 1000000000 + s.fld F.TIM_TOD_NS_NS 0) * 2 ^ 32 + s.tim.frac

/-- The state with the time of day set from units of 2^-32 ns; seconds wrap at 48 bits. -/
def State.setTod (s : State) (u : Nat) : State :=
  let ns := u / 2 ^ 32
  let s1 := (s.setFld F.TIM_TOD_SEC_SEC 0 (ns / 1000000000)).setFld F.TIM_TOD_NS_NS 0 (ns % 1000000000)
  { s1 with tim := { s1.tim with frac := u % 2 ^ 32 } }

/-- `n` core clocks pass for the time of day, at the increment in force (R86). -/
def State.todClocks (s : State) (n : Nat) : State :=
  if s.tim.running then s.setTod (s.todUnits + n * s.eff F.TIM_INCR_INCR 0) else s

/-- A write to TIM_ADJ: with STEP_GO the step applies at the next edge (R86). -/
def State.writeTimAdj (s : State) (mask v : BitVec 64) : State :=
  let s1 := s.plainWrite .TIM_ADJ 0 mask v
  if wbit mask v 32 then { s1 with tim := { s1.tim with stepGo := true } } else s1

/-- TOD_STEP (R86). -/
def execTodStep (a : Agent) (v : BitVec 64) (s : State) : Res :=
  .next (s.begin.writeBy a .TIM_ADJ 0 (fun t => t.writeTimAdj all64 v))

/-- A write to TIM_SET_SEC: with SET_GO the time is loaded at the next edge (R86). -/
def State.writeTimSet (s : State) (mask v : BitVec 64) : State :=
  let s1 := s.plainWrite .TIM_SET_SEC 0 mask v
  if wbit mask v 63 then { s1 with tim := { s1.tim with setGo := true } } else s1

/-- TOD_SET (R86). -/
def execTodSet (a : Agent) (v : BitVec 64) (s : State) : Res :=
  .next (s.begin.writeBy a .TIM_SET_SEC 0 (fun t => t.writeTimSet all64 v))

/-- What waits for the edge applies, in the order set, step, increment (the increment is read in force from here on); and
the time of day advances from the first edge at which PD63 is ON (R86). A step below 0 wraps modulo 2^110 units
(DESIGN CHOICE, log entry 63). -/
def State.edgeTod (s : State) : State :=
  let s1 := { s with tim := { s.tim with running := s.domState 63 == 3 } }
  let s2 := if s1.tim.setGo
    then s1.setTod ((s1.fld F.TIM_SET_SEC_SEC 0 * 1000000000 + s1.fld F.TIM_SET_NS_NS 0) * 2 ^ 32) else s1
  let s3 := if s2.tim.stepGo
    then s2.setTod (unsignedOf 110 ((s2.todUnits : Int) + signedOf 32 (s2.fld F.TIM_ADJ_STEP 0) * (2 ^ 32 : Nat))) else s2
  { s3 with tim := { s3.tim with stepGo := false, setGo := false } }

/-- The live and the sticky loss bit of SyncE output `i`. -/
def losFld (i : Nat) : Fld := if i = 0 then F.TIM_SYNCE_STS_LOS0 else F.TIM_SYNCE_STS_LOS1

/-- The sticky loss bit of SyncE output `i`. -/
def losStFld (i : Nat) : Fld := if i = 0 then F.TIM_SYNCE_STS_LOS0_ST else F.TIM_SYNCE_STS_LOS1_ST

/-- The source of SyncE output `i` is lost: LOS, its sticky bit, and the TIM fault (R91). -/
def State.synceLost (s : State) (i : Nat) : State :=
  if s.bit (losFld i) 0 then s
  else ((s.setFld (losFld i) 0 1).setFld (losStFld i) 0 1).faultLasting 7 0 i

/-- The source of SyncE output `i` is locked: LOS clears (R91). -/
def State.synceBack (s : State) (i : Nat) : State := (s.setFld (losFld i) 0 0).faultEnds 7 0 i

/-- What SYNCE_CLK output `i` carries with source `lane` divided by `div`: low where it is not enabled or unpowered; the
recovered clock while the lane is locked; squelched otherwise, low or SYS_REFCLK (R91). -/
def State.synceOf (s : State) (i lane div : Nat) : SynceClk :=
  if !s.bit F.TIM_SYNCE_EN i || !s.domOn 63 then .low
  else if s.bit F.SDS_LANE_STS_CDR_LOCK lane then .lane lane (max 16 div)
  else if s.bit F.TIM_SYNCE_SQ_MODE i then .refclk else .low

/-- What SYNCE_CLK output `i` carries now: LANE and DIV in force, EN and SQ_MODE as written (R91; DESIGN CHOICE, log
entry 63). -/
def State.synceClk (s : State) (i : Nat) : SynceClk := s.synceOf i (s.eff F.TIM_SYNCE_LANE i) (s.eff F.TIM_SYNCE_DIV i)

/-- The lock of the lane that output `i` takes changes, and the output with it. -/
def State.synceLock (s : State) (i : Fin 2) (lock : Bool) : State :=
  let s1 := s.setFld F.SDS_LANE_STS_CDR_LOCK (s.eff F.TIM_SYNCE_LANE i.val) (boolNat lock)
  let s2 := if lock then s1.synceBack i.val else s1.synceLost i.val
  s2.emit (.synceClk i (s2.synceClk i.val))

/-- SYNCE_LOS: the lane that output `i` takes loses its CDR lock, and the output is squelched (R91). -/
def execSynceLos (i : Fin 2) (s : State) : Res := .next (s.begin.synceLock i false)

/-- CDR_LOCK_REGAINED: the recovered clock is back (R91). -/
def execCdrLockRegained (i : Fin 2) (s : State) : Res := .next (s.begin.synceLock i true)

/-- A change of LANE or DIV of output `i` applies at the edge: LOS then follows the lock of the new lane, and the output is
held low for one period (R91). -/
def State.edgeSynceOne (s : State) (i : Fin 2) : State :=
  let lane := s.fld F.TIM_SYNCE_LANE i.val
  let moved := s.eff F.TIM_SYNCE_LANE i.val != lane
  let s1 := if !moved then s
    else if s.bit F.SDS_LANE_STS_CDR_LOCK lane then s.synceBack i.val else s.synceLost i.val
  if moved || s.eff F.TIM_SYNCE_DIV i.val != s.fld F.TIM_SYNCE_DIV i.val then
    (s1.emit (.synceLow i)).emit (.synceClk i (s1.synceOf i.val lane (s1.fld F.TIM_SYNCE_DIV i.val)))
  else s1

/-- Both SyncE outputs at an edge. -/
def State.edgeSynce (s : State) : State := (s.edgeSynceOne 0).edgeSynceOne 1

end Sys2Proof.Machine
end

