-- ==== Sys2Proof/Machine/Clock.lean ====
section
/-! DEFINITION. What passes with the core clock between edges: TIK_CLK, the time of day, the levels that Gauge counts and
the start watchdog (spec/02, spec/03, spec/17, spec/18). -/

namespace Sys2Proof.Machine

/-- Needles of pipeline `n` that run packets of a direction (R95): engines 4n and 4n + 1 ingress, the others egress. -/
def State.busyNeedles (s : State) (n : Nat) (ingress : Bool) : Nat :=
  (s.needles.filter (fun e => enginePipe (e.1 / 96) == n && e.2.isSome && (engineDir (e.1 / 96) == (if ingress then 0 else 1)))).length

/-- Needles of pipeline `n` that are stalled in WAIT or LDR, of a direction (R133). -/
def State.stalledNeedles (s : State) (n dir : Nat) : Nat :=
  (s.needles.filter (fun e => enginePipe (e.1 / 96) == n && engineDir (e.1 / 96) == dir && e.2.elim false (fun x => x.stalled))).length

/-- The level of an event of Table 17-1 that stands from clock to clock, on block `b`: a pipeline below 16, die b − 16
otherwise, of the instances that `qual` counts; none for the events that their own commands count. -/
def State.levelOf (s : State) (b code : Nat) (qual : Nat → Bool) : Option Nat :=
  if b < 16 then
    match code with
    | 0x00 => some 1
    | 0x03 => some (s.busyNeedles b true)
    | 0x04 => some (s.busyNeedles b false)
    | 0x06 => some ((if qual 0 then s.stalledNeedles b 0 else 0) + (if qual 1 then s.stalledNeedles b 1 else 0))
    | 0x0C => some (s.stageUsed b)
    | 0x0D => some ((s.pipe b).ig.filter (fun j => j.ended)).length
    | _ => none
  else
    let d := b - 16
    match code with
    | 0x40 => some 1
    | 0x43 => some (s.buf d).banks.sum
    | 0x44 => some (s.freeS d)
    | 0x48 => some ((s.dieQueues d).filter (fun e => e.2.spill.isSome)).length
    | 0x4A => some ((List.range 24).map (fun q => (s.panelQueue (24 * d + q)).length)).sum
    | 0x50 => some (s.heldPkts d).length
    | _ => none

/-- The enabled counters, by their control registers in force. -/
def State.gaugeRunning (s : State) : List Nat :=
  (s.inForce.filter (fun e => e.1 % 256 == Reg.GGE_CTL.code && getField e.2 10 1 == 1)).map (fun e => e.1 / 256)

/-- The management cores run Virroyr or the ROM image: from step C3 of cast-on on (R414, Table 18-5). -/
def State.imageRuns (s : State) : Bool := s.curMode != 0 && 3 ≤ s.boot.step

/-- `n` core clocks pass: the time of day, the levels that Gauge counts, and the watchdog (R86, R393, R414). -/
def State.passClocks (s : State) (n : Nat) : State :=
  if n = 0 then s
  else
    let s1 := (s.todClocks n).each s.gaugeRunning (fun t c =>
      t.gaugePass n c (t.levelOf (gaugeBlock c) (t.eff F.GGE_CTL_EVENT c) (fun q => t.gaugeQual c (some q))))
    { s1 with
      gauge := { s1.gauge with now := [] }
      boot := { s1.boot with wdog := s1.boot.wdog - n } }

/-- The tick generator runs: in every mode but OFF, once step C3 of cast-on is over (Table 18-5). -/
def State.clockOn (s : State) : Bool := s.curMode != 0 && 4 ≤ s.boot.step

/-- One core clock of the tick in progress passes; the last one is the edge's own. While an image runs and the tick does not
yet, only the watchdog counts (R414). -/
def State.clock (s : State) : State :=
  let c := s.fld F.TIK_CLK_CLK 0
  if s.clockOn then (if c + 1 < s.tick.len then (s.passClocks 1).setFld F.TIK_CLK_CLK 0 (c + 1) else s)
  else if s.imageRuns then { s with boot := { s.boot with wdog := s.boot.wdog - 1 } }
  else s

end Sys2Proof.Machine
end

