-- ==== Sys2Proof/Machine/Crypto.lean ====
section
/-! DEFINITION. The standard algorithms that the spec names and does not repeat (PRESUMED from the standards): the CRC-32
of the Ethernet FCS (IEEE 802.3), AES-256 in GCM (FIPS 197, NIST SP 800-38D) for MACsec (R431), and SHA-384 (FIPS 180-4)
and the ECDSA verification on P-384 (FIPS 186-5) for secure boot and debug unlock (R410, R441). -/

namespace Sys2Proof.Machine

/-- One bit of the reflected CRC-32 register. -/
def fcsBit (c : BitVec 32) : BitVec 32 := if c &&& 1 = 1 then (c >>> 1) ^^^ 0xEDB88320 else c >>> 1

/-- `n` bits of the CRC-32 register. -/
def fcsBits : Nat → BitVec 32 → BitVec 32
  | 0, c => c
  | n + 1, c => fcsBits n (fcsBit c)

/-- The CRC-32 of a byte string. -/
def crc32 (bs : Bytes) : BitVec 32 := ~~~ bs.foldl (fun c b => fcsBits 8 (c ^^^ b.setWidth 32)) 0xFFFFFFFF

/-- The FCS of a frame as it stands on the wire: the CRC-32 with its least significant byte first. -/
def fcsOf (bs : Bytes) : Bytes := leBytes 4 (crc32 bs).toNat

/-- Doubling in GF(2^8) with the AES polynomial. -/
def gfDouble (a : Byte) : Byte := if a.getLsbD 7 then (a <<< 1) ^^^ 0x1B else a <<< 1

/-- Product in GF(2^8) over the low `n` bits of `b`. -/
def gfMulBits : Nat → Byte → Byte → Byte
  | 0, _, _ => 0
  | n + 1, a, b => (if b.getLsbD 0 then a else 0) ^^^ gfMulBits n (gfDouble a) (b >>> 1)

/-- Product in GF(2^8). -/
def gfMul (a b : Byte) : Byte := gfMulBits 8 a b

/-- The inverse in GF(2^8): the power 254, 0 for 0. -/
def gfInv (a : Byte) : Byte :=
  let a2 := gfMul a a
  let a4 := gfMul a2 a2
  let a8 := gfMul a4 a4
  let a16 := gfMul a8 a8
  let a32 := gfMul a16 a16
  let a64 := gfMul a32 a32
  let a128 := gfMul a64 a64
  gfMul a128 (gfMul a64 (gfMul a32 (gfMul a16 (gfMul a8 (gfMul a4 a2)))))

/-- SubBytes of one byte. -/
def aesSub (a : Byte) : Byte :=
  let b := gfInv a
  b ^^^ b.rotateLeft 1 ^^^ b.rotateLeft 2 ^^^ b.rotateLeft 3 ^^^ b.rotateLeft 4 ^^^ 0x63

/-- Byte-wise exclusive or. -/
def xorBytes (a b : Bytes) : Bytes := List.zipWith (· ^^^ ·) a b

/-- The key schedule of AES-256, its latest four-byte word first: `n` words more, the next one being word `i`. -/
def aesExpand : Nat → Nat → Byte → List Bytes → List Bytes
  | 0, _, _, ws => ws
  | n + 1, i, rcon, ws =>
    let prev := ws.headD []
    let back := ws.getD 7 []
    let t := if i % 8 = 0 then xorBytes ((prev.drop 1 ++ prev.take 1).map aesSub) [rcon, 0, 0, 0]
      else if i % 8 = 4 then prev.map aesSub else prev
    aesExpand n (i + 1) (if i % 8 = 0 then gfDouble rcon else rcon) (xorBytes back t :: ws)

/-- The fifteen round keys of a 32-byte key. -/
def aesKeys (key : Bytes) : List Bytes :=
  let ws := (aesExpand 52 8 1 ((List.range 8).map (fun i => sliceZ key (4 * i) 4)).reverse).reverse
  (List.range 15).map (fun r => ((ws.drop (4 * r)).take 4).flatten)

/-- ShiftRows of a block in column order. -/
def aesShift (b : Bytes) : Bytes := (List.range 16).map (fun i => b.getD ((i + 4 * (i % 4)) % 16) 0)

/-- MixColumns of a block. -/
def aesMix (b : Bytes) : Bytes :=
  (List.range 16).map (fun i =>
    let at_ (k : Nat) : Byte := b.getD (i / 4 * 4 + (i + k) % 4) 0
    gfDouble (at_ 0) ^^^ gfDouble (at_ 1) ^^^ at_ 1 ^^^ at_ 2 ^^^ at_ 3)

/-- The rounds of AES-256 but the first key addition. -/
def aesRounds : List Bytes → Bytes → Bytes
  | [], b => b
  | [k], b => xorBytes (aesShift (b.map aesSub)) k
  | k :: ks, b => aesRounds ks (xorBytes (aesMix (aesShift (b.map aesSub))) k)

/-- AES-256 of a block, under its round keys. -/
def aesBlock (ks : List Bytes) (b : Bytes) : Bytes := aesRounds (ks.drop 1) (xorBytes b (ks.headD []))

/-- Product in GF(2^128) as GCM orders its bits: the bits of `x` from the first on. -/
def ghashMul : Nat → BitVec 128 → BitVec 128 → BitVec 128 → BitVec 128
  | 0, _, _, z => z
  | n + 1, x, v, z =>
    ghashMul n (x <<< 1) (if v.getLsbD 0 then (v >>> 1) ^^^ (0xE1 <<< 120) else v >>> 1) (if x.getLsbD 127 then z ^^^ v else z)

/-- The blocks of a string, the last filled with zeros: `n` of them. -/
def blocksOf (n : Nat) (bs : Bytes) : List Bytes := (List.range n).map (fun i => sliceZ (bs.drop (16 * i)) 0 16)

/-- GHASH of a sequence of blocks. -/
def ghash (h : BitVec 128) (l : List Bytes) : BitVec 128 :=
  l.foldl (fun y b => ghashMul 128 (y ^^^ BitVec.ofNat 128 (ofBe b)) h 0) 0

/-- The GCM keystream applied to a string, from counter 2 on, with a 12-byte IV. -/
def gcmCrypt (ks : List Bytes) (iv data : Bytes) : Bytes :=
  let n := (data.length + 15) / 16
  xorBytes data ((List.range n).flatMap (fun i => aesBlock ks (iv ++ beBytes 4 (i + 2))))

/-- The GCM tag of associated data and ciphertext. -/
def gcmTag (ks : List Bytes) (iv aad ct : Bytes) : Bytes :=
  let h := BitVec.ofNat 128 (ofBe (aesBlock ks (List.replicate 16 0)))
  let y := ghash h (blocksOf ((aad.length + 15) / 16) aad ++ blocksOf ((ct.length + 15) / 16) ct ++
    [beBytes 8 (aad.length * 8) ++ beBytes 8 (ct.length * 8)])
  xorBytes (beBytes 16 y.toNat) (aesBlock ks (iv ++ beBytes 4 1))

/-- The largest `r` below 2^`n` above the bits already found with `r`^`k` at most `x`, one bit a step. -/
def rootFrom (k x : Nat) : Nat → Nat → Nat
  | 0, r => r
  | n + 1, r => rootFrom k x n (if (r + 2 ^ n) ^ k ≤ x then r + 2 ^ n else r)

/-- The first 64 bits of the fraction of the `k`-th root of a number below 2^9: how FIPS 180-4 gives the constants of SHA-384. -/
def rootFraction (k p : Nat) : BitVec 64 := BitVec.ofNat 64 (rootFrom k (p * 2 ^ (64 * k)) 72 0)

/-- The first eighty primes. -/
def firstPrimes : List Nat := (List.range 410).filter (fun p => 2 ≤ p && (List.range p).all (fun q => q < 2 || p % q != 0))

/-- The constants of the eighty rounds, cube roots, and the initial hash value, square roots of the ninth to sixteenth primes
(FIPS 180-4). -/
def roundConstants : List (BitVec 64) := firstPrimes.map (rootFraction 3)
def initialHash : List (BitVec 64) := ((firstPrimes.drop 8).take 8).map (rootFraction 2)

/-- A word rotated right by each of several amounts, the results added modulo 2. -/
def rotXor (amounts : List Nat) (x : BitVec 64) : BitVec 64 := amounts.foldl (fun y n => y ^^^ x.rotateRight n) 0

/-- A message schedule grows by `n` words; it is held with its latest word first. -/
def growSchedule : Nat → List (BitVec 64) → List (BitVec 64)
  | 0, ws => ws
  | n + 1, ws =>
    let back (i : Nat) : BitVec 64 := ws.getD (i - 1) 0
    growSchedule n ((back 16 + (rotXor [1, 8] (back 15) ^^^ back 15 >>> 7) + back 7 + (rotXor [19, 61] (back 2) ^^^ back 2 >>> 6)) :: ws)

/-- One round on the eight working variables, `step` the sum of the round's constant and schedule word. -/
def hashRound (vars : List (BitVec 64)) (step : BitVec 64) : List (BitVec 64) :=
  match vars with
  | [a, b, c, d, e, f, g, h] =>
    let choice := g ^^^ (e &&& (f ^^^ g))
    let majority := (a &&& (b ||| c)) ||| (b &&& c)
    let fresh := step + choice + h + rotXor [14, 18, 41] e
    [fresh + majority + rotXor [28, 34, 39] a, a, b, c, fresh + d, e, f, g]
  | other => other

/-- The hash value after one more block of 128 bytes. -/
def hashBlock (value : List (BitVec 64)) (block : Bytes) : List (BitVec 64) :=
  let first := (List.range 16).foldl (fun ws i => BitVec.ofNat 64 (beAt block (8 * i) 8) :: ws) []
  let steps := List.zipWith (· + ·) (growSchedule 64 first).reverse roundConstants
  List.zipWith (· + ·) (steps.foldl hashRound value) value

/-- A message with a bit 1, zeros and its length in bits behind it, in whole blocks (FIPS 180-4). -/
def padMessage (m : Bytes) : Bytes := padTo ((m.length + 144) / 128 * 128 - 16) (m ++ [0x80]) ++ beBytes 16 (8 * m.length)

/-- The hash value after the first `n` blocks of a padded message. -/
def hashBlocks (m : Bytes) : Nat → List (BitVec 64)
  | 0 => initialHash
  | n + 1 => hashBlock (hashBlocks m n) (sliceZ m (128 * n) 128)

/-- SHA-384 of a byte string: the first six words of the hash value. -/
def sha384 (m : Bytes) : Bytes :=
  let p := padMessage m
  ((hashBlocks p (p.length / 128)).take 6).flatMap (fun w => beBytes 8 w.toNat)

/-- The field prime, the coefficient b, the group order and the base point of P-384. -/
def p384P : Nat := 0xfffffffffffffffffffffffffffffffffffffffffffffffffffffffffffffffeffffffff0000000000000000ffffffff
def p384B : Nat := 0xb3312fa7e23ee7e4988e056be3f82d19181d9c6efe8141120314088f5013875ac656398d8a2ed19d2a85c8edd3ec2aef
def p384N : Nat := 0xffffffffffffffffffffffffffffffffffffffffffffffffc7634d81f4372ddf581a0db248b0a77aecec196accc52973
def p384G : Nat × Nat × Nat :=
  (0xaa87ca22be8b05378eb1c71ef320ad746e1d3b628ba79b9859f741e082542a385502f25dbf55296c3a545e3872760ab7,
   0x3617de4a96262c6f5d9e98bf9292dc29f8f41dbd289a147ce9da3113b5f0b8c00a60b1ce1d7e819d7a431d7c90ea0e5f, 1)

/-- A power modulo `m`, by the low `f` bits of the exponent. -/
def powMod (m : Nat) : Nat → Nat → Nat → Nat
  | 0, _, _ => 1
  | f + 1, b, e => (if e % 2 = 1 then b else 1) * powMod m f (b * b % m) (e / 2) % m

/-- Doubling of a point in Jacobian coordinates; z = 0 is the point at infinity. -/
def p384Double (a : Nat × Nat × Nat) : Nat × Nat × Nat :=
  let p := p384P
  let y2 := a.2.1 * a.2.1 % p
  let z2 := a.2.2 * a.2.2 % p
  let s := 4 * a.1 * y2 % p
  let m := 3 * ((a.1 + p - z2) * (a.1 + z2)) % p
  let x := (m * m + 2 * (p - s)) % p
  (x, (m * (s + p - x) + (p - 8 * y2 * y2 % p)) % p, 2 * a.2.1 * a.2.2 % p)

/-- Sum of two points in Jacobian coordinates. -/
def p384Add (a b : Nat × Nat × Nat) : Nat × Nat × Nat :=
  let p := p384P
  if a.2.2 = 0 then b
  else if b.2.2 = 0 then a
  else
    let z1 := a.2.2 * a.2.2 % p
    let z2 := b.2.2 * b.2.2 % p
    let u1 := a.1 * z2 % p
    let u2 := b.1 * z1 % p
    let s1 := a.2.1 * b.2.2 % p * z2 % p
    let s2 := b.2.1 * a.2.2 % p * z1 % p
    if u1 = u2 then (if s1 = s2 then p384Double a else (1, 1, 0))
    else
      let h := (u2 + p - u1) % p
      let r := (s2 + p - s1) % p
      let h2 := h * h % p
      let h3 := h2 * h % p
      let v := u1 * h2 % p
      let x := (r * r + (p - h3) + 2 * (p - v)) % p
      (x, (r * (v + p - x) + (p - s1 * h3 % p)) % p, h * a.2.2 % p * b.2.2 % p)

/-- `k` times a point, by the low `f` bits of `k`. -/
def p384Mul : Nat → Nat → Nat × Nat × Nat → Nat × Nat × Nat
  | 0, _, _ => (1, 1, 0)
  | f + 1, k, a => p384Add (if k % 2 = 1 then a else (1, 1, 0)) (p384Mul f (k / 2) (p384Double a))

/-- The public key lies on the curve. -/
def p384OnCurve (x y : Nat) : Bool :=
  x < p384P && y < p384P && y * y % p384P == (x * x * x + (p384P - 3) * x + p384B) % p384P

/-- ECDSA verification on P-384 with SHA-384: public key X and Y, signature r and s, 48 bytes each (R410, R441). -/
def ecdsaVerify (key sig msg : Bytes) : Bool :=
  let x := beAt key 0 48
  let y := beAt key 48 48
  let r := beAt sig 0 48
  let t := beAt sig 48 48
  let n := p384N
  if !p384OnCurve x y || r = 0 || t = 0 || n ≤ r || n ≤ t then false
  else
    let w := powMod n 384 t (n - 2)
    let e := ofBe (sha384 msg)
    let q := p384Add (p384Mul 384 (e * w % n) p384G) (p384Mul 384 (r * w % n) (x, y, 1))
    if q.2.2 = 0 then false
    else
      let zi := powMod p384P 384 q.2.2 (p384P - 2)
      q.1 * (zi * zi % p384P) % p384P % n == r

end Sys2Proof.Machine
end

