-- ==== Sys2Proof/Machine/Journal.lean ====
section
/-! DEFINITION. Fault detection and injection as commands, and the journal in MRAM (spec/16, R377 to R391). The reactions
are in `Reaction`. -/

namespace Sys2Proof.Machine

/-- FAULT_CONDITION_CLEARED: the live bit clears, the status stays (R377). -/
def execFaultConditionCleared (k : Fin 23) (src : Fin 32) (inst : Fin 65536) (s : State) : Res :=
  .next (s.begin.faultEnds k.val src.val inst.val)

/-- Sources whose condition is a corrected or uncorrectable error of a memory: those MODE 1 and 2 apply to (R390). -/
def eccSource (k src : Nat) : Bool :=
  [(3, 2), (3, 3), (6, 0), (6, 1), (9, 0), (9, 1), (9, 2), (10, 2), (11, 0), (11, 1), (12, 0), (12, 1), (12, 2), (13, 0), (14, 0),
   (14, 1), (14, 2), (15, 0), (15, 1), (15, 2), (16, 0), (16, 1), (16, 2), (17, 0), (17, 1), (18, 0), (20, 2), (21, 0)].contains (k, src)

/-- A write of FLT_INJ of block `k` (R390): outside SWATCH it is discarded with INJ_REFUSED; MODE 0 detects the source,
MODE 1 and 2 arm a flip of one or two bits. -/
def State.writeInject (s : State) (k : Nat) (v : BitVec 64) : State :=
  let src := getField v 0 5
  let inst := getField v 8 16
  let m := getField v 28 2
  if !v.getLsbD 31 then s
  else if s.curMode ≠ 10 then s.fault 0 5 0 0
  else if (m = 1 ∨ m = 2) ∧ eccSource k src then
    { s with flt := { s.flt with armed := s.flt.armed ++ [(k, src, inst, m)] } }
  else s.faultWith k src inst 0 false true

/-- FAULT_INJECT (R390). -/
def execFaultInject (a : Agent) (k : Fin 23) (v : BitVec 32) (s : State) : Res :=
  .next (s.begin.writeBy a .FLT_INJ k.val (fun t => t.writeInject k.val (v.setWidth 64)))

/-- The slot that journal record SEQ goes to (R386). -/
def State.jrnSlot (s : State) : Nat :=
  if s.jrn.seq < 1024 then s.fld F.BOOT_JRN_STS_BOOT 0 % 2 * 1024 + s.jrn.seq else s.jrn.ringNext

/-- The 128 bytes of a journal record as written (R388, Table 16-5). -/
def State.jrnBytes (s : State) (r : JrnRec) : Bytes :=
  let flags := r.flags + boolNat s.jrn.dropped * 4
  let head := leBytes 1 r.type ++ leBytes 1 flags ++ leBytes 2 0 ++ leBytes 4 (s.fld F.BOOT_JRN_STS_BOOT 0) ++
    leBytes 4 s.jrn.seq ++ leBytes 4 0 ++ leBytes 8 r.tick.toNat ++ leBytes 4 r.todNs ++ leBytes 2 r.todSec ++ leBytes 2 0
  let all := head ++ padTo 88 r.body ++ leBytes 4 (s.fld F.BOOT_JRN_STS_DROPS 0)
  all ++ leBytes 4 (crc32c all).toNat

/-- A journal record as it reads: zero where none was written (R386, R389). -/
def State.jrnRecord (s : State) (slot : Nat) : Bytes := SMap.get (fun _ => List.replicate 128 0) s.jrn.mram slot

/-- The next journal slot after a record was written: the numbers advance, the ring wraps from 8,191 to 2,048 (R386). -/
def State.jrnAdvance (s : State) : State :=
  let ring := if s.jrn.seq < 1024 then s.jrn.ringNext else if s.jrn.ringNext = 8191 then 2048 else s.jrn.ringNext + 1
  let s1 := { s with jrn := { s.jrn with seq := s.jrn.seq + 1, ringNext := ring } }
  s1.setFld F.BOOT_JRN_STS_NEXT 0 s1.jrnSlot

/-- JOURNAL_WRITE: the oldest queued record is written within the bucket, or dropped and counted (R387, R388). -/
def execJournalWrite (s : State) : Res :=
  let s0 := s.begin
  match s0.jrn.queue with
  | [] => .next s0
  | r :: q =>
    let s1 := { s0 with jrn := { s0.jrn with queue := q } }
    if s1.jrn.bucket = 0 then
      .next { s1.satFld F.BOOT_JRN_STS_DROPS 0 1 with jrn := { s1.jrn with dropped := true } }
    else
      .next ({ s1 with jrn := { s1.jrn with
        bucket := s1.jrn.bucket - 1, dropped := false,
        mram := SMap.set (fun _ => List.replicate 128 0) s1.jrn.mram s1.jrnSlot (s1.jrnBytes r) } }.jrnAdvance)

/-- A write of BOOT_JRN_CMD: ERASE zeroes every record in SWATCH, and is discarded elsewhere (R389). -/
def State.writeJournalCmd (s : State) (v : BitVec 64) : State :=
  if v.getLsbD 0 && s.curMode == 10 then { s with jrn := { s.jrn with mram := [] } } else s

/-- JOURNAL_ERASE (R389). -/
def execJournalErase (a : Agent) (v : BitVec 32) (s : State) : Res :=
  .next (s.begin.writeBy a .BOOT_JRN_CMD 0 (fun t => t.writeJournalCmd (v.setWidth 64)))

/-- The journal bucket at an edge: one record is added every INTERVAL ticks, up to BURST (R387). -/
def State.edgeJournal (s : State) : State :=
  let interval := max 1 (s.fld F.BOOT_JRN_CFG_INTERVAL 0)
  let burst := max 1 (s.fld F.BOOT_JRN_CFG_BURST 0)
  let n := s.jrn.ticks + 1
  if interval ≤ n then { s with jrn := { s.jrn with ticks := 0, bucket := min burst (s.jrn.bucket + 1) } }
  else { s with jrn := { s.jrn with ticks := n, bucket := min burst s.jrn.bucket } }

end Sys2Proof.Machine
end

