-- ==== Sys2Proof/Machine/Cage.lean ====
section
/-! DEFINITION. Cages: the Cage Management Bus, debounced inputs, power, the attention button, and the I²C masters
(spec/03, R74 to R85). -/

namespace Sys2Proof.Machine

/-- The dynamic state of cage `g`. -/
def State.cage (s : State) (g : Nat) : CageSt := SMap.get (fun _ => CageSt.reset) s.cages g

/-- The state with cage `g` changed. -/
def State.setCage (s : State) (g : Nat) (v : CageSt) : State :=
  { s with cages := SMap.set (fun _ => CageSt.reset) s.cages g v }

/-- Cages on the chain, at most 128 (CAGE_CMB_CFG.NCAGE). -/
def State.nCage (s : State) : Nat := min 128 (s.fld F.CAGE_CMB_CFG_NCAGE 0)

/-- Debounce in scans, at least 1. -/
def State.cageDeb (s : State) : Nat := max 1 (s.fld F.CAGE_CMB_CFG_DEB 0)

/-- A status bit of a cage is set; where its enable is 1 a cage record is written and the cage interrupt raised (R84). -/
def State.cageEvent (s : State) (g : Nat) (f : Fld) (en : Fld) : State :=
  let s1 := s.setFld f g 1
  if s1.bit en g then (s1.notify 5 (g / 64) g 0 (leBytes 4 (s1.reg .CAGE_STS g).toNat)).interrupt 2 else s1

/-- An indicator's output: on, off, or blinking in the phase `ph`; code 0 is handled as off (CAGE_CTL). -/
def indOut (ctl : Nat) (ph : Bool) : Bool := if ctl = 1 then true else if ctl = 2 then ph else false

/-- The blink phase: it toggles every 256 + BLINK scans (R81, CAGE_CMB_CFG2). -/
def State.blinkPhase (s : State) : Bool := s.cmb.scans / (256 + s.fld F.CAGE_CMB_CFG2_BLINK 0) % 2 == 0

/-- The outputs that CAGE_CTL asks of cage `g`: PWR_EN, LPMODE, PIND, AIND in bits 0 to 3 (Table 3-5). -/
def State.cageWant (s : State) (g : Nat) : BitVec 4 :=
  let pwr := !s.bit F.CAGE_CAP_PWR_PRES g || !s.bit F.CAGE_CTL_PWR_CTL g
  BitVec.ofNat 4 (boolNat pwr + s.fld F.CAGE_CTL_LPMODE g * 2 +
    boolNat (indOut (s.fld F.CAGE_CTL_PIND_CTL g) s.blinkPhase) * 4 +
    boolNat (indOut (s.fld F.CAGE_CTL_AIND_CTL g) s.blinkPhase) * 8)

/-- One cage's part in a scan frame: the outputs shifted before are latched, completing a changed command; the outputs of
this frame are shifted, power going on only while fewer than the stagger have (R76, R79, R80). Answers how many have. -/
def State.shiftCage (s : State) (stagger : Nat) (acc : Nat) (g : Nat) : State × Nat :=
  let c := s.cage g
  let want := s.cageWant g
  let rising := want.getLsbD 0 && !c.shifted.getLsbD 0
  let wait := rising && stagger ≤ acc
  let out := if wait then want &&& 0xE else want
  let s1 := s.setCage g { c with latched := c.shifted, shifted := out, changed := c.changed && wait, carried := c.changed && !wait }
  (if c.carried then s1.setFld F.CAGE_STS_CC g 1 else s1, if rising && !wait then acc + 1 else acc)

/-- CAGE_CTL of cage `g` holds `new`: where outputs change, they wait for a frame (R79). -/
def State.putCageCtl (s : State) (g : Nat) (new : BitVec 64) : State :=
  let diff := (s.reg .CAGE_CTL g ^^^ new) &&& 0x3F0 != 0
  (s.setReg .CAGE_CTL g new).setCage g { s.cage g with changed := (s.cage g).changed || diff }

/-- A field of CAGE_CTL as the device writes it. -/
def State.putCageFld (s : State) (g : Nat) (f : Fld) (v : Nat) : State := s.putCageCtl g ((s.setFld f g v).reg .CAGE_CTL g)

/-- A cage's captured inputs are debounced, and INT_N is taken at once (R78, R81). The scan whose LOAD edge first drives
PWR_EN to 1 counts among the scans with PGOOD 0 (DESIGN CHOICE, log entry 63). -/
def State.captureCage (s : State) (g : Nat) (raw : BitVec 4) : State :=
  let c := s.cage g
  let run (n : Nat) (differs : Bool) : Nat := if differs then n + 1 else 0
  let powered := c.latched.getLsbD 0
  let s1 := s.setCage g { c with
    raw := raw
    presRun := run c.presRun (raw.getLsbD 0 == s.bit F.CAGE_STS_PDS g)
    btnRun := run c.btnRun (s.bit F.CAGE_CAP_ABP_PRES g && raw.getLsbD 1 != c.btn)
    goodRun := run c.goodRun (raw.getLsbD 2 != s.bit F.CAGE_STS_PGOOD g)
    badRun := run c.badRun (powered && !raw.getLsbD 2) }
  let s2 := s1.setFld F.CAGE_STS_MINT_LIVE g (boolNat (!raw.getLsbD 3))
  if c.raw.getLsbD 3 && !raw.getLsbD 3 then s2.cageEvent g F.CAGE_STS_MINT F.CAGE_CTL_MINT_EN else s2

/-- Core clocks that a scan frame lasts: 2 + 4 · NCAGE periods of SYS_REFCLK (156.25 MHz) divided by DIV (R76, R77). -/
def State.frameClocks (s : State) : Nat :=
  ((2 + 4 * s.nCage) * max 16 (s.fld F.CAGE_CMB_CFG_DIV 0) * 768 + 99) / 100

/-- CMB_SCAN_FRAME: at an edge at which a frame is due and none is in progress, outputs load and inputs are captured; with
NCAGE 0 nothing is scanned (R76, R77). -/
def execCmbScanFrame (inputs : List (BitVec 4)) (s : State) : Res :=
  let s0 := s.begin
  if s0.nCage = 0 || s0.cmb.left != 0 || !s0.cmb.due || !s0.atEdge then .next s0
  else
    let stagger := max 1 (s0.fld F.CAGE_CMB_CFG2_PWR_STAGGER 0)
    let p := (List.range s0.nCage).foldl (fun a g => a.1.shiftCage stagger a.2 g) (s0, 0)
    let s1 := p.1.each (List.range 128) (fun t g =>
      t.captureCage g (if g < s0.nCage then inputs.getD g 0xB else 0xB))
    let s2 := s1.emit (.cmb ((List.range s0.nCage).map (fun g => (s1.cage g).latched)))
    .next { s2.setFld F.CAGE_CMB_STS_RUN 0 1 with cmb := { s2.cmb with scans := s2.cmb.scans + 1, left := s0.frameClocks, due := false } }

/-- PWR_CTL and PIND_CTL of a cage as the device writes them (R80). -/
def State.cagePower (s : State) (g pwr pind : Nat) : State :=
  (s.putCageFld g F.CAGE_CTL_PWR_CTL pwr).putCageFld g F.CAGE_CTL_PIND_CTL pind

/-- The button sequence of a cage goes to state `q`: 0 IDLE, 1 WAIT, 2 BINDOFF (Table 3-6). -/
def State.cageSeq (s : State) (g q : Nat) : State := s.setFld F.CAGE_STS_SEQ g q

/-- A change of presence is accepted (R78, R80, R84, Table 3-6). -/
def State.acceptPresence (s : State) (g : Nat) : State :=
  let present := !(s.cage g).raw.getLsbD 0
  let s1 := (s.setCage g { s.cage g with presRun := 0 }).setFld F.CAGE_STS_PDS g (boolNat present)
  let s2 := s1.cageEvent g F.CAGE_STS_PDC F.CAGE_CTL_PDC_EN
  if present then
    if s2.bit F.CAGE_CTL_AUTO_PWR g && !(s2.cage g).noAuto then s2.cagePower g 0 1 else s2
  else
    let s3 := s2.setCage g { s2.cage g with noAuto := false }
    let s4 := if s3.bit F.CAGE_CTL_AUTO_PWR g || s3.fld F.CAGE_STS_SEQ g == 1 then s3.cagePower g 1 3 else s3
    if s4.fld F.CAGE_STS_SEQ g = 1 then s4.cageSeq g 0 else s4

/-- An accepted press of the attention button (R82, Table 3-6). -/
def State.pressButton (s : State) (g : Nat) : State :=
  let s1 := s.cageEvent g F.CAGE_STS_ABP F.CAGE_CTL_ABP_EN
  if s.split 7 then s1
  else if s.fld F.CAGE_STS_SEQ g = 0 then
    if s.bit F.CAGE_STS_PDS g then
      let c := s1.cage g
      let s2 := s1.setCage g { c with
        waitLeft := 16 * s1.fld F.CAGE_CMB_CFG2_BTN_WAIT 0
        pindWas := s1.fld F.CAGE_CTL_PIND_CTL g
        wasOn := !s1.bit F.CAGE_CTL_PWR_CTL g }
      (s2.putCageFld g F.CAGE_CTL_PIND_CTL 2).cageSeq g 1
    else s1
  else if s.fld F.CAGE_STS_SEQ g = 1 then
    ((s1.putCageFld g F.CAGE_CTL_PIND_CTL (s1.cage g).pindWas).setFld F.CAGE_STS_BTN_CANCEL g 1).cageSeq g 0
  else s1

/-- A change of BTN_N is accepted; from 1 to 0 it is a press (R78). -/
def State.acceptButton (s : State) (g : Nat) : State :=
  let c := s.cage g
  let s1 := s.setCage g { c with btnRun := 0, btn := !c.btn }
  if c.btn then s1.pressButton g else s1

/-- PGOOD has read 0 for DEB scans while PWR_EN is driven 1: power fault (R81). -/
def State.cagePowerFault (s : State) (g : Nat) : State :=
  let s1 := s.setCage g { s.cage g with badRun := 0, noAuto := true }
  let s2 := s1.cageEvent g F.CAGE_STS_PFD F.CAGE_CTL_PFD_EN
  let s3 := (s2.cagePower g 1 3).fault 22 0 g
  s3.each (s3.cagePorts g) (fun t p => t.requestBindoff p)

/-- A change of PGOOD is accepted, and a lasting PGOOD of 0 under power is a power fault (R78, R81). -/
def State.acceptGood (s : State) (g : Nat) : State :=
  let c := s.cage g
  let s1 := if s.cageDeb ≤ c.goodRun
    then (s.setCage g { c with goodRun := 0 }).setFld F.CAGE_STS_PGOOD g (boolNat (c.raw.getLsbD 2)) else s
  if s.cageDeb ≤ c.badRun then s1.cagePowerFault g else s1

/-- CAGE_INPUT_ACCEPTED: after DEB consecutive scans (R78). -/
def execCageInputAccepted (g : Fin 128) (which : CageInput) (s : State) : Res :=
  let s0 := s.begin
  let c := s0.cage g.val
  match which with
  | .presence => .next (if s0.cageDeb ≤ c.presRun then s0.acceptPresence g.val else s0)
  | .button => .next (if s0.cageDeb ≤ c.btnRun then s0.acceptButton g.val else s0)
  | .powerGood => .next (s0.acceptGood g.val)

/-- A write to CAGE_CTL: changed outputs wait for a frame; during WAIT a write of PWR_CTL or PIND_CTL, of whatever value, ends
the sequence; during BINDOFF the fields written are held, the later value of each (R79, R81, R83). -/
def State.writeCageCtl (s : State) (g : Nat) (mask v : BitVec 64) : State :=
  let old := s.reg .CAGE_CTL g
  let new := Reg.written .CAGE_CTL old mask v
  let pwr := mask &&& 0x100 != 0
  let pind := mask &&& 0xC0 != 0
  let s0 := if pwr && !new.getLsbD 8 then s.setCage g { s.cage g with noAuto := false } else s
  if s.fld F.CAGE_STS_SEQ g = 2 then
    let s1 := s0.putCageCtl g ((new &&& ~~~ (0x1C0 : BitVec 64)) ||| (old &&& 0x1C0))
    let h := (s1.cage g).held
    s1.setCage g { s1.cage g with
      held := (if pwr then some (getField new 8 1) else h.1, if pind then some (getField new 6 2) else h.2) }
  else
    let s1 := s0.putCageCtl g new
    if s.fld F.CAGE_STS_SEQ g = 1 ∧ (pwr || pind) = true then (s1.cageSeq g 0).setFld F.CAGE_STS_BTN_CANCEL g 1 else s1

/-- CAGE_CTL_WRITE (R79, R83). -/
def execCageCtlWrite (a : Agent) (g : Fin 128) (v : BitVec 32) (s : State) : Res :=
  .next (s.begin.writeBy a .CAGE_CTL g.val (fun t => t.writeCageCtl g.val low32 (v.setWidth 64)))

/-- BTN_WAIT_EXPIRE: with power on the ports of the cage go to bind-off, with power off the cage powers on (Table 3-6). -/
def execBtnWaitExpire (g : Fin 128) (s : State) : Res :=
  let s0 := s.begin
  .next (if s0.fld F.CAGE_STS_SEQ g.val = 1 ∧ (s0.cage g.val).waitLeft = 0 then
      if (s0.cage g.val).wasOn then
        let s1 := s0.setCage g.val { s0.cage g.val with flushing := s0.cagePorts g.val, held := (none, none) }
        (s1.cageSeq g.val 2).each (s0.cagePorts g.val) (fun t p => t.requestBindoff p)
      else (s0.cagePower g.val 0 1).cageSeq g.val 0
    else s0)

/-- A port's bind-off for the cage sequence is over: no request waits, and its flush has finished or it is not in bind-off. -/
def State.bindoffOver (s : State) (p : Nat) : Bool :=
  !(s.port p).bindoff && (s.portState p != 3 || (s.port p).finished)

/-- The end of the button sequence after BINDOFF: PWR_CTL 1 and PIND_CTL 3, or the values held for them; LPMODE 1 as the
sequence powers the cage off, where no PWR_CTL is held (R80, R83; DEDUCED, log entry 63). -/
def State.cageFinal (s : State) (g : Nat) : State :=
  let h := (s.cage g).held
  let s1 := s.cagePower g (h.1.getD 1) (h.2.getD 3)
  let s2 := if h.1.isSome then s1 else s1.putCageFld g F.CAGE_CTL_LPMODE 1
  (s2.setCage g { s2.cage g with held := (none, none), flushing := [] }).cageSeq g 0

/-- CAGE_BINDOFF_DONE: every port on the cage's lanes has finished its flush, one disabled meanwhile too, and the cage powers
off, or takes what was written meanwhile (R82, R83, Table 3-6). -/
def execCageBindoffDone (g : Fin 128) (s : State) : Res :=
  let s0 := s.begin
  .next (if s0.fld F.CAGE_STS_SEQ g.val = 2 ∧
      ((s0.cage g.val).flushing ++ s0.cagePorts g.val).all s0.bindoffOver = true then s0.cageFinal g.val else s0)

/-- A scan frame falls due at every SCAN-th edge, the edges whose TIK_COUNT is a multiple of SCAN (DESIGN CHOICE, log
entry 63). One due while another has not ended starts at the first edge after the end, with OVERRUN (R77). -/
def State.edgeScan (s : State) : State :=
  let s1 := if s.cmb.left = 0 then s.setFld F.CAGE_CMB_STS_RUN 0 0 else s
  if s1.nCage = 0 then { s1 with cmb := { s1.cmb with due := false } }
  else if s1.tikCount.toNat % max 1 (s1.fld F.CAGE_CMB_CFG_SCAN 0) ≠ 0 then s1
  else
    let s2 := { s1 with cmb := { s1.cmb with due := true } }
    s2.when (s1.cmb.left != 0) (fun t => (t.setFld F.CAGE_CMB_STS_OVERRUN 0 1).fault 22 1 0 0)

/-- The button waits of the cages and the scan frames, at an edge of a tick that lasted `clocks`. -/
def State.edgeCages (s : State) (clocks : Nat) : State :=
  { s with
    cages := SMap.update (fun _ => CageSt.reset) (fun _ c => { c with waitLeft := c.waitLeft - 1 }) s.cages
    cmb := { s.cmb with left := s.cmb.left - clocks } }.edgeScan

/-- The bytes of I²C buffer `m`. -/
def State.i2cBytes (s : State) (m n : Nat) : Bytes :=
  ((List.range 32).flatMap (fun w => leBytes 4 (s.reg .CAGE_I2C_DATA (m * 32 + w)).toNat)).take n

/-- The length of a transfer, at most 128. -/
def State.i2cLen (s : State) (m : Nat) : Nat := min 128 (s.fld F.CAGE_I2C_CTL_LEN m)

/-- A write to CAGE_I2C_CTL: GO starts a transfer; it is discarded while BUSY, and a LEN of 0 is done at once (R85). -/
def State.writeI2c (s : State) (m : Nat) (mask v : BitVec 64) : State :=
  if wbit mask v 31 then
    if s.bit F.CAGE_I2C_STS_BUSY m then s
    else
      let s1 := s.plainWrite .CAGE_I2C_CTL m mask v
      if s1.i2cLen m = 0 then s1.setFld F.CAGE_I2C_STS_DONE m 1
      else
        let rd := s1.bit F.CAGE_I2C_CTL_RD m
        let s2 := { s1 with cmb := { s1.cmb with i2c := SMap.set (fun _ => (false, 0)) s1.cmb.i2c m (rd, s1.i2cLen m) } }
        (s2.setFld F.CAGE_I2C_STS_BUSY m 1).emit (.i2c m (s1.fld F.CAGE_I2C_CTL_ADDR m) (s1.fld F.CAGE_I2C_CTL_OFFSET m) rd
          (s1.i2cLen m) (if rd then [] else s1.i2cBytes m (s1.i2cLen m)))
  else s.plainWrite .CAGE_I2C_CTL m mask v

/-- I2C_GO (R85). -/
def execI2cGo (a : Agent) (m : Fin 8) (v : BitVec 32) (s : State) : Res :=
  .next (s.begin.writeBy a .CAGE_I2C_CTL m.val (fun t => t.writeI2c m.val low32 (v.setWidth 64)))

/-- Whether the transfer that I²C master `m` runs reads, and its length, as they were at GO. -/
def State.i2cRun (s : State) (m : Nat) : Bool × Nat := SMap.get (fun _ => (false, 0)) s.cmb.i2c m

/-- Bytes read into I²C buffer `m` from its start. -/
def State.i2cFill (s : State) (m : Nat) (data : Bytes) : State :=
  let all := overwrite (s.i2cBytes m 128) 0 (data.take (s.i2cRun m).2)
  s.each (List.range 32) (fun t w => t.setReg .CAGE_I2C_DATA (m * 32 + w) (BitVec.ofNat 64 (leAt all (w * 4) 4)))

/-- A transfer ends: BUSY clears and DONE sets. -/
def State.i2cEnd (s : State) (m : Nat) : State :=
  let s1 := (s.setFld F.CAGE_I2C_STS_BUSY m 0).setFld F.CAGE_I2C_STS_DONE m 1
  { s1 with cmb := { s1.cmb with i2c := SMap.drop s1.cmb.i2c m } }

/-- I2C_DONE: with NACK where the device did not acknowledge (R85). -/
def execI2cDone (m : Fin 8) (nack : Bool) (data : Bytes) (s : State) : Res :=
  let s0 := s.begin
  .next (if s0.bit F.CAGE_I2C_STS_BUSY m.val then
      if nack then (s0.i2cEnd m.val).setFld F.CAGE_I2C_STS_NACK m.val 1
      else if (s0.i2cRun m.val).1 then (s0.i2cFill m.val data).i2cEnd m.val
      else s0.i2cEnd m.val
    else s0)

/-- I2C_TIMEOUT: the clock was stretched beyond 25 ms (R85). -/
def execI2cTimeout (m : Fin 8) (s : State) : Res :=
  let s0 := s.begin
  .next (if s0.bit F.CAGE_I2C_STS_BUSY m.val then
      ((s0.i2cEnd m.val).setFld F.CAGE_I2C_STS_TIMEOUT m.val 1).fault 22 2 (16 * m.val)
    else s0)

end Sys2Proof.Machine
end

