-- ==== Sys2Proof/Machine/Hbm.lean ====
section
/-! DEFINITION. The HBM controllers: speed points and their changes, the automatic policy, refresh and temperature
(spec/12, R292 to R302). Cells and their errors are in `Buffers`. -/

namespace Sys2Proof.Machine

/-- Controller `h` beside its registers. -/
def State.hbcAt (s : State) (h : Nat) : HbcSt := SMap.get (fun _ => HbcSt.idle) s.hbc h

/-- The state with a controller changed. -/
def State.setHbc (s : State) (h : Nat) (c : HbcSt) : State := { s with hbc := SMap.set (fun _ => HbcSt.idle) s.hbc h c }

/-- The stacks of a die that the part has. -/
def State.dieStacks (s : State) (d : Nat) : List Nat :=
  [2 * d, 2 * d + 1].filter (fun h => !(absentDomains s.part).contains (32 + h))

/-- The lower-numbered present stack of a die, whose settings the policy uses (R300). -/
def State.policyStack (s : State) (d : Nat) : Nat := (s.dieStacks d).headD (2 * d)

/-- A controller runs: its domain is ON, or in FENCE, where S2 still fetches (Table 18-12). -/
def State.hbcOn (s : State) (h : Nat) : Bool := s.domState (32 + h) == 3 || s.domState (32 + h) == 4

/-- The effective ceiling code of a stack (R301). CEIL 3 names no speed point, and is handled as 2 (log entry 57). -/
def State.ceiling (s : State) (h : Nat) : Nat := min 2 (max (s.fld F.HBC_SPD_CFG_CEIL h) (s.fld F.HBC_SPD_CFG2_CAP_SP h))

/-- A controller is UP and not changing. -/
def State.hbcReady (s : State) (h : Nat) : Bool :=
  s.hbcOn h && s.fld F.HBC_STS_STATE h == 1 && !s.bit F.HBC_STS_BUSY h

/-- Step QUIESCE starts (Table 12-3). -/
def State.quiesce (s : State) (h : Nat) : State := (s.setFld F.HBC_STS_BUSY h 1).setFld F.HBC_STS_STEP h 1

/-- Steps 1 and 2 start, which leave the controller in SELF_REFRESH (R299, R422, Table 18-12). -/
def State.startRest (s : State) (h : Nat) : State :=
  (s.quiesce h).setHbc h { s.hbcAt h with ret := false, edges := 0, rest := true }

/-- Step SR_EXIT starts for a controller in SELF_REFRESH: steps 4 and 5 at CUR_SP (R299). -/
def State.startWake (s : State) (h : Nat) : State :=
  (((s.setFld F.HBC_STS_BUSY h 1).setFld F.HBC_STS_STEP h 4).emit (.hbmSelfRefresh h false)).setHbc h
    { s.hbcAt h with ret := false, edges := 0, rest := true }

/-- Step SR_ENTER starts: the postponed refreshes, an all-bank refresh of every pseudo-channel, and self-refresh entry
(R302, Table 12-3). -/
def State.selfRefresh (s : State) (h : Nat) : State :=
  let left := ((s.hbcAt h).postponed.map (fun e => e.2)).sum
  let s1 := if left = 0 then s else s.emit (.hbmRefresh h (s.bit F.HBC_REF_CFG_PB h) left)
  ((s1.emit (.hbmRefresh h false 32)).emit (.hbmSelfRefresh h true)).setHbc h { s.hbcAt h with postponed := [], edges := 0 }

/-- A change of stack `h` to speed point `t` is accepted: step QUIESCE starts (Table 12-3). -/
def State.startChange (s : State) (h t : Nat) : State :=
  let s1 := (s.quiesce h).setFld F.HBC_STS_TARGET h t
  s1.setHbc h { s1.hbcAt h with former := s1.fld F.HBC_STS_CUR_SP h, ret := false, edges := 0, rest := false }

/-- Why a speed command is refused: the lowest cause of Table 12-2, 0 for none. -/
def State.speedRefusal (s : State) (h t : Nat) : Nat :=
  if s.bit F.HBC_STS_BUSY h then 1
  else if s.fld F.HBC_STS_STATE h ≠ 1 then 2
  else if t = 3 || !bitOf (s.fld F.HBC_SET_VALID_VALID h) t then 3
  else if t < s.ceiling h then 4
  else if t = s.fld F.HBC_STS_CUR_SP h then 5 else 0

/-- A speed command is decided at an edge (R297). -/
def State.decideSpeed (s : State) (h t : Nat) : State :=
  let c := s.speedRefusal h t
  if c = 0 then s.startChange h t else (s.setFld F.HBC_STS_CMD_REFUSED h 1).setFld F.HBC_STS_REJ_CAUSE h c

/-- The device is in HIBERNATE, or goes there: its stacks stay in self-refresh (R422). -/
def State.hibernating (s : State) : Bool :=
  if s.bit F.GLB_MODE_BUSY 0 then s.fld F.GLB_MODE_TARGET 0 == 11 else s.curMode == 11

/-- Item 7 of the edge for a stack: the command of the tick, then the ceiling of R301; its counts of edges; and the way out of
self-refresh once the device leaves HIBERNATE (R299). -/
def State.edgeStack (s : State) (h : Nat) : State :=
  let c := s.hbcAt h
  let s1 := s.setHbc h { c with cmd := none, asked := c.cmd.isSome, edges := c.edges + 1, ticks := c.ticks + 1 }
  let s2 := match c.cmd with
    | some t => s1.decideSpeed h t
    | none => s1
  if s2.fld F.HBC_STS_STATE h = 3 && !s2.bit F.HBC_STS_BUSY h && s2.domState (32 + h) == 3 && !s2.hibernating then s2.startWake h
  else if s2.hbcReady h && s2.fld F.HBC_STS_CUR_SP h < s2.ceiling h then s2.startChange h (s2.ceiling h) else s2

/-- The policy windows of both dies advance by a tick (R300). -/
def State.edgeWindows (s : State) : State :=
  s.each [0, 1] (fun t d => t.setHbc (t.policyStack d) { t.hbcAt (t.policyStack d) with win := (t.hbcAt (t.policyStack d)).win + 1 })

/-- Item 7 of the edge (R297, R300, R301). -/
def State.edgeHbc (s : State) : State :=
  s.edgeWindows.each ((s.dieStacks 0 ++ s.dieStacks 1).filter s.hbcOn) State.edgeStack

/-- A write to HBC_SPD_CMD: with GO its target waits for the edge, in place of an earlier one (R297). -/
def State.writeSpeedCmd (s : State) (h : Nat) (mask v : BitVec 64) : State :=
  let s1 := s.plainWrite .HBC_SPD_CMD h mask v
  if wbit mask v 31 then s1.setHbc h { s1.hbcAt h with cmd := some (s1.fld F.HBC_SPD_CMD_TARGET h) } else s1

/-- SPEED_COMMAND (R297). -/
def execSpeedCommand (a : Agent) (h : Fin 4) (v : BitVec 32) (s : State) : Res :=
  .next (s.begin.writeBy a .HBC_SPD_CMD h.val (fun t => t.writeSpeedCmd h.val low32 ((v ||| 0x80000000).setWidth 64)))

/-- The fields of a word of a timing set, or of a delay word; its other bits are RSV (Table 12-6). -/
def hbcSetBits (r : Reg) (i : Nat) : BitVec 64 :=
  if r == .HBC_DLY then 0x00FFFFFF
  else match i % 8 with
    | 3 => 0x00FFFFFF
    | 6 => 0x0000FFFF
    | 7 => 0x000000FF
    | _ => low32

/-- A write to timing or delay set `k` of stack `h`: set 3 is read-only, and the target's set is refused during a change
(R296). -/
def State.writeHbcSet (s : State) (r : Reg) (i h k : Nat) (mask v : BitVec 64) : State :=
  if k = 3 then s
  else if s.bit F.HBC_STS_BUSY h && !(s.hbcAt h).rest && s.fld F.HBC_STS_TARGET h == k then s.setFld F.HBC_STS_CFG_REFUSED h 1
  else s.plainWrite r i (mask &&& hbcSetBits r i) v

/-- The target's timing and delay sets are copied into set 3 (Table 12-3, RELOCK). -/
def State.copySets (s : State) (h k : Nat) : State :=
  let s1 := s.each (List.range 8) (fun t w => t.setReg .HBC_TIM ((h * 4 + 3) * 8 + w) (t.reg .HBC_TIM ((h * 4 + k) * 8 + w)))
  s1.each (List.range 160) (fun t l => t.setReg .HBC_DLY ((h * 4 + 3) * 160 + l) (t.reg .HBC_DLY ((h * 4 + k) * 160 + l)))

/-- Moves and fetches of a die are outstanding (R246). -/
def State.spillBusy (s : State) (d : Nat) : Bool :=
  (s.dieQueues d).any (fun e => e.2.spill.elim false (fun p => p.move != 0 || !p.fetches.isEmpty))

/-- Windows and dwell counts of a die's policy start again (R300). -/
def State.policyRestart (s : State) (d : Nat) : State :=
  s.setHbc (s.policyStack d) { s.hbcAt (s.policyStack d) with win := 0, low := 0 }

/-- A change resumes (Table 12-3, RESUME). -/
def State.resumeChange (s : State) (h : Nat) : State :=
  let s1 := (((s.setFld F.HBC_STS_CUR_SP h (s.fld F.HBC_STS_TARGET h)).setFld F.HBC_STS_BUSY h 0).setFld F.HBC_STS_DONE h 1).setFld
    F.HBC_STS_STEP h 0
  ((s1.bump .HBC_CNT (h * 9 + 5) 1).interrupt 3).policyRestart (h / 2)

/-- The steps of HIBERNATE or of a power-down end with the controller in a state (R299, R422). -/
def State.endRest (s : State) (h st : Nat) : State :=
  (((s.setFld F.HBC_STS_STATE h st).setFld F.HBC_STS_BUSY h 0).setFld F.HBC_STS_STEP h 0).setHbc h { s.hbcAt h with rest := false }

/-- SPEED_STEP: at a later edge than its start, the exit condition of a step holds and the change goes on (R298). -/
def execSpeedStep (h : Fin 4) (s : State) : Res :=
  let s0 := s.begin
  let c := s0.hbcAt h.val
  let st := s0.fld F.HBC_STS_STEP h.val
  let move (t : State) (k : Nat) : State := (t.setFld F.HBC_STS_STEP h.val k).setHbc h.val { t.hbcAt h.val with edges := 0 }
  if !s0.bit F.HBC_STS_BUSY h.val || c.edges = 0 then .next s0
  else match st with
    | 1 => .next (if s0.spillBusy (h.val / 2) || !c.postponed.isEmpty then s0 else move (s0.selfRefresh h.val) 2)
    | 2 => .next (if c.rest then s0.endRest h.val 3 else move (s0.copySets h.val (s0.fld F.HBC_STS_TARGET h.val)) 3)
    | 3 => .next (move (s0.emit (.hbmSelfRefresh h.val false)) 4)
    | 4 => .next (move s0 5)
    | 5 => .next (if c.rest then s0.endRest h.val 1 else s0.resumeChange h.val)
    | _ => .next s0

/-- What a queue has in HBM is discarded, in the manner of R248 step 4: its pages are unlinked, its context is free once nothing
is outstanding, and the packets with cells in HBM are gone. -/
def State.dropSpilled (s : State) (k : Nat) : State :=
  let q := s.queue k
  match q.spill with
  | none => s
  | some p =>
    let gone := q.chain.filter (fun id => (s.copy id).elim false (fun c => c.cells.contains inHbm))
    let s1 := (s.flushCopies (k / 65536) gone).sknCount (k / 65536) 10 p.pages.length
    let q1 := s1.queue k
    let chain := q.chain.filter (fun id => !gone.contains id)
    let fetches := p.fetches.filter (fun f => f.granted)
    let p1 := { p with head := 0, fill := false, fetches := fetches, dead := true }
    let b := s1.buf (k / 65536)
    let s2 := s1.setBuf (k / 65536) { b with claims := b.claims.filter (fun e => e.2 != Claim.fetch (k % 65536)) }
    s2.setQueue k { q1 with chain := chain, spill := p1.deadDone }

/-- The return of a change fails too: the stack is FAILED, its pages leave allocation and what lies in them is lost
(R299). -/
def State.stackFailed (s : State) (h : Nat) : State :=
  let d := h / 2
  let s1 := ((s.setFld F.HBC_STS_STATE h 2).setFld F.HBC_STS_BUSY h 0).setFld F.HBC_STS_STEP h 0
  let hit : List Nat := ((s1.dieQueues d).filter (fun (e : Nat × QSt) =>
    e.2.spill.elim false (fun p => p.pages.any (fun x => x / 98304 == h)))).map (fun e => e.1)
  (s1.each hit State.dropSpilled).fault 17 4 h

/-- SPEED_STEP_TIMEOUT: a step has not advanced within STEP_LIMIT edges: the change fails and returns, or the stack fails
(R298, R299). Steps run for HIBERNATE or a power-down are no change, and have no limit (log entry 57). -/
def execSpeedStepTimeout (h : Fin 4) (s : State) : Res :=
  let s0 := s.begin
  let c := s0.hbcAt h.val
  if !s0.bit F.HBC_STS_BUSY h.val || c.rest || c.edges < max 1 (s0.fld F.HBC_SPD_CFG2_STEP_LIMIT h.val) then .next s0
  else if c.ret then .next (s0.stackFailed h.val)
  else
    let s1 := ((((s0.setFld F.HBC_STS_SPD_FAIL h.val 1).bump .HBC_CNT (h.val * 9 + 6) 1).interrupt 3).fault 17 3 h.val).setFld
      F.HBC_STS_TARGET h.val c.former
    let s2 := if s1.fld F.HBC_STS_STEP h.val = 1 then s1.selfRefresh h.val else s1
    .next ((s2.setFld F.HBC_STS_STEP h.val 2).setHbc h.val { s2.hbcAt h.val with ret := true, edges := 0 })

/-- CUR_SP of a die's UP stacks, for its policy: that of the lowest one (R300). -/
def State.policyPoint (s : State) (d : Nat) : Nat :=
  s.fld F.HBC_STS_CUR_SP (((s.dieStacks d).find? (fun h => s.hbcOn h && s.fld F.HBC_STS_STATE h == 1)).getD (s.policyStack d))

/-- The policy's decision for a die: a target speed point, from the use of a window, and the dwell count (R300). FLOOR 3 names
no speed point, and is handled as 2 (log entry 57). -/
def State.policyDecides (s : State) (d u : Nat) : Option Nat × Nat :=
  let h := s.policyStack d
  let cur := s.policyPoint d
  let low := (s.hbcAt h).low + 1
  if s.fld F.HBC_SPD_CFG_UP_PCT h < u then (if s.ceiling h < cur then some (s.ceiling h) else none, 0)
  else if u < s.fld F.HBC_SPD_CFG_DOWN_PCT h then
    (if max 1 (s.fld F.HBC_SPD_CFG_DWELL h) ≤ low && cur < min 2 (s.fld F.HBC_SPD_CFG_FLOOR h) then some (cur + 1) else none, low)
  else (none, 0)

/-- SPEED_POLICY_WINDOW: a window of WIN ticks ends for a die in hardware mode (R300); a command decided at the same edge
takes the place of the decision (R297). -/
def execSpeedPolicyWindow (d : Fin 2) (u : Nat) (s : State) : Res :=
  let s0 := s.begin
  let h := s0.policyStack d.val
  if s0.split 9 || (s0.hbcAt h).win < max 1 (s0.fld F.HBC_SPD_CFG2_WIN h) then .next s0
  else
    let r := s0.policyDecides d.val u
    let s1 := s0.setHbc h { s0.hbcAt h with win := 0, low := r.2 }
    match r.1 with
    | none => .next s1
    | some t => .next (s1.each (s1.dieStacks d.val) (fun x k =>
        if x.hbcReady k && !(x.hbcAt k).asked && x.fld F.HBC_STS_CUR_SP k != t then x.startChange k t else x))

/-- The refreshes of an interval that an access waits in the way of: by bank, or by pseudo-channel for all-bank ones, keyed as
in `HbcSt.postponed` (R302). -/
def State.refreshHeld (s : State) (h : Nat) (waiting : List (Fin 32 × Fin 256)) : List Nat :=
  if s.bit F.HBC_REF_CFG_PB h then
    ((waiting.filter (fun w => w.2.val < s.fld F.HBC_GEOM_BANKS h)).map (fun w => w.1.val * 256 + w.2.val)).eraseDups
  else (waiting.map (fun w => w.1.val * 256)).eraseDups

/-- REFRESH: an interval of tREFI / r elapses: every pseudo-channel has NB per-bank refreshes, or one all-bank refresh, and with
them those postponed; a refresh in whose way an access waits is postponed within POSTPONE, each such counted. A stack in
self-refresh refreshes itself (R302). -/
def execRefresh (h : Fin 4) (waiting : List (Fin 32 × Fin 256)) (s : State) : Res :=
  let s0 := s.begin
  let c := s0.hbcAt h.val
  let st := s0.fld F.HBC_STS_STEP h.val
  if !s0.hbcOn h.val || s0.fld F.HBC_STS_STATE h.val ≠ 1 || (2 ≤ st && st ≤ 4) then .next s0
  else
    let pb := s0.bit F.HBC_REF_CFG_PB h.val
    let was (k : Nat) : Nat := SMap.get (fun _ => 0) c.postponed k
    let held := s0.refreshHeld h.val waiting
    let late := held.filter (fun k => was k < min 8 (s0.fld F.HBC_REF_CFG_POSTPONE h.val))
    let caught := c.postponed.filter (fun e => !held.contains e.1)
    let kept := late.foldl (fun m k => SMap.set (fun _ => 0) m k (was k + 1)) (c.postponed.filter (fun e => held.contains e.1))
    let n := (if pb then 32 * s0.fld F.HBC_GEOM_BANKS h.val else 32) - late.length + (caught.map (fun e => e.2)).sum
    let s1 := (s0.setHbc h.val { c with postponed := kept }).bump .HBC_CNT (h.val * 9 + 8) late.length
    .next (if n = 0 then s1 else s1.emit (.hbmRefresh h.val pb n))

/-- The refresh rate code at a temperature (R302). -/
def State.refreshRate (s : State) (h : Nat) (t : Int) : Nat :=
  let lo := s.fld F.HBC_REF_CFG_T85 h
  if (max lo (s.fld F.HBC_REF_CFG_T95 h) : Int) ≤ t then 2 else if (lo : Int) ≤ t then 1 else 0

/-- A lasting source of a stack begins or ends with its condition. -/
def State.hbcCondition (s : State) (h src : Nat) (was now : Bool) : State :=
  if now && !was then s.faultLasting 17 src h else if was && !now then s.faultEnds 17 src h else s

/-- HBM_TEMP_READ: 256 ticks after the last, the stack's temperature is read and the rate set (R302, Table 16-3). -/
def execHbmTempRead (h : Fin 4) (t : BitVec 8) (s : State) : Res :=
  let s0 := s.begin
  let c := s0.hbcAt h.val
  if !s0.hbcOn h.val || c.ticks < 256 then .next s0
  else
    let r := s0.refreshRate h.val t.toInt
    let was := s0.fld F.HBC_TEMP_RATE h.val
    let crit := signedOf 8 (s0.fld F.HBC_TEMP_TEMP h.val) ≥ 105
    let s1 := ((s0.setHbc h.val { c with ticks := 0 }).setFld F.HBC_TEMP_TEMP h.val t.toNat).setFld F.HBC_TEMP_RATE h.val r
    .next ((s1.hbcCondition h.val 5 (was == 2) (r == 2)).hbcCondition h.val 6 crit (105 ≤ t.toInt))

end Sys2Proof.Machine
end

