-- ==== Sys2Proof/Machine/Learn.lean ====
section
/-! DEFINITION. Insertion and relocation, learning, stamps, aging and flushing of the hash tables (spec/06, R159 to R181). -/

namespace Sys2Proof.Machine

/-- LKP_HASH_CFG.MAX_DEPTH of a die (Table 6-10). -/
def State.maxDepth (s : State) (d : Nat) : Nat := min 8 (max 1 (s.fld F.LKP_HASH_CFG_MAX_DEPTH d))

/-- The sub-table of a location. -/
def subOf (tb loc : Nat) : Nat := loc / (4 * hashBuckets tb)

/-- What the breadth-first search of R160 has come to: a path found, or the paths still to extend and how many slots
have been visited. -/
structure Search where
  found   : Option (List Nat)
  queue   : List (List Nat)
  visited : Nat

/-- Extends one path (kept last slot first) by the four slots of the other bucket of its last entry (R160). -/
def Tables.extend (t : Tables) (d tb depth : Nat) (path : List Nat) (a : Search) : Search :=
  match path with
  | [] => a
  | c :: _ =>
    match t.slotAt d tb c with
    | none => a
    | some e =>
      let s2 := 1 - subOf tb c
      let b2 := hashOf s2 (t.seedOf d tb s2) e.key % hashBuckets tb
      (List.range 4).foldl (fun acc w =>
        let n := locOf tb s2 b2 w
        if acc.found.isSome || path.contains n then acc
        else if (t.slotAt d tb n).isNone then { acc with found := some (n :: path) }
        else if path.length < depth && acc.visited < 64 then
          { acc with queue := acc.queue ++ [n :: path], visited := acc.visited + 1 }
        else acc) a

/-- The search of R160: at most 64 paths are ever extended. -/
def Tables.bfs (t : Tables) (d tb depth : Nat) : Nat → Search → Search
  | 0, a => a
  | f + 1, a =>
    match a.found, a.queue with
    | none, p :: rest => t.bfs d tb depth f (t.extend d tb depth p { a with queue := rest })
    | _, _ => a

/-- The plan for inserting a key that the table does not hold: the slots of its path, the one that takes the new entry
first (R160). -/
def Tables.plan (t : Tables) (d tb depth : Nat) (key : Bytes) : Option (List Nat) :=
  let cand := t.candidates d tb key
  match cand.find? (fun c => (t.slotAt d tb c).isNone) with
  | some c => some [c]
  | none => ((t.bfs d tb depth 65 ⟨none, cand.map (fun c => [c]), 8⟩).found).map List.reverse

/-- The tables after a path is carried out: entries move up it, then the new entry takes its first slot (R160). -/
def Tables.applyPath (t : Tables) (d tb : Nat) (path : List Nat) (new : HEnt) : Tables :=
  match path with
  | [] => t
  | c :: _ =>
    let moved := ((path.zip path.tail).reverse).foldl (fun u e => u.setSlot d tb e.2 (u.slotAt d tb e.1)) t
    moved.setSlot d tb c (some new)

/-- An entry moved from one location to another is recorded in the scans that would miss it (R176). -/
def State.noteMove (s : State) (d tb src dst : Nat) (key : Bytes) : State :=
  let l := s.learning d
  s.setLearning d { l with scans := l.scans.map (fun c =>
    if c.table = tb && c.cursor ≤ src && dst < c.cursor then
      (if c.caught.length < 64 then { c with caught := c.caught ++ [key] } else { c with lost := true })
    else c) }

/-- A path is carried out on the current tables of die `d`: its moves are recorded in open scans and counted in RELOC, and an
aging deletion staged for the key that it writes is no longer to apply (R160, R171, R176). -/
def State.runPath (s : State) (d tb : Nat) (path : List Nat) (new : HEnt) : State :=
  let s1 := (path.zip path.tail).foldl (fun u e => match u.tabs.slotAt d tb e.1 with
    | some x => u.noteMove d tb e.1 e.2 x.key
    | none => u) s
  let l := s1.learning d
  let s2 := s1.setLearning d { l with ages := l.ages.map (fun (x : HDel) =>
    if x.table == tb && x.ent.key == new.key then { x with written := true } else x) }
  (s2.setTabs (s2.tabs.applyPath d tb path new)).lkpCount d 7 (path.length - 1)

/-- The unit of tick `t` for a table of die `d` (R169). -/
def State.unit (s : State) (d tb : Nat) (t : BitVec 64) : Nat :=
  (if tb = 2 then t.toNat else t.toNat / 2 ^ s.fld F.LKP_AGE_CFG_SHIFT (d * 2 + tb)) % 65536

/-- The bit AGED of the HW word. -/
def agedBit : Word := 0x400

/-- An entry without its STAMP and AGED bit: what counts as its contents when a plan is checked. -/
def HEnt.core (e : HEnt) : HEnt := { e with hw := e.hw &&& ~~~ agedBit, stamp := 0 }

/-- Entries of a table of die `d` (LKP_TBL_STS.COUNT). -/
def State.hashCount (s : State) (d tb : Nat) : Nat :=
  (s.tabs.hash.filter (fun e => e.1 / 2 ^ 20 == d * 3 + tb && e.2.isSome)).length

/-- A notify record of the LKP block of die `d`, counted in NOTIFY. -/
def State.lkpNotify (s : State) (t d a : Nat) (body : Bytes) : State := (s.notify t d a 0 body).lkpCount d 15 1

/-- The STATS index of a session (R165, R166). -/
def State.sidStats (s : State) (d sid : Nat) : Nat := (s.fld F.LKP_SESS_CFG_SID_BASE d + sid) % 2 ^ 20

/-- A session's entry has been deleted: its SID is freed and held for two edges, and its record written (R166, R367). -/
def State.sessionEnd (s : State) (d : Nat) (e : HEnt) : State :=
  if !e.sidV then s
  else
    let l := s.learning d
    let s1 := if l.sids.contains e.sid then
        s.setLearning d { l with sids := l.sids.filter (· != e.sid), held := l.held ++ [(e.sid, 2)] }
      else s
    if s1.bit F.LKP_LEARN_CFG_SEND_NOTIFY d then
      let p := s1.statPair (s1.sidStats d e.sid)
      s1.lkpNotify 4 d e.port (leBytes 4 e.sid ++ leBytes 4 (e.words.getD 0 0).toNat ++ leBytes 8 p.1 ++ leBytes 8 p.2)
    else s1

/-- The entry at a location of die `d` is deleted (R166, R167). -/
def State.deleteEntry (s : State) (d tb loc : Nat) : State :=
  match s.tabs.slotAt d tb loc with
  | none => s
  | some e =>
    let s1 := s.setTabs (s.tabs.setSlot d tb loc none)
    if tb = 0 then s1.setLearning d { s1.learning d with gone := true }
    else if tb = 1 then s1.sessionEnd d e
    else s1

/-- The body of a LEARN or LEARN_FAIL record (Table 14-10). -/
def LEvent.body (e : LEvent) : Bytes := leBytes 4 e.data ++ padTo 20 e.key

/-- An event's insertion has failed on die `d`: counted, recorded, and put on the retry list where R167 says; one that is
there stays in its place. -/
def State.learnFail (s : State) (d : Nat) (e : LEvent) (retry : Bool) : State :=
  let s1 := s.lkpCount d 6 1
  let s2 := if s1.bit F.LKP_LEARN_CFG_FAIL_NOTIFY d then s1.lkpNotify 2 d (e.src + e.table * 256) e.body else s1
  if e.table = 0 && !retry && s2.bit F.LKP_LEARN_CFG_RETRY_EN d then
    let l := s2.learning d
    if 256 ≤ l.retrying then
      let l1 := l.dropOldest
      (s2.setLearning d { l1 with retry := l1.retry ++ [e] }).lkpCount d 14 1
    else s2.setLearning d { l with retry := l.retry ++ [e] }
  else s2

/-- What the learning engine decides for an event (Table 6-7). -/
inductive Verdict where
  | denied | same | fail
  | plan (p : LPlan)

/-- The HW word of a new learned entry (Table 6-5); the SID of a session is added when it applies. -/
def LEvent.hw (e : LEvent) (home : Nat) : Word :=
  BitVec.ofNat 32 (e.src % 256 + home * 512 + 2048 + (if e.table = 1 then 4096 else 0))

/-- The entry that an update leaves: DEST, PORT and HOME of a BRIDGE entry, word 0 and PORT of a SESSION entry
(Table 6-7). -/
def LEvent.updated (e : LEvent) (old : HEnt) : HEnt :=
  let hw1 := BitVec.ofNat 32 (setBits old.hw.toNat 0 8 e.src)
  { old with
      words := modifyAt old.words 0 (fun _ => BitVec.ofNat 32 e.data)
      hw := if e.table = 0 then BitVec.ofNat 32 (setBits hw1.toNat 9 1 (portDie e.src)) else hw1 }

/-- The learning engine of die `d` decides an event against the current tables (R160, R165). -/
def State.decide (s : State) (d : Nat) (e : LEvent) (retry : Bool) : Verdict :=
  let tb := e.table
  let seeds := [s.tabs.seedOf d tb 0, s.tabs.seedOf d tb 1]
  if !s.domOn (hashDomain d tb) then .fail
  else match s.tabs.findKey d tb e.key with
  | some loc =>
    match s.tabs.slotAt d tb loc with
    | none => .fail
    | some old =>
      let new := e.updated old
      if old.isStatic then .denied
      else if new.words == old.words && new.port == old.port then .same
      else .plan ⟨e, [loc], new, true, retry, [some old.core], seeds⟩
  | none =>
    match s.tabs.plan d tb (s.maxDepth d) e.key with
    | none => .fail
    | some path =>
      let home := if tb = 0 then portDie e.src else d
      let words : List Word := if tb = 0 then [BitVec.ofNat 32 e.data] else [BitVec.ofNat 32 e.data, 0]
      .plan ⟨e, path, ⟨e.key, words, e.hw home, 0⟩, false, retry, path.map (fun l => (s.tabs.slotAt d tb l).map HEnt.core), seeds⟩

/-- An event that was retried leaves the list of die `d`. -/
def State.retryDone (s : State) (d : Nat) (e : LEvent) (retry : Bool) : State :=
  s.when retry (fun t => t.setLearning d ((t.learning d).unretry e))

/-- An event is decided: what needs no write is done, a failure handled, a plan put behind the others (R165, R167). -/
def State.handleEvent (s : State) (d : Nat) (e : LEvent) (retry : Bool) : State :=
  match s.decide d e retry with
  | .denied => (s.lkpCount d 5 1).retryDone d e retry
  | .same =>
    let s1 := s.retryDone d e retry
    if s1.hits.contains (d * 3 + e.table, e.key) then s1 else { s1 with hits := (d * 3 + e.table, e.key) :: s1.hits }
  | .fail => s.learnFail d e retry
  | .plan p => let l := s.learning d; s.setLearning d { l with plans := l.plans ++ [p] }

/-- LEARN_PLAN: the event at the head of the queue of die `d` is handled: in host-assisted mode its record is written by
the die of SRC_PORT, in hardware mode it is decided (R165, R168). -/
def execLearnPlan (d : Fin 2) (s : State) : Res :=
  let s0 := s.begin
  let l := s0.learning d.val
  match l.queue with
  | [] => .next s0
  | e :: rest =>
    let s1 := s0.setLearning d.val { l with queue := rest }
    if e.host then
      .next (if portDie e.src = d.val then s1.lkpNotify 1 d.val (e.src + e.table * 256) e.body else s1)
    else .next (s1.handleEvent d.val e false)

/-- RETRY_REPLAN: at the edge after one at which a BRIDGE entry of the die was deleted, the events of the retry list that have
no plan are planned again, in its order; each stays on the list until its plan applies (R167). -/
def execRetryReplan (d : Fin 2) (s : State) : Res :=
  let s0 := s.begin
  let l := s0.learning d.val
  if l.due then
    let s1 := s0.setLearning d.val { l with due := false }
    .next ((l.retry.filter (fun e => !l.plans.any (fun p => p.retry && p.ev == e))).foldl (fun t e => t.handleEvent d.val e true) s1)
  else .next s0

/-- Age of an entry at the present tick, and whether it is over age (R170, R173). -/
def State.overAge (s : State) (d tb : Nat) (e : HEnt) : Bool :=
  min 32767 (s.fld F.LKP_AGE_CFG_LIMIT (d * 2 + tb)) < (s.unit d tb s.tikCount + 65536 - e.stamp % 65536) % 65536

/-- A flush names an entry (R177). -/
def Flush.names (f : Flush) (e : HEnt) : Bool := e.port == f.port && (f.static || !e.isStatic)

/-- Room left for hardware writes on each die at this edge, and the state. -/
abbrev Room := State × List Nat

/-- Room on die `d`. -/
def Room.on (r : Room) (d : Nat) : Nat := r.2.getD d 0

/-- One write taken from the room of die `d`, or `n` of them. -/
def Room.take (r : Room) (d n : Nat) : Room := (r.1, modifyAt r.2 d (· - n))

/-- Flush deletions of die `d`, in order, while there is room (R162, R177). -/
def Room.flush (d : Nat) : Nat → Room → Room
  | 0, r => r
  | n + 1, r =>
    let l := r.1.learning d
    match l.run, l.dels with
    | some run, x :: rest =>
      let f := run.flush
      let pop (s : State) : State := s.setLearning d { s.learning d with dels := rest }
      let s1 := r.1
      match s1.tabs.findKey d x.table x.ent.key with
      | none => Room.flush d n (pop s1, r.2)
      | some loc =>
        if (s1.tabs.slotAt d x.table loc).any f.names then
          if r.on d = 0 then r
          else
            let s2 := (((pop s1).deleteEntry d x.table loc).lkpCount d 12 1).setLearning d
              { ((pop s1).deleteEntry d x.table loc).learning d with run := some { run with deleted := run.deleted + 1 } }
            Room.flush d n (Room.take (s2, r.2) d 1)
        else Room.flush d n (pop s1, r.2)
    | _, _ => r

/-- Aging deletions of die `d`, in order, while there is room on the dies they need (R162, R171). -/
def Room.age (d : Nat) : Nat → Room → Room
  | 0, r => r
  | n + 1, r =>
    let l := r.1.learning d
    match l.ages with
    | [] => r
    | x :: rest =>
      let s1 := r.1.setLearning d { l with ages := rest }
      match s1.tabs.slotAt d x.table x.loc with
      | some e =>
        if e.key == x.ent.key && !x.written && !e.isStatic && s1.overAge d x.table e then
          let other := if x.table = 0 && e.home == d then s1.tabs.findKey (1 - d) 0 e.key else none
          if r.on d = 0 || (other.isSome && r.on (1 - d) == 0) then r
          else
            let s2 := (s1.deleteEntry d x.table x.loc).lkpCount d 9 1
            match other with
            | none => Room.age d n (Room.take (s2, r.2) d 1)
            | some loc =>
              Room.age d n (Room.take (Room.take ((s2.deleteEntry (1 - d) 0 loc).lkpCount (1 - d) 9 1, r.2) d 1) (1 - d) 1)
        else Room.age d n (s1.lkpCount d 11 1, r.2)
      | none => Room.age d n (s1.lkpCount d 11 1, r.2)

/-- The lowest free SID of die `d`, if any is below SID_LIMIT (R166). The first number free of those handed out or held
is at most how many there are. -/
def State.freeSid (s : State) (d : Nat) : Option Nat :=
  let l := s.learning d
  let used := l.sids ++ l.held.map (·.1)
  (List.range (min (used.length + 1) (min 524288 (s.fld F.LKP_SESS_CFG_SID_LIMIT d)))).find? (fun i => !used.contains i)

/-- A plan still stands: its slots hold what they held, the seeds are the same, and a key to be inserted has not come
(R162, R181). -/
def State.planStands (s : State) (d : Nat) (p : LPlan) : Bool :=
  p.path.map (fun l => (s.tabs.slotAt d p.ev.table l).map HEnt.core) == p.seen &&
    p.seeds == [s.tabs.seedOf d p.ev.table 0, s.tabs.seedOf d p.ev.table 1] &&
    (p.update || (s.tabs.findKey d p.ev.table p.ev.key).isNone)

/-- The plan applies: UPDATE in place, or INSERT with STAMP, and the SID and STATS pair of a session (R165, R166). -/
def State.applyPlan (s : State) (d : Nat) (p : LPlan) (sid : Nat) : State :=
  let tb := p.ev.table
  if p.update then
    match (p.path.head?).bind (s.tabs.slotAt d tb) with
    | some old => (s.runPath d tb p.path (p.ev.updated old)).lkpCount d 4 1
    | none => s
  else
    let stamp := s.unit d tb s.tikCount
    if tb = 0 then (s.runPath d tb p.path { p.new with stamp := stamp }).lkpCount d 3 1
    else
      let idx := s.sidStats d sid
      let new : HEnt := { p.new with
        stamp := stamp
        hw := p.new.hw ||| BitVec.ofNat 32 (sid * 8192)
        words := modifyAt p.new.words 1 (fun _ => BitVec.ofNat 32 idx) }
      let s1 := (s.runPath d tb p.path new).setStat idx (0, 0)
      (s1.setLearning d { s1.learning d with sids := sid :: (s1.learning d).sids }).lkpCount d 3 1

/-- Learning plans of die `d`, in order, while they fit (R162). -/
def Room.learn (d : Nat) : Nat → Room → Room
  | 0, r => r
  | n + 1, r =>
    let l := r.1.learning d
    match l.plans with
    | [] => r
    | p0 :: rest =>
      let popped := r.1.setLearning d { l with plans := rest }
      let stands := r.1.planStands d p0
      let s1 := if stands then popped else popped.lkpCount d 8 1
      match if stands then Verdict.plan p0 else s1.decide d p0.ev p0.retry with
      | .denied => Room.learn d n ((s1.lkpCount d 5 1).retryDone d p0.ev p0.retry, r.2)
      | .same => Room.learn d n ({ s1.retryDone d p0.ev p0.retry with hits := (d * 3 + p0.ev.table, p0.ev.key) :: s1.hits }, r.2)
      | .fail => Room.learn d n (s1.learnFail d p0.ev p0.retry, r.2)
      | .plan p =>
        if r.on d < p.path.length then (s1.setLearning d { s1.learning d with plans := p :: rest }, r.2)
        else if p.ev.table = 1 && !p.update then
          match s1.freeSid d with
          | none => Room.learn d n ((s1.lkpCount d 13 1).learnFail d p.ev p.retry, r.2)
          | some sid => Room.learn d n (Room.take (s1.applyPlan d p sid, r.2) d p.path.length)
        else Room.learn d n (Room.take ((s1.applyPlan d p 0).retryDone d p.ev p.retry, r.2) d p.path.length)

/-- Room for hardware writes on die `d` at this edge (R162). -/
def State.hwRoom (s : State) (d : Nat) : Nat :=
  min (min 4096 (s.fld F.LKP_HW_CFG_MAX_WR d)) (4096 - (if d = 0 then s.wrote.1 else s.wrote.2))

/-- The sweep of a die's flush ends once its last slice is swept and its deletions have applied (R177). -/
def State.sweepEnd (s : State) (d : Nat) : State :=
  let l := s.learning d
  match l.run with
  | none => s
  | some run =>
    if 2 * hashBuckets run.flush.table ≤ run.bucket && l.dels.isEmpty then
      let s1 := s.setLearning d { l with run := none }
      { s1 with flushes := s1.flushes.map (fun e =>
        if e.1.id = run.flush.id then
          (e.1, setBits e.2.1 d 1 0, if d = 0 then (run.deleted, e.2.2.2) else (e.2.2.1, run.deleted))
        else e) }
    else s

/-- The hardware writes of an edge: flush deletions, then aging deletions, then learning plans, within the room of each die;
then the flushes whose sweep has ended (R162, R171, R177). -/
def State.hwWrites (s0 : State) : State :=
  let n (f : LearnSt → Nat) : Nat := f (s0.learning 0) + f (s0.learning 1) + 1
  let r0 : Room := (s0, [s0.hwRoom 0, s0.hwRoom 1])
  let r1 := Room.flush 1 (n (·.dels.length)) (Room.flush 0 (n (·.dels.length)) r0)
  let r2 := Room.age 1 (n (·.ages.length)) (Room.age 0 (n (·.ages.length)) r1)
  let r3 := Room.learn 1 (n (·.plans.length)) (Room.learn 0 (n (·.plans.length)) r2)
  let g (t : State) (d : Nat) : State := t.gauge! (16 + d) 0x4D (s0.hwRoom d - r3.on d) (some 1)
  let s1 := ((g (g r3.1 0) 1).sweepEnd 0).sweepEnd 1
  { s1 with tick := { s1.tick with hwDone := true } }

/-- HW_WRITES_APPLY: the hardware writes of the last edge, once; TICK_EDGE makes them itself, in its order (R162,
log entry 62). -/
def execHwWritesApply (s : State) : Res := .next (if s.begin.tick.hwDone then s.begin else s.begin.hwWrites)

/-- The stamps of the tick that ends, `t`, are written to the entries hit in it, wherever they lie (R169). -/
def State.edgeStamps (s : State) (t : BitVec 64) : State :=
  let s1 := s.hits.foldl (fun u h =>
    let d := h.1 / 3
    let tb := h.1 % 3
    match u.tabs.findKey d tb h.2 with
    | none => u
    | some loc => match u.tabs.slotAt d tb loc with
      | none => u
      | some e => u.setTabs (u.tabs.setSlot d tb loc (some { e with stamp := u.unit d tb t, hw := e.hw &&& ~~~ agedBit }))) s
  { s1 with hits := [] }

/-- The ager judges the entry at a location (R170 to R172). -/
def State.judge (s : State) (d tb loc : Nat) : State :=
  match s.tabs.slotAt d tb loc with
  | none => s
  | some e =>
    if e.isStatic || !s.overAge d tb e then s
    else if tb = 0 && e.home != d && (s.tabs.findKey (1 - d) 0 e.key).isSome then s
    else if s.split 1 then
      if e.aged then s
      else
        let s1 := s.setTabs (s.tabs.setSlot d tb loc (some { e with hw := e.hw ||| agedBit }))
        (s1.lkpNotify 3 d (e.port + tb * 256) (leBytes 4 loc ++ padTo 20 e.key)).lkpCount d 10 1
    else
      let l := s.learning d
      if l.ages.any (fun x => x.table == tb && x.ent.key == e.key) then s
      else s.setLearning d { l with ages := l.ages ++ [⟨tb, loc, e, false⟩] }

/-- The locations of `n` buckets from bucket `b` on, wrapping, that hold an entry: those of the sparse table that lie in
them, in loc order from the cursor. -/
def State.sliceLocs (s : State) (d tb b n : Nat) : List Nat :=
  let tot := 8 * hashBuckets tb
  let locs := (s.tabs.hash.filter (fun e => e.1 / 2 ^ 20 == d * 3 + tb)).map (fun e => e.1 % 2 ^ 20)
  let hit := locs.filter (fun l => (l + tot - 4 * b) % tot < 4 * n)
  hit.filter (fun l => 4 * b ≤ l) ++ hit.filter (fun l => l < 4 * b)

/-- The ager of a table of die `d` examines its slice of the tick that ends (R170). -/
def State.ageSlice (s : State) (d tb : Nat) : State :=
  let k := d * 2 + tb
  if s.bit F.LKP_AGE_CFG_EN k && s.domOn (hashDomain d tb) && s.domOn (50 + d) then
    let n := max 1 (s.fld F.LKP_AGE_CFG_SLICE k)
    let b := (s.learning d).cursor.getD tb 0
    let s1 := (s.sliceLocs d tb b n).foldl (fun u l => u.judge d tb l) s
    s1.setLearning d { s1.learning d with cursor := modifyAt (s1.learning d).cursor tb (fun _ => (b + n) % (2 * hashBuckets tb)) }
  else s

/-- The flush of die `d` sweeps its slice of the tick that ends (R177). -/
def State.flushSlice (s : State) (d : Nat) : State :=
  let l := s.learning d
  match l.run with
  | none => s
  | some run =>
    let tb := run.flush.table
    let tot := 2 * hashBuckets tb
    let n := min (max 1 (s.fld F.LKP_HW_CFG_FLUSH_SLICE d)) (tot - run.bucket)
    let found := (s.sliceLocs d tb run.bucket n).filterMap (fun loc => (s.tabs.slotAt d tb loc).bind (fun e =>
      if run.flush.names e then some (⟨tb, loc, e, false⟩ : HDel) else none))
    s.setLearning d { l with dels := l.dels ++ found, run := some { run with bucket := run.bucket + n } }

/-- Flushes that a die queues, beside the one it runs (R177). -/
def flushPlaces : Nat := 16

/-- The next queued flush of die `d` begins at this edge, and a waiting automatic flush takes the place it frees (R177). -/
def State.flushStart (s : State) (d : Nat) : State :=
  let l := s.learning d
  let l1 := match l.run, l.wait with
    | none, f :: rest => { l with run := some ⟨f, 0, 0⟩, wait := rest }
    | _, _ => l
  let k := flushPlaces - l1.wait.length
  s.setLearning d { l1 with wait := l1.wait ++ l1.auto.take k, auto := l1.auto.drop k }

/-- A Chart flush is refused on die `d`: 16 are queued, or an automatic one waits (R177). -/
def State.flushBusy (s : State) (d : Nat) : Bool :=
  flushPlaces ≤ (s.learning d).wait.length || !(s.learning d).auto.isEmpty

/-- A flush is queued on die `d`: `auto` for the automatic flush of R178, which waits for a place, or is merged into one of
its port that waits. Answers whether the die will run it. -/
def State.queueFlush (s : State) (f : Flush) (auto : Bool) (d : Nat) : State × Bool :=
  let l := s.learning d
  if l.wait.length < flushPlaces && l.auto.isEmpty then (s.setLearning d { l with wait := l.wait ++ [f] }, true)
  else if auto && l.auto.any (fun g => g.port == f.port && g.table == f.table) then (s, false)
  else (s.setLearning d { l with auto := l.auto ++ [f] }, true)

/-- A flush is queued on the dies of its mask (R177, R178). -/
def State.startFlush (s : State) (table port : Nat) (static : Bool) (dies : Nat) (chart : Option Nat) (auto : Bool) : State :=
  let f : Flush := ⟨s.nextId, table, port, static, dies, chart⟩
  let s0 := { s with nextId := s.nextId + 1 }
  let step (a : State × Nat) (d : Nat) : State × Nat :=
    if bitOf dies d then
      let r := a.1.queueFlush f auto d
      (r.1, a.2 + (if r.2 then 2 ^ d else 0))
    else a
  let r := step (step (s0, 0) 0) 1
  { r.1 with flushes := r.1.flushes ++ [(f, r.2, 0, 0)] }

/-- The hash tables at the end of a tick `t`: agers (not where `late`: their item goes on, R48) and flushes have
examined their slices; then the engines move on to
the next edge: held SIDs count down, deletions of the last edge fall due for the retry list, the flushes of ports that have
entered BINDOFF are queued (R178), queued flushes begin. -/
def State.edgeLearn (s : State) (late : Bool) : State :=
  let s1 := if late then s else ((((s.ageSlice 0 0).ageSlice 0 1).ageSlice 1 0).ageSlice 1 1)
  let s2 := (s1.flushSlice 0).flushSlice 1
  let s3 := ({ s2 with flushPorts := [] } : State).each s2.flushPorts (fun u p => u.startFlush 0 p false 3 none true)
  s3.each [0, 1] (fun u d =>
    let l := u.learning d
    (u.setLearning d { l with
      held := (l.held.map (fun e => (e.1, e.2 - 1))).filter (fun e => 0 < e.2)
      due := l.due || l.gone
      gone := false }).flushStart d)

/-- A write of LKP_HASH_SEED is accepted while the table of the die is empty, and refused otherwise (R181). -/
def State.writeSeed (s : State) (d t sub : Nat) (mask v : BitVec 64) : State :=
  if s.hashCount d t = 0 then s.plainWrite .LKP_HASH_SEED (d * 6 + t * 2 + sub) mask v
  else s.setFld F.LKP_TBL_STS_SEED_REFUSED (d * 3 + t) 1

/-- HASH_SEED_WRITE (R181). -/
def execHashSeedWrite (a : Agent) (d : Fin 2) (t : Fin 3) (sub : Fin 2) (v : BitVec 32) (s : State) : Res :=
  .next (s.begin.writeBy a .LKP_HASH_SEED (d.val * 6 + t.val * 2 + sub.val)
    (fun u => u.writeSeed d.val t.val sub.val low32 (v.setWidth 64)))

/-- The seeds that the tables use from this edge on are those of the registers (R181). -/
def State.edgeSeeds (s : State) : State :=
  s.setTabs { s.tabs with seed := (List.range 12).foldl (fun m k =>
    SMap.set seedReset m ((k / 6 * 3 + k % 6 / 2) * 2 + k % 2) ((s.reg .LKP_HASH_SEED k).setWidth 32)) s.tabs.seed }

end Sys2Proof.Machine
end

