-- ==== Sys2Proof/Machine/Merge.lean ====
section
/-! DEFINITION. Reorder and action merge: ACL results, targets, policing, host copies and mirrors (spec/04, R106, R107;
spec/08, R207 to R220). -/

namespace Sys2Proof.Machine

/-- `r` places of rotation to the right of a 32-bit number, folded to 16 bits (R213). -/
def foldHash (h r : Nat) : Nat :=
  let x := ((BitVec.ofNat 32 h).rotateRight (r % 32)).toNat
  (x ^^^ (x / 65536)) % 65536

/-- A choice among `n` by a 16-bit fold (R213). -/
def pickHash (f n : Nat) : Nat := f * n / 65536

/-- A number is a port under R62. -/
def isPort (p : Nat) : Bool := p ≤ 130 || (144 ≤ p && p < 160)

/-- A number passes the check of Table 8-3 for KIND 1: a port, and not of an absent or unpowered pipeline. -/
def State.portOk (s : State) (p : Nat) : Bool :=
  isPort p && (if p < 128 then s.domOn (p / 8) else if 144 ≤ p then s.domOn (p - 144) else true)

/-- The member ports of a LAG in pipeline `n` (R214). -/
def State.lagMembers (s : State) (n g : Nat) : List Nat :=
  (List.range (min 16 (s.fld F.ACT_LAG_COUNT (n * 128 + g)))).map (fun i => s.fld F.ACT_LAG_MEM_PORT ((n * 128 + g) * 16 + i))

/-- A LAG member is up: a front port in state UP (R214). -/
def State.memberUp (s : State) (p : Nat) : Bool := p < 128 && s.domOn (p / 8) && s.portState p == 2

/-- The LAG member that a hash takes (R213). -/
def State.lagPick (s : State) (n g h : Nat) : Option Nat :=
  if 127 < g then none
  else
    let mem := s.lagMembers n g
    let rot := s.fld F.ACT_CFG_LAG_ROT n
    match mem[pickHash (foldHash h rot) mem.length]? with
    | none => none
    | some c =>
      if s.memberUp c then some c
      else
        let u := mem.filter s.memberUp
        u[pickHash (foldHash h (2 * rot % 32)) u.length]?

/-- What a target comes to: a port with the FWD that the egress program sees, a group with it, or a drop with the cause of
Table 8-2; a cause of 0 is a drop counted elsewhere. -/
inductive Target where
  | port (p fwd : Nat) | group (g fwd : Nat) | drop (cause : Nat)
  deriving DecidableEq, Repr

/-- The read of a resolution step: its entry, or none where it is INVALID; an ERROR raises the ACT fault (R212). -/
def State.resolveRead (s : State) (n tag tid idx : Nat) (err : Bool) : Option DEnt × State :=
  if err && s.domOn (50 + directDie tid idx) then (none, s.fault 10 0 n idx) else (s.readDirect tag tid idx, s)

/-- The port check of Table 8-3. -/
def State.portTarget (s : State) (p fwd : Nat) : Target := if s.portOk p then .port p fwd else .drop 4

/-- A LAG resolved to a port (Table 8-3). -/
def State.lagTarget (s : State) (n g h : Nat) (fwd : Option Nat) : Target :=
  match s.lagPick n g h with
  | none => .drop 7
  | some p => s.portTarget p (fwd.getD (2 ^ 20 + p))

/-- KIND 2: a NEXTHOP (Table 8-3). -/
def State.nexthop (s : State) (n tag h idx : Nat) (err : Bool) : Target × State :=
  let r := s.resolveRead n tag tidNexthop idx err
  (match r.1 with
    | none => .drop 5
    | some e =>
      let k := bitsOf (e.word 4) 20 4
      let x := bitsOf (e.word 4) 0 20
      if k = 1 then s.portTarget x (2 * 2 ^ 20 + idx)
      else if k = 4 then s.lagTarget n x h (some (2 * 2 ^ 20 + idx)) else .drop 5, r.2)

/-- KIND 3: an ECMP group (Table 8-3, R152, R213). -/
def State.ecmp (s : State) (n tag h g : Nat) (errs : Nat) : Target × State :=
  let r := s.resolveRead n tag tidEcmpGroup (g % 65536) (bitOf errs 0)
  match (if 65535 < g then none else r.1) with
  | none => (.drop 6, r.2)
  | some e =>
    let base := bitsOf (e.word 0) 0 20
    let cm := bitsOf (e.word 0) 20 9
    if 1048575 < base + cm then (.drop 6, r.2)
    else
      let m := r.2.resolveRead n tag tidEcmpMember (base + pickHash (foldHash h 0) (cm + 1)) (bitOf errs 1)
      match m.1 with
      | none => (.drop 6, m.2)
      | some x => m.2.nexthop n tag h (bitsOf (x.word 0) 0 18) (bitOf errs 2)

/-- A multicast group under the packet's tag, on the die of pipeline `n` (R269). -/
def State.groupTarget (s : State) (n tag g fwd : Nat) (err : Bool) : Target × State :=
  let d := pipeDie n
  let s1 := if err then s.fault 15 2 d g else s
  let e : BitVec 128 := if err then 0 else s1.readGroup (s1.tabsAt tag) d g
  if 65535 < g || !e.getLsbD 96 then (.drop 0, s1.schCount d 8 1)
  else if !e.getLsbD 98 && !e.getLsbD 99 then (.drop 0, s1.schCount d 7 1)
  else (.group g fwd, s1)

/-- Step 4: a target of the KINDs of Table 5-9 resolved (R211, Table 8-3). `errs`: reads that end in ERROR: 0 ECMP_GROUP,
1 ECMP_MEMBER, 2 NEXTHOP, 3 BD, 4 the packet's POLICER, 5 the host copy's, 6 MIRROR, 7 the group. -/
def State.resolve (s : State) (n tag h fwd errs : Nat) : Target × State :=
  let id := fwd % 2 ^ 20
  match fwd / 2 ^ 20 % 16 with
  | 1 => (s.portTarget id (2 ^ 20 + id), s)
  | 2 => if 262143 < id then (.drop 5, s) else s.nexthop n tag h id (bitOf errs 2)
  | 3 => s.ecmp n tag h id errs
  | 4 => (s.lagTarget n id h none, s)
  | 5 =>
    let r := if 16383 < id then (none, s) else s.resolveRead n tag tidBd id (bitOf errs 3)
    match r.1 with
    | none => (.drop 8, r.2)
    | some e => r.2.groupTarget n tag (bitsOf (e.word 0) 0 16) (5 * 2 ^ 20 + id) (bitOf errs 7)
  | 6 => s.groupTarget n tag id (6 * 2 ^ 20 + id) (bitOf errs 7)
  | _ => (.drop 4, s)

/-- A meter's decision on a cost: 0 green, 1 yellow, 2 red, and the buckets debited (R216). -/
def Meter.decide (m : Meter) (b : Nat) : Nat × Meter :=
  if m.ptok < b then (2, m) else if m.ctok < b then (1, { m with ptok := m.ptok - b })
  else (0, { m with ptok := m.ptok - b, ctok := m.ctok - b })

/-- A copy of `len` bytes is metered on a POLICER entry: its colour, and whether it is kept; an entry that is off or in error
gives green, and an ACT fault (R216 to R218). A yellow forwarding copy is red under YEL_DROP, and a red one is kept under
RED_MARK (R217); a yellow host copy is discarded under YEL_DROP (R210). -/
def State.police (s : State) (n idx len : Nat) (host err : Bool) : Nat × Bool × State :=
  if err || !s.domOn (50 + directDie tidPolicer idx) then (0, true, (s.actCount n 10).fault 10 1 n idx)
  else
    let m := s.meter idx
    let cost := if bitOf m.opt 0 then 256 else ((len : Int) + signedOf 8 (s.fld F.ACT_CFG_METER_ADJ n)).toNat * 256
    let r := m.decide cost
    let s1 := (s.setMeter idx r.2).gauge! n 0x0F 1 (some r.1)
    let col := if r.1 = 1 && bitOf m.opt 1 then 2 else r.1
    (col, col != 2 || (bitOf m.opt 2 && !(host && r.1 == 1)), s1)

/-- Fields of a collected ACL answer (Table 7-4). -/
def Acl.fwd (a : Acl) : Nat := getField a.action 0 24
def Acl.prio (a : Acl) : Nat := getField a.action 32 8

/-- `a` wins over `b`: higher PRIO, then lower LKNUM, then issued earlier (R204). -/
def Acl.wins (a b : Acl) : Bool :=
  b.prio < a.prio || (a.prio == b.prio && (a.lknum < b.lknum || (a.lknum == b.lknum && a.seq < b.seq)))

/-- The winning answer among those that pass a test (R204). -/
def aclBest (l : List Acl) (ok : Acl → Bool) : Option Acl :=
  (l.filter ok).foldl (fun best a => match best with
    | none => some a
    | some b => if a.wins b then some a else some b) none

/-- The mirror sessions of a packet, the program's and the answers', in issue order, up to four and none twice
(R140, R204). -/
def mirrorSet (md : Bytes) (mirSeq : List Nat) (acls : List Acl) : List Nat :=
  let prog := ((List.range 4).filter (fun i => (md.getD (0x18 + i) 0).getLsbD 7)).map (fun i =>
    (2 * mirSeq.getD i 0, (md.getD (0x18 + i) 0).toNat % 64))
  let acl := (acls.filter (fun a => a.action.getLsbD 26)).map (fun a => (2 * a.seq + 1, getField a.action 40 6))
  let ordered := (acl.foldl (fun (l : List (Nat × Nat)) e =>
    l.takeWhile (fun x => x.1 ≤ e.1) ++ [e] ++ l.dropWhile (fun x => x.1 ≤ e.1)) prog)
  (ordered.map (fun e => e.2)).eraseDups.take 4

/-- The queue of a forwarding copy: the leaf that its metadata names, or the port's unicast queue TC; a leaf named in vain is
counted (R258, R259). -/
def State.queueFor (s : State) (port tc : Nat) (md : Bytes) : Nat × State :=
  let l := localPort port
  let pp := l.1 * 75 + l.2
  let q := portQueue l.2 tc
  if 128 ≤ port || !s.effBit F.SCH_PORT_LEAF_SRC pp then (q, s)
  else
    let v := beAt md (0x30 + min 46 (s.eff F.SCH_PORT_LEAF_OFF pp)) 2
    let leaf := v % 32768
    let i := l.1 * 32768 + leaf
    let g := l.1 * 4096 + s.eff F.SCH_LEAF_GROUP i
    if v < 32768 then (q, s)
    else if s.effBit F.SCH_LEAF_EN i && s.effBit F.SCH_GRP_EN g && s.eff F.SCH_GRP_PORT g == l.2 then (leaf, s)
    else (q, s.schCount l.1 3 1)

/-- A packet's copy as action merge makes it: its frame, metadata with FWD, class, colour, and its hold on staging. -/
def Copy.of (p : Pkt) (md : Bytes) (fwd : Nat) (kind : CopyKind) (port tc colour mode : Nat) : Copy :=
  { Copy.own kind port tc p.bytes with
    md := overwrite md 0x10 (beBytes 4 fwd)
    colour := colour
    stage := some p.id
    mode := mode
    arriving := p.arr == 2
    bad := p.arr == 2 && p.bad }

/-- Fabric traffic is routed and sprayed at step 4 (R275, R277): a forwarding copy with the link and the header that it takes,
or none where it is dropped. -/
def State.fabric (s : State) (n : Nat) (c : Copy) (program : Bool) : Option Copy × State :=
  if !s.isYarn c.port then (some c, s)
  else if program then s.yarnForward n (portDie c.port) c
  else (some { c with yarn := some (s.localHdr 2 0) }, s)

/-- The ingress group of a forwarding copy: of its packet's front port and its class (R239). -/
def Copy.ofGroup (c : Copy) : Copy :=
  { c with group := if beAt c.md 0 1 < 128 then some (beAt c.md 0 1, c.tc) else none }

/-- A forwarding copy that has passed step 5 goes to its port, with its ingress group, its queue and its crossbar input; a copy
that is sprayed takes its link's unicast queue (R239, R258, R277). -/
def State.sendForward (s : State) (n : Nat) (c : Copy) (program : Bool) : State :=
  let q := if program && !c.yarn.elim false (fun h => h.type == 0) then s.queueFor c.port c.tc c.md
    else (portQueue (localPort c.port).2 c.tc, s)
  q.2.submit n (c.ofGroup.route n (beAt c.md 0 1) q.1)

/-- A multicast packet goes to the replication engine of each die that its group names (R23, R269, R275). -/
def State.sendGroup (s : State) (n tag g : Nat) (c : Copy) (h : Option YHdr) : State :=
  let e := s.readGroup (s.tabsAt tag) (pipeDie n) g
  let hdr := match h with
    | some x => x
    | none => s.localHdr (if s.bit F.YRN_ID_EN 0 then 1 else 2) g
  let hdr1 := if s.bit F.YRN_ID_EN 0 then hdr else { hdr with type := 2 }
  s.each ([0, 1].filter (fun d => e.getLsbD (98 + d))) (fun t d =>
    let t1 := if d = pipeDie n then t else t.gauge! (16 + pipeDie n) 0x4E (cellsOf c.bytes.length)
    t1.replicate d g { c with yarn := some hdr1, stage := none })

/-- Action merge has taken a frame: it leaves staging once its last copy has (R92). -/
def State.mergedStage (s : State) (id : Nat) : State :=
  match s.stagedOf id with
  | some t => s.setStaged id { t with merged := true }
  | none => s

/-- The forwarding copy is dropped with a cause of Table 8-2; cause 0 is counted elsewhere. -/
def State.mergeDrop (s : State) (n cause : Nat) : State :=
  ((if cause = 0 then s else s.actCount n cause)).gauge! n 0x0E 1

/-- The host copy of a packet: metered by its class, kept or discarded (R210). -/
def State.hostCopy (s : State) (n : Nat) (j : Job) (reason errs : Nat) : Option Copy × State :=
  let tc := reason / 32
  let s1 := s.actCount n 11
  let c : Copy := { Copy.of j.pkt j.md (beAt j.md 0x10 4) .host 130 tc 0 j.mode with reason := reason }
  if s1.bit F.ACT_HOSTPOL_EN (n * 8 + tc) then
    let r := s1.police n (s1.fld F.ACT_HOSTPOL_INDEX (n * 8 + tc)) j.pkt.bytes.length true (bitOf errs 5)
    if !r.2.1 then (none, r.2.2.actCount n 12) else (some { c with colour := r.1 }, r.2.2)
  else (some c, s1)

/-- A mirror session's copy of a packet, if its sampling takes this request and its entry is good (R219, R220). -/
def State.mirrorCopy (s : State) (n : Nat) (j : Job) (sess errs : Nat) : Option Copy × State :=
  let r := s.resolveRead n j.tag tidMirror sess (bitOf errs 6)
  match r.1 with
  | none => (none, r.2.actCount n 14)
  | some e =>
    let port := bitsOf (e.word 0) 0 8
    let tc := bitsOf (e.word 0) 8 3
    let tr := bitsOf (e.word 0) 12 14
    let every := bitsOf (e.word 1) 0 16
    if !r.2.portOk port then (none, r.2.actCount n 14)
    else
      let q := r.2.pipe n
      let c := SMap.get (fun _ => 0) q.mirror sess
      let take := every ≤ 1 || c = 0
      let s1 := if every ≤ 1 then r.2
        else r.2.setPipe n { q with mirror := SMap.set (fun _ => 0) q.mirror sess ((c + 1) % every) }
      if take then
        let bytes := if tr = 0 then j.pkt.bytes else j.pkt.bytes.take (max 64 tr)
        let k := Copy.of j.pkt j.md (8 * 2 ^ 20 + sess) .mirror port tc 0 j.mode
        (some { k with bytes := bytes, yarn := if s1.isYarn port then some (s1.localHdr 2 0) else none }, s1.actCount n 13)
      else (none, s1)

/-- The responder's part for a marked packet: whether it asks for a host copy (R222, R223, R226). -/
def State.respond (s : State) (n : Nat) (j : Job) : Bool × State :=
  let kind := beAt j.md 0x16 1
  if kind = 0 || 5 < kind then (false, s)
  else if s.split (rspSplit kind) then (true, s)
  else if 128 ≤ j.src || !s.rspForm n kind j.pkt.bytes then (true, s.actCount n 16)
  else if kind = 5 then s.bfdReceive n j.pkt.bytes
  else (false, s.rspQueue n kind j.pkt.bytes j.src)

/-- A copy that is sent as it is to its port's unicast queue of its class (R258). -/
def State.sendPlain (s : State) (n src : Nat) (c : Copy) : State :=
  s.submit n (c.route n src (portQueue (localPort c.port).2 c.tc))

/-- The forwarding copy of a packet that passed step 2: resolved, metered, made (steps 4 to 6 of Table 8-1); `wantHost`: a
host copy is requested. -/
def State.forward (s : State) (n : Nat) (j : Job) (fwd tc errs : Nat) (wantHost solo : Bool) : State :=
  let r := s.resolve n j.tag (beAt j.md 0x20 4) fwd errs
  match r.1 with
  | .drop c => r.2.mergeDrop n c
  | t =>
    let toHost := match t with
      | .port 130 _ => wantHost
      | _ => false
    if toHost then r.2
    else
      let y := match t with
        | .port p f => r.2.fabric n { Copy.of j.pkt j.md f .forward p tc 0 j.mode with solo := solo } true
        | .group _ f => (some (Copy.of j.pkt j.md f .replica 0 tc 0 j.mode), r.2)
        | .drop _ => (none, r.2)
      match y.1 with
      | none => y.2
      | some c =>
        let pol := beAt j.md 0x1C 4
        let m := if bitOf pol 31 then y.2.police n (pol % 2 ^ 18) j.pkt.bytes.length false (bitOf errs 4) else (0, true, y.2)
        if !m.2.1 then m.2.2.mergeDrop n 9
        else match t with
          | .group g _ => m.2.2.sendGroup n j.tag g { c with colour := m.1 } none
          | _ => m.2.2.sendForward n { c with colour := m.1 } true

/-- A packet that an ACL answer marks for drop carries the REASON of the winning dropping answer as its DROP, where the program
has set none (R204). -/
def Job.marked (j : Job) : Job :=
  match aclBest j.acls (fun a => a.action.getLsbD 24) with
  | some a => if beAt j.md 0x14 1 = 0 then { j with md := overwrite j.md 0x14 (beBytes 1 (max 1 (getField a.action 48 8))) } else j
  | none => j

/-- Steps 1 to 6 for a packet whose program ended by END (R207 to R220). -/
def State.mergeJob (s : State) (n : Nat) (j0 : Job) (errs : Nat) : State :=
  let j := j0.marked
  let prog := beAt j.md 0x10 4 % 2 ^ 24
  let aFwd := (aclBest j.acls (fun a => a.fwd / 2 ^ 20 != 0)).elim 0 Acl.fwd
  let fwd := if prog / 2 ^ 20 ≠ 0 && aFwd / 2 ^ 20 ≠ 0 then aFwd else prog
  let tc := (aclBest j.acls (fun a => a.action.getLsbD 27)).elim (beAt j.md 0x0F 1 % 8) (fun a => getField a.action 28 3)
  let cause := if beAt j0.md 0x14 1 ≠ 0 then 1 else if j.acls.any (fun a => a.action.getLsbD 24) then 2
    else if fwd / 2 ^ 20 = 0 then 3 else 0
  let rsp := s.respond n j
  let aclReason := (aclBest j.acls (fun a => a.action.getLsbD 25)).elim 0 (fun a => max 1 (getField a.action 48 8))
  let copy := beAt j.md 0x15 1
  let reason := if copy ≠ 0 then copy else if aclReason ≠ 0 then aclReason
    else if rsp.1 then rsp.2.rspReason n (beAt j.md 0x16 1) else 0
  let h := if reason ≠ 0 then rsp.2.hostCopy n j reason errs else (none, rsp.2)
  let ms := (mirrorSet j.md j.mirSeq j.acls).foldl (fun (a : List Copy × State) x =>
    let r := a.2.mirrorCopy n j x errs
    (a.1 ++ r.1.toList, r.2)) ([], h.2)
  let s1 := if cause ≠ 0 then ms.2.mergeDrop n cause
    else ms.2.forward n j fwd tc errs (reason != 0) (h.1.isNone && ms.1.isEmpty)
  let s2 := match h.1 with
    | some c => s1.sendPlain n j.src c
    | none => s1
  (ms.1.foldl (fun t c => t.sendPlain n j.src c) s2).mergedStage j.pkt.id

/-- The traffic class of an outer action (STE_OUTER_ACT). -/
def State.outerTc (s : State) (n i : Nat) (oclass : Nat) (b : Bytes) : Nat :=
  let tc := s.fld F.STE_OUTER_ACT_TC i
  let o := s.etherAt n b
  match s.fld F.STE_OUTER_ACT_TC_SRC i with
  | 1 => if 12 < o then beAt b 14 1 / 32 else tc
  | 2 => if oclass = 2 then beAt b (o + 3) 1 / 32 else if oclass = 3 then beAt b (o + 2) 2 / 512 % 8 else tc
  | _ => tc

/-- A packet that ended in outer classification (R104). -/
def State.mergeOuter (s : State) (n : Nat) (j : Job) : State :=
  let i := n * 8 + j.oclass
  let s1 := s.actCount n 23
  let port := s1.fld F.STE_OUTER_ACT_PORT i
  let act := s1.fld F.STE_OUTER_ACT_ACT i
  let tc := s1.outerTc n i j.oclass j.pkt.bytes
  let done := match act with
    | 1 => s1.sendPlain n j.src (Copy.of j.pkt j.md (2 ^ 20 + 130) .forward 130 tc 0 j.mode).ofGroup
    | 2 =>
      if !isPort port then s1.steCount n 15
      else if !s1.portOk port then (s1.actCount n 4).steCount n 15
      else
        let y := s1.fabric n { Copy.of j.pkt j.md (2 ^ 20 + port) .forward port tc 0 j.mode with solo := true } false
        match y.1 with
        | some c => y.2.sendForward n c false
        | none => y.2
    | _ => s1.steCount n 15
  done.mergedStage j.pkt.id

/-- A packet from the fixed parser of a Yarn port, under the tag and mode of its dispatch slot (R26, R49, R280 to R282): `d` is
the die of that port. A transit copy that finds YRN_ID.EN cleared since is sprayed all the same, and sent TYPE 2 (R275; log
entry 60). -/
def State.mergeYarn (s : State) (n : Nat) (p : Pkt) (md : Bytes) (tc dp : Nat) (h : YHdr) (xuser : Bytes) (own : Bool)
    (errs : Nat) : State :=
  let d := portDie p.src
  let done :=
    if h.type = 2 then s.sendPlain n p.src (Copy.of p md (2 ^ 20 + 130) .link 130 tc dp p.mode).ofGroup
    else if h.type = 1 then
      let r := s.groupTarget n p.tag h.dst (6 * 2 ^ 20 + h.dst) (bitOf errs 7)
      match r.1 with
      | .group g f => r.2.sendGroup n p.tag g (Copy.of p md f .replica 0 tc dp p.mode) (some h)
      | _ => r.2.mergeDrop n 0
    else if own then
      if !s.portOk h.port then s.mergeDrop n 4
      else
        let c := { Copy.of p md (2 ^ 20 + h.port) .forward h.port tc dp p.mode with yarn := some h, solo := true }.ofGroup
        let q := s.queueFor h.port tc md
        let c1 := c.route n p.src q.1
        let id := s.nextId
        let e := destDie h.port
        let s1 := match q.2.stagedOf p.id with
          | some t => q.2.setStaged p.id { t with left := t.left + 1 }
          | none => q.2
        ({ s1 with nextId := id + 1, rsq := SMap.set (fun _ => []) s1.rsq e (SMap.get (fun _ => []) s1.rsq e ++ [id]) }).setCopy id
          (some c1)
    else match s.spray n h.dst with
      | none => s.yrnCount d 9 1
      | some (l, s1) =>
        let h1 := if s1.bit F.YRN_ID_EN 0 then h else { h with type := 2 }
        let c := { Copy.of p md (2 ^ 20 + l) .transit l tc dp p.mode with yarn := some h1, xuser := some xuser, solo := true }
        s1.sendPlain n p.src c.ofGroup
  done.mergedStage p.id

/-- A packet from the HOST parser: step 4 only, with its destination as the target (R207, R211, R343). -/
def State.mergeHost (s : State) (n : Nat) (b md : Bytes) (dest tc : Nat) (tx : Option (Nat × Nat × Nat × Bool))
    (chart : Option Nat) : State :=
  let s1 := s.steCount n 14
  let kind : CopyKind := if chart.isSome then .chartTx else .hostTx
  let c : Copy := { Copy.own kind dest tc b with
    md := overwrite md 0x10 (beBytes 4 (2 ^ 20 + dest))
    tx := tx
    chart := chart
    mode := s1.curMode
    yarn := if s1.isYarn dest then some (s1.localHdr 2 0) else none }
  if s1.portOk dest then s1.sendPlain n 130 c else (s1.mergeDrop n 4).txDone c 5

/-- ACTION_MERGE: the next packet of pipeline `n` (R207). `errs` says which of its reads end in ERROR (see
`State.resolve`). -/
def execActionMerge (n : Fin 16) (errs : BitVec 8) (s : State) : Res :=
  let s0 := s.begin
  let q := s0.pipe n.val
  match q.merge with
  | [] => .next s0
  | m :: rest =>
    let s1 := (s0.setPipe n.val { q with merge := rest }).actCount n.val 0
    .next (match m with
      | .job j =>
        if j.pkt.bad && j.pkt.arr ≠ 2 then s1.mergedStage j.pkt.id
        else if j.reason ≠ 0 then s1.mergeOuter n.val j
        else s1.mergeJob n.val j errs.toNat
      | .yarn p md tc dp h xu own =>
        if p.bad && p.arr ≠ 2 then s1.mergedStage p.id else s1.mergeYarn n.val p md tc dp h xu own errs.toNat
      | .host b md dest tc tx chart => s1.mergeHost n.val b md dest tc tx chart)

/-- Lookups of a packet's ACL profiles still outstanding (R465). -/
def State.aclOut (s : State) (j : Job) : List Nat :=
  SMap.keysWhere (fun (l : Option Lookup) => match l with
    | some k => k.job == j.id && k.raw.length != 0 && s.effBit F.TCM_PROF_CFG_AUTO k.prof
    | none => false) s.lookups

/-- An ingress packet leaves reorder for action merge; answers that come later are discarded, each counted (R106, R465,
R466). -/
def State.releaseIngress (s : State) (n src : Nat) (late : Bool) : State :=
  let q := s.pipe n
  match q.ig.find? (fun j => j.src == src) with
  | none => s
  | some j =>
    let out := if j.reason = 0 then s.aclOut j else []
    if !j.ended || (!out.isEmpty && !late) then s
    else
      let s1 := s.setPipe n { q with ig := removeFirst (fun x => x.id == j.id) q.ig, merge := q.merge ++ [.job j] }
      s1.each out (fun t _ => t.actCount n 24)

/-- An egress packet leaves reorder: dropped, recirculated, or on its way to its MAC (R94, R106, R108, R109). -/
def State.releaseEgress (s : State) (n src : Nat) : State :=
  let q := s.pipe n
  match q.eg.find? (fun j => j.src == src) with
  | none => s
  | some j =>
    if !j.ended then s
    else
      let s1 := s.setPipe n { q with eg := removeFirst (fun x => x.id == j.id) q.eg }
      match s1.copy j.id with
      | none => s1
      | some c =>
        let pass := s1.bit F.STE_DISP_CFG_EG_ABORT_PASS n
        if (j.reason ≠ 0 && !pass) || (j.reason == 0 && beAt j.md 0x14 1 != 0) then s1.release j.id c
        else
          let bytes := if j.reason = 0 then j.head ++ c.bytes.drop (min 192 c.bytes.length) else c.bytes
          let c1 := { c with bytes := bytes, md := if j.reason = 0 then j.md else c.md, twoStep := j.reason == 0 && j.twoStep }
          if 144 ≤ src && c.poison && !c.cut then (s1.sknCount c.die 2 1).release j.id c
          else if 144 ≤ src then
            let p : Pkt := ⟨0, n, src, bytes, beAt c.md 1 1 + 1, beAt c.md 8 4, beAt c.md 12 2, false, 0, 0, 0, 0⟩
            (s1.release j.id c).enterStaging n p false
          else { s1.setCopy j.id (some c1) with
            txq := SMap.set (fun _ => []) s1.txq src (SMap.get (fun _ => []) s1.txq src ++ [j.id]) }

/-- REORDER_RELEASE: the oldest packet of a source leaves the ingress reorder of pipeline `n`, or the egress reorder; `late`:
the clock d + budget of R465 has come (R106, R465, R466). -/
def execReorderRelease (n : Fin 16) (eg : Bool) (src : Fin 160) (late : Bool) (s : State) : Res :=
  let s0 := s.begin
  .next (if eg then s0.releaseEgress n.val src.val else s0.releaseIngress n.val src.val late)

end Sys2Proof.Machine
end

