-- ==== Sys2Proof/Machine/Msec.lean ====
section
/-! DEFINITION. MACsec of the front ports (spec/19, R431 to R439). The SecTAG and the nonces are those of IEEE 802.1AE
(PRESUMED, log entry 5). -/

namespace Sys2Proof.Machine

/-- The key and salt of SA `i` = octet × 64 + SA. -/
def State.saKey (s : State) (i : Nat) : SaKey := SMap.get (fun _ => SaKey.zero) s.keys i

/-- The key of an SA is zeroed, and KEYED with it (R439). -/
def State.zeroKey (s : State) (i : Nat) : State :=
  { s.setFld F.MSC_SA_STS_KEYED i 0 with keys := SMap.set (fun _ => SaKey.zero) s.keys i SaKey.zero }

/-- The SAs of an octet. -/
def octetSas (o : Nat) : List Nat := (List.range 64).map (o * 64 + ·)

/-- The staged key of an octet, with its bytes in key order (R437). -/
def State.stagedKey (s : State) (o : Nat) : SaKey :=
  ⟨(List.range 8).flatMap (fun w => beBytes 4 (s.reg .MSC_KEY (o * 8 + w)).toNat),
   (List.range 3).flatMap (fun w => beBytes 4 (s.reg .MSC_SALT (o * 3 + w)).toNat)⟩

/-- The staging of an octet is zeroed (R437). -/
def State.zeroStaging (s : State) (o : Nat) : State :=
  ((s.each (List.range 8) (fun t w => t.setReg .MSC_KEY (o * 8 + w) 0)).each (List.range 3) (fun t w => t.setReg .MSC_SALT (o * 3 + w) 0))

/-- Every key of an octet is zeroed, its staging too, and its SAs are disabled when `dis` (R439). -/
def State.zeroOctet (s : State) (o : Nat) (dis : Bool) : State :=
  (s.each (octetSas o) (fun t i => if dis then (t.setFld F.MSC_SA_CTL_EN i 0).zeroKey i else t.zeroKey i)).zeroStaging o

/-- The staged key moves into SA `i` (R437). -/
def State.loadKey (s : State) (i : Nat) : State :=
  let o := i / 64
  let k := s.stagedKey o
  let k1 := if s.bit F.MSC_SA_CTL_XPN i then k else { k with salt := (s.saKey i).salt }
  let s1 := { s with keys := SMap.set (fun _ => SaKey.zero) s.keys i k1 }
  ((s1.setFld F.MSC_SA_STS_KEYED i 1).setFld F.MSC_SA_STS_EXHAUSTED i 0).zeroStaging o

/-- A write to MSC_SA_CTL: LOAD moves the staged key unless the SA is in use, EN written 0 zeroes the key (R437, R439). -/
def State.writeSaCtl (s : State) (i : Nat) (mask v : BitVec 64) : State :=
  let s1 := s.plainWrite .MSC_SA_CTL i mask v
  let s2 := if mask &&& 1 ≠ 0 ∧ v &&& 1 = 0 then s1.zeroKey i else s1
  if !wbit mask v 8 then s2
  else if s.bit F.MSC_SA_CTL_EN i then s2.setFld F.MSC_SA_STS_REFUSED i 1
  else s2.loadKey i

/-- KEY_LOAD: MSC_SA_CTL is written with LOAD (R437). -/
def execKeyLoad (a : Agent) (i : Fin 1024) (v : BitVec 32) (s : State) : Res :=
  .next (s.begin.writeBy a .MSC_SA_CTL i.val (fun t => t.writeSaCtl i.val low32 ((v ||| 0x100).setWidth 64)))

/-- SA_DISABLE: MSC_SA_CTL is written with EN 0 (R439). -/
def execSaDisable (a : Agent) (i : Fin 1024) (v : BitVec 32) (s : State) : Res :=
  .next (s.begin.writeBy a .MSC_SA_CTL i.val (fun t => t.writeSaCtl i.val low32 ((v &&& 0xFFFFFEFE).setWidth 64)))

/-- A counter of a SecY. -/
def State.secyCount (s : State) (p i : Nat) : State := s.bump .MSC_SECY_CNT (p * 8 + i) 1

/-- The enabled SA of a port in a direction (0 receive, 1 transmit) with an AN, that passes a test; the lowest (R433,
R434). -/
def State.findSa (s : State) (p dir an : Nat) (ok : Nat → Bool) : Option Nat :=
  (octetSas (p / 8)).find? (fun i => s.bit F.MSC_SA_CTL_EN i && s.fld F.MSC_SA_CTL_DIR i == dir &&
    s.fld F.MSC_SA_CTL_SLOT i == p % 8 && s.fld F.MSC_SA_CTL_AN i == an && ok i)

/-- The nonce of a packet number under SA `i`: SCI and PN, or for XPN the salt with SSCI and PN folded in. -/
def State.saNonce (s : State) (i sci pn : Nat) : Bytes :=
  if s.bit F.MSC_SA_CTL_XPN i then
    xorBytes (s.saKey i).salt (beBytes 4 (s.fld F.MSC_SA_SSCI_SSCI i) ++ beBytes 8 pn)
  else beBytes 8 sci ++ beBytes 4 pn

/-- A received SecTAG: its length from the EtherType on, TCI and AN, SL, PN, and SCI where it carries one. -/
structure SecTag where
  size : Nat
  tci  : Nat
  sl   : Nat
  pn   : Nat
  sci  : Option Nat

/-- The SecTAG of a frame with EtherType 0x88E5. -/
def secTag (b : Bytes) : SecTag :=
  let tci := beAt b 14 1
  let sc := bitOf tci 5
  ⟨if sc then 16 else 8, tci, beAt b 15 1 % 64, beAt b 16 4, if sc then some (beAt b 20 8) else none⟩

/-- Bytes of user data between SecTAG and ICV; the ICV follows at once (a short frame's padding lies behind it). -/
def SecTag.data (t : SecTag) (b : Bytes) : Nat := if t.sl ≠ 0 then t.sl else b.length - (12 + t.size) - 16

/-- The tag and its frame fit together: version 0, room for data and ICV. -/
def SecTag.fits (t : SecTag) (b : Bytes) : Bool :=
  !bitOf t.tci 7 && t.sl < 48 && 12 + t.size + t.data b + 16 ≤ b.length && 2 ≤ t.data b

/-- The whole packet number of a received frame: under XPN the upper half follows the lowest acceptable PN. -/
def fullPn (xpn : Bool) (low pn : Nat) : Nat :=
  if xpn then low / 2 ^ 32 * 2 ^ 32 + pn + (if bitOf low 31 && !bitOf pn 31 then 2 ^ 32 else 0) else pn

/-- The outcome of a received SA's check: late, valid or not, the frame without tag and ICV, and the lowest acceptable PN
afterwards. -/
structure SaCheck where
  late  : Bool
  valid : Bool
  frame : Bytes
  low   : Nat

/-- A frame of `b` is checked under receive SA `i` of port `p` (R433). -/
def State.checkSa (s : State) (p i : Nat) (t : SecTag) (b : Bytes) : SaCheck :=
  let n := t.data b
  let hd := b.take (12 + t.size)
  let data := (b.drop (12 + t.size)).take n
  let icv := (b.drop (12 + t.size + n)).take 16
  let low := (s.reg .MSC_SA_PN i).toNat
  let pn := fullPn (s.bit F.MSC_SA_CTL_XPN i) low t.pn
  let iv := s.saNonce i (t.sci.getD (s.reg .MSC_SA_SCI i).toNat) pn
  let ks := aesKeys (s.saKey i).key
  let enc := bitOf t.tci 3
  let tag := if enc then gcmTag ks iv hd data else gcmTag ks iv (hd ++ data) []
  let late := s.effBit F.MSC_SECY_CFG_REPLAY_EN p && pn < low
  ⟨late, !late && tag == icv, b.take 12 ++ (if enc then gcmCrypt ks iv data else data),
    max low (pn + 1 - s.fld F.MSC_SECY_WIN_WINDOW p)⟩

/-- What the SecY of port `p` makes of a received frame without FCS: what it passes on, or nothing (R432, R433). -/
def State.secyReceive (s : State) (p : Nat) (b : Bytes) : Option Bytes × State :=
  let et := beAt b 12 2
  let val := s.eff F.MSC_SECY_CFG_VALIDATE p
  if !s.effBit F.MSC_SECY_CFG_EN p then (some b, s)
  else if et ≠ 0x88E5 then
    (if 2 ≤ val && et != 0x888E then (none, s.secyCount p 6) else (some b, s))
  else
    let t := secTag b
    let bare := b.take 12 ++ (b.drop (12 + t.size)).take (t.data b)
    if !t.fits b then
      (if val = 0 then (some b, s) else if val = 1 then (some b, s.secyCount p 7) else (none, s.secyCount p 3))
    else
      match s.findSa p 0 (t.tci % 4) (fun i => t.sci.elim true (· == (s.reg .MSC_SA_SCI i).toNat)) with
      | none => if val = 0 then (some bare, s) else if val = 1 then (some bare, s.secyCount p 7) else (none, s.secyCount p 5)
      | some i =>
        let c := s.checkSa p i t b
        if val = 0 then (some c.frame, s)
        else if c.valid then (some c.frame, (s.setReg .MSC_SA_PN i (BitVec.ofNat 64 c.low)).secyCount p 2)
        else if val = 1 then (some c.frame, s.secyCount p 7)
        else (none, s.secyCount p (if c.late then 4 else 3))

/-- The length that R63 compares of a received frame of `n` bytes with FCS (R433): without SecTAG and ICV. -/
def State.secyLength (s : State) (p : Nat) (b : Bytes) (n : Nat) : Nat :=
  if s.effBit F.MSC_SECY_CFG_EN p && beAt b 12 2 == 0x88E5 then
    (if (secTag b).sl ≠ 0 then 12 + (secTag b).sl + 4 else n - (secTag b).size - 16)
  else n

/-- The last PN that an SA may use (R435). -/
def State.lastPn (s : State) (i : Nat) : Nat := if s.bit F.MSC_SA_CTL_XPN i then 0xFFFFFFFFFFFFFFFF else 0xFFFFFFFF

/-- A transmit SA uses its next PN (R435): PN_WARN at the warning level, EXHAUSTED after the last. -/
def State.usePn (s : State) (p i : Nat) : State :=
  let x := s.bit F.MSC_SA_CTL_XPN i
  let pn := (s.reg .MSC_SA_PN i).toNat
  let warn := if x then 0xC000000000000000 else 0xC0000000
  let s1 := s.setReg .MSC_SA_PN i (BitVec.ofNat 64 (pn + 1))
  let s2 := if pn < warn ∧ warn ≤ pn + 1 then s1.setFld F.MSC_SA_STS_PN_WARN i 1 else s1
  if s.lastPn i ≤ pn then (s2.setFld F.MSC_SA_STS_EXHAUSTED i 1).fault 21 1 p (i % 64) else s2

/-- What the SecY of port `p` makes of a frame without FCS that is to be sent: the frame protected, or nothing (R432,
R434). -/
def State.secySend (s : State) (p : Nat) (b : Bytes) : Option Bytes × State :=
  if !(s.effBit F.MSC_SECY_CFG_EN p && s.effBit F.MSC_SECY_CFG_PROTECT p) || beAt b 12 2 == 0x888E then (some b, s)
  else match s.findSa p 1 (s.eff F.MSC_SECY_CFG_ENC_AN p) (fun _ => true) with
    | none => (none, s.secyCount p 1)
    | some i =>
      if s.bit F.MSC_SA_STS_EXHAUSTED i || s.lastPn i < (s.reg .MSC_SA_PN i).toNat then (none, s.secyCount p 1)
      else
        let pn := (s.reg .MSC_SA_PN i).toNat
        let sci := (s.reg .MSC_SECY_SCI p).toNat
        let incl := s.effBit F.MSC_SECY_CFG_INCL_SCI p
        let conf := s.effBit F.MSC_SECY_CFG_CONF p
        let data := b.drop 12
        let tci := boolNat incl * 32 + (if conf then 12 else 0) + s.eff F.MSC_SECY_CFG_ENC_AN p
        let hd := b.take 12 ++ [0x88, 0xE5] ++ beBytes 1 tci ++ beBytes 1 (if data.length < 48 then data.length else 0) ++ beBytes 4 pn ++
          (if incl then beBytes 8 sci else [])
        let iv := s.saNonce i sci pn
        let ks := aesKeys (s.saKey i).key
        let out := if conf then
            let ct := gcmCrypt ks iv data
            hd ++ ct ++ gcmTag ks iv hd ct
          else hd ++ data ++ gcmTag ks iv (hd ++ data) []
        (some out, (s.usePn p i).secyCount p 0)

end Sys2Proof.Machine
end

