-- ==== Sys2Proof/Machine/Mac.lean ====
section
/-! DEFINITION. The MACs of the front and management ports (spec/03): receiving and transmitting frames, flow control,
timestamps (R63 to R69, R87 to R90, R111, R221, R251, R252, R272 to R274, R464). -/

namespace Sys2Proof.Machine

/-- The time of day at a port's timestamp point, with the external delay `dly` in 1/16 ns, in ns since 0 (R86, R87). -/
def State.portTime (s : State) (dly : Nat) : Nat :=
  ((((s.todUnits / 2 ^ 28 : Nat) : Int) + signedOf 16 dly) / 16).toNat

/-- The port takes received frames: UP, HELD or BINDOFF with EN in force (R464). -/
def State.portTakes (s : State) (p : Nat) : Bool :=
  (s.portState p == 2 || s.portState p == 3 || s.portState p == 4) && s.portEn p

/-- A pause or PFC timer is set, or released with quanta 0 (R66). -/
def State.setPause (s : State) (p c quanta : Nat) : State :=
  let q := s.port p
  s.setPort p { q with paused := if quanta = 0 then q.paused - (if bitOf q.paused c then 2 ^ c else 0) else q.paused ||| 2 ^ c }

/-- A received MAC control frame acts, or is dropped and counted (R65, R66). -/
def State.macControl (s : State) (p : Nat) (b : Bytes) : State :=
  let op := beAt b 14 2
  let fc := s.flowCtl p
  if op = 1 ∧ fc = 1 then (s.macCount p 5 1).setPause p 8 (beAt b 16 2)
  else if op = 0x0101 ∧ fc = 2 then
    (s.macCount p 5 1).each (onesOf 8 (beAt b 16 2)) (fun t c => t.setPause p c (beAt b (18 + 2 * c) 2))
  else s.macCount p 6 1

/-- The fault of R63 that a received frame has, as its MAC counter: the first of the list that applies; `len` counts through
the FCS. -/
def State.rxFault (s : State) (p : Nat) (frame : Bytes) (len : Nat) : Option Nat :=
  if len < 64 then some 3
  else if s.maxLen p < len then some 4
  else if fcsOf (frame.take (frame.length - 4)) ≠ frame.drop (frame.length - 4) then some 2
  else none

/-- Metadata of a frame that a fixed-logic parser hands on (Table 5-2). -/
def Pkt.md (p : Pkt) (tc : Nat) : Bytes :=
  overwrite (mdStart p.src p.pass p.bytes.length (min 256 p.bytes.length) 0 0 p.tsNs p.tsSec) 0x0F (beBytes 1 tc)

/-- A frame received on management port `m` goes to its destination (R111, Table 4-5). DESIGN CHOICE: MAC_MGT_PARSE.TC has no
effect toward a recirculation port, where the metadata starts with TC 0 (Table 5-2); and a frame for port 130 enters the crossbar
of die 0 as requester 12, since Table 10-1 has no input for it (log entry 61). -/
def State.mgtReceive (s : State) (m : Nat) (p : Pkt) (same : Bool) : State :=
  let rpl := s.fld F.MAC_MGT_PARSE_RPL m
  let tc := s.fld F.MAC_MGT_PARSE_TC m
  let dest := if s.curMode = 2 then 1 else s.fld F.MAC_MGT_PARSE_DEST m
  if dest = 1 then s.emit (.mgmtFrame m p.bytes)
  else if dest = 2 && s.domState rpl == 3 then s.enterStaging rpl { p with src := 144 + rpl, pass := 1 } same
  else
    let c := Copy.own .forward 130 tc p.bytes
    s.claim { ({ c with md := overwrite (p.md tc) 0x10 (beBytes 4 (2 ^ 20 + 130)), mode := s.curMode }).route 0 p.src
      (portQueue (localPort 130).2 tc) with req := 12, fifo := 0 }

/-- A frame that a port has taken without fault goes on: through the SecY, and to staging or the management parser. -/
def State.rxPass (s : State) (p : Nat) (b : Bytes) (bad : Bool) (arr : Nat) (same : Bool) : State :=
  let t := s.portTime (s.fld F.TIM_PORT_DLY_RX_DLY p)
  let pk : Pkt := ⟨0, p / 8, p, b, 0, t % 1000000000, t / 1000000000 % 65536, bad, 0, arr, 0, 0⟩
  if isMgt p then s.mgtReceive (p - 128) pk same
  else if bad || s.isYarn p then s.enterStaging (p / 8) pk same
  else
    let r := s.secyReceive p b
    match r.1 with
    | some x => r.2.enterStaging (p / 8) { pk with bytes := x } same
    | none => r.2

/-- The destination address of MAC control frames (PRESUMED: IEEE 802.3 Annex 31B). -/
def controlAddr : Bytes := [0x01, 0x80, 0xC2, 0x00, 0x00, 0x01]

/-- RX_FRAME: a frame is received on port `p`, destination address through FCS (R63, R464). A fault found before dispatch
drops it; found later it goes on marked (R105). -/
def execRxFrame (p : Fin 130) (frame : Bytes) (arr : Fin 3) (same : Bool) (s : State) : Res :=
  let s0 := s.begin
  if !s0.portTakes p.val then .next s0
  else
    let b := frame.take (frame.length - 4)
    let yarn := s0.isYarn p.val
    let ctl := beAt b 12 2 == 0x8808 && (!yarn || b.take 6 == controlAddr)
    let len := if ctl then frame.length else if yarn then frame.length - 20 else s0.secyLength p.val b frame.length
    let stomped := yarn && !ctl && bitOf (beAt b (b.length - 4) 1) 7
    let s1 := if stomped then s0.yrnCount (portDie p.val) 12 1 else s0
    match (s0.rxFault p.val frame len).orElse (fun _ => if stomped then some 2 else none) with
    | some i =>
      let s2 := s1.macCount p.val i 1
      if arr.val = 0 || isMgt p.val || ctl then .next s2
      else .next (s2.rxPass p.val (b.take (s0.maxLen p.val)) true arr.val same)
    | none =>
      let s2 := (s1.macCount p.val 0 1).macCount p.val 1 frame.length
      let s3 := if isMgt p.val then s2 else s2.gauge! (p.val / 8) 0x10 1 (some (p.val % 8))
      if ctl then .next (s3.macControl p.val b)
      else .next (s3.rxPass p.val b false arr.val same)

/-- PAUSE_TIMER_EXPIRE: a running timer reaches zero (R66). -/
def execPauseTimerExpire (p : Fin 130) (c : Fin 9) (s : State) : Res := .next (s.begin.setPause p.val c.val 0)

/-- XOFF_RESEND: half the quanta of a group's XOFF have elapsed while it is still in XOFF (R67). -/
def execXoffResend (p : Fin 130) (c : Fin 8) (s : State) : Res :=
  let s0 := s.begin
  .next (if s0.xoff.contains (p.val * 8 + c.val) && s0.groupTc p.val c.val == c.val
    then s0.sendCtrl p.val (s0.ctrlClass p.val c.val) true else s0)

/-- The pause frame, or PFC frame of priority `cls`, that a port sends: quanta 0 for an XON, a value that the spec does not
give for an XOFF, and a source address that it does not give (R65, R67; log entries 2 and 6). -/
def ctrlFrame (src : Nat) (cls : Nat) (quanta : Nat) : Bytes :=
  padTo 60 (controlAddr ++ beBytes 6 src ++ [0x88, 0x08] ++
    (if cls = 8 then [0, 1] ++ beBytes 2 quanta
     else [1, 1] ++ beBytes 2 (2 ^ cls) ++ ((List.range 8).flatMap (fun c => beBytes 2 (if c = cls then quanta else 0)))))

/-- A frame leaves the port: emitted with its FCS, and counted (Table 3-10, R64). -/
def State.macSent (s : State) (p : Nat) (b : Bytes) : State :=
  let f := b ++ fcsOf b
  let s1 := (((s.emit (.frame p f false)).macCount p 7 1).macCount p 8 f.length)
  if isMgt p then s1 else s1.gauge! (p / 8) 0x11 1 (some (p % 8))

/-- The next pause or PFC frame of a port leaves ahead of queued frames (R67). -/
def State.sendNextCtrl (s : State) (p cls : Nat) (off : Bool) (rest : List (Nat × Bool)) : State :=
  let q := if off then 1 + s.drawn.free.toNat % 65535 else 0
  let s1 := (s.setPort p { s.port p with ctrl := rest }).drawn
  ((if off then s1.drawn else s1).macCount p 9 1).macSent p (ctrlFrame (s.free.toNat % 2 ^ 48) cls q)

/-- The Yarn header of a copy (Table 11-1): fields that do not apply to its TYPE are 0 (R273). -/
def State.yarnHeader (s : State) (c : Copy) (h : YHdr) : Bytes :=
  let u := h.type = 0
  let hash := beAt c.md 0x22 2
  beBytes 1 (64 + h.type * 16 + c.tc) ++ beBytes 1 (c.colour * 64 + h.hops % 64) ++ beBytes 2 (h.src % 16384) ++
    beBytes 2 (if h.type = 2 then 0 else h.dst) ++ beBytes 1 (if u then h.port else 0) ++ beBytes 1 (if u then h.epoch else 0) ++
    beBytes 2 (if u then h.seq else 0) ++ beBytes 2 hash ++ c.xuser.getD (s.xuserOf c.md)

/-- A checksum at `cs` updated for bytes at `off` that change from `old` to `new` (R89); a result of 0 is sent as all ones
(PRESUMED: UDP). -/
def fixUdpSum (b : Bytes) (cs off : Nat) (old new : Bytes) : Bytes :=
  if b.length < cs + 2 then b
  else
    let at_ (x : Bytes) : Bytes := if (off + cs) % 2 = 1 then 0 :: x else x
    let sum := onesSum (beBytes 2 (65535 - beAt b cs 2) ++ beBytes 2 (65535 - onesSum (at_ old)) ++ beBytes 2 (onesSum (at_ new)))
    overwrite b cs (beBytes 2 (if 65535 - sum = 0 then 65535 else 65535 - sum))

/-- The one-step timestamp of a frame that leaves at `now` ns: the egress time, or the residence time added to
correctionField, with the checksum (R89, R147). DESIGN CHOICE: a write that would pass the end of the frame is cancelled by the
frame's end before the MAC's padding (log entry 61). -/
def oneStep (md : Bytes) (now : Nat) (b : Bytes) : Bytes :=
  let off := beAt md 0x60 2
  let cs := beAt md 0x62 2
  let put (new : Bytes) : Bytes :=
    if b.length < off + new.length then b
    else
      let b1 := overwrite b off new
      if cs = 0xFFFF then b1 else fixUdpSum b1 cs off (sliceZ b off new.length) new
  match beAt md 0x64 1 with
  | 1 => put (beBytes 6 (now / 1000000000) ++ beBytes 4 (now % 1000000000))
  | 2 =>
    let into := beAt md 0x0C 2 * 1000000000 + beAt md 8 4
    let stay := (now + 65536 * 1000000000 - into) % (65536 * 1000000000)
    put (beBytes 8 (beAt b off 8 + stay * 65536))
  | _ => b

/-- The two-step record of a frame: port, tag, time (R90, TYPE 6). -/
def State.twoStepRecord (s : State) (p : Nat) (md : Bytes) (now : Nat) : State :=
  let sec := now / 1000000000
  s.notify 6 (portDie p) p 0 (leBytes 4 (beAt md 0x66 2) ++ leBytes 4 (now % 1000000000) ++ leBytes 4 sec ++ leBytes 4 (sec / 2 ^ 32 % 65536))

/-- The first `n` bytes of a copy as the MAC takes them, all of them padded to the shortest frame: one-step stamp, Yarn
header and trailer; without FCS (R89, R64, R272). `err` is ERR of the trailer. -/
def State.txBytes (s : State) (p : Nat) (c : Copy) (n now : Nat) (err : Bool) : Bytes :=
  let b := oneStep c.md now c.bytes
  let b1 := if b.length ≤ n then padTo (max 60 b.length) b else b.take n
  if s.isYarn p then
    s.yarnHeader c (c.yarn.getD (s.localHdr 2 0)) ++ b1 ++ [if err then 0x80 else 0, 0, 0, 0]
  else b1

/-- The frame of a copy is ended by a stomp: its bytes, and the inverse of their CRC (R252). -/
def State.macStomp (s : State) (p : Nat) (b : Bytes) : State :=
  (s.emit (.frame p (b ++ (fcsOf b).map (fun x => ~~~ x)) true)).macCount p 10 1

/-- A stored copy that is longer than MAXLEN allows with its FCS (R64). -/
def State.tooLong (s : State) (p : Nat) (c : Copy) : Bool := s.maxLen p < max 64 (c.bytes.length + 4)

/-- A copy that is cut through whose next cell is not there when it is due (R251). -/
def Copy.underrun (c : Copy) : Bool := c.cut && !c.done && c.cells.length * 256 < c.bytes.length

/-- How many bytes of a copy leave: all, or those before the cause of a stomp (R64, R251). -/
def State.dueBytes (s : State) (p : Nat) (c : Copy) : Nat :=
  if s.tooLong p c then s.maxLen p - 4 else if c.underrun then c.cells.length * 256 else c.bytes.length

/-- A stored copy that is dropped whole, since the reason is known before its first byte leaves (R64, R247). -/
def State.unsent (s : State) (p : Nat) (c : Copy) : Bool := !c.cut && (c.poison || s.tooLong p c)

/-- The first `n` bytes of a frame of `len` bytes that leaves as `x`: where MACsec has protected it, what it puts ahead of
them, and not its ICV (R252, R434). -/
def firstSent (x : Bytes) (len n : Nat) : Bytes :=
  x.take (if x.length ≤ len then n else n + (x.length - len - 16))

/-- The MAC sends the first `n` bytes of a copy, and ends the frame with its FCS or with a stomp (R89, R90, R252, R434). -/
def State.sendCopy (s : State) (p : Nat) (c : Copy) (n : Nat) (stomp : Bool) : State :=
  let now := s.portTime (s.fld F.TIM_PORT_DLY_TX_DLY p)
  let b := s.txBytes p c (if s.isYarn p then n else c.bytes.length) now stomp
  let r := if s.isYarn p then (some b, s) else s.secySend p b
  match r.1 with
  | none => r.2
  | some y =>
    let x := if s.isYarn p || c.bytes.length ≤ n then y else firstSent y b.length n
    let t := if stomp then r.2.macStomp p x else r.2.macSent p x
    let h := c.yarn.getD (s.localHdr 2 0)
    let u := if s.isYarn p then t.yrnCount (portDie p) h.type 1 else t
    if c.twoStep then u.twoStepRecord p c.md now else u

/-- A copy of the port is transmitted, or dropped before its first byte leaves (R64, R247, R251). An error of an on-chip cell
is found when the cell is read: whether the first byte of a stored copy has left by then, and how many have, are free values
(log entry 36). -/
def State.transmit (s : State) (p id : Nat) (c : Copy) : State :=
  if !c.cut && c.late && !s.tooLong p c && s.free.toNat % 2 = 1 then
    (s.drawn.drawn.sendCopy p c (1 + s.drawn.free.toNat % max 1 c.bytes.length) true).release id c
  else if s.unsent p c then (if c.poison then s.sknCount c.die 2 1 else s.macCount p 11 1).release id c
  else
    let s1 := if c.underrun then s.sknCount c.die 4 1 else s
    (s1.sendCopy p c (s.dueBytes p c) (s.tooLong p c || c.underrun || c.poison || c.bad)).release id c

/-- A frame in transmission when its port enters BINDOFF is ended at once with a stomp (R248 step 2). No state says how much
of a selected copy has left when an edge comes: whether it has begun, and how many of its bytes are gone, are free values
(log entry 36). -/
def State.endTransmission (s : State) (p : Nat) : State :=
  if s.portState p = 2 then
    match (SMap.get (fun _ => []) s.txq p).head? with
    | none => s
    | some id =>
      match s.copy id with
      | none => s
      | some c =>
        let s1 := s.drawn.drawn
        if s.free.toNat % 2 = 1 && !s.unsent p c then s1.sendCopy p c (1 + s.drawn.free.toNat % max 1 (s.dueBytes p c)) true
        else s1
  else s

/-- FRAME_TRANSMIT: the port sends its next frame, a pause or PFC frame first (R64, R67). -/
def execFrameTransmit (p : Fin 130) (s : State) : Res :=
  let s0 := s.begin
  if s0.portState p.val ≠ 2 then .next s0
  else match (s0.port p.val).ctrl with
    | (cls, off) :: rest => .next (s0.sendNextCtrl p.val cls off rest)
    | [] =>
      match SMap.get (fun _ => []) s0.txq p.val with
      | [] => .next s0
      | id :: rest =>
        let s1 := { s0 with txq := SMap.set (fun _ => []) s0.txq p.val rest }
        match s1.copy id with
        | none => .next s1
        | some c => .next (s1.transmit p.val id c)

end Sys2Proof.Machine
end

