-- ==== Sys2Proof/Machine/LinkState.lean ====
section
/-! DEFINITION. The link state machine of the ports and bind-off (spec/03, R70 to R73; spec/09, R248). -/

namespace Sys2Proof.Machine

/-- The copies of a port that have been selected and not yet transmitted. -/
def State.selectedOf (s : State) (p : Nat) : List Nat :=
  SMap.keysWhere (fun (c : Option Copy) => match c with
    | some x => x.sel && x.port == p
    | none => false) s.copies

/-- The flush of a port: its queues, and the copies on their way from them to the port (R248 steps 2 to 4). -/
def State.flushPort (s : State) (p : Nat) : State :=
  let s1 := s.flushCopies (localPort p).1 (s.selectedOf p)
  let s2 := { s1 with txq := SMap.set (fun _ => []) s1.txq p [] }
  s2.each (s2.portQueues p) State.flushQueue

/-- A BRIDGE flush of a front port on both dies is to be queued at the next edge, where the port's die asks for it (R178). -/
def State.bindoffFlush (s : State) (p : Nat) : State :=
  if p < 128 && s.bit F.LKP_LEARN_CFG_BINDOFF_FLUSH (portDie p) then { s with flushPorts := s.flushPorts ++ [p] } else s

/-- Port `p` enters BINDOFF: the hold count is loaded, a frame in transmission is ended, and the flush begins (R71, R72,
R248). -/
def State.enterBindoff (s : State) (p : Nat) (marked : Bool) : State :=
  let s0 := s.endTransmission p
  let s1 := (s0.setFld F.MAC_PORT_STS_STATE p 3).setFld F.MAC_PORT_STS_HOLD_LEFT p (s.fld F.MAC_PORT_LINK_PRT_HOLDDOWN p)
  let s2 := s1.setPort p { s1.port p with
    bindoff := false, marked := marked, flushing := true, flushed := false, finished := false, ctrl := [] }
  (s2.flushPort p).bindoffFlush p

/-- The port leaves BINDOFF or another state for `st`. -/
def State.enterState (s : State) (p st : Nat) : State :=
  let s1 := s.setFld F.MAC_PORT_STS_STATE p st
  s1.setPort p { s1.port p with bindoff := false, marked := false, flushing := false, flushed := false, finished := false }

/-- UP_DEB and DOWN_DEB: 0 is handled as 1. -/
def State.upDeb (s : State) (p : Nat) : Nat := max 1 (s.fld F.MAC_PORT_LINK_UP_DEB p)
def State.downDeb (s : State) (p : Nat) : Nat := max 1 (s.fld F.MAC_PORT_LINK_DOWN_DEB p)

/-- The edge counts of a port: link faults of the ended tick, runs, and the hold count (R70, R72). -/
def State.edgeLink (s : State) (p : Nat) : State :=
  let q := s.port p
  let ok := !q.faultSeen && q.aligned
  let off := s.portState p = 0
  let s1 := s.setPort p { q with
    faultSeen := q.fault
    okRun := if ok && !off then q.okRun + 1 else 0
    faultRun := if q.faultSeen && !off then q.faultRun + 1 else 0
    finished := q.flushed }
  if s.portState p = 3 then
    s1.setFld F.MAC_PORT_STS_HOLD_LEFT p
      (if q.faultSeen then s1.fld F.MAC_PORT_LINK_PRT_HOLDDOWN p else if ok then s1.fld F.MAC_PORT_STS_HOLD_LEFT p - 1
       else s1.fld F.MAC_PORT_STS_HOLD_LEFT p)
  else s1

/-- The rows of Table 3-3 that have no command of their own, for a port at an edge; `en`: EN in force. -/
def State.portEval (s : State) (p : Nat) (en : Bool) : State :=
  let q := s.port p
  match s.portState p with
  | 0 => if en then s.enterState p 1 else s
  | 1 => if en then s.setPort p { q with bindoff := false } else s.enterState p 0
  | 2 =>
    if !en then s.enterBindoff p true
    else if s.downDeb p ≤ q.faultRun then s
    else if q.bindoff then s.enterBindoff p false else s
  | 4 => if !en then s.enterBindoff p true else if q.bindoff then s.enterBindoff p false else if q.okRun ≠ 0 then s.enterState p 2 else s
  | 3 =>
    if q.marked then (if q.finished then s.enterState p 0 else s)
    else if !en then s.setPort p { q with marked := true } else s
  | _ => s

/-- The lane rates of a port follow its configuration in force (Table 3-9). -/
def State.laneRates (s : State) (p : Nat) : State :=
  let lanes := if isMgt p then [p] else (portSlots p (s.fld F.MAC_PORT_CFG_WIDTH p)).map (p / 8 * 8 + ·)
  let rate := if s.bit F.MAC_PORT_CFG_EN p
    then (portRate (s.fld F.MAC_PORT_CFG_SPEED p) (s.fld F.MAC_PORT_CFG_WIDTH p) (s.fld F.MAC_PORT_CFG_FEC p)).getD 0 else 0
  s.each lanes (fun t l => t.setFld F.SDS_LANE_STS_RATE l rate)

/-- The ports whose registers or state are not those of reset. -/
def State.knownPorts (s : State) : List Nat :=
  let r := s.regs.filterMap (fun e =>
    if e.1 % 256 = Reg.MAC_PORT_CFG.code ∨ e.1 % 256 = Reg.MAC_PORT_STS.code then some (e.1 / 256) else none)
  (List.range 130).filter (fun p => r.contains p || (s.ports.any (fun e => e.1 == p)))

/-- The octet of a port is in service: a port of one in FENCE is bound off to end in DISABLED (Table 18-12). -/
def State.octetIn (s : State) (p : Nat) : Bool := 128 ≤ p || s.domState (16 + p / 8) != 4

/-- PORT_STATE_EVAL for every port (R71): the configuration that the edge brings into force is the one last written. Ports
that are not enabled free their lanes first. -/
def State.edgePorts (s : State) : State :=
  let ps := s.knownPorts
  let s1 := s.each ps (fun t p => (t.edgeLink p).portEval p (t.bit F.MAC_PORT_CFG_EN p && t.octetIn p))
  let en := ps.filter (fun p => s1.bit F.MAC_PORT_CFG_EN p)
  (s1.each (ps.filter (fun p => !s1.bit F.MAC_PORT_CFG_EN p)) State.laneRates).each en State.laneRates

/-- LINK_UP: TRAINING, and the link OK at UP_DEB consecutive edges (R71). -/
def execLinkUp (p : Fin 130) (s : State) : Res :=
  let s0 := s.begin
  .next (if s0.atEdge = true ∧ s0.portState p.val = 1 ∧ s0.portEn p.val = true ∧ s0.upDeb p.val ≤ (s0.port p.val).okRun then s0.enterState p.val 2 else s0)

/-- LINK_FAULT_DEBOUNCED: UP, and a link fault at DOWN_DEB consecutive edges: BINDOFF, or HELD while LINKFLUSH is 1 (R71). -/
def execLinkFaultDebounced (p : Fin 130) (s : State) : Res :=
  let s0 := s.begin
  if s0.atEdge = true ∧ s0.portState p.val = 2 ∧ s0.portEn p.val = true ∧ s0.downDeb p.val ≤ (s0.port p.val).faultRun then
    let s1 := (s0.setFld F.MAC_PORT_STS_LINK_DOWN p.val 1).fault 20 0 p.val
    .next (if s1.split 8 then s1.enterState p.val 4 else s1.enterBindoff p.val false)
  else .next s0

/-- BINDOFF_FLUSH_COMPLETE: no queue of the port holds a cell, a context or an outstanding access (R248 step 5). -/
def execBindoffFlushComplete (p : Fin 130) (s : State) : Res :=
  let s0 := s.begin
  .next (if (s0.port p.val).flushing && s0.flushEmpty p.val && (s0.selectedOf p.val).isEmpty
    then s0.setPort p.val { s0.port p.val with flushing := false, flushed := true } else s0)

/-- HOLDDOWN_EXPIRE: BINDOFF not marked, the flush finished and the hold count 0 (R71, R72). -/
def execHolddownExpire (p : Fin 130) (s : State) : Res :=
  let s0 := s.begin
  let q := s0.port p.val
  .next (if s0.atEdge = true ∧ s0.portState p.val = 3 ∧ q.marked = false ∧ q.finished = true ∧
      s0.fld F.MAC_PORT_STS_HOLD_LEFT p.val = 0
    then s0.enterState p.val (if q.okRun ≠ 0 then 2 else 1) else s0)

/-- Every queue of both dies is flushed under R248 steps 3 to 5 (R420). -/
def State.flushAll (s : State) : State :=
  let sel := SMap.keysWhere (fun (c : Option Copy) => match c with
    | some x => x.sel
    | none => false) s.copies
  let s1 := s.each sel (fun t id => match t.copy id with
    | some c => (t.sknCount c.die 9 (c.cells.filter (· < 16)).length).release id c
    | none => t)
  let keys : List Nat := s1.queues.map (fun e => e.1)
  ({ s1 with txq := [] }).each keys State.flushQueue

end Sys2Proof.Machine
end

