-- ==== Sys2Proof/Machine/Tick.lean ====
section
/-! DEFINITION. The row tick's period and alignment, the split of duties and host loss (spec/01, spec/02): R28 to R45. The
work of the tick edge itself is in `TickEdge`. -/

namespace Sys2Proof.Machine

/-- CLOCKS is a period the device takes: 600 to 4,800 in steps of 8 (R40, R41). -/
def goodPeriod (c : Nat) : Bool := 600 ≤ c && c ≤ 4800 && c % 8 == 0

/-- A write of TIK_PERIOD_NEXT: arms, replaces or cancels a period change, or is discarded with BADPER (R41, R43). -/
def State.writePeriodNext (s : State) (mask v : BitVec 64) : State :=
  let old := s.reg .TIK_PERIOD_NEXT 0
  if wfld old mask v 13 1 = 1 && !goodPeriod (wfld old mask v 0 13) then s.setFld F.TIK_SYNC_STS_BADPER 0 1
  else s.plainWrite .TIK_PERIOD_NEXT 0 mask v

/-- PERIOD_ARM (R41). -/
def execPeriodArm (a : Agent) (v : BitVec 32) (s : State) : Res :=
  .next (s.begin.writeBy a .TIK_PERIOD_NEXT 0 (fun t => t.writePeriodNext low32 (v.setWidth 64)))

/-- The armed period applies at this edge: the tick has just begun, and the change stood armed at the edge, with IMM or with
TIK_COUNT[31:0] equal to AT; a write in the clock of the edge is taken after it (R41 to R43). -/
def State.periodDue (s : State) : Bool :=
  s.atEdge && s.bit F.TIK_PERIOD_NEXT_ARM 0 && s.effBit F.TIK_PERIOD_NEXT_ARM 0 &&
    (s.effBit F.TIK_PERIOD_NEXT_IMM 0 || s.tikCount.toNat % 2 ^ 32 == s.eff F.TIK_PERIOD_AT_AT 0)

/-- ARM clears where a change has applied. -/
def State.disarmPeriod (s : State) : State :=
  let s1 := s.setFld F.TIK_PERIOD_NEXT_ARM 0 0
  { s1 with inForce := SMap.set Reg.resetAt s1.inForce (Reg.key .TIK_PERIOD_NEXT 0) (s1.reg .TIK_PERIOD_NEXT 0) }

/-- The length of a tick of period `clocks` corrected by `adj`, and what a step leaves for later edges: a step never makes a
tick shorter than 600 clocks (R45, Table 2-1). -/
def tickOf (clocks : Nat) (adj : Int) (step : Bool) : Nat × Int :=
  let want : Int := (clocks : Int) + adj
  if step && decide (want < 600) then (600, want - 600) else (want.toNat, 0)

/-- PERIOD_CHANGE_APPLY: the armed period applies from this edge, under the correction of the edge, and ARM clears
(R41, R45). -/
def execPeriodChangeApply (s : State) : Res :=
  let s0 := s.begin
  if s0.periodDue then
    let new := s0.eff F.TIK_PERIOD_NEXT_CLOCKS 0
    let l := tickOf new s0.tick.adjust s0.tick.stepped
    let s1 := (s0.setFld F.TIK_PERIOD_CLOCKS 0 new).disarmPeriod
    .next { s1 with tick := { s1.tick with len := l.1, remainder := l.2 } }
  else .next s0

/-- A write of TIK_SYNC: LOCKED is 0 in every role but that of a follower (Table 2-6). -/
def State.writeTikSync (s : State) (mask v : BitVec 64) : State :=
  let t := s.plainWrite .TIK_SYNC 0 mask v
  if t.fld F.TIK_SYNC_ROLE 0 = 2 then t else t.setFld F.TIK_SYNC_STS_LOCKED 0 0

/-- A sticky status bit of TIK_SYNC_STS is set: the bit, the interrupt source TICK and the TIK fault (R327, R379). -/
def State.syncStatus (s : State) (f : Fld) (src : Nat) : State := ((s.setFld f 0 1).interrupt 1).fault 1 src 1

/-- The role in force: 3 is handled as 0 (R44). -/
def State.tickRole (s : State) : Nat := if s.fld F.TIK_SYNC_ROLE 0 = 3 then 0 else s.fld F.TIK_SYNC_ROLE 0

/-- The follower's error, in core clocks: its own nearest edge minus the master's edge, which is the pulse's time plus
TIK_SYNC_DLY (R45). -/
def State.tickError (s : State) : Int :=
  let m : Int := (s.fld F.TIK_CLK_CLK 0 : Int) + signedOf 16 (s.fld F.TIK_SYNC_DLY_DLY 0)
  if 2 * m ≤ (s.tick.len : Int) then -m else (s.tick.len : Int) - m

/-- A follower takes a pulse (R45): its error is measured, holdover ends, and the next edge is to act on the error and, after
a 32-clock pulse at a count that is not aligned, to realign it. -/
def State.followPulse (s : State) (long : Bool) : State :=
  let err := s.tickError
  let s1 := (s.setFld F.TIK_SYNC_STS_ERR 0 (unsignedOf 16 err)).setFld F.TIK_SYNC_STS_HOLDOVER 0 0
  { s1 with tick := { s1.tick with
      pulse := some err, fixCount := s.tick.fixCount || (long && s.tikCount.toNat % 4096 != 0) } }

/-- The correction that an error asks of the edge, and whether it is a step (Table 2-1). -/
def State.correction (s : State) (err : Int) : Int × Bool :=
  let n := err.natAbs
  if n ≤ max (s.fld F.TIK_SYNC_LOCK_WIN 0) (s.fld F.TIK_SYNC_STEP_LIMIT 0) then
    let slew : Int := (min n (min 8 (s.fld F.TIK_SYNC_SLEW 0)) : Nat)
    (if 0 ≤ err then -slew else slew, false)
  else (-err, true)

/-- The status that an error leaves at the edge that acts on it (Tables 2-1 and 2-6): LOCK_LOST is set on leaving lock, and
between LOCK_WIN and STEP_LIMIT always. -/
def State.lockStatus (s : State) (err : Int) : State :=
  let n := err.natAbs
  if n ≤ s.fld F.TIK_SYNC_LOCK_WIN 0 then s.setFld F.TIK_SYNC_STS_LOCKED 0 1
  else
    let step := (s.correction err).2
    let s1 := (s.setFld F.TIK_SYNC_STS_LOCKED 0 0).when (!step || s.bit F.TIK_SYNC_STS_LOCKED 0)
      (fun u => u.syncStatus F.TIK_SYNC_STS_LOCK_LOST 0)
    s1.when step (fun u => u.syncStatus F.TIK_SYNC_STS_STEPPED 1)

/-- What a follower does with the last pulse at an edge: the status of Table 2-6 (R45). -/
def State.edgeFollow (s : State) : State :=
  if s.tickRole = 2 then
    let s1 := match s.tick.pulse with
      | some err => s.lockStatus err
      | none => s
    s1.when s.tick.fixCount (fun u => u.syncStatus F.TIK_SYNC_STS_COUNT_FIX 2)
  else s

/-- TICK_IN_PULSE: ignored in role 0, PEER on a master, measured by a follower (R44, R45). -/
def execTickInPulse (long : Bool) (s : State) : Res :=
  let s0 := s.begin
  .next (if s0.tickRole = 1 then s0.setFld F.TIK_SYNC_STS_PEER 0 1
    else if s0.tickRole = 2 then s0.followPulse long
    else s0)

/-- TICK_HOLDOVER: a follower without pulses free-runs (R45). -/
def execTickHoldover (s : State) : Res :=
  let s0 := s.begin
  if s0.tickRole = 2 then
    let t := ((s0.setFld F.TIK_SYNC_STS_HOLDOVER 0 1).setFld F.TIK_SYNC_STS_LOCKED 0 0).syncStatus
      F.TIK_SYNC_STS_LOCK_LOST 0
    .next { t with tick := { t.tick with pulse := none, remainder := 0 } }
  else .next s0

/-- The correction of the edge: what a follower's last pulse asks, else what a step has left; none in another role
(R44, R45). -/
def State.nextAdjust (s : State) : Int × Bool :=
  if s.tickRole = 2 then
    match s.tick.pulse with
    | some err => s.correction err
    | none => (s.tick.remainder, true)
  else (0, false)

/-- The length of the tick that begins, and what a step correction leaves for later edges (R45). -/
def State.nextTickLen (s : State) : Nat × Int := tickOf (s.fld F.TIK_PERIOD_CLOCKS 0) s.nextAdjust.1 s.nextAdjust.2

/-- TIK_COUNT at the next edge: one more, or realigned with the count carried into the upper bits (R40, R45). -/
def State.nextCount (s : State) : BitVec 64 :=
  if s.tickRole = 2 && s.tick.fixCount then BitVec.ofNat 64 ((s.tikCount.toNat / 4096 + 1) * 4096) else s.tikCount + 1

/-- TICK_OUT is driven: a master always, the other roles while OUT_EN is 1 (R44). -/
def State.tickOutDriven (s : State) : Bool := s.tickRole == 1 || s.bit F.TIK_SYNC_OUT_EN 0

/-- Item 1 of the edge: TIK_COUNT, TICK_OUT and the follower correction (R40, R44, R45). -/
def State.edgeCount (s : State) : State :=
  let a := s.nextAdjust
  let l := s.nextTickLen
  let s1 := (s.edgeFollow.setReg .TIK_COUNT 0 s.nextCount).setReg .TIK_CLK 0 0
  let s2 := { s1 with tick := { s1.tick with
    len := l.1, adjust := a.1, stepped := a.2, remainder := l.2, pulse := none, fixCount := false } }
  if s2.tickOutDriven then s2.emit (.tickOut (if s2.tikCount.toNat % 4096 = 0 then 32 else 8)) else s2

/-- Cause 1 of R33 is present: the link is out of DL_Active after it has reached it once. -/
def State.lossCause1 (s : State) : Bool := s.tick.linkSeen && !s.bit F.PCX_LINK_STS_DL_UP 0

/-- Cause 3 of R33 is present: the heartbeat count has reached HB_LIMIT, and nothing but a write to GLB_HEARTBEAT ends it
(R38). -/
def State.lossCause3 (s : State) : Bool := s.tick.beatLost

/-- GLB_HOSTLOSS.LIVE: some host-loss cause is present (R33). -/
def State.lossLive (s : State) : Bool := s.lossCause1 || s.tick.pf1Lost || s.lossCause3

/-- The device declares host loss with cause `c`: LOST is set, and CAUSE keeps the first cause since LOST was clear
(R33). -/
def State.hostLoss (s : State) (c : Nat) : State :=
  if s.bit F.GLB_HOSTLOSS_LOST 0 then s
  else (s.setFld F.GLB_HOSTLOSS_LOST 0 1).setFld F.GLB_HOSTLOSS_CAUSE 0 c

/-- The first cause present, in the order of their numbers. -/
def State.firstCause (s : State) : Nat := if s.lossCause1 then 1 else if s.tick.pf1Lost then 2 else 3

/-- A write to GLB_HEARTBEAT restarts the count and ends cause 3 (R38). -/
def State.writeHeartbeat (s : State) : State := { s with tick := { s.tick with beat := 0, beatLost := false } }

/-- HEARTBEAT_WRITE: the count restarts at 0, which ends cause 3 (R38). -/
def execHeartbeatWrite (a : Agent) (_v : BitVec 32) (s : State) : Res :=
  .next (s.begin.writeBy a .GLB_HEARTBEAT 0 (fun t => t.writeHeartbeat))

/-- HEARTBEAT_EXPIRED: the count has reached HB_LIMIT and host loss is declared with cause 3 (R38). -/
def execHeartbeatExpired (s : State) : Res :=
  .next (if s.begin.lossCause3 then s.begin.hostLoss 3 else s.begin)

/-- A write of GLB_HOSTLOSS: a changed HB_LIMIT restarts the count, a 1 in LOST clears it and its cause (R35, R38). -/
def State.writeHostLoss (s : State) (mask v : BitVec 64) : State :=
  let old := s.fld F.GLB_HOSTLOSS_HB_LIMIT 0
  let s1 := s.plainWrite .GLB_HOSTLOSS 0 mask v
  let s2 := if wbit mask v 24 then s1.setFld F.GLB_HOSTLOSS_CAUSE 0 0 else s1
  if s1.fld F.GLB_HOSTLOSS_HB_LIMIT 0 = old then s2 else { s2 with tick := { s2.tick with beat := 0 } }

/-- HOSTLOSS_LOST_CLEAR: LOST is written 1, with HB_LIMIT as it stands (R35). -/
def execHostlossLostClear (a : Agent) (s : State) : Res :=
  .next (s.begin.writeBy a .GLB_HOSTLOSS 0 (fun t => t.writeHostLoss low32 (t.reg .GLB_HOSTLOSS 0 ||| 0x1000000)))

/-- GLB_SPLIT_EFF of this edge (R34): LOST is set again while a cause is live (R35); then the split of duties that host
loss leaves. -/
def State.edgeSplit (s : State) : State :=
  let s1 := if s.lossLive && !s.bit F.GLB_HOSTLOSS_LOST 0 then s.hostLoss s.firstCause else s
  s1.setReg .GLB_SPLIT_EFF 0
    (if s1.bit F.GLB_HOSTLOSS_LOST 0 then s1.reg .GLB_SPLIT 0 &&& ~~~ s1.reg .GLB_SPLIT_LOSS 0 else s1.reg .GLB_SPLIT 0)

/-- The heartbeat count at an edge: held at 0 without a limit, and stopped at the limit, where cause 3 begins (R38). -/
def State.edgeBeat (s : State) : State :=
  let lim := s.fld F.GLB_HOSTLOSS_HB_LIMIT 0
  let n := if lim = 0 then 0 else min lim (s.tick.beat + 1)
  { s with tick := { s.tick with beat := n, beatLost := s.tick.beatLost || (lim != 0 && n == lim) } }

end Sys2Proof.Machine
end

