-- ==== Sys2Proof/Machine/Pcie.lean ====
section
/-! DEFINITION. The PCIe endpoint: link, resets, bus mastering, completions, MSI-X messages and link power (spec/13). The
places of bits within standard capabilities are those of PCI Express (PRESUMED, log entry 4). -/

namespace Sys2Proof.Machine

/-- Function `f` with the functions that a reset or FLR of it takes along: PF1 takes every VF (Table 13-8). -/
def fnGroup (f : Nat) : List Nat := if f = 1 then (List.range 63).map (· + 1) else [f]

/-- Configuration dwords that hold sticky bits and survive resets: Link Control 2 at 0x90, and the Advanced Error Reporting
structure at 0x100 (Table 13-8; which bits are sticky is PRESUMED from PCI Express). -/
def cfgSticky (dw : Nat) : Bool := dw == 0x24 || (0x40 ≤ dw && dw < 0x60)

/-- Sets bits in a function's configuration dword. -/
def State.cfgSet (s : State) (f dw bit : Nat) : State :=
  s.setCfg f dw (s.cfgWord f dw ||| BitVec.ofNat 32 (2 ^ bit))

/-- The header log of function `f`, at 0x11C, takes the header of a completion, which no command carries: free values (log
entry 65). -/
def State.headerLog (s : State) (f : Nat) : Nat → State
  | 0 => s
  | n + 1 => (s.drawn.setCfg f (0x47 + n) (s.free.setWidth 32)).headerLog f n

/-- Logs an uncorrectable error bit in the AER status of function `f`, at 0x104; an unmasked one that finds none logged is the
first error: its pointer, and with `header` its header log (R305, R325; the rule for the first is PRESUMED: PCI Express). -/
def State.aerUncor (s : State) (f bit : Nat) (header : Bool) : State :=
  let first := s.cfgWord f 0x41 &&& ~~~ s.cfgWord f 0x42 = 0 ∧ (s.cfgWord f 0x42).getLsbD bit = false
  let s1 := s.cfgSet f 0x41 bit
  if first then (s1.setCfg f 0x46 ((s1.cfgWord f 0x46 &&& ~~~ 31) ||| BitVec.ofNat 32 bit)).headerLog f (if header then 4 else 0)
  else s1

/-- Logs a correctable error bit in the AER status of function `f`, at 0x110 (R325). -/
def State.aerCor (s : State) (f bit : Nat) : State := s.cfgSet f 0x44 bit

/-- The configuration space of function `f` is reset, sticky bits excepted (Table 13-8). -/
def State.cfgReset (s : State) (f : Nat) : State :=
  { s with pcie := { s.pcie with cfg := s.pcie.cfg.filter (fun e => e.1 / 1024 != f || cfgSticky (e.1 % 1024)) } }

/-- The function that vector `k` belongs to, and its vector number there (R326). -/
def vectorOwner (k : Nat) : Nat × Nat :=
  if k < 64 then (0, k) else if k < 2112 then (1, k - 64) else (2 + (k - 2112) / 32, (k - 2112) % 32)

/-- The vectors of function `f` (Table 13-11). -/
def vectorsOf (f : Nat) : List Nat := (List.range 4096).filter (fun k => (vectorOwner k).1 == f)

/-- The MSI-X table entry of vector `k`. -/
def State.msixEnt (s : State) (k : Nat) : MsixEnt := SMap.get (fun _ => MsixEnt.reset) s.pcie.msix k

/-- The state with an MSI-X table entry changed. -/
def State.setMsix (s : State) (k : Nat) (e : MsixEnt) : State :=
  { s with pcie := { s.pcie with msix := SMap.set (fun _ => MsixEnt.reset) s.pcie.msix k e } }

/-- MSI-X table, PBA and PCX_IMOD of function `f` are reset (Table 13-8). -/
def State.msixReset (s : State) (f : Nat) : State :=
  s.each (vectorsOf f) (fun t k => (t.setMsix k MsixEnt.reset).setReg .PCX_IMOD k 0)

/-- MSI-X Enable and Function Mask of function `f`: Message Control bits 15 and 14 at 0x52 (PRESUMED: PCI Express). -/
def State.msixEnabled (s : State) (f : Nat) : Bool := bitOf (s.cfgWord f 0x14).toNat 31

/-- Function Mask. -/
def State.msixMasked (s : State) (f : Nat) : Bool := bitOf (s.cfgWord f 0x14).toNat 30

/-- Vector `k` can send its message now (R328). -/
def State.msixReady (s : State) (k : Nat) : Bool :=
  let f := (vectorOwner k).1
  s.bit F.PCX_IMOD_PEND k && s.fld F.PCX_IMOD_CNT k == 0 && !(s.msixEnt k).mask && !s.msixMasked f &&
    s.msixEnabled f && s.fnMayIssue f

/-- MSIX_SEND: a pending, unmasked vector with hold count 0 sends its message; PEND clears and CNT takes HOLD (R328). -/
def execMsixSend (k : Fin 4096) (s : State) : Res :=
  let s0 := s.begin
  .next (if s0.msixReady k.val then
      (((s0.sendTlp (.msix k.val (s0.msixEnt k.val).addr (s0.msixEnt k.val).data)).setFld F.PCX_IMOD_PEND k.val 0).setFld
        F.PCX_IMOD_CNT k.val (s0.fld F.PCX_IMOD_HOLD k.val)).bump .PCX_CNT 6 1
    else s0)

/-- The hold counts fall by one at the edge (R328): each listed vector's, since an unlisted one's is 0. -/
def State.edgeHold (s : State) : State :=
  s.each ((s.regs.map (·.1)).filter (fun k => k % 256 == Reg.code .PCX_IMOD))
    (fun t k => t.setFld F.PCX_IMOD_CNT (k / 256) (t.fld F.PCX_IMOD_CNT (k / 256) - 1))

/-- Cause 2 of R33 ends when Bus Master Enable of PF1 is 1 again and no FLR of PF1 is in progress. -/
def State.pf1Refresh (s : State) : State :=
  { s with tick := { s.tick with pf1Lost := s.tick.pf1Lost && !(s.busMaster 1 && !s.inFlr 1) } }

/-- Cause 2 of R33 arises: host loss is declared. -/
def State.pf1Loss (s : State) : State := { s.hostLoss 2 with tick := { s.tick with pf1Lost := true } }

/-- The completions of the reads that function `f` has outstanding will be accepted and discarded (R320). -/
def State.discardReads (s : State) (f : Nat) : State := s.dropOps (fun o => o.fn == f)

/-- A function stops as a reset of it begins: its rings are disabled and its reads' data discarded, and those of the functions
that the reset takes along (Table 13-8). -/
def State.fnStop (s : State) (f : Nat) : State := (fnGroup f).foldl (fun t g => (t.ringsOffOf g).discardReads g) s

/-- Bus mastering of function `f` stops: its rings are disabled, its reads' data discarded, and for PF1 host loss is
declared (R320, Table 13-8). -/
def State.busMasterStops (s : State) (f : Nat) : State :=
  let s1 := ((s.ringsOffOf f).discardReads f).ltrUpdate
  if f = 1 then s1.pf1Loss else s1

/-- BUS_MASTER_CLEAR: the Command register's Bus Master Enable goes from 1 to 0 (R320). -/
def execBusMasterClear (f : Fin 64) (s : State) : Res :=
  let s0 := s.begin
  .next (if s0.busMaster f.val then
      (s0.setCfg f.val 1 (s0.cfgWord f.val 1 &&& ~~~ 4)).busMasterStops f.val
    else s0)

/-- An FLR of function `f` starts: its busy bit, and its rings and reads as R319 says; PF1's takes every VF's, and is host
loss. One already in progress is left alone, and one of PF1 absorbs those of its VFs (R319, R322). -/
def State.flrStart (s : State) (f : Nat) : State :=
  if s.inFlr f then s
  else
    let s1 := s.fnStop f
    let s2 := if f = 1 then
        s1.setFld F.PCX_FLR_BUSY_BUSY 0 (s1.fld F.PCX_FLR_BUSY_BUSY 0 % 2 + 2)
      else s1.setFld F.PCX_FLR_BUSY_BUSY 0 (s1.fld F.PCX_FLR_BUSY_BUSY 0 + 2 ^ f)
    let s3 := s2.ltrUpdate
    if f = 1 then s3.pf1Loss else s3

/-- FLR_START (R319): a function that does not answer has none; a VF within PF1's own FLR has none either (R322). -/
def execFlrStart (f : Fin 64) (s : State) : Res :=
  let s0 := s.begin
  .next (if s0.fnExists f.val then s0.flrStart f.val else s0)

/-- The functions' state is reset as by FLR: configuration space, MSI-X (R319 step 4, Table 13-8). -/
def State.fnReset (s : State) (f : Nat) : State := (fnGroup f).foldl (fun t g => (t.cfgReset g).msixReset g) s

/-- FLR_COMPLETE: once no read of the function is outstanding, or at the limit of 90 ms, when those left are ended without
AER logging, its state resets, its busy bit clears and PCX_FLR counts (R319). -/
def execFlrComplete (f : Fin 64) (limit : Bool) (s : State) : Res :=
  let s0 := s.begin
  let mine (r : ReadRec) : Bool := (fnGroup f.val).contains r.fn && !r.ended
  .next (if s0.flrBusy f.val && (limit || !s0.pcie.reads.any mine) then
      let s1 := { s0 with pcie := { s0.pcie with reads := s0.pcie.reads.map (fun r => if mine r then { r with ended := true } else r) } }
      let s2 := s1.fnReset f.val
      let s3 := s2.setFld F.PCX_FLR_BUSY_BUSY 0 (s2.fld F.PCX_FLR_BUSY_BUSY 0 - 2 ^ f.val)
      (s3.bump .PCX_CNT 9 1).pf1Refresh
    else s0)

/-- A PF goes from D3hot to D0 and is reset as by its FLR (R321). -/
def State.leaveD3 (s : State) (f : Nat) : State := (((s.fnStop f).fnReset f).ltrUpdate).pf1Refresh

/-- A PF enters D3hot and is handled as with Bus Master Enable 0 (R321). -/
def State.enterD3 (s : State) (f : Nat) : State :=
  let s1 := s.setCfg f 0x11 (s.cfgWord f 0x11 ||| 3)
  if s.busMaster f then s1.busMasterStops f else s1.ringsOffOf f

/-- D3HOT_TRANSITION: a function in D3hot is handled as with Bus Master Enable 0; the way back to D0 resets it as its FLR
does (R321). -/
def execD3hotTransition (f : Fin 64) (enter : Bool) (s : State) : Res :=
  let s0 := s.begin
  if 2 ≤ f.val then .next s0
  else if enter then .next (if s0.inD3 f.val then s0 else s0.enterD3 f.val)
  else .next (if s0.inD3 f.val then s0.leaveD3 f.val else s0)

/-- The functions of VFs. -/
def vfFns : List Nat := (List.range 62).map (· + 2)

/-- VF Enable is cleared: an FLR of every VF that answered, `live`, starts at once, one in progress among them absorbed; once
it completes, the VF answers no more. An FLR of PF1 in progress takes them already (R307, R319, R322). -/
def State.vfsOff (s : State) (live : List Nat) : State :=
  let s1 := s.setCfg 1 0xC2 (s.cfgWord 1 0xC2 &&& ~~~ 1)
  if s.flrBusy 1 then s1
  else
    let s2 := vfFns.foldl (fun t g => (t.ringsOffOf g).discardReads g) s1
    (s2.setFld F.PCX_FLR_BUSY_BUSY 0 (s2.fld F.PCX_FLR_BUSY_BUSY 0 ||| (live.map (2 ^ ·)).sum)).ltrUpdate

/-- VF_ENABLE_WRITE (R307). -/
def execVfEnableWrite (on : Bool) (s : State) : Res :=
  let s0 := s.begin
  .next (if on then s0.setCfg 1 0xC2 (s0.cfgWord 1 0xC2 ||| 1)
    else if s0.vfEnable then s0.vfsOff (vfFns.filter s0.fnExists) else s0)

/-- The registers that an event of R318 resets: PCX and DMA, but for the counters (Table 13-8). -/
def hostFacing : List Reg :=
  [.PCX_LINK_STS, .PCX_LPM, .PCX_LTR, .PCX_STS, .PCX_FLR_BUSY, .PCX_FUNC_RINGS, .PCX_ISRC, .PCX_IMOD, .DMA_SQ_BASE, .DMA_SQ_CFG,
   .DMA_SQ_IDX, .DMA_SQ_STS, .DMA_CQ_BASE, .DMA_CQ_CFG, .DMA_CQ_IDX, .DMA_CQ_STS, .DMA_CFG, .DMA_RX_SEL, .DMA_NTF_MAP]

/-- The registers of a list take their reset values: their entries leave the map. -/
def State.resetRegs (s : State) (l : List Reg) : State :=
  { s with regs := s.regs.filter (fun e => !(l.map Reg.code).contains (e.1 % 256)) }

/-- Host-facing state resets: rings disabled with ERR HOST, reads ended, configuration spaces, MSI-X, and the other PCX and
DMA registers (R318, R322, R356, Table 13-8). -/
def State.hostFacingReset (s : State) : State :=
  let sqOn := (List.range 4096).filter (fun g => s.bit F.DMA_SQ_STS_ENABLED g)
  let cqOn := (List.range 4096).filter (fun g => s.bit F.DMA_CQ_STS_ENABLED g)
  let s0 := (s.each sqOn (fun t g => (t.chartCut g true).abandonFrames g)).dropOps (fun _ => true)
  let s1 := (s0.bump .DMA_CNT 12 (sqOn.length + cqOn.length)).resetRegs hostFacing
  let s2 := { s1 with
    pcie := { s1.pcie with cfg := s1.pcie.cfg.filter (fun e => cfgSticky (e.1 % 1024)), msix := [], reads := [], ltrSent := none, l0pTicks := 0 }
    dma := ⟨[], [], 0, 0, [], []⟩
    bus := ⟨s1.bus.holds.filter (fun e => 64 ≤ e.1), s1.bus.shadows.filter (fun e => 64 ≤ e.1)⟩ }
  let s3 := s2.each sqOn (fun t g => t.setFld F.DMA_SQ_STS_ERR g 8)
  s3.each cqOn (fun t g => t.setFld F.DMA_CQ_STS_ERR g 8)

/-- The link leaves DL_Active, where it was in it: counted, a fault, and host loss with cause 1 (R33, R318). -/
def State.leaveDlActive (s : State) : State :=
  let up := s.bit F.PCX_LINK_STS_DL_UP 0
  let s1 := s.hostFacingReset
  if up then
    (((s1.bump .PCX_CNT 10 1).fault 4 4 0 0)).when s1.tick.linkSeen (fun t => t.hostLoss 1)
  else s1

/-- LINK_DOWN: by hot reset, Link Disable or loss (R318, R323). -/
def execLinkDown (_cause : LinkDownCause) (s : State) : Res := .next s.begin.leaveDlActive

/-- PERST_N_ASSERT (R318). -/
def execPerstNAssert (s : State) : Res := .next s.begin.leaveDlActive

/-- PCIE_LINK_UP: the link reaches DL_Active at a speed and width; below what it last reached is LINK_DEGRADED (R305, R309,
Table 16-3). -/
def execPcieLinkUp (speed : Fin 6) (log2w : Fin 5) (flit : Bool) (s : State) : Res :=
  let s0 := s.begin
  if s0.bit F.PCX_LINK_STS_DL_UP 0 then .next s0
  else
    let w := 2 ^ log2w.val
    let fl := flit || speed.val == 5
    let sts := (speed.val + 1) + w * 8 + boolNat fl * 256 + 512 + w * 1024
    let s1 := s0.setReg .PCX_LINK_STS 0 (BitVec.ofNat 64 sts)
    let s2 := { s1 with
      tick := { s1.tick with linkSeen := true }
      pcie := { s1.pcie with lastSpeed := speed.val + 1, lastWidth := w } }
    .next (if speed.val + 1 < s0.pcie.lastSpeed ∨ w < s0.pcie.lastWidth then s2.fault 4 5 0 0 else s2)

/-- Completion Timeout Disable of function `f`, a VF's being PF1's: Device Control 2 bit 4 at 0x88 (PRESUMED: PCI Express). -/
def State.ctoDisabled (s : State) (f : Nat) : Bool := bitOf (s.cfgWord (min f 1) 0x22).toNat 4

/-- The read outstanding, or held, under a tag. -/
def State.readOf (s : State) (tag : Nat) : Option ReadRec := s.pcie.reads.find? (fun r => r.tag == tag)

/-- The state without the read of a tag: the tag is free. -/
def State.freeRead (s : State) (tag : Nat) : State :=
  { s with pcie := { s.pcie with reads := removeFirst (fun r => r.tag == tag) s.pcie.reads } }

/-- The state with the read of a tag replaced. -/
def State.setRead (s : State) (tag : Nat) (n : ReadRec) : State :=
  { s with pcie := { s.pcie with reads := s.pcie.reads.map (fun r => if r.tag = tag then n else r) } }

/-- The AER bit that a completion's status logs (PRESUMED: PCI Express): 20 Unsupported Request, 15 Completer Abort, 12
Poisoned TLP. -/
def cplAerBit : CplStatus → Nat
  | .ok => 0
  | .unsupported => 20
  | .abort => 15
  | .poisoned => 12

/-- The ASPM Control of PF0 enables L1: Link Control bit 1 at 0x70 (PRESUMED: PCI Express). -/
def State.aspmL1 (s : State) : Bool := bitOf (s.cfgWord 0 0x1C).toNat 1

/-- No read is outstanding, no enabled ring has a fetch pending and no MSI-X message is due (R315). -/
def State.linkIdle (s : State) : Bool :=
  !s.pcie.reads.any (fun r => !r.ended) && s.pcie.ops.isEmpty &&
    !(List.range 4096).any (fun g => s.bit F.DMA_SQ_STS_ENABLED g && s.fld F.DMA_SQ_STS_FETCH g != s.fld F.DMA_SQ_STS_TAIL g) &&
    !(List.range 4096).any s.msixReady

/-- The nanoseconds of an LTR value with its scale: value × 32^scale (PRESUMED: PCI Express). -/
def ltrNs (v scale : Nat) : Nat := v * 32 ^ scale

/-- The latency tolerance meets the LTR L1.2 threshold of L1 PM Substates Control 1 at 0x2D8 (PRESUMED: PCI Express). -/
def State.ltrAllowsL12 (s : State) : Bool :=
  let c := (s.cfgWord 0 0xB6).toNat
  ltrNs (bitsOf c 16 10) (bitsOf c 29 3) ≤ ltrNs (bitsOf s.ltrValue 0 10) (bitsOf s.ltrValue 10 3)

/-- The link goes to L1 by PCI-PM: both PFs are in D3hot (PRESUMED: PCI Express). -/
def State.pciPm (s : State) : Bool := s.inD3 0 && s.inD3 1

/-- The link state that L1 entry reaches: L1.2, L1.1 or L1.0 by the L1 PM Substates Control of PF0: bits 0 and 1 by PCI-PM,
bits 2 and 3 by ASPM, where L1.2 needs the LTR threshold; L1.0 while the link partner holds CLKREQ# asserted (R316; the
enables' places and the rules for CLKREQ# are PRESUMED from PCI Express). -/
def State.l1State (s : State) : Nat :=
  let c := (s.cfgWord 0 0xB6).toNat
  let by12 := if s.pciPm then bitOf c 0 else bitOf c 2 && s.ltrAllowsL12
  let by11 := if s.pciPm then bitOf c 1 else bitOf c 3
  if s.pcie.clkreq then 1 else if by12 then 3 else if by11 then 2 else 1

/-- L1_ENTRY: after L1_IDLE of idleness, or at once in HIBERNATE, while PF0's ASPM Control enables L1, or by PCI-PM
(R315, R316). -/
def execL1Entry (s : State) : Res :=
  let s0 := s.begin
  .next (if s0.bit F.PCX_LINK_STS_DL_UP 0 && s0.fld F.PCX_LINK_STS_PM 0 == 0 && (s0.aspmL1 || s0.pciPm) && s0.linkIdle then
      (s0.setFld F.PCX_LINK_STS_PM 0 s0.l1State).bump .PCX_CNT 7 1
    else s0)

/-- The device drives PCIE_CLKREQ_N low: outside the L1 substates it asks for the reference clock (R305, R316). -/
def State.clkreqLow (s : State) : Bool := s.fld F.PCX_LINK_STS_PM 0 < 2

/-- L1_EXIT: the link partner leaves L1 (R315). -/
def execL1Exit (s : State) : Res := .next (s.begin.setFld F.PCX_LINK_STS_PM 0 0)

/-- L0p Enable of PF0: Device Control 3 bit 3 at 0x2B8 (PRESUMED: PCI Express). -/
def State.l0pEnabled (s : State) : Bool :=
  bitOf (s.cfgWord 0 0xAE).toNat 3 && s.bit F.PCX_LINK_STS_FLIT 0 && s.fld F.PCX_LINK_STS_WIDTH 0 == 16 &&
    s.bit F.PCX_LPM_L0P_EN 0

/-- The narrowest width L0p goes to: x4, x8 or x16 (PCX_LPM.L0P_MIN). -/
def State.l0pMin (s : State) : Nat := 4 * 2 ^ min 2 (s.fld F.PCX_LPM_L0P_MIN 0)

/-- A width change under L0p is made and counted (R317). -/
def State.l0pSet (s : State) (w : Nat) : State := (s.setFld F.PCX_LINK_STS_L0P_WIDTH 0 w).bump .PCX_CNT 8 1

/-- At the edge the window in progress is a tick longer; there is none while L0p is not in use (R317). -/
def State.edgeL0p (s : State) : State :=
  { s with pcie := { s.pcie with l0pTicks := if s.l0pEnabled then s.pcie.l0pTicks + 1 else 0 } }

/-- A window of L0P_WIN ticks, at least 1, has passed (R317). -/
def State.l0pOver (s : State) : Bool := s.l0pEnabled && max 1 (s.fld F.PCX_LPM_L0P_WIN 0) ≤ s.pcie.l0pTicks

/-- L0P_WINDOW: a window ends; at its utilisation `u` the width halves or doubles (R317). -/
def execL0pWindow (u : Fin 101) (s : State) : Res :=
  let s0 := s.begin
  let w := s0.fld F.PCX_LINK_STS_L0P_WIDTH 0
  let s1 := { s0 with pcie := { s0.pcie with l0pTicks := 0 } }
  .next (if !s0.l0pOver then s0
    else if u.val < s0.fld F.PCX_LPM_L0P_LO 0 ∧ s0.l0pMin < w then s1.l0pSet (w / 2)
    else if s0.fld F.PCX_LPM_L0P_HI 0 < u.val ∧ w < 16 then s1.l0pSet (w * 2)
    else s1)

/-- L0P_PARTNER_REQUEST: a width request of the link partner is accepted (R317). -/
def execL0pPartnerRequest (log2w : Fin 3) (s : State) : Res :=
  let s0 := s.begin
  let w := 4 * 2 ^ log2w.val
  .next (if s0.bit F.PCX_LINK_STS_DL_UP 0 && s0.bit F.PCX_LINK_STS_FLIT 0 && s0.fld F.PCX_LINK_STS_L0P_WIDTH 0 != w
    then s0.l0pSet w else s0)

end Sys2Proof.Machine
end

