-- ==== Sys2Proof/Machine/Power.lean ====
section
/-! DEFINITION. Modes, power domains, the power cap and the throttle levels (spec/01, R25 to R31; spec/18, R418 to
R430). -/

namespace Sys2Proof.Machine

/-- A TYPE 4 journal record: kind, domain, old and new level or state (Table 18-14). -/
def State.jrnPower (s : State) (kind dom old new : Nat) : State :=
  s.journalNow 4 0 (leBytes 1 kind ++ leBytes 1 dom ++ leBytes 1 old ++ leBytes 1 new ++
    leBytes 2 (s.fld F.PWR_CAP_STS_PWR 0) ++ leBytes 1 (s.fld F.PWR_TEMP_TJ 0))

/-- CAP_SP of every controller that runs, at a throttle level (R301, Table 18-13). -/
def State.capStacks (s : State) (level : Nat) : State :=
  s.each ((s.dieStacks 0 ++ s.dieStacks 1).filter s.hbcOn) (fun t h => t.setFld F.HBC_SPD_CFG2_CAP_SP h (min 2 level))

/-- The throttle level in force becomes `new`, with a journal record where it changes, and its effect on the stacks' ceiling
(R428, R430, Table 18-13). -/
def State.applyLevel (s : State) (new : Nat) : State :=
  let old := s.fld F.PWR_CAP_STS_LEVEL 0
  if new = old then s.capStacks new else ((s.setFld F.PWR_CAP_STS_LEVEL 0 new).jrnPower 0 0 old new).capStacks new

/-- The floor of the throttle level: ECO_LVL in ECONOMY (R428). -/
def State.capFloor (s : State) : Nat := if s.curMode = 6 then min 4 (s.fld F.PWR_CAP_ECO_LVL 0) else 0

/-- The throttle level that a level `n` stands for in the present mode: 0 outside modes 4 to 8, at least the floor within them
(R428). -/
def State.levelIn (s : State) (n : Nat) : Nat := if 4 ≤ s.curMode && s.curMode ≤ 8 then max s.capFloor n else 0

/-- GLB_MODE.CUR takes mode `m`: PREV, SEQ and REASON with it, a TYPE 3 journal record, and the throttle level of the mode (R30,
R428, R430). -/
def State.setMode (s : State) (m reason tag : Nat) : State :=
  let old := s.curMode
  let s1 := (((s.setFld F.GLB_MODE_CUR 0 m).setFld F.GLB_MODE_PREV 0 old).setFld F.GLB_MODE_SEQ 0
    (s.fld F.GLB_MODE_SEQ 0 + 1)).setFld F.GLB_MODE_REASON 0 reason
  let s2 := s1.journalNow 3 0 (leBytes 1 old ++ leBytes 1 m ++ leBytes 1 reason ++ leBytes 1 (s1.fld F.GLB_MODE_SEQ 0) ++ leBytes 1 tag)
  s2.applyLevel (s2.levelIn (s2.fld F.PWR_CAP_STS_LEVEL 0))

/-- The counts of a transition start again. -/
def State.freshTransition (s : State) : State :=
  { s with pwr := { s.pwr with edges := 0, drain := 0, flushed := false, hib := false } }

/-- A request is refused: REJECT, its cause and its tag, and the mode interrupt (R28, R29). -/
def State.rejectMode (s : State) (cause tag : Nat) : State :=
  (((s.setFld F.GLB_MODE_STS_REJECT 0 1).setFld F.GLB_MODE_STS_REJ_CAUSE 0 cause).setFld F.GLB_MODE_STS_TAG 0 tag).interrupt 0

/-- The device changes mode by itself (R27, R31): a pending request ends as refused with cause 2; READY with REASON 0x06
flushes every queue (R421). -/
def State.autoMode (s : State) (m reason : Nat) : State :=
  let s1 := match s.mode with
    | some r => { (s.rejectMode 2 r.tag).setFld F.GLB_MODE_BUSY 0 0 with mode := none }
    | none => s
  let s2 := (((s1.setMode m reason 0).setFld F.GLB_MODE_TARGET 0 m).setFld F.GLB_MODE_STS_AUTO 0 1).interrupt 0
  s2.freshTransition.when (reason == 6) State.flushAll

/-- Some domain is REMOVED. -/
def State.anyRemoved (s : State) : Bool := (List.range 64).any (fun d => s.domState d == 6)

/-- A transition that Table 18-8 allows. -/
def State.modeAllowed (s : State) (m : Nat) : Bool :=
  let fwd (x : Nat) : Bool := 4 ≤ x && x ≤ 8
  match s.curMode with
  | 3 => (m == 4 && !s.anyRemoved) || [2, 5, 6, 8, 9, 10, 11].contains m
  | 2 => m == 3 && s.fld F.GLB_MODE_REASON 0 ≤ 1
  | 9 | 10 | 11 => m == 3
  | c => fwd c && (m == 3 || (fwd m && m != c && (m != 4 || !s.anyRemoved)))

/-- Why a mode request is refused, 0 for none: the lowest cause of Table 1-6. Table 18-8 holds no transition from a mode to
itself, so that the present mode is refused with cause 4 before cause 5 (R29, R419). -/
def State.modeRefusal (s : State) (conflict : Bool) (m : Nat) : Nat :=
  if conflict then 1
  else if s.bit F.GLB_MODE_BUSY 0 then 2
  else if m ≤ 1 || 12 ≤ m || (m == 10 && s.fld F.SEC_DBG_STS_LEVEL 0 != 2) then 3
  else if !s.modeAllowed m then 4
  else if m == s.curMode then 5 else 0

/-- The agent is a management core. -/
def isMc : Agent → Bool
  | .mc _ => true
  | _ => false

/-- A write of GLB_MODE_REQ: MODE and TAG are stored, and GO submits a request, accepted or refused at once (R28, R29). -/
def State.writeModeReq (s : State) (a : Agent) (conflict : Bool) (mask v : BitVec 64) : State :=
  let s1 := s.plainWrite .GLB_MODE_REQ 0 mask v
  if !wbit mask v 31 then s1
  else
    let m := s1.fld F.GLB_MODE_REQ_MODE 0
    let tag := s1.fld F.GLB_MODE_REQ_TAG 0
    let c := s1.modeRefusal conflict m
    if c ≠ 0 then s1.rejectMode c tag
    else { ((s1.setFld F.GLB_MODE_TARGET 0 m).setFld F.GLB_MODE_BUSY 0 1).freshTransition with mode := some ⟨isMc a, tag⟩ }

/-- MODE_REQUEST (R28, R29); `conflict`: a request of an agent taken first was submitted in the same clock. -/
def execModeRequest (a : Agent) (conflict : Bool) (v : BitVec 32) (s : State) : Res :=
  .next (s.begin.writeBy a .GLB_MODE_REQ 0 (fun t => t.writeModeReq a conflict low32 ((v ||| 0x80000000).setWidth 64)))

/-- REASON of a requested change: 0 from PF0 or JT, 1 from MC (R30). -/
def State.reqReason (s : State) : Nat := boolNat (s.mode.elim false (fun r => r.byMc))

/-- TAG of the pending request. -/
def State.reqTag (s : State) : Nat := s.mode.elim 0 (fun r => r.tag)

/-- The mode whose domain targets hold: that of a pending transition, for HIBERNATE only once its stacks are in
self-refresh (R419, R422). -/
def State.targetMode (s : State) : Nat :=
  if s.bit F.GLB_MODE_BUSY 0 && (s.fld F.GLB_MODE_TARGET 0 != 11 || s.pwr.hib) then s.fld F.GLB_MODE_TARGET 0 else s.curMode

/-- The domains that a domain needs (Table 18-11). -/
def domNeeds (d : Nat) : List Nat :=
  if d < 16 then [44 + 2 * (d / 8), 50, 51, 58, 59]
  else if d < 32 then [d - 16, 60 + (d - 16) / 8]
  else if d = 45 || [32, 33, 48, 52, 54].contains d then [44]
  else if d = 47 || [34, 35, 49, 53, 55].contains d then [46]
  else []

/-- The domains that need a domain. -/
def domNeededBy (d : Nat) : List Nat := (List.range 56).filter (fun e => (domNeeds e).contains d)

/-- A domain is absent from the part (R408). -/
def State.domAbsent (s : State) (d : Nat) : Bool := (absentDomains s.part).contains d

/-- PWR_SEL selects a domain in mode `m`, PWR_ECO_OFF aside outside ECONOMY; a domain that one in service or selected
needs counts as selected (R418, R424). -/
def State.domSelected (s : State) (m : Nat) : Nat → Nat → Bool
  | 0, d => bitOf (s.eff F.PWR_SEL_DOM 0) d && (m != 6 || !bitOf (s.eff F.PWR_ECO_OFF_DOM 0) d)
  | n + 1, d => s.domSelected m 0 d ||
    (domNeededBy d).any (fun e => !s.domAbsent e && (s.domState e == 3 || s.domSelected m n e))

/-- The target state of a domain in mode `m`: 3 ON, 0 OFF, 5 RET (Table 18-7). -/
def State.domTargetIn (s : State) (m d : Nat) : Nat :=
  if m = 0 then 0
  else if d = 62 || d = 56 then 3
  else if d = 63 then (if m = 2 then 0 else 3)
  else if m = 2 then 0
  else if 57 ≤ d then (if m = 11 then 0 else 3)
  else if m = 11 then (if 16 ≤ d && d < 32 then 0 else 5)
  else if m = 5 || m = 6 then (if s.domSelected m 4 d then 3 else 0)
  else 3

/-- The target state of a domain now. -/
def State.domTarget (s : State) (d : Nat) : Nat := s.domTargetIn s.targetMode d

/-- The die that a domain counts with when STAGGER is applied (R424). -/
def domDie (d : Nat) : Nat :=
  if d < 16 then d / 8
  else if d < 32 then (d - 16) / 8
  else if d < 36 then (d - 32) / 2
  else if d < 44 then (d - 36) / 4
  else if d < 48 then (d - 44) / 2
  else if d < 56 then d % 2 else 0

/-- Instance `i` of a register has lost its supply: every domain that can hold it is OFF, in RAMP, REMOVED or ABSENT. -/
def State.supplyLost (s : State) (r : Reg) (i : Nat) : Bool :=
  !(r.domains i).isEmpty && (r.domains i).all (fun d => [0, 1, 6, 7].contains (s.domState d))

/-- A register key whose supply is lost. -/
def State.keyLost (s : State) (k : Nat) : Bool :=
  match Reg.all[k % 256]? with
  | some r => s.supplyLost r (k / 256)
  | none => false

/-- Registers without supply lose their contents (R425). -/
def State.dropRegs (s : State) : State :=
  let keep (k : Nat) : Bool := !s.keyLost k
  { s with
    regs := s.regs.filter (fun e => keep e.1)
    inForce := s.inForce.filter (fun e => keep e.1)
    gauge := { s.gauge with pend := s.gauge.pend.filter (fun e => keep e.1), held := s.gauge.held.filter keep } }

/-- The copies that pass `p` leave the chip as their cells are lost. -/
def State.loseCopies (s : State) (p : Copy → Bool) : State :=
  let ids := SMap.keysWhere (fun (c : Option Copy) => c.elim false p) s.copies
  s.each ids (fun t id => match t.copy id with
    | some c => t.release id c
    | none => t)

/-- Pipeline `n` loses its supply: needles, lookups, staged frames and the packets of its egress passes are gone. -/
def State.dropPipe (s : State) (n : Nat) : State :=
  let eg := (s.pipe n).egress ++ (s.pipe n).eg.filterMap (fun j => j.copy)
  let s1 := s.each eg (fun t id => match t.copy id with
    | some c => t.release id c
    | none => t)
  { s1 with
    pipes := SMap.drop s1.pipes n
    needles := s1.needles.filter (fun e => enginePipe (e.1 / 96) != n)
    lookups := s1.lookups.filter (fun e => e.2.elim true (fun lk => enginePipe (lk.needle / 96) != n))
    staged := s1.staged.filter (fun e => e.2.elim true (fun x => x.pipe != n))
    bfd := s1.bfd.filter (fun e => e.1 / 256 != n)
    lacp := s1.lacp.filter (fun e => e.1 / 8 != n) }

/-- Octet `k` loses its supply: its ports, and the keys of its SAs (R439). -/
def State.dropOctet (s : State) (k : Nat) : State :=
  let s1 := s.loseCopies (fun c => c.sel && c.port < 128 && c.port / 8 == k)
  let s2 := s1.zeroOctet k false
  { s2 with
    ports := s2.ports.filter (fun e => e.1 / 8 != k)
    txq := s2.txq.filter (fun e => !(e.1 < 128 && e.1 / 8 == k)) }

/-- A panel loses its supply: its entries are gone, and searches that wait for it answer ERROR (R186). -/
def State.dropPanel (s : State) (q : Nat) : State :=
  let s1 := s.each (s.panelQueue q) (fun t k => match t.lookup k with
    | some lk => t.setLookup k (some { lk with answer := some ⟨6, []⟩, todo := [], waits := none })
    | none => t)
  let s2 := (s1.panelClear q).setPanelQueue q []
  let keep (e : Nat × BitVec 64) : Bool := slotPanel e.1 != q
  let cut (t : Tables) : Tables := { t with action := t.action.filter keep }
  { s2.setTwin q ⟨false, 0, 0⟩ with
    tslots := s2.tslots.filter (fun e => slotPanel e.1 != q)
    tabs := cut s2.tabs
    prev1 := cut s2.prev1
    prev2 := cut s2.prev2 }

/-- The tables without what `p` (direct-indexed keys) and `h` (hash keys) name. -/
def Tables.without (t : Tables) (p h g : Nat → Bool) : Tables :=
  { t with
    direct := t.direct.filter (fun e => !p e.1)
    hash := t.hash.filter (fun e => !h e.1)
    mcg := t.mcg.filter (fun e => !g e.1) }

/-- Tables, now and retained, lose what three tests name. -/
def State.dropTables (s : State) (p h g : Nat → Bool) : State :=
  { s with tabs := s.tabs.without p h g, prev1 := s.prev1.without p h g, prev2 := s.prev2.without p h g }

/-- The session store, or the bridge, CASTON and direct tables of a die lose their supply (Table 18-12). -/
def State.dropStore (s : State) (d : Nat) (sess : Bool) : State :=
  let no (_ : Nat) : Bool := false
  if sess then s.dropTables no (fun k => k / 2 ^ 20 == d * 3 + 1) no
  else
    let s1 := s.dropTables (fun k => directDie (k / 2 ^ 20) (k % 2 ^ 20) == d)
      (fun k => k / 2 ^ 20 == d * 3 || k / 2 ^ 20 == d * 3 + 2) no
    { s1 with
      learn := SMap.drop s1.learn d
      meters := s1.meters.filter (fun e => directDie tidPolicer e.1 != d)
      stats := s1.stats.filter (fun e => directDie tidStats e.1 != d)
      flushes := s1.flushes.map (fun e => (e.1, setBits e.2.1 d 1 0, e.2.2)) }

/-- The replication engine and the resequencer of a die lose their supply. -/
def State.dropRepl (s : State) (d : Nat) : State :=
  let s1 := s.dropTables (fun _ => false) (fun _ => false) (fun k => k / 65536 == d)
  let s2 := s1.loseCopies (fun c => c.die == d && c.ctx.isSome)
  { s2.setBuf d { s2.buf d with repl := [] } with
    held := s2.held.filter (fun e => e.1 / 131072 != d)
    rsq := SMap.drop s2.rsq d }

/-- A Skein quarter loses its supply: copies with cells in it are poisoned. -/
def State.dropQuarter (s : State) (d h : Nat) : State :=
  let ids := SMap.keysWhere (fun (c : Option Copy) =>
    c.elim false (fun x => x.die == d && x.cells.any (fun g => g / 8 == h && g < 16))) s.copies
  s.each ids (fun t id => match t.copy id with
    | some c => t.setCopy id (some { c with poison := true, late := true })
    | none => t)

/-- An HBM stack loses its supply: what queues hold in it is lost. -/
def State.dropStack (s : State) (h : Nat) : State :=
  let hit : List Nat := ((s.dieQueues (h / 2)).filter (fun (e : Nat × QSt) =>
    e.2.spill.elim false (fun p => p.pages.any (fun x => x / 98304 == h)))).map (fun e => e.1)
  let s1 := s.each hit State.dropSpilled
  { s1 with hbc := SMap.drop s1.hbc h }

/-- Chart loses its supply: its programs and commits are gone. -/
def State.dropChart (s : State) : State := { s with chart := ⟨[], [], []⟩ }

/-- The unit of a domain loses its contents (Tables 18-1 and 18-12, R425). -/
def State.dropUnit (s : State) (d : Nat) : State :=
  if d < 16 then s.dropPipe d
  else if d < 32 then s.dropOctet (d - 16)
  else if d < 36 then s.dropStack (d - 32)
  else if d < 44 then s.each ((List.range 6).map ((d - 36) * 6 + ·)) State.dropPanel
  else if d < 48 then s.dropQuarter ((d - 44) / 2) (d % 2)
  else if d < 50 then s.dropStore (d % 2) true
  else if d < 52 then s.dropStore (d % 2) false
  else if d < 54 then s.dropRepl (d % 2)
  else if d < 56 then { s with gauge := { s.gauge with
    samples := SMap.drop s.gauge.samples (d % 2)
    missed := SMap.drop s.gauge.missed (d % 2) } }
  else if d = 56 then s.hostFacingReset
  else if d = 57 then s.dropChart
  else if d = 63 then { s with tim := ⟨0, false, false, false, none⟩ }
  else s

/-- A domain goes to a state: its edges in it start at 0, and an entry to ON is counted (PWR_DOM_STS.UPS). -/
def State.setDom (s : State) (d st : Nat) : State :=
  let s1 := s.setFld F.PWR_DOM_STS_STATE d st
  let s2 := { s1 with pwr := { s1.pwr with ticks := SMap.drop s1.pwr.ticks d, waking := SMap.drop s1.pwr.waking d } }
  if st = 3 then s2.satFld F.PWR_DOM_STS_UPS d 1 else s2

/-- Edges that a domain has been in its state. -/
def State.domTicks (s : State) (d : Nat) : Nat := SMap.get (fun _ => 0) s.pwr.ticks d

/-- A domain is switched off: OFF, or REMOVED (R423, R425). -/
def State.domDown (s : State) (d st : Nat) : State := ((s.setDom d st).dropUnit d).dropRegs

/-- A domain is REMOVED at once, with its journal record (R423, R430). -/
def State.removeDomain (s : State) (d : Nat) : State :=
  let old := s.domState d
  if old = 6 || old = 7 || 63 < d then s else (s.domDown d 6).jrnPower 3 d old 6

/-- Every domain that a domain needs is ON. -/
def State.needsMet (s : State) (d : Nat) : Bool := (domNeeds d).all (fun e => s.domState e == 3)

/-- No domain that needs it holds a domain up (R424). -/
def State.unneeded (s : State) (d : Nat) : Bool := (domNeededBy d).all (fun e => [0, 5, 6, 7].contains (s.domState e))

/-- A Skein quarter may not be switched off while the die's reserves pass the cells of the other (R235). -/
def State.quarterHeld (s : State) (d : Nat) : Bool :=
  44 ≤ d && d < 48 &&
    131072 * boolNat (s.domState (if d % 2 = 0 then d + 1 else d - 1) == 3) < s.reserved ((d - 44) / 2)

/-- The domains that enter RAMP at this edge: OFF with a target of ON or RET and every need met, at most STAGGER a die,
lowest first (R424). -/
def State.rampSet (s : State) : List Nat :=
  let want := (List.range 64).filter (fun d => s.domState d == 0 && s.domTarget d != 0 && s.needsMet d)
  let n := max 1 (s.fld F.PWR_SEQ_STAGGER 0)
  (want.filter (fun d => domDie d == 0)).take n ++ (want.filter (fun d => domDie d == 1)).take n

/-- One domain at an edge, beside those that enter RAMP (Table 18-10); `bad`: its repair has failed. The keys of an octet that
leaves ON are zeroed before anything else (R439). -/
def State.stepDomain (bad : List Nat) (s : State) (d : Nat) : State :=
  let count (t : State) : State :=
    { t with pwr := { t.pwr with ticks := SMap.set (fun _ => 0) t.pwr.ticks d (t.domTicks d + 1) } }
  let tgt := s.domTarget d
  match s.domState d with
  | 1 => count s
  | 2 => if bad.contains d then (s.removeDomain d).fault 2 4 d else s.setDom d 3
  | 3 => if tgt = 3 || s.quarterHeld d then s else (s.when (16 ≤ d && d < 32) (fun t => t.zeroOctet (d - 16) false)).setDom d 4
  | 4 => count s
  | 5 =>
    let n := SMap.get (fun _ => 0) s.pwr.waking d
    if tgt = 3 then { s with pwr := { s.pwr with waking := SMap.set (fun _ => 0) s.pwr.waking d (n + 1) } } else s
  | _ => s

/-- The power domains at an edge (R423, R424). -/
def State.edgeDomains (s : State) (bad : List Nat) : State :=
  let s1 := s.each (List.range 64) (State.stepDomain bad)
  s1.each s1.rampSet (fun t d => t.setDom d 1)

/-- DOMAIN_RAMP_DONE: RAMP ticks have passed in RAMP: to INIT with the rail good, to REMOVED otherwise (R423). -/
def execDomainRampDone (d : Fin 64) (good : Bool) (s : State) : Res :=
  let s0 := s.begin
  .next (if s0.atEdge ∧ s0.domState d.val = 1 ∧ max 1 (s0.fld F.PWR_SEQ_RAMP 0) ≤ s0.domTicks d.val then
      if good then s0.setDom d.val 2 else (s0.removeDomain d.val).fault 2 4 d.val
    else s0)

/-- The copies that have cells in bank groups of a Skein quarter are none: every one of its cells is free. -/
def State.quarterEmpty (s : State) (d h : Nat) : Bool :=
  (List.range 8).all (fun i => (s.buf d).banks.getD (8 * h + i) 0 == 0)

/-- The queues with pages in stack `h`. -/
def State.pagedIn (s : State) (h : Nat) : List Nat :=
  ((s.dieQueues (h / 2)).filter (fun (e : Nat × QSt) =>
    e.2.spill.elim false (fun p => p.pages.any (fun x => x / 98304 == h)))).map (fun e => e.1)

/-- The unit of a domain in FENCE is empty (Table 18-12). -/
def State.unitEmpty (s : State) (d : Nat) : Bool :=
  if d < 32 then
    let n := d % 16
    (List.range 8).all (fun j => s.portState (8 * n + j) == 0) &&
      !s.needles.any (fun e => enginePipe (e.1 / 96) == n && e.2.isSome) &&
      !s.staged.any (fun e => e.2.elim false (fun x => x.pipe == n))
  else if d < 36 then (s.pagedIn (d - 32)).isEmpty && s.fld F.HBC_STS_STATE (d - 32) != 1 && !s.bit F.HBC_STS_BUSY (d - 32)
  else if 44 ≤ d && d < 48 then s.quarterEmpty ((d - 44) / 2) (d % 2)
  else true

/-- An HBM controller has been in FENCE for DRAIN_LIMIT ticks: queues with pages in its stack are flushed (Table 18-12). -/
def State.fenceFlush (s : State) (d : Nat) : State :=
  if 32 ≤ d && d < 36 && s.fld F.PWR_SEQ_DRAIN_LIMIT 0 ≤ s.domTicks d then s.each (s.pagedIn (d - 32)) State.flushQueue else s

/-- An HBM controller in FENCE whose stack holds no cell begins steps 1 and 2 of Table 12-3 (Table 18-12). -/
def State.fenceRest (s : State) (d : Nat) : State :=
  if 32 ≤ d && d < 36 && (s.pagedIn (d - 32)).isEmpty && s.hbcReady (d - 32) then s.startRest (d - 32) else s

/-- DOMAIN_FENCE_DONE: the fenced unit is empty and no other domain needs it: the domain goes to OFF or RET (R423, R424,
Table 18-12). -/
def execDomainFenceDone (d : Fin 64) (s : State) : Res :=
  let s0 := s.begin
  if s0.domState d.val ≠ 4 || !s0.atEdge then .next s0
  else
    let s1 := (s0.fenceFlush d.val).fenceRest d.val
    if s1.unitEmpty d.val && s1.unneeded d.val then
      .next (if s1.domTarget d.val = 5 then s1.setDom d.val 5 else s1.domDown d.val 0)
    else .next s1

/-- DOMAIN_RET_WAKE: two ticks after it left RET for a target of ON, a domain is ON, with its contents (R423). -/
def execDomainRetWake (d : Fin 64) (s : State) : Res :=
  let s0 := s.begin
  .next (if s0.atEdge ∧ s0.domState d.val = 5 ∧ 3 ≤ SMap.get (fun _ => 0) s0.pwr.waking d.val then s0.setDom d.val 3 else s0)

/-- A write of PWR_DOM_CMD: OP 1 with GO restores a REMOVED domain in READY or FORWARD-REDUCED, and is refused otherwise
(R426). -/
def State.writeDomCmd (s : State) (mask v : BitVec 64) : State :=
  let s1 := s.plainWrite .PWR_DOM_CMD 0 mask v
  let d := s1.fld F.PWR_DOM_CMD_DOM 0
  if !wbit mask v 31 || s1.fld F.PWR_DOM_CMD_OP 0 ≠ 1 then s1
  else if s1.domState d = 6 ∧ (s1.curMode = 3 ∨ s1.curMode = 5) then (s1.setDom d 0).jrnPower 4 d 6 0
  else s1.setFld F.PWR_DOM_STS_REFUSED d 1

/-- DOMAIN_RESTORE (R426). -/
def execDomainRestore (a : Agent) (v : BitVec 32) (s : State) : Res :=
  .next (s.begin.writeBy a .PWR_DOM_CMD 0 (fun t => t.writeDomCmd low32 ((v ||| 0x80000000).setWidth 64)))

/-- Every queue of both dies is empty, and the replication and resequencing buffers with them (R420). -/
def State.allEmpty (s : State) : Bool :=
  s.queues.all (fun e => e.2.cells == 0 && e.2.spill.isNone) && s.bufs.all (fun e => e.2.repl.isEmpty) &&
    s.held.all (fun e => e.2.isEmpty) && s.rsq.all (fun e => e.2.isEmpty)

/-- Item 3 of the edge for a pending request (R419, R420): READY from a forwarding mode goes through DRAIN, from LOOPBACK or
SWATCH the queues are flushed. -/
def State.edgeMode (s : State) : State :=
  let s1 := { s with pwr := { s.pwr with edges := s.pwr.edges + 1 } }
  if !(s1.bit F.GLB_MODE_BUSY 0 && s1.fld F.GLB_MODE_TARGET 0 == 3) then s1
  else if [4, 5, 6, 8].contains s1.curMode then s1.setMode 7 s1.reqReason s1.reqTag
  else if [9, 10].contains s1.curMode && !s1.pwr.flushed then
    let t := s1.flushAll
    { t with pwr := { t.pwr with flushed := true } }
  else if s1.curMode = 7 then { s1 with pwr := { s1.pwr with drain := s1.pwr.drain + 1 } }
  else s1

/-- Every domain that is not REMOVED or ABSENT has reached its target (R419, R426). -/
def State.domsThere (s : State) : Bool :=
  (List.range 64).all (fun d => s.domState d == s.domTarget d || s.domState d == 6 || s.domState d == 7)

/-- The stacks that are UP with no change in progress begin steps 1 and 2 of Table 12-3 (R422). -/
def State.restStacks (s : State) : State := s.each ((s.dieStacks 0 ++ s.dieStacks 1).filter s.hbcReady) State.startRest

/-- No stack that runs is UP or changing: those not FAILED are in self-refresh (R422). -/
def State.stacksRest (s : State) : Bool :=
  (s.dieStacks 0 ++ s.dieStacks 1).all (fun h => !s.hbcOn h || (s.fld F.HBC_STS_STATE h != 1 && !s.bit F.HBC_STS_BUSY h))

/-- No stack that runs is in self-refresh or changing (R299, Table 18-8). -/
def State.stacksAwake (s : State) : Bool :=
  (s.dieStacks 0 ++ s.dieStacks 1).all (fun h => !s.hbcOn h || (s.fld F.HBC_STS_STATE h != 3 && !s.bit F.HBC_STS_BUSY h))

/-- The work of a pending transition is finished, DRAIN apart (Table 18-8). -/
def State.transitionDone (s : State) : Bool :=
  let cur := s.curMode
  let tgt := s.fld F.GLB_MODE_TARGET 0
  s.atEdge && s.bit F.GLB_MODE_BUSY 0 && 1 ≤ s.pwr.edges && s.domsThere && !(tgt == 3 && [4, 5, 6, 7, 8].contains cur) &&
    (tgt != 11 || s.pwr.hib) && (cur != 11 || s.stacksAwake) && (!([9, 10].contains cur) || (s.pwr.flushed && s.allEmpty))

/-- A requested change takes effect (R30): CUR takes TARGET, BUSY clears, DONE is set with the request's TAG. -/
def State.completeMode (s : State) : State :=
  let tag := s.reqTag
  let tgt := s.fld F.GLB_MODE_TARGET 0
  let s1 := (s.setMode tgt s.reqReason tag).setFld F.GLB_MODE_BUSY 0 0
  let s2 := ((s1.setFld F.GLB_MODE_STS_DONE 0 1).setFld F.GLB_MODE_STS_TAG 0 tag).interrupt 0
  { s2.freshTransition with mode := none }

/-- DRAIN_COMPLETE: in DRAIN for READY every queue and buffer is empty (R420). -/
def execDrainComplete (s : State) : Res :=
  let s0 := s.begin
  .next (if s0.atEdge && s0.bit F.GLB_MODE_BUSY 0 && s0.fld F.GLB_MODE_TARGET 0 == 3 && s0.curMode == 7 && 1 ≤ s0.pwr.drain &&
      s0.allEmpty && s0.domsThere then s0.completeMode else s0)

/-- DRAIN_TIMEOUT: DRAIN_LIMIT ticks have passed in DRAIN: every queue is flushed (R420). -/
def execDrainTimeout (s : State) : Res :=
  let s0 := s.begin
  if s0.atEdge && s0.bit F.GLB_MODE_BUSY 0 && s0.fld F.GLB_MODE_TARGET 0 == 3 && s0.curMode == 7 &&
      s0.fld F.PWR_SEQ_DRAIN_LIMIT 0 ≤ s0.pwr.drain && !s0.pwr.flushed then
    let t := s0.flushAll
    .next { t with pwr := { t.pwr with flushed := true } }
  else .next s0

/-- HIBERNATE_ENTRY: no Chart context is busy; the queues are flushed until they are empty, then the stacks begin the steps to
self-refresh, and once every one is there the domains may go down (R422). -/
def execHibernateEntry (s : State) : Res :=
  let s0 := s.begin
  if !(s0.bit F.GLB_MODE_BUSY 0 && s0.fld F.GLB_MODE_TARGET 0 == 11 && 1 ≤ s0.pwr.edges) || s0.pwr.hib ||
      s0.chart.ctxs.any (fun e => e.2.isSome) then .next s0
  else if !s0.allEmpty then .next s0.flushAll
  else if s0.stacksRest then .next { s0 with pwr := { s0.pwr with hib := true } }
  else .next s0.restStacks

/-- PWR_CAP fields as they are handled: the cap, and the window in ticks (Table 18-15). -/
def State.capWatts (s : State) : Nat := min 810 (s.fld F.PWR_CAP_CAP 0)
def State.capWindow (s : State) : Nat := 16 * max 1 (s.fld F.PWR_CAP_WIN 0)

/-- The junction temperature and its warning level, °C. -/
def State.tj (s : State) : Int := signedOf 8 (s.fld F.PWR_TEMP_TJ 0)
def State.tjWarn (s : State) : Int := s.fld F.PWR_TEMP_WARN 0

/-- The throttle level after a window (R428): the level, and the windows below the cap. -/
def State.windowLevel (s : State) (pwr : Nat) : Nat × Nat :=
  let lvl := s.fld F.PWR_CAP_STS_LEVEL 0
  let en := s.bit F.PWR_CAP_EN 0
  if !(4 ≤ s.curMode && s.curMode ≤ 8) then (0, 0)
  else if (en && s.capWatts < pwr) || s.tjWarn ≤ s.tj then (min 4 (lvl + 1), 0)
  else if (!en || pwr + 10 * s.fld F.PWR_CAP_HYST 0 ≤ s.capWatts) && s.tj ≤ s.tjWarn - 5 then
    if max 1 (s.fld F.PWR_CAP_DWELL 0) ≤ s.pwr.below + 1 then (max s.capFloor (lvl - 1), 0) else (lvl, s.pwr.below + 1)
  else (lvl, 0)

/-- POWER_WINDOW: a window ends with average power `pwr`, once at an edge (R427 to R430); CAP_EXCEEDED and TEMP_WARN are live until
a window ends without them (log entry 67). -/
def execPowerWindow (pwr : Fin 1024) (s : State) : Res :=
  let s0 := s.begin
  if s0.curMode ≤ 1 || !s0.atEdge || s0.tikCount.toNat % s0.capWindow != 0 || s0.pwr.level.isSome then .next s0
  else
    let p := pwr.val
    let r := s0.windowLevel p
    let above := s0.bit F.PWR_CAP_EN 0 && s0.capWatts < p
    let s1 := (s0.setFld F.PWR_CAP_STS_PWR 0 p).setFld F.PWR_CAP_STS_PEAK 0 (max p (s0.fld F.PWR_CAP_STS_PEAK 0))
    let s2 := { s1 with pwr := { s1.pwr with below := r.2, level := some r.1 } }
    let s3 := if p ≤ s2.capWatts then s2.setFld F.PWR_CAP_STS_ALERT 0 0 else if above then s2.setFld F.PWR_CAP_STS_ALERT 0 1 else s2
    let s4 := if above then (s3.faultLasting 2 2 0).jrnPower 2 0 (s3.fld F.PWR_CAP_STS_LEVEL 0) r.1 else s3.faultEnds 2 2 0
    .next (if s4.tjWarn ≤ s4.tj then (s4.faultLasting 2 0 0).jrnPower 1 0 (s4.fld F.PWR_CAP_STS_LEVEL 0) r.1 else s4.faultEnds 2 0 0)

/-- The throttle level at an edge: the one decided at a window's end, as the mode allows it (R428). -/
def State.edgeLevel (s : State) : State :=
  ({ s with pwr := { s.pwr with level := none } }).applyLevel (s.levelIn (s.pwr.level.getD (s.fld F.PWR_CAP_STS_LEVEL 0)))

/-- The VDD_CORE target at an edge: at most 5 mV towards what the fuses ask at this temperature, within 650 to 850 mV; 750
where the regulator does not answer (R453). -/
def State.edgeAvs (s : State) (answered : Bool) : State :=
  if s.curMode = 0 || s.boot.step < 4 then s
  else
    let want := if answered then min 850 (max 650 (Config.coreTarget (BitVec.ofNat 8 (s.fld F.PWR_TEMP_TJ 0)))) else 750
    let now := s.pwr.avs
    let new := if !answered then 750 else if now < want then min want (now + 5) else max want (now - 5)
    { s with pwr := { s.pwr with avs := new } }

end Sys2Proof.Machine
end

