-- ==== Sys2Proof/Machine/Boot.lean ====
section
/-! DEFINITION. The pattern store, verification of boot images, starts and cast-on, fallback, confirmation, the watchdog,
fuses, slot writes, and the loss of supply, clock or reset (spec/18, R409 to R417; spec/20, R452, R455, R458). -/

namespace Sys2Proof.Machine

/-- Line `n` of a boot slot (R409, R412). -/
def State.slotLine (s : State) (slot n : Nat) : Bytes :=
  match SMap.get (fun _ => none) s.boot.slots (slot * 229376 + n) with
  | some b => b
  | none => Config.mramLine slot n

/-- Bytes of a boot slot. -/
def State.slotBytes (s : State) (slot off n : Nat) : Bytes :=
  (List.range n).map (fun i => (s.slotLine slot ((off + i) / 64)).getD ((off + i) % 64) 0)

/-- A little-endian field of a slot's header (Table 18-3). -/
def State.slotField (s : State) (slot off n : Nat) : Nat := ofLe (s.slotBytes slot off n)

/-- Sections in use of a slot's image, by number. -/
def State.slotSections (s : State) (slot : Nat) : List Nat := List.range (s.slotField slot 6 2)

/-- OFFSET, SIZE and KIND of section `i` of a slot's image. -/
def State.section (s : State) (slot i : Nat) : Nat × Nat × Nat :=
  (s.slotField slot (32 + 64 * i) 4, s.slotField slot (36 + 64 * i) 4, s.slotField slot (40 + 64 * i) 4)

/-- Check 1 of R410. -/
def State.slotFormat (s : State) (slot : Nat) : Bool :=
  let n := s.slotField slot 6 2
  let len := s.slotField slot 20 4
  s.slotField slot 0 4 == 0x31535942 && s.slotField slot 4 2 == 1 && 1 ≤ n && n ≤ 32 && len ≤ 14 * 1048576 &&
    (s.slotSections slot).all (fun i => let e := s.section slot i; e.1 + e.2.1 ≤ len)

/-- The key hash that a slot's KEY matches and that is not revoked (R410 check 2). -/
def State.slotKey (s : State) (slot : Nat) : Option Nat :=
  let h := sha384 (s.slotBytes slot 2080 96)
  [0, 1].find? (fun k => h == Config.keyHash k && !(k == 0 && s.bit F.BOOT_STS_KH0_REV 0))

/-- The verification code of a slot (R410, Table 18-4), with the key hash it was verified under; `bad`: a line of it was
uncorrectable. -/
def State.verifySlot (s : State) (slot : Nat) (bad : Bool) : Nat × Nat :=
  if bad then (7, 0)
  else if !s.slotFormat slot then (2, 0)
  else match s.slotKey slot with
    | none => (3, 0)
    | some k =>
      if !ecdsaVerify (s.slotBytes slot 2080 96) (s.slotBytes slot 2176 96) (s.slotBytes slot 0 2176) then (4, k)
      else if !(s.slotSections slot).all (fun i =>
          let e := s.section slot i
          sha384 (s.slotBytes slot e.1 e.2.1) == s.slotBytes slot (44 + 64 * i) 48) then (5, k)
      else if s.slotField slot 12 1 < s.fld F.BOOT_STS_SVN_MIN 0 then (6, k)
      else (0, k)

/-- How the start that ends now will be recorded: confirmed, fallen back, or by `how` (BOOT_STS.LAST_END). -/
def State.endCode (s : State) (how : Nat) : Nat :=
  if s.bit F.BOOT_STS_CONFIRMED 0 then 0 else if s.bit F.BOOT_STS_FB 0 then 4 else how

/-- The boot state as a start ends: what MRAM and fuses hold stays. -/
def State.endBoot (s : State) (how : Nat) : BootSt :=
  { s.boot with line := none, step := 8, confirm := false, settled := 0, prev := s.endCode how }

/-- Every domain's state after the supply is switched: 7 for an absent one, 3 for PD62 when it stays on, 0 otherwise. -/
def State.domsOff (s : State) (keep62 : Bool) : State :=
  s.each (List.range 64) (fun t d => t.setFld F.PWR_DOM_STS_STATE d
    (if t.domAbsent d then 7 else if d = 62 && keep62 then 3 else 0))

/-- OFF: every state is lost but what MRAM, fuses and the board hold (R421, R439, R452). -/
def State.turnOff (s : State) (keep62 : Bool) : State :=
  let b := if s.curMode = 0 then s.boot else s.endBoot 3
  let t : State := { State.reset with
    pending := s.pending
    out := s.out
    fresh := s.fresh
    part := s.part
    boot := b
    jrn := { State.reset.jrn with mram := s.jrn.mram, ringNext := s.jrn.ringNext } }
  let f (u : State) (x : Fld) : State := u.setFld x 0 (s.fld x 0)
  let u := [F.BOOT_CFG_PREFER, F.BOOT_STS_ATTEMPT, F.BOOT_STS_SVN_MIN, F.BOOT_STS_KH0_REV, F.BOOT_JRN_STS_BOOT,
    F.GLB_SERIAL_SERIAL, F.GLB_ID_FUSE_REV].foldl f ((t.setReg .BOOT_STS 0 0).setReg .GLB_MODE 0 0)
  u.domsOff keep62

/-- POR_N_ASSERT (R421, R456): the device goes to OFF, and may leave it by a start; THERM_TRIP_N is released (R458). -/
def execPorNAssert (s : State) : Res :=
  let t := s.begin.turnOff false
  .next { t with boot := { t.boot with needPor := false } }

/-- REFCLK_LOSS: handled as an assertion of POR_N (R455). -/
def execRefclkLoss (s : State) : Res :=
  let s0 := s.begin
  let t := s0.turnOff false
  .next { t with boot := { t.boot with needPor := s0.boot.needPor }, pwr := { t.pwr with trip := s0.pwr.trip } }

/-- The records queued since `n` of them were are written to the journal at once. -/
def State.writeNow (s : State) (n : Nat) : State :=
  (s.jrn.queue.drop n).foldl (fun t r => { t with jrn := { t.jrn with
    mram := SMap.set (fun _ => List.replicate 128 0) t.jrn.mram t.jrnSlot (t.jrnBytes r) } }.jrnAdvance) s

/-- A loss of supply with its PWR source: the fault, its journal record, and OFF until POR_N has been asserted (R421, R452,
R458). -/
def State.supplyLoss (s : State) (src : Nat) (aon trip : Bool) : State :=
  if s.curMode = 0 then
    { s with boot := { s.boot with needPor := true }, pwr := { s.pwr with trip := s.pwr.trip || trip } }
  else
    let n := s.jrn.queue.length
    let s1 := s.fault 2 src 0 0
    let t := (if aon then s1 else s1.writeNow n).turnOff (!aon)
    { t with boot := { t.boot with needPor := true }, pwr := { t.pwr with trip := trip || (s.pwr.trip && !aon) } }

/-- RAIL_FAULT (R452). -/
def execRailFault (aon : Bool) (s : State) : Res := .next (s.begin.supplyLoss 3 aon false)

/-- THERMAL_TRIP (R458). -/
def execThermalTrip (s : State) : Res := .next (s.begin.supplyLoss 1 false true)

/-- The registers after a start of cause 1 or 2 begins: AON with the fault banks and RWS fields stay (R413). -/
def State.restartRegs (s : State) : SMap (BitVec 64) :=
  s.regs.foldl (fun m e => match Reg.all[e.1 % 256]? with
    | none => m
    | some r => match r.power with
      | .aon => SMap.set Reg.resetAt m e.1 e.2
      | _ => SMap.set Reg.resetAt m e.1 ((Reg.resetAt e.1 &&& ~~~ r.stickyMask) ||| (e.2 &&& r.stickyMask))) []

/-- GLB_MODE of a start: CAST-ON, from the former mode, with SEQ 1 (Tables 18-6 and 18-9). -/
def State.enterCastOn (s : State) (cause : Nat) : State :=
  let old := s.curMode
  let s1 := s.setReg .GLB_MODE 0 (BitVec.ofNat 64 (1 + old * 16 + 256 + 2 ^ 24))
  let s2 := if cause = 0 then s1 else (s1.setFld F.GLB_MODE_STS_AUTO 0 1).interrupt 0
  (s2.setFld F.BOOT_STS_CAUSE 0 cause).journalNow 3 0 (leBytes 1 old ++ leBytes 1 1 ++ leBytes 1 0 ++ leBytes 1 1 ++ leBytes 1 0)

/-- A start of cause 1 or 2 begins: every switched domain off at once, registers reset but AON, RWS fields, fault banks
and journal, the link down with the effects of R318, debug access locked; then CAST-ON (R413, R439, R443). `how`: LAST_END
of the start that ends. -/
def State.restart (s : State) (cause how : Nat) : State :=
  let s1 := s.leaveDlActive
  let s2 := match s1.mode with
    | some r => (s1.rejectMode 2 r.tag).setFld F.GLB_MODE_BUSY 0 0
    | none => s1
  let t : State := { State.reset with
    pending := s2.pending
    out := s2.out
    fresh := s2.fresh
    part := s2.part
    regs := s2.restartRegs
    flt := { s2.flt with live := [], react := [] }
    jrn := s2.jrn
    cages := s2.cages
    cmb := s2.cmb
    pcie := { State.reset.pcie with cfg := s2.pcie.cfg }
    boot := { s2.endBoot how with step := 0 }
    sec := { State.reset.sec with tap := s2.sec.tap, extest := s2.sec.extest } }
  let u := [F.SEC_DBG_STS_LEVEL, F.SEC_DBG_STS_FAILS, F.SEC_DBG_STS_LOCKOUT, F.SEC_DBG_STS_BUSY].foldl
    (fun (x : State) (f : Fld) => x.setFld f 0 0) t
  (u.domsOff false).enterCastOn cause

/-- The watchdog is loaded (R414): core clocks of WDOG_MS milliseconds. -/
def State.loadWdog (s : State) : State :=
  { s with boot := { s.boot with wdog := max 1 (s.fld F.BOOT_CFG_WDOG_MS 0) * 1200000 } }

/-- WATCHDOG_EXPIRE: the watchdog has reached zero while an image runs (R414). -/
def execWatchdogExpire (s : State) : Res :=
  let s0 := s.begin
  .next (if s0.curMode ≠ 0 ∧ 3 ≤ s0.boot.step ∧ s0.boot.wdog = 0 then s0.restart 1 1 else s0)

/-- CAST_ON_STEP_TIMEOUT: a step exceeds its limit, as an expiry of the watchdog (R414). -/
def execCastOnStepTimeout (s : State) : Res :=
  let s0 := s.begin
  .next (if s0.curMode = 1 ∧ s0.boot.step < 8 then s0.restart 1 1 else s0)

/-- The TYPE 2 journal record of a start (Table 18-14). -/
def State.jrnStart (s : State) (slot result : Nat) : State :=
  let img := result = 0
  s.journalNow 2 0 (leBytes 1 (s.fld F.BOOT_STS_CAUSE 0) ++ leBytes 1 (s.fld F.BOOT_STS_ATTEMPT 0) ++ leBytes 1 slot ++
    leBytes 1 result ++ leBytes 1 (s.fld F.BOOT_STS_FAIL_A 0) ++ leBytes 1 (s.fld F.BOOT_STS_FAIL_B 0) ++
    leBytes 1 (s.fld F.BOOT_STS_LAST_END 0) ++ leBytes 1 (s.fld F.BOOT_STS_SVN 0) ++
    leBytes 4 (if img then s.slotField slot 8 4 else 0) ++ leBytes 4 (s.reg .GLB_UNITS 0).toNat)

/-- C3: PCIe and timing powered, the tick starts at 0 and the time of day with it (Table 18-5, R40, R86). -/
def State.castC3 (s : State) : State :=
  let s1 := ((s.setDom 56 3).setDom 63 3).setReg .TIK_COUNT 0 0
  { s1.setReg .TIK_CLK 0 0 with
    tick := { State.reset.tick with len := s1.fld F.TIK_PERIOD_CLOCKS 0, beat := 0 }
    tim := State.reset.tim
    inForce := s1.regs }

/-- Fallback: the ROM image runs in MINIMAL (R417). At the end of a start of cause 0 GLB_MODE_STS.AUTO keeps its reset value, 0:
no mode that ran was left (DESIGN CHOICE, log entry 62; R27's words would set it). -/
def State.fallback (s : State) (reason : Nat) : State :=
  let s1 := ((((s.setFld F.BOOT_STS_ATTEMPT 0 0).setFld F.BOOT_STS_FB 0 1).setFld F.BOOT_STS_FB_REASON 0 reason).setReg .GLB_FWVER 0 0).fault 3 1 0 0
  let s2 := (s1.jrnStart 2 1).castC3.domDown 63 0
  let s3 := (s2.setMode 2 3 0).setFld F.GLB_MODE_TARGET 0 2
  let s4 := if s3.fld F.BOOT_STS_CAUSE 0 = 0 then s3 else (s3.setFld F.GLB_MODE_STS_AUTO 0 1).interrupt 0
  ({ s4 with boot := { s4.boot with step := 8 }, pcie := { s4.pcie with subsys := 0x00001FD4 } }).loadWdog

/-- An image's instruction words and registers go into set 0 of a direction of pipeline `n` (R119). -/
def State.loadStitch (s : State) (n dir : Nat) (b : Bytes) : State :=
  let s1 := ((Config.imageWords b).take 8192).zipIdx.foldl (fun t e => t.setReg .STE_STORE ((n * 2 + dir) * 8192 + e.2) e.1) s
  ((Config.imageRegs b).take 18).zipIdx.foldl (fun t e =>
    if e.2 < 16 then t.setReg .STE_ENTRY ((n * 2 + dir) * 2 * 16 + e.2) (e.1 &&& 0x1FFF)
    else if e.2 = 16 then t.setReg .STE_SRC_MAP ((n * 2 + dir) * 2) (e.1 &&& 0xFFFFFFFFF)
    else t.setFld F.STE_PAGES_PAGES ((n * 2 + dir) * 2) e.1.toNat) s1

/-- A CASTON entry is inserted on die `d`, where a path is found (R160). -/
def State.loadCaston (s : State) (d : Nat) (e : Bytes × List Word × Word) : State :=
  match s.tabs.plan d 2 (s.maxDepth d) e.1 with
  | some path => s.setTabs (s.tabs.applyPath d 2 path ⟨e.1, e.2.1, e.2.2, s.unit d 2 s.tikCount⟩)
  | none => s

/-- A section of the running image is loaded: Stitch images into every pipeline in service but those of `bad`, CASTON
entries on both dies (R119, Table 18-3). -/
def State.loadSection (s : State) (slot : Nat) (bad : List (Fin 16 × Bool)) (i : Nat) : State :=
  let e := s.section slot i
  let b := s.slotBytes slot e.1 e.2.1
  match e.2.2 with
  | 1 | 2 =>
    let dir := e.2.2 - 1
    s.each ((List.range 16).filter (fun n => s.domState n == 3 && !bad.any (fun x => x.1.val == n && boolNat x.2 == dir)))
      (fun t n => t.loadStitch n dir b)
  | 3 => (Config.castonEntries b).foldl (fun t x => (t.loadCaston 0 x).loadCaston 1 x) s
  | _ => s

/-- C6: CASTON and Stitch images loaded; GLB_FWVER, the Subsystem IDs and YRN_ID.EPOCH written, the last with a value other
than before (Table 18-5, R290, R306). -/
def State.castC6 (s : State) (bad : List (Fin 16 × Bool)) : State :=
  let slot := s.fld F.BOOT_STS_SLOT 0
  let s1 := s.each (s.slotSections slot) (fun t i => t.loadSection slot bad i)
  let ep := (s1.boot.epoch + 1 + s1.free.toNat % 255) % 256
  let s2 := s1.drawn.setReg .GLB_FWVER 0 (BitVec.ofNat 64 (s1.slotField slot 8 3 + slot * 2 ^ 24))
  { s2.setFld F.YRN_ID_EPOCH 0 ep with
    seqs := []
    boot := { s2.boot with epoch := ep }
    pcie := { s2.pcie with subsys := BitVec.ofNat 32 (s2.slotField slot 16 4) } }

/-- C4: the domains of READY that are OFF go ON, those that others need first; one that fails is removed with its fault, and one whose
needs are not met stays OFF (Table 18-5, R424). -/
def State.castPower (s : State) (c : CastOn) : State :=
  s.each ((List.range 20).map (44 + ·) ++ List.range 44) (fun t d =>
    if t.domState d != 0 then t
    else if c.lost.any (fun x => x.val == d) then (t.removeDomain d).fault 2 4 d
    else if t.needsMet d then t.setDom d 3 else t)

/-- Stacks that fail in C5 are removed, with their faults (Table 18-5). -/
def State.castLosses (s : State) (c : CastOn) : State :=
  c.hbm.foldl (fun t h =>
    if t.domState (32 + h.val) = 3 then (t.removeDomain (32 + h.val)).fault 17 4 h.val else t) s

/-- C4 to C7 with a verified image: domains of READY on, units that fail removed, images loaded, then READY with REASON
0x02 (Table 18-5). At the end of a start of cause 0 GLB_MODE_STS.AUTO keeps its reset value, 0 (DESIGN CHOICE, log
entry 62; R27's words would set it). -/
def State.castC4 (s : State) (c : CastOn) : State :=
  let hang (t : State) (k : Nat) : State := { t with boot := { t.boot with step := k } }
  if c.stop.val ≤ 4 then hang s 4
  else
    let s1 := s.castPower c
    if c.stop.val = 5 then hang s1 5
    else
      let s2 := s1.castLosses c
      if c.stop.val = 6 then hang s2 6
      else
        let s3 := s2.castC6 c.images
        if c.stop.val = 7 then hang s3 7
        else
          let s4 := (s3.setMode 3 2 0).setFld F.GLB_MODE_TARGET 0 3
          let s5 := if s4.fld F.BOOT_STS_CAUSE 0 = 0 then s4 else (s4.setFld F.GLB_MODE_STS_AUTO 0 1).interrupt 0
          { s5 with boot := { s5.boot with step := 8 }, inForce := s5.regs }

/-- A slot's code is recorded, and a failed slot reported (R410, Table 16-3). -/
def State.slotResult (s : State) (slot code : Nat) : State :=
  let s1 := s.setFld (if slot = 0 then F.BOOT_STS_FAIL_A else F.BOOT_STS_FAIL_B) 0 code
  let s2 := if code = 7 then s1.fault 3 3 0 slot else s1
  if code = 0 then s2 else s2.fault 3 0 0 slot

/-- The image of a slot runs: SLOT, SVN and the key hash that verified it. -/
def State.useSlot (s : State) (slot kh : Nat) : State :=
  let s1 := (s.setFld F.BOOT_STS_SLOT 0 slot).setFld F.BOOT_STS_SVN 0 (s.slotField slot 12 1)
  { s1 with boot := { s1.boot with kh := kh } }

/-- C2 to C7: the preferred slot of this attempt, then the other; without an image, fallback (R415). -/
def State.castC2 (s : State) (c : CastOn) : State :=
  let first := (s.fld F.BOOT_CFG_PREFER 0 + s.fld F.BOOT_STS_ATTEMPT 0 - 1) % 2
  let bad (x : Nat) : Bool := if x = 0 then c.badA else c.badB
  let r1 := s.verifySlot first (bad first)
  let s1 := s.slotResult first r1.1
  let go (t : State) (slot kh : Nat) : State :=
    let t1 := ((t.useSlot slot kh).jrnStart slot 0).loadWdog
    if c.stop.val ≤ 3 then { t1 with boot := { t1.boot with step := 3 } } else t1.castC3.castC4 c
  if r1.1 = 0 then go s1 first r1.2
  else
    let other := 1 - first
    let r2 := s1.verifySlot other (bad other)
    let s2 := s1.slotResult other r2.1
    if r2.1 = 0 then go s2 other r2.2 else s2.fallback 2

/-- C0 and C1: fuses and boot state read, the boot number of the journal, ATTEMPT; three failed starts fall back
(R415). -/
def State.castOn (s : State) (c : CastOn) : State :=
  let s0 := s.setDom 62 3
  let b := s0.fld F.BOOT_JRN_STS_BOOT 0 + 1
  let s1 := (s0.setReg .BOOT_JRN_STS 0 (BitVec.ofNat 64 b))
  let s2 := { s1 with jrn := { s1.jrn with seq := 0, bucket := 64, ticks := 0, dropped := false } }
  let s3 := s2.setFld F.BOOT_JRN_STS_NEXT 0 s2.jrnSlot
  let keep := s3.fld F.BOOT_STS_ATTEMPT 0 + s3.fld F.BOOT_STS_CAUSE 0 * 2 ^ 20 + s3.fld F.BOOT_STS_SVN_MIN 0 * 2 ^ 32 +
    s3.fld F.BOOT_STS_KH0_REV 0 * 2 ^ 39
  let s4 := (s3.setReg .BOOT_STS 0 (BitVec.ofNat 64 (keep + 0x1100 + s3.boot.prev * 2 ^ 16))).loadWdog
  let units := ((List.range 16).map (fun n => if s4.domAbsent n then 0 else 2 ^ n)).sum +
    ((List.range 4).map (fun h => if s4.domAbsent (32 + h) then 0 else 2 ^ (16 + h))).sum
  let s5 := s4.setReg .GLB_UNITS 0 (BitVec.ofNat 64 units)
  let hang (t : State) (k : Nat) : State := { t with boot := { t.boot with step := k } }
  if c.stop.val = 0 then hang s5 0
  else if c.stop.val = 1 then hang s5 1
  else if s5.fld F.BOOT_STS_ATTEMPT 0 = 3 then s5.fallback 1
  else
    let s6 := s5.setFld F.BOOT_STS_ATTEMPT 0 (s5.fld F.BOOT_STS_ATTEMPT 0 + 1)
    if c.stop.val = 2 then hang s6 2 else s6.castC2 c

/-- START: from OFF with cause 0, once POR_N has been asserted where R452 asks for it; or the start of cause 1 or 2 that has
begun (R413). -/
def execStart (c : CastOn) (s : State) : Res :=
  let s0 := s.begin
  .next (if s0.curMode = 0 && !s0.boot.needPor then (s0.enterCastOn 0).castOn c
    else if s0.curMode = 1 && s0.boot.step == 0 then s0.castOn c
    else s0)

/-- The start is confirmed: ATTEMPT 0, CONFIRMED (R416). -/
def State.confirmed (s : State) : State := (s.setFld F.BOOT_STS_ATTEMPT 0 0).setFld F.BOOT_STS_CONFIRMED 0 1

/-- The mode is one of 3 to 11. -/
def State.modeRuns (s : State) : Bool := 3 ≤ s.curMode && s.curMode ≤ 11

/-- Confirmation at an edge by a CONFIRM written; ticks on end in modes 3 to 11 (R416). -/
def State.edgeBoot (s : State) : State :=
  let s1 := if s.boot.confirm && s.modeRuns && !s.bit F.BOOT_STS_CONFIRMED 0 then s.confirmed else s
  { s1 with boot := { s1.boot with settled := if s1.modeRuns then s1.boot.settled + 1 else 0 } }

/-- START_SETTLED: SETTLE × 1,024 ticks in modes 3 to 11 (R416). -/
def execStartSettled (s : State) : Res :=
  let s0 := s.begin
  .next (if s0.atEdge && s0.modeRuns && !s0.bit F.BOOT_STS_CONFIRMED 0 && s0.fld F.BOOT_CFG_SETTLE 0 * 1024 ≤ s0.boot.settled
    then s0.confirmed else s0)

/-- A write of BOOT_CTL (R411, R413, R414, R416). -/
def State.writeBootCtl (s : State) (a : Agent) (mask v : BitVec 64) : State :=
  let guard := getField (v &&& mask) 8 8 == 0xB0
  let fuse := guard && s.bit F.BOOT_STS_CONFIRMED 0 && !s.bit F.BOOT_STS_FB 0
  let s1 := s.when (fuse && wbit mask v 2) (fun t =>
    t.setFld F.BOOT_STS_SVN_MIN 0 (max (t.fld F.BOOT_STS_SVN_MIN 0) (t.fld F.BOOT_STS_SVN 0)))
  let s2 := s1.when (fuse && wbit mask v 3 && s1.boot.kh == 1) (fun t => t.setFld F.BOOT_STS_KH0_REV 0 1)
  let s3 := s2.when (wbit mask v 0) (fun t => { t with boot := { t.boot with confirm := true } })
  let s4 := s3.when (wbit mask v 4 && isMc a) State.loadWdog
  s4.when (guard && wbit mask v 1) (fun t => t.restart 2 2)

/-- A write of BOOT_CTL by a command that names one of its bits. -/
def State.bootCtl (s : State) (a : Agent) (v : BitVec 32) (b : BitVec 32) : State :=
  s.begin.writeBy a .BOOT_CTL 0 (fun t => t.writeBootCtl a low32 ((v ||| b).setWidth 64))

/-- KICK (R414). -/
def execKick (a : Agent) (v : BitVec 32) (s : State) : Res := .next (s.bootCtl a v 0x10)

/-- RESTART (R413). -/
def execRestart (a : Agent) (v : BitVec 32) (s : State) : Res := .next (s.bootCtl a v 2)

/-- CONFIRM (R416). -/
def execConfirm (a : Agent) (v : BitVec 32) (s : State) : Res := .next (s.bootCtl a v 1)

/-- SVN_COMMIT (R411). -/
def execSvnCommit (a : Agent) (v : BitVec 32) (s : State) : Res := .next (s.bootCtl a v 4)

/-- REVOKE0 (R411). -/
def execRevoke0 (a : Agent) (v : BitVec 32) (s : State) : Res := .next (s.bootCtl a v 8)

/-- A write of BOOT_SLOT_CTL: GO writes a line, or is discarded while BUSY, or refused (R412). -/
def State.writeSlotCtl (s : State) (mask v : BitVec 64) : State :=
  let s1 := s.plainWrite .BOOT_SLOT_CTL 0 mask v
  let slot := s1.fld F.BOOT_SLOT_CTL_SLOT 0
  let line := s1.fld F.BOOT_SLOT_CTL_LINE 0
  if !wbit mask v 31 || s1.bit F.BOOT_SLOT_CTL_BUSY 0 then s1
  else if 229376 ≤ line || (slot == s1.fld F.BOOT_STS_SLOT 0 && !s1.bit F.BOOT_STS_FB 0) then
    s1.setFld F.BOOT_SLOT_CTL_REFUSED 0 1
  else
    let data := (List.range 16).flatMap (fun w => leBytes 4 (s1.reg .BOOT_SLOT_DATA w).toNat)
    { s1.setFld F.BOOT_SLOT_CTL_BUSY 0 1 with boot := { s1.boot with line := some (slot * 229376 + line, data) } }

/-- SLOT_WRITE (R412). -/
def execSlotWrite (a : Agent) (v : BitVec 32) (s : State) : Res :=
  .next (s.begin.writeBy a .BOOT_SLOT_CTL 0 (fun t => t.writeSlotCtl low32 ((v ||| 0x80000000).setWidth 64)))

/-- SLOT_LINE_WRITTEN: the line is in MRAM and BUSY clears (R412). -/
def execSlotLineWritten (s : State) : Res :=
  let s0 := s.begin
  match s0.boot.line with
  | none => .next s0
  | some (k, b) =>
    .next { s0.setFld F.BOOT_SLOT_CTL_BUSY 0 0 with boot := { s0.boot with
      line := none, slots := SMap.set (fun _ => none) s0.boot.slots k (some b) } }

/-- TRANSITION_COMPLETE: an accepted transition whose work is finished takes effect (R30); from MINIMAL to READY steps C5
and C6 are repeated with the running image, from HIBERNATE the stacks have left self-refresh (Table 18-8). -/
def execTransitionComplete (s : State) : Res :=
  let s0 := s.begin
  if !s0.transitionDone then .next s0
  else
    let cur := s0.curMode
    let s1 := if cur = 2 then s0.castC6 [] else s0
    .next s1.completeMode

end Sys2Proof.Machine
end

