-- ==== Sys2Proof/Machine/HostIo.lean ====
section
/-! DEFINITION. Frames from and to the host's rings (spec/14, R343 to R349, R354; R110 of spec/04). -/

namespace Sys2Proof.Machine

/-- Fields of a PKT_TX descriptor (Table 14-4). -/
def txBufLen (e : Bytes) : Nat := leAt e 8 2
def txLen (e : Bytes) : Nat := leAt e 10 2
def txMore (e : Bytes) : Bool := bitOf (leAt e 13 1) 3

/-- The entries of the next frame: up to the first without MORE, or sixteen (R343, R344); none while they are not all
there. -/
def txEntries : Nat → List (Nat × Bytes) → Option (List (Nat × Bytes))
  | 0, _ => some []
  | _, [] => none
  | n + 1, e :: r => if txMore e.2 then (txEntries n r).map (fun l => e :: l) else some [e]

/-- The status that the checks of Table 14-5 give a frame before its buffers are read; 0 passes (R344). -/
def State.txStatus (s : State) (l : List Bytes) (dest : Nat) : Nat :=
  let total := (l.map txLen).sum
  if l.any (fun e => txLen e == 0) then 1
  else if l.any (fun e => txBufLen e < txLen e) then 2
  else if 16000 < total || (l.length == 16 && l.getLast?.elim false txMore) then 3
  else if total < 14 then 4
  else if !s.portOk dest then 5 else 0

/-- A PKT_TX completion (TYPE 1). -/
def State.txEntry (s : State) (g last total status : Nat) : Bytes :=
  cmplEntry (last + s.localSq g * 65536 + 2 ^ 28) (total % 2 ^ 14 + status * 2 ^ 20) 0 0

/-- The pipeline whose action merge takes the next host packet, and the state with the turn moved on (R110). -/
def State.hostPipe (s : State) : Option (Nat × State) :=
  let on := (List.range 16).filter (fun n => s.domState n == 3)
  let en := on.filter (fun n => s.bit F.STE_FIX_CFG_HOST_EN n)
  match en with
  | [] => on.head?.map (fun n => (n, s))
  | _ =>
    let n := ((en.filter (s.dma.turn ≤ ·)) ++ en).headD 0
    some (n, { s with dma := { s.dma with turn := (n + 1) % 16 } })

/-- Metadata of a host packet: META and HASH of its first descriptor (Table 14-4). -/
def txMd (e : Bytes) (len tc : Nat) : Bytes :=
  let m := overwrite (mdStart 130 0 len (min 256 len) 0 0 0 0) 0x0F (beBytes 1 tc)
  overwrite (overwrite m 0x20 (beBytes 4 (leAt e 24 4))) 0x30 (sliceZ e 16 8)

/-- A frame of ring `g` fails: it is counted, and completed with a status (R344). -/
def State.txFail (s : State) (g last : Nat) (l : List Bytes) (status : Nat) : State :=
  (s.bump .DMA_CNT 2 1).finishEntries g last (some (s.txEntry g last (l.map txLen).sum status))

/-- A frame whose buffers have been read enters the HOST parser of pipeline `n` (R110, R343). -/
def State.txEnter (s : State) (n : Nat) (f : TxRead) (data : Bytes) : State :=
  let e := f.descs.headD []
  let total := (f.descs.map txLen).sum
  let tc := leAt e 13 1 % 8
  s.setPipe n { s.pipe n with
    merge := (s.pipe n).merge ++
      [.host (padTo total data) (txMd e total tc) f.dest tc (some (f.ring, f.last, f.descs.length, !bitOf (leAt e 13 1) 4)) none] }

/-- The frames at the head of ring `g` whose reading is over enter the device, or fail with READ_ERR, in ring order (R343,
R344). -/
def State.enterFrames (s : State) (g : Nat) : Nat → State
  | 0 => s
  | n + 1 =>
    match s.dma.frames.find? (fun f => f.ring == g) with
    | none => s
    | some f =>
      let s1 := { s with dma := { s.dma with frames := removeFirst (fun x => x.ring == g) s.dma.frames } }
      match f.ended, s1.hostPipe with
      | some none, _ => (s1.txFail g f.last f.descs 6).enterFrames g n
      | some (some data), some (p, s2) => (s2.txEnter p f data).enterFrames g n
      | _, _ => s

/-- The reading of a frame is over, with its data or without. -/
def State.frameRead (s : State) (g last : Nat) (data : Option Bytes) : State :=
  let s1 := { s with dma := { s.dma with
    frames := s.dma.frames.map (fun (f : TxRead) => if f.ring = g ∧ f.last = last ∧ f.ended = none then { f with ended := some data } else f) } }
  s1.enterFrames g s1.dma.frames.length

/-- A read operation ends with all its data. -/
def State.readDone (s : State) (what : ReadFor) (data : Bytes) : State :=
  match what with
  | .frame g last => s.frameRead g last (some data)
  | w => s.ringReadDone w data

/-- A read operation fails (R325): what issued it ends with a read error, and its other reads are discarded. -/
def State.opFails (s : State) (id : Nat) : State :=
  match s.pcie.ops.find? (fun o => o.id == id) with
  | none => s
  | some o =>
    let s1 := { s with pcie := { s.pcie with
      ops := removeFirst (fun x => x.id == id) s.pcie.ops
      reads := s.pcie.reads.map (fun (r : ReadRec) => if r.op = id then { r with discard := true } else r) } }
    (match o.what with
      | .frame g last => s1.frameRead g last none
      | w => s1.ringReadFailed w).pumpReads

/-- Part `part` of operation `id` has all its data; the operation is over when every part has. -/
def State.partDone (s : State) (id part : Nat) (data : Bytes) : State :=
  let ops := s.pcie.ops.map (fun (o : ReadOp) => if o.id = id then { o with parts := o.parts.set part (some data) } else o)
  match ops.find? (fun o => o.id == id) with
  | none => s
  | some o =>
    if o.todo.isEmpty && o.parts.all (fun p => p.isSome) then
      let s1 : State := { s with pcie := { s.pcie with ops := removeFirst (fun x => x.id == id) ops } }
      s1.readDone o.what (o.parts.flatMap (fun (p : Option Bytes) => p.getD []))
    else { s with pcie := { s.pcie with ops := ops } }

/-- An error completion ends a read: its tag is free, PCX_CPL_ERR counts it, its status is logged, and the operation fails
(R325). -/
def State.readError (s : State) (r : ReadRec) (status : CplStatus) : State :=
  ((((s.freeRead r.tag).bump .PCX_CNT 2 1).aerUncor r.fn (cplAerBit status) true).fault 4 2 r.fn r.tag).opFails r.op

/-- A read times out: it fails, and its tag is held (R324, R325). -/
def State.readTimesOut (s : State) (r : ReadRec) : State :=
  if r.ended || s.ctoDisabled r.fn then s
  else ((((s.setRead r.tag { r with ended := true }).bump .PCX_CNT 0 1).aerUncor r.fn 14 false).fault 4 0 r.fn r.tag).opFails r.op

/-- The operation begun for `what` ends at once as `rd` says, where all of it has been issued: with `data`, by a timeout or by
an error completion of its first read; `later`: the reads end by commands of their own. -/
def State.opEnds (s : State) (what : ReadFor) (rd : ReadEnd) (data : Bytes) : State :=
  match s.pcie.ops.find? (fun o => o.what == what) with
  | none => s
  | some o =>
    match rd, s.pcie.reads.find? (fun r => r.op == o.id && !r.ended) with
    | .whole, _ =>
      if o.todo.isEmpty then
        let s1 : State := { s with pcie := { s.pcie with
          ops := removeFirst (fun x => x.id == o.id) s.pcie.ops
          reads := s.pcie.reads.filter (fun r => r.op != o.id) } }
        (s1.readDone what data).pumpReads
      else s
    | .timeout, some r => s.readTimesOut r
    | .error status, some r => s.readError r status
    | _, _ => s

/-- READ_COMPLETION: data of a read, a late completion, each part of which counts and the last of which frees the tag, or
an error completion (R320, R325). -/
def execReadCompletion (tag : Fin 16384) (status : CplStatus) (last : Bool) (data : Bytes) (s : State) : Res :=
  let s0 := s.begin
  match s0.readOf tag.val with
  | none => .next s0
  | some r =>
    if r.ended then
      let s1 := if last || status != .ok then (s0.freeRead tag.val).pumpReads else s0
      .next ((((s1.bump .PCX_CNT 1 1).aerUncor r.fn 16 true).aerCor r.fn 13).fault 4 1 r.fn tag.val)
    else if status != .ok then .next ((s0.readError r status).pumpReads)
    else if !last then .next (if r.discard then s0 else s0.setRead tag.val { r with got := r.got ++ data })
    else if r.discard then .next ((s0.freeRead tag.val).pumpReads)
    else .next (((s0.freeRead tag.val).partDone r.op r.part (r.got ++ data)).pumpReads)

/-- COMPLETION_TIMEOUT: the read fails, its tag is held (R324, R325). -/
def execCompletionTimeout (tag : Fin 16384) (s : State) : Res :=
  let s0 := s.begin
  match s0.readOf tag.val with
  | none => .next s0
  | some r => .next (s0.readTimesOut r)

/-- TAG_HOLD_EXPIRE: twice the timeout has passed and a timed-out read's tag is free (R325). -/
def execTagHoldExpire (tag : Fin 16384) (s : State) : Res :=
  let s0 := s.begin
  match s0.readOf tag.val with
  | none => .next s0
  | some r => .next (if r.ended then (s0.freeRead tag.val).pumpReads else s0)

/-- TX_FRAME: the next frame of PKT_TX ring `g` begins: checked, its buffers read, and passed to the HOST parser (R343, R344,
R348). -/
def execTxFrame (g : Fin 4096) (rd : ReadEnd) (data : Bytes) (s : State) : Res :=
  let s0 := s.begin
  let c := s0.boundCq g.val
  let f := s0.ownerOf false g.val
  if !(s0.bit F.DMA_SQ_STS_ENABLED g.val && s0.fld F.DMA_SQ_CFG_KIND g.val == 0 && !(s0.sq g.val).stopping) ||
    s0.sqBlocked g.val || s0.cqPlaces c == 0 || s0.hostPipe.isNone || !s0.fnMayIssue f then .next s0
  else match txEntries 16 (s0.sq g.val).entries with
    | none => .next s0
    | some l =>
      let e := (l.headD (0, [])).2
      let last := (l.getLastD (0, [])).1
      let descs := l.map (fun x => x.2)
      let dest := if s0.bit F.DMA_SQ_CFG_FORCE g.val then s0.fld F.DMA_SQ_CFG_PORT g.val else leAt e 12 1
      let s1 := s0.beginEntries g.val l.length
      let st := s1.txStatus descs dest
      if st ≠ 0 then .next (s1.txFail g.val last descs st)
      else
        let s2 := { s1 with dma := { s1.dma with frames := s1.dma.frames ++ [TxRead.mk g.val last descs dest none] } }
        .next ((s2.startRead f (descs.map (fun x => (leAt x 0 8, txLen x))) (.frame g.val last)).opEnds (.frame g.val last) rd data)

/-- An enabled PKT_RX ring. -/
def State.rxRing (s : State) (g : Nat) : Bool := s.bit F.DMA_SQ_STS_ENABLED g && s.fld F.DMA_SQ_CFG_KIND g == 1 && !(s.sq g).stopping

/-- The PKT_RX ring of a copy for port 130 (R345). -/
def State.rxSelect (s : State) (c : Copy) : Option Nat :=
  let b := c.tc
  let w := beAt c.md (0x30 + min 46 (s.fld F.DMA_RX_SEL_USER_OFF b)) 2
  let n := min 64 (s.fld F.DMA_RX_SEL_COUNT b)
  if s.bit F.DMA_RX_SEL_USER_SEL b && bitOf w 15 && s.rxRing (w % 4096) then some (w % 4096)
  else if n = 0 then none
  else
    let g := s.fld F.DMA_RX_SEL_BASE b + beAt c.md 0x20 4 % n
    if g < 4096 ∧ s.rxRing g = true then some g else none

/-- BUF_LEN of a PKT_RX descriptor, 0 when it breaks Table 14-6. -/
def rxBufLen (e : Bytes) : Nat := if leAt e 8 2 % 64 = 0 ∧ 256 ≤ leAt e 8 2 then leAt e 8 2 else 0

/-- The fetched entries that a copy of `len` bytes takes, in order, bad ones among them; none where they do not hold it. -/
def rxEntries : Nat → List (Nat × Bytes) → Option (List (Nat × Bytes))
  | _, [] => none
  | len, e :: r =>
    let b := rxBufLen e.2
    if b = 0 then (rxEntries len r).map (fun l => e :: l)
    else if len ≤ b then some [e]
    else (rxEntries (len - b) r).map (fun l => e :: l)

/-- The copy's bytes are written into its buffers. -/
def State.rxWrite (s : State) (f : Nat) : List Bytes → Bytes → State
  | [], _ => s
  | e :: r, b => (s.packetWrite f (leAt e 0 8) (b.take (rxBufLen e))).rxWrite f r (b.drop (rxBufLen e))

/-- A bad descriptor at the head of a ring is consumed: a completion with BAD_BUF (R346). -/
def State.rxBad (s : State) (g idx : Nat) : State :=
  (s.beginEntries g 1).finishEntries g idx
    (some (cmplEntry (idx + s.localSq g * 65536 + 2 * 2 ^ 28) (2 ^ 14 + 2 ^ 20) 0 0))

/-- The bad descriptors at the head of a ring, as a copy meets them, are consumed, each with a place for its completion
(R346). -/
def State.rxSkipBad (s : State) (g : Nat) : Nat → State
  | 0 => s
  | n + 1 =>
    match (s.sq g).entries with
    | e :: _ => if rxBufLen e.2 = 0 ∧ s.cqPlaces (s.boundCq g) ≠ 0 ∧ s.sqBlocked g = false then (s.rxBad g e.1).rxSkipBad g n else s
    | [] => s

/-- The receive completion of a copy (TYPE 2). -/
def State.rxEntry (s : State) (g first n : Nat) (c : Copy) : Bytes :=
  let st := beAt c.md 7 1
  cmplEntry (first + s.localSq g * 65536 + 2 * 2 ^ 28) (c.bytes.length + n * 2 ^ 14 + beAt c.md 0 1 * 2 ^ 24) (beAt c.md 8 4)
    (beAt c.md 12 2 + c.reason * 65536 + c.tc * 2 ^ 24 + bitsOf st 2 1 * 2 ^ 27 + bitsOf st 3 3 * 2 ^ 28)

/-- A copy is written into the buffers of ring `g`, those that break Table 14-6 used up on the way (R346). -/
def State.rxStore (s' : State) (g : Nat) (c : Copy) : State :=
  let s := s'.rxSkipBad g (s'.sq g).entries.length
  match rxEntries c.bytes.length (s.sq g).entries with
  | none => s.bump .DMA_CNT 5 1
  | some l =>
    let good := l.filter (fun e => rxBufLen e.2 != 0)
    if s.cqPlaces (s.boundCq g) ≤ l.length - good.length || s.sqBlocked g then (s.bump .DMA_CNT 6 1).fault 5 3 g g
    else
      let bad := l.filter (fun e => rxBufLen e.2 == 0)
      let s1 := bad.foldl (fun t e =>
        (t.setSq g { t.sq g with entries := e :: (t.sq g).entries.filter (fun x => x.1 != e.1) }).rxBad g e.1) s
      let s2 := s1.beginEntries g good.length
      let s3 := s2.rxWrite (s2.ownerOf false g) (good.map (fun e => e.2)) c.bytes
      let s4 := (s3.bump .DMA_CNT 3 1).bump .DMA_CNT 4 c.bytes.length
      s4.finishEntries g ((good.getLastD (0, [])).1) (some (s4.rxEntry g ((good.headD (0, [])).1) good.length c))

/-- RX_DELIVER: the next copy for port 130 (R345, R346, R247). -/
def execRxDeliver (s : State) : Res :=
  let s0 := s.begin
  match SMap.get (fun _ => []) s0.txq 130 with
  | [] => .next s0
  | id :: rest =>
    let s1 := { s0 with txq := SMap.set (fun _ => []) s0.txq 130 rest }
    match s1.copy id with
    | none => .next s1
    | some c =>
      if c.poison then .next ((s1.sknCount c.die 2 1).release id c)
      else match s1.rxSelect c with
        | none => .next ((s1.bump .DMA_CNT 7 1).release id c)
        | some g => .next ((s1.rxStore g c).release id c)

/-- RING_DISABLE_DONE: every begun entry of a stopping ring has completed; the index entry is written and ENABLED clears
(R354, R355). -/
def execRingDisableDone (g : Fin 4096) (s : State) : Res :=
  .next (s.begin.sqFinish g.val)

end Sys2Proof.Machine
end

