-- ==== Sys2Proof/Machine/Debug.lean ====
section
/-! DEFINITION. Debug unlock, the TAP and the SMBus target (spec/19, R440 to R443; spec/20, R459). -/

namespace Sys2Proof.Machine

/-- A fresh nonce from the entropy source: eight words of four free values (R441). -/
def State.freshNonce (s : State) : State :=
  (s.each (List.range 4) (fun t i =>
    ((t.setReg .SEC_CHAL (2 * i) (t.free &&& low32)).setReg .SEC_CHAL (2 * i + 1) (t.free >>> 32)).drawn)).setFld
    F.SEC_DBG_STS_NONCE 0 1

/-- The nonce is zeroed (R441). -/
def State.zeroNonce (s : State) : State :=
  (s.each (List.range 8) (fun t i => t.setReg .SEC_CHAL i 0)).setFld F.SEC_DBG_STS_NONCE 0 0

/-- The bytes of the first `n` words of a register array, the first byte of each in bits [31:24] (Table 19-4). -/
def State.wordBytes (s : State) (r : Reg) (n : Nat) : Bytes := (List.range n).flatMap (fun w => beBytes 4 (s.reg r w).toNat)

/-- The response verifies for a level: the key's digest is KD, and the signature holds over serial, nonce and level byte
(R441). -/
def State.responsePasses (s : State) (level : Nat) : Bool :=
  let resp := s.wordBytes .SEC_RESP 48
  sha384 (resp.take 96) == Config.debugKeyHash &&
    ecdsaVerify (resp.take 96) (resp.drop 96)
      (leBytes 8 (s.reg .GLB_SERIAL 0).toNat ++ s.wordBytes .SEC_CHAL 8 ++ leBytes 1 level)

/-- GO for level `l`: discarded in lockout, refused without a nonce or while BUSY, otherwise verification starts (R441,
R442). -/
def State.unlockGo (s : State) (l : Nat) : State :=
  if s.bit F.SEC_DBG_STS_LOCKOUT 0 then s
  else if !s.bit F.SEC_DBG_STS_NONCE 0 || s.bit F.SEC_DBG_STS_BUSY 0 then s.setFld F.SEC_DBG_STS_REFUSED 0 1
  else { s.setFld F.SEC_DBG_STS_BUSY 0 1 with
    sec := { s.sec with asked := some (l, (l == 1 || l == 2) && s.responsePasses l) } }

/-- LOCK: refused in SWATCH or while a request for it is pending (R443). -/
def State.debugLock (s : State) : State :=
  if s.curMode = 10 || (s.bit F.GLB_MODE_BUSY 0 && s.fld F.GLB_MODE_TARGET 0 == 10) then s.setFld F.SEC_DBG_STS_REFUSED 0 1
  else { s with sec := { s.sec with level := some 0 } }

/-- A write of SEC_DBG_CTL; `lost`: a GO of the TAP in the same clock takes its place (R441 to R443). -/
def State.writeDbgCtl (s : State) (lost : Bool) (mask v : BitVec 64) : State :=
  let s1 := (s.plainWrite .SEC_DBG_CTL 0 mask v).when (wbit mask v 0) State.freshNonce
  let s2 := s1.when (wbit mask v 1 && !lost) (fun t => t.unlockGo (getField (v &&& mask) 2 2))
  s2.when (wbit mask v 4) State.debugLock

/-- A write of SEC_DBG_CTL by a command that names one of its bits. -/
def State.dbgCtl (s : State) (a : Agent) (v b : BitVec 32) (lost : Bool) : State :=
  s.begin.writeBy a .SEC_DBG_CTL 0 (fun t => t.writeDbgCtl lost low32 ((v ||| b).setWidth 64))

/-- CHALLENGE (R441). -/
def execChallenge (a : Agent) (v : BitVec 32) (s : State) : Res := .next (s.dbgCtl a v 1 false)

/-- UNLOCK_GO (R441, R442); `tapToo`: the TAP writes GO in the same clock, so a write of PF0 is discarded. -/
def execUnlockGo (a : Agent) (v : BitVec 32) (tapToo : Bool) (s : State) : Res :=
  .next (if tapToo && decide (a = .fn 0) then s.begin else s.dbgCtl a v 2 false)

/-- UNLOCK_VERIFY_DONE: the nonce is zeroed; a pass sets LEVEL at the next edge, a failure counts towards lockout
(R441, R442). -/
def execUnlockVerifyDone (s : State) : Res :=
  let s0 := s.begin
  match s0.sec.asked with
  | none => .next s0
  | some (l, pass) =>
    let s1 := (({ s0 with sec := { s0.sec with asked := none } }).setFld F.SEC_DBG_STS_BUSY 0 0).zeroNonce
    if pass then .next ({ s1 with sec := { s1.sec with level := some l } }.fault 8 0 0 l)
    else
      let s2 := (s1.fault 8 1 0 l).satFld F.SEC_DBG_STS_FAILS 0 1
      .next (if s2.fld F.SEC_DBG_STS_FAILS 0 = 3 then s2.setFld F.SEC_DBG_STS_LOCKOUT 0 1 else s2)

/-- LOCK (R443). -/
def execLock (a : Agent) (v : BitVec 32) (s : State) : Res := .next (s.dbgCtl a v 0x10 false)

/-- The debug level at an edge: before level 2, every SA is disabled and its key zeroed (R439, R443). -/
def State.edgeDebug (s : State) : State :=
  match s.sec.level with
  | none => s
  | some l =>
    let s1 := s.when (l == 2) (fun t => t.each (List.range 16) (fun u o => u.zeroOctet o true))
    { s1.setFld F.SEC_DBG_STS_LEVEL 0 l with sec := { s1.sec with level := none } }

/-- TAP_INSTRUCTION (R440): EXTEST takes the balls until the TAP is reset; IDCODE shifts out a value that the spec does not
give; the others move no state of the device. -/
def execTapInstruction (i : TapInstr) (s : State) : Res :=
  let s0 := s.begin
  let s1 := { s0 with sec := { s0.sec with tap := i } }
  match i with
  | .extest | .pulse | .train => .next { s1 with sec := { s1.sec with extest := true } }
  | .idcode => .next (s1.emit (.tap (s1.free.setWidth 32))).drawn
  | .bypass | .sample | .secUnlock => .next s1

/-- TAP_RESET: the TAP is reset and EXTEST lets the balls go (R440). -/
def execTapReset (s : State) : Res :=
  let s0 := s.begin
  .next { s0 with sec := { s0.sec with tap := .bypass, extest := false } }

/-- SMBUS_REQUEST: a sensor is read, in every mode but OFF; those of absent stacks are not reported (R459). -/
def execSmbusRequest (q : SmbusReq) (s : State) : Res :=
  let s0 := s.begin
  if s0.curMode = 0 then .next s0
  else match q with
    | .state => .next (s0.emit (.sensor 0 s0.curMode))
    | .numeric i =>
      if i.val = 1 then .next (s0.emit (.sensor 1 (s0.fld F.PWR_TEMP_TJ 0)))
      else if i.val = 2 then .next (s0.emit (.sensor 2 (s0.fld F.PWR_CAP_STS_PWR 0)))
      else if 3 ≤ i.val && !s0.domAbsent (32 + (i.val - 3)) then
        .next (s0.emit (.sensor i.val (s0.fld F.HBC_TEMP_TEMP (i.val - 3))))
      else .next s0

end Sys2Proof.Machine
end

