-- ==== Sys2Proof/Machine/ChartStage.lean ====
section
/-! DEFINITION. What Chart programs stage: how staged writes count, and how the insertions of a commit are planned (spec/02,
R54; spec/06, R160, R161; spec/07, R197; spec/15, R364 to R367). -/

namespace Sys2Proof.Machine

/-- Slots of an entry of panel `q`. -/
def State.panelSlots (s : State) (q : Nat) : Nat := widthSlots (s.eff F.TCM_PANEL_CFG_WIDTH q)

/-- Staged writes to panel `q` count twice while it is the primary of a pair (R197). -/
def State.twinFactor (s : State) (q : Nat) : Nat := if s.isPrimary q && s.twinState q != 0 then 2 else 1

/-- `n` writes counted against die `d`: on C0 and on C1. -/
def onDie (d n : Nat) : Nat × Nat := if d = 0 then (n, 0) else (0, n)

/-- The sum of two counts by die. -/
def addPair (a b : Nat × Nat) : Nat × Nat := (a.1 + b.1, a.2 + b.2)

/-- Writes that one staged operation counts on each die; an insertion counts the slots of its path, 1 before it is planned
(R54, R149, R154, R199, R268). -/
def State.writeCount (s : State) (w : CWrite) : Nat × Nat :=
  let tc (slot n : Nat) : Nat × Nat := onDie (panelDie (slotPanel slot)) (n * s.twinFactor (slotPanel slot))
  match w with
  | .direct tid idx _ => onDie (directDie tid idx) 1
  | .meter idx _ => onDie (directDie tidPolicer idx) 1
  | .stat _ _ _ => (0, 0)
  | .group d _ _ => onDie d 1
  | .insert d _ _ _ _ => onDie d 1
  | .delete d _ _ => onDie d 1
  | .twr slot _ _ _ _ => tc slot (s.panelSlots (slotPanel slot))
  | .tinv slot => tc slot 1
  | .tval slot => tc slot 1
  | .tact slot _ => tc slot 1
  | .pivot _ _ => (1, 1)

/-- Writes that a list of operations counts, insertions as one each. -/
def State.stagedCount (s : State) (l : List CWrite) : Nat × Nat := l.foldl (fun a w => addPair a (s.writeCount w)) (0, 0)

/-- Is an operation an insertion? -/
def CWrite.isInsert : CWrite → Bool
  | .insert _ _ _ _ _ => true
  | _ => false

/-- Writes of a commit, its planned relocations included (R54, R161). -/
def State.commitCount (s : State) (l : List CWrite) (plans : List CPlan) : Nat × Nat :=
  let rest := s.stagedCount (l.filter (fun w => !w.isInsert))
  plans.foldl (fun a p => addPair a (onDie p.die p.path.length)) rest

/-- The path of an insertion on tables `t`: the slot of the key where it is present, a new plan otherwise (R159, R160). -/
def Tables.pathFor (t : Tables) (d tb depth : Nat) (key : Bytes) : Option (List Nat) :=
  match t.findKey d tb key with
  | some loc => some [loc]
  | none => t.plan d tb depth key

/-- The insertions of a commit are planned together, in program order, each on tables `t` as the earlier ones leave them;
what their slots hold now is kept with the plans. Answers the plans found, and whether some insertion has no path (R161). -/
def State.planInserts (s : State) : Tables → List CWrite → List CPlan × Bool
  | _, [] => ([], false)
  | t, .insert d tb key words hw :: r =>
    match t.pathFor d tb (s.maxDepth d) key with
    | none => ((s.planInserts t r).1, true)
    | some path =>
      let p : CPlan := ⟨d, tb, key, path, path.map (fun l => (s.tabs.slotAt d tb l).map HEnt.core),
        [s.tabs.seedOf d tb 0, s.tabs.seedOf d tb 1]⟩
      let rest := s.planInserts (t.applyPath d tb path ⟨key, words, hw, 0⟩) r
      (p :: rest.1, rest.2)
  | t, _ :: r => s.planInserts t r

/-- The key of a plan was present on its die when it was planned. -/
def CPlan.present (p : CPlan) : Bool := p.seen.any (fun e => e.any (fun x => x.key == p.key))

/-- A plan still stands: its slots hold what they held, the seeds are the same, and its key has not come or gone (R161,
R181). -/
def State.cplanStands (s : State) (p : CPlan) : Bool :=
  p.path.map (fun l => (s.tabs.slotAt p.die p.tb l).map HEnt.core) == p.seen &&
    p.seeds == [s.tabs.seedOf p.die p.tb 0, s.tabs.seedOf p.die p.tb 1] &&
    (s.tabs.findKey p.die p.tb p.key).isSome == p.present

/-- The context of sequencer `q` that holds its staging. -/
def State.stagingHolder (s : State) (q : Nat) : Option Nat :=
  (List.range 8).find? (fun c => (s.ctx (8 * q + c)).elim false (fun x => x.holds))

/-- CHT_SEQ_STS of sequencer `q` (Table 15-11). -/
def State.seqStatus (s : State) (q : Nat) : Nat :=
  let ctxs := (List.range 8).map (fun c => s.ctx (8 * q + c))
  let busy := (ctxs.zipIdx.map (fun e => if e.1.isSome then 2 ^ e.2 else 0)).sum
  let wait := ctxs.any (fun e => e.elim false (fun x => x.wait == CWait.commit))
  let stg := match s.stagingHolder q with
    | none => 0
    | some c =>
      let n := s.stagedCount ((s.ctx (8 * q + c)).elim [] (fun x => x.staged))
      c * 2 ^ 8 + 2 ^ 11 + min 4096 n.1 * 2 ^ 12 + min 4096 n.2 * 2 ^ 25
  busy + stg + boolNat wait * 2 ^ 38

end Sys2Proof.Machine
end

