-- ==== Sys2Proof/Machine/PcieCfg.lean ====
section
/-! DEFINITION. Configuration space (spec/13, R305 to R308, R310, R313, R314). The spec gives the structures and their
offsets; the places of the bits within them, and which may be written, are those of the PCI Express Base Specification
that R305 names (PRESUMED, log entry 4). -/

namespace Sys2Proof.Machine

/-- The kind of a function: 0 PF0, 1 PF1, 2 a VF. -/
def fnKind (f : Nat) : Nat := min f 2

/-- The Device ID of a function (Table 13-3). -/
def deviceId (p : Part) (kind : Nat) : Nat :=
  match p with
  | .bx2560 => if kind = 2 then 0x256F else 0x2560
  | .bx1920 => if kind = 2 then 0x192F else 0x1920
  | .bx1280 => if kind = 2 then 0x128F else 0x1280

/-- MSI-X vectors of a function, less one (Table 13-3). -/
def vectorsLess1 (kind : Nat) : Nat := if kind = 0 then 63 else if kind = 1 then 2047 else 31

/-- The header and the structures up to 0x0FF: fixed bits, and reset values of writable bits, by dword. -/
def cfgLow (p : Part) (k dw : Nat) : Nat :=
  match dw with
  | 0x00 => 0x1FD4 + deviceId p k * 65536
  | 0x01 => 0x00100000
  | 0x02 => (if k = 0 then 0x088000 else 0x028000) * 256 + 0xB0
  | 0x03 => if k = 2 then 0 else 0x00800000
  | 0x04 | 0x06 | 0x08 => if k = 2 then 0 else 4
  | 0x0D => if k = 2 then 0x50 else 0x40
  | 0x10 => if k = 2 then 0 else 0x00035001
  | 0x14 => 0x6011 + vectorsLess1 k * 65536
  | 0x15 => 4
  | 0x16 => if k = 2 then 0x804 else 0x8004
  | 0x18 => 0x80020010
  | 0x19 => 0x10008022
  | 0x1A => if k = 2 then 0 else 0x2110
  | 0x1B => 0x00400906
  | 0x21 => 0x3001F + (if k = 0 then 0x800 else 0)
  | 0x23 => 0x7E
  | 0x24 => if k = 0 then 6 else 0
  | _ => 0

/-- The extended structures: headers with their Next pointers, and fixed bits, by dword (Table 13-6). -/
def cfgHigh (p : Part) (k dw : Nat) : Nat :=
  match dw with
  | 0x40 => (if k = 2 then 0x2E0 else 0x180) * 2 ^ 20 + 0x20001
  | 0x43 => 0x462010
  | 0x45 => 0x6000
  | 0x60 => if k = 0 then 0x19010003 else if k = 1 then 0x2B010003 else 0
  | 0x64 => if k = 0 then 0x1C010019 else 0
  | 0x70 => if k = 0 then 0x1D010025 else 0
  | 0x71 => if k = 0 then 0x80000001 else 0
  | 0x74 => if k = 0 then 0x20010026 else 0
  | 0x80 => if k = 0 then 0x2301002A else 0
  | 0x8C => if k = 0 then 0x26010031 else 0
  | 0x98 => if k = 0 then 0x2B010027 else 0
  | 0xAC => if k = 0 then 0x2C01002F else if k = 1 then 0x2E01002F else 0
  | 0xAD => if k = 2 then 0 else 0xE
  | 0xB0 => if k = 0 then 0x2D010018 else 0
  | 0xB4 => if k = 0 then 0x2E01001E else 0
  | 0xB5 => if k = 0 then 0x1F else 0
  | 0xB8 => (if k = 0 then 0x400 else if k = 1 then 0x300 else 0) * 2 ^ 20 + 0x1000E
  | 0xB9 => if k = 0 then 0x100 else 0
  | 0xC0 => if k = 1 then 0x00010010 else 0
  | 0xC3 => if k = 1 then 0x003E003E else 0
  | 0xC4 => if k = 1 then 0x00010000 else 0
  | 0xC5 => if k = 1 then 0x00010001 else 0
  | 0xC6 => if k = 1 then deviceId p 2 * 65536 else 0
  | 0xC7 => if k = 1 then 0x11 else 0
  | 0xC8 => if k = 1 then 1 else 0
  | 0xC9 | 0xCB | 0xCD => if k = 1 then 4 else 0
  | 0x100 => if k = 0 then 0x0001000B else 0
  | 0x101 => if k = 0 then 0x61010001 else 0
  | _ => 0

/-- The writable bits of a dword. -/
def cfgWritable (k dw : Nat) : BitVec 32 :=
  match dw with
  | 0x01 => if k = 2 then 0x4 else 0x146
  | 0x03 => if k = 2 then 0 else 0xFF
  | 0x04 => if k = 2 then 0 else 0xFC000000
  | 0x05 | 0x07 | 0x09 => if k = 2 then 0 else 0xFFFFFFFF
  | 0x06 => if k = 2 then 0 else 0xFF000000
  | 0x08 => if k = 2 then 0 else 0xFFFF0000
  | 0x0F => if k = 2 then 0 else 0xFF
  | 0x14 => 0xC0000000
  | 0x1A => if k = 2 then 0 else 0x71FF
  | 0x1C => if k = 2 then 0 else 0x1CB
  | 0x22 => if k = 0 then 0x141F else if k = 1 then 0x101F else 0
  | 0x24 => if k = 0 then 0xFFFF else 0
  | 0x42 | 0x43 => if k = 2 then 0 else 0x57F010
  | 0x45 => if k = 2 then 0 else 0x71C1
  | 0xAE => if k = 0 then 0xE else if k = 1 then 0x6 else 0
  | 0xB1 => if k = 0 then 0x1FFF1FFF else 0
  | 0xB6 => if k = 0 then 0xE3FFFF0F else 0
  | 0xB7 => if k = 0 then 0xFF else 0
  | 0xC2 => if k = 1 then 0x19 else 0
  | 0xC4 => if k = 1 then 0xFFFF else 0
  | 0xC8 => if k = 1 then 0x11 else 0
  | 0xC9 | 0xCB => if k = 1 then 0xFFFF0000 else 0
  | 0xCA | 0xCC | 0xCE => if k = 1 then 0xFFFFFFFF else 0
  | 0xCD => if k = 1 then 0xFFFFF000 else 0
  | _ => 0

/-- The bits of a dword that a 1 clears. -/
def cfgClears (dw : Nat) : BitVec 32 :=
  match dw with
  | 0x1A => 0xF0000
  | 0x41 => 0x57F010
  | 0x44 => 0x71C1
  | 0x66 => 0xFFFF
  | _ => 0

/-- The cage register at a dword of the cage capability (Table 13-7). -/
def cageAt (dw : Nat) : Option (Reg × Nat) :=
  if 0x104 ≤ dw ∧ dw < 0x104 + 384 then
    let i := dw - 0x104
    some ((if i % 3 = 0 then .CAGE_CAP else if i % 3 = 1 then .CAGE_CTL else .CAGE_STS), i / 3)
  else none

/-- The fixed bits and reset values of a dword. -/
def State.cfgFixed (s : State) (f dw : Nat) : BitVec 32 :=
  BitVec.ofNat 32 (if dw < 0x40 then cfgLow s.part (fnKind f) dw else cfgHigh s.part (fnKind f) dw)

/-- Bits of a dword that the device drives: Subsystem IDs, link speed and width, power state, serial number, cages. -/
def State.cfgLive (s : State) (f dw : Nat) : BitVec 32 :=
  let k := fnKind f
  match dw with
  | 0x0B => s.pcie.subsys
  | 0x1C => BitVec.ofNat 32 (s.fld F.PCX_LINK_STS_SPEED 0 * 2 ^ 16 + s.fld F.PCX_LINK_STS_WIDTH 0 * 2 ^ 20)
  | 0x61 => if k = 2 then 0 else (s.reg .GLB_SERIAL 0).setWidth 32
  | 0x62 => if k = 2 then 0 else (s.reg .GLB_SERIAL 0 >>> 32).setWidth 32
  | 0x102 => if k = 0 then BitVec.ofNat 32 (s.fld F.CAGE_CMB_CFG_NCAGE 0) else 0
  | _ => match cageAt dw with
    | some (r, g) => if k = 0 then (s.reg r g).setWidth 32 else 0
    | none => 0

/-- What a configuration read of a dword returns. -/
def State.cfgRead (s : State) (f dw : Nat) : BitVec 32 := (s.cfgFixed f dw ^^^ s.cfgWord f dw) ||| s.cfgLive f dw

/-- The bits that byte enables cover. -/
def byteMask (be : BitVec 4) : BitVec 32 :=
  BitVec.ofNat 32 ((onesOf 4 be.toNat).map (fun i => 255 * 256 ^ i)).sum

/-- A write of the power state of a PF: D0 and D3hot only (R321). -/
def State.writePower (s : State) (f v : Nat) : State :=
  if v = 3 ∧ s.inD3 f = false then s.enterD3 f
  else if v = 0 ∧ s.inD3 f = true then s.leaveD3 f
  else s

/-- What a write of a dword does beyond storing it; `old` is the state before it. -/
def State.cfgEffect (s old : State) (f dw : Nat) (bm v : BitVec 32) : State :=
  match dw with
  | 0x01 => if old.busMaster f && !s.busMaster f then s.busMasterStops f else s.pf1Refresh
  | 0x1A => if (bm &&& v).getLsbD 15 then s.flrStart f else s
  | 0x22 => s.ltrUpdate
  | 0xC2 => if f = 1 ∧ old.vfEnable = true ∧ s.vfEnable = false then s.vfsOff (vfFns.filter old.fnExists) else s
  | _ => s

/-- A configuration write under byte enables. -/
def State.cfgWrite (s : State) (f dw : Nat) (be : BitVec 4) (v : BitVec 32) : State :=
  let bm := byteMask be
  let k := fnKind f
  match (if k = 0 then cageAt dw else none) with
  | some (r, g) =>
    let m := bm.setWidth 64
    if r = .CAGE_CTL then s.writeCageCtl g m (v.setWidth 64) else s.plainWrite r g m (v.setWidth 64)
  | none =>
    if dw = 0x11 then (if k < 2 && be.getLsbD 0 then s.writePower f (v.toNat % 4) else s)
    else
      let frozen := dw = 0xC4 && s.vfEnable
      let w := if frozen then 0 else cfgWritable k dw &&& bm
      let word := s.cfgWord f dw
      let new := ((word &&& ~~~ w) ||| ((v ^^^ s.cfgFixed f dw) &&& w)) &&& ~~~ (v &&& bm &&& cfgClears dw)
      (s.setCfg f dw new).cfgEffect s f dw bm v

/-- A configuration request is answered: PD56 is on, the function answers in the mode (R307, R308). -/
def State.cfgAnswers (s : State) (f : Nat) : Bool :=
  s.domOn 56 && s.curMode != 0 && (f < 2 || (s.curMode != 1 && s.fnExists f))

/-- CONFIG_REQUEST: read or write of a dword; a function that does not answer gives Unsupported Request, counted in
PCX_RX_UR where it is the mode that refuses it (R307, R308, R313). -/
def execConfigRequest (f : Fin 64) (dw : Fin 1024) (wr : Bool) (be : BitVec 4) (v : BitVec 32) (s : State) : Res :=
  let s0 := s.begin
  if !s0.cfgAnswers f.val then
    .next (if s0.domOn 56 then (if s0.curMode = 1 then s0.bump .PCX_CNT 3 1 else s0).emit (.unsupported f.val) else s0)
  else if wr then .next (s0.cfgWrite f.val dw.val be v)
  else .next (s0.emit (.cfgData f.val (s0.cfgRead f.val dw.val)))

end Sys2Proof.Machine
end

