-- ==== Sys2Proof/Machine/RegView.lean ====
section
/-! DEFINITION. What a register reads as: the stored value, and the value of the fields that show state held elsewhere (R6,
and the register tables of spec/). -/

namespace Sys2Proof.Machine

/-- Several fields of a register put over its stored value: (lsb, width, value). -/
def putFields (v : BitVec 64) (l : List (Nat × Nat × Nat)) : BitVec 64 := l.foldl (fun a e => putField a e.1 e.2.1 e.2.2) v

/-- Pipelines and stacks that are present in the part, as GLB_UNITS shows them (R37). -/
def unitsPresent (p : Part) : Nat :=
  let on (base n : Nat) : Nat := ((List.range n).map (fun i => if (absentDomains p).contains (base + i) then 0 else 2 ^ i)).sum
  on 0 16 + on 32 4 * 2 ^ 16

/-- The queue of die `d` that holds spill context `x`. -/
def State.ctxQueue (s : State) (d x : Nat) : Option (Nat × QSt × Spill) :=
  (s.dieQueues d).findSome? (fun e => e.2.spill.bind (fun p => if p.ctx = x then some (e.1 % 65536, e.2, p) else none))

/-- Members of a LAG group's copy that are up (Table 8-10). -/
def State.lagUp (s : State) (i : Nat) : Nat :=
  ((List.range (min 16 (s.fld F.ACT_LAG_COUNT i))).map (fun j =>
    if s.memberUp (s.fld F.ACT_LAG_MEM_PORT (i * 16 + j)) then 2 ^ j else 0)).sum

/-- SCH_PORT_STS of local port `lp` of die `d`: classes paused, classes with a backlogged member, shaped (Table 10-10). -/
def State.portStatus (s : State) (i : Nat) : Nat :=
  let d := i / 75
  let lp := i % 75
  let bits (f : Nat → Bool) : Nat := ((List.range 8).map (fun c => if f c then 2 ^ c else 0)).sum
  bits (s.classPaused (globalPort d lp) lp d) + 2 ^ 8 * bits (fun c => (s.classRing d lp c).any (fun m => m.back)) +
    2 ^ 16 * boolNat (signedOf 40 (s.reg .SCH_PORT_TOK i).toNat < 0)

/-- The fields of instance `i` of a register that show state held elsewhere: (lsb, width, value). -/
def State.shown (s : State) (r : Reg) (i : Nat) : List (Nat × Nat × Nat) :=
  match r with
  | .GLB_ID => [(16, 16, deviceId s.part 0)]
  | .GLB_UNITS => [(0, 20, unitsPresent s.part)]
  | .GLB_HOSTLOSS => [(25, 1, boolNat s.lossLive)]
  | .GLB_FLT_SUM => [(0, 32, s.fltSum)]
  | .GLB_FLT_PIN => [(0, 32, s.fltPin)]
  | .FLT_LIVE => [(0, 32, s.fltLive i)]
  | .BOOT_JRN_DATA => [(0, 32, leAt (s.jrnRecord (s.fld F.BOOT_JRN_IDX_IDX 0)) (4 * i) 4)]
  | .PWR_DOM_STS => [(0, 3, s.domState i)]
  | .DMA_SQ_STS => [(49, 1, boolNat (s.sqBlocked i))]
  | .CHT_SEQ_STS => [(0, 39, s.seqStatus i)]
  | .ACT_LAG => [(16, 16, s.lagUp i)]
  | .STE_STORE_RD => [(0, 64, (s.reg .STE_STORE ((i / 32768 * 2 + i / 16384 % 2) * 8192 + i % 8192)).toNat)]
  | .LKP_TBL_STS => [(0, 20, s.hashCount (i / 3) (i % 3))]
  | .LKP_SID_STS => [(0, 20, (s.learning i).sids.length + (s.learning i).held.length)]
  | .TCM_PANEL_STS => [(2, 1, boolNat (s.panelLive i)), (10, 16, s.panelCount i)]
  | .BPM_POOL_CFG => [(32, 18, s.freeH i)]
  | .BPM_POOL_STS => [(0, 19, s.total i), (32, 19, s.reserved i)]
  | .BPM_PG_STS =>
    let p := i / 8
    let n := if s.flowCtl p = 1 && i % 8 != 0 then SMap.get (fun _ => 0) s.groups (p * 8 + i % 8) else s.groupCount p (i % 8)
    [(0, 18, n), (18, 1, boolNat (s.xoff.contains (p * 8 + i % 8)))]
  | .SKN_CELL_FREE => [(0, 19, s.total i - (s.buf i).banks.sum), (32, 19, s.freeS i)]
  | .SKN_SPILL_STS => [(0, 13, (s.ctxHeld i).length), (13, 1, boolNat (s.spillPaused i)), (32, 18, s.pagesFree i)]
  | .SKN_Q =>
    let q := s.queue (i / 34048 * 65536 + i % 34048)
    [(32, 18, q.cells), (50, 1, boolNat q.spill.isSome), (51, 12, q.spill.elim 0 (fun p => p.ctx))]
  | .SKN_CTX_STS => match s.ctxQueue (i / 4096) (i % 4096) with
    | none => []
    | some (q, _, p) => [(0, 16, q), (16, 1, 1), (17, 1, boolNat (p.move != 0)), (18, 1, boolNat p.fill), (32, 18, if p.dead then 0 else p.head)]
  | .SKN_CTX_CNT => match s.ctxQueue (i / 4096) (i % 4096) with
    | none => []
    | some (_, q, p) => [(0, 18, s.tailCells q), (32, 28, if p.dead then 0 else p.mid)]
  | .SCH_MC_STS => [(0, 14, s.replCells i false), (16, 14, s.replCells i true)]
  | .SCH_PORT_STS => [(0, 17, s.portStatus i)]
  | .SCH_GRP_STS => [(0, 16, s.backlog i)]
  | .SCH_PROBE_TOK => [(0, 40, unsignedOf 40 (s.leafTok i (s.eff F.SCH_PROBE_LEAF i)))]
  | .YRN_RSQ_STS => [(0, 15, s.heldCells i), (32, 14, (s.heldPkts i).length)]
  | _ => []

/-- What instance `i` of a register reads as, side effects apart (R6). -/
def State.view (s : State) (r : Reg) (i : Nat) : BitVec 64 := putFields (s.reg r i) (s.shown r i) &&& r.readMask

end Sys2Proof.Machine
end

