-- ==== Sys2Proof/Machine/RegAccess.lean ====
section
/-! DEFINITION. Reads and writes of registers by address: sizes, halves, shadows, refusals, and the meaning of a write for
each register (R6 to R17, R235, R311, R312, R326). -/

namespace Sys2Proof.Machine

/-- A write to a fault bank's enable or status: bits of no source are RSV (R384). -/
def State.writeFlt (s : State) (r : Reg) (k : Nat) (mask v : BitVec 64) : State :=
  s.plainWrite r k (mask &&& BitVec.ofNat 64 (fltMask (fun _ _ => true) k)) v

/-- A write to a reserve of die `d`: discarded where RESERVED would exceed TOTAL (R235). -/
def State.writeReserve (s : State) (r : Reg) (i d : Nat) (mask v : BitVec 64) : State :=
  let t := s.plainWrite r i mask v
  if s.total d < t.reserved d then s.setFld F.BPM_POOL_STS_CFG_REFUSED d 1 else t

/-- A write to a LAG register waits for the next edge, where it goes to every pipeline's copy (R214). -/
def State.writeLag (s : State) (member : Bool) (r : Reg) (i n : Nat) (mask v : BitVec 64) : State :=
  { s with lags := s.lags ++ [(member, i % n, r.written (s.reg r i) mask v)] }

/-- The meaning of a write of `v` to the bits `mask` of instance `i` of a register by agent `a`, once it is taken. -/
def State.writeReg (s : State) (a : Agent) (r : Reg) (i : Nat) (mask v : BitVec 64) : State :=
  match r with
  | .TIK_PERIOD_NEXT => s.writePeriodNext mask v
  | .TIK_SYNC => s.writeTikSync mask v
  | .GLB_HOSTLOSS => s.writeHostLoss mask v
  | .GLB_HEARTBEAT => s.writeHeartbeat
  | .GLB_MODE_REQ => s.writeModeReq a false mask v
  | .FLT_STS | .FLT_EN_INT | .FLT_EN_PIN | .FLT_EN_NTF | .FLT_EN_JRN | .FLT_EN_ACT => s.writeFlt r i mask v
  | .FLT_INJ => s.writeInject i (v &&& mask)
  | .PWR_CAP_STS => (s.plainWrite r i mask v).setFld F.PWR_CAP_STS_PEAK 0 0
  | .PWR_TEMP => let t := s.plainWrite r i mask v; t.setFld F.PWR_TEMP_PEAK 0 (t.fld F.PWR_TEMP_TJ 0)
  | .PWR_DOM_CMD => s.writeDomCmd mask v
  | .BOOT_CTL => s.writeBootCtl a mask v
  | .BOOT_SLOT_CTL => s.writeSlotCtl mask v
  | .BOOT_JRN_CMD => s.writeJournalCmd (v &&& mask)
  | .PCX_FUNC_RINGS => s.writeFuncRings i mask v
  | .PCX_LTR => (s.plainWrite .PCX_LTR i mask v).ltrUpdate
  | .DMA_SQ_CFG => s.writeRingCfg false i mask v
  | .DMA_CQ_CFG => s.writeRingCfg true i mask v
  | .DMA_SQ_BASE | .DMA_SQ_IDX => s.writeRingAddr false r i mask v
  | .DMA_CQ_BASE | .DMA_CQ_IDX => s.writeRingAddr true r i mask v
  | .TIM_ADJ => s.writeTimAdj mask v
  | .TIM_SET_SEC => s.writeTimSet mask v
  | .CAGE_CTL => s.writeCageCtl i mask v
  | .CAGE_I2C_CTL => s.writeI2c i mask v
  | .SEC_DBG_CTL => s.writeDbgCtl false mask v
  | .STE_STORE => s.writeImage (i / 16384) (i / 8192 % 2) (.word (Fin.ofNat 8192 i)) mask v
  | .STE_ENTRY => s.writeImage (i / 64) (i / 32 % 2) (.entry (Fin.ofNat 2 (i / 16)) (Fin.ofNat 16 i)) mask v
  | .STE_SRC_MAP => s.writeImage (i / 4) (i / 2 % 2) (.srcMap (Fin.ofNat 2 i)) mask v
  | .STE_PAGES => s.writeImage (i / 4) (i / 2 % 2) (.pages (Fin.ofNat 2 i)) mask v
  | .STE_IMG => s.writeImg i mask v
  | .STE_ENG_STS => (s.plainWrite r i mask v).setFld F.STE_ENG_STS_MIN_FREE i 96
  | .ACT_LAG => s.writeLag false r i 128 mask v
  | .ACT_LAG_MEM => s.writeLag true r i 2048 mask v
  | .ACT_BFD_CTL => s.writeBfdCtl i mask v
  | .ACT_BFD_FMT => s.writeBfdFixed r i i mask v
  | .ACT_BFD_TPL => s.writeBfdFixed r i (i / 24) mask v
  | .GGE_CNT => s.writeGaugeCnt i mask v
  | .GGE_COL_CMD => s.writeColCmd mask v
  | .GGE_COL_RNG_A => s.writeRange false i mask v
  | .GGE_COL_RNG_B => s.writeRange true i mask v
  | .SDS_LANE_CFG => s.writeLaneCfg i mask v
  | .MAC_PORT_CFG => s.writePortCfg i mask v
  | .MAC_PORT_CMD => s.writePortCmd i mask v
  | .MSC_SA_CTL => s.writeSaCtl i mask v
  | .TCM_PANEL_CFG => s.writePanelCfg i mask v
  | .TCM_PANEL_STS => (s.plainWrite r i mask v).setFld F.TCM_PANEL_STS_QMAX i 0
  | .LKP_HASH_SEED => s.writeSeed (i / 6) (i / 2 % 3) (i % 2) mask v
  | .BPM_POOL_CFG => s.writeReserve r i i mask v
  | .BPM_SYS => s.writeReserve r i (i / 2) mask v
  | .BPM_QPROF => s.writeReserve r i (i / 16) mask v
  | .SKN_Q => s.writeReserve r i (i / 34048) mask v
  | .SCH_LEAF => s.writeLeaf i mask v
  | .SCH_GRP => s.writeGrp i mask v
  | .YRN_ID => s.writeYrnId mask v
  | .YRN_RESEQ_CMD => s.writeReseqCmd mask v
  | .HBC_SPD_CMD => s.writeSpeedCmd i mask v
  | .HBC_TIM => s.writeHbcSet r i (i / 32) (i / 8 % 4) mask v
  | .HBC_DLY => s.writeHbcSet r i (i / 640) (i / 160 % 4) mask v
  | _ => s.plainWrite r i mask v

/-- The held lower half and the shadow of an agent (R14). -/
def State.holdOf (s : State) (a : Agent) : Option Half := SMap.get (fun _ => none) s.bus.holds (agentNum a)
def State.shadowOf (s : State) (a : Agent) : Option Half := SMap.get (fun _ => none) s.bus.shadows (agentNum a)

/-- The state with an agent's held half, or its shadow, changed. -/
def State.setHold (s : State) (a : Agent) (h : Option Half) : State :=
  { s with bus := { s.bus with holds := SMap.set (fun _ => none) s.bus.holds (agentNum a) h } }
def State.setShadow (s : State) (a : Agent) (h : Option Half) : State :=
  { s with bus := { s.bus with shadows := SMap.set (fun _ => none) s.bus.shadows (agentNum a) h } }

/-- The mask of the upper half of a 64-bit register. -/
def high32 : BitVec 64 := 0xFFFFFFFF00000000

/-- A write taken through the checks of R14 to R17; answers whether R17 refused it. -/
def State.tryWrite (s : State) (a : Agent) (r : Reg) (i : Nat) (f : State → State) : State × Bool :=
  let t := s.touch a (r.key i)
  match s.reach a r i with
  | .undefined => (s, false)
  | .violation => (t.accViol a, true)
  | .off => (t, false)
  | .ok => (f t, false)

/-- A 32-bit write of a lower half is held; one of an upper half joins the half that the agent holds of the same register
(R12, R14). -/
def State.writeHalf (s : State) (a : Agent) (r : Reg) (i : Nat) (upper : Bool) (v : BitVec 32) : State :=
  if !upper then s.setHold a (some ⟨r.key i, v⟩)
  else match s.holdOf a with
    | some h =>
      if h.key = r.key i then (s.setHold a none).writeReg a r i all64 (v ++ h.value : BitVec 64)
      else s.writeReg a r i high32 (v ++ (0 : BitVec 32) : BitVec 64)
    | none => s.writeReg a r i high32 (v ++ (0 : BitVec 32) : BitVec 64)

/-- A 32-bit write at an aligned address of BAR0 (R12, R15). -/
def State.write32 (s : State) (a : Agent) (addr : Nat) (v : BitVec 32) : State × Bool :=
  match locate addr with
  | none => (s, false)
  | some (r, i, rem) =>
    s.tryWrite a r i (fun t => if r.width = 32 then t.writeReg a r i low32 (v.setWidth 64) else t.writeHalf a r i (rem == 4) v)

/-- The bits of the 32-bit register at an address that a written 1 clears. -/
def clearBits (addr : Nat) : BitVec 32 :=
  match locate addr with
  | some (r, _, _) => if r.width = 32 then (r.w1cMask ||| r.countMask).setWidth 32 else 0
  | none => 0

/-- What a write clears in the 32-bit register at an address is cleared, where the agent reaches it. -/
def State.clearFirst (s : State) (a : Agent) (addr : Nat) (v : BitVec 32) : State :=
  match locate addr with
  | some (r, i, _) =>
    if r.width = 32 ∧ s.reach a r i = .ok then s.plainWrite r i ((clearBits addr).setWidth 64) (v.setWidth 64)
    else s
  | none => s

/-- A 64-bit write at an aligned address of BAR0: to a 64-bit register at once, to two 32-bit registers in one clock. What
it clears in the upper register is cleared before the lower is written, so that a status bit which the lower write sets in
that clock is left set (R7). -/
def State.write64 (s : State) (a : Agent) (addr : Nat) (v : BitVec 64) : State × Bool :=
  match locate addr with
  | some (r, i, 0) =>
    if r.width = 64 then s.tryWrite a r i (fun t => t.writeReg a r i all64 v)
    else
      let hi := v.extractLsb' 32 32
      let p := (s.clearFirst a (addr + 4) hi).write32 a addr (v.extractLsb' 0 32)
      let q := p.1.write32 a (addr + 4) (hi &&& ~~~ clearBits (addr + 4))
      (q.1, p.2 || q.2)
  | _ => s.write32 a (addr + 4) (v.extractLsb' 32 32)

/-- The value of a whole register when it is read: a read of TIM_TOD_NS latches the seconds, and the next read of
TIM_TOD_SEC returns them (Table 3-22). -/
def State.readWhole (s : State) (r : Reg) (i : Nat) : BitVec 64 × State :=
  match r with
  | .TIM_TOD_NS => (s.view r i, { s with tim := { s.tim with latch := some (s.view .TIM_TOD_SEC 0) } })
  | .TIM_TOD_SEC => (s.tim.latch.getD (s.view r i), { s with tim := { s.tim with latch := none } })
  | _ => (s.view r i, s)

/-- A 32-bit read of a register that an agent reaches: halves by R13. -/
def State.readHalf (s : State) (a : Agent) (r : Reg) (i : Nat) (upper : Bool) : BitVec 32 × State :=
  let key := r.key i
  match upper, s.shadowOf a with
  | true, some h =>
    if h.key = key then (h.value, s.setShadow a none)
    else let p := s.readWhole r i; (p.1.extractLsb' 32 32, p.2)
  | true, none => let p := s.readWhole r i; (p.1.extractLsb' 32 32, p.2)
  | false, _ =>
    let p := s.readWhole r i
    (p.1.extractLsb' 0 32, if r.width = 64 then p.2.setShadow a (some ⟨key, p.1.extractLsb' 32 32⟩) else p.2)

/-- A 32-bit read at an aligned address of BAR0: the value, the state, and whether R17 refused it (R13, R15 to R17). -/
def State.read32 (s : State) (a : Agent) (addr : Nat) : BitVec 32 × State × Bool :=
  match locate addr with
  | none => (0, s, false)
  | some (r, i, rem) =>
    let t := s.touch a (r.key i)
    match s.reach a r i with
    | .undefined => (0, s, false)
    | .violation => (0, t.accViol a, true)
    | .off => (0xFFFFFFFF, t, false)
    | .ok => let p := t.readHalf a r i (rem == 4); (p.1, p.2, false)

/-- A 64-bit read at an aligned address of BAR0. -/
def State.read64 (s : State) (a : Agent) (addr : Nat) : BitVec 64 × State × Bool :=
  let two : BitVec 64 × State × Bool :=
    let p := s.read32 a addr
    let q := p.2.1.read32 a (addr + 4)
    ((q.1 ++ p.1 : BitVec 64), q.2.1, p.2.2 || q.2.2)
  match locate addr with
  | some (r, i, 0) =>
    if r.width = 64 then
      let t := s.touch a (r.key i)
      match s.reach a r i with
      | .undefined => (0, s, false)
      | .violation => (0, t.accViol a, true)
      | .off => (all64, t, false)
      | .ok => let p := t.readWhole r i; (p.1, p.2, false)
    else two
  | _ => two

/-- The lowest bytes of a word, from byte `off` on. -/
def bytesOfWord (w : BitVec 32) (off n : Nat) : BitVec 64 := BitVec.ofNat 64 (w.toNat / 2 ^ (8 * off) % 2 ^ (8 * n))

/-- The access lies where R11 lets it reach a register. -/
def reachesWord (addr size : Nat) : Bool :=
  if size = 8 then addr % 8 == 0 else if size = 4 then addr % 4 == 0 else size < 4 && addr % 4 + size ≤ 4

/-- A request that R312 refuses; `wr`: a write, whose short forms are discarded in silence. -/
def reqRefused (q : BusReq) (wr : Bool) : Bool :=
  8 < q.size || 8 < q.addr % 8 + q.size || !q.contig || !(reachesWord q.addr q.size || (wr && q.size < 4))

/-- The BAR0 address of a PF that a request of an agent names, if any (R311). -/
def State.busAddr (s : State) (a : Agent) (addr : Nat) : Option Nat :=
  match a with
  | .fn f => if f.val < 2 then some addr else (s.vfAddr f.val (addr - addr % 4)).map (· + addr % 4)
  | _ => some addr

/-- A read of BAR0 through R11 to R17. -/
def State.busRead (s : State) (a : Agent) (addr size : Nat) : BitVec 64 × State × Bool :=
  if !reachesWord addr size then (0, s, false)
  else match s.busAddr a addr with
    | none => (0, s, false)
    | some x =>
      if size = 8 then s.read64 a x
      else
        let p := s.read32 a (x - x % 4)
        (bytesOfWord p.1 (x % 4) size, p.2)

/-- A write of BAR0 through R11 to R17: fewer than 32 bits are discarded. -/
def State.busWrite (s : State) (a : Agent) (addr size : Nat) (v : BitVec 64) : State × Bool :=
  if size < 4 || !reachesWord addr size then (s, false)
  else match s.busAddr a addr with
    | none => (s, false)
    | some x => if size = 8 then s.write64 a x v else s.write32 a x (v.setWidth 32)

/-- The PBA bit of vector `k`: PEND while the vector or its function is masked (R328). -/
def State.pbaBit (s : State) (k : Nat) : Bool :=
  s.bit F.PCX_IMOD_PEND k && ((s.msixEnt k).mask || s.msixMasked (vectorOwner k).1)

/-- The vector of function `f` whose table entry holds BAR4 offset `off` (Table 13-4, R326). -/
def msixAt (f off : Nat) : Option Nat := if off < (if f < 2 then 0x8000 else 0x800) then vectorNum f (off / 16) else none

/-- A dword of BAR4: MSI-X table, then the PBA (Table 13-4). -/
def State.msixRead (s : State) (f off : Nat) : BitVec 32 :=
  match msixAt f off with
  | some k =>
    let e := s.msixEnt k
    match off / 4 % 4 with
    | 0 => e.addr.extractLsb' 0 32
    | 1 => e.addr.extractLsb' 32 32
    | 2 => e.data
    | _ => if e.mask then 1 else 0
  | none =>
    let base := if f < 2 then 0x8000 else 0x800
    if off < base then 0
    else BitVec.ofNat 32 (((List.range 32).map (fun b => match vectorNum f ((off - base) / 4 * 32 + b) with
      | some k => if s.pbaBit k then 2 ^ b else 0
      | none => 0)).sum)

/-- A dword write to BAR4: table entries only. -/
def State.msixWrite (s : State) (f off : Nat) (v : BitVec 32) : State :=
  match msixAt f off with
  | none => s
  | some k =>
    let e := s.msixEnt k
    s.setMsix k (match off / 4 % 4 with
      | 0 => { e with addr := (e.addr.extractLsb' 32 32 ++ (v &&& 0xFFFFFFFC) : BitVec 64) }
      | 1 => { e with addr := (v ++ e.addr.extractLsb' 0 32 : BitVec 64) }
      | 2 => { e with data := v }
      | _ => { e with mask := v.getLsbD 0 })

/-- The function behind an agent, where the agent is one. -/
def agentFn : Agent → Option Nat
  | .fn f => some f.val
  | _ => none

/-- REGISTER_WRITE (R6, R8, R11 to R17, R308, R312, R326, R335). -/
def execRegisterWrite (a : Agent) (q : BusReq) (v : BitVec 64) (s : State) : Res :=
  let s0 := s.begin
  match s0.gate a with
  | some t => .next t
  | none =>
    match agentFn a with
    | none => .next (s0.busWrite a q.addr q.size v).1
    | some f =>
      if q.bar = .bar2 then .next (s0.writeBar2 f q.addr q.size v)
      else if reqRefused q true then .next (s0.bump .PCX_CNT 4 1)
      else if q.bar = .bar0 then .next (s0.busWrite a q.addr q.size v).1
      else if q.size < 4 then .next s0
      else if q.size = 4 then .next (s0.msixWrite f q.addr (v.setWidth 32))
      else .next ((s0.msixWrite f q.addr (v.extractLsb' 0 32)).msixWrite f (q.addr + 4) (v.extractLsb' 32 32))

/-- A read is answered with its data. -/
def State.answer (a : Agent) (size : Nat) (p : BitVec 64 × State × Bool) : State := p.2.1.emit (.readData a p.1 size)

/-- REGISTER_READ (R11, R13 to R17, R308, R312, R326; R335: a read of BAR2 returns 0). -/
def execRegisterRead (a : Agent) (q : BusReq) (s : State) : Res :=
  let s0 := s.begin
  match s0.gate a, agentFn a with
  | some t, some f => .next (t.emit (.unsupported f))
  | some t, none => .next t
  | none, none => .next (State.answer a q.size (s0.busRead a q.addr q.size))
  | none, some f =>
    if q.bar = .bar2 then .next (s0.emit (.readData a 0 q.size))
    else if reqRefused q false then .next ((s0.bump .PCX_CNT 4 1).emit (.abort f))
    else if q.bar = .bar0 then .next (State.answer a q.size (s0.busRead a q.addr q.size))
    else
      let w := s0.msixRead f (q.addr - q.addr % 4)
      .next (State.answer a q.size
        (if q.size = 8 then (s0.msixRead f (q.addr + 4) ++ w : BitVec 64) else bytesOfWord w (q.addr % 4) q.size, s0, false))

/-- HALF_READ_LATCH: a 32-bit read of the lower half of a 64-bit register latches the upper half (R13). -/
def execHalfReadLatch (a : Agent) (addr : Nat) (s : State) : Res :=
  let s0 := s.begin
  match s0.busAddr a addr with
  | some x => match locate x with
    | some (r, _, 0) => if r.width = 64 then execRegisterRead a ⟨.bar0, addr, 4, true⟩ s else .next s0
    | _ => .next s0
  | none => .next s0

end Sys2Proof.Machine
end

