-- ==== Sys2Proof/Machine/Chart.lean ====
section
/-! DEFINITION. Chart programs: how they start, how an entry is checked and executed, waits, register instructions, flushes
and frames (spec/15, R357 to R375). Staging and COMMIT are in `ChartCommit`, table reads in `ChartRead`. -/

namespace Sys2Proof.Machine

/-- A staging instruction waits while another context of its sequencer holds the staging (R364). -/
def State.stagingWaits (s : State) (q c : Nat) (e : Bytes) : Bool :=
  chartStages e && cCount e != 0 && (s.stagingHolder q).any (fun h => h != c)

/-- The sequencers work: their domain is ON. -/
def State.chartOn (s : State) : Bool := s.domState 57 == 3

/-- Context `c` of sequencer `q` takes its next entry and executes it by `f`, where the entry is one of `ops`. -/
def State.chartRun (s : State) (q c : Nat) (ops : Bytes → Bool) (f : State → Nat → Ctx → Bytes → State) : State :=
  let k := 8 * q + c
  match s.ctx k with
  | none => s
  | some x =>
    if !s.chartOn || x.wait != CWait.none || x.status != 0 then s
    else match s.takeEntry k x with
      | none => s
      | some (_, e, x1, s1) =>
        if !ops e || s.stagingWaits q c e then s
        else match s1.chartCheck x1 e with
          | 0 => if chartIdle e then s1.chartDone k else f s1 k x1 e
          | st => s1.chartFail k st

/-- The entries that one instruction's command executes. -/
def opIs (n : Nat) (e : Bytes) : Bool := cOp e == n

/-- The next ring of sequencer `q` that has a program to start, in ascending order after the ring started last (R357). -/
def State.programRing (s : State) (q : Nat) : Option Nat :=
  let last := SMap.get (fun _ => 4095) s.chart.started q
  ((List.range 4096).map (fun i => (last + 1 + i) % 4096)).find? (fun g =>
    !(s.sq g).entries.isEmpty && s.bit F.DMA_SQ_STS_ENABLED g && s.fld F.DMA_SQ_CFG_KIND g == 2 &&
      s.fld F.DMA_SQ_CFG_SEQ g == q && !(s.sq g).stopping && (s.ctxsOf g).isEmpty && !s.sqBlocked g &&
      s.cqPlaces (s.boundCq g) != 0)

/-- PROGRAM_START: free context `c` of sequencer `q` starts the next program of the sequencer's rings; none once HIBERNATE
has been accepted (R357, R358, R348, R422). -/
def execProgramStart (q c : Fin 8) (s : State) : Res :=
  let s0 := s.begin
  let k := 8 * q.val + c.val
  let top := min 8 (max 1 (s0.fld F.CHT_CFG_CTX 0))
  if !s0.chartOn || top ≤ c.val || (s0.ctx k).isSome || (s0.bit F.GLB_MODE_BUSY 0 && s0.fld F.GLB_MODE_TARGET 0 == 11) then .next s0
  else match s0.programRing q.val with
    | none => .next s0
    | some g =>
      let s1 := s0.beginEntries g 0
      let s2 := (s1.setSq g { s1.sq g with begun := programMark }).setCtx k (some (Ctx.start g))
      .next (({ s2 with chart := { s2.chart with started := SMap.set (fun _ => 4095) s2.chart.started q.val g } }).bump .CHT_CNT 0 1)

/-- CHART_NOP: NOP does nothing; an entry whose opcode is absent from Table 15-3 ends its program (R362). -/
def execChartNop (q c : Fin 8) (s : State) : Res :=
  .next (s.begin.chartRun q.val c.val (fun e => opIs 0 e || (chartUse e).isNone) (fun t k _ _ => t.chartDone k))

/-- RBASE: the result area is A bytes at B, written from its beginning (R371). -/
def execRbase (q c : Fin 8) (s : State) : Res :=
  .next (s.begin.chartRun q.val c.val (opIs 1) (fun t k x e =>
    (t.setCtx k (some { x with area := some (cB e, cA e, 0) })).chartDone k))

/-- FENCE: the writes and admissions of earlier instructions have taken effect when they ended (R370). -/
def execFence (q c : Fin 8) (s : State) : Res :=
  .next (s.begin.chartRun q.val c.val (opIs 2) (fun t k _ _ => t.chartDone k))

/-- WAIT_TICK: the program waits until COUNT edges have passed. -/
def execWaitTick (q c : Fin 8) (s : State) : Res :=
  .next (s.begin.chartRun q.val c.val (opIs 3) (fun t k x e => t.setCtx k (some { x with wait := .ticks (cCount e) })))

/-- WAIT_AT: the program waits for the edge at which TIK_COUNT[31:0] equals A; a past or present value ends the wait at
once (R369). -/
def execWaitAt (q c : Fin 8) (s : State) : Res :=
  .next (s.begin.chartRun q.val c.val (opIs 4) (fun t k x e =>
    let d := (cA e + 2 ^ 32 - t.tikCount.toNat % 2 ^ 32) % 2 ^ 32
    if d = 0 || 2 ^ 31 ≤ d then t.chartDone k else t.setCtx k (some { x with wait := .edge (cA e) })))

/-- CHART_WAIT_END: the edge that WAIT.TICK or WAIT.AT awaited has come (R369). -/
def execChartWaitEnd (q c : Fin 8) (s : State) : Res :=
  let s0 := s.begin
  let k := 8 * q.val + c.val
  .next (if (s0.ctx k).any (fun x => x.wait == CWait.ready) then s0.chartDone k else s0)

/-- `n` more bytes fit in the result area of a context (R371). -/
def Ctx.room (c : Ctx) (n : Nat) : Bool := c.area.any (fun a => a.2.2 + n ≤ a.2.1)

/-- Result records are written one after another into the result area (R363, R371, Table 15-6). -/
def State.chartResult (s : State) (k : Nat) (data : Bytes) : State :=
  match s.ctx k with
  | none => s
  | some c =>
    match c.area with
    | none => s
    | some (addr, size, used) =>
      let f := s.ownerOf false c.ring
      let s1 := s.setCtx k (some { c with area := some (addr, size, used + data.length), bytes := c.bytes + data.length })
      (if s.fnMayIssue f then s1.sendTlp (.memWrite f (addr + used) data) else s1).bump .CHT_CNT 8 data.length

/-- An instruction that has read its records returns them and ends, or ends its program with CHT_E_RESULT before it writes
any (R371). -/
def State.chartReturn (s : State) (k : Nat) (c : Ctx) (data : Bytes) : State :=
  if c.room data.length then (s.chartResult k data).chartDone k else s.chartFail k 5

/-- An instruction with an operand at B: one whose operand has arrived executes by `f`; one whose operand is still being read
ahead waits; one that nothing has been read for asks for it, and its entry stays. A read that failed, or that the ring's
function may not issue, ends the program with CHT_E_OPREAD (R325, R359, R363). -/
def State.operandStep (s : State) (q c op : Nat) (f : State → Nat → Ctx → Bytes → Bytes → State) : State :=
  s.chartRun q c (opIs op) (fun t k x e =>
    let y := { x with operand := none }
    let waits := s.setCtx k ((s.ctx k).map (fun z => { z with wait := .operand }))
    let fn := s.ownerOf false x.ring
    match x.operand, s.aheadOf x x.last with
    | some d, _ => f (t.setCtx k (some y)) k y e d
    | none, some a =>
      match a.got with
      | some (some d) => f (t.setCtx k (some y)) k y e d
      | some none => t.chartFail k 4
      | none => waits
    | none, none => if t.fnMayIssue fn then waits.startRead fn [(cB e, operandLen e)] (.operand k) else t.chartFail k 4)

/-- The read that the instruction of context `k` waits for: the one made ahead, or its own. -/
def State.operandRead (s : State) (k : Nat) : ReadFor :=
  match (s.ctx k).bind s.aheadNext with
  | some a => .ahead a.id
  | none => .operand k

/-- An instruction with an operand: its read, which ends at once as `rd` and `data` say, then its execution. -/
def State.withOperand (s : State) (q c op : Nat) (rd : ReadEnd) (data : Bytes)
    (f : State → Nat → Ctx → Bytes → Bytes → State) : State :=
  let k := 8 * q + c
  let waits (t : State) : Bool := (t.ctx k).any (fun x => x.wait == CWait.operand)
  let s1 := s.operandStep q c op f
  if waits s1 && !waits s then
    let s2 := s1.opEnds (s1.operandRead k) rd data
    if (s2.ctx k).any (fun x => x.operand.isSome) then s2.operandStep q c op f else s2
  else s1

/-- Record `i` of an operand at a stride. -/
def recAt (data : Bytes) (stride i : Nat) : Bytes := sliceZ data (stride * i) stride

/-- Bytes that the spec leaves open: a free value each. -/
def State.freeBytes (s : State) : Nat → Bytes × State
  | 0 => ([], s)
  | n + 1 => let r := s.drawn.freeBytes n; (s.free.setWidth 8 :: r.1, r.2)

/-- The dies that DIES names for a sequencer (Table 15-1). -/
def chartDies (q : Nat) (e : Bytes) : List Nat :=
  match cDies e with
  | 0 => [q / 4]
  | 1 => [0]
  | 2 => [1]
  | _ => [0, 1]

/-- FLUSH: queued on every named die, or refused; with WAIT the program waits for its end (R177, R372). -/
def execFlush (q c : Fin 8) (s : State) : Res :=
  .next (s.begin.chartRun q.val c.val (opIs 0x1C) (fun t k x e =>
    let dies := chartDies q.val e
    if dies.any t.flushBusy then t.chartFail k 10
    else if cF1 e && !x.room 16 then t.chartFail k 5
    else
      let mask := (dies.map (fun d => 2 ^ d)).sum
      let t1 := t.startFlush (cTbl e - 11) (cA e) (cF0 e) mask (if cF1 e then some k else none) false
      if cF1 e then t1.setCtx k (some { x with wait := .flush t.nextId }) else t1.chartDone k))

/-- TABLE_FLUSH_COMPLETE: at this edge a flush has ended on every named die; a program that waits for it gets its record
(R177, R372). -/
def execTableFlushComplete (s : State) : Res :=
  let s0 := s.begin
  match s0.flushes.find? (fun e => e.2.1 == 0) with
  | none => .next s0
  | some (f, m, d0, d1) =>
    let s1 := { s0 with flushes := removeFirst (fun e => e == (f, m, d0, d1)) s0.flushes }
    match f.chart with
    | none => .next s1
    | some k =>
      if (s1.ctx k).any (fun x => x.wait == CWait.flush f.id) then
        .next ((s1.chartResult k (leBytes 4 d0 ++ leBytes 4 d1 ++ leBytes 4 s1.tikCount.toNat ++ leBytes 4 0)).chartDone k)
      else .next s1

/-- The agent that a sequencer is. -/
def seqAgent (q : Fin 8) : Agent := .cs q

/-- Registers read in turn at a stride, until one is refused under R17: the values, 8 bytes each, and whether one was. -/
def State.readRegs (s : State) (a : Agent) (addr stride : Nat) : Nat → Bytes × State × Bool
  | 0 => ([], s, false)
  | n + 1 =>
    let r := s.busRead a addr stride
    if r.2.2 then ([], r.2.1, true)
    else
      let t := r.2.1.readRegs a (addr + stride) stride n
      (leBytes 8 r.1.toNat ++ t.1, t.2)

/-- REGR: COUNT registers are read, 8 bytes each; an access refused under R17 ends the program (R371, R373). -/
def execRegr (q c : Fin 8) (s : State) : Res :=
  .next (s.begin.chartRun q.val c.val (opIs 0x30) (fun t k x e =>
    if !x.room (8 * cCount e) then t.chartFail k 5
    else
      let r := t.readRegs (seqAgent q) (cA e) (chartStride e) (cCount e)
      if r.2.2 then r.2.1.chartFail k 3 else r.2.1.chartReturn k x r.1))

/-- A value is written to registers in turn at a stride, until one is refused under R17. -/
def State.writeRegs (s : State) (a : Agent) (addr stride : Nat) (v : BitVec 64) : Nat → State × Bool
  | 0 => (s, false)
  | n + 1 =>
    let r := s.busWrite a addr stride v
    if r.2 then r else r.1.writeRegs a (addr + stride) stride v n

/-- REGW: B is written to COUNT registers (R373). -/
def execRegw (q c : Fin 8) (s : State) : Res :=
  .next (s.begin.chartRun q.val c.val (opIs 0x31) (fun t k _ e =>
    let r := t.writeRegs (seqAgent q) (cA e) (chartStride e) (BitVec.ofNat 64 (cB e)) (cCount e)
    if r.2 then r.1.chartFail k 3 else r.1.chartDone k))

/-- A 32-bit register, or half of a 64-bit one, becomes (old AND NOT mask) OR (value AND mask) in one access (R373). -/
def State.mergeReg (s : State) (a : Agent) (addr : Nat) (v m : BitVec 32) : State × Bool :=
  if addr % 4 ≠ 0 then (s, false)
  else match locate addr with
    | none => (s, false)
    | some (r, i, rem) =>
      let sh := if rem = 4 then 32 else 0
      s.tryWrite a r i (fun t => t.writeReg a r i (m.setWidth 64 <<< sh) (v.setWidth 64 <<< sh))

/-- REGM: a register is read, changed under a mask and written in one access (R373). -/
def execRegm (q c : Fin 8) (s : State) : Res :=
  .next (s.begin.chartRun q.val c.val (opIs 0x32) (fun t k _ e =>
    let r := t.mergeReg (seqAgent q) (cA e) (BitVec.ofNat 32 (cB e)) (BitVec.ofNat 32 (cB e / 2 ^ 32))
    if r.2 then r.1.chartFail k 3 else r.1.chartDone k))

/-- The next entry of a context is a POLL: its own command takes it only when it ends. -/
def State.pollEntry (s : State) (c : Ctx) : Option Bytes :=
  ((s.ctxEntries c).head?.map (fun e => e.2)).filter (opIs 0x33)

/-- POLL: the register is read once: a match ends the instruction, a refused access the program; otherwise the program goes
on waiting, COUNT edges at most (R373, Table 15-3). -/
def execPoll (q c : Fin 8) (s : State) : Res :=
  let s0 := s.begin
  let k := 8 * q.val + c.val
  let waiting := match s0.ctx k with
    | some x => match x.wait with
      | .poll _ => true
      | _ => false
    | none => false
  let idle := if waiting then (s0.ctx k).elim s0 (fun x => s0.setCtx k (some { x with wait := .none })) else s0
  let s1 := idle.chartRun q.val c.val (opIs 0x33) (fun t k _ e =>
    let r := t.busRead (seqAgent q) (cA e) 4
    if r.2.2 then r.2.1.chartFail k 3
    else if r.1.toNat % 2 ^ 32 &&& (cB e / 2 ^ 32) = cB e % 2 ^ 32 then r.2.1.chartDone k
    else
      let n := match (s0.ctx k).map (fun x => x.wait) with
        | some (.poll n) => n
        | _ => cCount e
      match idle.ctx k with
      | some x => ((r.2.1.setSq x.ring (idle.sq x.ring)).setCtx k (some { x with wait := .poll n }))
      | none => t)
  .next s1

/-- POLL_TIMEOUT: COUNT edges have passed without a match (Table 15-3). -/
def execPollTimeout (q c : Fin 8) (s : State) : Res :=
  let s0 := s.begin
  let k := 8 * q.val + c.val
  match s0.ctx k with
  | some x =>
    if x.wait == CWait.poll 0 then
      match s0.takeEntry k x with
      | some (_, _, _, s1) => .next (s1.chartFail k 11)
      | none => .next s0
    else .next s0
  | none => .next s0

/-- A frame of a Chart program asks for its cells: unicast queue TC of DEST, requester 13 of the die that holds it; a frame
for a Yarn port carries a link-local header (R282, R374). -/
def State.xmitFrame (s : State) (k dest tc : Nat) (bytes : Bytes) : State :=
  let c := { Copy.own .chartTx dest tc bytes with
    mode := s.curMode, chart := some k, yarn := if s.isYarn dest then some (s.localHdr 2 0) else none }
  s.claim (c.route (dest / 8) dest (portQueue (localPort dest).2 tc))

/-- XMIT: COUNT frames are read and ask for admission, in order; it ends when each has been admitted or dropped (R374). -/
def execXmit (q c : Fin 8) (rd : ReadEnd) (data : Bytes) (s : State) : Res :=
  .next (s.begin.withOperand q.val c.val 0x38 rd data (fun u k x e d =>
    (List.range (cCount e)).foldl (fun v i => v.xmitFrame k (xmitDest e) (xmitTc e) ((recAt d (xmitStride e) i).take (xmitLen e)))
      (u.setCtx k (some { x with wait := .xmit }))))

end Sys2Proof.Machine
end

