-- ==== Sys2Proof/Machine/ChartRead.lean ====
section
/-! DEFINITION. The Chart instructions that read tables: DRD, HSRCH, HNEXT, TRD, PIVR (spec/15, R363, R368, R371; spec/06,
R174 to R176; spec/07, R199). -/

namespace Sys2Proof.Machine

/-- Bytes of a record of a direct-indexed table after the header of a DRD result (Table 15-2). -/
def resultStride (tbl : Nat) : Nat := if tbl = 8 then 32 else operandStride tbl

/-- Words 0 to 3 of a POLICER entry, then its two buckets (Table 6-3). -/
def Meter.bytes (m : Meter) : Bytes :=
  leBytes 4 m.cir ++ leBytes 4 m.pir ++ leBytes 4 (m.cbs + m.opt * 2 ^ 24) ++ leBytes 4 m.pbs ++ leBytes 4 m.ctok ++ leBytes 4 m.ptok

/-- A DRD header (Table 15-2). -/
def drdHeader (valid error : Bool) (idx : Nat) : Bytes := leBytes 4 (boolNat valid + 2 * boolNat error) ++ leBytes 4 idx

/-- A DRD record: its header, and its data where the entry can be read; free values otherwise (Table 15-2, R368). -/
def State.drdRecord (s : State) (valid error : Bool) (tbl idx : Nat) (data : Bytes) : Bytes × State :=
  if error then
    let r := s.freeBytes (resultStride tbl)
    (drdHeader valid true idx ++ r.1, r.2)
  else (drdHeader valid false idx ++ padTo (resultStride tbl) data, s)

/-- The record of entry `idx` of a table, copy of die `d` for MCGROUP; `bad`: the entry is uncorrectable (R149, R150, R154,
R268, R368). -/
def State.drdEntry (s : State) (tbl d idx : Nat) (bad clr : Bool) : Bytes × State :=
  if tbl = 10 then
    let g := (s.readGroup s.tabs d idx).toNat
    s.drdRecord (bitOf g 96) (bad || !s.domOn (52 + d)) tbl idx (leBytes 16 g)
  else
    let error := bad || !s.domOn (50 + directDie (tbl + 1) idx)
    if tbl = 8 then s.drdRecord true error tbl idx (s.meter idx).bytes
    else if tbl = 9 then
      let p := s.statPair idx
      let r := s.drdRecord true error tbl idx (leBytes 8 p.1 ++ leBytes 8 p.2)
      (r.1, if clr && !error then r.2.setStat idx (0, 0) else r.2)
    else
      let x := s.tabs.direct? (tbl + 1) idx
      s.drdRecord (x.valid && !error) error tbl idx (leBytes (4 * entryWords (tbl + 1)) x.data)

/-- Records of entries and dies, in order, those of `bad` by their place uncorrectable. -/
def State.drdAll (s : State) (tbl : Nat) (clr : Bool) (bad : List Nat) : List (Nat × Nat × Nat) → Bytes × State
  | [] => ([], s)
  | (i, d, idx) :: r =>
    let a := s.drdEntry tbl d idx (bad.contains i) clr
    let b := a.2.drdAll tbl clr bad r
    (a.1 ++ b.1, b.2)

/-- DRD: entries A to A + COUNT − 1 are read; for MCGROUP one record for each copy, C0's first (R368, Table 15-3). -/
def execDrd (q c : Fin 8) (bad : List Nat) (s : State) : Res :=
  .next (s.begin.chartRun q.val c.val (opIs 0x12) (fun t k x e =>
    let dies := if cTbl e = 10 then chartDies q.val e else [0]
    let want := ((List.range (cCount e)).flatMap (fun i => dies.map (fun d => (d, cA e + i)))).zipIdx.map (fun w => (w.2, w.1))
    if !x.room (want.length * (8 + resultStride (cTbl e))) then t.chartFail k 5
    else
      let r := t.drdAll (cTbl e) (cF0 e) bad want
      r.2.chartReturn k x r.1))

/-- Free values over the low and high parts of a number: `v` in its low `w` bits, free bits above, as four bytes. -/
def State.openWord (s : State) (v w : Nat) : Bytes × State :=
  (leBytes 4 (v % 2 ^ w + s.free.toNat % 2 ^ (32 - w) * 2 ^ w), s.drawn)

/-- A hash record from its parts: bytes that Table 15-4 does not give in a case are free values. `key`, `ent`: what is
known. -/
def State.hashRecord (s : State) (key : Bytes) (ent : Option (Nat × HEnt)) (status die : Nat) (cursor : Option Nat) : Bytes × State :=
  let k := s.freeBytes (20 - key.length)
  let l := match ent with
    | some (loc, _) => k.2.openWord loc 20
    | none => k.2.freeBytes 4
  let d := match ent with
    | some (_, e) =>
      let w := e.all.flatMap (fun (x : Word) => leBytes 4 x.toNat)
      let f := l.2.freeBytes (16 - w.length)
      (w ++ f.1, f.2)
    | none => l.2.freeBytes 16
  let st := match ent with
    | some (_, e) => (leBytes 2 e.stamp, d.2)
    | none => d.2.freeBytes 2
  let cu := match cursor with
    | some v => (leBytes 4 v, st.2)
    | none => st.2.freeBytes 4
  (key ++ k.1 ++ l.1 ++ d.1 ++ st.1 ++ leBytes 1 status ++ leBytes 1 die ++ cu.1 ++ List.replicate 16 0, cu.2)

/-- SEARCH of a key on a die: found, not found, or ERROR (R174). `bad`: a slot of its buckets is uncorrectable. -/
def State.searchRecord (s : State) (d tb : Nat) (key : Bytes) (bad : Bool) : Bytes × State :=
  if !s.domOn (hashDomain d tb) then s.hashRecord key none 4 d none
  else match (s.tabs.findKey d tb key).bind (fun l => (s.tabs.slotAt d tb l).map (fun x => (l, x))) with
    | some e => s.hashRecord key (some e) 0 d none
    | none => s.hashRecord key none (if bad then 4 else 1) d none

/-- The records of several searches, in order. -/
def State.searchAll (s : State) (tb : Nat) (bad : List Nat) : List (Nat × Nat × Bytes) → Bytes × State
  | [] => ([], s)
  | (i, d, key) :: r =>
    let a := s.searchRecord d tb key (bad.contains i)
    let b := a.2.searchAll tb bad r
    (a.1 ++ b.1, b.2)

/-- HSRCH: one record for each key and die (R174, Table 15-3). -/
def execHsrch (q c : Fin 8) (rd : ReadEnd) (data : Bytes) (bad : List Nat) (s : State) : Res :=
  .next (s.begin.withOperand q.val c.val 0x1A rd data (fun u k x e o =>
    let tb := cTbl e - 11
    let dies := chartDies q.val e
    let want := ((List.range (cCount e)).flatMap (fun i => dies.map (fun d =>
      (d, (recAt o 64 i).take (hashKeyLen tb))))).zipIdx.map (fun w => (w.2, w.1))
    if !x.room (64 * want.length) then u.chartFail k 5
    else
      let r := u.searchAll tb bad want
      r.2.chartReturn k x r.1))

/-- The first entry of a table of die `d` at or above a location. -/
def State.entryFrom (s : State) (d tb cursor : Nat) : Option (Nat × HEnt) :=
  let base := (d * 3 + tb) * 2 ^ 20
  s.tabs.hash.findSome? (fun e => if base + cursor ≤ e.1 && e.1 < base + 2 ^ 20 then e.2.map (fun x => (e.1 - base, x)) else none)

/-- The first key of a catch-up list that is still present, with its entry, and the keys behind it (R176). -/
def State.caughtEntry (s : State) (d tb : Nat) : List Bytes → Option (Nat × HEnt) × List Bytes
  | [] => (none, [])
  | k :: r =>
    match (s.tabs.findKey d tb k).bind (fun l => (s.tabs.slotAt d tb l).map (fun x => (l, x))) with
    | some e => (some e, r)
    | none => s.caughtEntry d tb r

/-- The state with the scans of die `d` changed. -/
def State.setScans (s : State) (d : Nat) (l : List Scan) : State := s.setLearning d { s.learning d with scans := l }

/-- A new scan: the lowest handle that is free, or that of the oldest scan, which is closed (R175). -/
def openScan (l : List Scan) (tb : Nat) : Scan × List Scan :=
  let used := l.map (fun c => c.handle)
  match (List.range 8).find? (fun h => !used.contains h) with
  | some h => let c : Scan := ⟨h, tb, 0, [], false, none⟩; (c, l ++ [c])
  | none =>
    let old := l.head?
    let c : Scan := ⟨(old.map (fun x => x.handle)).getD 0, tb, 0, [], false, (old.filter (fun x => x.table == tb)).map (fun x => x.cursor)⟩
    (c, l.tail ++ [c])

/-- Up to `n` NEXT steps of R175 and R176 from a handle and a cursor: the records, until END, SCAN_LOST or ERROR. A NEXT at the
cursor of a scan that was closed, where its handle's new scan stands elsewhere, names the closed one (DESIGN CHOICE, log
entry 64). -/
def State.scanSteps (s : State) (d tb h cursor : Nat) : Nat → Bytes × State
  | 0 => ([], s)
  | n + 1 =>
    let scans := (s.learning d).scans
    let close (t : State) (x : Nat) : State := t.setScans d ((t.learning d).scans.filter (fun c => c.handle != x || c.table != tb))
    if !s.domOn (hashDomain d tb) then
      (if cursor = 0 then s else close s h).hashRecord [] none 4 d none
    else
      let o := if cursor = 0 then some (openScan scans tb)
        else (scans.find? (fun c => c.handle == h && c.table == tb)).map (fun c => (c, scans))
      match o with
      | none => s.hashRecord [] none 3 d none
      | some (sc, l) =>
        if sc.cursor != cursor && sc.was == some cursor then
          (s.setScans d (l.map (fun c => if c.handle = sc.handle then { c with was := none } else c))).hashRecord [] none 3 d none
        else if sc.lost then (close s sc.handle).hashRecord [] none 3 d none
        else
          let s1 := s.setScans d l
          let put (cu : Nat) (caught : List Bytes) : State :=
            s1.setScans d (l.map (fun c => if c.handle = sc.handle then { c with cursor := cu, caught := caught } else c))
          let go (e : Nat × HEnt) (cu : Nat) (caught : List Bytes) : Bytes × State :=
            let r := (put cu caught).hashRecord (e.2.key.take 20) (some e) 0 d (some (cu + sc.handle * 2 ^ 29))
            let rest := r.2.scanSteps d tb sc.handle cu n
            (r.1 ++ rest.1, rest.2)
          match s1.caughtEntry d tb sc.caught with
          | (some e, caught) => go e cursor caught
          | (none, _) =>
            match s1.entryFrom d tb cursor with
            | some e => go e (e.1 + 1) []
            | none => (close s1 sc.handle).hashRecord [] none 2 d none

/-- HNEXT: up to COUNT steps of a scan, one record each (R175, R176). -/
def execHnext (q c : Fin 8) (s : State) : Res :=
  .next (s.begin.chartRun q.val c.val (opIs 0x1B) (fun t k x e =>
    let d := (chartDies q.val e).headD 0
    let r := t.scanSteps d (cTbl e - 11) (cB e) (cA e) (cCount e)
    if x.room r.1.length then r.2.chartReturn k x r.1 else t.chartFail k 5))

/-- A TCAM record (Table 15-5): what an entry's group holds, free values where the slot is not the first of a group or its
panel is off. -/
def State.trdRecord (s : State) (i : Nat) : Bytes × State :=
  let q := slotPanel i
  let w := s.panelSlots q
  if !s.panelOn q || i % 32768 / 4096 % w != 0 then
    let r := s.freeBytes 172
    (r.1 ++ List.replicate 20 0, r.2)
  else
    let part (f : TSlot → BitVec 80) : Bytes := (List.range w).flatMap (fun j => beBytes 10 (f (s.tslot (i + j * 4096))).toNat)
    let v := part (fun t => t.value)
    let v1 := s.freeBytes (80 - v.length)
    let c1 := v1.2.freeBytes (80 - v.length)
    let info := c1.2.openWord (i + (s.tval i).tags.toNat * 2 ^ 21) 25
    (v ++ v1.1 ++ part (fun t => t.care) ++ c1.1 ++ leBytes 8 (SMap.get (fun _ => 0) s.tabs.action i).toNat ++ info.1 ++
      List.replicate 20 0, info.2)

/-- Records of several TCAM entries, in order. -/
def State.trdAll (s : State) : List Nat → Bytes × State
  | [] => ([], s)
  | i :: r =>
    let a := s.trdRecord i
    let b := a.2.trdAll r
    (a.1 ++ b.1, b.2)

/-- TRD: one TCAM record for each entry (Table 7-2, Table 15-3). -/
def execTrd (q c : Fin 8) (s : State) : Res :=
  .next (s.begin.chartRun q.val c.val (opIs 0x24) (fun t k x e =>
    if !x.room (192 * cCount e) then t.chartFail k 5
    else
      let r := t.trdAll ((List.range (cCount e)).map (cA e + ·))
      r.2.chartReturn k x r.1))

/-- PIVR: pivot entries, 8 bytes each, of the sequencer's die; the copies of both dies are always written together (R188,
Table 15-3). -/
def execPivr (q c : Fin 8) (s : State) : Res :=
  .next (s.begin.chartRun q.val c.val (opIs 0x26) (fun t k x e =>
    t.chartReturn k x ((List.range (cCount e)).flatMap (fun i =>
      leBytes 8 (SMap.get (fun _ => 0) t.tabs.piv (q.val / 4 * 4096 + (cA e + i))).toNat))))

end Sys2Proof.Machine
end

