-- ==== Sys2Proof/Machine/ChartCommit.lean ====
section
/-! DEFINITION. Staging, COMMIT and its outcome at an edge (spec/02, R50 to R56, R463; spec/06, R150 to R161; spec/07, R197
to R200; spec/15, R364 to R367). -/

namespace Sys2Proof.Machine

/-- An instruction's writes are recorded, its program holding the staging (R364). -/
def State.stage (s : State) (k : Nat) (c : Ctx) (l : List CWrite) : State :=
  (s.setCtx k (some { c with staged := c.staged ++ l, holds := true })).chartDone k

/-- The write of a record to entry `idx` of a table, on the dies named for MCGROUP (Table 15-2). RSV bits of an entry are kept
and read back as written (DESIGN CHOICE, log entry 64). -/
def dwrWrites (tbl idx : Nat) (dies : List Nat) (r : Bytes) : List CWrite :=
  if tbl = 8 then [.meter idx (leAt r 0 16)]
  else if tbl = 9 then [.stat idx (leAt r 0 8 % 2 ^ 40) (leAt r 8 8 % 2 ^ 56)]
  else if tbl = 10 then dies.map (fun d => .group d idx (leAt r 0 16))
  else [.direct (tbl + 1) idx (some (leAt r 0 (4 * entryWords (tbl + 1))))]

/-- DWR (R150, R153, R154, Table 15-3). -/
def execDwr (q c : Fin 8) (rd : ReadEnd) (data : Bytes) (s : State) : Res :=
  let st (e : Bytes) : Nat := operandStride (cTbl e)
  .next (s.begin.withOperand q.val c.val 0x10 rd data (fun u k x e d => u.stage k x
    ((List.range (cCount e)).flatMap (fun i => dwrWrites (cTbl e) (cA e + i) (chartDies q.val e) (recAt d (st e) i)))))

/-- DINV (R150, R268, Table 15-3). -/
def execDinv (q c : Fin 8) (s : State) : Res :=
  .next (s.begin.chartRun q.val c.val (opIs 0x11) (fun t k x e =>
    t.stage k x ((List.range (cCount e)).flatMap (fun i =>
      if cTbl e = 10 then (chartDies q.val e).map (fun d => .group d (cA e + i) 0) else [.direct (cTbl e + 1) (cA e + i) none]))))

/-- HINS: records are inserted or replaced as given, on each die named (R367). -/
def execHins (q c : Fin 8) (rd : ReadEnd) (data : Bytes) (s : State) : Res :=
  .next (s.begin.withOperand q.val c.val 0x18 rd data (fun u k x e o =>
    let tb := cTbl e - 11
    u.stage k x ((List.range (cCount e)).flatMap (fun i =>
      let r := recAt o 64 i
      let n := hashWords tb
      (chartDies q.val e).map (fun d => .insert d tb (r.take (hashKeyLen tb))
        ((List.range n).map (fun w => BitVec.ofNat 32 (leAt r (24 + 4 * w) 4))) (BitVec.ofNat 32 (leAt r (24 + 4 * n) 4)))))))

/-- HDEL: keys are deleted on each die named (R367). -/
def execHdel (q c : Fin 8) (rd : ReadEnd) (data : Bytes) (s : State) : Res :=
  .next (s.begin.withOperand q.val c.val 0x19 rd data (fun u k x e o =>
    let tb := cTbl e - 11
    u.stage k x ((List.range (cCount e)).flatMap (fun i =>
      (chartDies q.val e).map (fun d => .delete d tb ((recAt o 64 i).take (hashKeyLen tb)))))))

/-- TWR, with VAL or without (Table 7-2). -/
def execTwr (q c : Fin 8) (rd : ReadEnd) (data : Bytes) (s : State) : Res :=
  .next (s.begin.withOperand q.val c.val 0x20 rd data (fun u k x e d => u.stage k x
    ((List.range (cCount e)).map (fun i =>
      let r := recAt d 192 i
      .twr (cA e + i) (sliceZ r 0 80) (sliceZ r 80 80) (BitVec.ofNat 64 (leAt r 160 8)) (cF0 e)))))

/-- TINV (Table 7-2). -/
def execTinv (q c : Fin 8) (s : State) : Res :=
  .next (s.begin.chartRun q.val c.val (opIs 0x21) (fun t k x e => t.stage k x ((List.range (cCount e)).map (fun i => .tinv (cA e + i)))))

/-- TVAL (Table 7-2). -/
def execTval (q c : Fin 8) (s : State) : Res :=
  .next (s.begin.chartRun q.val c.val (opIs 0x22) (fun t k x e => t.stage k x ((List.range (cCount e)).map (fun i => .tval (cA e + i)))))

/-- TACT (Table 7-2). -/
def execTact (q c : Fin 8) (rd : ReadEnd) (data : Bytes) (s : State) : Res :=
  .next (s.begin.withOperand q.val c.val 0x23 rd data (fun u k x e d => u.stage k x
    ((List.range (cCount e)).map (fun i => .tact (cA e + i) (BitVec.ofNat 64 (leAt (recAt d 8 i) 0 8))))))

/-- PIVW (Table 7-2). -/
def execPivw (q c : Fin 8) (rd : ReadEnd) (data : Bytes) (s : State) : Res :=
  .next (s.begin.withOperand q.val c.val 0x25 rd data (fun u k x e d => u.stage k x
    ((List.range (cCount e)).map (fun i => .pivot (cA e + i) (leAt (recAt d 8 i) 0 8)))))

/-- DISCARD: staged writes are dropped and the staging is released (R364, Table 15-3). -/
def execDiscard (q c : Fin 8) (s : State) : Res :=
  .next (s.begin.chartRun q.val c.val (opIs 6) (fun t k x _ =>
    (t.setCtx k (some { x with staged := [], holds := false })).chartDone k))

/-- An HDEL of a key absent from its die stages nothing (R367). -/
def State.stagesNothing (s : State) (w : CWrite) : Bool :=
  match w with
  | .delete d tb key => s.domOn (hashDomain d tb) && (s.tabs.findKey d tb key).isNone
  | _ => false

/-- The TCAM entry that a write names. -/
def CWrite.slot : CWrite → Option Nat
  | .twr i _ _ _ _ | .tinv i | .tval i | .tact i _ => some i
  | _ => none

/-- A write names a slot that is not the first of its group, or a panel that is off (R199). -/
def State.badSlot (s : State) (w : CWrite) : Bool :=
  w.slot.any (fun i => !s.panelOn (slotPanel i) || i % 32768 / 4096 % s.panelSlots (slotPanel i) != 0)

/-- A write names a direct or hash table, or a group copy, whose domain is off (R149, R268, R365). -/
def State.badDomain (s : State) (w : CWrite) : Bool :=
  match w with
  | .direct t i _ => !s.domOn (50 + directDie t i)
  | .meter i _ => !s.domOn (50 + directDie tidPolicer i)
  | .stat i _ _ => !s.domOn (50 + directDie tidStats i)
  | .group d _ _ => !s.domOn (52 + d)
  | .insert d tb _ _ _ => !s.domOn (hashDomain d tb)
  | .delete d tb _ => !s.domOn (hashDomain d tb)
  | _ => false

/-- Of two writes of a commit, the first invalidates the entry that the second writes (R200, R365). -/
def CWrite.clashes (a b : CWrite) : Bool :=
  match a, b with
  | .tinv i, .twr j _ _ _ _ => i == j
  | .direct t i none, .direct u j (some _) => t == u && i == j
  | .delete d tb k, .insert e u l _ _ => d == e && tb == u && k == l
  | _, _ => false

/-- Counts of writes beyond 4,096 on a die (R54). -/
def overLimit (n : Nat × Nat) : Bool := 4096 < n.1 || 4096 < n.2

/-- The status with which R365 refuses a commit of writes `l`, whose insertions are planned as `p`; 0 passes. -/
def State.commitCheck (s : State) (l : List CWrite) (p : List CPlan × Bool) : Nat :=
  if overLimit (s.commitCount l p.1) then 6
  else if l.any s.badSlot then 8
  else if l.any s.badDomain then 14
  else if l.any (fun a => l.any (fun b => a.clashes b)) then 9
  else if p.2 then 7
  else 0

/-- A commit takes its place: behind those executed before it, in ascending order of sequencer within one clock (R55). -/
def placeCommit (x : Commit) (l : List Commit) : List Commit :=
  let after (y : Commit) : Bool := y.tick == x.tick && y.clk == x.clk && x.ctx / 8 < y.ctx / 8
  l.takeWhile (fun y => !after y) ++ [x] ++ l.dropWhile (fun y => !after y)

/-- The edges until a COMMIT that executes now is due: the next one follows by more than the cutoff, or the one after it
(R53). -/
def State.commitDue (s : State) : Nat :=
  let left := s.tick.len - s.fld F.TIK_CLK_CLK 0
  if max 16 (s.fld F.TIK_COMMIT_CUTOFF_CLOCKS 0) < left then 1 else 2

/-- A refused commit is counted, its writes are dropped, and its program ends with the status (R364, R365). -/
def State.commitRefuse (s : State) (k : Nat) (c : Ctx) (st : Nat) : State :=
  ((s.setCtx k (some { c with staged := [], holds := false })).bump .CHT_CNT 4 1).chartFail k st

/-- COMMIT: the staged writes are checked and become due at an edge, and the program stalls; with none it ends at once
(R53, R161, R365, R366). -/
def execCommit (q c : Fin 8) (s : State) : Res :=
  .next (s.begin.chartRun q.val c.val (opIs 5) (fun t k x _ =>
    let l := x.staged.filter (fun w => !t.stagesNothing w)
    if l.isEmpty then (t.setCtx k (some { x with staged := [], holds := false })).chartDone k
    else
      let p := t.planInserts t.tabs l
      match t.commitCheck l p with
      | 0 =>
        let m : Commit := ⟨k, t.tikCount, t.fld F.TIK_CLK_CLK 0, t.commitDue, l, p.1⟩
        { t.setCtx k (some { x with staged := l, wait := .commit }) with
          chart := { (t.setCtx k (some { x with staged := l, wait := .commit })).chart with commits := placeCommit m t.chart.commits } }
      | st => t.commitRefuse k x st))

/-- What becomes of a commit at an edge (R463). -/
inductive CommitEnd where
  | refused (status : Nat)
  /-- Deferred, for a slot on C0 and on C1 that must wait (R200). -/
  | deferred (c0 c1 : Bool)
  | applied (plans : List CPlan) (n : Nat × Nat)

/-- A TWR whose entry is valid now; one whose entry was valid in the state of one of the last two edges, with its die
(R200). -/
def State.slotLive (s : State) (w : CWrite) : Bool :=
  match w with
  | .twr i _ _ _ _ => (s.tval i).cur
  | _ => false
def State.slotHeld (s : State) (d : Nat) (w : CWrite) : Bool :=
  match w with
  | .twr i _ _ _ _ => panelDie (slotPanel i) == d && ((s.tval i).one || (s.tval i).two)
  | _ => false

/-- The plans of a commit at its edge: those made before where all of them stand, made again together otherwise (R161). A
deferred commit's plans that still stand are kept as well: R463 has them planned again under R161, and R161 plans again what
no longer stands (DEDUCED, log entry 62). -/
def State.edgePlans (s : State) (c : Commit) : List CPlan × Bool :=
  if c.plans.all s.cplanStands then (c.plans, false) else s.planInserts s.tabs c.writes

/-- The checks of R463 on one commit, in their order. -/
def State.commitEnd (s : State) (c : Commit) : CommitEnd :=
  let p := s.edgePlans c
  let n := s.commitCount c.writes p.1
  if p.2 then .refused 7
  else if c.writes.any s.slotLive then .refused 9
  else if c.writes.any s.badDomain then .refused 14
  else if c.writes.any s.badSlot then .refused 8
  else if overLimit n then .refused 6
  else if c.writes.any (s.slotHeld 0) || c.writes.any (s.slotHeld 1) then
    .deferred (c.writes.any (s.slotHeld 0)) (c.writes.any (s.slotHeld 1))
  else if overLimit (addPair s.wrote n) then .deferred false false
  else .applied p.1 n

/-- The slots that an operation on an entry reaches: the entry, and its twin's while the panel has one (R197). -/
def State.entryAndTwin (s : State) (i : Nat) : List Nat :=
  let q := slotPanel i
  if s.isPrimary q && s.twinState q != 0 then [i, s.twinOf q * 32768 + i % 32768] else [i]

/-- The ACTION of an entry is replaced. -/
def State.setAction (s : State) (i : Nat) (v : BitVec 64) : State :=
  s.setTabs { s.tabs with action := SMap.set (fun _ => 0) s.tabs.action i v }

/-- TWR of one entry: its slots and its ACTION are written; valid from this edge with VAL (Table 7-2). -/
def State.writeEntry (s : State) (i : Nat) (value care : Bytes) (action : BitVec 64) (val : Bool) : State :=
  let s1 := s.each (List.range (s.panelSlots (slotPanel i))) (fun t j =>
    t.setTslot (i + j * 4096) ⟨slotBits (sliceZ value (10 * j) 10), slotBits (sliceZ care (10 * j) 10)⟩)
  let s2 := s1.setAction i action
  if val then s2.setValid i true else s2

/-- A POLICER entry as a Chart write leaves it: its buckets full (R153). -/
def meterOf (v : Nat) : Meter :=
  let cbs := bitsOf v 64 24
  let pbs := bitsOf v 96 24
  ⟨bitsOf v 0 28, bitsOf v 32 28, cbs, bitsOf v 88 3, pbs, cbs * 256, pbs * 256⟩

/-- One write of a commit applies; an insertion follows the first plan left (R150, R153, R154, R160, R188, R199, R220,
R268, R367). -/
def State.applyWrite (s : State) (w : CWrite) (plans : List CPlan) : State × List CPlan :=
  match w with
  | .direct t i d =>
    let s1 := s.setTabs (s.tabs.setDirect t i (match d with
      | some v => ⟨true, v⟩
      | none => DEnt.none))
    (if t = tidMirror then s1.each (List.range 16) (fun u n => u.setPipe n { u.pipe n with
      mirror := SMap.set (fun _ => 0) (u.pipe n).mirror i 0 }) else s1, plans)
  | .meter i v => (s.setMeter i (meterOf v), plans)
  | .stat i p b => (s.setStat i (p, b), plans)
  | .group d i v => (s.setTabs { s.tabs with mcg := SMap.set (fun _ => 0) s.tabs.mcg (d * 65536 + i) (BitVec.ofNat 128 v) }, plans)
  | .insert d tb key words hw =>
    match plans with
    | p :: r => (s.runPath d tb p.path ⟨key, words, hw &&& ~~~ agedBit, s.unit d tb s.tikCount⟩, r)
    | [] => (s, [])
  | .delete d tb key =>
    (match s.tabs.findKey d tb key with
      | some l => s.deleteEntry d tb l
      | none => s, plans)
  | .twr i v c a val => (s.each (s.entryAndTwin i) (fun t j => t.writeEntry j v c a val), plans)
  | .tinv i => (s.each (s.entryAndTwin i) (fun t j => t.setValid j false), plans)
  | .tval i => (s.each (s.entryAndTwin i) (fun t j => t.setValid j true), plans)
  | .tact i a => (s.each (s.entryAndTwin i) (fun t j => t.setAction j a), plans)
  | .pivot i v =>
    let e := BitVec.ofNat 49 v
    (s.setTabs { s.tabs with piv := SMap.set (fun _ => 0) (SMap.set (fun _ => 0) s.tabs.piv i e) (4096 + i) e }, plans)

/-- The writes of a commit apply in program order. -/
def State.applyWrites (s : State) : List CWrite → List CPlan → State
  | [], _ => s
  | w :: r, plans => let a := s.applyWrite w plans; a.1.applyWrites r a.2

/-- A commit has applied: counted by die, and its program goes on (R366, Table 15-6). -/
def State.commitApplied (s : State) (c : Commit) (plans : List CPlan) (n : Nat × Nat) : State :=
  let s1 := s.applyWrites c.writes plans
  let w := addPair s1.wrote n
  let s2 := ({ s1 with wrote := w }).setReg .TIK_COMMIT_STS 0 (BitVec.ofNat 64 (w.1 + w.2 * 2 ^ 16))
  let s3 := ((s2.gauge! 16 0x4D n.1 (some 0)).gauge! 17 0x4D n.2 (some 0)).bump .CHT_CNT 2 1
  let s4 := s3.bump .CHT_CNT 3 (n.1 + n.2)
  match s4.ctx c.ctx with
  | none => s4
  | some x => (s4.setCtx c.ctx (some { x with
      staged := [], holds := false, commits := x.commits + 1, ctick := s4.tikCount.toNat % 65536 })).chartDone c.ctx

/-- The commits due at an edge are taken in order, each against what the earlier ones leave; `stop`: one has been deferred,
and all behind it are. Answers the deferred commits, in order (R55, R463). -/
def State.takeCommits (s : State) (stop : Bool) : List Commit → State × List Commit
  | [] => (s, [])
  | c :: r =>
    let later := { c with due := 1 }
    let deferred (t : State) : State × List Commit :=
      let a := (t.satFld F.TIK_COMMIT_DEFER_COUNT 0 1).takeCommits true r
      (a.1, later :: a.2)
    if stop then deferred s
    else match s.commitEnd c with
      | .refused st =>
        (match s.ctx c.ctx with
          | some x => s.commitRefuse c.ctx x st
          | none => s).takeCommits false r
      | .deferred c0 c1 => deferred ((s.when c0 (fun t => t.tcmCount 0 8 1)).when c1 (fun t => t.tcmCount 1 8 1))
      | .applied plans n => (s.commitApplied c plans n).takeCommits false r

/-- The commits due at this edge apply, are refused or are deferred; those that are not due wait on (R50, R55, R463). -/
def State.edgeCommits (s : State) : State :=
  let due := s.chart.commits.filter (fun c => c.due == 0)
  let rest := s.chart.commits.filter (fun c => c.due != 0)
  let r := ({ s with chart := { s.chart with commits := [] } }).takeCommits false due
  { r.1 with chart := { r.1.chart with commits := r.2 ++ rest } }

/-- COMMIT_APPLY: the commits due at this edge that have not been taken yet are taken (R463). TICK_EDGE takes them itself, in
its order (log entry 62). -/
def execCommitApply (s : State) : Res := .next s.begin.edgeCommits

end Sys2Proof.Machine
end

