-- ==== Sys2Proof/Machine/Faults.lean ====
section
/-! DEFINITION. What a fault does beside its reports: to the packet whose word was read, and its reaction at an edge
(spec/16, R381 to R384, R391). -/

namespace Sys2Proof.Machine

/-- A copy of die `d` is poisoned (R247). -/
def State.poison (s : State) (d id : Nat) : State :=
  match s.copy id with
  | some c => if c.die = d then s.setCopy id (some { c with poison := true, late := true }) else s
  | none => s

/-- A program of pipeline `n` ends with reason PARITY (Table 4-1). -/
def State.parityEnd (s : State) (n k : Nat) : State :=
  match s.needle k with
  | some nd => if enginePipe (k / 96) = n then s.endNeedle k nd 6 nd.clk nd.pc else s
  | none => s

/-- A packet held for resequencing on die `d` is dropped; its SEQ is passed over when NEXT reaches it (Table 16-3). -/
def State.dropHeld (s : State) (d id : Nat) : State :=
  match s.copy id with
  | some c => if (s.heldPkts d).any (fun h => h.copy == id) then s.release id c else s
  | none => s

/-- The packet at place `i` of the replication engine of die `d`, none of whose copies is made yet, is dropped (Table 16-3). -/
def State.dropReplica (s : State) (d i : Nat) : State :=
  let b := s.buf d
  if b.repl[i]?.any (fun r => r.made.isNone) then s.setBuf d { b with repl := b.repl.eraseIdx i } else s

/-- What the read of a bad word does to its packet, sample or key, at each occurrence, when hardware found it (Table
16-3). -/
def State.atDetect (s : State) (k src inst : Nat) (info : BitVec 48) (hit : Nat) : State :=
  match k, src with
  | 9, 1 => s.parityEnd inst hit
  | 9, 2 => s.parityEnd inst hit
  | 14, 1 => s.poison inst hit
  | 15, 0 => s.poison inst hit
  | 15, 1 => s.dropReplica inst hit
  | 16, 2 => s.dropHeld inst hit
  | 18, 0 => s.setSamples inst ((s.samplesOf inst).eraseIdx hit)
  | 21, 0 =>
    let i := inst / 8 * 64 + info.toNat % 64
    (s.setFld F.MSC_SA_CTL_EN i 0).zeroKey i
  | _, _ => s

/-- The reaction just made due keeps what was hit. -/
def State.noteHit (s : State) (k src inst hit : Nat) : State :=
  { s with flt := { s.flt with react := s.flt.react.map (fun r =>
    if r.block == k && r.src == src && r.inst == inst && r.tick == s.tikCount && !r.injected then { r with hit := hit } else r) } }

/-- A parity error on the command-address bus or in written data of a stack counts in PAR_ERR (R304). -/
def State.hbmParity (s : State) (k src inst : Nat) : State :=
  s.when (k == 17 && src == 2) (fun t => t.bump .HBC_CNT (inst * 9 + 4) 1)

/-- FAULT_DETECT (R377 to R384). A rail fault or a thermal trip is a loss of supply at once (R383). -/
def execFaultDetect (k : Fin 23) (src : Fin 32) (inst : Fin 65536) (info : BitVec 48) (hit : Nat) (lasting : Bool) (s : State) : Res :=
  let s0 := s.begin
  if k.val = 2 ∧ (src.val = 1 ∨ src.val = 3) then .next (s0.supplyLoss src.val false (src.val == 1))
  else
    let s1 := (s0.faultWith k.val src.val inst.val info lasting false).noteHit k.val src.val inst.val hit
    .next ((s1.atDetect k.val src.val inst.val info hit).hbmParity k.val src.val inst.val)

/-- MAC_PORT_CFG.EN of a port is cleared, in force from this edge (R382). -/
def State.shutEn (s : State) (p : Nat) : State :=
  let s1 := s.setFld F.MAC_PORT_CFG_EN p 0
  let key := Reg.key .MAC_PORT_CFG p
  { s1 with inForce := SMap.set Reg.resetAt s1.inForce key (SMap.get Reg.resetAt s1.inForce key &&& ~~~ (1 : BitVec 64)) }

/-- SHUT of an enabled port (R382). -/
def State.shutPort (s : State) (p : Nat) : State :=
  if s.bit F.MAC_PORT_CFG_EN p then (s.shutEn p).portEval p false else s

/-- Port reactions are taken where GLB_SPLIT_EFF.FAULTACT was 0 as the source was detected (R32, R382). -/
def State.portReact (s : State) (withheld : Bool) (ports : List Nat) (shut : Bool) : State :=
  if withheld then s
  else s.each ports (fun t p =>
    if shut then t.shutPort p else if t.bit F.MAC_PORT_CFG_EN p then (t.requestBindoff p).portEval p true else t)

/-- The reaction `r` is due at this edge and enabled. -/
def State.reactDue (s : State) (r : React) : Bool := s.atEdge && r.tick != s.tikCount && bitOf (s.fld F.FLT_EN_ACT_EN r.block) r.src

/-- A DEVICE_FATAL reaction takes the device to READY from modes 4 to 11 (R383). -/
def State.fatalDevice (s : State) : State := if 4 ≤ s.curMode && s.curMode ≤ 11 then s.autoMode 3 6 else s

/-- The mode change for the loss of a unit, FORWARD-REDUCED from FORWARD or ECONOMY, unless a DEVICE_FATAL reaction is due at
this edge too (R383). -/
def State.fatalUnit (s : State) : State :=
  if (s.curMode = 4 ∨ s.curMode = 6) ∧ !(s.flt.react.any (fun r => r.block == 0 && r.src == 4 && !r.injected && s.reactDue r))
  then s.autoMode 5 7 else s

/-- A thermal or power-cap mode change: from FORWARD or FORWARD-REDUCED to ECONOMY (R383). -/
def State.toEconomy (s : State) (reason : Nat) : State :=
  if s.curMode = 4 ∨ s.curMode = 5 then s.autoMode 6 reason else s

/-- Units are removed, and the mode changes for it unless the fault was injected (R383, R391). -/
def State.loseUnits (s : State) (doms : List Nat) (injected : Bool) : State :=
  (s.each doms State.removeDomain).when (!injected) State.fatalUnit

/-- A program that holds the staging of sequencer `q` ends with CHT_E_OPREAD (Table 16-3). -/
def State.stagingLost (s : State) (q : Nat) : State :=
  s.each ((List.range 8).map (8 * q + ·)) (fun t k =>
    if (t.ctx k).elim false (fun c => c.holds) then
      ({ t with chart := { t.chart with commits := t.chart.commits.filter (fun x => x.ctx != k) } }).chartFail k 4
    else t)

/-- An entry of ACT state that reads as zero: `hit` 0 a LAG group, 1 a responder bucket, 2 a BFD session (Table 16-3). -/
def State.actZero (s : State) (n hit i : Nat) : State :=
  match hit with
  | 0 => (s.setReg .ACT_LAG (n * 128 + i % 128) 0).each (List.range 16) (fun t j => t.setReg .ACT_LAG_MEM ((n * 128 + i % 128) * 16 + j) 0)
  | 1 => s.setPipe n { s.pipe n with buckets := modifyAt (s.pipe n).buckets i (fun _ => 0) }
  | _ =>
    let b := n * 256 + i % 256
    ([Reg.ACT_BFD_CTL, .ACT_BFD_FMT, .ACT_BFD_STS].foldl (fun t r => t.setReg r b 0) s).setBfd b ⟨0, 0⟩

/-- Entry `g` of a group table's copy is read as VALID 0 under every tag (Table 16-3, Table 10-7). -/
def Tables.groupOff (t : Tables) (d g : Nat) : Tables :=
  { t with mcg := SMap.set (fun _ => 0) t.mcg (d * 65536 + g) (SMap.get (fun _ => 0) t.mcg (d * 65536 + g) &&& ~~~ ((1 : BitVec 128) <<< 96)) }

/-- The reaction of Table 16-3 to a source that has none of the common kinds, or whose effect is on its own block. -/
def State.react (s : State) (r : React) : State :=
  let i := r.inst
  let x := r.info.toNat % 2 ^ 32
  match r.block, r.src with
  | 0, 1 => { s with flt := { s.flt with modules := if s.flt.modules.contains i then s.flt.modules else s.flt.modules ++ [i] } }
  | 0, 3 => s.loseUnits ((List.range 4).map (fun j => 16 + (i - 16) / 4 * 4 + j)) r.injected
  | 0, 4 => s.when (!r.injected) State.fatalDevice
  | 2, 0 => s.when (!r.injected) (fun t => t.toEconomy 5)
  | 2, 2 => s.when (!r.injected) (fun t => t.toEconomy 4)
  | 2, 4 => s.loseUnits [i] r.injected
  | 6, 1 => s.stagingLost i
  | 10, 2 => s.actZero i r.hit x
  | 11, 1 => s.setTabs (s.tabs.setSlot i (r.hit % 3) x none)
  | 14, 2 => s.flushQueue (i * 65536 + x)
  | 15, 2 => { s with tabs := s.tabs.groupOff i x, prev1 := s.prev1.groupOff i x, prev2 := s.prev2.groupOff i x }
  | 16, 0 => { s with seqs := SMap.set (fun _ => 0) s.seqs x 0 }
  | 16, 1 => if r.hit = 0 then s.setFld F.YRN_ROUTE_V x 0 else s.setReg .YRN_SET x 0
  | 17, 4 => s.loseUnits [32 + i] r.injected
  | 17, 6 => s.setFld F.SKN_SPILL_CFG_EN (i / 2) 0
  | 19, 0 => s.portReact r.withheld ((List.range 8).map (8 * i + ·)) true
  | 19, 1 => s.portReact r.withheld ((List.range 8).map (8 * i + ·)) true
  | 20, 2 => s.portReact r.withheld [i] false
  | 21, 0 => s.portReact r.withheld [i] true
  | _, _ => s

/-- FAULT_REACTION: at the first edge after the bit of FLT_STS was set, the reaction is taken if FLT_EN_ACT enables it
(R381). -/
def execFaultReaction (k : Fin 23) (src : Fin 32) (inst : Fin 65536) (s : State) : Res :=
  let s0 := s.begin
  let it (r : React) : Bool := r.block == k.val && r.src == src.val && r.inst == inst.val && s0.atEdge && r.tick != s0.tikCount
  match s0.flt.react.find? it with
  | none => .next s0
  | some r =>
    let s1 := { s0 with flt := { s0.flt with react := removeFirst it s0.flt.react } }
    .next (if s0.reactDue r then s1.react r else s1)

end Sys2Proof.Machine
end

