-- ==== Sys2Proof/Machine/TickEdge.lean ====
section
/-! DEFINITION. The tick edge: the work of Table 2-2 in its order (spec/02, R47, R48). The end of a mode transition, fault
reactions, a due collection and the debounced link events of an edge are commands of its clock that follow it. -/

namespace Sys2Proof.Machine

/-- Item 4: every meter is refilled (R153). -/
def State.edgeMeters (s : State) : State :=
  { s with meters := SMap.update (fun _ => Meter.zero) (fun _ m => { m with
      ctok := min (m.cbs * 256) (m.ctok + m.cir), ptok := min (m.pbs * 256) (m.ptok + m.pir) }) s.meters }

/-- The pipelines that are on. -/
def State.pipesOn (s : State) : List Nat := (List.range 16).filter s.domOn

/-- LAG writes of the tick reach the copies of all powered pipelines (R214). -/
def State.edgeLag (s : State) : State :=
  let s1 := s.lags.foldl (fun t w => t.each t.pipesOn (fun u n =>
    if w.1 then u.setReg .ACT_LAG_MEM (n * 2048 + w.2.1) w.2.2 else u.setReg .ACT_LAG (n * 128 + w.2.1) w.2.2)) s
  { s1 with lags := [] }

/-- Pipeline `n`, powered up at this edge, receives the LAG table of pipeline `m` (R214). -/
def State.copyLag (s : State) (m n : Nat) : State :=
  let of (r : Reg) (w : Nat) : List Nat :=
    ((s.regs.filter (fun e => e.1 % 256 == r.code && e.1 / 256 / w == m)).map (fun e => e.1 / 256 % w))
  (s.each (of .ACT_LAG 128) (fun t g => t.setReg .ACT_LAG (n * 128 + g) (t.reg .ACT_LAG (m * 128 + g)))).each (of .ACT_LAG_MEM 2048)
    (fun t g => t.setReg .ACT_LAG_MEM (n * 2048 + g) (t.reg .ACT_LAG_MEM (m * 2048 + g)))

/-- The power domains step, and pipelines that come into service take the LAG table of one that was (R214, R423). -/
def State.edgePower (s : State) (bad : List Nat) : State :=
  let was := (List.range 16).filter (fun n => s.domState n == 3)
  let s1 := s.edgeDomains bad
  match was with
  | [] => s1
  | m :: _ => s1.each ((List.range 16).filter (fun n => s.domState n == 2 && s1.domState n == 3)) (fun t n => t.copyLag m n)

/-- What a scrubber found in a slot of the slice it has swept (R205): the slot is good again, or its entry is invalid from
this edge. -/
def State.scrubFound (s : State) (d : Nat) (i : Nat) (f : ScrubFind) : State :=
  match f with
  | .fixed => (s.tcmCount d 9 1).fault 12 0 d i
  | .lost =>
    let first := i - i % 32768 / 4096 % s.panelSlots (slotPanel i) * 4096
    (((s.setValid first false).setFld F.TCM_ERR_SLOT_SLOT d first).tcmCount d 11 1).fault 12 2 d first

/-- A slot belongs to an entry that the scrubber was to repair next (R206). -/
def State.scrubAsked (s : State) (i : Nat) : Bool :=
  s.scrubNext.any (fun f => slotPanel f == slotPanel i && f % 4096 == i % 4096 && f ≤ i && (i - f) / 4096 < s.panelSlots (slotPanel i))

/-- The scrubber of die `d` has repaired the entries that failed a search, and has swept its slice of the ended tick (R205,
R206). -/
def State.edgeScrub (s : State) (x : EdgeIn) (d : Nat) : State :=
  let n := s.fld F.TCM_SCRUB_CFG_SLICE d
  let c := s.fld F.TCM_SCRUB_STS_CURSOR d
  if n = 0 || !((List.range 24).any (fun q => s.panelOn (24 * d + q))) then s
  else
    let in_ (i : Nat) : Bool := i / 786432 == d && s.panelOn (slotPanel i) &&
      ((i % 786432 + 786432 - c) % 786432 < n || s.scrubAsked i)
    let s0 := { s with scrubNext := s.scrubNext.filter (fun f => f / 786432 != d) }
    let s1 := x.scrub.foldl (fun t e => if in_ e.1.val then t.scrubFound d e.1.val e.2 else t) s0
    (s1.setFld F.TCM_SCRUB_STS_CURSOR d ((c + n) % 786432)).when (786432 ≤ c + n) (fun t => t.setFld F.TCM_SCRUB_STS_WRAP d 1)

/-- Codewords that the FEC of ports corrected or could not correct in the tick, while it is aligned (R464). -/
def State.edgeFec (s : State) (x : EdgeIn) : State :=
  x.fec.foldl (fun t e =>
    if (t.port e.1.val).fecOk then
      (((t.macCount e.1.val 14 e.2.1.val).macCount e.1.val 15 e.2.2.val).each (List.range e.2.2.val) (fun u _ => u.fault 20 1 e.1.val))
    else t) s

/-- The signal, CDR lock and PRBS bit errors of lanes (Table 3-9); the lock of a lane that feeds a SyncE output moves by its
own commands (R91). -/
def State.edgeLanes (s : State) (x : EdgeIn) : State :=
  x.lanes.foldl (fun t e =>
    let l := e.1.val
    let prbs := (t.curMode == 9 || t.curMode == 10) && 1 ≤ t.fld F.SDS_LANE_CFG_PRBS l && t.fld F.SDS_LANE_CFG_PRBS l ≤ 4
    let t1 := t.setFld F.SDS_LANE_STS_SIG l (boolNat e.2.1)
    let t2 := if t1.eff F.TIM_SYNCE_LANE 0 == l || t1.eff F.TIM_SYNCE_LANE 1 == l then t1
      else t1.setFld F.SDS_LANE_STS_CDR_LOCK l (boolNat e.2.2.1)
    t2.when prbs (fun u => u.satFld F.SDS_LANE_STS_PRBS_ERR l e.2.2.2.val)) s

/-- The junction temperature of the tick, and its peak (R427, Table 18-16). -/
def State.edgeTemp (s : State) (tj : BitVec 8) : State :=
  let s1 := s.setFld F.PWR_TEMP_TJ 0 tj.toNat
  if signedOf 8 (s1.fld F.PWR_TEMP_PEAK 0) < tj.toInt then s1.setFld F.PWR_TEMP_PEAK 0 tj.toNat else s1

/-- Chart waits at an edge: WAIT.TICK and POLL count down, and WAIT.AT ends where TIK_COUNT[31:0] equals its tick
(R369). -/
def CWait.atEdge (w : CWait) (now : Nat) : CWait :=
  match w with
  | .ticks n => if n ≤ 1 then .ready else .ticks (n - 1)
  | .edge t => if t = now % 2 ^ 32 then .ready else .edge t
  | .poll n => .poll (n - 1)
  | w => w

/-- The waits of all contexts at an edge. -/
def State.edgeChart (s : State) : State :=
  { s with chart := { s.chart with ctxs := SMap.update (fun _ => none) (fun _ (c : Option Ctx) => c.map (fun x =>
      { x with wait := x.wait.atEdge s.tikCount.toNat })) s.chart.ctxs } }

/-- The ager's slice of the ended tick is late: the item is counted, and its cursor resumes where it stopped (R48); the bit it sets is an event
of source 1 (Table 13-12). -/
def State.agerLate (s : State) : State :=
  (((s.satFld F.TIK_OVERRUN_COUNT 5 1).setBit .TIK_OVR_STS 0 5).interrupt 1).fault 1 3 5

/-- What is over before the edge: its clocks, and the slices examined in the ended tick (items 5 and flush sweeps). -/
def State.edgeBefore (s : State) (x : EdgeIn) : State :=
  let s1 := s.passClocks (s.tick.len - s.fld F.TIK_CLK_CLK 0)
  (s1.when x.late State.agerLate).edgeLearn x.late

/-- A collection asked for by GO falls due at the edge after it, and only while the host counts (R399). -/
def State.edgeGo (s : State) : State := { s with gauge := { s.gauge with go := s.gauge.go && s.split 12 } }

/-- Items 0 and 1, and the state that lookups of earlier tags keep (R40, R50, R169); the commits that wait are an edge
nearer (R53). -/
def State.edgeTime (s : State) : State :=
  let s1 := (s.edgeStamps s.tikCount).edgeCount
  let s2 := { s1 with
    prev2 := s1.prev1, prev1 := s1.tabs, wrote := (0, 0)
    tick := { s1.tick with tag1 := s.tag, tag2 := s.tick.tag1, hwDone := false }
    chart := { s1.chart with commits := s1.chart.commits.map (fun (c : Commit) => { c with due := c.due - 1 }) } }
  s2.setReg .TIK_COMMIT_STS 0 0

/-- Registers written in the ended tick come into force. -/
def State.edgeForce (s : State) : State := { s with inForce := s.regs }

/-- The settings `old` are in force again, but for registers whose supply is lost. -/
def State.withForce (s : State) (old : SMap (BitVec 64)) : State :=
  { s with inForce := old.filter (fun e => !s.keyLost e.1) }

/-- Item 4, against the settings `old` of the ended tick, and the timers whose enabling shows by comparing the two
(R153, R224, R227, R228, R267). -/
def State.edgeRefill (s : State) (was : Nat) (old : SMap (BitVec 64)) : State :=
  (((((s.withForce old).edgeMeters.edgeShapers.edgeResponders).edgeSynce).edgeTimers was)).edgeForce

/-- Item 3 and the throttle level (R34, R419 to R424, R428). -/
def State.edgeModes (s : State) (x : EdgeIn) : State :=
  ((((s.edgeSplit.edgeGo).edgeMode).edgePower (x.repair.map (fun d => d.val))).edgeLevel).edgeLag

/-- The table engines: seeds, TCAM validity, twins, scrubbers (R181, R195, R198, R205). -/
def State.edgeTables (s : State) (x : EdgeIn) : State :=
  ((s.edgeSeeds.edgeTcamValidity.edgeTwins).edgeScrub x 0).edgeScrub x 1

/-- The link partner's CLKREQ# as the edge finds it (R316). -/
def State.edgeClkreq (s : State) (on : Bool) : State := { s with pcie := { s.pcie with clkreq := on } }

/-- Items 6 to 8 and the other counts of an edge. -/
def State.edgeCounts (s : State) (x : EdgeIn) (clocks : Nat) : State :=
  let s1 := s.edgeFreeze.edgePorts.edgeReseq.edgeHbc
  let s2 := (((s1.edgeHold.edgeBeat).edgeCages clocks).edgeTod).edgeJournal
  ((((s2.edgeChart.edgeDebug.edgeBoot).edgeTemp x.tj).edgeAvs x.avs).edgeFec x).edgeLanes x

/-- TICK_EDGE (R47). -/
def execTickEdge (x : EdgeIn) (s : State) : Res :=
  let s0 := s.begin
  if !s0.clockOn then .next s0
  else
    let was := s0.fld F.GLB_SPLIT_EFF_ALL 0
    let s1 := (s0.edgeBefore x).edgeTime
    let s2 := (((s1.edgeForce).edgeTables x).edgeCommits).hwWrites
    .next ((((s2.edgeModes x).edgeRefill was s1.inForce).edgeCounts x s0.tick.len).edgeL0p.edgeRings.edgeClkreq x.clkreq)

end Sys2Proof.Machine
end

