-- ==== Sys2Proof/Machine/Dispatch.lean ====
section
/-! DEFINITION. The dispatch: one arm per command of the opcode table, each one direct call of its meaning. -/

namespace Sys2Proof.Machine

def exec (i : Instr) (s : State) : Host.Outcome State Fault Refusal :=
  match i with
  | .registerWrite a q v => Sys2Proof.Machine.execRegisterWrite a q v s
  | .halfReadLatch a addr => Sys2Proof.Machine.execHalfReadLatch a addr s
  | .tickEdge x => Sys2Proof.Machine.execTickEdge x s
  | .periodArm a v => Sys2Proof.Machine.execPeriodArm a v s
  | .periodChangeApply => Sys2Proof.Machine.execPeriodChangeApply s
  | .tickInPulse long => Sys2Proof.Machine.execTickInPulse long s
  | .tickHoldover => Sys2Proof.Machine.execTickHoldover s
  | .commitApply => Sys2Proof.Machine.execCommitApply s
  | .modeRequest a conflict v => Sys2Proof.Machine.execModeRequest a conflict v s
  | .transitionComplete => Sys2Proof.Machine.execTransitionComplete s
  | .heartbeatWrite a v => Sys2Proof.Machine.execHeartbeatWrite a v s
  | .heartbeatExpired => Sys2Proof.Machine.execHeartbeatExpired s
  | .hostlossLostClear a => Sys2Proof.Machine.execHostlossLostClear a s
  | .portCfgWrite a p v => Sys2Proof.Machine.execPortCfgWrite a p v s
  | .rxFrame p frame arr same => Sys2Proof.Machine.execRxFrame p frame arr same s
  | .pauseTimerExpire p c => Sys2Proof.Machine.execPauseTimerExpire p c s
  | .xoffResend p c => Sys2Proof.Machine.execXoffResend p c s
  | .frameTransmit p => Sys2Proof.Machine.execFrameTransmit p s
  | .linkUp p => Sys2Proof.Machine.execLinkUp p s
  | .linkFaultDebounced p => Sys2Proof.Machine.execLinkFaultDebounced p s
  | .bindoffCmd a p v => Sys2Proof.Machine.execBindoffCmd a p v s
  | .bindoffFlushComplete p => Sys2Proof.Machine.execBindoffFlushComplete p s
  | .holddownExpire p => Sys2Proof.Machine.execHolddownExpire p s
  | .cmbScanFrame inputs => Sys2Proof.Machine.execCmbScanFrame inputs s
  | .cageInputAccepted g which => Sys2Proof.Machine.execCageInputAccepted g which s
  | .cageCtlWrite a g v => Sys2Proof.Machine.execCageCtlWrite a g v s
  | .btnWaitExpire g => Sys2Proof.Machine.execBtnWaitExpire g s
  | .cageBindoffDone g => Sys2Proof.Machine.execCageBindoffDone g s
  | .i2cGo a m v => Sys2Proof.Machine.execI2cGo a m v s
  | .i2cDone m nack data => Sys2Proof.Machine.execI2cDone m nack data s
  | .i2cTimeout m => Sys2Proof.Machine.execI2cTimeout m s
  | .todStep a v => Sys2Proof.Machine.execTodStep a v s
  | .todSet a v => Sys2Proof.Machine.execTodSet a v s
  | .synceLos k => Sys2Proof.Machine.execSynceLos k s
  | .ingressDispatch n => Sys2Proof.Machine.execIngressDispatch n s
  | .egressDispatch n => Sys2Proof.Machine.execEgressDispatch n s
  | .budgetAbort e n => Sys2Proof.Machine.execBudgetAbort e n s
  | .reorderRelease n eg src late => Sys2Proof.Machine.execReorderRelease n eg src late s
  | .programStoreWrite a n eg r v => Sys2Proof.Machine.execProgramStoreWrite a n eg r v s
  | .imageArm a n v => Sys2Proof.Machine.execImageArm a n v s
  | .imageSwitch n eg => Sys2Proof.Machine.execImageSwitch n eg s
  | .oldSetDrained n eg => Sys2Proof.Machine.execOldSetDrained n eg s
  | .nop e n => Sys2Proof.Machine.execNop e n s
  | .movi e n => Sys2Proof.Machine.execMovi e n s
  | .mov e n => Sys2Proof.Machine.execMov e n s
  | .add e n => Sys2Proof.Machine.execAdd e n s
  | .addi e n => Sys2Proof.Machine.execAddi e n s
  | .sub e n => Sys2Proof.Machine.execSub e n s
  | .subi e n => Sys2Proof.Machine.execSubi e n s
  | .and e n => Sys2Proof.Machine.execAnd e n s
  | .andi e n => Sys2Proof.Machine.execAndi e n s
  | .or e n => Sys2Proof.Machine.execOr e n s
  | .ori e n => Sys2Proof.Machine.execOri e n s
  | .xor e n => Sys2Proof.Machine.execXor e n s
  | .xori e n => Sys2Proof.Machine.execXori e n s
  | .shl e n => Sys2Proof.Machine.execShl e n s
  | .shr e n => Sys2Proof.Machine.execShr e n s
  | .ext e n => Sys2Proof.Machine.execExt e n s
  | .dep e n => Sys2Proof.Machine.execDep e n s
  | .cmp e n => Sys2Proof.Machine.execCmp e n s
  | .cmpi e n => Sys2Proof.Machine.execCmpi e n s
  | .tsti e n => Sys2Proof.Machine.execTsti e n s
  | .hash e n => Sys2Proof.Machine.execHash e n s
  | .ldh e n => Sys2Proof.Machine.execLdh e n s
  | .ldm e n => Sys2Proof.Machine.execLdm e n s
  | .stm e n => Sys2Proof.Machine.execStm e n s
  | .kput e n => Sys2Proof.Machine.execKput e n s
  | .kcpy e n => Sys2Proof.Machine.execKcpy e n s
  | .kclr e n => Sys2Proof.Machine.execKclr e n s
  | .lkd e n => Sys2Proof.Machine.execLkd e n s
  | .lkh e n => Sys2Proof.Machine.execLkh e n s
  | .lkt e n => Sys2Proof.Machine.execLkt e n s
  | .lookupAnswer k err lat => Sys2Proof.Machine.execLookupAnswer k err lat s
  | .wait e n => Sys2Proof.Machine.execWait e n s
  | .ldr e n => Sys2Proof.Machine.execLdr e n s
  | .fwd e n => Sys2Proof.Machine.execFwd e n s
  | .drop e n => Sys2Proof.Machine.execDrop e n s
  | .tohost e n => Sys2Proof.Machine.execTohost e n s
  | .mirror e n => Sys2Proof.Machine.execMirror e n s
  | .police e n => Sys2Proof.Machine.execPolice e n s
  | .settc e n => Sys2Proof.Machine.execSettc e n s
  | .count e n => Sys2Proof.Machine.execCount e n s
  | .resp e n => Sys2Proof.Machine.execResp e n s
  | .learn e n => Sys2Proof.Machine.execLearn e n s
  | .slearn e n => Sys2Proof.Machine.execSlearn e n s
  | .jmp e n => Sys2Proof.Machine.execJmp e n s
  | .bCc e n => Sys2Proof.Machine.execBCc e n s
  | .call e n => Sys2Proof.Machine.execCall e n s
  | .ret e n => Sys2Proof.Machine.execRet e n s
  | .outer e n => Sys2Proof.Machine.execOuter e n s
  | .endProg e n => Sys2Proof.Machine.execEndProg e n s
  | .sth e n => Sys2Proof.Machine.execSth e n s
  | .eins e n => Sys2Proof.Machine.execEins e n s
  | .edel e n => Sys2Proof.Machine.execEdel e n s
  | .etpl e n => Sys2Proof.Machine.execEtpl e n s
  | .csum4 e n => Sys2Proof.Machine.execCsum4 e n s
  | .tsmark e n => Sys2Proof.Machine.execTsmark e n s
  | .tstag e n => Sys2Proof.Machine.execTstag e n s
  | .actionMerge n errs => Sys2Proof.Machine.execActionMerge n errs s
  | .responderReply n => Sys2Proof.Machine.execResponderReply n s
  | .bfdCtlWrite a n x v => Sys2Proof.Machine.execBfdCtlWrite a n x v s
  | .bfdTx n x => Sys2Proof.Machine.execBfdTx n x s
  | .bfdDetectExpire n x => Sys2Proof.Machine.execBfdDetectExpire n x s
  | .lacpTx n j => Sys2Proof.Machine.execLacpTx n j s
  | .yarnParse n => Sys2Proof.Machine.execYarnParse n s
  | .reseqArrive d => Sys2Proof.Machine.execReseqArrive d s
  | .reseqTimeout d x => Sys2Proof.Machine.execReseqTimeout d x s
  | .reseqCmd a v => Sys2Proof.Machine.execReseqCmd a v s
  | .yrnIdWrite a v => Sys2Proof.Machine.execYrnIdWrite a v s
  | .bpmClaim d => Sys2Proof.Machine.execBpmClaim d s
  | .xbarMatch d => Sys2Proof.Machine.execXbarMatch d s
  | .copyLink id => Sys2Proof.Machine.execCopyLink id s
  | .spillMove d q => Sys2Proof.Machine.execSpillMove d q s
  | .spillMoveAck d q => Sys2Proof.Machine.execSpillMoveAck d q s
  | .spillFetch d q => Sys2Proof.Machine.execSpillFetch d q s
  | .spillFetchDone d q corr bad => Sys2Proof.Machine.execSpillFetchDone d q corr bad s
  | .splice d q => Sys2Proof.Machine.execSplice d q s
  | .egressSelect d lp => Sys2Proof.Machine.execEgressSelect d lp s
  | .schLeafWrite a d q v => Sys2Proof.Machine.execSchLeafWrite a d q v s
  | .schGrpWrite a d g v => Sys2Proof.Machine.execSchGrpWrite a d g v s
  | .replication d err grpErr => Sys2Proof.Machine.execReplication d err grpErr s
  | .learnPlan d => Sys2Proof.Machine.execLearnPlan d s
  | .retryReplan d => Sys2Proof.Machine.execRetryReplan d s
  | .hwWritesApply => Sys2Proof.Machine.execHwWritesApply s
  | .tableFlushComplete => Sys2Proof.Machine.execTableFlushComplete s
  | .hashSeedWrite a d t sub v => Sys2Proof.Machine.execHashSeedWrite a d t sub v s
  | .panelSearch q err => Sys2Proof.Machine.execPanelSearch q err s
  | .tcamRetry k => Sys2Proof.Machine.execTcamRetry k s
  | .tcamFallback k => Sys2Proof.Machine.execTcamFallback k s
  | .panelCfgWrite a q v => Sys2Proof.Machine.execPanelCfgWrite a q v s
  | .twinCopyDone q => Sys2Proof.Machine.execTwinCopyDone q s
  | .twinReleaseEnd q => Sys2Proof.Machine.execTwinReleaseEnd q s
  | .speedCommand a h v => Sys2Proof.Machine.execSpeedCommand a h v s
  | .speedPolicyWindow d u => Sys2Proof.Machine.execSpeedPolicyWindow d u s
  | .speedStep h => Sys2Proof.Machine.execSpeedStep h s
  | .speedStepTimeout h => Sys2Proof.Machine.execSpeedStepTimeout h s
  | .refresh h waiting => Sys2Proof.Machine.execRefresh h waiting s
  | .hbmTempRead h t => Sys2Proof.Machine.execHbmTempRead h t s
  | .configRequest f dw wr be v => Sys2Proof.Machine.execConfigRequest f dw wr be v s
  | .pcieLinkUp speed log2w flit => Sys2Proof.Machine.execPcieLinkUp speed log2w flit s
  | .linkDown cause => Sys2Proof.Machine.execLinkDown cause s
  | .perstNAssert => Sys2Proof.Machine.execPerstNAssert s
  | .flrStart f => Sys2Proof.Machine.execFlrStart f s
  | .flrComplete f limit => Sys2Proof.Machine.execFlrComplete f limit s
  | .busMasterClear f => Sys2Proof.Machine.execBusMasterClear f s
  | .d3hotTransition f enter => Sys2Proof.Machine.execD3hotTransition f enter s
  | .vfEnableWrite on => Sys2Proof.Machine.execVfEnableWrite on s
  | .readCompletion tag status last data => Sys2Proof.Machine.execReadCompletion tag status last data s
  | .completionTimeout tag => Sys2Proof.Machine.execCompletionTimeout tag s
  | .tagHoldExpire tag => Sys2Proof.Machine.execTagHoldExpire tag s
  | .l1Entry => Sys2Proof.Machine.execL1Entry s
  | .l0pWindow u => Sys2Proof.Machine.execL0pWindow u s
  | .msixSend k => Sys2Proof.Machine.execMsixSend k s
  | .funcRingsWrite a f v => Sys2Proof.Machine.execFuncRingsWrite a f v s
  | .doorbell f off size v => Sys2Proof.Machine.execDoorbell f off size v s
  | .doorbellFetch f cq r => Sys2Proof.Machine.execDoorbellFetch f cq r s
  | .indexWrite cq g => Sys2Proof.Machine.execIndexWrite cq g s
  | .descriptorFetch => Sys2Proof.Machine.execDescriptorFetch s
  | .txFrame g rd data => Sys2Proof.Machine.execTxFrame g rd data s
  | .rxDeliver => Sys2Proof.Machine.execRxDeliver s
  | .ringEnable a cq g v => Sys2Proof.Machine.execRingEnable a cq g v s
  | .ringDisable a cq g v => Sys2Proof.Machine.execRingDisable a cq g v s
  | .ringDisableDone g => Sys2Proof.Machine.execRingDisableDone g s
  | .programStart q c => Sys2Proof.Machine.execProgramStart q c s
  | .chartNop q c => Sys2Proof.Machine.execChartNop q c s
  | .rbase q c => Sys2Proof.Machine.execRbase q c s
  | .fence q c => Sys2Proof.Machine.execFence q c s
  | .waitTick q c => Sys2Proof.Machine.execWaitTick q c s
  | .waitAt q c => Sys2Proof.Machine.execWaitAt q c s
  | .chartWaitEnd q c => Sys2Proof.Machine.execChartWaitEnd q c s
  | .commit q c => Sys2Proof.Machine.execCommit q c s
  | .discard q c => Sys2Proof.Machine.execDiscard q c s
  | .dwr q c rd data => Sys2Proof.Machine.execDwr q c rd data s
  | .dinv q c => Sys2Proof.Machine.execDinv q c s
  | .drd q c bad => Sys2Proof.Machine.execDrd q c bad s
  | .hins q c rd data => Sys2Proof.Machine.execHins q c rd data s
  | .hdel q c rd data => Sys2Proof.Machine.execHdel q c rd data s
  | .hsrch q c rd data bad => Sys2Proof.Machine.execHsrch q c rd data bad s
  | .hnext q c => Sys2Proof.Machine.execHnext q c s
  | .flush q c => Sys2Proof.Machine.execFlush q c s
  | .twr q c rd data => Sys2Proof.Machine.execTwr q c rd data s
  | .tinv q c => Sys2Proof.Machine.execTinv q c s
  | .tval q c => Sys2Proof.Machine.execTval q c s
  | .tact q c rd data => Sys2Proof.Machine.execTact q c rd data s
  | .trd q c => Sys2Proof.Machine.execTrd q c s
  | .pivw q c rd data => Sys2Proof.Machine.execPivw q c rd data s
  | .pivr q c => Sys2Proof.Machine.execPivr q c s
  | .regr q c => Sys2Proof.Machine.execRegr q c s
  | .regw q c => Sys2Proof.Machine.execRegw q c s
  | .regm q c => Sys2Proof.Machine.execRegm q c s
  | .poll q c => Sys2Proof.Machine.execPoll q c s
  | .pollTimeout q c => Sys2Proof.Machine.execPollTimeout q c s
  | .xmit q c rd data => Sys2Proof.Machine.execXmit q c rd data s
  | .faultDetect k src inst info hit lasting => Sys2Proof.Machine.execFaultDetect k src inst info hit lasting s
  | .faultReaction k src inst => Sys2Proof.Machine.execFaultReaction k src inst s
  | .faultInject a k v => Sys2Proof.Machine.execFaultInject a k v s
  | .journalWrite => Sys2Proof.Machine.execJournalWrite s
  | .journalErase a v => Sys2Proof.Machine.execJournalErase a v s
  | .gaugeCounterWrite a c v => Sys2Proof.Machine.execGaugeCounterWrite a c v s
  | .collectionDue => Sys2Proof.Machine.execCollectionDue s
  | .collectionRequest a v => Sys2Proof.Machine.execCollectionRequest a v s
  | .collectionRangeWrite a hi r v => Sys2Proof.Machine.execCollectionRangeWrite a hi r v s
  | .collectionDone => Sys2Proof.Machine.execCollectionDone s
  | .sampleDrain d => Sys2Proof.Machine.execSampleDrain d s
  | .start c => Sys2Proof.Machine.execStart c s
  | .porNAssert => Sys2Proof.Machine.execPorNAssert s
  | .watchdogExpire => Sys2Proof.Machine.execWatchdogExpire s
  | .castOnStepTimeout => Sys2Proof.Machine.execCastOnStepTimeout s
  | .kick a v => Sys2Proof.Machine.execKick a v s
  | .restart a v => Sys2Proof.Machine.execRestart a v s
  | .confirm a v => Sys2Proof.Machine.execConfirm a v s
  | .startSettled => Sys2Proof.Machine.execStartSettled s
  | .svnCommit a v => Sys2Proof.Machine.execSvnCommit a v s
  | .revoke0 a v => Sys2Proof.Machine.execRevoke0 a v s
  | .slotWrite a v => Sys2Proof.Machine.execSlotWrite a v s
  | .slotLineWritten => Sys2Proof.Machine.execSlotLineWritten s
  | .domainRampDone d good => Sys2Proof.Machine.execDomainRampDone d good s
  | .domainFenceDone d => Sys2Proof.Machine.execDomainFenceDone d s
  | .domainRetWake d => Sys2Proof.Machine.execDomainRetWake d s
  | .domainRestore a v => Sys2Proof.Machine.execDomainRestore a v s
  | .drainComplete => Sys2Proof.Machine.execDrainComplete s
  | .drainTimeout => Sys2Proof.Machine.execDrainTimeout s
  | .hibernateEntry => Sys2Proof.Machine.execHibernateEntry s
  | .powerWindow pwr => Sys2Proof.Machine.execPowerWindow pwr s
  | .railFault aon => Sys2Proof.Machine.execRailFault aon s
  | .thermalTrip => Sys2Proof.Machine.execThermalTrip s
  | .refclkLoss => Sys2Proof.Machine.execRefclkLoss s
  | .keyLoad a k v => Sys2Proof.Machine.execKeyLoad a k v s
  | .saDisable a k v => Sys2Proof.Machine.execSaDisable a k v s
  | .challenge a v => Sys2Proof.Machine.execChallenge a v s
  | .unlockGo a v tapToo => Sys2Proof.Machine.execUnlockGo a v tapToo s
  | .unlockVerifyDone => Sys2Proof.Machine.execUnlockVerifyDone s
  | .lock a v => Sys2Proof.Machine.execLock a v s
  | .tapInstruction k => Sys2Proof.Machine.execTapInstruction k s
  | .smbusRequest q => Sys2Proof.Machine.execSmbusRequest q s
  | .registerRead a q => Sys2Proof.Machine.execRegisterRead a q s
  | .linkFaultChange p aligned fecOk lfault rfault => Sys2Proof.Machine.execLinkFaultChange p aligned fecOk lfault rfault s
  | .linkTrainingDone l => Sys2Proof.Machine.execLinkTrainingDone l s
  | .cdrLockRegained k => Sys2Proof.Machine.execCdrLockRegained k s
  | .l1Exit => Sys2Proof.Machine.execL1Exit s
  | .l0pPartnerRequest log2w => Sys2Proof.Machine.execL0pPartnerRequest log2w s
  | .faultConditionCleared k src inst => Sys2Proof.Machine.execFaultConditionCleared k src inst s
  | .tapReset => Sys2Proof.Machine.execTapReset s

end Sys2Proof.Machine
end

