-- ==== Sys2Proof/Safety.lean ====
section
/-! DEFINITION. What claims call safe: a step that goes on, a run that never stops, and the form that the register file
always has. -/

namespace Sys2Proof.Machine

/-- An outcome goes on to a next state. -/
def GoesOn (r : Res) : Prop := ∃ t, r = .next t

/-- A run of `n` steps from `s` never stops. -/
def SafeRun : Nat → State → Prop
  | 0, _ => True
  | n + 1, s => ∃ t, step s = .next t ∧ SafeRun n t

/-- The register file, and the copy of it that is in force, are in canonical form: keys strictly rising, no entry equal to
its reset value. Equal register contents are then equal data. -/
abbrev State.RegsCanonical (s : State) : Prop := SMap.wf Reg.resetAt s.regs = true ∧ SMap.wf Reg.resetAt s.inForce = true

/-- An access of agent `a` to instance `i` of a register is taken: its function answers and passes memory requests (R307,
R308, R319, R321), and R15 to R17 let it through. -/
abbrev State.takes (s : State) (a : Agent) (r : Reg) (i : Nat) : Prop := s.gate a = none ∧ s.reach a r i = .ok

/-- From `s` to `t`, every register instance outside `p` keeps its value. -/
def RegsBut (p : Reg → Nat → Prop) (s t : State) : Prop := ∀ r i, ¬ p r i → t.reg r i = s.reg r i

/-- From `s` to `t` nothing changes but the registers of `p`, the outputs, and the agents' held halves and shadows (R14). -/
def OnlyRegs (p : Reg → Nat → Prop) (s t : State) : Prop :=
  { t with out := s.out, bus := s.bus, regs := s.regs } = s ∧ RegsBut p s t

/-- The registers that a report writes: interrupt pending bits and their counts, completion ring status, record counts,
fault status, the journal's drop count, the count of additions that frozen counters lost, and the power state of the link,
which leaves L1 for a record's or a message's sake (R315). -/
def reportRegs : List Reg :=
  [.PCX_IMOD, .PCX_CNT, .DMA_CQ_STS, .DMA_CNT, .FLT_STS, .FLT_CNT, .FLT_INST, .FLT_FIRST, .FLT_FIRST_INFO, .BOOT_JRN_STS,
   .GGE_COL_STS, .PCX_LINK_STS]

/-- From `s` to `t` nothing changes but the registers of `p` and what a report touches: interrupts, records in rings and
journal, faults and their counts. -/
def OnlyReports (p : Reg → Nat → Prop) (s t : State) : Prop :=
  { t with out := s.out, bus := s.bus, regs := s.regs, dma := s.dma, flt := s.flt, jrn := s.jrn, gauge := s.gauge } = s ∧
    RegsBut (fun r i => r ∈ reportRegs ∨ p r i) s t

/-- The registers whose write does more than set their own fields by their access codes, or less (`State.writeReg`). -/
def specialWrites : List Reg :=
  [.TIK_PERIOD_NEXT, .TIK_SYNC, .GLB_HOSTLOSS, .GLB_HEARTBEAT, .GLB_MODE_REQ, .FLT_STS, .FLT_EN_INT, .FLT_EN_PIN, .FLT_EN_NTF,
   .FLT_EN_JRN, .FLT_EN_ACT, .FLT_INJ, .PWR_CAP_STS, .PWR_TEMP, .PWR_DOM_CMD, .BOOT_CTL, .BOOT_SLOT_CTL, .BOOT_JRN_CMD,
   .PCX_FUNC_RINGS, .PCX_LTR, .DMA_SQ_CFG, .DMA_CQ_CFG, .DMA_SQ_BASE, .DMA_SQ_IDX, .DMA_CQ_BASE, .DMA_CQ_IDX, .TIM_ADJ,
   .TIM_SET_SEC, .CAGE_CTL, .CAGE_I2C_CTL, .SEC_DBG_CTL, .STE_STORE, .STE_ENTRY, .STE_SRC_MAP, .STE_PAGES, .STE_IMG,
   .STE_ENG_STS, .ACT_LAG, .ACT_LAG_MEM, .ACT_BFD_CTL, .ACT_BFD_FMT, .ACT_BFD_TPL, .GGE_CNT, .GGE_COL_CMD,
   .GGE_COL_RNG_A, .GGE_COL_RNG_B, .SDS_LANE_CFG, .MAC_PORT_CFG, .MAC_PORT_CMD, .MSC_SA_CTL, .TCM_PANEL_CFG,
   .TCM_PANEL_STS, .LKP_HASH_SEED, .BPM_POOL_CFG, .BPM_SYS, .BPM_QPROF, .SKN_Q, .SCH_LEAF, .SCH_GRP, .YRN_ID,
   .YRN_RESEQ_CMD, .HBC_SPD_CMD, .HBC_TIM, .HBC_DLY]

/-- No collection holds counter instance `i` of a register frozen, so that it counts at once (R396). -/
abbrev State.counts (s : State) (r : Reg) (i : Nat) : Prop := s.gauge.held.contains (r.key i) = false

/-- Needle `k` holds `nd`, has clocks of its budget left, is not at the point at which a sample record is made (R404), and
fetches instruction word `w`. -/
def State.fetches (s : State) (k : Nat) (nd : Needle) (w : BitVec 64) : Prop :=
  s.needle k = some nd ∧ nd.clk < nd.budget ∧ s.fetch k nd = some w ∧
  ¬ (nd.sample = true ∧ s.fld F.GGE_SMP_CFG_MODE (k / 384) = 1 ∧ nd.pc = s.fld F.GGE_SMP_CFG_PC (k / 384))

/-- Word `w` has opcode `op`, and every bit outside the opcode and `used` is 0 (R124). -/
def opWord (op : Nat) (used w : BitVec 64) : Prop := w &&& ~~~ used = BitVec.ofNat 64 (op * 2 ^ 56)

/-- The registers that may change when a needle starts, goes on or ends: reports, its engine's needle counts, the pipeline's
counters, and the Gauge's counters and sample records. -/
def needleRegs : List Reg := [.STE_ENG_STS, .STE_CNT, .GGE_CNT, .GGE_OVF, .GGE_FRZ, .GGE_SBUF_STS]

/-- From `s` to `t` nothing changes but needle `k`, its engine's needle counts, and the Gauge. -/
def OnlyNeedle (k : Nat) (s t : State) : Prop :=
  (∀ j, j ≠ k → t.needle j = s.needle j) ∧
  OnlyReports (fun r i => r = .STE_ENG_STS ∧ i = k / 96 ∨ r ∈ [.GGE_CNT, .GGE_OVF, .GGE_FRZ]) s { t with needles := s.needles }

/-- The needle as instruction effect `x` leaves it, at the next instruction `cost` clocks after clock `c`. -/
def Needle.after (nd x : Needle) (c cost : Nat) : Needle :=
  { x with pc := nd.pc + 1, clk := c + cost, stalled := false, lastPc := nd.pc }

/-- Command `c` runs the instruction of needle `k` and leaves the needle as `x`, and only it. -/
def State.leaves (s : State) (c : Instr) (k : Nat) (x : Needle) : Prop :=
  ∃ t, exec c s = .next t ∧ t.needle k = some x ∧ OnlyNeedle k s t

/-- Command `c` ends the program of needle `k`, which works on packet `id`, with reason `r` of Table 4-1 (R99, R102): the
needle is free, the packet's jobs have ended, the ACL answers that an abort discards are counted (R466), and nothing else changes but
counts and the Gauge. -/
def State.endsWith (s : State) (c : Instr) (k id r : Nat) : Prop :=
  ∃ t, exec c s = .next t ∧ t.needle k = none ∧ (∀ j, j ≠ k → t.needle j = s.needle j) ∧
    (∀ j, j ∈ (t.pipe (k / 96 / 4)).ig ++ (t.pipe (k / 96 / 4)).eg → j.id = id → j.ended = true ∧ (r ≠ 0 → j.reason = r ∧ j.acls = [])) ∧
    (∀ m, m ≠ k / 96 / 4 → t.pipe m = s.pipe m) ∧
    OnlyReports (fun q _ => q ∈ .ACT_CNT :: needleRegs) s { t with needles := s.needles, pipes := s.pipes }

/-- The Stitch instructions, as commands to needle `i` of engine `e`. -/
def stitchCommands (e : Fin 64) (i : Fin 96) : List Instr :=
  [.nop e i, .movi e i, .mov e i, .add e i, .addi e i, .sub e i, .subi e i, .and e i, .andi e i, .or e i, .ori e i, .xor e i,
   .xori e i, .shl e i, .shr e i, .ext e i, .dep e i, .cmp e i, .cmpi e i, .tsti e i, .hash e i, .ldh e i, .ldm e i, .stm e i] ++
  [.kput e i, .kcpy e i, .kclr e i, .lkd e i, .lkh e i, .lkt e i, .wait e i, .ldr e i, .fwd e i, .drop e i, .tohost e i,
   .mirror e i, .police e i, .settc e i, .count e i, .resp e i, .learn e i, .slearn e i, .jmp e i, .bCc e i, .call e i, .ret e i] ++
  [.outer e i, .endProg e i, .sth e i, .eins e i, .edel e i, .etpl e i, .csum4 e i, .tsmark e i, .tstag e i]

/-- In `t` every ring that `s` gives to function `f` is disabled. -/
def RingsOff (s t : State) (f : Nat) : Prop :=
  ∀ (cq : Bool) (g : Nat), g < 4096 → s.ringOwner cq g = some f → t.ringEnabled cq g = false

/-- In `t` function `f` reads nothing for an operation any more, and the data of every read it has outstanding in `s` for one
will be discarded. -/
def ReadsDiscarded (s t : State) (f : Nat) : Prop :=
  (∀ o, o ∈ t.pcie.ops → o.fn ≠ f) ∧
  ∀ r, r ∈ s.pcie.reads → (∃ o, o ∈ s.pcie.ops ∧ o.fn = f ∧ o.id = r.op) → ∃ x, x ∈ t.pcie.reads ∧ x.tag = r.tag ∧ x.discard = true

/-- From `s` to `t` copies and frames keep all but, at most, the PKT_TX entries whose completion waits for them: those of a
ring that goes off are abandoned (R356). -/
def OnlyAbandons (s t : State) : Prop :=
  (SMap.wf (fun _ => none) s.copies = true →
    ∀ id, t.copy id = s.copy id ∨ ∃ c, s.copy id = some c ∧ t.copy id = some { c with tx := none }) ∧
  (SMap.wf (fun _ => PipeSt.idle) s.pipes = true →
    ∀ n, { t.pipe n with merge := (s.pipe n).merge } = s.pipe n ∧ (t.pipe n).merge.length = (s.pipe n).merge.length)

/-- From `s` to `t` nothing changes but the rings, the Chart programs cut off with them, the PKT_TX entries abandoned with them, what
the function's configuration and reads hold, host loss, the registers of `p`, and reports. -/
def OnlyHostSide (p : Reg → Nat → Prop) (s t : State) : Prop :=
  OnlyAbandons s t ∧
  OnlyReports (fun r i => r ∈ [.DMA_SQ_STS, .CHT_CNT, .CHT_ERR] ∨ p r i) s
    { t with chart := s.chart, pcie := s.pcie, copies := s.copies, pipes := s.pipes, tick := { t.tick with pf1Lost := s.tick.pf1Lost } }

/-- A program's context after it has taken entry `e`, numbered `i`. -/
def Ctx.took (x : Ctx) (i : Nat) (e : Bytes) : Ctx :=
  { x with last := i, taken := x.taken + 1, tail := entryLast e, entries := if x.cut then x.entries.drop 1 else x.entries }

/-- Context `c` of sequencer `q` runs program `x`, whose next entry is `e`, numbered `i`. -/
def State.atEntry (s : State) (q c : Fin 8) (x : Ctx) (i : Nat) (e : Bytes) : Prop :=
  s.ctx (8 * q.val + c.val) = some x ∧ s.chartOn = true ∧ x.wait = .none ∧ x.status = 0 ∧ (s.ctxEntries x).head? = some (i, e)

/-- The next entry of context `c` of sequencer `q` is an instruction of opcode `op` that passes the checks of R358, R360 and
R362, whose COUNT, where it has one, is not 0, and that need not wait for the staging (R364). -/
def State.runs (s : State) (q c : Fin 8) (x : Ctx) (i : Nat) (e : Bytes) (op : Nat) : Prop :=
  s.atEntry q c x i e ∧ cOp e = op ∧ s.stagingWaits q.val c.val e = false ∧ s.chartCheck (x.took i e) e = 0 ∧ chartIdle e = false

/-- The state after context `k`, which runs `x`, has taken entry `e`, numbered `i`. -/
def State.afterTaking (s : State) (k : Nat) (x : Ctx) (i : Nat) (e : Bytes) : State :=
  let s0 : State := { s with out := [] }
  (if x.cut then s0 else s0.setSq x.ring { s.sq x.ring with entries := (s.sq x.ring).entries.drop 1 }).setCtx k (some (x.took i e))

/-- From `s` to `t` nothing changes but the program of context `k`, the ring entries it consumes, its completion, and
reports. -/
def OnlyChart (k : Nat) (s t : State) : Prop :=
  (∀ j, j ≠ k → t.ctx j = s.ctx j) ∧ OnlyReports (fun r _ => r ∈ [.CHT_CNT, .CHT_ERR, .DMA_SQ_STS]) s { t with chart := s.chart }

/-- Command `c` ends an instruction of context `k` without error, leaving its program as `y`: the program goes on, or has
ended with its LAST entry (R359, R361); beyond that `frame` says what changes. -/
def State.endsInstr (s : State) (c : Instr) (k : Nat) (y : Ctx) (frame : State → State → Prop) : Prop :=
  ∃ t, exec c s = .next t ∧ frame s t ∧
    (y.tail = false → y.cut = false ∨ y.entries ≠ [] → t.ctx k = some { y with done := y.done + 1, wait := .none }) ∧
    (y.tail = true → t.ctx k = none) ∧ (t.sq y.ring).entries = (s.sq y.ring).entries.drop (if y.cut then 0 else 1) ∧
    (s.counts .CHT_CNT 1 → t.reg .CHT_CNT 1 = s.reg .CHT_CNT 1 + 1)

/-- Command `c` ends the program `x` of context `k` with status `st` at entry `i`: its staged writes are dropped, and what
is left of it is only consumed (R358, R375). -/
def State.failsWith (s : State) (c : Instr) (k : Nat) (x : Ctx) (i st : Nat) (frame : State → State → Prop) : Prop :=
  ∃ t, exec c s = .next t ∧ frame s t ∧
    (t.ctx k = none ∨ ∃ y, t.ctx k = some y ∧ y.status = st ∧ y.staged = [] ∧ y.holds = false ∧ y.wait = .none) ∧
    (s.counts .CHT_CNT 5 → t.reg .CHT_CNT 5 = s.reg .CHT_CNT 5 + 1) ∧
    (s.fld F.CHT_ERR_VALID (k / 8) = 0 →
      t.reg .CHT_ERR (k / 8) = BitVec.ofNat 64 (st + x.ring * 2 ^ 8 + i * 2 ^ 20 + 2 ^ 36))

/-- No read operation is under way, and all the requests that read `spans` for function `f` find a tag at once (R305). -/
def State.readsAtOnce (s : State) (f : Nat) (spans : List (Nat × Nat)) : Prop :=
  s.pcie.ops = [] ∧ s.pcie.reads = [] ∧ (cutReads (s.maxRequest f) 0 spans).length ≤ s.maxReads

/-- No operand has arrived for entry `i` of program `x`, and none is being read ahead. -/
def State.unread (s : State) (x : Ctx) (i : Nat) : Prop := x.operand = none ∧ s.aheadOf x i = none

/-- The operand `data`, `len` bytes, of entry `e`, numbered `i`, of program `x` is there: it has been read before, for
the instruction or ahead (R359), or the command, which says that the read ends as `rd` with the bytes `sent`, reads it (R325). -/
def State.hasOperand (s : State) (x : Ctx) (i : Nat) (e : Bytes) (len : Nat) (rd : ReadEnd) (sent data : Bytes) : Prop :=
  x.operand = some data ∨ x.operand = none ∧ (s.aheadOf x i).map (fun a => a.got) = some (some (some data)) ∨
  s.unread x i ∧ rd = .whole ∧ sent = data ∧ s.fnMayIssue (s.ownerOf false x.ring) = true ∧
    s.readsAtOnce (s.ownerOf false x.ring) [(cB e, len)]

/-- The commands that execute Chart instructions on context `c` of sequencer `q`, by opcode; a waiting POLL is apart. -/
def chartCommands (q c : Fin 8) (rd : ReadEnd) (data : Bytes) (bad : List Nat) : List (Nat × Instr) :=
  [(0x00, .chartNop q c), (0x01, .rbase q c), (0x02, .fence q c), (0x03, .waitTick q c), (0x04, .waitAt q c), (0x05, .commit q c),
   (0x06, .discard q c), (0x10, .dwr q c rd data), (0x11, .dinv q c), (0x12, .drd q c bad), (0x18, .hins q c rd data),
   (0x19, .hdel q c rd data), (0x1A, .hsrch q c rd data bad), (0x1B, .hnext q c), (0x1C, .flush q c)] ++
  [(0x20, .twr q c rd data), (0x21, .tinv q c), (0x22, .tval q c), (0x23, .tact q c rd data), (0x24, .trd q c),
   (0x25, .pivw q c rd data), (0x26, .pivr q c), (0x30, .regr q c), (0x31, .regw q c), (0x32, .regm q c),
   (0x38, .xmit q c rd data)]

/-- Every domain's supply is switched: an absent one stays ABSENT, PD62 is ON where `keep62`, every other is OFF. -/
def State.allOff (t : State) (keep62 : Bool) : Prop :=
  ∀ d, d < 64 → t.domState d = if (absentDomains t.part).contains d then 7 else if d = 62 ∧ keep62 = true then 3 else 0

/-- From `s` the device has gone to OFF in `t`: every register is at its reset value but what fuses and MRAM hold, and nothing
is in flight (R421, R452). -/
def WentOff (s t : State) (keep62 : Bool) : Prop :=
  t.curMode = 0 ∧ t.allOff keep62 ∧ t.copies = [] ∧ t.needles = [] ∧ t.boot.slots = s.boot.slots ∧ t.jrn.queue = [] ∧
  (∀ f, f ∈ [F.BOOT_CFG_PREFER, F.BOOT_STS_ATTEMPT, F.BOOT_STS_SVN_MIN, F.BOOT_STS_KH0_REV, F.BOOT_JRN_STS_BOOT,
    F.GLB_SERIAL_SERIAL, F.GLB_ID_FUSE_REV] → t.fld f 0 = s.fld f 0) ∧
  ∀ r i, r ∉ [.BOOT_CFG, .BOOT_STS, .BOOT_JRN_STS, .GLB_SERIAL, .GLB_ID, .GLB_MODE, .PWR_DOM_STS] → t.reg r i = Reg.resetAt (r.key i)

/-- From `s` a start of cause 1 or 2 has begun in `t`: every switched domain is off, the mode is CAST-ON at step C0, debug
access is locked, what lies outside AON is at its reset value but RWS fields and reports, MRAM stays, and nothing is in
flight (R413). `how`: how an unconfirmed start is recorded to have ended. -/
def StartBegun (s t : State) (cause how : Nat) : Prop :=
  t.curMode = 1 ∧ t.boot.step = 0 ∧ t.fld F.BOOT_STS_CAUSE 0 = cause ∧ t.fld F.SEC_DBG_STS_LEVEL 0 = 0 ∧ t.allOff false ∧
  t.boot.prev = (if s.fld F.BOOT_STS_CONFIRMED 0 = 1 then 0 else if s.fld F.BOOT_STS_FB 0 = 1 then 4 else how) ∧
  t.boot.slots = s.boot.slots ∧ t.jrn.mram = s.jrn.mram ∧ t.copies = [] ∧ t.needles = [] ∧
  (∀ r i, r.power ≠ .aon → r.stickyMask = 0 → r ∉ reportRegs → t.reg r i = Reg.resetAt (r.key i)) ∧
  (s.RegsCanonical → t.fld F.GLB_MODE_PREV 0 = s.curMode ∧
    ∀ r i, r ∈ [Reg.BOOT_CFG, .GLB_SPLIT, .TIK_PERIOD, .PWR_SEQ, .PWR_CAP, .FLT_EN_ACT, .FLT_EN_JRN, .FLT_EN_PIN] → t.reg r i = s.reg r i)

/-- The ROM image runs in MINIMAL after a fallback for reason `why` (R417). -/
def FellBack (t : State) (why : Nat) : Prop :=
  t.curMode = 2 ∧ t.fld F.GLB_MODE_REASON 0 = 3 ∧ t.fld F.BOOT_STS_ATTEMPT 0 = 0 ∧ t.fld F.BOOT_STS_FB 0 = 1 ∧
  t.fld F.BOOT_STS_FB_REASON 0 = why ∧ t.reg .GLB_FWVER 0 = 0 ∧ bitOf (t.fld F.FLT_STS_STS 3) 1 = true ∧ t.boot.step = 8

end Sys2Proof.Machine
end

