-- ==== Sys2Proof/Certificates/Slice0/Obligations.lean ====
section
/-! DEFINITION. The statements for the provers: what the commands do, by the families of the opcode table, what they leave
unchanged, and what every step keeps. -/

open Sys2Proof Sys2Proof.Machine

/-- A step runs the command at the front of the queue (R40, R414, 00_scope.md, 02_row_tick.md). When command c is at
the front of the queue, a step is exec of c on the state whose queue is the rest. On an empty queue (the model's
choice, log entry 7), while the tick generator runs (every mode but OFF, once step C3 of cast-on is over) and the
clock is not the last of its tick, a step passes one core clock: TIK_CLK counts one more, TIK_COUNT stays, the start
watchdog counts down; in step C3 only the watchdog counts; otherwise only the outputs are cleared. -/
def Obligations.StepRunsFront : Prop :=
  (∀ (c : Instr) (rest : List Instr) (s : State), s.pending = c :: rest → step s = exec c { s with pending := rest }) ∧
  (∀ s : State, s.pending = [] → s.curMode ≠ 0 → 4 ≤ s.boot.step → s.fld F.TIK_CLK_CLK 0 + 1 < s.tick.len →
    s.fld F.TIK_CLK_CLK 0 < 8191 →
    ∃ t, step s = .next t ∧ t.fld F.TIK_CLK_CLK 0 = s.fld F.TIK_CLK_CLK 0 + 1 ∧ t.tikCount = s.tikCount ∧
      t.boot.wdog = s.boot.wdog - 1 ∧ t.pending = []) ∧
  (∀ s : State, s.pending = [] → s.curMode ≠ 0 → s.boot.step = 3 →
    step s = .next { s with out := [], boot := { s.boot with wdog := s.boot.wdog - 1 } }) ∧
  ∀ s : State, s.pending = [] → (s.curMode = 0 ∨ s.boot.step < 3 ∨ (4 ≤ s.boot.step ∧ s.tick.len ≤ s.fld F.TIK_CLK_CLK 0 + 1)) →
    step s = .next { s with out := [] }

/-- Every command goes on from every state (R15, R16, R17, R312). For every command and every state exec answers a
next state, and so does a step: no command of the table ends in a fault or a refusal, since the device answers every
access and event with an effect or with the values of R15 to R17. -/
def Obligations.NoCommandStops : Prop :=
  (∀ (c : Instr) (s : State), GoesOn (exec c s)) ∧ ∀ s : State, GoesOn (step s)

/-- No command changes the waiting queue or the part (R408). Whatever the command and the state, a next state that
exec answers has the same waiting commands and is the same part of the family: what a part lacks stays absent in every
mode. -/
def Obligations.QueueAndPartStay : Prop :=
  ∀ (c : Instr) (s t : State), exec c s = .next t → t.pending = s.pending ∧ t.part = s.part

/-- Every step keeps the register files canonical (R5, R6, R32, 01_architecture.md). From every state whose register
file, and whose copy of it in force since the last edge, are in canonical form (keys strictly rising, no entry equal
to its reset value), every step leads to a state of which the same holds: so equal register contents are equal data in
every state that runs reach. -/
def Obligations.StepsKeepRegistersCanonical : Prop :=
  ∀ s t : State, s.RegsCanonical → step s = .next t → t.RegsCanonical

/-- Reset leaves READY with the register tables' reset values (R9, R25, R40). After reset the queue is empty, the
register files are canonical, and every register reads its reset value; among them GLB_MODE.CUR is READY, the tick
period is 1,200 clocks, GLB_SPLIT is 0 and GLB_SPLIT_LOSS 0x1FFF, no fault status is set, and no interrupt is pending.
-/
def Obligations.ResetState : Prop :=
  State.reset.pending = [] ∧ State.reset.out = [] ∧ State.reset.RegsCanonical ∧
  (∀ r i, State.reset.reg r i = Reg.resetAt (r.key i)) ∧
  State.reset.curMode = 3 ∧ State.reset.fld F.TIK_PERIOD_CLOCKS 0 = 1200 ∧ State.reset.reg .GLB_SPLIT 0 = 0 ∧
  State.reset.reg .GLB_SPLIT_LOSS 0 = 0x1FFF ∧ (∀ k, k < 23 → State.reset.reg .FLT_STS k = 0) ∧
  (∀ k, k < 4096 → State.reset.fld F.PCX_IMOD_PEND k = 0) ∧ State.reset.reg .TIK_COUNT 0 = 0

/-- A register write follows the access codes of the fields it covers (R6, R8, R10, R11, R15, R16, R17). A naturally
aligned write, of the register's own width, of a register of which no further effect is described, by an agent whose
accesses are taken, answers a next state: RW bits take the written value, RW1C and RWS bits written 1 are cleared, a
counting field written with any 1 is cleared whole, all other bits keep their value. No other register and nothing
else of the device changes. Where the register's power domain is off, or the agent is not listed, or no such register
exists in the part, the register keeps its value, and an agent not listed is counted in PCX_ACC_VIOL. -/
def Obligations.WriteFollowsAccessCodes : Prop :=
  (∀ (a : Agent) (addr : Nat) (v : BitVec 64) (r : Reg) (i : Nat) (s : State), s.takes a r i → locate addr = some (r, i, 0) →
    addr % (r.width / 8) = 0 → s.busAddr a addr = some addr → r ∉ specialWrites →
    ∃ t, exec (.registerWrite a ⟨.bar0, addr, r.width / 8, true⟩ v) s = .next t ∧ t.out = [] ∧
      OnlyRegs (fun q j => q = r ∧ j = i) s t ∧
      ∀ b, b < r.width → (t.reg r i).getLsbD b =
        if r.rwMask.getLsbD b then v.getLsbD b
        else (s.reg r i).getLsbD b && !(r.w1cMask.getLsbD b && v.getLsbD b) &&
          !(r.countMask.getLsbD b && v &&& r.countMask != 0)) ∧
  (∀ (a : Agent) (addr : Nat) (v : BitVec 64) (r : Reg) (i : Nat) (s : State), s.gate a = none →
    (s.reach a r i = .off ∨ s.reach a r i = .undefined) → locate addr = some (r, i, 0) → addr % (r.width / 8) = 0 →
    s.busAddr a addr = some addr →
    ∃ t, exec (.registerWrite a ⟨.bar0, addr, r.width / 8, true⟩ v) s = .next t ∧ OnlyRegs (fun _ _ => False) s t) ∧
  (∀ (a : Agent) (addr : Nat) (v : BitVec 64) (r : Reg) (i : Nat) (s : State), s.gate a = none →
    s.reach a r i = .violation → locate addr = some (r, i, 0) → addr % (r.width / 8) = 0 → s.busAddr a addr = some addr →
    s.gauge.held.contains (Reg.PCX_CNT.key 11) = false →
    ∃ t, exec (.registerWrite a ⟨.bar0, addr, r.width / 8, true⟩ v) s = .next t ∧
      t.reg .PCX_CNT 11 = s.reg .PCX_CNT 11 + 1 ∧ OnlyReports (fun _ _ => False) s t)

/-- A register read answers what the register reads as (R6, R11, R14, R15, R16, R17). A naturally aligned read of a
whole register by an agent whose accesses are taken answers a next state that sends out the register's value as it
reads (fields that show other state included, write-only and reserved fields 0) and changes nothing but the agent's
shadow. In an off domain the answer is all ones; for an agent not listed, whose access is counted, and where no such
register exists, it is 0. TIM_TOD_NS and TIM_TOD_SEC, whose reads latch the time, are not covered. -/
def Obligations.ReadAnswersTheRegister : Prop :=
  ∀ (a : Agent) (addr : Nat) (r : Reg) (i : Nat) (s : State), s.gate a = none → locate addr = some (r, i, 0) →
    addr % (r.width / 8) = 0 → s.busAddr a addr = some addr → r ≠ .TIM_TOD_NS → r ≠ .TIM_TOD_SEC →
    (s.reach a r i = .ok → ∃ t, exec (.registerRead a ⟨.bar0, addr, r.width / 8, true⟩) s = .next t ∧
      t.out = [.readData a (BitVec.ofNat 64 ((s.view r i).toNat % 2 ^ r.width)) (r.width / 8)] ∧
      OnlyRegs (fun _ _ => False) s t) ∧
    (s.reach a r i = .violation → s.gauge.held.contains (Reg.PCX_CNT.key 11) = false →
      ∃ t, exec (.registerRead a ⟨.bar0, addr, r.width / 8, true⟩) s = .next t ∧ t.out.getLast? = some (.readData a 0 (r.width / 8)) ∧
        t.reg .PCX_CNT 11 = s.reg .PCX_CNT 11 + 1 ∧ OnlyReports (fun _ _ => False) s t) ∧
    (s.reach a r i = .off → ∃ t, exec (.registerRead a ⟨.bar0, addr, r.width / 8, true⟩) s = .next t ∧
      t.out = [.readData a (BitVec.ofNat 64 (2 ^ r.width - 1)) (r.width / 8)] ∧ OnlyRegs (fun _ _ => False) s t) ∧
    (s.reach a r i = .undefined → ∃ t, exec (.registerRead a ⟨.bar0, addr, r.width / 8, true⟩) s = .next t ∧
      t.out = [.readData a 0 (r.width / 8)] ∧ OnlyRegs (fun _ _ => False) s t)

/-- Halves of a 64-bit register are held, joined and latched for each agent (R12, R13, R14). A 32-bit write of the
lower half of a 64-bit register is held for its agent and changes no register; a write of the upper half of the
register whose lower half the agent holds is a write of both halves at once and ends the hold. A 32-bit read of the
lower half answers it and latches the upper half of the same instant; the agent's next read of the upper half answers
what was latched and ends the latch. -/
def Obligations.HalvesOfARegister : Prop :=
  (∀ (a : Agent) (addr : Nat) (v : BitVec 64) (r : Reg) (i : Nat) (s : State), s.takes a r i → r.width = 64 →
    locate addr = some (r, i, 0) → addr % 8 = 0 → s.busAddr a addr = some addr →
    ∃ t, exec (.registerWrite a ⟨.bar0, addr, 4, true⟩ v) s = .next t ∧
      t.holdOf a = some ⟨r.key i, v.setWidth 32⟩ ∧ OnlyRegs (fun _ _ => False) s t) ∧
  (∀ (a : Agent) (addr : Nat) (v : BitVec 64) (h : BitVec 32) (r : Reg) (i : Nat) (s : State), s.takes a r i → r.width = 64 →
    r ∉ specialWrites → locate (addr + 4) = some (r, i, 4) → addr % 8 = 0 → s.busAddr a (addr + 4) = some (addr + 4) →
    s.holdOf a = some ⟨r.key i, h⟩ →
    ∃ t, exec (.registerWrite a ⟨.bar0, addr + 4, 4, true⟩ v) s = .next t ∧ t.holdOf a = none ∧
      t.reg r i = r.written (s.reg r i) all64 (v.setWidth 32 ++ h : BitVec 64) ∧ OnlyRegs (fun q j => q = r ∧ j = i) s t) ∧
  (∀ (a : Agent) (addr : Nat) (r : Reg) (i : Nat) (s : State), s.takes a r i → r.width = 64 → r ≠ .TIM_TOD_SEC →
    locate addr = some (r, i, 0) → addr % 8 = 0 → s.busAddr a addr = some addr →
    ∃ t, exec (.halfReadLatch a addr) s = .next t ∧
      t.out = [.readData a (BitVec.ofNat 64 ((s.view r i).toNat % 2 ^ 32)) 4] ∧
      t.shadowOf a = some ⟨r.key i, (s.view r i).extractLsb' 32 32⟩ ∧ OnlyRegs (fun _ _ => False) s t) ∧
  ∀ (a : Agent) (addr : Nat) (h : BitVec 32) (r : Reg) (i : Nat) (s : State), s.takes a r i →
    locate (addr + 4) = some (r, i, 4) → addr % 8 = 0 → s.busAddr a (addr + 4) = some (addr + 4) →
    s.shadowOf a = some ⟨r.key i, h⟩ →
    ∃ t, exec (.registerRead a ⟨.bar0, addr + 4, 4, true⟩) s = .next t ∧
      t.out = [.readData a (h.setWidth 64) 4] ∧ t.shadowOf a = none ∧ OnlyRegs (fun _ _ => False) s t

/-- A mode request is accepted or refused at once (R25, R28, R29). MODE_REQUEST by an agent whose write is taken
answers a next state. Where no request of another agent was taken first in the clock, BUSY is 0, the mode code is 2 to
11 (10 only with SWATCH enabled) other than the present mode, and the transition table has the transition, the request
is accepted: TARGET takes the code, BUSY becomes 1, and the mode itself stays. Otherwise it is refused: REJECT is set,
TAG is the request's, REJ_CAUSE is the lowest cause that applies, from 1 to 4 (a request for the present mode, which
the table does not hold either, is cause 4, log entry 18), and GLB_MODE keeps its value. Beside MODE and TAG of the
request, nothing else changes but the mode interrupt. -/
def Obligations.ModeRequestDecided : Prop :=
  ∀ (a : Agent) (conflict : Bool) (v : BitVec 32) (s : State), s.takes a .GLB_MODE_REQ 0 →
    let m := v.toNat % 16
    let ok := conflict = false ∧ s.fld F.GLB_MODE_BUSY 0 = 0 ∧ 2 ≤ m ∧ m ≤ 11 ∧
      (m = 10 → s.fld F.SEC_DBG_STS_LEVEL 0 = 2) ∧ m ≠ s.curMode ∧ s.modeAllowed m = true
    (ok → ∃ t, exec (.modeRequest a conflict v) s = .next t ∧ t.fld F.GLB_MODE_TARGET 0 = m ∧ t.fld F.GLB_MODE_BUSY 0 = 1 ∧
      t.curMode = s.curMode ∧ t.reg .GLB_MODE_STS 0 = s.reg .GLB_MODE_STS 0 ∧
      t.mode = some ⟨isMc a, v.toNat / 256 % 256⟩ ∧
      RegsBut (fun r _ => r = .GLB_MODE_REQ ∨ r = .GLB_MODE) s t ∧ { t with mode := s.mode, pwr := s.pwr, regs := s.regs, bus := s.bus, out := s.out } = s) ∧
    (¬ ok → ∃ t, exec (.modeRequest a conflict v) s = .next t ∧ t.fld F.GLB_MODE_STS_REJECT 0 = 1 ∧
      t.fld F.GLB_MODE_STS_TAG 0 = v.toNat / 256 % 256 ∧ t.reg .GLB_MODE 0 = s.reg .GLB_MODE 0 ∧
      t.fld F.GLB_MODE_STS_REJ_CAUSE 0 = (if conflict then 1 else if s.fld F.GLB_MODE_BUSY 0 = 1 then 2
        else if m < 2 ∨ 11 < m ∨ (m = 10 ∧ s.fld F.SEC_DBG_STS_LEVEL 0 ≠ 2) then 3 else 4) ∧
      OnlyReports (fun r _ => r = .GLB_MODE_REQ ∨ r = .GLB_MODE_STS) s t)

/-- A finished transition takes effect (R30). TRANSITION_COMPLETE, while a request is pending whose work is finished,
answers a next state in which CUR has TARGET, PREV the former CUR, SEQ counts one more, BUSY is 0, REASON is 1 for a
management core and 0 otherwise, and DONE is set with the request's TAG; no request is pending any more. While the
work is not finished, nothing changes. Where the mode left is neither INIT nor HIBERNATE, nothing else changes beside
reports, the counts of the transition, and the throttle level with the ceiling that it sets. -/
def Obligations.TransitionCompletes : Prop :=
  (∀ (q : ModeReq) (s : State), s.mode = some q → s.transitionDone = true → q.tag < 256 →
    ∃ t, exec .transitionComplete s = .next t ∧ t.fld F.GLB_MODE_CUR 0 = s.fld F.GLB_MODE_TARGET 0 ∧
      t.fld F.GLB_MODE_PREV 0 = s.fld F.GLB_MODE_CUR 0 ∧ t.fld F.GLB_MODE_SEQ 0 = (s.fld F.GLB_MODE_SEQ 0 + 1) % 256 ∧
      t.fld F.GLB_MODE_BUSY 0 = 0 ∧ t.fld F.GLB_MODE_REASON 0 = (if q.byMc then 1 else 0) ∧
      t.fld F.GLB_MODE_STS_DONE 0 = 1 ∧ t.fld F.GLB_MODE_STS_TAG 0 = q.tag ∧ t.mode = none ∧
      (s.curMode ≠ 2 → s.curMode ≠ 11 →
        OnlyReports (fun r _ => r ∈ [Reg.GLB_MODE, .GLB_MODE_STS, .PWR_CAP_STS, .HBC_SPD_CFG2]) s { t with mode := s.mode, pwr := s.pwr })) ∧
  ∀ s : State, s.transitionDone = false → exec .transitionComplete s = .next { s with out := [] }

/-- The heartbeat count, host loss by its expiry, and the clearing of LOST (R33, R35, R38). HEARTBEAT_WRITE by an
agent that reaches GLB_HEARTBEAT restarts the count at 0, which ends cause 3, and changes nothing else.
HEARTBEAT_EXPIRED, once the count has reached HB_LIMIT and no heartbeat has come since, sets GLB_HOSTLOSS.LOST; CAUSE
becomes 3 where LOST was clear and stays otherwise. HOSTLOSS_LOST_CLEAR clears LOST and CAUSE, keeps HB_LIMIT and does
not restart the count. Each answers a next state and changes nothing else. -/
def Obligations.HeartbeatAndHostLoss : Prop :=
  (∀ (a : Agent) (v : BitVec 32) (s : State), s.takes a .GLB_HEARTBEAT 0 →
    ∃ t, exec (.heartbeatWrite a v) s = .next t ∧ t.tick = { s.tick with beat := 0, beatLost := false } ∧
      OnlyRegs (fun _ _ => False) s { t with tick := s.tick }) ∧
  (∀ s : State, s.tick.beatLost = true →
    ∃ t, exec .heartbeatExpired s = .next t ∧ t.fld F.GLB_HOSTLOSS_LOST 0 = 1 ∧
      t.fld F.GLB_HOSTLOSS_CAUSE 0 = (if s.fld F.GLB_HOSTLOSS_LOST 0 = 0 then 3 else s.fld F.GLB_HOSTLOSS_CAUSE 0) ∧
      t.fld F.GLB_HOSTLOSS_HB_LIMIT 0 = s.fld F.GLB_HOSTLOSS_HB_LIMIT 0 ∧ OnlyRegs (fun r _ => r = .GLB_HOSTLOSS) s t) ∧
  ∀ (a : Agent) (s : State), s.takes a .GLB_HOSTLOSS 0 →
    ∃ t, exec (.hostlossLostClear a) s = .next t ∧ t.fld F.GLB_HOSTLOSS_LOST 0 = 0 ∧ t.fld F.GLB_HOSTLOSS_CAUSE 0 = 0 ∧
      t.fld F.GLB_HOSTLOSS_HB_LIMIT 0 = s.fld F.GLB_HOSTLOSS_HB_LIMIT 0 ∧ OnlyRegs (fun r _ => r = .GLB_HOSTLOSS) s t

/-- A register whose power domain is off reads as ones and discards writes (R16). For every agent that a register's
access domain lists, and a register whose power domain is switched off: a 32-bit read of it, or of either half,
answers 0xFFFF_FFFF, a 64-bit read of a 64-bit register answers all ones, and a 32-bit or 64-bit write of it leaves
every register and everything else but the agent's shadow unchanged. -/
def Obligations.OffRegistersReadOnes : Prop :=
  ∀ (a : Agent) (addr off : Nat) (v : BitVec 64) (r : Reg) (i : Nat) (s : State), s.gate a = none → s.reach a r i = .off →
    s.busAddr a addr = some addr → locate addr = some (r, i, off) →
    (addr % 4 = 0 → (∃ t, exec (.registerRead a ⟨.bar0, addr, 4, true⟩) s = .next t ∧ t.out = [.readData a 0xFFFFFFFF 4] ∧
        OnlyRegs (fun _ _ => False) s t) ∧
      ∃ t, exec (.registerWrite a ⟨.bar0, addr, 4, true⟩ v) s = .next t ∧ OnlyRegs (fun _ _ => False) s t) ∧
    (addr % 8 = 0 → off = 0 → r.width = 64 →
      (∃ t, exec (.registerRead a ⟨.bar0, addr, 8, true⟩) s = .next t ∧ t.out = [.readData a 0xFFFFFFFFFFFFFFFF 8] ∧
        OnlyRegs (fun _ _ => False) s t) ∧
      ∃ t, exec (.registerWrite a ⟨.bar0, addr, 8, true⟩ v) s = .next t ∧ OnlyRegs (fun _ _ => False) s t)

/-- A tick period is armed, refused, replaced, cancelled and applied (R40, R41, R43). PERIOD_ARM by an agent whose
write is taken: with ARM 1 and CLOCKS outside 600 to 4,800 or no multiple of 8, the write is discarded and BADPER is
set; otherwise CLOCKS, ARM and IMM take the written values, which arms, replaces or cancels a change.
PERIOD_CHANGE_APPLY, in the first clock of a tick at whose edge the change stood armed and due (IMM, or
TIK_COUNT[31:0] equal to AT): TIK_PERIOD takes the armed CLOCKS, ARM clears, and the tick that begins has the new
length under the edge's correction; otherwise nothing changes. Each answers a next state; nothing else changes. -/
def Obligations.TickPeriodChanges : Prop :=
  (∀ (a : Agent) (v : BitVec 32) (s : State), s.takes a .TIK_PERIOD_NEXT 0 →
    let c := v.toNat % 8192
    let bad := v.toNat / 8192 % 2 = 1 ∧ ¬ (600 ≤ c ∧ c ≤ 4800 ∧ c % 8 = 0)
    (bad → ∃ t, exec (.periodArm a v) s = .next t ∧ t.fld F.TIK_SYNC_STS_BADPER 0 = 1 ∧
      OnlyRegs (fun r _ => r = .TIK_SYNC_STS) s t) ∧
    (¬ bad → ∃ t, exec (.periodArm a v) s = .next t ∧ t.fld F.TIK_PERIOD_NEXT_CLOCKS 0 = c ∧
      t.fld F.TIK_PERIOD_NEXT_ARM 0 = v.toNat / 8192 % 2 ∧ t.fld F.TIK_PERIOD_NEXT_IMM 0 = v.toNat / 16384 % 2 ∧
      OnlyRegs (fun r _ => r = .TIK_PERIOD_NEXT) s t)) ∧
  (∀ s : State, s.fld F.TIK_CLK_CLK 0 = 0 → s.fld F.TIK_PERIOD_NEXT_ARM 0 = 1 → s.eff F.TIK_PERIOD_NEXT_ARM 0 = 1 →
    (s.eff F.TIK_PERIOD_NEXT_IMM 0 = 1 ∨ s.tikCount.toNat % 2 ^ 32 = s.eff F.TIK_PERIOD_AT_AT 0) →
    ∃ t, exec .periodChangeApply s = .next t ∧ t.fld F.TIK_PERIOD_CLOCKS 0 = s.eff F.TIK_PERIOD_NEXT_CLOCKS 0 ∧
      t.fld F.TIK_PERIOD_NEXT_ARM 0 = 0 ∧ t.fld F.TIK_PERIOD_NEXT_CLOCKS 0 = s.fld F.TIK_PERIOD_NEXT_CLOCKS 0 ∧
      t.tick.len = (tickOf (s.eff F.TIK_PERIOD_NEXT_CLOCKS 0) s.tick.adjust s.tick.stepped).1 ∧
      (s.tick.adjust = 0 → s.tick.stepped = false → t.tick.len = s.eff F.TIK_PERIOD_NEXT_CLOCKS 0) ∧
      OnlyRegs (fun r _ => r = .TIK_PERIOD ∨ r = .TIK_PERIOD_NEXT) s { t with tick := s.tick, inForce := s.inForce }) ∧
  ∀ s : State, (s.fld F.TIK_CLK_CLK 0 ≠ 0 ∨ s.fld F.TIK_PERIOD_NEXT_ARM 0 = 0 ∨ s.eff F.TIK_PERIOD_NEXT_ARM 0 = 0 ∨
      (s.eff F.TIK_PERIOD_NEXT_IMM 0 = 0 ∧ s.tikCount.toNat % 2 ^ 32 ≠ s.eff F.TIK_PERIOD_AT_AT 0)) →
    exec .periodChangeApply s = .next { s with out := [] }

/-- A tick pulse is heard as the role and Table 2-1 say, and holdover free-runs (R44, R45). TICK_IN_PULSE in role 0
(or 3, handled as 0) changes nothing; in role 1 it sets PEER and nothing else; in role 2 it ends holdover, records ERR
and changes nothing else but what the next edge is to act on. At that TICK_EDGE, by the size of ERR against LOCK_WIN
and STEP_LIMIT (a STEP_LIMIT below LOCK_WIN counts as LOCK_WIN, log entry 16), LOCKED is set with a slew of at most
SLEW (and 8) clocks, or it clears and LOCK_LOST is set with the same slew, or it clears and STEPPED is set with the
whole correction; after a 32-clock pulse at a TIK_COUNT[11:0] other than 0 COUNT_FIX is set. TICK_HOLDOVER of a
follower sets HOLDOVER and LOCK_LOST, clears LOCKED and drops the correction; nothing else changes but reports. -/
def Obligations.TickAlignment : Prop :=
  (∀ (long : Bool) (s : State), s.tickRole = 0 → exec (.tickInPulse long) s = .next { s with out := [] }) ∧
  (∀ (long : Bool) (s : State), s.tickRole = 1 →
    ∃ t, exec (.tickInPulse long) s = .next t ∧ t.fld F.TIK_SYNC_STS_PEER 0 = 1 ∧ OnlyRegs (fun r _ => r = .TIK_SYNC_STS) s t) ∧
  (∀ (long : Bool) (s : State), s.tickRole = 2 →
    ∃ t, exec (.tickInPulse long) s = .next t ∧ t.fld F.TIK_SYNC_STS_ERR 0 = unsignedOf 16 s.tickError ∧
      t.fld F.TIK_SYNC_STS_HOLDOVER 0 = 0 ∧
      t.tick = { s.tick with
        pulse := some s.tickError, fixCount := s.tick.fixCount || (long && s.tikCount.toNat % 4096 != 0) } ∧
      OnlyRegs (fun r _ => r = .TIK_SYNC_STS) s { t with tick := s.tick }) ∧
  (∀ (x : EdgeIn) (e : Int) (s : State), s.curMode ≠ 0 → 4 ≤ s.boot.step → s.tickRole = 2 → s.tick.pulse = some e →
    ∃ t, exec (.tickEdge x) s = .next t ∧ t.tick.pulse = none ∧ t.tick.fixCount = false ∧
      (s.tick.fixCount = true → t.fld F.TIK_SYNC_STS_COUNT_FIX 0 = 1) ∧
      let n := e.natAbs
      let win := s.fld F.TIK_SYNC_LOCK_WIN 0
      let slew := min n (min 8 (s.fld F.TIK_SYNC_SLEW 0))
      (n ≤ win → t.fld F.TIK_SYNC_STS_LOCKED 0 = 1 ∧ t.tick.adjust.natAbs = slew) ∧
      (win < n → n ≤ s.fld F.TIK_SYNC_STEP_LIMIT 0 → t.fld F.TIK_SYNC_STS_LOCKED 0 = 0 ∧
        t.fld F.TIK_SYNC_STS_LOCK_LOST 0 = 1 ∧ t.tick.adjust.natAbs = slew) ∧
      (win < n → s.fld F.TIK_SYNC_STEP_LIMIT 0 < n → t.fld F.TIK_SYNC_STS_LOCKED 0 = 0 ∧
        t.fld F.TIK_SYNC_STS_STEPPED 0 = 1 ∧ t.tick.adjust = -e)) ∧
  ∀ s : State, s.tickRole = 2 →
    ∃ t, exec .tickHoldover s = .next t ∧ t.fld F.TIK_SYNC_STS_HOLDOVER 0 = 1 ∧ t.fld F.TIK_SYNC_STS_LOCKED 0 = 0 ∧
      t.fld F.TIK_SYNC_STS_LOCK_LOST 0 = 1 ∧ t.tick.pulse = none ∧ t.tick.remainder = 0 ∧
      OnlyReports (fun r _ => r = .TIK_SYNC_STS) s { t with tick := s.tick }

/-- A tick edge counts the tick, restarts the clock count and computes the split of duties (R34, R35, R40, R45, R47).
While the tick generator runs, TICK_EDGE answers a next state in which TIK_COUNT is one more, or, where the follower
is to realign it, the next multiple of 4,096; TIK_CLK is 0; with no correction due the new tick has TIK_PERIOD clocks;
GLB_SPLIT_EFF is GLB_SPLIT AND NOT GLB_SPLIT_LOSS where GLB_HOSTLOSS.LOST is 1 after the edge and GLB_SPLIT otherwise;
a host-loss cause still present has set LOST again. In mode OFF, and until step C3 of cast-on is over, nothing
changes. -/
def Obligations.TickEdgeCountsAndSplits : Prop :=
  (∀ (x : EdgeIn) (s : State), s.curMode ≠ 0 → 4 ≤ s.boot.step →
    ∃ t, exec (.tickEdge x) s = .next t ∧
      t.tikCount = (if s.tickRole = 2 ∧ s.tick.fixCount = true then BitVec.ofNat 64 ((s.tikCount.toNat / 4096 + 1) * 4096) else s.tikCount + 1) ∧
      t.fld F.TIK_CLK_CLK 0 = 0 ∧
      (s.nextAdjust.1 = 0 → 600 ≤ s.fld F.TIK_PERIOD_CLOCKS 0 → t.tick.len = s.fld F.TIK_PERIOD_CLOCKS 0) ∧
      t.reg .GLB_SPLIT 0 = s.reg .GLB_SPLIT 0 ∧
      t.reg .GLB_SPLIT_EFF 0 = (if t.fld F.GLB_HOSTLOSS_LOST 0 = 1 then s.reg .GLB_SPLIT 0 &&& ~~~ s.reg .GLB_SPLIT_LOSS 0
        else s.reg .GLB_SPLIT 0) ∧
      (t.fld F.GLB_HOSTLOSS_LOST 0 = 1 ↔ s.fld F.GLB_HOSTLOSS_LOST 0 = 1 ∨ s.lossLive = true)) ∧
  ∀ (x : EdgeIn) (s : State), (s.curMode = 0 ∨ s.boot.step < 4) → exec (.tickEdge x) s = .next { s with out := [] }

/-- A port configuration is accepted or refused by R58 to R60 (R58, R59, R60, R61). PORT_CFG_WRITE by an agent whose
write is taken: the new configuration is accepted unless it sets EN with a SPEED, WIDTH and FEC that Table 3-1 lacks,
with slots that R59 forbids or with a lane that another enabled port has (a management port: with more than its one
mode), or unless it changes SPEED, WIDTH, FEC or YARN while EN is 1 or the port's state is not DISABLED. Accepted,
every RW bit of MAC_PORT_CFG takes the written value, to come into force at the next edge: what is in force stays.
Refused, CFG_ERR is set. Nothing else changes. -/
def Obligations.PortConfigWrites : Prop :=
  ∀ (a : Agent) (p : Fin 130) (v : BitVec 32) (s : State), s.takes a .MAC_PORT_CFG p.val →
    let old := s.reg .MAC_PORT_CFG p.val
    let new : BitVec 64 := (old &&& ~~~ (0x3FFF0FFF : BitVec 64)) ||| (v.setWidth 64 &&& 0x3FFF0FFF)
    let width := getField new 1 2
    let speed := getField new 3 3
    let fec := getField new 6 2
    let good := if 128 ≤ p.val then speed = 1 ∧ width = 0 ∧ fec ≤ 1 ∧ new.getLsbD 11 = false
      else portRate speed width fec ≠ none ∧ p.val % 8 % 2 ^ width = 0 ∧ s.lanesTaken p.val width = false
    let ok := (new.getLsbD 0 = true → good) ∧
      (¬ (width = getField old 1 2 ∧ speed = getField old 3 3 ∧ fec = getField old 6 2 ∧ new.getLsbD 11 = old.getLsbD 11) →
        old.getLsbD 0 = false ∧ s.portState p.val = 0)
    (ok → ∃ t, exec (.portCfgWrite a p v) s = .next t ∧ t.reg .MAC_PORT_CFG p.val = new ∧ t.inForce = s.inForce ∧
      OnlyRegs (fun r i => r = .MAC_PORT_CFG ∧ i = p.val) s t) ∧
    (¬ ok → ∃ t, exec (.portCfgWrite a p v) s = .next t ∧ t.fld F.MAC_PORT_STS_CFG_ERR p.val = 1 ∧
      OnlyRegs (fun r i => r = .MAC_PORT_STS ∧ i = p.val) s t)

/-- The link state machine moves by its debounced events (R58, R70, R71, R72, R248). LINK_FAULT_CHANGE shows LINK_OK,
LFAULT and RFAULT as the link is, and remembers a fault for the next edge. LINK_TRAINING_DONE sets LT_DONE of the lane
while training is enabled. In the clock of an edge LINK_UP takes a port with EN in force, in TRAINING with the link OK
at UP_DEB edges, to UP. There LINK_FAULT_DEBOUNCED takes one in UP with a fault at DOWN_DEB edges to BINDOFF, or with
LINKFLUSH to HELD, and sets LINK_DOWN. BINDOFF_CMD in UP or HELD asks for bind-off at the next edge, and is ignored in
DISABLED and TRAINING. BINDOFF_FLUSH_COMPLETE notes a flush that has nothing left. There HOLDDOWN_EXPIRE takes a port
out of BINDOFF, not marked, with its flush finished and hold count 0, to UP where the link is OK and to TRAINING
otherwise. Other ports and, but for the reports of a link fault and the flush of bind-off with the counts of a frame
that it ends, other registers keep their values. -/
def Obligations.LinkStateMachine : Prop :=
  (∀ (p : Fin 130) (aligned fecOk lfault rfault : Bool) (s : State), let bad := !aligned || !fecOk || lfault || rfault
    ∃ t, exec (.linkFaultChange p aligned fecOk lfault rfault) s = .next t ∧
      t.fld F.MAC_PORT_STS_LINK_OK p.val = boolNat (!bad) ∧ t.fld F.MAC_PORT_STS_LFAULT p.val = boolNat lfault ∧
      t.fld F.MAC_PORT_STS_RFAULT p.val = boolNat rfault ∧ (t.port p.val).faultSeen = ((s.port p.val).faultSeen || bad) ∧
      t.portState p.val = s.portState p.val ∧ (∀ q, q ≠ p.val → t.port q = s.port q) ∧
      OnlyRegs (fun r i => r = .MAC_PORT_STS ∧ i = p.val) s { t with ports := s.ports }) ∧
  (∀ (l : Fin 130) (s : State), s.fld F.SDS_LANE_CFG_LT_EN l.val = 1 →
    ∃ t, exec (.linkTrainingDone l) s = .next t ∧ t.fld F.SDS_LANE_STS_LT_DONE l.val = 1 ∧
      OnlyRegs (fun r i => r = .SDS_LANE_STS ∧ i = l.val) s t) ∧
  (∀ (p : Fin 130) (s : State), s.atEdge = true → s.portState p.val = 1 → s.portEn p.val = true →
    max 1 (s.fld F.MAC_PORT_LINK_UP_DEB p.val) ≤ (s.port p.val).okRun →
    ∃ t, exec (.linkUp p) s = .next t ∧ t.portState p.val = 2 ∧ (∀ q, q ≠ p.val → t.port q = s.port q) ∧
      OnlyRegs (fun r i => r = .MAC_PORT_STS ∧ i = p.val) s { t with ports := s.ports }) ∧
  (∀ (p : Fin 130) (s : State), s.atEdge = true → s.portState p.val = 2 → s.portEn p.val = true →
    max 1 (s.fld F.MAC_PORT_LINK_DOWN_DEB p.val) ≤ (s.port p.val).faultRun →
    ∃ t, exec (.linkFaultDebounced p) s = .next t ∧ t.fld F.MAC_PORT_STS_LINK_DOWN p.val = 1 ∧
      t.portState p.val = (if s.split 8 then 4 else 3) ∧
      (s.split 8 = false → t.fld F.MAC_PORT_STS_HOLD_LEFT p.val = s.fld F.MAC_PORT_LINK_PRT_HOLDDOWN p.val) ∧
      RegsBut (fun r _ => r ∈ reportRegs ∨ r ∈ [.MAC_PORT_STS, .BPM_CNT, .SKN_CNT, .MAC_CNT, .YRN_CNT,
        .MSC_SA_PN, .MSC_SA_STS, .MSC_SECY_CNT, .GGE_CNT, .GGE_OVF, .GGE_FRZ]) s t ∧ t.tabs = s.tabs) ∧
  (∀ (a : Agent) (p : Fin 130) (v : BitVec 32) (s : State), s.takes a .MAC_PORT_CMD p.val → v.getLsbD 0 = true →
    ∃ t, exec (.bindoffCmd a p v) s = .next t ∧ ((t.port p.val).bindoff = true ↔
        (s.port p.val).bindoff = true ∨ s.portState p.val = 2 ∨ s.portState p.val = 4) ∧
      (∀ q, q ≠ p.val → t.port q = s.port q) ∧ OnlyRegs (fun _ _ => False) s { t with ports := s.ports }) ∧
  (∀ (p : Fin 130) (s : State), (s.port p.val).flushing = true → s.flushEmpty p.val = true → s.selectedOf p.val = [] →
    ∃ t, exec (.bindoffFlushComplete p) s = .next t ∧ (t.port p.val).flushed = true ∧ (t.port p.val).flushing = false ∧
      (∀ q, q ≠ p.val → t.port q = s.port q) ∧ OnlyRegs (fun _ _ => False) s { t with ports := s.ports }) ∧
  ∀ (p : Fin 130) (s : State), s.atEdge = true → s.portState p.val = 3 → (s.port p.val).marked = false → (s.port p.val).finished = true →
    s.fld F.MAC_PORT_STS_HOLD_LEFT p.val = 0 →
    ∃ t, exec (.holddownExpire p) s = .next t ∧ t.portState p.val = (if (s.port p.val).okRun = 0 then 1 else 2) ∧
      (∀ q, q ≠ p.val → t.port q = s.port q) ∧ OnlyRegs (fun r i => r = .MAC_PORT_STS ∧ i = p.val) s { t with ports := s.ports }

/-- A received frame is dropped by the first fault of R63, or counted and staged (R63, R66, R92, R464). RX_FRAME on a
front port that takes frames, carries no Yarn traffic and has its SecY off, for a frame that is no MAC control frame:
with a fault found before dispatch the frame is dropped and counted once, as runt, oversize or FCS error, in that
order, and nothing else changes; without a fault it is counted with its bytes and becomes the last frame ready for
dispatch in its pipeline, without its FCS, with its port as source, where the staging has room. A port that takes no
frames changes nothing. PAUSE_TIMER_EXPIRE clears the timer of its priority, and only that. -/
def Obligations.FramesReceived : Prop :=
  (∀ (p : Fin 130) (frame : Bytes) (arr : Fin 3) (same : Bool) (s : State), p.val < 128 → s.portTakes p.val = true →
    s.isYarn p.val = false → s.effBit F.MSC_SECY_CFG_EN p.val = false → 4 ≤ frame.length →
    beAt (frame.take (frame.length - 4)) 12 2 ≠ 0x8808 →
    let b := frame.take (frame.length - 4)
    let good := 64 ≤ frame.length ∧ frame.length ≤ s.maxLen p.val ∧ fcsOf b = frame.drop (frame.length - 4)
    let drop := if frame.length < 64 then 3 else if s.maxLen p.val < frame.length then 4 else 2
    (¬ good → arr.val = 0 → s.counts .MAC_CNT (p.val * 16 + drop) →
      ∃ t, exec (.rxFrame p frame arr same) s = .next t ∧
        t.reg .MAC_CNT (p.val * 16 + drop) = s.reg .MAC_CNT (p.val * 16 + drop) + 1 ∧
        OnlyRegs (fun r i => r = .MAC_CNT ∧ i = p.val * 16 + drop) s t) ∧
    (good → s.counts .MAC_CNT (p.val * 16) → s.counts .MAC_CNT (p.val * 16 + 1) → s.domState (p.val / 8) = 3 →
      s.curMode ≠ 3 → s.curMode ≠ 7 → s.stageUsed (p.val / 8) + stageCells b.length ≤ 2048 →
      ∃ t, exec (.rxFrame p frame arr same) s = .next t ∧
        t.reg .MAC_CNT (p.val * 16) = s.reg .MAC_CNT (p.val * 16) + 1 ∧
        t.reg .MAC_CNT (p.val * 16 + 1) = s.reg .MAC_CNT (p.val * 16 + 1) + BitVec.ofNat 64 frame.length ∧
        (∃ q, (t.pipe (p.val / 8)).ready = (s.pipe (p.val / 8)).ready ++ [q] ∧ q.bytes = b ∧ q.src = p.val ∧ q.pass = 0 ∧
          q.bad = false ∧ q.pipe = p.val / 8) ∧
        t.tabs = s.tabs ∧ t.copies = s.copies)) ∧
  (∀ (p : Fin 130) (frame : Bytes) (arr : Fin 3) (same : Bool) (s : State), s.portTakes p.val = false →
    exec (.rxFrame p frame arr same) s = .next { s with out := [] }) ∧
  ∀ (p : Fin 130) (c : Fin 9) (s : State),
    ∃ t, exec (.pauseTimerExpire p c) s = .next t ∧ bitOf (t.port p.val).paused c.val = false ∧
      (∀ k, k ≠ c.val → bitOf (t.port p.val).paused k = bitOf (s.port p.val).paused k) ∧
      (∀ q, q ≠ p.val → t.port q = s.port q) ∧ OnlyRegs (fun _ _ => False) s { t with ports := s.ports }

/-- A port sends its next frame, padded, with its FCS, flow control first (R64, R67). FRAME_TRANSMIT on a port in UP
with no pause or PFC frame waiting, whose next copy is stored, whole, no longer than MAXLEN, without stamps, on a port
without Yarn and with its SecY not protecting: the copy's bytes, padded to 60, leave with their FCS; the frame and its
bytes are counted; the copy is gone and the next one is first. A stored copy longer than MAXLEN is dropped and counted
in MAC_TX_OVERSIZE, and nothing leaves. A waiting pause or PFC frame leaves first (its source address and quanta are
free values, log entry 2), is counted, and the queue of copies stays. XOFF_RESEND for a group in XOFF puts its XOFF
last in the port's flow-control frames, and changes nothing else. -/
def Obligations.FramesTransmitted : Prop :=
  (∀ (p : Fin 130) (id : Nat) (rest : List Nat) (c : Copy) (s : State), s.portState p.val = 2 → (s.port p.val).ctrl = [] →
    SMap.get (fun _ => []) s.txq p.val = id :: rest → s.copy id = some c → c.cut = false → c.poison = false →
    (s.maxLen p.val < max 64 (c.bytes.length + 4) → s.counts .MAC_CNT (p.val * 16 + 11) →
      ∃ t, exec (.frameTransmit p) s = .next t ∧ t.out = [] ∧ SMap.get (fun _ => []) t.txq p.val = rest ∧ t.copy id = none ∧
        t.reg .MAC_CNT (p.val * 16 + 11) = s.reg .MAC_CNT (p.val * 16 + 11) + 1 ∧ t.tabs = s.tabs) ∧
    (max 64 (c.bytes.length + 4) ≤ s.maxLen p.val → c.bad = false → c.twoStep = false → beAt c.md 0x64 1 = 0 →
      s.isYarn p.val = false → s.effBit F.MSC_SECY_CFG_PROTECT p.val = false → s.counts .MAC_CNT (p.val * 16 + 7) →
      s.counts .MAC_CNT (p.val * 16 + 8) →
      let b := padTo (max 60 c.bytes.length) c.bytes
      ∃ t, exec (.frameTransmit p) s = .next t ∧ Out.frame p.val (b ++ fcsOf b) false ∈ t.out ∧
        SMap.get (fun _ => []) t.txq p.val = rest ∧ t.copy id = none ∧
        t.reg .MAC_CNT (p.val * 16 + 7) = s.reg .MAC_CNT (p.val * 16 + 7) + 1 ∧
        t.reg .MAC_CNT (p.val * 16 + 8) = s.reg .MAC_CNT (p.val * 16 + 8) + BitVec.ofNat 64 (b.length + 4) ∧
        RegsBut (fun r _ => r ∈ reportRegs ∨ r ∈ [.MAC_CNT, .GGE_CNT, .GGE_OVF, .GGE_FRZ, .BPM_CNT, .SKN_CNT]) s t ∧
        t.tabs = s.tabs)) ∧
  (∀ (p : Fin 130) (k : Nat) (off : Bool) (rest : List (Nat × Bool)) (s : State), s.portState p.val = 2 →
    (s.port p.val).ctrl = (k, off) :: rest → s.counts .MAC_CNT (p.val * 16 + 9) →
    ∃ t, exec (.frameTransmit p) s = .next t ∧ (t.port p.val).ctrl = rest ∧ t.txq = s.txq ∧
      (∃ src quanta, (quanta = 0 ↔ off = false) ∧
        Out.frame p.val (ctrlFrame src k quanta ++ fcsOf (ctrlFrame src k quanta)) false ∈ t.out) ∧
      t.reg .MAC_CNT (p.val * 16 + 9) = s.reg .MAC_CNT (p.val * 16 + 9) + 1) ∧
  ∀ (p : Fin 130) (c : Fin 8) (s : State), s.xoff.contains (p.val * 8 + c.val) = true → s.groupTc p.val c.val = c.val →
    ∃ t, exec (.xoffResend p c) s = .next t ∧
      (t.port p.val).ctrl = (s.port p.val).ctrl ++ [(if s.flowCtl p.val = 1 then 8 else c.val, true)] ∧
      (∀ q, q ≠ p.val → t.port q = s.port q) ∧ OnlyRegs (fun _ _ => False) s { t with ports := s.ports }

/-- Cage scans, accepted inputs, the attention button and cage power follow R76 to R84 (R76, R77, R78, R79, R80, R81,
R82, R83, R84). An edge whose count is a multiple of SCAN makes a frame due, and sets OVERRUN where one is in
progress. CMB_SCAN_FRAME in an edge's clock, with cages configured, a frame due and none in progress, latches in every
cage what the frame before shifted, captures the inputs (absent from NCAGE on), and lets at most PWR_STAGGER cages go
from off to on; else it scans nothing. CAGE_INPUT_ACCEPTED: presence sets PDS and PDC and powers an AUTO_PWR cage on
or off; a press while IDLE, present and CAGEBTN 0 starts WAIT; PGOOD low for DEB scans under power sets PFD, powers
the cage off and asks bind-off of its ports. CAGE_CTL_WRITE stores RW bits and cancels a sequence in WAIT; in BINDOFF
the power values are held. BTN_WAIT_EXPIRE and CAGE_BINDOFF_DONE end WAIT and BINDOFF as Table 3-6 has it. Nothing
else changes but reports and cage and port state. -/
def Obligations.CagesScanAndPower : Prop :=
  (∀ (s : State), s.nCage ≠ 0 → s.tikCount.toNat % max 1 (s.fld F.CAGE_CMB_CFG_SCAN 0) = 0 →
    s.edgeScan.cmb = { s.cmb with due := true } ∧ s.edgeScan.cages = s.cages ∧
    (s.cmb.left ≠ 0 → s.edgeScan.fld F.CAGE_CMB_STS_OVERRUN 0 = 1) ∧
    OnlyReports (fun r _ => r = .CAGE_CMB_STS) s { s.edgeScan with cmb := s.cmb }) ∧
  (∀ (inputs : List (BitVec 4)) (s : State), s.nCage = 0 ∨ s.cmb.left ≠ 0 ∨ s.cmb.due = false ∨ s.atEdge = false →
    exec (.cmbScanFrame inputs) s = .next { s with out := [] }) ∧
  (∀ (inputs : List (BitVec 4)) (s : State), s.nCage ≠ 0 → s.cmb.left = 0 → s.cmb.due = true → s.atEdge = true →
    ∃ t, exec (.cmbScanFrame inputs) s = .next t ∧
      Out.cmb ((List.range s.nCage).map (fun g => (s.cage g).shifted)) ∈ t.out ∧
      (∀ g, g < s.nCage → (t.cage g).latched = (s.cage g).shifted ∧ (t.cage g).raw = inputs.getD g 0xB) ∧
      (∀ g, s.nCage ≤ g → g < 128 → (t.cage g).raw = 0xB) ∧
      ((List.range s.nCage).filter (fun g => (t.cage g).shifted.getLsbD 0 && !(s.cage g).shifted.getLsbD 0)).length ≤
        max 1 (s.fld F.CAGE_CMB_CFG2_PWR_STAGGER 0) ∧
      t.cmb.scans = s.cmb.scans + 1 ∧ t.cmb.due = false ∧ t.cmb.left = s.frameClocks ∧ t.fld F.CAGE_CMB_STS_RUN 0 = 1 ∧
      OnlyReports (fun r _ => r = .CAGE_CMB_STS ∨ r = .CAGE_STS) s { t with cages := s.cages, cmb := s.cmb }) ∧
  (∀ (g : Fin 128) (s : State), s.cageDeb ≤ (s.cage g.val).presRun →
    let here := !(s.cage g.val).raw.getLsbD 0
    ∃ t, exec (.cageInputAccepted g .presence) s = .next t ∧ t.fld F.CAGE_STS_PDS g.val = boolNat here ∧
      t.fld F.CAGE_STS_PDC g.val = 1 ∧ t.fld F.CAGE_CTL_LPMODE g.val = s.fld F.CAGE_CTL_LPMODE g.val ∧
      (here = true → s.fld F.CAGE_CTL_AUTO_PWR g.val = 1 → (s.cage g.val).noAuto = false →
        t.fld F.CAGE_CTL_PWR_CTL g.val = 0 ∧ t.fld F.CAGE_CTL_PIND_CTL g.val = 1) ∧
      (here = false → s.fld F.CAGE_CTL_AUTO_PWR g.val = 1 ∨ s.fld F.CAGE_STS_SEQ g.val = 1 →
        t.fld F.CAGE_CTL_PWR_CTL g.val = 1 ∧ t.fld F.CAGE_CTL_PIND_CTL g.val = 3 ∧ t.fld F.CAGE_STS_SEQ g.val ≠ 1) ∧
      OnlyReports (fun r i => (r = .CAGE_CTL ∨ r = .CAGE_STS) ∧ i = g.val) s { t with cages := s.cages }) ∧
  (∀ (g : Fin 128) (s : State), s.cageDeb ≤ (s.cage g.val).btnRun → (s.cage g.val).btn = true → s.split 7 = false →
    s.fld F.CAGE_STS_SEQ g.val = 0 → s.fld F.CAGE_STS_PDS g.val = 1 →
    ∃ t, exec (.cageInputAccepted g .button) s = .next t ∧ t.fld F.CAGE_STS_ABP g.val = 1 ∧ t.fld F.CAGE_STS_SEQ g.val = 1 ∧
      t.fld F.CAGE_CTL_PIND_CTL g.val = 2 ∧ (t.cage g.val).waitLeft = 16 * s.fld F.CAGE_CMB_CFG2_BTN_WAIT 0 ∧
      OnlyReports (fun r i => (r = .CAGE_CTL ∨ r = .CAGE_STS) ∧ i = g.val) s { t with cages := s.cages }) ∧
  (∀ (g : Fin 128) (s : State), s.cageDeb ≤ (s.cage g.val).badRun →
    ∃ t, exec (.cageInputAccepted g .powerGood) s = .next t ∧ t.fld F.CAGE_STS_PFD g.val = 1 ∧
      t.fld F.CAGE_CTL_PWR_CTL g.val = 1 ∧ t.fld F.CAGE_CTL_PIND_CTL g.val = 3 ∧
      (∀ p, p ∈ s.cagePorts g.val → s.portState p = 2 ∨ s.portState p = 4 → (t.port p).bindoff = true) ∧
      OnlyReports (fun r i => (r = .CAGE_CTL ∨ r = .CAGE_STS) ∧ i = g.val) s { t with cages := s.cages, ports := s.ports }) ∧
  (∀ (a : Agent) (g : Fin 128) (v : BitVec 32) (s : State), s.takes a .CAGE_CTL g.val →
    let old := s.reg .CAGE_CTL g.val
    let new := Reg.written .CAGE_CTL old low32 (v.setWidth 64)
    ∃ t, exec (.cageCtlWrite a g v) s = .next t ∧
      (s.fld F.CAGE_STS_SEQ g.val ≠ 2 → t.reg .CAGE_CTL g.val = new) ∧
      (s.fld F.CAGE_STS_SEQ g.val = 2 → getField (t.reg .CAGE_CTL g.val) 6 3 = getField old 6 3 ∧
        (t.cage g.val).held = (some (getField new 8 1), some (getField new 6 2))) ∧
      (s.fld F.CAGE_STS_SEQ g.val = 1 → t.fld F.CAGE_STS_SEQ g.val = 0 ∧ t.fld F.CAGE_STS_BTN_CANCEL g.val = 1) ∧
      OnlyRegs (fun r i => (r = .CAGE_CTL ∨ r = .CAGE_STS) ∧ i = g.val) s { t with cages := s.cages }) ∧
  (∀ (g : Fin 128) (s : State), s.fld F.CAGE_STS_SEQ g.val = 1 → (s.cage g.val).waitLeft = 0 →
    ∃ t, exec (.btnWaitExpire g) s = .next t ∧
      ((s.cage g.val).wasOn = true → t.fld F.CAGE_STS_SEQ g.val = 2 ∧
        ∀ p, p ∈ s.cagePorts g.val → s.portState p = 2 ∨ s.portState p = 4 → (t.port p).bindoff = true) ∧
      ((s.cage g.val).wasOn = false → t.fld F.CAGE_STS_SEQ g.val = 0 ∧ t.fld F.CAGE_CTL_PWR_CTL g.val = 0 ∧
        t.fld F.CAGE_CTL_PIND_CTL g.val = 1) ∧
      OnlyRegs (fun r i => (r = .CAGE_CTL ∨ r = .CAGE_STS) ∧ i = g.val) s { t with cages := s.cages, ports := s.ports }) ∧
  ∀ (g : Fin 128) (s : State), s.fld F.CAGE_STS_SEQ g.val = 2 →
    ((s.cage g.val).flushing ++ s.cagePorts g.val).all s.bindoffOver = true →
    ∃ t, exec (.cageBindoffDone g) s = .next t ∧ t.fld F.CAGE_STS_SEQ g.val = 0 ∧
      t.fld F.CAGE_CTL_PWR_CTL g.val = (s.cage g.val).held.1.getD 1 % 2 ∧
      t.fld F.CAGE_CTL_PIND_CTL g.val = (s.cage g.val).held.2.getD 3 % 4 ∧
      t.fld F.CAGE_CTL_LPMODE g.val = (if (s.cage g.val).held.1 = none then 1 else s.fld F.CAGE_CTL_LPMODE g.val) ∧
      OnlyRegs (fun r i => (r = .CAGE_CTL ∨ r = .CAGE_STS) ∧ i = g.val) s { t with cages := s.cages }

/-- I2C transfers, time-of-day commands and SyncE locks act as R85, R86 and R91 say (R85, R86, R91). I2C_GO of a taken
write: without GO it stores its fields; with GO while BUSY it is discarded; with LEN 0 it sets DONE at once; else it
starts the transfer of at most 128 bytes, sets BUSY and keeps what the transfer is. I2C_DONE of a busy master clears
BUSY and sets DONE, and NACK where the device did not acknowledge; a read puts its bytes at the start of the buffer.
I2C_TIMEOUT of a busy master sets TIMEOUT with DONE. TOD_STEP and TOD_SET store what is written, and a GO bit makes
the step or set wait for the next edge: the time itself stays. SYNCE_LOS clears the lane's CDR_LOCK and sets LOS, and
its sticky bit where LOS was 0; CDR_LOCK_REGAINED sets CDR_LOCK, clears LOS and keeps the sticky bit. Nothing else
changes but reports. -/
def Obligations.I2cTimeOfDayAndSyncE : Prop :=
  (∀ (a : Agent) (m : Fin 8) (v : BitVec 32) (s : State), s.takes a .CAGE_I2C_CTL m.val →
    let new := Reg.written .CAGE_I2C_CTL (s.reg .CAGE_I2C_CTL m.val) low32 (v.setWidth 64)
    let busy := s.fld F.CAGE_I2C_STS_BUSY m.val = 1
    (v.getLsbD 31 = true → busy → ∃ t, exec (.i2cGo a m v) s = .next t ∧ t.out = [] ∧ OnlyRegs (fun _ _ => False) s t) ∧
    (¬ (v.getLsbD 31 = true ∧ busy) → ∃ t, exec (.i2cGo a m v) s = .next t ∧ t.reg .CAGE_I2C_CTL m.val = new ∧
      (v.getLsbD 31 = false → t.out = [] ∧ t.reg .CAGE_I2C_STS m.val = s.reg .CAGE_I2C_STS m.val) ∧
      (v.getLsbD 31 = true → t.fld F.CAGE_I2C_CTL_LEN m.val = 0 → t.out = [] ∧ t.fld F.CAGE_I2C_STS_DONE m.val = 1) ∧
      (v.getLsbD 31 = true → t.fld F.CAGE_I2C_CTL_LEN m.val ≠ 0 → t.fld F.CAGE_I2C_STS_BUSY m.val = 1 ∧
        t.i2cRun m.val = (t.bit F.CAGE_I2C_CTL_RD m.val, min 128 (t.fld F.CAGE_I2C_CTL_LEN m.val)) ∧
        t.out = [.i2c m.val (t.fld F.CAGE_I2C_CTL_ADDR m.val) (t.fld F.CAGE_I2C_CTL_OFFSET m.val) (t.bit F.CAGE_I2C_CTL_RD m.val)
          (min 128 (t.fld F.CAGE_I2C_CTL_LEN m.val))
          (if t.bit F.CAGE_I2C_CTL_RD m.val then [] else s.i2cBytes m.val (min 128 (t.fld F.CAGE_I2C_CTL_LEN m.val)))]) ∧
      OnlyRegs (fun r i => (r = .CAGE_I2C_CTL ∨ r = .CAGE_I2C_STS) ∧ i = m.val) s { t with cmb := s.cmb })) ∧
  (∀ (m : Fin 8) (nack : Bool) (data : Bytes) (s : State), s.fld F.CAGE_I2C_STS_BUSY m.val = 1 →
    ∃ t, exec (.i2cDone m nack data) s = .next t ∧ t.fld F.CAGE_I2C_STS_BUSY m.val = 0 ∧ t.fld F.CAGE_I2C_STS_DONE m.val = 1 ∧
      (nack = true → t.fld F.CAGE_I2C_STS_NACK m.val = 1) ∧
      (nack = false → (s.i2cRun m.val).1 = true → data.length = (s.i2cRun m.val).2 → data.length ≤ 128 →
        t.i2cBytes m.val data.length = data) ∧
      (nack = true ∨ (s.i2cRun m.val).1 = false → RegsBut (fun r i => r = .CAGE_I2C_STS ∧ i = m.val) s t) ∧
      OnlyRegs (fun r i => (r = .CAGE_I2C_STS ∧ i = m.val) ∨ (r = .CAGE_I2C_DATA ∧ i / 32 = m.val)) s { t with cmb := s.cmb }) ∧
  (∀ (m : Fin 8) (s : State), s.fld F.CAGE_I2C_STS_BUSY m.val = 1 →
    ∃ t, exec (.i2cTimeout m) s = .next t ∧ t.fld F.CAGE_I2C_STS_BUSY m.val = 0 ∧ t.fld F.CAGE_I2C_STS_DONE m.val = 1 ∧
      t.fld F.CAGE_I2C_STS_TIMEOUT m.val = 1 ∧ OnlyReports (fun r i => r = .CAGE_I2C_STS ∧ i = m.val) s { t with cmb := s.cmb }) ∧
  (∀ (a : Agent) (v : BitVec 64) (s : State), s.takes a .TIM_ADJ 0 →
    ∃ t, exec (.todStep a v) s = .next t ∧ t.reg .TIM_ADJ 0 = Reg.written .TIM_ADJ (s.reg .TIM_ADJ 0) all64 v ∧
      t.tim = { s.tim with stepGo := s.tim.stepGo || v.getLsbD 32 } ∧ OnlyRegs (fun r _ => r = .TIM_ADJ) s { t with tim := s.tim }) ∧
  (∀ (a : Agent) (v : BitVec 64) (s : State), s.takes a .TIM_SET_SEC 0 →
    ∃ t, exec (.todSet a v) s = .next t ∧ t.reg .TIM_SET_SEC 0 = Reg.written .TIM_SET_SEC (s.reg .TIM_SET_SEC 0) all64 v ∧
      t.tim = { s.tim with setGo := s.tim.setGo || v.getLsbD 63 } ∧ OnlyRegs (fun r _ => r = .TIM_SET_SEC) s { t with tim := s.tim }) ∧
  (∀ (i : Fin 2) (s : State),
    ∃ t, exec (.synceLos i) s = .next t ∧ t.fld F.SDS_LANE_STS_CDR_LOCK (s.eff F.TIM_SYNCE_LANE i.val) = 0 ∧
      t.fld (losFld i.val) 0 = 1 ∧ (s.fld (losFld i.val) 0 = 0 → t.fld (losStFld i.val) 0 = 1) ∧
      OnlyReports (fun r _ => r = .SDS_LANE_STS ∨ r = .TIM_SYNCE_STS) s t) ∧
  ∀ (i : Fin 2) (s : State),
    ∃ t, exec (.cdrLockRegained i) s = .next t ∧ t.fld F.SDS_LANE_STS_CDR_LOCK (s.eff F.TIM_SYNCE_LANE i.val) = 1 ∧
      t.fld (losFld i.val) 0 = 0 ∧ t.fld (losStFld i.val) 0 = s.fld (losStFld i.val) 0 ∧
      t.flt.live.contains (7, 0, i.val) = false ∧ OnlyReports (fun r _ => r = .SDS_LANE_STS ∨ r = .TIM_SYNCE_STS) s t

/-- Dispatch starts a packet on the lowest free needle of the engine the pointer names (R93, R95, R96, R98, R100,
R108, R114). INGRESS_DISPATCH in a pipeline that is ON, with one frame ready from a front port without Yarn, no
throttling, no sampling and an engine with a free needle: that engine's lowest free needle starts the frame, with G0
to G15 and the key buffer zero, the active entry set, the entry PC of the source, the budget in force, the first
instruction in clock 4 and the first 256 bytes in its window; no frame is ready any more; the pointer names the other
engine; STE_CNT counts it. EGRESS_DISPATCH does the same for the next packet read from the Skein, with the entry set
and budget of its read and 192 bytes; a reply, timer frame or Chart frame passes to egress reorder as it is. Other
needles, other pipelines, staging, copies and tables are unchanged, and of the registers only the reports, STE_CNT,
the engine's needle counts and gauge counters may change. -/
def Obligations.DispatchStartsNeedles : Prop :=
  (∀ (n : Fin 16) (p : Pkt) (e i : Nat) (rest : List Nat) (s : State), s.domOn n.val = true → s.fld F.PWR_CAP_STS_LEVEL 0 = 0 →
    (s.pipe n.val).ready = [p] → p.src < 128 → s.effBit F.MAC_PORT_CFG_YARN p.src = false →
    s.effBit F.GGE_SMP_CFG_IG_EN n.val = false → (s.pipe n.val).igPtr ≤ 1 → s.pickEngine n.val 0 [] = some e →
    s.freeNeedles e = i :: rest → s.counts .STE_CNT (n.val * 16) →
    ∃ t nd, exec (.ingressDispatch n) s = .next t ∧ t.needle (e * 96 + i) = some nd ∧ nd.job = p.id ∧
      nd.set = s.activeSet n.val 0 ∧ nd.pc = s.entryPc n.val 0 (s.activeSet n.val 0) p.src ∧ nd.regs = List.replicate 16 0 ∧
      nd.key = List.replicate 80 0 ∧ nd.clk = 4 ∧ nd.budget = s.budget n.val 0 ∧ nd.win = padTo 256 (p.bytes.take 256) ∧
      nd.vlen = min 256 p.bytes.length ∧ (t.pipe n.val).ready = [] ∧ (t.pipe n.val).igPtr = 1 - e % 2 ∧
      (∀ k, k ≠ e * 96 + i → t.needle k = s.needle k) ∧ (∀ m, m ≠ n.val → t.pipe m = s.pipe m) ∧
      t.reg .STE_CNT (n.val * 16) = s.reg .STE_CNT (n.val * 16) + 1 ∧
      OnlyReports (fun r k => r = .STE_CNT ∧ k = n.val * 16 ∨ r = .STE_ENG_STS ∧ k = e ∨ r ∈ [.GGE_CNT, .GGE_OVF, .GGE_FRZ]) s
        { t with needles := s.needles, pipes := s.pipes }) ∧
  (∀ (n : Fin 16) (id : Nat) (c : Copy) (ids : List Nat) (s : State), (s.pipe n.val).egress = id :: ids → s.copy id = some c →
    c.plain = true → ∃ t j, exec (.egressDispatch n) s = .next t ∧ (t.pipe n.val).egress = ids ∧
      (t.pipe n.val).eg = (s.pipe n.val).eg ++ [j] ∧ j.id = id ∧ j.src = c.port ∧ j.ended = true ∧ j.reason = 0 ∧ j.md = c.md ∧
      j.head = c.bytes.take 192 ∧ (∀ m, m ≠ n.val → t.pipe m = s.pipe m) ∧
      OnlyRegs (fun _ _ => False) s { t with pipes := s.pipes }) ∧
  ∀ (n : Fin 16) (id e i : Nat) (c : Copy) (ids rest : List Nat) (s : State), (s.pipe n.val).egress = id :: ids →
    s.copy id = some c → c.plain = false → s.effBit F.GGE_SMP_CFG_EG_EN n.val = false → (s.pipe n.val).egPtr ≤ 1 →
    s.pickEngine n.val 1 [] = some e → s.freeNeedles e = i :: rest → s.counts .STE_CNT (n.val * 16 + 8) →
    ∃ t nd, exec (.egressDispatch n) s = .next t ∧ t.needle (e * 96 + i) = some nd ∧ nd.job = id ∧
      nd.set = c.egSet ∧ nd.pc = s.entryPc n.val 1 c.egSet c.port ∧ nd.regs = List.replicate 16 0 ∧
      nd.key = List.replicate 80 0 ∧ nd.clk = 4 ∧ nd.budget = c.egBudget ∧ nd.win = padTo 256 (c.bytes.take 192) ∧
      nd.vlen = min 192 c.bytes.length ∧ (t.pipe n.val).egress = ids ∧ (t.pipe n.val).egPtr = 1 - e % 2 ∧
      (∀ k, k ≠ e * 96 + i → t.needle k = s.needle k) ∧ (∀ m, m ≠ n.val → t.pipe m = s.pipe m) ∧
      t.reg .STE_CNT (n.val * 16 + 8) = s.reg .STE_CNT (n.val * 16 + 8) + 1 ∧
      OnlyReports (fun r k => r = .STE_CNT ∧ k = n.val * 16 + 8 ∨ r = .STE_ENG_STS ∧ k = e ∨ r ∈ [.GGE_CNT, .GGE_OVF, .GGE_FRZ]) s
        { t with needles := s.needles, pipes := s.pipes }

/-- A program at its budget is aborted, and reorder releases ended packets in order (R99, R106, R108, R109, R466).
BUDGET_ABORT of a needle whose clock has reached its budget: the needle is free, the packet's program has ended with
reason 1, its action is that of the outer exit's metadata and no ACL search is left: an ingress needle's collected ACL
answers are counted discarded; STE_CNT counts the abort of its direction; other needles keep everything. Before its
budget it is aborted only where it stalls for an answer that has not come. REORDER_RELEASE of a source's first packet:
while its program runs, nothing changes; an ended ingress packet with no ACL result outstanding leaves reorder and
becomes the last one for action merge, unchanged; an ended egress packet that was not dropped becomes the last one of
its port's transmission, with its edited head and metadata; one that ended with a reason, without EG_ABORT_PASS, is
gone, and copies that waited behind it may be linked. -/
def Obligations.AbortAndReorder : Prop :=
  (∀ (e : Fin 64) (n : Fin 96) (nd : Needle) (s : State), let k := e.val * 96 + n.val
    s.needle k = some nd → nd.budget ≤ nd.clk → s.counts .STE_CNT (e.val / 4 * 16 + if e.val % 4 < 2 then 2 else 9) →
    ∃ t, exec (.budgetAbort e n) s = .next t ∧ t.needle k = none ∧ (∀ j, j ≠ k → t.needle j = s.needle j) ∧
      (t.pipe (e.val / 4)).ig = (s.pipe (e.val / 4)).ig.map (fun j => if j.id = nd.job then
        { j with ended := true, reason := 1, md := (if j.copy.isNone then j.outerMd 1 else j.md), acls := [] } else j) ∧
      (t.pipe (e.val / 4)).eg = (s.pipe (e.val / 4)).eg.map (fun j => if j.id = nd.job then
        { j with ended := true, reason := 1, md := (if j.copy.isNone then j.outerMd 1 else j.md), acls := [] } else j) ∧
      (∀ m, m ≠ e.val / 4 → t.pipe m = s.pipe m) ∧
      t.reg .STE_CNT (e.val / 4 * 16 + if e.val % 4 < 2 then 2 else 9) =
        s.reg .STE_CNT (e.val / 4 * 16 + if e.val % 4 < 2 then 2 else 9) + 1 ∧
      (e.val % 4 < 2 → s.counts .ACT_CNT (e.val / 4 * 25 + 24) → t.reg .ACT_CNT (e.val / 4 * 25 + 24) =
        s.reg .ACT_CNT (e.val / 4 * 25 + 24) + BitVec.ofNat 64
          (((s.pipe (e.val / 4)).ig.filter (fun j => j.id == nd.job)).map (fun j => j.acls.length)).sum) ∧
      OnlyReports (fun r _ => r ∈ [.STE_CNT, .ACT_CNT, .STE_ENG_STS, .GGE_CNT, .GGE_OVF, .GGE_FRZ, .GGE_SBUF_STS]) s
        { t with needles := s.needles, pipes := s.pipes }) ∧
  (∀ (e : Fin 64) (n : Fin 96) (nd : Needle) (s : State), s.needle (e.val * 96 + n.val) = some nd → nd.clk < nd.budget →
    (nd.stalled && (nd.ready (s.awaits (e.val * 96 + n.val) nd)).isNone) = false →
    exec (.budgetAbort e n) s = .next { s with out := [] }) ∧
  (∀ (n : Fin 16) (src : Fin 160) (late : Bool) (j : Job) (s : State),
    (s.pipe n.val).ig.find? (fun j => j.src == src.val) = some j →
    (j.ended = false → exec (.reorderRelease n false src late) s = .next { s with out := [] }) ∧
    (j.ended = true → j.reason ≠ 0 ∨ s.aclOut j = [] →
      ∃ t, exec (.reorderRelease n false src late) s = .next t ∧
        (t.pipe n.val).ig = removeFirst (fun x => x.id == j.id) (s.pipe n.val).ig ∧
        (t.pipe n.val).merge = (s.pipe n.val).merge ++ [.job j] ∧ (t.pipe n.val).eg = (s.pipe n.val).eg ∧
        (∀ m, m ≠ n.val → t.pipe m = s.pipe m) ∧ OnlyRegs (fun _ _ => False) s { t with pipes := s.pipes })) ∧
  ∀ (n : Fin 16) (src : Fin 160) (late : Bool) (j : Job) (c : Copy) (s : State),
    (s.pipe n.val).eg.find? (fun j => j.src == src.val) = some j → s.copy j.id = some c →
    (j.ended = false → exec (.reorderRelease n true src late) s = .next { s with out := [] }) ∧
    (j.ended = true → j.reason = 0 → beAt j.md 0x14 1 = 0 → src.val < 144 →
      ∃ t, exec (.reorderRelease n true src late) s = .next t ∧
        (t.pipe n.val).eg = removeFirst (fun x => x.id == j.id) (s.pipe n.val).eg ∧
        SMap.get (fun _ => []) t.txq src.val = SMap.get (fun _ => []) s.txq src.val ++ [j.id] ∧
        t.copy j.id = some { c with bytes := j.head ++ c.bytes.drop (min 192 c.bytes.length), md := j.md, twoStep := j.twoStep } ∧
        (∀ k, k ≠ j.id → t.copy k = s.copy k) ∧
        OnlyRegs (fun _ _ => False) s { t with pipes := s.pipes, copies := s.copies, txq := s.txq }) ∧
    (j.ended = true → j.reason ≠ 0 → s.bit F.STE_DISP_CFG_EG_ABORT_PASS n.val = false →
      ∃ t, exec (.reorderRelease n true src late) s = .next t ∧
        (t.pipe n.val).eg = removeFirst (fun x => x.id == j.id) (s.pipe n.val).eg ∧ t.txq = s.txq ∧
        t.copy j.id = none ∧ (∀ k, k ≠ j.id → t.copy k = s.copy k ∨ c.cut = true ∧ ∃ x, s.copy k = some x ∧
          t.copy k = some { x with linked := true }) ∧ RegsBut (fun r _ => r ∈ reportRegs ∨ r ∈ [.BPM_CNT, .SKN_CNT]) s t)

/-- Program images are written, armed and switched as R116 to R118 say (R113, R116, R117, R118). A taken
PROGRAM_STORE_WRITE to a page of the active set or, while OLD_BUSY, of the previous one, or to the registers of the
active set or, while OLD_BUSY, of the previous one, changes nothing but STE_IMG_STS: WR_REFUSED and the place. Any
other is stored. IMAGE_ARM judges each direction on its own: ARM 1 with an arm pending leaves the pending switch; with
OLD_BUSY or the active set named sets ARM_REFUSED; else arms the switch, taking IMM, AT and the tick; ARM 0 cancels.
IMAGE_SWITCH at an edge after the arm's tick, with IMM or at the count AT, makes its set active, clears ARM, sets
SWITCHED, and sets OLD_BUSY only if a needle runs under the old set. OLD_SET_DRAINED clears OLD_BUSY once none does.
Nothing else changes. -/
def Obligations.ProgramImages : Prop :=
  (∀ (a : Agent) (n : Fin 16) (eg : Bool) (x : ImageReg) (v : BitVec 64) (s : State), let d := boolNat eg
    let r := (imageTarget n.val d x).1
    let i := (imageTarget n.val d x).2
    let act := s.activeSet n.val d
    let pages : Nat → Nat := fun set => s.fld F.STE_PAGES_PAGES ((n.val * 2 + d) * 2 + set)
    let busy := s.fld (oldBusyFld d) n.val = 1
    let refused : Prop := match x with
      | .word j => bitOf (pages act) (j.val / 1024) = true ∨ busy ∧ bitOf (pages (1 - act)) (j.val / 1024) = true
      | .entry k _ | .srcMap k | .pages k => k.val = act ∨ busy
    s.takes a r i →
    (refused → ∃ t, exec (.programStoreWrite a n eg x v) s = .next t ∧ t.fld F.STE_IMG_STS_WR_REFUSED n.val = 1 ∧
      t.fld F.STE_IMG_STS_REF_INDEX n.val = (match x with | .word j => j.val | _ => 0) ∧
      t.fld F.STE_IMG_STS_REF_DIR n.val = d ∧ OnlyReports (fun q j => q = .STE_IMG_STS ∧ j = n.val) s t) ∧
    (¬ refused → ∃ t, exec (.programStoreWrite a n eg x v) s = .next t ∧
      t.reg r i = Reg.written r (s.reg r i) (if r.width = 64 then all64 else low32) v ∧
      OnlyRegs (fun q j => q = r ∧ j = i) s t)) ∧
  (∀ (a : Agent) (n : Fin 16) (v : BitVec 32) (s : State), s.takes a .STE_IMG n.val → (s.pipe n.val).arms.length = 2 →
    ∃ t, exec (.imageArm a n v) s = .next t ∧
      (∀ d, d < 2 → let b := if d = 0 then 1 else 9
        let next := if v.getLsbD b then 1 else 0
        let barred := s.fld (oldBusyFld d) n.val = 1 ∨ next = s.activeSet n.val d
        (v.getLsbD (b + 1) = true → (s.arm n.val d).isSome = true → t.arm n.val d = s.arm n.val d) ∧
        (v.getLsbD (b + 1) = true → s.arm n.val d = none → barred →
          t.fld F.STE_IMG_STS_ARM_REFUSED n.val = 1 ∧ t.arm n.val d = none) ∧
        (v.getLsbD (b + 1) = true → s.arm n.val d = none → ¬ barred →
          t.arm n.val d = some (next, v.getLsbD 16, s.fld F.STE_IMG_AT_AT n.val, s.tikCount.toNat) ∧
          t.fld (imgArm d) n.val = 1 ∧ t.fld (imgNext d) n.val = next) ∧
        (v.getLsbD (b + 1) = false → t.arm n.val d = none ∧ t.fld (imgArm d) n.val = 0) ∧
        t.activeSet n.val d = s.activeSet n.val d) ∧
      (∀ m, m ≠ n.val → t.pipe m = s.pipe m) ∧
      OnlyReports (fun r k => (r = .STE_IMG ∨ r = .STE_IMG_STS) ∧ k = n.val) s { t with pipes := s.pipes }) ∧
  (∀ (n : Fin 16) (eg imm : Bool) (set time armed : Nat) (s : State), let d := boolNat eg
    s.arm n.val d = some (set, imm, time, armed) → (s.pipe n.val).arms.length = 2 → set < 2 →
    let due := s.atEdge = true ∧ s.tikCount.toNat ≠ armed ∧ (imm = true ∨ s.tikCount.toNat % 2 ^ 32 = time)
    (¬ due → exec (.imageSwitch n eg) s = .next { s with out := [] }) ∧
    (due → ∃ t, exec (.imageSwitch n eg) s = .next t ∧ t.activeSet n.val d = set ∧ t.fld (imgArm d) n.val = 0 ∧
      t.arm n.val d = none ∧ t.fld (switchedFld d) n.val = 1 ∧
      t.fld (oldBusyFld d) n.val = (if s.setRunning n.val d (s.activeSet n.val d) then 1 else s.fld (oldBusyFld d) n.val) ∧
      (∀ m, m ≠ n.val → t.pipe m = s.pipe m) ∧
      OnlyReports (fun r k => (r = .STE_IMG ∨ r = .STE_IMG_STS) ∧ k = n.val) s { t with pipes := s.pipes })) ∧
  ∀ (n : Fin 16) (eg : Bool) (s : State), let d := boolNat eg
    (s.setRunning n.val d (1 - s.activeSet n.val d) = true → exec (.oldSetDrained n eg) s = .next { s with out := [] }) ∧
    (s.setRunning n.val d (1 - s.activeSet n.val d) = false → ∃ t, exec (.oldSetDrained n eg) s = .next t ∧
      t.fld (oldBusyFld d) n.val = 0 ∧ OnlyRegs (fun r k => r = .STE_IMG_STS ∧ k = n.val) s t)

/-- The arithmetic instructions of a needle write RD and the flags as Table 5-5 and R126 say (R120, R124, R125, R126).
NOP, MOVI, MOV, ADD, ADDI, SUB, SUBI, the bitwise AND, OR and XOR with their immediate forms, SHL, SHR, EXT, DEP, CMP,
CMPI and TSTI, with the unused fields 0, on a needle with budget left that fetches them: the destination register
takes the result (EXT's bit j is bit pos + j of the source for j below len and 0 above; DEP replaces bits pos to pos +
len - 1 and drops what would lie above bit 31), Z, N and C take the values of R126 where Table 5-5 names flags, PC
goes to the next instruction and one clock passes. Every other register, the flags of an instruction that names none,
window, key, metadata, slots, every other needle and the rest of the device keep their values, but for the needle
counts of the engine, reports and the Gauge. -/
def Obligations.NeedleArithmetic : Prop :=
  ∀ (e : Fin 64) (i : Fin 96) (nd : Needle) (w : BitVec 64) (s : State), let k := e.val * 96 + i.val
    s.fetches k nd w →
    let d := nd.regs.getD (wRd w) 0
    let a := nd.regs.getD (wRa w) 0
    let b := nd.regs.getD (wRb w) 0
    let m := wImm w
    let pos := getField w 0 5
    let len := getField w 8 5 + 1
    let put : Word → Needle := fun v => nd.after { nd with regs := nd.regs.set (wRd w) v } nd.clk 1
    let fl : Needle → Word → Bool → Needle := fun x v c => { x with z := decide (v = 0), n := v.getLsbD 31, c := c }
    let alu : Word → Bool → Needle := fun v c => fl (put v) v c
    let sum : Word → Word → Bool := fun x y => decide (2 ^ 32 ≤ x.toNat + y.toNat)
    let less : Word → Word → Bool := fun x y => decide (x.toNat < y.toNat)
    (opWord 0x00 0 w → s.leaves (.nop e i) k (nd.after nd nd.clk 1)) ∧
    (opWord 0x01 (mRD ||| mImm) w → s.leaves (.movi e i) k (put m)) ∧
    (opWord 0x02 (mRD ||| mRA) w → s.leaves (.mov e i) k (put a)) ∧
    (opWord 0x03 (mRD ||| mRA ||| mRB) w → s.leaves (.add e i) k (alu (a + b) (sum a b))) ∧
    (opWord 0x04 (mRD ||| mRA ||| mImm) w → s.leaves (.addi e i) k (alu (a + m) (sum a m))) ∧
    (opWord 0x05 (mRD ||| mRA ||| mRB) w → s.leaves (.sub e i) k (alu (a - b) (less a b))) ∧
    (opWord 0x06 (mRD ||| mRA ||| mImm) w → s.leaves (.subi e i) k (alu (a - m) (less a m))) ∧
    (opWord 0x07 (mRD ||| mRA ||| mRB) w → s.leaves (.and e i) k (alu (a &&& b) false)) ∧
    (opWord 0x08 (mRD ||| mRA ||| mImm) w → s.leaves (.andi e i) k (alu (a &&& m) false)) ∧
    (opWord 0x09 (mRD ||| mRA ||| mRB) w → s.leaves (.or e i) k (alu (a ||| b) false)) ∧
    (opWord 0x0A (mRD ||| mRA ||| mImm) w → s.leaves (.ori e i) k (alu (a ||| m) false)) ∧
    (opWord 0x0B (mRD ||| mRA ||| mRB) w → s.leaves (.xor e i) k (alu (a ^^^ b) false)) ∧
    (opWord 0x0C (mRD ||| mRA ||| mImm) w → s.leaves (.xori e i) k (alu (a ^^^ m) false)) ∧
    (opWord 0x0D (mRD ||| mRA ||| 0x1F) w → s.leaves (.shl e i) k (alu (a <<< pos) false)) ∧
    (opWord 0x0E (mRD ||| mRA ||| 0x1F) w → s.leaves (.shr e i) k (alu (a >>> pos) false)) ∧
    (opWord 0x0F (mRD ||| mRA ||| 0x1F1F) w → ∃ v : Word, s.leaves (.ext e i) k (alu v false) ∧
      ∀ j, j < 32 → v.getLsbD j = (decide (j < len) && a.getLsbD (pos + j))) ∧
    (opWord 0x10 (mRD ||| mRA ||| 0x1F1F) w → ∃ v : Word, s.leaves (.dep e i) k (alu v false) ∧
      ∀ j, j < 32 → v.getLsbD j = if pos ≤ j ∧ j < pos + len then a.getLsbD (j - pos) else d.getLsbD j) ∧
    (opWord 0x11 (mRA ||| mRB) w → s.leaves (.cmp e i) k (fl (nd.after nd nd.clk 1) (a - b) (less a b))) ∧
    (opWord 0x12 (mRA ||| mImm) w → s.leaves (.cmpi e i) k (fl (nd.after nd nd.clk 1) (a - m) (less a m))) ∧
    (opWord 0x13 (mRA ||| mImm) w → s.leaves (.tsti e i) k (fl (nd.after nd nd.clk 1) (a &&& m) false))

/-- Window, metadata and key accesses of a needle move bytes in network order, within their bounds (R102, R122, R123,
R124, R128, R156). LDH, LDM, STM, KPUT, KCPY, KCLR and HASH on a needle that fetches them, and STH on an egress one.
Size code 3 ends the program as ILLEGAL; so do a key access past byte 79, a metadata access past byte 127, a metadata
store to an RO byte, and a length of 0 or above the instruction's limit. A window access whose offset is 256 or more,
or that reaches VLEN, ends it as WINDOW. Otherwise the bytes move, most significant first, the upper bits of a loaded
register are 0, HASH leaves the CRC-32C of the key bytes from the initial value in RB, and the needle goes on after 1
clock, or 2 for KCPY and HASH. Flags, other registers and bytes, and everything outside the needle stay, but for
needle counts, reports and the Gauge. -/
def Obligations.NeedleLoadsAndStores : Prop :=
  ∀ (e : Fin 64) (i : Fin 96) (nd : Needle) (w : BitVec 64) (s : State), let k := e.val * 96 + i.val
    s.fetches k nd w →
    let a := nd.regs.getD (wRa w) 0
    let b := nd.regs.getD (wRb w) 0
    let c := getField w 40 2
    let sz := 2 ^ c
    let o := getField w 0 7
    let x := wX w
    let put : Word → Needle := fun v => nd.after { nd with regs := nd.regs.set (wRd w) v } nd.clk 1
    let off : Word → Nat → Nat := fun base imm => (if w.getLsbD 43 then base.toNat else 0) + imm
    let inWin : Nat → Nat → Prop := fun at' n => at' < 256 ∧ at' + n ≤ nd.vlen
    let rw : Nat → Prop := fun j => 0x20 ≤ j ∧ j ≤ 0x25 ∨ 0x30 ≤ j ∧ j ≤ 0x5F ∨ 0x70 ≤ j ∧ j ≤ 0x7F
    (opWord 0x20 (mRD ||| mRA ||| mC ||| 0xFFFF) w → let f := off a (getField w 0 16)
      (c = 3 → s.endsWith (.ldh e i) k nd.job 3) ∧
      (c ≠ 3 → inWin f sz → s.leaves (.ldh e i) k (put (BitVec.ofNat 32 (beAt nd.win f sz)))) ∧
      (c ≠ 3 → ¬ inWin f sz → s.endsWith (.ldh e i) k nd.job 2)) ∧
    (opWord 0x21 (mRD ||| mC ||| 0x7F) w →
      (c ≠ 3 → o + sz ≤ 128 → s.leaves (.ldm e i) k (put (BitVec.ofNat 32 (beAt nd.md o sz)))) ∧
      (c = 3 ∨ 128 < o + sz → s.endsWith (.ldm e i) k nd.job 3)) ∧
    (opWord 0x22 (mRA ||| mC ||| 0x7F) w → let good := c ≠ 3 ∧ ∀ j, j < sz → rw (o + j)
      (good → s.leaves (.stm e i) k (nd.after { nd with md := overwrite nd.md o (beBytes sz a.toNat) } nd.clk 1)) ∧
      (¬ good → s.endsWith (.stm e i) k nd.job 3)) ∧
    (opWord 0x23 (mRA ||| mC ||| 0x7F) w →
      (c ≠ 3 → o + sz ≤ 80 → s.leaves (.kput e i) k (nd.after { nd with key := overwrite nd.key o (beBytes sz a.toNat) } nd.clk 1)) ∧
      (c = 3 ∨ 80 < o + sz → s.endsWith (.kput e i) k nd.job 3)) ∧
    (opWord 0x24 (mRA ||| mC ||| mX ||| 0x7F00FF) w → let f := off a (getField w 0 8)
      let q := getField w 16 7
      let bad := x = 0 ∨ 32 < x ∨ 80 < q + x
      (bad → s.endsWith (.kcpy e i) k nd.job 3) ∧
      (¬ bad → inWin f x → s.leaves (.kcpy e i) k (nd.after { nd with key := overwrite nd.key q (sliceZ nd.win f x) } nd.clk 2)) ∧
      (¬ bad → ¬ inWin f x → s.endsWith (.kcpy e i) k nd.job 2)) ∧
    (opWord 0x25 (mX ||| 0x7F) w → let bad := x = 0 ∨ 80 < o + x
      (bad → s.endsWith (.kclr e i) k nd.job 3) ∧
      (¬ bad → s.leaves (.kclr e i) k (nd.after { nd with key := overwrite nd.key o (List.replicate x 0) } nd.clk 1))) ∧
    (opWord 0x14 (mRD ||| mRB ||| mX ||| 0x7F) w → let bad := x = 0 ∨ 80 < o + x
      (bad → s.endsWith (.hash e i) k nd.job 3) ∧
      (¬ bad → s.leaves (.hash e i) k
        (nd.after { nd with regs := nd.regs.set (wRd w) (crcRaw b (sliceZ nd.key o x)) } nd.clk 2))) ∧
    (opWord 0x60 (mRA ||| mRB ||| mC ||| 0xFFFF) w → e.val % 4 / 2 = 1 → let f := off b (getField w 0 16)
      (c = 3 → s.endsWith (.sth e i) k nd.job 3) ∧
      (c ≠ 3 → inWin f sz → s.leaves (.sth e i) k (nd.after { nd with win := overwrite nd.win f (beBytes sz a.toNat) } nd.clk 1)) ∧
      (c ≠ 3 → ¬ inWin f sz → s.endsWith (.sth e i) k nd.job 2))

/-- Lookups are sent, answered into their slot, and waited for (R128, R130, R131, R132, R133, R134, R135). LKD, LKH
and LKT into slot RD with no lookup outstanding, with defined fields, send a lookup under the next number in the clock
in which the slot's last answer is there, and the needle goes on one clock later with the slot waiting for it. A
direct read is answered HIT with the entry's words, or INVALID; a hash search HIT with the data words, MISS, or ERROR
where the table is off; a search carries its profile and key segments. LOOKUP_ANSWER puts status and words of an
answer that is there into the waiting slot and ends the lookup. With the slot outstanding, LKD, WAIT and LDR leave the
needle stalled and nothing else changed. With it answered, WAIT sets the flags of Table 5-8 and LDR gives the data
word, 0 unless the status is HIT or FB_HIT. Other needles, other slots, registers, key, window, metadata and tables
stay. -/
def Obligations.NeedleLookups : Prop :=
  ∀ (e : Fin 64) (i : Fin 96) (nd : Needle) (w : BitVec 64) (s : State), let k := e.val * 96 + i.val
    s.fetches k nd w → nd.slots.length = 4 →
    let rd := wRd w
    let ra := wRa w
    let x := wX w
    let tag := beAt nd.md 7 1 % 4
    let clk : Nat → Nat := fun q => max nd.clk (nd.slot q).arr
    let ready : Nat → Prop := fun q => q < 4 ∧ (nd.slot q).asked = none ∧ clk q < nd.budget
    let waits : Instr → Prop := fun c => s.leaves c k { nd with stalled := true, lastPc := nd.pc }
    let sent : State → Lookup → Prop := fun t lk => lk.needle = k ∧ lk.job = nd.job ∧ lk.slot = rd ∧ lk.issued = clk rd ∧
      lk.tag = tag ∧ t.lookup s.nextId = some lk ∧ (∀ j, j ≠ s.nextId → t.lookup j = s.lookup j) ∧
      (∃ y, t.needle k = some y ∧ (y.slot rd).asked = some s.nextId ∧ (∀ q, q ≠ rd → y.slot q = nd.slot q) ∧
        { y with slots := nd.slots, lookups := nd.lookups, aclSeq := nd.aclSeq } = nd.after nd (clk rd) 1) ∧
      (∀ j, j ≠ k → t.needle j = s.needle j) ∧ t.tabs = s.tabs ∧ t.pipes = s.pipes ∧
      RegsBut (fun r _ => r ∈ reportRegs ++ needleRegs ++ [.TCM_CNT, .TCM_PANEL_STS]) s t
    (opWord 0x30 (mRD ||| mRA ||| mX) w → 1 ≤ x → x ≤ 8 →
      (ready rd → ∃ t lk, exec (.lkd e i) s = .next t ∧ sent t lk ∧
        lk.answer = (match s.readDirect tag x ((nd.regs.getD ra 0).toNat % 2 ^ indexWidth x) with
          | some d => some ⟨1, d.words (entryWords x)⟩
          | none => some ⟨3, []⟩)) ∧
      (rd < 4 → (nd.slot rd).asked.isSome = true → waits (.lkd e i))) ∧
    (opWord 0x31 (mRD ||| mX ||| 0x7) w → 0x10 ≤ x → x ≤ 0x12 → ready rd →
      let wide := if x = 0x10 then 10 else 20
      10 * getField w 0 3 + wide ≤ 80 →
      ∃ t lk, exec (.lkh e i) s = .next t ∧ sent t lk ∧
        lk.answer = (match s.searchHash tag (e.val / 4 / 8) (x - 0x10) (sliceZ nd.key (10 * getField w 0 3) wide) with
          | none => some ⟨6, []⟩
          | some none => some ⟨2, []⟩
          | some (some h) => some ⟨1, h.all⟩)) ∧
    (opWord 0x32 (mRD ||| mX ||| 0x7) w → x ≤ 63 → ready rd → 10 * getField w 0 3 + s.profBytes x ≤ 80 →
      s.redirected k nd x = false →
      ∃ t lk, exec (.lkt e i) s = .next t ∧ sent t lk ∧ lk.prof = x ∧
        lk.raw = sliceZ nd.key (10 * getField w 0 3) (s.profBytes x)) ∧
    (opWord 0x33 mRA w → ready ra → let st := (nd.slot ra).status
      let y := { nd with stall := nd.stall + (clk ra - nd.clk) }
      s.leaves (.wait e i) k (nd.after { y with z := decide (st ≠ 1 ∧ st ≠ 4), c := decide (st = 4 ∨ st = 5), n := decide (st = 6) }
        (clk ra) 1)) ∧
    (opWord 0x33 mRA w → ra < 4 → (nd.slot ra).asked.isSome = true → waits (.wait e i)) ∧
    (opWord 0x34 (mRD ||| mRA ||| 0xF) w → ready ra → let st := (nd.slot ra).status
      let v := if st = 1 ∨ st = 4 then (nd.slot ra).words.getD (getField w 0 4) 0 else 0
      s.leaves (.ldr e i) k (nd.after { nd with stall := nd.stall + (clk ra - nd.clk), regs := nd.regs.set rd v } (clk ra) 1)) ∧
    (opWord 0x34 (mRD ||| mRA ||| 0xF) w → ra < 4 → (nd.slot ra).asked.isSome = true → waits (.ldr e i)) ∧
    ∀ (id lat q : Nat) (lk : Lookup) (a : Answer), s.lookup id = some lk → lk.answer = some a → lk.needle = k → lk.job = nd.job →
      lk.slot = q → q < 4 → (nd.slot q).asked = some id → lk.raw = [] →
      ∃ t y, exec (.lookupAnswer id false lat) s = .next t ∧ t.lookup id = none ∧ (∀ j, j ≠ id → t.lookup j = s.lookup j) ∧
        t.needle k = some y ∧ (∀ j, j ≠ k → t.needle j = s.needle j) ∧
        (y.slot q).status = a.status ∧ (y.slot q).words = a.words ∧ (y.slot q).asked = none ∧
        (y.slot q).arr = lk.issued + max 1 lat ∧ (∀ j, j ≠ q → y.slot j = nd.slot j) ∧
        { y with slots := nd.slots, remote := nd.remote, maxLat := nd.maxLat, maxSlot := nd.maxSlot } = nd ∧
        t.tabs = s.tabs ∧ t.pipes = s.pipes ∧ RegsBut (fun r _ => r ∈ reportRegs ++ needleRegs ++ [.TCM_CNT]) s t

/-- Decision instructions write their metadata fields; COUNT, LEARN and SLEARN act at once (R128, R136, R138, R139,
R141, R142, R163). On an ingress needle FWD sets KIND and ID, ending the program as ILLEGAL for KIND 7 to 15; TOHOST
and RESP set COPY and RESP; POLICE and SETTC set POLICER and TC; DROP sets its reason on any engine. Out of range
reasons and kinds, and all of these but DROP on an egress needle, end the program as ILLEGAL. COUNT adds a packet, and
LEN or RB bytes, to its STATS pair where the pair's die is on. LEARN queues an event with one key segment on both
dies; SLEARN one with two, on the die of the source port; neither is a duplicate of an event that waits. Each takes
one clock and changes nothing else but needle counts, event counts, reports and the Gauge. -/
def Obligations.NeedleDecisions : Prop :=
  ∀ (e : Fin 64) (i : Fin 96) (nd : Needle) (w : BitVec 64) (s : State), let k := e.val * 96 + i.val
    s.fetches k nd w →
    let a := nd.regs.getD (wRa w) 0
    let b := nd.regs.getD (wRb w) 0
    let x := wX w
    let v := if w.getLsbD 43 then (wImm w).toNat else a.toNat
    let ig := e.val % 4 / 2 = 0
    let md : Nat → Bytes → Needle := fun o bs => nd.after { nd with md := overwrite nd.md o bs } nd.clk 1
    let other : State → Prop := fun t => t.needle k = some (nd.after nd nd.clk 1) ∧ (∀ j, j ≠ k → t.needle j = s.needle j)
    (opWord 0x40 (mRA ||| mC ||| 0xFFFFFF) w →
      (ig → v / 2 ^ 20 % 16 < 7 → s.leaves (.fwd e i) k (md 0x10 (beBytes 4 (v % 2 ^ 24)))) ∧
      (¬ ig ∨ 7 ≤ v / 2 ^ 20 % 16 → s.endsWith (.fwd e i) k nd.job 3)) ∧
    (opWord 0x41 mX w → (x ≠ 0 → s.leaves (.drop e i) k (md 0x14 (beBytes 1 x))) ∧ (x = 0 → s.endsWith (.drop e i) k nd.job 3)) ∧
    (opWord 0x42 mX w → (ig → x ≠ 0 → s.leaves (.tohost e i) k (md 0x15 (beBytes 1 x))) ∧
      (¬ ig ∨ x = 0 → s.endsWith (.tohost e i) k nd.job 3)) ∧
    (opWord 0x44 mRA w → (ig → s.leaves (.police e i) k (md 0x1C (beBytes 4 (a.toNat % 2 ^ 18 + 2 ^ 31)))) ∧
      (¬ ig → s.endsWith (.police e i) k nd.job 3)) ∧
    (opWord 0x45 (mRA ||| mC ||| 0x7) w → (ig → s.leaves (.settc e i) k (md 0x0F (beBytes 1 (v % 8)))) ∧
      (¬ ig → s.endsWith (.settc e i) k nd.job 3)) ∧
    (opWord 0x47 mX w → (ig → 1 ≤ x → x ≤ 5 → s.leaves (.resp e i) k (md 0x16 (beBytes 1 x))) ∧
      (¬ ig ∨ x = 0 ∨ 5 < x → s.endsWith (.resp e i) k nd.job 3)) ∧
    (opWord 0x46 (mRA ||| mRB ||| mC) w → let q := a.toNat % 2 ^ 20
      s.domOn (50 + directDie tidStats q) = true → s.gauge.heldStats.contains q = false →
      ∃ t, exec (.count e i) s = .next t ∧ other t ∧
        t.statPair q = (((s.statPair q).1 + 1) % 2 ^ 40, ((s.statPair q).2 + if w.getLsbD 43 then b.toNat else beAt nd.md 2 2) % 2 ^ 56) ∧
        (∀ j, j ≠ q → t.statPair j = s.statPair j) ∧
        OnlyReports (fun r _ => r ∈ needleRegs) s { t with needles := s.needles, stats := s.stats }) ∧
    (opWord 0x48 (mRA ||| 0x7) w → ig →
      let ev : LEvent := ⟨0, sliceZ nd.key (10 * getField w 0 3) 10, beAt nd.md 0 1, a.toNat, s.tikCount, s.split 0⟩
      s.domOn 50 = true → s.domOn 51 = true → (∀ d, d < 2 → (s.learning d).depth < 4096 ∧ (s.learning d).recent.any (fun o => o.same ev) = false) →
      ∃ t, exec (.learn e i) s = .next t ∧ other t ∧ (∀ d, d < 2 → (t.learning d).queue = (s.learning d).queue ++ [ev]) ∧
        t.tabs = s.tabs ∧ t.pipes = s.pipes ∧
        RegsBut (fun r _ => r ∈ reportRegs ++ needleRegs ++ [.LKP_CNT, .LKP_EVQ_STS]) s t) ∧
    (opWord 0x49 (mRA ||| 0x7) w → ig → (getField w 0 3 = 7 → s.endsWith (.slearn e i) k nd.job 3) ∧
      let d := portDie (beAt nd.md 0 1)
      let ev : LEvent := ⟨1, sliceZ nd.key (10 * getField w 0 3) 20, beAt nd.md 0 1, a.toNat, s.tikCount, s.split 6⟩
      (getField w 0 3 ≠ 7 → s.domOn (50 + d) = true → (s.learning d).depth < 4096 → (s.learning d).recent.any (fun o => o.same ev) = false →
      ∃ t, exec (.slearn e i) s = .next t ∧ other t ∧ (t.learning d).queue = (s.learning d).queue ++ [ev] ∧
        (∀ q, q ≠ d → t.learning q = s.learning q) ∧ t.tabs = s.tabs ∧ t.pipes = s.pipes ∧
        RegsBut (fun r _ => r ∈ reportRegs ++ needleRegs ++ [.LKP_CNT, .LKP_EVQ_STS]) s t))

/-- MIRROR adds its session once, or sets C when all four entries are in use (R140). On an ingress needle that fetches
MIRROR, with the session taken from IMM or RA: where all four MIRROR bytes are in use, the metadata stays and C is 1.
Otherwise C is 0, and a session that no byte holds goes into the first free byte, valid, the other three bytes
staying; one that a byte holds already changes no byte. Z, N, registers, the rest of the metadata and everything else
stay. -/
def Obligations.MirrorAddsASession : Prop :=
  ∀ (e : Fin 64) (i : Fin 96) (nd : Needle) (w : BitVec 64) (s : State), let k := e.val * 96 + i.val
    s.fetches k nd w → opWord 0x43 (mRA ||| mC ||| 0x3F) w → e.val % 4 / 2 = 0 → nd.md.length = 128 →
    let v := (if w.getLsbD 43 then (wImm w).toNat else (nd.regs.getD (wRa w) 0).toNat) % 64
    let entry : Nat → Byte := fun j => nd.md.getD (0x18 + j) 0
    let mine : Byte := BitVec.ofNat 8 (0x80 + v)
    let used : Nat → Prop := fun j => (entry j).getLsbD 7 = true
    let held := ∃ j, j < 4 ∧ entry j = mine
    ((∀ j, j < 4 → used j) → s.leaves (.mirror e i) k (nd.after { nd with c := true } nd.clk 1)) ∧
    (¬ (∀ j, j < 4 → used j) → held → s.leaves (.mirror e i) k (nd.after { nd with c := false } nd.clk 1)) ∧
    ∀ q, q < 4 → ¬ used q → (∀ j, j < q → used j) → ¬ held →
      s.leaves (.mirror e i) k (nd.after { nd with c := false, md := nd.md.set (0x18 + q) mine, mirSeq := nd.mirSeq ++ [nd.aclSeq] } nd.clk 1)

/-- Branches, calls and returns move PC; OUTER and END end the program (R99, R102, R125, R128, R148). JMP goes to its
target and CALL also leaves PC + 1 in RD; RET goes to RA's low 13 bits; each takes 2 clocks. B.cc takes the branch in
2 clocks where the condition of Table 5-4 holds on Z, N and C, and otherwise goes on in 1; condition codes 9 to 15 end
the program as ILLEGAL. END ends the program, the job keeping the metadata, and for egress the edited head; OUTER 4
and 5 end it with that reason and any other X as ILLEGAL, with all of the program's metadata discarded. Flags, other
registers and everything outside the needle and its job stay, but for counts, reports and the Gauge. -/
def Obligations.NeedleControlFlow : Prop :=
  ∀ (e : Fin 64) (i : Fin 96) (nd : Needle) (w : BitVec 64) (s : State), let k := e.val * 96 + i.val
    s.fetches k nd w →
    let goes : Needle → Nat → Needle := fun x t => { x with pc := t, clk := nd.clk + 2, stalled := false, lastPc := nd.pc }
    let target := getField w 0 13
    let c := getField w 40 4
    let holds : Prop := match c with
      | 0 => True
      | 1 => nd.z = true
      | 2 => nd.z = false
      | 3 => nd.c = true
      | 4 => nd.c = false
      | 5 => nd.c = true ∨ nd.z = true
      | 6 => nd.c = false ∧ nd.z = false
      | 7 => nd.n = true
      | _ => nd.n = false
    (opWord 0x50 0x1FFF w → s.leaves (.jmp e i) k (goes nd target)) ∧
    (opWord 0x51 (mC ||| 0x1FFF) w → (9 ≤ c → s.endsWith (.bCc e i) k nd.job 3) ∧
      (c < 9 → holds → s.leaves (.bCc e i) k (goes nd target)) ∧
      (c < 9 → ¬ holds → s.leaves (.bCc e i) k (nd.after nd nd.clk 1))) ∧
    (opWord 0x52 (mRD ||| 0x1FFF) w →
      s.leaves (.call e i) k (goes { nd with regs := nd.regs.set (wRd w) (BitVec.ofNat 32 (nd.pc + 1)) } target)) ∧
    (opWord 0x53 mRA w → s.leaves (.ret e i) k (goes nd ((nd.regs.getD (wRa w) 0).toNat % 2 ^ 13))) ∧
    (opWord 0x5E mX w → s.endsWith (.outer e i) k nd.job (if wX w = 4 ∨ wX w = 5 then wX w else 3)) ∧
    (opWord 0x5F 0 w → s.endsWith (.endProg e i) k nd.job 0 ∧
      ∀ j, j ∈ (s.pipe (e.val / 4)).ig → j.id = nd.job → ∃ t, exec (.endProg e i) s = .next t ∧
        { j with ended := true, md := nd.md, head := nd.win.take nd.vlen, twoStep := nd.twoStep, mirSeq := nd.mirSeq } ∈
          (t.pipe (e.val / 4)).ig) ∧
    (opWord 0x5E mX w → wX w = 4 ∨ wX w = 5 → ∀ j, j ∈ (s.pipe (e.val / 4)).ig → j.id = nd.job → j.copy = none →
      ∃ t, exec (.outer e i) s = .next t ∧ ∃ q, q ∈ (t.pipe (e.val / 4)).ig ∧ q.id = j.id ∧ q.reason = wX w ∧ q.md = j.outerMd (wX w))

/-- Edits of the egress window follow R144 to R147 (R128, R143, R144, R145, R146, R147, R152). On an egress needle
EINS inserts key bytes and EDEL deletes window bytes, moving what is behind, with VLEN in needle and metadata changed
by the length; ETPL inserts the bytes of an answered TUNNEL entry and clears Z, and inserts nothing and sets Z for any
other slot; an insertion above VLEN or past 256 bytes, a deletion past VLEN or leaving less than 14 bytes, ends the
program as WINDOW; a length out of range as ILLEGAL. CSUM4 of a header of IHL at least 5 within VLEN writes its
checksum and clears Z; IHL below 5 sets Z and writes nothing; a header that reaches VLEN ends the program as WINDOW.
TSMARK and TSTAG write their metadata. Everything else stays, but for counts, reports and the Gauge. On an ingress
needle all of these end the program as ILLEGAL. -/
def Obligations.NeedleEdits : Prop :=
  (∀ (e : Fin 64) (i : Fin 96) (nd : Needle) (w : BitVec 64) (s : State), let k := e.val * 96 + i.val
    s.fetches k nd w → e.val % 4 / 2 = 1 → nd.win.length = 256 → nd.vlen ≤ 256 →
    let a := nd.regs.getD (wRa w) 0
    let b := nd.regs.getD (wRb w) 0
    let x := wX w
    let off := getField w 0 8
    let o := getField w 16 7
    let edit : Bytes → Nat → Needle := fun win v =>
      { nd with win := win.take 256, vlen := v, md := overwrite nd.md 4 (beBytes 2 v) }
    let ins : Bytes → Needle := fun bs => edit (nd.win.take off ++ bs ++ nd.win.drop off) (nd.vlen + bs.length)
    let tooFar : Nat → Prop := fun n => nd.vlen < off ∨ 256 < nd.vlen + n
    (opWord 0x61 (mX ||| 0x7F00FF) w → let bad := x = 0 ∨ 64 < x ∨ 80 < o + x
      (bad → s.endsWith (.eins e i) k nd.job 3) ∧ (¬ bad → tooFar x → s.endsWith (.eins e i) k nd.job 2) ∧
      (¬ bad → ¬ tooFar x → s.leaves (.eins e i) k (nd.after (ins (sliceZ nd.key o x)) nd.clk 2))) ∧
    (opWord 0x62 (mX ||| 0xFF) w → let far := nd.vlen < off + x ∨ nd.vlen < x + 14
      (x = 0 → s.endsWith (.edel e i) k nd.job 3) ∧ (x ≠ 0 → far → s.endsWith (.edel e i) k nd.job 2) ∧
      (x ≠ 0 → ¬ far → ∃ y, s.leaves (.edel e i) k (nd.after y nd.clk 2) ∧ y.vlen = nd.vlen - x ∧
        y.win.take y.vlen = (nd.win.take off ++ nd.win.drop (off + x)).take y.vlen ∧ y.win.length = 256 ∧
        y.md = overwrite nd.md 4 (beBytes 2 y.vlen) ∧ { y with win := nd.win, vlen := nd.vlen, md := nd.md } = nd)) ∧
    (opWord 0x63 (mRA ||| 0xFF) w → wRa w < 4 → let l := nd.slot (wRa w)
      let c := max nd.clk l.arr
      let bs := tunnelBytes l.words
      l.asked = none → c < nd.budget →
      (¬ (l.status = 1 ∧ l.tunnel = true) → s.leaves (.etpl e i) k (nd.after { nd with z := true } c 2)) ∧
      (l.status = 1 → l.tunnel = true → bs = [] → off ≤ nd.vlen → s.leaves (.etpl e i) k (nd.after { nd with z := false } c 2)) ∧
      (l.status = 1 → l.tunnel = true → bs ≠ [] → tooFar bs.length → s.endsWith (.etpl e i) k nd.job 2) ∧
      (l.status = 1 → l.tunnel = true → bs ≠ [] → ¬ tooFar bs.length →
        s.leaves (.etpl e i) k (nd.after { ins bs with z := false } c 2))) ∧
    (opWord 0x64 0xFF w → let ihl := beAt nd.win off 1 % 16
      (nd.vlen ≤ off ∨ 5 ≤ ihl ∧ nd.vlen < off + 4 * ihl → s.endsWith (.csum4 e i) k nd.job 2) ∧
      (off < nd.vlen → ihl < 5 → s.leaves (.csum4 e i) k (nd.after { nd with z := true } nd.clk 2)) ∧
      (5 ≤ ihl → off + 4 * ihl ≤ nd.vlen → ∃ h, s.leaves (.csum4 e i) k
          (nd.after { nd with z := false, win := overwrite nd.win off h } nd.clk 2) ∧ h.length = 4 * ihl ∧ onesSum h = 65535 ∧
          ∀ j, j < 4 * ihl → j ≠ 10 → j ≠ 11 → h.getD j 0 = nd.win.getD (off + j) 0)) ∧
    (opWord 0x65 (mX ||| mRA ||| mRB) w → (x = 1 ∨ x = 2 → s.leaves (.tsmark e i) k
        (nd.after { nd with md := overwrite (overwrite (overwrite nd.md 0x60 (beBytes 2 a.toNat)) 0x62 (beBytes 2 b.toNat)) 0x64 (beBytes 1 x) } nd.clk 1)) ∧
      (x ≠ 1 → x ≠ 2 → s.endsWith (.tsmark e i) k nd.job 3)) ∧
    (opWord 0x66 mRA w → s.leaves (.tstag e i) k
      (nd.after { nd with md := overwrite nd.md 0x66 (beBytes 2 a.toNat), twoStep := true } nd.clk 1))) ∧
  ∀ (e : Fin 64) (i : Fin 96) (nd : Needle) (w : BitVec 64) (s : State), let k := e.val * 96 + i.val
    s.fetches k nd w → e.val % 4 / 2 = 0 →
    (getField w 56 8 = 0x61 → s.endsWith (.eins e i) k nd.job 3) ∧ (getField w 56 8 = 0x62 → s.endsWith (.edel e i) k nd.job 3) ∧
    (getField w 56 8 = 0x63 → s.endsWith (.etpl e i) k nd.job 3) ∧ (getField w 56 8 = 0x64 → s.endsWith (.csum4 e i) k nd.job 3) ∧
    (getField w 56 8 = 0x65 → s.endsWith (.tsmark e i) k nd.job 3) ∧ (getField w 56 8 = 0x66 → s.endsWith (.tstag e i) k nd.job 3)

/-- A fetch past index 8,191 or from a page outside PAGES ends the program as ILLEGAL (R129). Whatever Stitch
instruction is commanded at a needle whose program has budget left and whose PC is 8,192 or more, or lies in a page
whose bit is clear in PAGES of the set it runs under, the program ends with reason 3; and it ends so where the fetched
word's opcode is none of Table 5-5. -/
def Obligations.FetchOutsideTheImageEnds : Prop :=
  ∀ (e : Fin 64) (i : Fin 96) (nd : Needle) (s : State), let k := e.val * 96 + i.val
    let b := (e.val / 4 * 2 + e.val % 4 / 2) * 2 + nd.set
    s.needle k = some nd → nd.clk < nd.budget →
    (8192 ≤ nd.pc ∨ (s.fld F.STE_PAGES_PAGES b).testBit (nd.pc / 1024) = false → ∀ c : Instr, c ∈ stitchCommands e i →
      s.endsWith c k nd.job 3) ∧
    ∀ w, s.fetch k nd = some w → getField w 56 8 ∉ opcodes → ∀ c : Instr, c ∈ stitchCommands e i → s.endsWith c k nd.job 3

/-- Learning events are recorded or planned, and hardware writes apply plans within their room (R160, R162, R165,
R166, R167, R168, R177, R181). LEARN_PLAN takes the event at the head of its die's queue. A host-assisted one is
recorded by the source port's die only. One whose key a STATIC entry holds is counted in MOVE_DENIED; one whose key is
absent, with a free slot among its candidates, is planned into the first such slot, with DATA, PORT, LEARNED and the
key of Table 6-7. Tables do not change then. RETRY_REPLAN, when due, plans the retry list's event into a free slot;
the event stays in the list. HW_WRITES_APPLY, once in an edge, with one standing BRIDGE plan and room writes its
entry, with its STAMP, and counts INSERT; with no room it waits; a SESSION plan takes the lowest free SID and zeroes
its STATS pair. TABLE_FLUSH_COMPLETE ends a flush whose dies are done. HASH_SEED_WRITE stores a seed of an empty table
and is refused otherwise. Registers other than the event counts and reports stay. -/
def Obligations.LearningPlansAndWrites : Prop :=
  (∀ (d : Fin 2) (s : State), (s.learning d.val).queue = [] → exec (.learnPlan d) s = .next { s with out := [] }) ∧
  (∀ (d : Fin 2) (ev : LEvent) (rest : List LEvent) (s : State), (s.learning d.val).queue = ev :: rest →
    let taken : State → Prop := fun t => exec (.learnPlan d) s = .next t ∧ (t.learning d.val).queue = rest ∧
      (∀ q, q ≠ d.val → t.learning q = s.learning q) ∧
      OnlyReports (fun r i => r = .LKP_CNT ∨ r = .LKP_EVQ_STS ∧ i = d.val) s { t with learn := s.learn }
    (ev.host = true → portDie ev.src = d.val → s.counts .LKP_CNT (d.val * 16 + 15) →
      ∃ t, taken t ∧ (t.learning d.val).plans = (s.learning d.val).plans ∧
        t.reg .LKP_CNT (d.val * 16 + 15) = s.reg .LKP_CNT (d.val * 16 + 15) + 1) ∧
    (ev.host = true → portDie ev.src ≠ d.val → ∃ t, taken t ∧ (t.learning d.val).plans = (s.learning d.val).plans ∧
      RegsBut (fun r i => r = .LKP_EVQ_STS ∧ i = d.val) s t) ∧
    (∀ loc old, ev.host = false → s.domOn (hashDomain d.val ev.table) = true → s.tabs.findKey d.val ev.table ev.key = some loc →
      s.tabs.slotAt d.val ev.table loc = some old → old.isStatic = true → s.counts .LKP_CNT (d.val * 16 + 5) →
      ∃ t, taken t ∧ (t.learning d.val).plans = (s.learning d.val).plans ∧
        t.reg .LKP_CNT (d.val * 16 + 5) = s.reg .LKP_CNT (d.val * 16 + 5) + 1) ∧
    ∀ c, ev.host = false → s.domOn (hashDomain d.val ev.table) = true → s.tabs.findKey d.val ev.table ev.key = none →
      (s.tabs.candidates d.val ev.table ev.key).find? (fun l => (s.tabs.slotAt d.val ev.table l).isNone) = some c →
      ev.src < 160 → ∃ t p, taken t ∧ (t.learning d.val).plans = (s.learning d.val).plans ++ [p] ∧ p.ev = ev ∧ p.path = [c] ∧
        p.update = false ∧ p.new.key = ev.key ∧ p.new.words.getD 0 0 = BitVec.ofNat 32 ev.data ∧ p.new.port = ev.src ∧
        p.new.isStatic = false ∧ p.new.hw.getLsbD 11 = true) ∧
  (∀ (d : Fin 2) (s : State), (s.learning d.val).due = false → exec (.retryReplan d) s = .next { s with out := [] }) ∧
  (∀ (d : Fin 2) (ev : LEvent) (c : Nat) (s : State), (s.learning d.val).due = true → (s.learning d.val).retry = [ev] →
    (s.learning d.val).plans.any (fun p => p.retry && p.ev == ev) = false →
    s.domOn (hashDomain d.val ev.table) = true → s.tabs.findKey d.val ev.table ev.key = none →
    (s.tabs.candidates d.val ev.table ev.key).find? (fun l => (s.tabs.slotAt d.val ev.table l).isNone) = some c →
    ∃ t p, exec (.retryReplan d) s = .next t ∧ (t.learning d.val).due = false ∧ (t.learning d.val).retry = [ev] ∧
      (t.learning d.val).plans = (s.learning d.val).plans ++ [p] ∧ p.ev = ev ∧ p.path = [c] ∧ p.retry = true ∧
      (∀ q, q ≠ d.val → t.learning q = s.learning q) ∧
      OnlyReports (fun r i => r = .LKP_CNT ∨ r = .LKP_EVQ_STS ∧ i = d.val) s { t with learn := s.learn }) ∧
  (∀ (s : State), s.tick.hwDone = true → exec .hwWritesApply s = .next { s with out := [] }) ∧
  (∀ (d : Fin 2) (p : LPlan) (c : Nat) (s : State), s.tick.hwDone = false → let l := s.learning d.val
    let o := s.learning (1 - d.val)
    l.plans = [p] → l.dels = [] → l.ages = [] → l.run = none → o.plans = [] → o.dels = [] → o.ages = [] → o.run = none →
    p.path = [c] → p.update = false → s.planStands d.val p = true →
    (s.hwRoom d.val = 0 → ∃ t, exec .hwWritesApply s = .next t ∧ t.tabs = s.tabs ∧ (t.learning d.val).plans = [p]) ∧
    (0 < s.hwRoom d.val → p.ev.table = 0 → s.counts .LKP_CNT (d.val * 16 + 3) →
      ∃ t, exec .hwWritesApply s = .next t ∧ (t.learning d.val).plans = [] ∧
        t.tabs = s.tabs.setSlot d.val 0 c (some { p.new with stamp := s.unit d.val 0 s.tikCount }) ∧
        t.reg .LKP_CNT (d.val * 16 + 3) = s.reg .LKP_CNT (d.val * 16 + 3) + 1 ∧ t.stats = s.stats ∧
        RegsBut (fun r _ => r ∈ reportRegs ++ [.LKP_CNT, .LKP_EVQ_STS, .GGE_CNT, .GGE_OVF, .GGE_FRZ]) s t) ∧
    ∀ sid, 0 < s.hwRoom d.val → p.ev.table = 1 → s.freeSid d.val = some sid →
      ∃ t new, exec .hwWritesApply s = .next t ∧ (t.learning d.val).plans = [] ∧ t.tabs = s.tabs.setSlot d.val 1 c (some new) ∧
        new.key = p.new.key ∧ new.words.getD 0 0 = p.new.words.getD 0 0 ∧ t.statPair (s.sidStats d.val sid) = (0, 0) ∧
        (t.learning d.val).sids = sid :: l.sids ∧
        RegsBut (fun r _ => r ∈ reportRegs ++ [.LKP_CNT, .LKP_EVQ_STS, .GGE_CNT, .GGE_OVF, .GGE_FRZ]) s t) ∧
  (∀ (s : State), s.flushes.all (fun e => e.2.1 != 0) = true →
    exec .tableFlushComplete s = .next { s with out := [] }) ∧
  (∀ (f : Flush) (d0 d1 : Nat) (s : State), s.flushes.find? (fun e => e.2.1 == 0) = some (f, 0, d0, d1) → f.chart = none →
    ∃ t, exec .tableFlushComplete s = .next t ∧ t.flushes = removeFirst (fun e => e == (f, 0, d0, d1)) s.flushes ∧
      OnlyRegs (fun _ _ => False) s { t with flushes := s.flushes }) ∧
  ∀ (a : Agent) (d : Fin 2) (tb : Fin 3) (sub : Fin 2) (v : BitVec 32) (s : State),
    let i := d.val * 6 + tb.val * 2 + sub.val
    s.takes a .LKP_HASH_SEED i →
    (s.hashCount d.val tb.val = 0 → ∃ t, exec (.hashSeedWrite a d tb sub v) s = .next t ∧
      (t.reg .LKP_HASH_SEED i).setWidth 32 = v ∧ OnlyRegs (fun r j => r = .LKP_HASH_SEED ∧ j = i) s t) ∧
    (s.hashCount d.val tb.val ≠ 0 → ∃ t, exec (.hashSeedWrite a d tb sub v) s = .next t ∧
      t.fld F.LKP_TBL_STS_SEED_REFUSED (d.val * 3 + tb.val) = 1 ∧
      OnlyRegs (fun r j => r = .LKP_TBL_STS ∧ j = d.val * 3 + tb.val) s t)

/-- Panels answer with their lowest matching entry; retries, fallback and twins follow R185 to R196 (R185, R192, R193,
R194, R195, R201, R206). PANEL_SEARCH of a panel that is on, is no twin, and whose queue's head waits for this panel
alone, answers that lookup with the lowest first slot whose entry is valid under the packet's tag and matches the key
under the global mask: HIT, or FB_HIT under the fallback, with the ACTION and the slot; ERROR where its check fails,
with the entry to be repaired next; MISS or FB_MISS with none. It counts SEARCH. A search refused by full queues tries
again in each of four clocks (TCAM_RETRY), and then (TCAM_FALLBACK) is issued under FB_PROF, or answered FB_MISS where
FB_PROF makes no search. PANEL_CFG_WRITE is accepted or refused as R194 and R201 say, changing only TCM_PANEL_CFG or
CFG_REFUSED. TWIN_COPY_DONE makes a pair ACTIVE after its last row, TWIN_RELEASE_END makes it OFF two edges after
RELEASE and leaves the twin without entries. Other lookups and entries stay. -/
def Obligations.AssociativeSearch : Prop :=
  (∀ (q : Fin 48) (err : Bool) (k : Nat) (rest : List Nat) (lk : Lookup) (s : State), s.panelQueue q.val = k :: rest →
    s.lookup k = some lk → lk.todo = [(q.val, q.val)] → lk.best = none → s.primaryOf q.val = none → s.panelOn q.val = true →
    SMap.wf (fun _ => TVal.none) s.tvals = true → s.counts .TCM_CNT (q.val / 24 * 12) →
    let fits : Nat → Prop := fun i => i / 32768 = q.val ∧ (s.tval i).tags.getLsbD lk.tag = true ∧
      s.entryMatches i (lk.key.length / 10) lk.key lk.mask = true
    let done : Answer → Prop := fun a => ∃ t y, exec (.panelSearch q err) s = .next t ∧ t.lookup k = some y ∧ y.answer = some a ∧
      { y with answer := lk.answer, todo := lk.todo, best := lk.best } = lk ∧ (∀ j, j ≠ k → t.lookup j = s.lookup j) ∧
      t.panelQueue q.val = rest ∧ (∀ j, j ≠ q.val → t.panelQueue j = s.panelQueue j) ∧
      t.reg .TCM_CNT (q.val / 24 * 12) = s.reg .TCM_CNT (q.val / 24 * 12) + 1 ∧
      t.scrubNext = s.scrubNext ++ (if a.status = 6 then [q.val * 32768 + y.best.elim 0 (fun b => b.slot) % 32768] else []) ∧
      OnlyReports (fun r _ => r ∈ [.TCM_CNT, .GGE_CNT, .GGE_OVF, .GGE_FRZ]) s
        { t with lookups := s.lookups, tqueue := s.tqueue, scrubNext := s.scrubNext }
    ((∀ i, ¬ fits i) → done ⟨if lk.fb then 5 else 2, []⟩) ∧
    ∀ i, fits i → (∀ j, j < i → ¬ fits j) →
      let act := SMap.get (fun _ => 0) (s.tabsAt lk.tag).action i
      done (if err then ⟨6, []⟩ else ⟨if lk.fb then 4 else 1, [act.extractLsb' 0 32, act.extractLsb' 32 32, BitVec.ofNat 32 i]⟩)) ∧
  (∀ (k w : Nat) (lk : Lookup) (s : State), s.lookup k = some lk → lk.waits = some w →
    (4 ≤ w → exec (.tcamRetry k) s = .next { s with out := [] }) ∧
    (w < 4 → ∃ t y, exec (.tcamRetry k) s = .next t ∧ t.lookup k = some y ∧ (y.waits = none ∨ y.waits = some (w + 1)) ∧
      y.needle = lk.needle ∧ y.slot = lk.slot ∧ y.prof = lk.prof ∧ y.raw = lk.raw ∧ y.fb = lk.fb ∧
      (∀ j, j ≠ k → t.lookup j = s.lookup j) ∧
      OnlyReports (fun r _ => r ∈ [.TCM_CNT, .TCM_PANEL_STS, .GGE_CNT, .GGE_OVF, .GGE_FRZ]) s
        { t with lookups := s.lookups, tqueue := s.tqueue, twins := s.twins }) ∧
    (w ≠ 4 → exec (.tcamFallback k) s = .next { s with out := [] }) ∧
    (w = 4 → ∃ t y, exec (.tcamFallback k) s = .next t ∧ t.lookup k = some y ∧ y.fb = true ∧ y.waits = none ∧
      y.needle = lk.needle ∧ y.slot = lk.slot ∧ y.raw = lk.raw ∧ (∀ j, j ≠ k → t.lookup j = s.lookup j) ∧
      (s.fallbackOk lk.prof = false → y.answer = some ⟨5, []⟩ ∧ OnlyRegs (fun _ _ => False) s { t with lookups := s.lookups }) ∧
      OnlyReports (fun r _ => r ∈ [.TCM_CNT, .TCM_PANEL_STS, .GGE_CNT, .GGE_OVF, .GGE_FRZ]) s
        { t with lookups := s.lookups, tqueue := s.tqueue, twins := s.twins })) ∧
  (∀ (a : Agent) (q : Fin 48) (v : BitVec 32) (s : State), s.takes a .TCM_PANEL_CFG q.val →
    let old := s.reg .TCM_PANEL_CFG q.val
    let new := Reg.written .TCM_PANEL_CFG old low32 (v.setWidth 64)
    let w := getField new 0 2
    let tw := getField new 3 5
    let tq := q.val / 24 * 24 + tw
    let width := w ≠ getField old 0 2
    let refused := 23 < tw ∨ width ∧ s.panelLive q.val = true ∨
      (s.paired q.val = true ∧ (width ∨ tw ≠ getField old 3 5 ∨ new.getLsbD 2 = true ∨ s.isPrimary q.val = false)) ∨
      (s.paired q.val = false ∧ new.getLsbD 2 = true ∧ (tq = q.val ∨ s.paired tq = true ∨ s.fld F.TCM_PANEL_CFG_WIDTH tq ≠ w ∨
        s.panelLive tq = true ∨ s.panelOn q.val = false ∨ s.panelOn tq = false))
    (refused → ∃ t, exec (.panelCfgWrite a q v) s = .next t ∧ t.fld F.TCM_PANEL_STS_CFG_REFUSED q.val = 1 ∧
      OnlyRegs (fun r i => r = .TCM_PANEL_STS ∧ i = q.val) s t) ∧
    (¬ refused → ∃ t, exec (.panelCfgWrite a q v) s = .next t ∧ t.reg .TCM_PANEL_CFG q.val = new ∧
      OnlyRegs (fun r i => r = .TCM_PANEL_CFG ∧ i = q.val) s t)) ∧
  (∀ (q : Fin 48) (s : State), s.fld F.TCM_PANEL_CFG_TWIN_EN q.val = 1 → s.twinState q.val = 1 → 4096 ≤ (s.twin q.val).row →
    ∃ t, exec (.twinCopyDone q) s = .next t ∧ t.twinState q.val = 2 ∧ t.twinState (s.twinOf q.val) = 2 ∧
      OnlyRegs (fun r i => r = .TCM_PANEL_STS ∧ (i = q.val ∨ i = s.twinOf q.val)) s t) ∧
  ∀ (q : Fin 48) (s : State), s.isPrimary q.val = true → s.twinState q.val = 3 → 2 ≤ (s.twin q.val).edges →
    ∃ t, exec (.twinReleaseEnd q) s = .next t ∧ t.twinState q.val = 0 ∧ t.twinState (s.twinOf q.val) = 0 ∧
      t.twin q.val = ⟨false, 0, 0⟩ ∧ (∀ i, t.tval i = if i / 32768 = s.twinOf q.val then TVal.none else s.tval i) ∧
      OnlyRegs (fun r i => r = .TCM_PANEL_STS ∧ (i = q.val ∨ i = s.twinOf q.val)) s { t with twins := s.twins, tvals := s.tvals }

/-- Action merge drops, forwards or hands over the next packet as R207 to R211 and R104 say (R104, R105, R110, R137,
R207, R208, R211). ACTION_MERGE takes the packet at the head of the pipeline and counts MERGED. One whose ingress
fault was found before then makes no copy. Of one that ended by END with no ACL answer, host copy, mirror or responder
mark: DROP drops it with cause 1; FWD KIND 0 with cause 3, no decision; KIND 1 with a port in use (no policer, not
Yarn, its queues not named by metadata) makes one copy of the frame, under the next number, with TC, FWD resolved to
the port, in that port's unicast queue, and puts its claim last at the BPM of the port's die. One that ended in outer
classification with the drop action is counted in OUTER_ACT and OUTER_DROP. A host frame with a usable destination
makes one copy. Other copies, queues, tables and ports stay, and of the registers only counters and reports change. -/
def Obligations.ActionMergeDecides : Prop :=
  ∀ (n : Fin 16) (errs : BitVec 8) (m : Merge) (rest : List Merge) (s : State), (s.pipe n.val).merge = m :: rest →
    s.counts .ACT_CNT (n.val * 25) →
    let frame : State → Prop := fun t => exec (.actionMerge n errs) s = .next t ∧ (t.pipe n.val).merge = rest ∧
      t.reg .ACT_CNT (n.val * 25) = s.reg .ACT_CNT (n.val * 25) + 1 ∧ (∀ q, q ≠ n.val → t.pipe q = s.pipe q) ∧
      t.tabs = s.tabs ∧ t.queues = s.queues ∧ t.txq = s.txq ∧ t.ports = s.ports ∧
      RegsBut (fun r _ => r ∈ reportRegs ++ [.ACT_CNT, .STE_CNT, .SCH_CNT, .GGE_CNT, .GGE_OVF, .GGE_FRZ]) s t
    let none' : State → Prop := fun t => frame t ∧ t.copies = s.copies ∧ t.bufs = s.bufs
    let one : State → Copy → Prop := fun t c => frame t ∧ t.copy s.nextId = some c ∧ (∀ k, k ≠ s.nextId → t.copy k = s.copy k) ∧
      (t.buf c.die).claims = (s.buf c.die).claims ++ [(c.req, .copy s.nextId)] ∧ (∀ d, d ≠ c.die → t.buf d = s.buf d)
    let counted : State → Reg → Nat → Prop := fun t r i => s.counts r i → t.reg r i = s.reg r i + 1
    (∀ j, m = .job j → j.pkt.bad = true → j.pkt.arr ≠ 2 → ∃ t, none' t) ∧
    (∀ p md tc dp h x own, m = .yarn p md tc dp h x own → p.bad = true → p.arr ≠ 2 → ∃ t, none' t) ∧
    (∀ j, m = .job j → ¬ (j.pkt.bad = true ∧ j.pkt.arr ≠ 2) → j.reason = 0 → j.acls = [] → beAt j.md 0x15 1 = 0 →
      beAt j.md 0x16 1 = 0 → (∀ i, i < 4 → (j.md.getD (0x18 + i) 0).getLsbD 7 = false) →
      let fwd := beAt j.md 0x10 4 % 2 ^ 24
      (beAt j.md 0x14 1 ≠ 0 → ∃ t, none' t ∧ counted t .ACT_CNT (n.val * 25 + 1)) ∧
      (beAt j.md 0x14 1 = 0 → fwd / 2 ^ 20 = 0 → ∃ t, none' t ∧ counted t .ACT_CNT (n.val * 25 + 3)) ∧
      ∀ p, p < 128 → beAt j.md 0x14 1 = 0 → fwd = 2 ^ 20 + p → s.portOk p = true → beAt j.md 0x1C 4 < 2 ^ 31 →
        s.isYarn p = false → s.effBit F.SCH_PORT_LEAF_SRC (p / 64 * 75 + p % 64) = false →
        ∃ t c, one t c ∧ c.port = p ∧ c.die = p / 64 ∧ c.tc = beAt j.md 0x0F 1 % 8 ∧ c.bytes = j.pkt.bytes ∧
          c.md = overwrite j.md 0x10 (beBytes 4 (2 ^ 20 + p)) ∧ c.queue = 32768 + 16 * (p % 64) + c.tc ∧ c.colour = 0) ∧
    (∀ j, m = .job j → ¬ (j.pkt.bad = true ∧ j.pkt.arr ≠ 2) → j.reason ≠ 0 →
      s.fld F.STE_OUTER_ACT_ACT (n.val * 8 + j.oclass) = 0 →
      ∃ t, none' t ∧ counted t .ACT_CNT (n.val * 25 + 23) ∧ counted t .STE_CNT (n.val * 16 + 15)) ∧
    ∀ b md dest tc tx ch, m = .host b md dest tc tx ch → s.portOk dest = true → s.isYarn dest = false →
      ∃ t c, one t c ∧ c.port = dest ∧ c.tc = tc ∧ c.bytes = b ∧ c.tx = tx ∧ c.chart = ch ∧ counted t .STE_CNT (n.val * 16 + 14)

/-- Responder replies, BFD sessions and LACPDUs follow R223 to R229 (R223, R225, R227, R228, R229). RESPONDER_REPLY
answers the request at the head of the queue with one frame to its port, destined to the sender, from the port's MAC
address, except in READY, where the request waits; an ARP reply has opcode 2, the port's MAC and the addresses
swapped. BFD_CTL_WRITE stores the register while EN is 0; while it is 1 it changes EN alone, STATE going to 0 with it,
and sets REFUSED where another field would change. BFD_TX of a running session whose interval is over, by up to a
quarter early, starts the interval again and sends its frame to its port, which it skips while the port is not UP or
the device in READY (log entry 66). BFD_DETECT_EXPIRE after DET ticks in Up without a packet takes the session Down
with diagnostic 1 and records it. LACP_TX of an enabled slot after its period sends the 124 bytes of its PDU with
class 7 where its port is UP and the device not in READY (log entry 66). Each counts; other copies, sessions and
registers but reports keep their values. -/
def Obligations.RespondersAndSessions : Prop :=
  (∀ (n : Fin 16) (kind port : Nat) (b : Bytes) (rest : List (Nat × Bytes × Nat)) (s : State),
    (s.pipe n.val).replies = (kind, b, port) :: rest → s.curMode ≠ 3 → s.isYarn port = false → s.counts .ACT_CNT (n.val * 25 + 15) →
    let o := s.etherAt n.val b
    let mac := beBytes 6 (s.fld F.ACT_PORT_MAC_MAC port)
    ∃ t c, exec (.responderReply n) s = .next t ∧ (t.pipe n.val).replies = rest ∧ t.copy s.nextId = some c ∧ c.port = port ∧
      c.tc = s.fld F.ACT_RSP_CFG_TC n.val ∧
      (1 ≤ kind → c.bytes.take 12 = sliceZ b 6 6 ++ mac) ∧
      (kind = 1 → beAt c.bytes (o + 8) 2 = 2 ∧ sliceZ c.bytes (o + 10) 6 = mac ∧ sliceZ c.bytes (o + 16) 4 = sliceZ b (o + 26) 4 ∧
        sliceZ c.bytes (o + 20) 6 = sliceZ b (o + 10) 6 ∧ sliceZ c.bytes (o + 26) 4 = sliceZ b (o + 16) 4) ∧
      t.reg .ACT_CNT (n.val * 25 + 15) = s.reg .ACT_CNT (n.val * 25 + 15) + 1 ∧
      (∀ k, k ≠ s.nextId → t.copy k = s.copy k) ∧ RegsBut (fun r i => r = .ACT_CNT ∧ i = n.val * 25 + 15 ∨ r ∈ reportRegs) s t) ∧
  (∀ (n : Fin 16) (s : State), s.curMode = 3 → exec (.responderReply n) s = .next { s with out := [] }) ∧
  (∀ (a : Agent) (n : Fin 16) (x : Fin 256) (v : BitVec 64) (s : State), let k := n.val * 256 + x.val
    s.takes a .ACT_BFD_CTL k →
    let old := s.reg .ACT_BFD_CTL k
    let new := Reg.written .ACT_BFD_CTL old all64 v
    (old.getLsbD 0 = false → ∃ t, exec (.bfdCtlWrite a n x v) s = .next t ∧ t.reg .ACT_BFD_CTL k = new ∧
      OnlyRegs (fun r i => r = .ACT_BFD_CTL ∧ i = k) s t) ∧
    (old.getLsbD 0 = true → ∃ t, exec (.bfdCtlWrite a n x v) s = .next t ∧
      (∀ j, (t.reg .ACT_BFD_CTL k).getLsbD j = if j = 0 then new.getLsbD 0 else old.getLsbD j) ∧
      (new.getLsbD 0 = true → (∀ j, j ≠ 0 → new.getLsbD j = old.getLsbD j) → t.reg .ACT_BFD_STS k = s.reg .ACT_BFD_STS k) ∧
      (new.getLsbD 0 = false → t.fld F.ACT_BFD_STS_STATE k = 0) ∧ (∀ j, j ≠ k ∨ new.getLsbD 0 = true → t.bfdOf j = s.bfdOf j) ∧
      (∀ j, j ≠ 0 → new.getLsbD j ≠ old.getLsbD j → t.fld F.ACT_BFD_STS_REFUSED k = 1) ∧
      OnlyRegs (fun r i => (r = .ACT_BFD_CTL ∨ r = .ACT_BFD_STS) ∧ i = k) s { t with bfd := s.bfd })) ∧
  (∀ (n : Fin 16) (x : Fin 256) (s : State), let k := n.val * 256 + x.val
    let int := s.fld F.ACT_BFD_CTL_TX_INT k
    let port := 8 * n.val + s.fld F.ACT_BFD_CTL_SLOT k
    s.fld F.ACT_BFD_STS_STATE k ≠ 0 → int ≠ 0 → s.split 4 = false → int - int / 4 ≤ (s.bfdOf k).sent →
    (s.portState port ≠ 2 ∨ s.curMode = 3 → ∃ t, exec (.bfdTx n x) s = .next t ∧ (t.bfdOf k).sent = 0 ∧ t.copies = s.copies ∧
      (∀ j, j ≠ k → t.bfdOf j = s.bfdOf j) ∧ OnlyRegs (fun r i => r = .ACT_BFD_STS ∧ i = k) s { t with bfd := s.bfd }) ∧
    (s.portState port = 2 → s.curMode ≠ 3 → s.isYarn port = false → s.counts .ACT_CNT (n.val * 25 + 18) →
      ∃ t c, exec (.bfdTx n x) s = .next t ∧ (t.bfdOf k).sent = 0 ∧ t.copy s.nextId = some c ∧ c.port = port ∧
        c.tc = s.fld F.ACT_BFD_CTL_TC k ∧ c.bytes = s.bfdFrame k ∧
        t.reg .ACT_CNT (n.val * 25 + 18) = s.reg .ACT_CNT (n.val * 25 + 18) + 1 ∧
        (∀ j, j ≠ k → t.bfdOf j = s.bfdOf j) ∧ (∀ j, j ≠ s.nextId → t.copy j = s.copy j) ∧
        RegsBut (fun r i => r = .ACT_BFD_STS ∧ i = k ∨ r = .ACT_CNT ∨ r ∈ reportRegs) s t)) ∧
  (∀ (n : Fin 16) (x : Fin 256) (s : State), let k := n.val * 256 + x.val
    let det := s.fld F.ACT_BFD_CTL_DET k
    s.fld F.ACT_BFD_STS_STATE k = 3 → det ≠ 0 → s.split 4 = false → det ≤ (s.bfdOf k).since →
    s.counts .ACT_CNT (n.val * 25 + 21) →
    ∃ t, exec (.bfdDetectExpire n x) s = .next t ∧ t.fld F.ACT_BFD_STS_STATE k = 1 ∧ t.fld F.ACT_BFD_STS_DIAG k = 1 ∧
      t.fld F.ACT_BFD_STS_DOWN_EV k = 1 ∧ t.reg .ACT_CNT (n.val * 25 + 21) = s.reg .ACT_CNT (n.val * 25 + 21) + 1 ∧
      OnlyReports (fun r i => r = .ACT_BFD_STS ∧ i = k ∨ r = .ACT_CNT ∧ i = n.val * 25 + 21) s t) ∧
  ∀ (n : Fin 16) (j : Fin 8) (s : State), let p := 8 * n.val + j.val
    s.fld F.ACT_LACP_CTL_EN p = 1 → s.fld F.ACT_LACP_CTL_HOLD p = 0 → s.split 5 = false →
    max 1 (s.fld F.ACT_LACP_CTL_PERIOD p) ≤ SMap.get (fun _ => 0) s.lacp p →
    (s.portState p ≠ 2 ∨ s.curMode = 3 → ∃ t, exec (.lacpTx n j) s = .next t ∧ SMap.get (fun _ => 0) t.lacp p = 0 ∧
      OnlyRegs (fun _ _ => False) s { t with lacp := s.lacp }) ∧
    (s.portState p = 2 → s.curMode ≠ 3 → s.isYarn p = false → s.counts .ACT_CNT (n.val * 25 + 22) →
      ∃ t c, exec (.lacpTx n j) s = .next t ∧ SMap.get (fun _ => 0) t.lacp p = 0 ∧ t.copy s.nextId = some c ∧ c.port = p ∧ c.tc = 7 ∧
        c.bytes = s.regBytes .ACT_LACP_PDU (p * 31) 124 ∧ t.reg .ACT_CNT (n.val * 25 + 22) = s.reg .ACT_CNT (n.val * 25 + 22) + 1 ∧
        (∀ q, q ≠ s.nextId → t.copy q = s.copy q) ∧ RegsBut (fun r i => r = .ACT_CNT ∧ i = n.val * 25 + 22 ∨ r ∈ reportRegs) s t)

/-- A copy is admitted by its account, written through the crossbar and linked to its queue (R73, R232, R233, R236,
R237, R250, R254, R255). BPM_CLAIM with one waiting claim, of a network copy without a lossless group: a copy to a
port in BINDOFF or not linked is refused and counted at the port. Otherwise it is dropped, counted LIMIT, where the
cells beyond its queue's reserve exceed the threshold of its colour, else EMPTY where the free cells do not hold them;
else granted: its queue is charged and the copy waits at its crossbar input. XBAR_MATCH with one offered cell writes
it into the copy in its bank group, or, from input 14, into its fetched batch. COPY_LINK of a whole copy of a
store-and-forward frame gives back cells not used and puts it last in its queue's chain; one whose frame proved bad is
dropped and counted. Other copies stay, tables and ports too; of the registers only counters and reports change. -/
def Obligations.BufferAdmissionToLinking : Prop :=
  (∀ (d : Fin 2) (r id : Nat) (c : Copy) (s : State), (s.buf d.val).claims = [(r, .copy id)] → r < 15 → s.copy id = some c →
    c.die = d.val → c.kind ≠ .hostTx → c.kind ≠ .chartTx → c.group = none → c.arriving = false → c.chart = none → c.tx = none →
    c.need = 0 → c.hr = 0 → c.fetched = 0 → c.cells = [] → c.cut = false →
    let n := cellsOf c.bytes.length
    let q := s.queue c.key
    let mn := s.qmin c.key
    let sh := n - min n (mn - q.used)
    let a := s.fld (if c.colour = 0 then F.BPM_QPROF_A_G else if c.colour = 1 then F.BPM_QPROF_A_Y else F.BPM_QPROF_A_R) (s.qprof c.key)
    let above := sh ≠ 0 ∧ a * s.freeS d.val < 16 * (q.used - mn + sh)
    let down := c.port < 130 ∧ s.portState c.port ≠ 2 ∧ s.portState c.port ≠ 4
    let frame : State → Prop := fun t => exec (.bpmClaim d) s = .next t ∧ (t.buf d.val).claims = [] ∧
      (∀ k, k ≠ id → t.copy k = s.copy k) ∧ t.tabs = s.tabs ∧ t.ports = s.ports ∧ t.pipes = s.pipes ∧
      RegsBut (fun r _ => r ∈ reportRegs ++ [.BPM_CNT, .MAC_CNT, .HBC_CNT, .GGE_CNT, .GGE_OVF, .GGE_FRZ]) s t
    let counted : State → Reg → Nat → Prop := fun t r i => s.counts r i → t.reg r i = s.reg r i + 1
    (down → ∃ t, frame t ∧ t.copy id = none ∧ counted t .MAC_CNT (c.port * 16 + if s.portState c.port = 3 then 12 else 13)) ∧
    (¬ down → above → ∃ t, frame t ∧ t.copy id = none ∧ counted t .BPM_CNT (d.val * 6 + 2)) ∧
    (¬ down → ¬ above → s.freeS d.val < sh → ∃ t, frame t ∧ t.copy id = none ∧ counted t .BPM_CNT (d.val * 6 + 1)) ∧
    (¬ down → ¬ above → sh ≤ s.freeS d.val → ∃ t, frame t ∧ t.copy id = some { c with need := n, sh := sh } ∧
      (t.queue c.key).used = q.used + n ∧ counted t .BPM_CNT (d.val * 6))) ∧
  (∀ (d : Fin 2) (i f id g : Nat) (c : Copy) (s : State), (s.buf d.val).fifos = [(i * 16 + f, ⟨[], [(id, g)]⟩)] → i < 14 → f < 16 →
    g < 16 → s.copy id = some c → c.solo = false → s.counts .SCH_CNT (d.val * 10) →
    ∃ t, exec (.xbarMatch d) s = .next t ∧ t.copy id = some { c with cells := c.cells ++ [g] } ∧ (t.buf d.val).fifos = [] ∧
      (∀ k, k ≠ id → t.copy k = s.copy k) ∧ t.reg .SCH_CNT (d.val * 10) = s.reg .SCH_CNT (d.val * 10) + 1 ∧
      t.queues = s.queues ∧ t.tabs = s.tabs ∧ t.ports = s.ports ∧
      RegsBut (fun r _ => r ∈ reportRegs ++ [.SCH_CNT, .SKN_CNT, .GGE_CNT, .GGE_OVF, .GGE_FRZ]) s t) ∧
  (∀ (d : Fin 2) (k g : Nat) (p : Spill) (f : Fetch) (rest : List Fetch) (s : State),
    (s.buf d.val).fifos = [(14 * 16, ⟨[], [(k, g)]⟩)] → g < 16 → (s.queue k).spill = some p → p.fetches = f :: rest →
    f.granted = true → f.placed.length < f.cells → s.counts .SCH_CNT (d.val * 10) →
    ∃ t, exec (.xbarMatch d) s = .next t ∧ (t.buf d.val).fifos = [] ∧ t.copies = s.copies ∧
      t.queue k = { s.queue k with spill := some { p with fetches := { f with placed := f.placed ++ [g] } :: rest } } ∧
      (∀ j, j ≠ k → t.queue j = s.queue j) ∧ t.reg .SCH_CNT (d.val * 10) = s.reg .SCH_CNT (d.val * 10) + 1 ∧
      RegsBut (fun r _ => r ∈ reportRegs ++ [.SCH_CNT, .GGE_CNT, .GGE_OVF, .GGE_FRZ]) s t) ∧
  ∀ (id : Nat) (c : Copy) (s : State), s.copy id = some c → c.need ≠ 0 → cellsOf c.bytes.length ≤ c.cells.length →
    c.cut = false → c.done = false → c.linked = false → c.tx = none → c.stage = none → c.chart = none → c.group = none →
    c.kind = .forward → s.flushing c.port = false → s.cutOpen c.key = false →
    (c.bad = true → s.counts .SKN_CNT (c.die * 11 + 1) → ∃ t, exec (.copyLink id) s = .next t ∧ t.copy id = none ∧
      (∀ k, k ≠ id → t.copy k = s.copy k) ∧ t.reg .SKN_CNT (c.die * 11 + 1) = s.reg .SKN_CNT (c.die * 11 + 1) + 1 ∧ t.tabs = s.tabs) ∧
    (c.bad = false → c.queue < 65536 → ∃ t x, exec (.copyLink id) s = .next t ∧ t.copy id = some x ∧ x.linked = true ∧ x.done = true ∧
      x.need = min c.need c.cells.length ∧ x.bytes = c.bytes ∧ x.cells = c.cells ∧
      (t.queue c.key).chain = (s.queue c.key).chain ++ [id] ∧ (∀ k, k ≠ id → t.copy k = s.copy k) ∧
      (∀ k, k ≠ c.key → t.queue k = s.queue k) ∧ t.tabs = s.tabs ∧ t.ports = s.ports ∧
      RegsBut (fun r _ => r ∈ reportRegs ++ [.SKN_CNT, .BPM_CNT]) s t)

/-- A spilled queue moves cells out, fetches them back and is spliced as Table 9-4 says (R233, R243, R244, R245, R246,
R248, R254). For a spilled queue that is not flushed: SPILL_MOVE, with no move outstanding and HBM not paused, starts
a move of up to 64 cells of the tail beyond TAIL_MAX, as far as HBM_MAX allows and pages are free, and otherwise
changes nothing. SPILL_MOVE_ACK ends a move: the cells join M, leave their copies' on-chip cells and the queue's
account. SPILL_FETCH sets FILL as S4 says and, with it set and HBM not paused, claims up to 64 cells of M as requester
14. SPILL_FETCH_DONE of a granted batch that the crossbar has placed moves its cells from M to H, where their copies
have them in their bank groups, poisoned by an uncorrectable word. SPLICE, with M empty and nothing outstanding, gives
back context and pages and counts. Chains keep their order and copies their bytes; tables, ports and other queues
stay. After a flush what is outstanding ends and is discarded, and the other three change nothing. -/
def Obligations.SpillToHbm : Prop :=
  ∀ (d : Fin 2) (q : Fin 34048) (p : Spill) (s : State), let k := d.val * 65536 + q.val
    (s.queue k).spill = some p →
    let qs := s.queue k
    let same : State → Prop := fun t => (t.queue k).chain = qs.chain ∧ (∀ j, j ≠ k → t.queue j = s.queue j) ∧ t.tabs = s.tabs ∧
      t.ports = s.ports ∧ t.pipes = s.pipes ∧ t.txq = s.txq
    let whole : State → Prop := fun t => ∀ j c, s.copy j = some c →
      ∃ x, t.copy j = some x ∧ x.bytes = c.bytes ∧ x.cells.length = c.cells.length
    let n := min 64 (min (s.tailCells qs - (s.sprof k).2.2.2.1) ((s.sprof k).2.2.2.2 - p.mid))
    let fill := s.fillNow k qs p
    (∀ pages, p.dead = false → p.move = 0 → s.spillPaused d.val = false → n ≠ 0 →
      s.growPages d.val (p.first + p.mid + n) p.pages 2 = some pages →
      ∃ t, exec (.spillMove d q) s = .next t ∧ t.queue k = { qs with spill := some { p with move := n, pages := pages } } ∧
        same t ∧ OnlyRegs (fun _ _ => False) s { t with queues := s.queues }) ∧
    (p.dead = true ∨ p.move ≠ 0 ∨ s.spillPaused d.val = true ∨ n = 0 ∨
      s.growPages d.val (p.first + p.mid + n) p.pages 2 = none → exec (.spillMove d q) s = .next { s with out := [] }) ∧
    (p.dead = false → p.move ≠ 0 → ∃ t, exec (.spillMoveAck d q) s = .next t ∧
      (t.queue k).spill = some { p with mid := p.mid + p.move, move := 0 } ∧ (t.queue k).chain = qs.chain ∧ whole t ∧
      t.tabs = s.tabs ∧ t.pipes = s.pipes ∧
      ∀ id c, qs.chain = [id] → s.copy id = some c → c.key = k → c.group = none → c.kind = .forward →
        p.head + p.mid + p.move ≤ c.cells.length →
        (t.queue k).used = qs.used - p.move ∧ (∃ x, t.copy id = some x ∧
          x.cells = c.cells.take (p.head + p.mid) ++ List.replicate p.move inHbm ++ c.cells.drop (p.head + p.mid + p.move)) ∧
        (∀ j, j ≠ id → t.copy j = s.copy j) ∧ same t ∧
        RegsBut (fun r _ => r ∈ reportRegs ++ [.HBC_CNT, .GGE_CNT, .GGE_OVF, .GGE_FRZ]) s t) ∧
    (p.dead = true → p.move ≠ 0 → ∃ t, exec (.spillMoveAck d q) s = .next t ∧ same t ∧ t.copies = s.copies ∧
      t.queue k = { qs with spill := if p.fetches = [] then none else some { p with move := 0 } } ∧
      RegsBut (fun r _ => r ∈ .HBC_CNT :: reportRegs) s t) ∧
    (p.dead = false → (fill && !s.spillPaused d.val) = false → ∃ t, exec (.spillFetch d q) s = .next t ∧
      t.queue k = { qs with spill := some { p with fill := fill } } ∧ same t ∧
      OnlyRegs (fun _ _ => False) s { t with queues := s.queues }) ∧
    (p.dead = false → fill = true → s.spillPaused d.val = false → ∃ t, exec (.spillFetch d q) s = .next t ∧
      t.queue k = { qs with spill := some { p with fill := true, fetches := p.fetches ++
        [⟨min 64 (min (p.mid - p.flight) (max 1 ((s.sprof k).2.2.1 - p.head - p.flight))), false, 0, []⟩] } } ∧
      (t.buf d.val).claims = (s.buf d.val).claims ++ [(14, .fetch q.val)] ∧ same t ∧
      OnlyRegs (fun _ _ => False) s { t with queues := s.queues, bufs := s.bufs }) ∧
    (∀ f rest corr bad, p.fetches = f :: rest → f.granted = true → f.cells ≤ f.placed.length → p.dead = false →
      ∃ t, exec (.spillFetchDone d q corr bad) s = .next t ∧ (t.queue k).spill = some { p with
        head := p.head + f.cells, mid := p.mid - f.cells, fetches := rest, pages := p.pages.drop ((p.first + f.cells) / 1024),
        first := (p.first + f.cells) % 1024 } ∧ (t.queue k).used = qs.used ∧ same t ∧ whole t ∧
        RegsBut (fun r _ => r ∈ reportRegs ++ [.HBC_CNT, .HBC_ECC_LOG, .GGE_CNT, .GGE_OVF, .GGE_FRZ]) s t ∧
        ∀ id c, qs.chain = [id] → s.copy id = some c → p.head + f.cells ≤ c.cells.length → f.placed.length = f.cells →
          ∃ x, t.copy id = some x ∧ x.cells = c.cells.take p.head ++ f.placed ++ c.cells.drop (p.head + f.cells) ∧
            x.fetched = c.fetched + f.cells ∧ x.poison = (c.poison || bad.any (fun e => decide (e.1 < f.cells))) ∧
            ∀ j, j ≠ id → t.copy j = s.copy j) ∧
    (∀ f rest corr bad, p.fetches = f :: rest → f.granted = true → f.cells ≤ f.placed.length → p.dead = true →
      ∃ t, exec (.spillFetchDone d q corr bad) s = .next t ∧ same t ∧ t.copies = s.copies ∧
        (t.queue k).used = qs.used - f.cells ∧
        RegsBut (fun r _ => r ∈ reportRegs ++ [.HBC_CNT, .HBC_ECC_LOG]) s t) ∧
    (p.dead = true → exec (.spillFetch d q) s = .next { s with out := [] } ∧ exec (.splice d q) s = .next { s with out := [] }) ∧
    (p.dead = false → p.mid = 0 → p.move = 0 → p.fetches = [] → s.counts .SKN_CNT (d.val * 11 + 7) →
      ∃ t, exec (.splice d q) s = .next t ∧ t.queue k = { qs with spill := none } ∧ same t ∧
        t.reg .SKN_CNT (d.val * 11 + 7) = s.reg .SKN_CNT (d.val * 11 + 7) + 1 ∧
        OnlyReports (fun r i => r = .SKN_CNT ∧ i = d.val * 11 + 7) s { t with queues := s.queues })

/-- The egress scheduler selects the chosen queue's first copy; replication makes a copy per local port (R49, R100,
R108, R118, R260, R262, R263, R264, R266, R271). EGRESS_SELECT of a local port that is not eligible, or whose turn it
is not, changes nothing; where the hierarchy chooses no copy at most HEAD_WAIT counts. Where it chooses, the first
copy of the chosen queue leaves its chain, is selected with its length, tick tag and the egress entry set and budget
now in force, and is last in the list of its egress pipeline, or of its port where it takes no egress program; with a
strict-priority class eligible the choice lies in the highest such class. SCH_LEAF_WRITE and SCH_GRP_WRITE store,
except that a change of GROUP of a leaf that holds cells or a context, or of PORT or CLASS of a backlogged group, is
refused. REPLICATION of the only waiting packet makes one claimed copy, in order, for each local port that the group's
entry names, in multicast queue 8 or 9 by class; with an uncorrectable cell the packet is dropped. Other copies,
tables and ports stay. -/
def Obligations.EgressSelectionAndReplication : Prop :=
  (∀ (d : Fin 2) (lp : Fin 75) (s : State), s.portEligible d.val lp.val = false ∨
      (s.choose d.val lp.val).isSome = true ∧ s.isTurn d.val lp.val = false →
    exec (.egressSelect d lp) s = .next { s with out := [] }) ∧
  (∀ (d : Fin 2) (lp : Fin 75) (s : State), s.choose d.val lp.val = none → ∃ t, exec (.egressSelect d lp) s = .next t ∧
    OnlyReports (fun r i => r = .SKN_CNT ∧ i = d.val * 11 + 8) s t) ∧
  (∀ (d : Fin 2) (lp : Fin 75) (cls : Option Nat) (mem : Nat) (leaf : Option Nat) (b : BufSt) (id : Nat) (c : Copy) (s : State),
    localExists d.val lp.val = true → s.portEligible d.val lp.val = true → s.choose d.val lp.val = some (cls, mem, leaf, b) →
    s.isTurn d.val lp.val = true →
    let k := d.val * 65536 + (leaf.getD mem - 8192)
    s.firstCopy k = some (id, c) → s.counts .SCH_CNT (d.val * 10 + 2) →
    let n := if c.port < 128 then c.port / 8 else c.port - 144
    ∃ t, exec (.egressSelect d lp) s = .next t ∧ (t.queue k).chain = (s.queue k).chain.drop 1 ∧
      t.copy id = some { c with sel := true, len := c.bytes.length, tag := s.tag, egSet := s.activeSet n 1, egBudget := s.budget n 1 } ∧
      (∀ j, j ≠ id → t.copy j = s.copy j) ∧ (∀ j, j ≠ k → t.queue j = s.queue j) ∧
      (if (c.port < 128 ∧ s.isYarn c.port = false) ∨ 144 ≤ c.port then (t.pipe n).egress = (s.pipe n).egress ++ [id] ∧ t.txq = s.txq
        else SMap.get (fun _ => []) t.txq c.port = SMap.get (fun _ => []) s.txq c.port ++ [id] ∧
          ∀ m, (t.pipe m).egress = (s.pipe m).egress) ∧
      (∀ x, x < 8 → bitOf (s.eff F.SCH_PORT_SP (d.val * 75 + lp.val)) x = true → (s.classMember d.val lp.val x).ok = true →
        (∀ y, x < y → y < 8 → bitOf (s.eff F.SCH_PORT_SP (d.val * 75 + lp.val)) y = true → (s.classMember d.val lp.val y).ok = false) →
        cls = none ∧ ∃ m, m ∈ s.classRing d.val lp.val x ∧ m.node = mem ∧ m.ok = true) ∧
      t.reg .SCH_CNT (d.val * 10 + 2) = s.reg .SCH_CNT (d.val * 10 + 2) + 1 ∧ t.tabs = s.tabs ∧ t.ports = s.ports ∧
      RegsBut (fun r _ => r ∈ reportRegs ++ [.SCH_CNT, .SCH_PORT_TOK, .SCH_Q_TOK, .SCH_GRP_TOK, .GGE_CNT, .GGE_OVF, .GGE_FRZ]) s t) ∧
  (∀ (a : Agent) (d : Fin 2) (q : Fin 32768) (v : BitVec 64) (s : State), let i := d.val * 32768 + q.val
    s.takes a .SCH_LEAF i →
    let new := Reg.written .SCH_LEAF (s.reg .SCH_LEAF i) all64 v
    let x := s.queue (d.val * 65536 + q.val)
    let refused := getField new 0 12 ≠ s.fld F.SCH_LEAF_GROUP i ∧ (x.used + x.other ≠ 0 ∨ x.spill ≠ none)
    (refused → ∃ t, exec (.schLeafWrite a d q v) s = .next t ∧ t.fld F.SCH_LEAF_CFG_REFUSED i = 1 ∧
      t.fld F.SCH_LEAF_GROUP i = s.fld F.SCH_LEAF_GROUP i ∧ OnlyRegs (fun r j => r = .SCH_LEAF ∧ j = i) s t) ∧
    (¬ refused → ∃ t, exec (.schLeafWrite a d q v) s = .next t ∧ t.reg .SCH_LEAF i = new ∧
      OnlyRegs (fun r j => r = .SCH_LEAF ∧ j = i) s t)) ∧
  (∀ (a : Agent) (d : Fin 2) (g : Fin 4096) (v : BitVec 32) (s : State), let i := d.val * 4096 + g.val
    s.takes a .SCH_GRP i →
    let new := Reg.written .SCH_GRP (s.reg .SCH_GRP i) low32 (v.setWidth 64)
    let refused := (getField new 0 6 ≠ s.fld F.SCH_GRP_PORT i ∨ getField new 8 3 ≠ s.fld F.SCH_GRP_CLASS i) ∧ s.backlog i ≠ 0
    (refused → ∃ t, exec (.schGrpWrite a d g v) s = .next t ∧ t.fld F.SCH_GRP_STS_CFG_REFUSED i = 1 ∧
      OnlyRegs (fun r j => r = .SCH_GRP_STS ∧ j = i) s t) ∧
    (¬ refused → ∃ t, exec (.schGrpWrite a d g v) s = .next t ∧ t.reg .SCH_GRP i = new ∧
      OnlyRegs (fun r j => r = .SCH_GRP ∧ j = i) s t)) ∧
  ∀ (d : Fin 2) (r : Repl) (s : State), (s.buf d.val).repl = [r] → r.made = none →
    (∃ t, exec (.replication d true false) s = .next t ∧ (t.buf d.val).repl = [] ∧ t.copies = s.copies ∧
      OnlyReports (fun _ _ => False) s { t with bufs := s.bufs }) ∧
    (let e := s.readGroup s.tabs d.val r.grp
      let lps := (List.range (if d.val = 0 then 75 else 72)).filter (fun lp => e.getLsbD lp)
      e.getLsbD 96 = true → e.getLsbD 97 = false → r.base.yarn = none →
      ∃ t, exec (.replication d false false) s = .next t ∧ t.nextId = s.nextId + lps.length ∧
        (∀ i lp, lps[i]? = some lp → ∃ c, t.copy (s.nextId + i) = some c ∧ c.port = globalPort d.val lp ∧ c.bytes = r.base.bytes ∧
          c.tc = r.base.tc ∧ c.queue = 32768 + 16 * lp + (if s.eff F.SCH_MC_CFG_HI_TC d.val ≤ r.base.tc then 9 else 8) ∧
          (10, Claim.copy (s.nextId + i)) ∈ (t.buf d.val).claims) ∧
        (∀ k, k < s.nextId → t.copy k = s.copy k) ∧ t.tabs = s.tabs ∧ t.queues = s.queues ∧ t.ports = s.ports ∧
        RegsBut (fun r _ => r ∈ reportRegs ++ [.SCH_CNT, .GGE_CNT, .GGE_OVF, .GGE_FRZ]) s t)

/-- The fixed parser drops or passes on a Yarn frame as R280 to R282 and Table 11-3 say (R97, R107, R280, R281, R282).
YARN_PARSE takes the next frame of the fixed parser and counts it, a fault found after dispatch being left to action
merge. One of an unknown version or type, shorter than 80 bytes, or received while YRN_ID.EN is 0, is dropped and
counted DROP_FORM; a TYPE 0 or 1 frame of this device's own is counted as a loop. TYPE 2 goes on to action merge as it
is; TYPE 1 with MC_OFF added to its destination and one hop less; TYPE 0 for another device with one hop less, or is
dropped where no hop is left; TYPE 0 for this device as its own, unless its port is a Yarn link. What goes on carries
the frame without header and CFS and is last at action merge. Each case is counted once on the port's die. Copies,
tables and other pipelines stay. -/
def Obligations.YarnFramesParsed : Prop :=
  ∀ (n : Fin 16) (p : Pkt) (rest : List Pkt) (s : State), (s.pipe n.val).parser = p :: rest → s.counts .STE_CNT (n.val * 16 + 13) →
    let b := p.bytes
    let h := yarnHdr b
    let d := portDie p.src
    let me := s.fld F.YRN_ID_DEV 0
    let good := s.fld F.YRN_ID_EN 0 = 1 ∧ beAt b 0 1 / 64 = 1 ∧ h.type ≠ 3 ∧ 80 ≤ b.length
    let frame : State → Prop := fun t => exec (.yarnParse n) s = .next t ∧ (t.pipe n.val).parser = rest ∧
      t.reg .STE_CNT (n.val * 16 + 13) = s.reg .STE_CNT (n.val * 16 + 13) + 1 ∧ (∀ m, m ≠ n.val → t.pipe m = s.pipe m) ∧
      OnlyReports (fun r _ => r = .STE_CNT ∨ r = .YRN_CNT) s { t with pipes := s.pipes, staged := s.staged }
    let dropped : Nat → Prop := fun i => ∃ t, frame t ∧ (t.pipe n.val).merge = (s.pipe n.val).merge ∧ t.stagedOf p.id = none ∧
      (s.counts .YRN_CNT (d * 19 + i) → t.reg .YRN_CNT (d * 19 + i) = s.reg .YRN_CNT (d * 19 + i) + 1)
    let passed : Nat → YHdr → Bool → Prop := fun i x own => ∃ t md, frame t ∧ (t.pipe n.val).merge = (s.pipe n.val).merge ++
        [.yarn { p with bytes := (b.drop 16).take (b.length - 20) } md (beAt b 0 1 % 8) (beAt b 1 1 / 64) x (sliceZ b 12 4) own] ∧
      t.staged = s.staged ∧
      (s.counts .YRN_CNT (d * 19 + i) → t.reg .YRN_CNT (d * 19 + i) = s.reg .YRN_CNT (d * 19 + i) + 1)
    (¬ good → dropped 7) ∧
    (good → h.type ≤ 1 → h.src = me → dropped 11) ∧
    (good → h.type = 2 → passed 5 h true) ∧
    (good → h.type = 1 → h.src ≠ me →
      passed 4 { h with dst := (h.dst + s.fld F.YRN_MC_MC_OFF 0) % 65536, hops := h.hops - 1 } true) ∧
    (good → h.type = 0 → h.src ≠ me →
      (h.dst % 16384 ≠ me → h.hops ≤ 1 → dropped 10) ∧
      (h.dst % 16384 ≠ me → 1 < h.hops → passed 6 { h with hops := h.hops - 1, dst := h.dst % 16384 } false) ∧
      (h.dst % 16384 = me → s.isYarn h.port = true → dropped 7) ∧
      (h.dst % 16384 = me → s.isYarn h.port = false → passed 3 h true))

/-- The resequencer delivers, holds and releases frames by their sequence numbers (R279, R283, R284, R285, R286, R287,
R288). RESEQ_ARRIVE of the next TYPE 0 copy in an active context of its epoch: with SEQ equal to NEXT and nothing held
or waiting it is claimed at its crossbar input and NEXT rises; less than 4,096 ahead it is held where the engine has
room, NEXT staying; 32,768 or more ahead it is late, dropped and counted. In a context that is not active, and holds
nothing, its SEQ and EPOCH are taken first. RESEQ_TIMEOUT of a context whose one held packet has waited TIMEOUT edges
releases it through X10 and sets NEXT to its successor, while GLB_SPLIT_EFF.RESEQ is 0; while it is 1 it marks the
context TIMED_OUT once and records it. RESEQ_CMD with GO notes the context and its NEXT for the next edge.
YRN_ID_WRITE stores its fields, and restarts every sequence. Other contexts, copies and tables stay. -/
def Obligations.Resequencing : Prop :=
  (∀ (d : Fin 2) (id : Nat) (rest : List Nat) (c : Copy) (h : YHdr) (s : State), SMap.get (fun _ => []) s.rsq d.val = id :: rest →
    s.copy id = some c → c.yarn = some h → c.cut = false → h.seq < 65536 → h.epoch < 256 →
    let k := d.val * 131072 + h.src * 8 + c.tc
    let known := s.fld F.YRN_CTX_ACTIVE k = 1 ∧ s.fld F.YRN_CTX_EPOCH k = h.epoch
    let dist := (h.seq + 65536 - s.fld F.YRN_CTX_NEXT k) % 65536
    let frame : State → Prop := fun t => exec (.reseqArrive d) s = .next t ∧ SMap.get (fun _ => []) t.rsq d.val = rest ∧
      (∀ j, j ≠ id → t.copy j = s.copy j) ∧ (∀ j, j ≠ k → t.heldIn j = s.heldIn j) ∧ t.tabs = s.tabs ∧
      RegsBut (fun r i => r ∈ reportRegs ++ [.YRN_CNT, .BPM_CNT] ∨ r = .YRN_CTX ∧ i = k) s t
    let free := s.heldIn k = [] ∧ ∀ e, e ∈ (s.buf c.die).claims → ∀ x y, e.2 = .copy x → s.copy x = some y → y.ctx ≠ some k
    (free → dist = 0 ∨ ¬ known → ∃ t, frame t ∧ (t.buf c.die).claims = (s.buf c.die).claims ++ [(c.req, .copy id)] ∧
      t.heldIn k = [] ∧ t.fld F.YRN_CTX_NEXT k = (h.seq + 1) % 65536 ∧ t.fld F.YRN_CTX_ACTIVE k = 1 ∧ t.fld F.YRN_CTX_EPOCH k = h.epoch) ∧
    (known → 0 < dist → dist < 4096 → s.heldCells (k / 131072) + cellsOf c.bytes.length ≤ 16384 → (s.heldPkts (k / 131072)).length < 8192 →
      ∃ t, frame t ∧ t.heldIn k = s.heldIn k ++ [⟨h.seq, id, 0⟩] ∧ t.fld F.YRN_CTX_NEXT k = s.fld F.YRN_CTX_NEXT k ∧
        t.fld F.YRN_CTX_HELD k = 1 ∧ t.bufs = s.bufs) ∧
    (known → 32768 ≤ dist → ∃ t, frame t ∧ t.copy id = none ∧ t.heldIn k = s.heldIn k ∧
      (s.counts .YRN_CNT (k / 131072 * 19 + 13) →
        t.reg .YRN_CNT (k / 131072 * 19 + 13) = s.reg .YRN_CNT (k / 131072 * 19 + 13) + 1))) ∧
  (∀ (d : Fin 2) (x : Fin 131072) (s : State), s.heldIn (d.val * 131072 + x.val) = [] →
    exec (.reseqTimeout d x) s = .next { s with out := [] }) ∧
  (∀ (d : Fin 2) (x : Fin 131072) (e : Held) (c : Copy) (s : State), let k := d.val * 131072 + x.val
    s.heldIn k = [e] → e.seq < 65536 → s.copy e.copy = some c →
    let due := s.fld F.YRN_CTX_TIMED_OUT k = 1 ∨ max 1 (s.fld F.YRN_RESEQ_CFG_TIMEOUT 0) ≤ e.age
    (¬ due → exec (.reseqTimeout d x) s = .next { s with out := [] }) ∧
    (due → s.split 10 = false → ∃ t, exec (.reseqTimeout d x) s = .next t ∧ t.heldIn k = [] ∧
      t.fld F.YRN_CTX_NEXT k = (e.seq + 1) % 65536 ∧ t.fld F.YRN_CTX_TIMED_OUT k = 0 ∧
      (t.buf c.die).claims = (s.buf c.die).claims ++ [(10, .copy e.copy)] ∧ (∀ j, j ≠ k → t.heldIn j = s.heldIn j) ∧
      (∀ j, j ≠ e.copy → t.copy j = s.copy j) ∧ t.tabs = s.tabs ∧
      RegsBut (fun r i => r ∈ reportRegs ++ [.YRN_CNT] ∨ r = .YRN_CTX ∧ i = k) s t) ∧
    (due → s.split 10 = true → s.fld F.YRN_CTX_TIMED_OUT k = 0 → ∃ t, exec (.reseqTimeout d x) s = .next t ∧
      t.fld F.YRN_CTX_TIMED_OUT k = 1 ∧ t.fld F.YRN_CTX_NEXT k = s.fld F.YRN_CTX_NEXT k ∧
      OnlyReports (fun r i => r = .YRN_CNT ∨ r = .YRN_CTX ∧ i = k) s t)) ∧
  (∀ (a : Agent) (v : BitVec 32) (s : State), s.takes a .YRN_RESEQ_CMD 0 →
    ∃ t, exec (.reseqCmd a v) s = .next t ∧ t.reg .YRN_RESEQ_CMD 0 = Reg.written .YRN_RESEQ_CMD (s.reg .YRN_RESEQ_CMD 0) low32 (v.setWidth 64) ∧
      t.rsqGo = s.rsqGo ++ (if v.getLsbD 31 then
        [(t.fld F.YRN_RESEQ_CMD_DIE 0 * 131072 + t.fld F.YRN_RESEQ_CMD_CTX 0, s.fld F.YRN_CTX_NEXT
          (t.fld F.YRN_RESEQ_CMD_DIE 0 * 131072 + t.fld F.YRN_RESEQ_CMD_CTX 0))] else []) ∧
      OnlyRegs (fun r _ => r = .YRN_RESEQ_CMD) s { t with rsqGo := s.rsqGo }) ∧
  ∀ (a : Agent) (v : BitVec 32) (s : State), s.takes a .YRN_ID 0 →
    ∃ t, exec (.yrnIdWrite a v) s = .next t ∧ t.reg .YRN_ID 0 = Reg.written .YRN_ID (s.reg .YRN_ID 0) low32 (v.setWidth 64) ∧
      t.seqs = [] ∧ t.boot = { s.boot with epoch := t.fld F.YRN_ID_EPOCH 0 } ∧
      OnlyRegs (fun r _ => r = .YRN_ID) s { t with seqs := s.seqs, boot := s.boot }

/-- HBM speed changes are asked for, step through Table 12-3 and fail; refreshes wait; temperature sets the rate
(R297, R298, R299, R300, R302). SPEED_COMMAND notes its target for the edge. SPEED_POLICY_WINDOW, once WIN ticks have
passed in hardware mode, starts the window again and starts a change of every UP, idle stack of the die not commanded
at that edge: to the ceiling above UP_PCT, to the next slower point after DWELL windows below DOWN_PCT; otherwise
nothing starts. SPEED_STEP, at an edge after the step began, leaves QUIESCE once nothing is outstanding or postponed,
copies the target's timing and delay sets into set 3 in SR_ENTER's exit, goes through RELOCK, SR_EXIT and VERIFY, and
then CUR_SP is TARGET, BUSY clears, DONE is set and SPD_CHANGE counts; steps for HIBERNATE or a power-down end in
self-refresh or UP. SPEED_STEP_TIMEOUT at STEP_LIMIT edges of a first attempt sets SPD_FAIL, counts, and returns to
the former point from step 2; of a return it makes the stack FAILED, spilled queues without pages there keeping their
contexts. REFRESH postpones the refreshes in whose way an access waits, within POSTPONE and counted, and issues all
others. HBM_TEMP_READ after 256 ticks stores temperature and rate. Nothing else changes but reports. -/
def Obligations.HbmSpeedRefreshTemperature : Prop :=
  (∀ (a : Agent) (h : Fin 4) (v : BitVec 32) (s : State), s.takes a .HBC_SPD_CMD h.val →
    ∃ t, exec (.speedCommand a h v) s = .next t ∧ t.hbcAt h.val = { s.hbcAt h.val with cmd := some (v.toNat % 4) } ∧
      (∀ k, k ≠ h.val → t.hbcAt k = s.hbcAt k) ∧ t.fld F.HBC_SPD_CMD_TARGET h.val = v.toNat % 4 ∧
      OnlyRegs (fun r i => r = .HBC_SPD_CMD ∧ i = h.val) s { t with hbc := s.hbc }) ∧
  (∀ (d : Fin 2) (u : Nat) (s : State), let h := s.policyStack d.val
    let cur := s.policyPoint d.val
    let low := (s.hbcAt h).low + 1
    let elapsed := s.split 9 = false ∧ max 1 (s.fld F.HBC_SPD_CFG2_WIN h) ≤ (s.hbcAt h).win
    let goal : Option Nat := if s.fld F.HBC_SPD_CFG_UP_PCT h < u then (if s.ceiling h < cur then some (s.ceiling h) else none)
      else if u < s.fld F.HBC_SPD_CFG_DOWN_PCT h ∧ max 1 (s.fld F.HBC_SPD_CFG_DWELL h) ≤ low ∧ cur < min 2 (s.fld F.HBC_SPD_CFG_FLOOR h)
      then some (cur + 1) else none
    (¬ elapsed → exec (.speedPolicyWindow d u) s = .next { s with out := [] }) ∧
    (elapsed → ∃ t, exec (.speedPolicyWindow d u) s = .next t ∧ (t.hbcAt h).win = 0 ∧
      (t.hbcAt h).low = (if s.fld F.HBC_SPD_CFG_UP_PCT h < u ∨ s.fld F.HBC_SPD_CFG_DOWN_PCT h ≤ u then 0 else low) ∧
      (∀ k x, goal = some x → k ∈ s.dieStacks d.val → s.hbcReady k = true → (s.hbcAt k).asked = false → s.fld F.HBC_STS_CUR_SP k ≠ x →
        t.fld F.HBC_STS_BUSY k = 1 ∧ t.fld F.HBC_STS_TARGET k = x ∧ t.fld F.HBC_STS_STEP k = 1 ∧
        (t.hbcAt k).former = s.fld F.HBC_STS_CUR_SP k ∧ t.fld F.HBC_STS_CUR_SP k = s.fld F.HBC_STS_CUR_SP k) ∧
      OnlyRegs (fun r k => r = .HBC_STS ∧ goal ≠ none ∧ k ∈ s.dieStacks d.val) s { t with hbc := s.hbc })) ∧
  (∀ (h : Fin 4) (s : State), let st := s.fld F.HBC_STS_STEP h.val
    let tg := s.fld F.HBC_STS_TARGET h.val
    let c := s.hbcAt h.val
    (s.fld F.HBC_STS_BUSY h.val = 0 ∨ c.edges = 0 ∨ st = 0 ∨ 6 ≤ st ∨ (st = 1 ∧ (s.spillBusy (h.val / 2) = true ∨ c.postponed ≠ [])) →
      exec (.speedStep h) s = .next { s with out := [] }) ∧
    (s.fld F.HBC_STS_BUSY h.val = 1 → c.edges ≠ 0 → (st = 1 → s.spillBusy (h.val / 2) = false ∧ c.postponed = []) →
      (1 ≤ st → st ≤ 4 → (st = 2 → c.rest = false) → ∃ t, exec (.speedStep h) s = .next t ∧ t.fld F.HBC_STS_STEP h.val = st + 1 ∧
        t.hbcAt h.val = { c with edges := 0 } ∧ (∀ k, k ≠ h.val → t.hbcAt k = s.hbcAt k) ∧
        (st = 2 → (∀ w, w < 8 → t.reg .HBC_TIM ((h.val * 4 + 3) * 8 + w) = s.reg .HBC_TIM ((h.val * 4 + tg) * 8 + w)) ∧
          (∀ l, l < 160 → t.reg .HBC_DLY ((h.val * 4 + 3) * 160 + l) = s.reg .HBC_DLY ((h.val * 4 + tg) * 160 + l))) ∧
        t.fld F.HBC_STS_CUR_SP h.val = s.fld F.HBC_STS_CUR_SP h.val ∧ t.fld F.HBC_STS_TARGET h.val = tg ∧
        OnlyRegs (fun r i => r = .HBC_STS ∧ i = h.val ∨ st = 2 ∧ (r = .HBC_TIM ∧ i / 8 = h.val * 4 + 3 ∨
          r = .HBC_DLY ∧ i / 160 = h.val * 4 + 3)) s { t with hbc := s.hbc }) ∧
      (st = 2 ∨ st = 5 → c.rest = true → ∃ t, exec (.speedStep h) s = .next t ∧ t.fld F.HBC_STS_STATE h.val = (if st = 2 then 3 else 1) ∧
        t.fld F.HBC_STS_BUSY h.val = 0 ∧ t.fld F.HBC_STS_STEP h.val = 0 ∧ t.hbcAt h.val = { c with rest := false } ∧
        (∀ k, k ≠ h.val → t.hbcAt k = s.hbcAt k) ∧ OnlyRegs (fun r i => r = .HBC_STS ∧ i = h.val) s { t with hbc := s.hbc }) ∧
      (st = 5 → c.rest = false → s.counts .HBC_CNT (h.val * 9 + 5) → ∃ t, exec (.speedStep h) s = .next t ∧ t.fld F.HBC_STS_STEP h.val = 0 ∧
        t.fld F.HBC_STS_CUR_SP h.val = tg ∧ t.fld F.HBC_STS_BUSY h.val = 0 ∧ t.fld F.HBC_STS_DONE h.val = 1 ∧
        (t.hbcAt (s.policyStack (h.val / 2))).win = 0 ∧ (t.hbcAt (s.policyStack (h.val / 2))).low = 0 ∧
        t.reg .HBC_CNT (h.val * 9 + 5) = s.reg .HBC_CNT (h.val * 9 + 5) + 1 ∧
        OnlyReports (fun r i => r = .HBC_STS ∧ i = h.val ∨ r = .HBC_CNT ∧ i = h.val * 9 + 5) s { t with hbc := s.hbc }))) ∧
  (∀ (h : Fin 4) (s : State), let c := s.hbcAt h.val
    (s.fld F.HBC_STS_BUSY h.val = 0 ∨ c.rest = true ∨ c.edges < max 1 (s.fld F.HBC_SPD_CFG2_STEP_LIMIT h.val) →
      exec (.speedStepTimeout h) s = .next { s with out := [] }) ∧
    (s.fld F.HBC_STS_BUSY h.val = 1 → max 1 (s.fld F.HBC_SPD_CFG2_STEP_LIMIT h.val) ≤ c.edges → c.rest = false → c.former < 4 →
      s.counts .HBC_CNT (h.val * 9 + 6) →
      (c.ret = false → ∃ t, exec (.speedStepTimeout h) s = .next t ∧ t.fld F.HBC_STS_SPD_FAIL h.val = 1 ∧
        t.fld F.HBC_STS_TARGET h.val = c.former ∧ t.fld F.HBC_STS_STEP h.val = 2 ∧ t.fld F.HBC_STS_BUSY h.val = 1 ∧
        t.hbcAt h.val = { c with ret := true, edges := 0, postponed := if s.fld F.HBC_STS_STEP h.val = 1 then [] else c.postponed } ∧
        t.reg .HBC_CNT (h.val * 9 + 6) = s.reg .HBC_CNT (h.val * 9 + 6) + 1 ∧
        OnlyReports (fun r i => r = .HBC_STS ∧ i = h.val ∨ r = .HBC_CNT ∧ i = h.val * 9 + 6) s { t with hbc := s.hbc }) ∧
      (c.ret = true → ∃ t, exec (.speedStepTimeout h) s = .next t ∧ t.fld F.HBC_STS_STATE h.val = 2 ∧
        t.fld F.HBC_STS_BUSY h.val = 0 ∧ t.fld F.HBC_STS_STEP h.val = 0 ∧ t.tabs = s.tabs ∧ t.pipes = s.pipes ∧ t.hbc = s.hbc ∧
        (SMap.wf (fun _ => QSt.empty) s.queues = true → ∀ k p, (s.queue k).spill = some p → (∀ x, x ∈ p.pages → x / 98304 ≠ h.val) →
          (t.queue k).spill = some p)))) ∧
  (∀ (h : Fin 4) (waiting : List (Fin 32 × Fin 256)) (s : State), let c := s.hbcAt h.val
    let st := s.fld F.HBC_STS_STEP h.val
    let up := s.hbcOn h.val = true ∧ s.fld F.HBC_STS_STATE h.val = 1 ∧ ¬ (2 ≤ st ∧ st ≤ 4)
    let was : Nat → Nat := SMap.get (fun _ => 0) c.postponed
    let held := s.refreshHeld h.val waiting
    let late := held.filter (fun k => was k < min 8 (s.fld F.HBC_REF_CFG_POSTPONE h.val))
    (¬ up → exec (.refresh h waiting) s = .next { s with out := [] }) ∧
    (up → s.counts .HBC_CNT (h.val * 9 + 8) → ∃ t m, exec (.refresh h waiting) s = .next t ∧
      t.hbcAt h.val = { c with postponed := m } ∧ (∀ k, SMap.get (fun _ => 0) m k =
        if k ∈ late then was k + 1 else if k ∈ held then was k else 0) ∧ (∀ k, k ≠ h.val → t.hbcAt k = s.hbcAt k) ∧
      t.reg .HBC_CNT (h.val * 9 + 8) = s.reg .HBC_CNT (h.val * 9 + 8) + BitVec.ofNat 64 late.length ∧
      OnlyRegs (fun r i => r = .HBC_CNT ∧ i = h.val * 9 + 8) s { t with hbc := s.hbc })) ∧
  ∀ (h : Fin 4) (x : BitVec 8) (s : State), let c := s.hbcAt h.val
    (s.hbcOn h.val = false ∨ c.ticks < 256 → exec (.hbmTempRead h x) s = .next { s with out := [] }) ∧
    (s.hbcOn h.val = true → 256 ≤ c.ticks → ∃ t, exec (.hbmTempRead h x) s = .next t ∧
      t.fld F.HBC_TEMP_TEMP h.val = x.toNat ∧ t.hbcAt h.val = { c with ticks := 0 } ∧ (∀ k, k ≠ h.val → t.hbcAt k = s.hbcAt k) ∧
      (let lo := (s.fld F.HBC_REF_CFG_T85 h.val : Int)
       let hi := (s.fld F.HBC_REF_CFG_T95 h.val : Int)
       (x.toInt < lo → t.fld F.HBC_TEMP_RATE h.val = 0) ∧
       (lo ≤ x.toInt → x.toInt < hi → t.fld F.HBC_TEMP_RATE h.val = 1) ∧
       (lo ≤ x.toInt → hi ≤ x.toInt → t.fld F.HBC_TEMP_RATE h.val = 2)) ∧
      OnlyReports (fun r i => r = .HBC_TEMP ∧ i = h.val) s { t with hbc := s.hbc })

/-- The PCIe link comes up, goes down, sleeps and narrows; vectors send their messages (R315, R316, R317, R318, R322,
R326, R328). PCIE_LINK_UP of a link not in DL_Active records its speed, width, Flit mode and DL_UP. LINK_DOWN of any
cause and PERST_N_ASSERT reset host-facing state only: rings are off, reads and MSI-X entries gone, configuration
words cleared except sticky ones, PCX and DMA registers at reset values, and a link that was up, seen before, is host
loss of cause 1; nothing but host-facing state, cut-off Chart programs and reports changes. L1_ENTRY, where R315's
conditions hold, sets PM to the state of R316 and counts; L1_EXIT clears PM. L0P_WINDOW, once L0P_WIN ticks have
passed, halves the width under L0P_LO and doubles it over L0P_HI within its limits, counts, and begins a window;
L0P_PARTNER_REQUEST takes the partner's width. MSIX_SEND of a vector for which R328's conditions hold sends its
message, clears PEND, loads CNT with HOLD and counts, and the link is out of L1; else nothing changes. Field places in
capabilities are PRESUMED (log entry 4). -/
def Obligations.PcieLinkAndMessages : Prop :=
  (∀ (v : Fin 6) (w : Fin 5) (fl : Bool) (s : State),
    (s.fld F.PCX_LINK_STS_DL_UP 0 = 1 → exec (.pcieLinkUp v w fl) s = .next { s with out := [] }) ∧
    (s.fld F.PCX_LINK_STS_DL_UP 0 = 0 → ∃ t, exec (.pcieLinkUp v w fl) s = .next t ∧ t.fld F.PCX_LINK_STS_SPEED 0 = v.val + 1 ∧
      t.fld F.PCX_LINK_STS_WIDTH 0 = 2 ^ w.val ∧ t.fld F.PCX_LINK_STS_L0P_WIDTH 0 = 2 ^ w.val ∧ t.fld F.PCX_LINK_STS_DL_UP 0 = 1 ∧
      t.fld F.PCX_LINK_STS_FLIT 0 = (if fl = true ∨ v.val = 5 then 1 else 0) ∧ t.fld F.PCX_LINK_STS_PM 0 = 0 ∧ t.tick.linkSeen = true ∧
      OnlyReports (fun r _ => r = .PCX_LINK_STS) s { t with tick := s.tick, pcie := s.pcie })) ∧
  (∀ (k : LinkDownCause) (s : State), ∃ t, exec (.linkDown k) s = .next t ∧ exec .perstNAssert s = .next t ∧
    (∀ r i, r ∈ hostFacing → r ∉ [.DMA_SQ_STS, .DMA_CQ_STS, .PCX_IMOD] → t.reg r i = Reg.resetAt (r.key i)) ∧
    (∀ cq g, g < 4096 → t.ringEnabled cq g = false) ∧ t.pcie.reads = [] ∧ t.pcie.ops = [] ∧ t.pcie.msix = [] ∧
    (∀ f dw, dw < 1024 → cfgSticky dw = false → t.cfgWord f dw = 0) ∧
    (∀ g, g < 4096 → s.fld F.DMA_SQ_STS_ENABLED g = 1 → t.fld F.DMA_SQ_STS_ERR g = 8) ∧
    (s.fld F.PCX_LINK_STS_DL_UP 0 = 1 → s.tick.linkSeen = true → t.fld F.GLB_HOSTLOSS_LOST 0 = 1 ∧
      (s.fld F.GLB_HOSTLOSS_LOST 0 = 0 → t.fld F.GLB_HOSTLOSS_CAUSE 0 = 1)) ∧
    (s.fld F.PCX_LINK_STS_DL_UP 0 = 0 ∨ s.tick.linkSeen = false → t.reg .GLB_HOSTLOSS 0 = s.reg .GLB_HOSTLOSS 0) ∧
    OnlyHostSide (fun r _ => r = .GLB_HOSTLOSS ∨ r ∈ hostFacing) s t) ∧
  (∀ (s : State),
    let may := s.fld F.PCX_LINK_STS_DL_UP 0 = 1 ∧ s.fld F.PCX_LINK_STS_PM 0 = 0 ∧ (s.aspmL1 = true ∨ s.pciPm = true) ∧ s.linkIdle = true
    (may → s.counts .PCX_CNT 7 → ∃ t, exec .l1Entry s = .next t ∧ t.fld F.PCX_LINK_STS_PM 0 = s.l1State ∧
      t.reg .PCX_CNT 7 = s.reg .PCX_CNT 7 + 1 ∧ OnlyRegs (fun r i => r = .PCX_LINK_STS ∨ r = .PCX_CNT ∧ i = 7) s t) ∧
    (¬ may → exec .l1Entry s = .next { s with out := [] })) ∧
  (∀ s : State, ∃ t, exec .l1Exit s = .next t ∧ t.fld F.PCX_LINK_STS_PM 0 = 0 ∧ OnlyRegs (fun r _ => r = .PCX_LINK_STS) s t) ∧
  (∀ (u : Fin 101) (s : State), s.counts .PCX_CNT 8 →
    let w := s.fld F.PCX_LINK_STS_L0P_WIDTH 0
    let on := s.l0pOver = true
    let s0 : State := { s with pcie := { s.pcie with l0pTicks := 0 } }
    let less := u.val < s.fld F.PCX_LPM_L0P_LO 0 ∧ 4 * 2 ^ min 2 (s.fld F.PCX_LPM_L0P_MIN 0) < w
    let more := s.fld F.PCX_LPM_L0P_HI 0 < u.val ∧ w < 16
    let changed : Nat → Prop := fun x => ∃ t, exec (.l0pWindow u) s = .next t ∧ t.fld F.PCX_LINK_STS_L0P_WIDTH 0 = x ∧
      t.reg .PCX_CNT 8 = s.reg .PCX_CNT 8 + 1 ∧ OnlyRegs (fun r i => r = .PCX_LINK_STS ∨ r = .PCX_CNT ∧ i = 8) s0 t
    (on → less → changed (w / 2)) ∧ (on → ¬ less → more → changed (2 * w)) ∧
    (on → ¬ less → ¬ more → exec (.l0pWindow u) s = .next { s0 with out := [] }) ∧
    (¬ on → exec (.l0pWindow u) s = .next { s with out := [] })) ∧
  (∀ (k : Fin 3) (s : State), s.counts .PCX_CNT 8 →
    let w := 4 * 2 ^ k.val
    let take := s.fld F.PCX_LINK_STS_DL_UP 0 = 1 ∧ s.fld F.PCX_LINK_STS_FLIT 0 = 1 ∧ s.fld F.PCX_LINK_STS_L0P_WIDTH 0 ≠ w
    (take → ∃ t, exec (.l0pPartnerRequest k) s = .next t ∧ t.fld F.PCX_LINK_STS_L0P_WIDTH 0 = w ∧
      t.reg .PCX_CNT 8 = s.reg .PCX_CNT 8 + 1 ∧ OnlyRegs (fun r i => r = .PCX_LINK_STS ∨ r = .PCX_CNT ∧ i = 8) s t) ∧
    (¬ take → exec (.l0pPartnerRequest k) s = .next { s with out := [] })) ∧
  ∀ (k : Fin 4096) (s : State), s.counts .PCX_CNT 6 →
    let f := (vectorOwner k.val).1
    let may := s.fld F.PCX_IMOD_PEND k.val = 1 ∧ s.fld F.PCX_IMOD_CNT k.val = 0 ∧ (s.msixEnt k.val).mask = false ∧
      s.msixMasked f = false ∧ s.msixEnabled f = true ∧ s.fnMayIssue f = true
    (may → ∃ t, exec (.msixSend k) s = .next t ∧ t.out = [.msix k.val (s.msixEnt k.val).addr (s.msixEnt k.val).data] ∧
      t.fld F.PCX_IMOD_PEND k.val = 0 ∧ t.fld F.PCX_IMOD_CNT k.val = s.fld F.PCX_IMOD_HOLD k.val ∧
      t.fld F.PCX_IMOD_HOLD k.val = s.fld F.PCX_IMOD_HOLD k.val ∧ t.reg .PCX_CNT 6 = s.reg .PCX_CNT 6 + 1 ∧
      t.fld F.PCX_LINK_STS_PM 0 = 0 ∧ OnlyRegs (fun r i => r = .PCX_IMOD ∧ i = k.val ∨ r = .PCX_CNT ∧ i = 6 ∨ r = .PCX_LINK_STS) s t) ∧
    (¬ may → exec (.msixSend k) s = .next { s with out := [] })

/-- Functions are configured, reset and stopped as Table 13-8 says, and reads of host memory end (R307, R319, R320,
R321, R322, R324, R325, R359). CONFIG_REQUEST: an answering function's read returns its dword, a write stores the
writable bits under the byte enables, and one that does not answer gives Unsupported Request. FLR_START marks the
function, disables its rings and discards its reads; PF1's takes every VF and is host loss; FLR_COMPLETE resets
configuration and MSI-X of what it covers, clears the mark and counts. BUS_MASTER_CLEAR and D3hot entry stop rings and
reads; leaving D3hot resets the function. VF_ENABLE_WRITE sets VF Enable, or clears it, which starts an FLR of every
VF that answers unless PF1's own takes it. With one read outstanding under a tag, all that its operation needs:
READ_COMPLETION collects parts, ends it, discards late and unwanted data and fails it on an error; arrived entries of
a CHART ring have their operands read ahead, and what is read is kept for them (R359); COMPLETION_TIMEOUT fails it and
holds its tag, TAG_HOLD_EXPIRE frees it; AER bits and counts follow. Nothing else changes but host-facing state and
reports. Places of bits in capabilities are PRESUMED (log entry 4). -/
def Obligations.PcieFunctionsAndReads : Prop :=
  (∀ (f : Fin 64) (dw : Fin 1024) (be : BitVec 4) (v : BitVec 32) (s : State),
    let stored : State → BitVec 32 := fun t => t.cfgWord f.val dw.val ^^^ s.cfgFixed f.val dw.val
    let w := cfgWritable (fnKind f.val) dw.val &&& byteMask be
    (s.domOn 56 = false → ∀ wr, exec (.configRequest f dw wr be v) s = .next { s with out := [] }) ∧
    (s.domOn 56 = true → s.cfgAnswers f.val = false → ∀ wr, (s.curMode ≠ 1 → exec (.configRequest f dw wr be v) s = .next { s with out := [.unsupported f.val] }) ∧
      (s.curMode = 1 → s.counts .PCX_CNT 3 → ∃ t, exec (.configRequest f dw wr be v) s = .next t ∧ t.out = [.unsupported f.val] ∧
        t.reg .PCX_CNT 3 = s.reg .PCX_CNT 3 + 1 ∧ OnlyRegs (fun r i => r = .PCX_CNT ∧ i = 3) s t)) ∧
    (s.cfgAnswers f.val = true → exec (.configRequest f dw false be v) s =
      .next { s with out := [.cfgData f.val ((stored s) ||| s.cfgLive f.val dw.val)] }) ∧
    (s.cfgAnswers f.val = true → f.val ≠ 0 ∨ cageAt dw.val = none → dw.val ∉ [0x01, 0x11, 0x1A, 0x22, 0x41, 0x44, 0x66, 0xC2, 0xC4] →
      ∃ t, exec (.configRequest f dw true be v) s = .next t ∧ stored t = (stored s &&& ~~~ w) ||| (v &&& w) ∧
        (∀ g x, x < 1024 → g ≠ f.val ∨ x ≠ dw.val → t.cfgWord g x = s.cfgWord g x) ∧
        OnlyRegs (fun _ _ => False) s { t with pcie := { t.pcie with cfg := s.pcie.cfg } })) ∧
  (∀ (f : Fin 64) (s : State),
    let may := s.fnExists f.val = true ∧ s.inFlr f.val = false
    (¬ may → exec (.flrStart f) s = .next { s with out := [] }) ∧
    (may → ∃ t, exec (.flrStart f) s = .next t ∧ t.flrBusy f.val = true ∧
      (∀ g, g < 64 → g ≠ f.val → t.flrBusy g = (if f.val = 1 ∧ 2 ≤ g then false else s.flrBusy g)) ∧
      (∀ g, g ∈ fnGroup f.val → RingsOff s t g ∧ ReadsDiscarded s t g) ∧ t.pcie.cfg = s.pcie.cfg ∧
      (f.val = 1 → t.fld F.GLB_HOSTLOSS_LOST 0 = 1 ∧ (s.fld F.GLB_HOSTLOSS_LOST 0 = 0 → t.fld F.GLB_HOSTLOSS_CAUSE 0 = 2)) ∧
      OnlyHostSide (fun r _ => r = .PCX_FLR_BUSY ∨ f.val = 1 ∧ r = .GLB_HOSTLOSS) s t)) ∧
  (∀ (f : Fin 64) (limit : Bool) (s : State), s.counts .PCX_CNT 9 →
    let may := s.flrBusy f.val = true ∧ (limit = true ∨ ∀ r, r ∈ s.pcie.reads → r.fn ∈ fnGroup f.val → r.ended = true)
    (¬ may → exec (.flrComplete f limit) s = .next { s with out := [] }) ∧
    (may → ∃ t, exec (.flrComplete f limit) s = .next t ∧ t.flrBusy f.val = false ∧ (∀ g, g < 64 → g ≠ f.val → t.flrBusy g = s.flrBusy g) ∧
      (∀ g dw, g ∈ fnGroup f.val → dw < 1024 → cfgSticky dw = false → t.cfgWord g dw = 0) ∧
      (∀ g dw, g ∉ fnGroup f.val → dw < 1024 → t.cfgWord g dw = s.cfgWord g dw) ∧
      (∀ k, k < 4096 → (vectorOwner k).1 ∈ fnGroup f.val → t.msixEnt k = MsixEnt.reset ∧ t.reg .PCX_IMOD k = 0) ∧
      (∀ r, r ∈ t.pcie.reads → r.fn ∈ fnGroup f.val → r.ended = true) ∧ t.reg .PCX_CNT 9 = s.reg .PCX_CNT 9 + 1 ∧
      OnlyHostSide (fun r _ => r = .PCX_FLR_BUSY) s t)) ∧
  (∀ (f : Fin 64) (s : State),
    (s.busMaster f.val = false → exec (.busMasterClear f) s = .next { s with out := [] }) ∧
    (s.busMaster f.val = true → ∃ t, exec (.busMasterClear f) s = .next t ∧ t.busMaster f.val = false ∧ RingsOff s t f.val ∧
      ReadsDiscarded s t f.val ∧ (f.val = 1 → t.fld F.GLB_HOSTLOSS_LOST 0 = 1) ∧
      (∀ g dw, dw < 1024 → g ≠ f.val ∨ dw ≠ 1 → t.cfgWord g dw = s.cfgWord g dw) ∧
      OnlyHostSide (fun r _ => f.val = 1 ∧ r = .GLB_HOSTLOSS) s t)) ∧
  (∀ (f : Fin 64) (enter : Bool) (s : State),
    (2 ≤ f.val ∨ s.inD3 f.val = enter → exec (.d3hotTransition f enter) s = .next { s with out := [] }) ∧
    (f.val < 2 → enter = true → s.inD3 f.val = false → ∃ t, exec (.d3hotTransition f true) s = .next t ∧ t.inD3 f.val = true ∧
      RingsOff s t f.val ∧ (s.busMaster f.val = true → ReadsDiscarded s t f.val ∧ (f.val = 1 → t.fld F.GLB_HOSTLOSS_LOST 0 = 1)) ∧
      OnlyHostSide (fun r _ => f.val = 1 ∧ r = .GLB_HOSTLOSS) s t) ∧
    (f.val < 2 → enter = false → s.inD3 f.val = true → ∃ t, exec (.d3hotTransition f false) s = .next t ∧ t.inD3 f.val = false ∧
      (∀ g dw, g ∈ fnGroup f.val → dw < 1024 → cfgSticky dw = false → t.cfgWord g dw = 0) ∧ OnlyHostSide (fun _ _ => False) s t)) ∧
  (∀ s : State, ∃ t, exec (.vfEnableWrite true) s = .next t ∧ t.vfEnable = true ∧
    OnlyRegs (fun _ _ => False) s { t with pcie := s.pcie }) ∧
  (∀ s : State, (s.vfEnable = false → exec (.vfEnableWrite false) s = .next { s with out := [] }) ∧
    (s.vfEnable = true → ∃ t, exec (.vfEnableWrite false) s = .next t ∧ t.vfEnable = false ∧
      (∀ g, 2 ≤ g → g < 64 → s.flrBusy 1 = false → t.flrBusy g = s.fnExists g ∧ RingsOff s t g ∧ ReadsDiscarded s t g) ∧
      (s.flrBusy 1 = true → t.reg .PCX_FLR_BUSY 0 = s.reg .PCX_FLR_BUSY 0) ∧
      (∀ g dw, dw < 1024 → g ≠ 1 ∨ dw ≠ 0xC2 → t.cfgWord g dw = s.cfgWord g dw) ∧
      OnlyHostSide (fun r _ => r = .PCX_FLR_BUSY) s t)) ∧
  (∀ (tag : Fin 16384) (s : State), s.readOf tag.val = none → exec (.completionTimeout tag) s = .next { s with out := [] } ∧
    exec (.tagHoldExpire tag) s = .next { s with out := [] } ∧
    ∀ st last data, exec (.readCompletion tag st last data) s = .next { s with out := [] }) ∧
  ∀ (tag : Fin 16384) (r : ReadRec) (what : ReadFor) (s : State), s.pcie.reads = [r] → r.tag = tag.val → r.part = 0 →
    s.pcie.ops = (if r.ended = true ∨ r.discard = true then [] else [⟨r.op, r.fn, what, [], [none]⟩]) →
    let logs : State → Nat → Nat → Nat → Prop := fun t dw bit i => (t.cfgWord r.fn dw).getLsbD bit = true ∧
      (s.counts .PCX_CNT i → t.reg .PCX_CNT i = s.reg .PCX_CNT i + 1)
    let fails : Nat → State → Prop := fun g t =>
      (s.fld F.DMA_SQ_STS_ENABLED g = 1 → t.fld F.DMA_SQ_STS_ERR g = 7 ∧ (t.fld F.DMA_SQ_STS_ENABLED g = 0 ∨ (t.sq g).stopping = true)) ∧
      ((s.sq g).begun = [] → s.chart.ctxs = [] → s.fld F.DMA_CQ_STS_ENABLED (s.boundCq g) = 0 → t.fld F.DMA_SQ_STS_ENABLED g = 0)
    (∀ st last data, r.ended = true → ∃ t, exec (.readCompletion tag st last data) s = .next t ∧
      t.pcie.reads = (if last = true ∨ st ≠ .ok then [] else [r]) ∧ logs t 0x41 16 1 ∧
      OnlyReports (fun _ _ => False) s { t with pcie := s.pcie }) ∧
    (∀ last data, r.ended = false → r.discard = true → ∃ t, exec (.readCompletion tag .ok last data) s = .next t ∧
      t.pcie = { s.pcie with reads := if last = true then [] else [r] } ∧ OnlyRegs (fun _ _ => False) s { t with pcie := s.pcie }) ∧
    (∀ st last data, r.ended = false → r.discard = true → st ≠ .ok → ∃ t, exec (.readCompletion tag st last data) s = .next t ∧
      t.pcie.reads = [] ∧ logs t 0x41 (cplAerBit st) 2 ∧ OnlyReports (fun _ _ => False) s { t with pcie := s.pcie }) ∧
    (∀ data, r.ended = false → r.discard = false → ∃ t, exec (.readCompletion tag .ok false data) s = .next t ∧
      t.pcie = { s.pcie with reads := [{ r with got := r.got ++ data }] } ∧ OnlyRegs (fun _ _ => False) s { t with pcie := s.pcie }) ∧
    (∀ data g idx n, r.ended = false → r.discard = false → what = .descriptors g idx n → s.fld F.DMA_SQ_STS_ENABLED g = 1 →
      (s.sq g).stopping = false → s.chart.ctxs = [] → let new := splitEntries (s.sqEntrySize g) n idx (r.got ++ data)
      let ahead := (new.filter (fun e => s.fld F.DMA_SQ_CFG_KIND g == 2 && s.fnMayIssue (s.ownerOf false g) && operandLen e.2 != 0 &&
        s.chartCheck (Ctx.start g) e.2 == 0)).zipIdx
      ∃ t, exec (.readCompletion tag .ok true data) s = .next t ∧
      t.sq g = { s.sq g with entries := (s.sq g).entries ++ new, reading := (s.sq g).reading - n } ∧
      t.dma.ahead = s.dma.ahead ++ ahead.map (fun e => ⟨s.pcie.nextOp + e.2, g, e.1.1, false, none⟩) ∧
      t.pcie.nextOp = s.pcie.nextOp + ahead.length ∧ t.pcie.ops.map (fun o => (o.id, o.fn, o.what)) =
        ahead.map (fun e => (s.pcie.nextOp + e.2, s.ownerOf false g, ReadFor.ahead (s.pcie.nextOp + e.2))) ∧
      (ahead = [] → t.pcie = { s.pcie with reads := [], ops := [] } ∧ t.out = []) ∧ (∀ q, q ≠ g → t.sq q = s.sq q) ∧
      OnlyRegs (fun r _ => ahead ≠ [] ∧ r = .PCX_LINK_STS) s { t with pcie := s.pcie, dma := s.dma }) ∧
    (∀ data a, r.ended = false → r.discard = false → what = .ahead a → s.chart.ctxs = [] → (∃ b, b ∈ s.dma.ahead ∧ b.id = a) →
      ∃ t, exec (.readCompletion tag .ok true data) s = .next t ∧ t.pcie = { s.pcie with reads := [], ops := [] } ∧
      t.dma = { s.dma with ahead := s.dma.ahead.map (fun b => if b.id = a then { b with got := some (some (r.got ++ data)) } else b) } ∧
      OnlyRegs (fun _ _ => False) s { t with pcie := s.pcie, dma := s.dma }) ∧
    (∀ st last data g idx n, r.ended = false → r.discard = false → what = .descriptors g idx n → st ≠ .ok → ∃ t,
      exec (.readCompletion tag st last data) s = .next t ∧ t.pcie.reads = [] ∧ t.pcie.ops = [] ∧ logs t 0x41 (cplAerBit st) 2 ∧
      fails g t ∧ OnlyHostSide (fun _ _ => False) s t) ∧
    (r.ended = true ∨ s.ctoDisabled r.fn = true → exec (.completionTimeout tag) s = .next { s with out := [] }) ∧
    (r.ended = false → s.ctoDisabled r.fn = false → ∀ g idx n, what = .descriptors g idx n → ∃ t, exec (.completionTimeout tag) s = .next t ∧
      t.pcie.reads = [{ r with ended := true, discard := true }] ∧ t.pcie.ops = [] ∧ logs t 0x41 14 0 ∧ (r.discard = false → fails g t) ∧
      (r.discard = true → t.reg .DMA_SQ_STS g = s.reg .DMA_SQ_STS g) ∧ OnlyHostSide (fun _ _ => False) s t) ∧
    (r.ended = true → ∃ t, exec (.tagHoldExpire tag) s = .next t ∧ t.pcie = { s.pcie with reads := [] } ∧
      OnlyRegs (fun _ _ => False) s { t with pcie := s.pcie }) ∧
    (r.ended = false → exec (.tagHoldExpire tag) s = .next { s with out := [] })

/-- Rings are assigned, enabled, changed and disabled, and a refused write changes only its status (R331, R339, R340,
R342, R353, R354, R355). FUNC_RINGS_WRITE is discarded with CFG_REFUSED where a range would overlap another
function's, pass 4,096 or hold an enabled ring, else stored. RING_ENABLE of a disabled ring with a cause of Table
14-11 sets CFG_REFUSED and ERR; without one the configuration is stored, ERR is 0, ENABLED is set and the indices take
START with staging empty. While the ring is enabled, a change outside EN, WEIGHT, BURST, INT_EN and VEC is refused
with BUSY, others are stored, the arbiter's count C staying. RING_DISABLE of a submission ring discards its fetched
entries and stops fetching; RING_DISABLE_DONE, once nothing is begun, writes, after a failed read, its TYPE 4
completion, and the index entry, and clears ENABLED. RING_DISABLE of a completion ring is refused with BOUND while a
submission ring is bound to it, else it empties the staging, writes the index entry and clears ENABLED. Nothing else
changes but Chart programs cut off, latency messages and reports. -/
def Obligations.RingsConfigured : Prop :=
  (∀ (a : Agent) (f : Fin 64) (v : BitVec 64) (s : State), s.takes a .PCX_FUNC_RINGS f.val →
    let new := Reg.written .PCX_FUNC_RINGS (s.reg .PCX_FUNC_RINGS f.val) all64 v
    let bad := s.ringsOverlap f.val new = true ∨ 4096 < getField new 0 12 + getField new 16 13 ∨
      4096 < getField new 32 12 + getField new 48 13 ∨ s.ringsLive (s.reg .PCX_FUNC_RINGS f.val) = true ∨ s.ringsLive new = true
    (bad → ∃ t, exec (.funcRingsWrite a f v) s = .next t ∧ t.fld F.PCX_STS_CFG_REFUSED 0 = 1 ∧ OnlyRegs (fun r _ => r = .PCX_STS) s t) ∧
    (¬ bad → ∃ t, exec (.funcRingsWrite a f v) s = .next t ∧ t.reg .PCX_FUNC_RINGS f.val = new ∧
      OnlyRegs (fun r i => r = .PCX_FUNC_RINGS ∧ i = f.val) s t)) ∧
  (∀ (a : Agent) (cq : Bool) (g : Fin 4096) (v : BitVec 64) (s : State), s.takes a (ringCfg cq) g.val →
    let sts : Reg := if cq then .DMA_CQ_STS else .DMA_SQ_STS
    let c := ringCfg cq
    let old := s.reg c g.val
    let refused : State → Nat → Prop := fun t e =>
      (if cq then t.fld F.DMA_CQ_STS_CFG_REFUSED g.val = 1 ∧ t.fld F.DMA_CQ_STS_ERR g.val = e
        else t.fld F.DMA_SQ_STS_CFG_REFUSED g.val = 1 ∧ t.fld F.DMA_SQ_STS_ERR g.val = e) ∧
      t.ringEnabled cq g.val = s.ringEnabled cq g.val ∧ OnlyRegs (fun r i => r = sts ∧ i = g.val) s t
    let stored : State → BitVec 64 → Prop := fun t x => t.reg c g.val = x ∧ { t.sq g.val with used := (s.sq g.val).used } = s.sq g.val ∧
      (t.weight g.val : Int) - (t.sq g.val).used = (s.weight g.val : Int) - (s.sq g.val).used ∧ (∀ k, k ≠ g.val → t.sq k = s.sq k) ∧
      OnlyRegs (fun r i => r = c ∧ i = g.val) s { t with dma := { t.dma with sq := s.dma.sq } }
    let on := Reg.written c old all64 (v ||| 1)
    let off := Reg.written c old all64 (v &&& ~~~ 1)
    let stopping := if cq then (s.cq g.val).stopping else (s.sq g.val).stopping
    let fixed : BitVec 64 → Prop := fun x => (old ^^^ x) &&& ~~~ liveMask cq = 0
    let e := if cq then s.cqEnableErr g.val on else s.sqEnableErr g.val on
    (s.ringEnabled cq g.val = true → fixed on → stopping = false → ∃ t, exec (.ringEnable a cq g v) s = .next t ∧ stored t on) ∧
    (s.ringEnabled cq g.val = true → ¬ fixed on ∨ stopping = true → ∃ t, exec (.ringEnable a cq g v) s = .next t ∧ refused t 5) ∧
    (s.ringEnabled cq g.val = false → e ≠ 0 → ∃ t, exec (.ringEnable a cq g v) s = .next t ∧ refused t e) ∧
    (s.ringEnabled cq g.val = false → e = 0 → ∃ t, exec (.ringEnable a cq g v) s = .next t ∧ t.reg c g.val = on ∧
      t.ringEnabled cq g.val = true ∧
      (cq = true → t.fld F.DMA_CQ_STS_TAIL g.val = getField on 48 16 ∧ t.fld F.DMA_CQ_STS_HEAD g.val = getField on 48 16 ∧
        t.fld F.DMA_CQ_STS_ERR g.val = 0 ∧ (t.cq g.val).staged = [] ∧ t.fld F.DMA_CQ_STS_STAGED g.val = 0) ∧
      (cq = false → t.fld F.DMA_SQ_STS_HEAD g.val = getField on 48 16 ∧ t.fld F.DMA_SQ_STS_TAIL g.val = getField on 48 16 ∧
        t.fld F.DMA_SQ_STS_FETCH g.val = getField on 48 16 ∧ t.fld F.DMA_SQ_STS_ERR g.val = 0 ∧ (t.sq g.val).entries = []) ∧
      OnlyRegs (fun r i => (r = c ∨ r = sts) ∧ i = g.val ∨ r = .PCX_LINK_STS) s { t with dma := s.dma, pcie := { t.pcie with ltrSent := s.pcie.ltrSent } }) ∧
    (s.ringEnabled cq g.val = false → ∃ t, exec (.ringDisable a cq g v) s = .next t ∧ stored t off) ∧
    (s.ringEnabled cq g.val = true → ¬ fixed off → ∃ t, exec (.ringDisable a cq g v) s = .next t ∧ refused t 5) ∧
    (cq = true → s.ringEnabled cq g.val = true → fixed off → s.cqBound g.val = true →
      ∃ t, exec (.ringDisable a cq g v) s = .next t ∧ refused t 6) ∧
    (cq = true → s.ringEnabled cq g.val = true → fixed off → s.cqBound g.val = false →
      ∃ t, exec (.ringDisable a cq g v) s = .next t ∧ t.reg c g.val = off ∧ t.ringEnabled cq g.val = false ∧ (t.cq g.val).staged = [] ∧
        (s.fnMayIssue (s.ownerOf true g.val) = true → .memWrite (s.ownerOf true g.val) (s.idxAddr true g.val) (leBytes 8
          (s.fld F.DMA_CQ_STS_TAIL g.val + s.fld F.DMA_CQ_STS_ERR g.val * 2 ^ 17 + s.tikCount.toNat % 2 ^ 32 * 2 ^ 32)) ∈ t.out) ∧
        OnlyRegs (fun r i => (r = c ∨ r = sts) ∧ i = g.val ∨ r = .PCX_LINK_STS) s { t with dma := s.dma, pcie := { t.pcie with ltrSent := s.pcie.ltrSent } }) ∧
    (cq = false → s.ringEnabled cq g.val = true → fixed off → ∃ t, exec (.ringDisable a cq g v) s = .next t ∧ t.reg c g.val = off ∧
      t.ringEnabled cq g.val = true ∧ (t.sq g.val).stopping = true ∧ (t.sq g.val).entries = [] ∧ (t.sq g.val).reading = 0 ∧
      (∀ o idx n, o ∈ s.pcie.ops → o.what = .descriptors g.val idx n → o ∉ t.pcie.ops ∧
        ∀ r, r ∈ s.pcie.reads → r.op = o.id → { r with discard := true } ∈ t.pcie.reads) ∧
      (s.chart.ctxs = [] → (t.sq g.val).begun = (s.sq g.val).begun) ∧ OnlyHostSide (fun r i => r = c ∧ i = g.val) s t)) ∧
  ∀ (g : Fin 4096) (s : State), 
    let c := s.boundCq g.val
    let tells := (s.sq g.val).failed = true ∧ s.fld F.DMA_CQ_STS_ENABLED c = 1
    let done := (s.sq g.val).stopping = true ∧ (s.sq g.val).begun = [] ∧ (tells → s.cqPlaces c ≠ 0)
    let why := cmplEntry (s.fld F.DMA_SQ_STS_HEAD g.val + s.localSq g.val * 65536 + 4 * 2 ^ 28) 7 0 0
    (¬ done → exec (.ringDisableDone g) s = .next { s with out := [] }) ∧
    (done → ∃ t, exec (.ringDisableDone g) s = .next t ∧ t.ringEnabled false g.val = false ∧ (t.sq g.val).stopping = false ∧
      (s.fnMayIssue (s.ownerOf false g.val) = true → (t.sq g.val).published = s.fld F.DMA_SQ_STS_HEAD g.val ∧
        .memWrite (s.ownerOf false g.val) (s.idxAddr false g.val) (leBytes 8 (s.fld F.DMA_SQ_STS_HEAD g.val +
          s.fld F.DMA_SQ_STS_ERR g.val * 2 ^ 17 + s.tikCount.toNat % 2 ^ 32 * 2 ^ 32)) ∈ t.out) ∧ (∀ k, k ≠ g.val → t.sq k = s.sq k) ∧
      (tells → ((s.cq c).staged = [] → s.cqOpen c = true → t.fld F.DMA_CQ_STS_TAIL c = (s.fld F.DMA_CQ_STS_TAIL c + 1) % 65536) ∧
        ((s.cq c).staged ≠ [] ∨ s.cqOpen c = false → (t.cq c).staged = (s.cq c).staged ++ [why])) ∧
      (¬ tells → ∀ k, t.cq k = s.cq k) ∧
      OnlyReports (fun r i => r = .DMA_SQ_STS ∧ i = g.val) s { t with pcie := { t.pcie with ltrSent := s.pcie.ltrSent } })

/-- A doorbell advances its ring's index where R336 accepts it, and is discarded and counted elsewhere (R334, R335,
R336, R337, R349). DOORBELL by a function that may write, to the page of a ring it has, with FETCH 0: to an enabled
submission ring, a tail T with (T - HEAD) mod 65,536 between (tail - HEAD) mod 65,536 and 2^LOG2SIZE is the ring's
tail, and nothing else changes; another T sets DB_ERR and DB_BAD counts it, the indices staying; to a ring not
enabled, DB_BAD counts it without DB_ERR. To an enabled completion ring, a head H with (TAIL - H) no more than (TAIL -
old head) mod 65,536 is its head, and staged entries follow into the room it makes; another H sets DB_ERR and counts.
A tail equal to the old one changes no register. A write at another offset or of another size changes nothing. -/
def Obligations.DoorbellsAreChecked : Prop :=
  ∀ (f : Fin 64) (s : State), s.gate (.fn f) = none →
    (∀ off size v, size ≠ 4 ∧ size ≠ 8 ∨ off % 4096 ≠ 0 ∧ off % 4096 ≠ 8 ∨ s.globalRing f.val (off % 4096 == 8) (off / 4096) = none →
      exec (.doorbell f off size v) s = .next { s with out := [] }) ∧
    (∀ (r : Fin 4096) (size g : Nat) (v : BitVec 64), size = 4 ∨ size = 8 → v.getLsbD 16 = false → s.counts .DMA_CNT 11 →
      let x := v.toNat % 65536
      (s.globalRing f.val false r.val = some g →
        let live := s.fld F.DMA_SQ_STS_ENABLED g = 1 ∧ (s.sq g).stopping = false
        let ok := idxSub x (s.fld F.DMA_SQ_STS_HEAD g) ≤ 2 ^ s.fld F.DMA_SQ_CFG_LOG2SIZE g ∧
          idxSub (s.fld F.DMA_SQ_STS_TAIL g) (s.fld F.DMA_SQ_STS_HEAD g) ≤ idxSub x (s.fld F.DMA_SQ_STS_HEAD g)
        (live → ok → ∃ t, exec (.doorbell f (r.val * 4096) size v) s = .next t ∧ t.fld F.DMA_SQ_STS_TAIL g = x ∧
          t.fld F.DMA_SQ_STS_HEAD g = s.fld F.DMA_SQ_STS_HEAD g ∧
          OnlyRegs (fun q i => q = .DMA_SQ_STS ∧ i = g ∧ x ≠ s.fld F.DMA_SQ_STS_TAIL g) s t) ∧
        (live → ¬ ok → ∃ t, exec (.doorbell f (r.val * 4096) size v) s = .next t ∧ t.fld F.DMA_SQ_STS_DB_ERR g = 1 ∧
          t.fld F.DMA_SQ_STS_TAIL g = s.fld F.DMA_SQ_STS_TAIL g ∧ t.reg .DMA_CNT 11 = s.reg .DMA_CNT 11 + 1 ∧
          OnlyReports (fun q i => q = .DMA_SQ_STS ∧ i = g) s t) ∧
        (¬ live → ∃ t, exec (.doorbell f (r.val * 4096) size v) s = .next t ∧ t.reg .DMA_CNT 11 = s.reg .DMA_CNT 11 + 1 ∧
          OnlyReports (fun _ _ => False) s t)) ∧
      (s.globalRing f.val true r.val = some g →
        let live := s.fld F.DMA_CQ_STS_ENABLED g = 1 ∧ (s.cq g).stopping = false
        let tail := s.fld F.DMA_CQ_STS_TAIL g
        let ok := idxSub tail x ≤ idxSub tail (s.fld F.DMA_CQ_STS_HEAD g)
        (live → ok → ∃ t n, exec (.doorbell f (r.val * 4096 + 8) size v) s = .next t ∧ t.fld F.DMA_CQ_STS_HEAD g = x ∧
          t.fld F.DMA_CQ_STS_TAIL g = (tail + n) % 65536 ∧ (t.cq g).staged = (s.cq g).staged.drop n ∧ n ≤ (s.cq g).staged.length ∧
          ((t.cq g).staged ≠ [] → t.cqFree g = 0 ∨ s.fnMayIssue (s.ownerOf true g) = false) ∧ OnlyReports (fun _ _ => False) s t) ∧
        (live → ¬ ok → ∃ t, exec (.doorbell f (r.val * 4096 + 8) size v) s = .next t ∧ t.fld F.DMA_CQ_STS_DB_ERR g = 1 ∧
          t.fld F.DMA_CQ_STS_HEAD g = s.fld F.DMA_CQ_STS_HEAD g ∧ t.reg .DMA_CNT 11 = s.reg .DMA_CNT 11 + 1 ∧
          OnlyReports (fun _ _ => False) s t)))

/-- Indices are fetched and published, descriptors fetched in turn, frames sent and received by their rings (R110,
R305, R338, R339, R340, R342, R343, R344, R345, R346, R348). DOORBELL_FETCH of an enabled ring reads its HOST word,
under a free tag once its function may issue, or merges behind the read outstanding. INDEX_WRITE of an enabled ring
that lags by IDX_BATCH, or in an edge's clock at all, writes its index entry. DESCRIPTOR_FETCH with eligible rings and
a free tag reads n entries, by R342's formula, for the first with C left, or for the first at all in a new round;
FETCH and the arbiter's pointer advance. TX_FRAME takes the descriptors of the next frame: one that fails Table 14-5
or whose buffers cannot be read is completed, counted and consumed; a good one is read and enters the action merge as
a host packet once its data is there. RX_DELIVER gives the first copy for port 130 to its ring, writing it whole into
its buffers and consuming them, with a bad one at the head, or drops it and counts why; its cells are free either way.
Where a command's conditions do not hold nothing changes; other rings, copies and tables stay. -/
def Obligations.RingTrafficMoves : Prop :=
  (∀ (f : Fin 64) (cq : Bool) (r : Fin 4096) (s : State), s.gate (.fn f) = none →
    (s.globalRing f.val cq r.val = none → exec (.doorbellFetch f cq r) s = .next { s with out := [] }) ∧
    ∀ g, s.globalRing f.val cq r.val = some g →
      let live := s.ringEnabled cq g = true ∧ (if cq then (s.cq g).stopping else (s.sq g).stopping) = false
      let busy := if cq then (s.cq g).fetching else (s.sq g).fetching
      (live → busy = true → ∃ t, exec (.doorbellFetch f cq r) s = .next t ∧
        (if cq then t.cq g = { s.cq g with fetchMore := true } else t.sq g = { s.sq g with fetchMore := true }) ∧
        OnlyRegs (fun _ _ => False) s { t with dma := s.dma }) ∧
      (live → busy = false → (∀ o, o ∈ s.pcie.ops → o.todo = []) → ∃ t, exec (.doorbellFetch f cq r) s = .next t ∧
        (if cq then t.cq g = { s.cq g with fetching := true } else t.sq g = { s.sq g with fetching := true }) ∧
        (let fn := s.ownerOf cq g
         let op : List (Nat × Nat × Nat) → ReadOp := fun todo => ⟨s.pcie.nextOp, fn, .hostIndex cq g, todo, [none]⟩
         (∀ tag, s.freeTag = some tag → s.fnMayIssue fn = true → t.out = [.memRead fn tag (s.idxAddr cq g + 8) 8] ∧
          t.pcie = { s.pcie with reads := s.pcie.reads ++ [⟨tag, fn, s.pcie.nextOp, 0, [], false, false⟩], ops := s.pcie.ops ++ [op []],
                                 nextOp := s.pcie.nextOp + 1 }) ∧
         (s.freeTag = none ∨ s.fnMayIssue fn = false → t.out = [] ∧
          t.pcie = { s.pcie with ops := s.pcie.ops ++ [op [(0, s.idxAddr cq g + 8, 8)]], nextOp := s.pcie.nextOp + 1 })) ∧
        OnlyRegs (fun r _ => r = .PCX_LINK_STS) s { t with dma := s.dma, pcie := s.pcie }) ∧
      (¬ live → s.counts .DMA_CNT 11 → ∃ t, exec (.doorbellFetch f cq r) s = .next t ∧ t.reg .DMA_CNT 11 = s.reg .DMA_CNT 11 + 1 ∧
        OnlyReports (fun _ _ => False) s t)) ∧
  (∀ (cq : Bool) (g : Fin 4096) (s : State), let i := s.ringIdx cq g.val
    let due := s.ringEnabled cq g.val = true ∧ (if s.atEdge then 1 else s.idxBatch) ≤ idxSub i (s.ringPublished cq g.val) ∧
      s.fnMayIssue (s.ownerOf cq g.val) = true
    (¬ due → exec (.indexWrite cq g) s = .next { s with out := [] }) ∧
    (due → ∃ t, exec (.indexWrite cq g) s = .next t ∧ t.ringPublished cq g.val = i ∧
      t.out = [.memWrite (s.ownerOf cq g.val) (s.idxAddr cq g.val) (leBytes 8 (i + 65536 +
        (if cq then s.fld F.DMA_CQ_STS_ERR g.val else s.fld F.DMA_SQ_STS_ERR g.val) * 2 ^ 17 + s.tikCount.toNat % 2 ^ 32 * 2 ^ 32))] ∧
      OnlyRegs (fun r _ => r = .PCX_LINK_STS) s { t with dma := s.dma })) ∧
  (∀ s : State, (s.fetchOrder = [] ∨ s.freeTag = none → exec .descriptorFetch s = .next { s with out := [] }) ∧
    ∀ tag g, s.freeTag = some tag → (∀ o, o ∈ s.pcie.ops → o.todo = []) →
      let left := s.fetchOrder.find? (fun q => (s.sq q).used < (s.weight q : Int))
      (left = some g ∨ left = none ∧ s.fetchOrder.head? = some g ∧ SMap.wf (fun _ => SqSt.idle) s.dma.sq = true) →
      let at_ := s.fld F.DMA_SQ_STS_FETCH g
      let size := 2 ^ s.fld F.DMA_SQ_CFG_LOG2SIZE g
      let n := min (min (s.burst g) (idxSub (s.fld F.DMA_SQ_STS_TAIL g) at_)) (min (size - at_ % size) (2 * s.burst g - s.sqHeld g))
      let f := s.ownerOf false g
      let reqs := cutReads (s.maxRequest f) 0 [(s.fld F.DMA_SQ_BASE_ADDR g * 4096 + at_ % size * s.sqEntrySize g, n * s.sqEntrySize g)]
      ∃ (t : State) (tags : List Nat), exec .descriptorFetch s = .next t ∧ t.fld F.DMA_SQ_STS_FETCH g = (at_ + n) % 65536 ∧ t.dma.pointer = (g + 1) % 4096 ∧
        t.sq g = { s.sq g with reading := (s.sq g).reading + n, used := (if left = none then 0 else (s.sq g).used) + 1 } ∧
        tags.head? = some tag ∧ tags.length ≤ reqs.length ∧ (tags.length < reqs.length → t.freeTag = none) ∧
        t.out = (tags.zip reqs).map (fun x => .memRead f x.1 x.2.2.1 x.2.2.2) ∧
        t.pcie.reads = s.pcie.reads ++ (tags.zip reqs).map (fun x => ⟨x.1, f, s.pcie.nextOp, x.2.1, [], false, false⟩) ∧
        t.pcie.ops = s.pcie.ops ++ [⟨s.pcie.nextOp, f, .descriptors g at_ n, reqs.drop tags.length, reqs.map (fun _ => none)⟩] ∧
        (left ≠ none → ∀ q, q ≠ g → t.sq q = s.sq q) ∧
        OnlyRegs (fun r i => r = .DMA_SQ_STS ∧ i = g ∨ r = .PCX_LINK_STS) s
          { t with dma := s.dma, pcie := { t.pcie with reads := s.pcie.reads, ops := s.pcie.ops, nextOp := s.pcie.nextOp } }) ∧
  (∀ (g : Fin 4096) (rd : ReadEnd) (data : Bytes) (s : State),
    let may := s.fld F.DMA_SQ_STS_ENABLED g.val = 1 ∧ s.fld F.DMA_SQ_CFG_KIND g.val = 0 ∧ (s.sq g.val).stopping = false ∧
      s.sqBlocked g.val = false ∧ s.cqPlaces (s.boundCq g.val) ≠ 0 ∧ s.hostPipe ≠ none ∧ txEntries 16 (s.sq g.val).entries ≠ none ∧
      s.fnMayIssue (s.ownerOf false g.val) = true
    (¬ may → exec (.txFrame g rd data) s = .next { s with out := [] }) ∧
    ∀ l e last n s1, may → txEntries 16 (s.sq g.val).entries = some l → l.head? = some e → l.getLast? = some last → s.hostPipe = some (n, s1) →
      let dest := if s.fld F.DMA_SQ_CFG_FORCE g.val = 1 then s.fld F.DMA_SQ_CFG_PORT g.val else leAt e.2 12 1
      let ds := l.map (fun x => x.2)
      let total := (ds.map txLen).sum
      let st := s.txStatus ds dest
      let tc := leAt e.2 13 1 % 8
      let f := s.ownerOf false g.val
      let reqs := cutReads (s.maxRequest f) 0 (ds.map (fun x => (leAt x 0 8, txLen x)))
      let asks := (reqs.zipIdx).map (fun x => Out.memRead f x.2 x.1.2.1 x.1.2.2)
      let quiet := s.readsAtOnce f (ds.map (fun x => (leAt x 0 8, txLen x))) ∧ ∀ x, x ∈ s.dma.frames → x.ring ≠ g.val
      let lost := ∃ e, rd = .error e ∨ rd = .timeout ∧ s.ctoDisabled f = false
      (st ≠ 0 ∨ quiet ∧ lost → (s.sq g.val).begun = [] → s.counts .DMA_CNT 2 → ∃ t, exec (.txFrame g rd data) s = .next t ∧
        t.reg .DMA_CNT 2 = s.reg .DMA_CNT 2 + 1 ∧ (t.sq g.val).entries = (s.sq g.val).entries.drop l.length ∧ (t.sq g.val).begun = [] ∧
        t.fld F.DMA_SQ_STS_HEAD g.val = (s.fld F.DMA_SQ_STS_HEAD g.val + l.length) % 65536 ∧ (∀ k, k ≠ g.val → t.sq k = s.sq k) ∧
        OnlyReports (fun r i => r = .DMA_SQ_STS ∧ i = g.val) s { t with pcie := if st = 0 then s.pcie else t.pcie }) ∧
      (st = 0 → rd = .later → quiet → ∃ t, exec (.txFrame g rd data) s = .next t ∧ t.out = asks ∧
        t.dma.frames = s.dma.frames ++ [⟨g.val, last.1, ds, dest, none⟩] ∧
        t.pcie = { s.pcie with nextOp := s.pcie.nextOp + 1,
                               ops := [⟨s.pcie.nextOp, f, .frame g.val last.1, [], reqs.map (fun _ => none)⟩],
                               reads := reqs.zipIdx.map (fun x => ⟨x.2, f, s.pcie.nextOp, x.1.1, [], false, false⟩) } ∧
        (t.sq g.val).entries = (s.sq g.val).entries.drop l.length ∧ (t.sq g.val).begun = (s.sq g.val).begun ++ [(last.1, l.length, none)] ∧
        (∀ k, k ≠ g.val → t.sq k = s.sq k) ∧ OnlyRegs (fun r _ => r = .PCX_LINK_STS) s { t with dma := s.dma, pcie := s.pcie }) ∧
      (st = 0 → rd = .whole → quiet → ∃ t, exec (.txFrame g rd data) s = .next t ∧ t.out = asks ∧
        t.pcie = { s.pcie with nextOp := s.pcie.nextOp + 1 } ∧ t.dma.frames = s.dma.frames ∧
        (t.pipe n).merge = (s.pipe n).merge ++ [.host (padTo total data) (txMd e.2 total tc) dest tc
          (some (g.val, last.1, l.length, !bitOf (leAt e.2 13 1) 4)) none] ∧
        (∀ m, m ≠ n → t.pipe m = s.pipe m) ∧ (t.sq g.val).entries = (s.sq g.val).entries.drop l.length ∧
        (t.sq g.val).begun = (s.sq g.val).begun ++ [(last.1, l.length, none)] ∧ (∀ k, k ≠ g.val → t.sq k = s.sq k) ∧
        OnlyRegs (fun r _ => r = .PCX_LINK_STS) s { t with dma := s.dma, pipes := s.pipes, pcie := s.pcie })) ∧
  (∀ s : State, SMap.get (fun _ => []) s.txq 130 = [] → exec .rxDeliver s = .next { s with out := [] }) ∧
  ∀ (id : Nat) (rest : List Nat) (c : Copy) (s : State), SMap.get (fun _ => []) s.txq 130 = id :: rest → s.copy id = some c → c.cut = false →
    let frame : State → Prop := fun t => exec .rxDeliver s = .next t ∧ t.copy id = none ∧ (∀ k, k ≠ id → t.copy k = s.copy k) ∧
      SMap.get (fun _ => []) t.txq 130 = rest ∧ t.tabs = s.tabs ∧ t.pipes = s.pipes
    let dropped : Reg → Nat → Prop := fun r i => ∃ t, frame t ∧ (s.counts r i → t.reg r i = s.reg r i + 1) ∧ t.dma.sq = s.dma.sq ∧
      RegsBut (fun q _ => q ∈ reportRegs ++ [.SKN_CNT, .BPM_CNT]) s t
    (c.poison = true → dropped .SKN_CNT (c.die * 11 + 2)) ∧
    (c.poison = false → s.rxSelect c = none → dropped .DMA_CNT 7) ∧
    (∀ g e, c.poison = false → s.rxSelect c = some g → (s.sq g).entries = [e] → rxBufLen e.2 = 0 → s.cqPlaces (s.boundCq g) ≠ 0 →
      s.sqBlocked g = false → (s.sq g).begun = [] → s.counts .DMA_CNT 5 → ∃ t, frame t ∧ t.reg .DMA_CNT 5 = s.reg .DMA_CNT 5 + 1 ∧
        (t.sq g).entries = [] ∧ t.fld F.DMA_SQ_STS_HEAD g = (s.fld F.DMA_SQ_STS_HEAD g + 1) % 65536) ∧
    (∀ g, c.poison = false → s.rxSelect c = some g → (∀ e, (s.sq g).entries.head? = some e → rxBufLen e.2 ≠ 0) →
      (rxEntries c.bytes.length (s.sq g).entries = none → dropped .DMA_CNT 5) ∧
      ∀ l, rxEntries c.bytes.length (s.sq g).entries = some l → (∀ e, e ∈ l → rxBufLen e.2 ≠ 0) →
        (s.cqPlaces (s.boundCq g) = 0 ∨ s.sqBlocked g = true → dropped .DMA_CNT 6) ∧
        (s.cqPlaces (s.boundCq g) ≠ 0 → s.sqBlocked g = false → (s.sq g).begun = [] → s.counts .DMA_CNT 3 → s.counts .DMA_CNT 4 →
          ∃ t, frame t ∧ t.reg .DMA_CNT 3 = s.reg .DMA_CNT 3 + 1 ∧ t.reg .DMA_CNT 4 = s.reg .DMA_CNT 4 + BitVec.ofNat 64 c.bytes.length ∧
            (t.sq g).entries = (s.sq g).entries.drop l.length ∧
            t.fld F.DMA_SQ_STS_HEAD g = (s.fld F.DMA_SQ_STS_HEAD g + l.length) % 65536 ∧
            (∀ e, l.head? = some e → let f := s.ownerOf false g
              (if bitOf (s.devCtl f) 4 then .memWriteRelaxed f (leAt e.2 0 8) (c.bytes.take (rxBufLen e.2))
                else .memWrite f (leAt e.2 0 8) (c.bytes.take (rxBufLen e.2))) ∈ t.out) ∧
            (∀ k, k ≠ g → t.sq k = s.sq k) ∧
            RegsBut (fun r i => r ∈ reportRegs ++ [.SKN_CNT, .BPM_CNT] ∨ r = .DMA_SQ_STS ∧ i = g) s t))

/-- Chart programs start in ring order, and every entry is checked, skipped, ended or failed alike (R348, R357, R358,
R359, R360, R362, R364, R370, R375, R422). PROGRAM_START of a free context below CHT_CFG.CTX, unless HIBERNATE has
been accepted, begins the next program of the sequencer's rings and counts it; otherwise nothing changes. For every
Chart command, on an entry of its opcode: where R358, R360 or R362 gives a failure, the program ends with that status,
counted and recorded in CHT_ERR; a COUNT of 0 makes it a no-operation; while another context holds the staging a
staging instruction waits; without such an entry, or while the program waits or has failed, nothing changes. CHART_NOP
and FENCE just end, and an opcode absent from Table 15-3 fails. A LAST entry consumes all entries of its program and
writes the completion of Table 15-6, unless it is withheld. Only the program, its ring and reports change. -/
def Obligations.ChartProgramsStartAndEnd : Prop :=
  (∀ (q c : Fin 8) (s : State), let k := 8 * q.val + c.val
    let may := s.chartOn = true ∧ c.val < min 8 (max 1 (s.fld F.CHT_CFG_CTX 0)) ∧ s.ctx k = none ∧
      ¬ (s.fld F.GLB_MODE_BUSY 0 = 1 ∧ s.fld F.GLB_MODE_TARGET 0 = 11)
    (¬ may ∨ s.programRing q.val = none → exec (.programStart q c) s = .next { s with out := [] }) ∧
    ∀ g, may → s.programRing q.val = some g → s.counts .CHT_CNT 0 →
      s.fld F.DMA_SQ_STS_ENABLED g = 1 ∧ s.fld F.DMA_SQ_CFG_KIND g = 2 ∧ s.fld F.DMA_SQ_CFG_SEQ g = q.val ∧ (s.sq g).entries ≠ [] ∧
      ∃ t, exec (.programStart q c) s = .next t ∧ t.ctx k = some (Ctx.start g) ∧ (∀ j, j ≠ k → t.ctx j = s.ctx j) ∧
        t.reg .CHT_CNT 0 = s.reg .CHT_CNT 0 + 1 ∧ (t.sq g).entries = (s.sq g).entries ∧
        (t.cq (s.boundCq g)).promised = (s.cq (s.boundCq g)).promised + 1 ∧
        OnlyRegs (fun r i => r = .CHT_CNT ∧ i = 0) s { t with chart := s.chart, dma := s.dma }) ∧
  (∀ (q c : Fin 8) (rd : ReadEnd) (data : Bytes) (bad : List Nat) (op : Nat) (cmd : Instr) (s : State),
    (op, cmd) ∈ chartCommands q c rd data bad → let k := 8 * q.val + c.val
    (s.ctx k = none ∨ s.chartOn = false → exec cmd s = .next { s with out := [] }) ∧
    (∀ x, s.ctx k = some x → (x.wait ≠ .none ∨ x.status ≠ 0 ∨ s.ctxEntries x = []) → exec cmd s = .next { s with out := [] }) ∧
    ∀ x i e, s.atEntry q c x i e →
      (op ≠ 0 → cOp e ≠ op → exec cmd s = .next { s with out := [] }) ∧
      (cOp e = op → s.stagingWaits q.val c.val e = true → exec cmd s = .next { s with out := [] }) ∧
      (cOp e = op → s.stagingWaits q.val c.val e = false → s.chartCheck (x.took i e) e ≠ 0 →
        s.failsWith cmd k x i (s.chartCheck (x.took i e) e) (OnlyChart k)) ∧
      (cOp e = op → s.stagingWaits q.val c.val e = false → s.chartCheck (x.took i e) e = 0 → chartIdle e = true →
        s.endsInstr cmd k (x.took i e) (OnlyChart k))) ∧
  (∀ (q c : Fin 8) (x : Ctx) (i : Nat) (e : Bytes) (s : State), let k := 8 * q.val + c.val
    (s.runs q c x i e 0x00 → s.endsInstr (.chartNop q c) k (x.took i e) (OnlyChart k)) ∧
    (s.runs q c x i e 0x02 → s.endsInstr (.fence q c) k (x.took i e) (OnlyChart k)) ∧
    (s.atEntry q c x i e → chartUse e = none → s.failsWith (.chartNop q c) k x i
      (if x.taken = 4095 ∧ entryLast e = false then 12 else if 2 ≤ s.ownerOf false x.ring ∧ chartVfOp e = false then 3 else 1) (OnlyChart k))) ∧
  ∀ (q c : Fin 8) (x : Ctx) (i : Nat) (e : Bytes) (s : State), s.runs q c x i e 0x00 → entryLast e = true →
    let g := x.ring
    let b := s.boundCq g
    let tail := s.fld F.DMA_CQ_STS_TAIL b
    let log := s.fld F.DMA_CQ_CFG_LOG2SIZE b
    (s.sq g).begun = [(0, 0, none)] →
      (x.withheld = true → ∃ t, exec (.chartNop q c) s = .next t ∧ (t.sq g).begun = [] ∧ t.out = [] ∧
        t.fld F.DMA_SQ_STS_HEAD g = s.fld F.DMA_SQ_STS_HEAD g) ∧
      (x.withheld = false → s.fld F.DMA_CQ_STS_ENABLED b = 1 → (s.cq b).staged = [] → s.cqOpen b = true → s.counts .DMA_CNT 13 →
        ∃ t, exec (.chartNop q c) s = .next t ∧ (t.sq g).begun = [] ∧
          t.fld F.DMA_SQ_STS_HEAD g = (s.fld F.DMA_SQ_STS_HEAD g + x.taken + 1) % 65536 ∧
          t.reg .DMA_CNT 13 = s.reg .DMA_CNT 13 + BitVec.ofNat 64 (x.taken + 1) ∧
          t.out = [.memWrite (s.ownerOf true b) (s.fld F.DMA_CQ_BASE_ADDR b * 4096 + tail % 2 ^ log * s.cqEntrySize b)
            (withPhase log tail (cmplEntry (i + s.localSq g * 65536 + 3 * 2 ^ 28) ((x.done + 1) % 2 ^ 14) (x.bytes % 2 ^ 32)
              (x.ctick % 65536 + min 255 x.commits * 65536 + boolNat (x.dropped || !x.staged.isEmpty) * 2 ^ 24)))])

/-- Chart waits, polls, results areas and frames (R359, R363, R364, R369, R371, R373, R374). RBASE sets the result
area; DISCARD drops the staged writes and releases the staging. WAIT_TICK waits for COUNT edges; WAIT_AT waits for the
edge A where it lies less than 2^31 ahead and otherwise ends; CHART_WAIT_END ends a wait whose edge has come. POLL
reads its register: a match ends it, a register refused under R17 fails it with CHT_E_ACCESS, else the program waits,
its entry not taken, with the edges left; POLL_TIMEOUT with none left fails it with CHT_E_TIMEOUT. XMIT whose operand
is read makes COUNT copies of LEN bytes, in order, claimed as requester 13 for unicast queue TC of DEST, and the
program waits; an operand that cannot be read fails it with CHT_E_OPREAD. Other programs, tables and ports stay. -/
def Obligations.ChartWaitsPollsAndSends : Prop :=
  ∀ (q c : Fin 8) (x : Ctx) (i : Nat) (e : Bytes) (s : State), let k := 8 * q.val + c.val
    let y := x.took i e
    let waits : Instr → CWait → Prop := fun cmd w => ∃ t, exec cmd s = .next t ∧ t.ctx k = some { y with wait := w } ∧
      (t.sq x.ring).entries = (s.sq x.ring).entries.drop (if x.cut then 0 else 1) ∧ (∀ j, j ≠ k → t.ctx j = s.ctx j) ∧
      OnlyRegs (fun _ _ => False) s { t with chart := s.chart, dma := s.dma }
    (s.runs q c x i e 0x01 → s.endsInstr (.rbase q c) k { y with area := some (cB e, cA e, 0) } (OnlyChart k)) ∧
    (s.runs q c x i e 0x06 → s.endsInstr (.discard q c) k { y with staged := [], holds := false } (OnlyChart k)) ∧
    (s.runs q c x i e 0x03 → waits (.waitTick q c) (.ticks (cCount e))) ∧
    (s.runs q c x i e 0x04 → let d := (cA e + 2 ^ 32 - s.tikCount.toNat % 2 ^ 32) % 2 ^ 32
      (d = 0 ∨ 2 ^ 31 ≤ d → s.endsInstr (.waitAt q c) k y (OnlyChart k)) ∧
      (d ≠ 0 → d < 2 ^ 31 → waits (.waitAt q c) (.edge (cA e)))) ∧
    (s.ctx k = some x → x.wait ≠ .ready → exec (.chartWaitEnd q c) s = .next { s with out := [] }) ∧
    (s.ctx k = some x → x.wait = .ready → ∃ t, exec (.chartWaitEnd q c) s = .next t ∧
      (x.tail = false → x.cut = false ∨ x.entries ≠ [] → t.ctx k = some { x with done := x.done + 1, wait := .none }) ∧
      (x.tail = true → t.ctx k = none) ∧ OnlyChart k s t) ∧
    (s.runs q c x i e 0x33 → let r := (s.afterTaking k x i e).busRead (.cs q) (cA e) 4
      let frame : State → State → Prop := fun s t => (∀ j, j ≠ k → t.ctx j = s.ctx j) ∧ t.tabs = s.tabs ∧ t.ports = s.ports ∧
        RegsBut (fun r _ => r ∈ reportRegs ++ [.CHT_CNT, .CHT_ERR, .DMA_SQ_STS]) s t
      let hit := r.1.toNat % 2 ^ 32 &&& (cB e / 2 ^ 32) = cB e % 2 ^ 32
      (r.2.2 = true → s.failsWith (.poll q c) k x i 3 frame) ∧
      (r.2.2 = false → hit → s.endsInstr (.poll q c) k y frame) ∧
      (r.2.2 = false → ¬ hit → ∃ t, exec (.poll q c) s = .next t ∧ t.ctx k = some { x with wait := .poll (cCount e) } ∧
        (t.sq x.ring).entries = (s.sq x.ring).entries ∧ frame s t)) ∧
    (∀ n, s.ctx k = some { x with wait := .poll n } → let s1 := s.setCtx k (some x)
      s1.runs q c x i e 0x33 → let r := (s1.afterTaking k x i e).busRead (.cs q) (cA e) 4
      let hit := r.1.toNat % 2 ^ 32 &&& (cB e / 2 ^ 32) = cB e % 2 ^ 32
      (r.2.2 = true ∨ hit → exec (.poll q c) s = exec (.poll q c) s1) ∧
      (r.2.2 = false → ¬ hit → ∃ t, exec (.poll q c) s = .next t ∧ t.ctx k = s.ctx k ∧ (t.sq x.ring).entries = (s.sq x.ring).entries)) ∧
    (s.ctx k = some x → x.wait = .poll 0 → (s.ctxEntries x).head? = some (i, e) → s.failsWith (.pollTimeout q c) k x i 11 (OnlyChart k)) ∧
    (s.ctx k = some x → x.wait ≠ .poll 0 → exec (.pollTimeout q c) s = .next { s with out := [] }) ∧
    ∀ (rd : ReadEnd) (sent data : Bytes), s.runs q c x i e 0x38 →
      let stride := (xmitLen e + 63) / 64 * 64
      let fn := s.ownerOf false x.ring
      let frame : State → State → Prop := fun s t => (∀ j, j ≠ k → t.ctx j = s.ctx j) ∧ t.tabs = s.tabs ∧ t.ports = s.ports ∧
        RegsBut (fun r _ => r ∈ reportRegs ++ [.CHT_CNT, .CHT_ERR, .DMA_SQ_STS]) s t
      (s.unread x i → s.fnMayIssue fn = false ∨
          s.readsAtOnce fn [(cB e, stride * cCount e)] ∧ ∃ er, rd = .error er ∨ rd = .timeout ∧ s.ctoDisabled fn = false →
        s.failsWith (.xmit q c rd sent) k x i 4 frame) ∧
      (s.hasOperand x i e (stride * cCount e) rd sent data → ∃ t, exec (.xmit q c rd sent) s = .next t ∧
        t.ctx k = some { y with wait := .xmit, operand := none } ∧ t.nextId = s.nextId + cCount e ∧
        (∀ n, n < cCount e → ∃ v, t.copy (s.nextId + n) = some v ∧ v.kind = .chartTx ∧ v.chart = some k ∧ v.port = xmitDest e ∧
          v.tc = xmitTc e ∧ v.bytes = (recAt data stride n).take (xmitLen e) ∧
          (13, Claim.copy (s.nextId + n)) ∈ (t.buf (localPort (xmitDest e)).1).claims) ∧
        (∀ j, j < s.nextId → t.copy j = s.copy j) ∧ frame s t ∧ RegsBut (fun r _ => r = .PCX_LINK_STS) s t)

/-- The staging instructions record their writes and take effect on nothing else (R54, R154, R268, R325, R359, R363,
R364, R367). DWR, DINV, HINS, HDEL, TWR, TINV, TVAL, TACT and PIVW of COUNT entries end without error: the program
holds the staging, and the writes that the operand gives, one for each entry, key and die named, are recorded in order
behind those staged before. No table, and nothing else, changes until COMMIT. The operand has been read ahead, or the
program waits while it is read; one that the ring's function may not read, or whose read failed, ends the program with
CHT_E_OPREAD, logged and counted. -/
def Obligations.ChartStagesWrites : Prop :=
  ∀ (q c : Fin 8) (x : Ctx) (i : Nat) (e : Bytes) (rd : ReadEnd) (sent data : Bytes) (s : State), let k := 8 * q.val + c.val
    let y := x.took i e
    let n := cCount e
    let fn := s.ownerOf false x.ring
    let each : (Nat → List CWrite) → List CWrite := fun f => (List.range n).flatMap f
    let stages : Instr → List CWrite → Prop := fun cmd l =>
      s.endsInstr cmd k { y with staged := x.staged ++ l, holds := true } (OnlyChart k)
    let given : Nat → Instr → List CWrite → Prop := fun len cmd l => s.hasOperand x i e len rd sent data →
      s.endsInstr cmd k { y with staged := x.staged ++ l, holds := true, operand := none }
        (fun s t => OnlyChart k s { t with pcie := { t.pcie with nextOp := s.pcie.nextOp } })
    let table := cTbl e - 11
    (s.runs q c x i e 0x11 → stages (.dinv q c) (each (fun j =>
      if cTbl e = 10 then (chartDies q.val e).map (fun d => .group d (cA e + j) 0) else [.direct (cTbl e + 1) (cA e + j) none]))) ∧
    (s.runs q c x i e 0x21 → stages (.tinv q c) (each (fun j => [.tinv (cA e + j)]))) ∧
    (s.runs q c x i e 0x22 → stages (.tval q c) (each (fun j => [.tval (cA e + j)]))) ∧
    (let dwr := Instr.dwr q c rd sent
      let row := fun j => sliceZ data (operandStride (cTbl e) * j) (operandStride (cTbl e))
      (s.runs q c x i e 0x10 → cTbl e < 8 → given (operandStride (cTbl e) * n) dwr (each (fun j => [.direct (cTbl e + 1) (cA e + j)
        (some (leAt (row j) 0 (4 * entryWords (cTbl e + 1))))]))) ∧
      (s.runs q c x i e 0x10 → cTbl e = 8 → given (operandStride 8 * n) dwr (each (fun j => [.meter (cA e + j) (leAt (sliceZ data (16 * j) 16) 0 16)]))) ∧
      (s.runs q c x i e 0x10 → cTbl e = 9 → given (operandStride 9 * n) dwr (each (fun j => [.stat (cA e + j)
        (leAt (sliceZ data (16 * j) 16) 0 8 % 2 ^ 40) (leAt (sliceZ data (16 * j) 16) 8 8 % 2 ^ 56)]))) ∧
      (s.runs q c x i e 0x10 → cTbl e = 10 → given (operandStride 10 * n) dwr (each (fun j =>
        (chartDies q.val e).map (fun d => .group d (cA e + j) (leAt (sliceZ data (16 * j) 16) 0 16))))) ∧
      (s.runs q c x i e 0x18 → given (64 * n) (.hins q c rd sent) (each (fun j => let r := sliceZ data (64 * j) 64
        (chartDies q.val e).map (fun d => .insert d table (r.take (hashKeyLen table))
          ((List.range (hashWords table)).map (fun w => BitVec.ofNat 32 (leAt r (24 + 4 * w) 4)))
          (BitVec.ofNat 32 (leAt r (24 + 4 * hashWords table) 4)))))) ∧
      (s.runs q c x i e 0x19 → given (64 * n) (.hdel q c rd sent) (each (fun j =>
        (chartDies q.val e).map (fun d => .delete d table ((sliceZ data (64 * j) 64).take (hashKeyLen table)))))) ∧
      (s.runs q c x i e 0x20 → given (192 * n) (.twr q c rd sent) (each (fun j => let r := sliceZ data (192 * j) 192
        [.twr (cA e + j) (sliceZ r 0 80) (sliceZ r 80 80) (BitVec.ofNat 64 (leAt r 160 8)) (cF0 e)]))) ∧
      (s.runs q c x i e 0x23 → given (8 * n) (.tact q c rd sent) (each (fun j =>
        [.tact (cA e + j) (BitVec.ofNat 64 (leAt (sliceZ data (8 * j) 8) 0 8))]))) ∧
      (s.runs q c x i e 0x25 → given (8 * n) (.pivw q c rd sent) (each (fun j => [.pivot (cA e + j) (leAt (sliceZ data (8 * j) 8) 0 8)])))) ∧
    ∀ op len cmd, (op, len, cmd) ∈ [(0x10, operandStride (cTbl e) * n, Instr.dwr q c rd sent), (0x18, 64 * n, .hins q c rd sent),
        (0x19, 64 * n, .hdel q c rd sent), (0x1A, 64 * n, .hsrch q c rd sent []), (0x20, 192 * n, .twr q c rd sent),
        (0x23, 8 * n, .tact q c rd sent), (0x25, 8 * n, .pivw q c rd sent)] → s.runs q c x i e op → 
      let may := s.fnMayIssue fn = true
      let reqs := cutReads (s.maxRequest fn) 0 [(cB e, len)]
      let record := if x.operand = none then (s.aheadOf x i).map (fun a => a.got) else none
      (record = some (some none) → s.failsWith cmd k x i 4 (OnlyChart k)) ∧
      (record = some none → rd = .later → ∃ t, exec cmd s = .next t ∧ t.ctx k = some { x with wait := .operand } ∧ t.dma = s.dma ∧ t.pcie = s.pcie ∧
        (∀ j, j ≠ k → t.ctx j = s.ctx j) ∧ t.out = [] ∧ OnlyRegs (fun _ _ => False) s { t with chart := s.chart }) ∧
      (s.unread x i → ¬ may → s.failsWith cmd k x i 4 (OnlyChart k)) ∧
      (s.unread x i → may → s.readsAtOnce fn [(cB e, len)] → (∃ er, rd = .error er ∨ rd = .timeout ∧ s.ctoDisabled fn = false) →
        s.failsWith cmd k x i 4 (fun s t => OnlyChart k s { t with pcie := s.pcie })) ∧
      (s.unread x i → may → s.readsAtOnce fn [(cB e, len)] → rd = .later → ∃ t, exec cmd s = .next t ∧ t.ctx k = some { x with wait := .operand } ∧
        (∀ j, j ≠ k → t.ctx j = s.ctx j) ∧
        t.pcie = { s.pcie with nextOp := s.pcie.nextOp + 1, ops := [⟨s.pcie.nextOp, fn, .operand k, [], reqs.map (fun _ => none)⟩],
                               reads := reqs.zipIdx.map (fun r => ⟨r.2, fn, s.pcie.nextOp, r.1.1, [], false, false⟩) } ∧
        t.out = reqs.zipIdx.map (fun r => .memRead fn r.2 r.1.2.1 r.1.2.2) ∧
        OnlyRegs (fun r _ => r = .PCX_LINK_STS) s { t with chart := s.chart, pcie := s.pcie })

/-- COMMIT checks in the order of R365, waits for its edge, and applies, is deferred or is refused there (R53, R55,
R150, R154, R188, R200, R364, R365, R366, R463). COMMIT with no staged write left ends. Otherwise the first failing
check of R365, in its order, refuses it: counted, the program ends with that status. A commit that passes is due at
the next edge, or at the one after within the cutoff of the next, takes its place among the waiting commits, and its
program waits. COMMIT_APPLY leaves a commit that is not due. A due one is refused with its status, or deferred to the
next edge and counted, its program still waiting, or applies: its writes take effect, its program goes on with COMMITS
and CTICK, and counts follow. A write of a direct-indexed entry is then what reads find, an invalidated TCAM entry is
not valid, statistics and pivots hold the new values. Nothing else changes. -/
def Obligations.CommitsAreCheckedAndApply : Prop :=
  (∀ (q c : Fin 8) (x : Ctx) (i : Nat) (e : Bytes) (s : State), s.runs q c x i e 0x05 → let k := 8 * q.val + c.val
    let y := x.took i e
    let l := x.staged.filter (fun w => !s.stagesNothing w)
    let p := s.planInserts s.tabs l
    let st := if overLimit (s.commitCount l p.1) = true then 6 else if l.any s.badSlot = true then 8 else if l.any s.badDomain = true then 14
      else if l.any (fun a => l.any (fun b => a.clashes b)) = true then 9 else if p.2 = true then 7 else 0
    let left := s.tick.len - s.fld F.TIK_CLK_CLK 0
    let due := (if max 16 (s.fld F.TIK_COMMIT_CUTOFF_CLOCKS 0) < left then 1 else 2)
    (l = [] → s.endsInstr (.commit q c) k { y with staged := [], holds := false } (OnlyChart k)) ∧
    (l ≠ [] → st ≠ 0 → s.failsWith (.commit q c) k x i st (fun s t => OnlyChart k s t ∧
      (s.counts .CHT_CNT 4 → t.reg .CHT_CNT 4 = s.reg .CHT_CNT 4 + 1))) ∧
    (l ≠ [] → st = 0 → ∃ t m, exec (.commit q c) s = .next t ∧ t.ctx k = some { y with staged := l, wait := .commit } ∧
      m = ⟨k, s.tikCount, s.fld F.TIK_CLK_CLK 0, due, l, p.1⟩ ∧ t.chart.commits = placeCommit m s.chart.commits ∧
      (∀ j, j ≠ k → t.ctx j = s.ctx j) ∧ OnlyRegs (fun _ _ => False) s { t with chart := s.chart, dma := s.dma })) ∧
  ∀ (m : Commit) (y : Ctx) (s : State), s.chart.commits = [m] → s.ctx m.ctx = some y → y.wait = .commit → y.status = 0 →
    let w := fun (t : State) => t.ctx m.ctx
    (m.due ≠ 0 → exec .commitApply s = .next { s with out := [] }) ∧
    (m.due = 0 →
      (∀ st, s.commitEnd m = .refused st → s.failsWith .commitApply m.ctx y y.last st (fun s t => OnlyChart m.ctx s t ∧ t.chart.commits = [])) ∧
      (∀ a b, s.commitEnd m = .deferred a b → s.fld F.TIK_COMMIT_DEFER_COUNT 0 < 65535 → ∃ t, exec .commitApply s = .next t ∧
        w t = some y ∧ t.chart.commits = [{ m with due := 1 }] ∧ t.tabs = s.tabs ∧ t.tvals = s.tvals ∧ t.tslots = s.tslots ∧
        t.fld F.TIK_COMMIT_DEFER_COUNT 0 = s.fld F.TIK_COMMIT_DEFER_COUNT 0 + 1 ∧
        RegsBut (fun r _ => r ∈ reportRegs ++ [.TIK_COMMIT_DEFER, .TCM_CNT, .GGE_CNT, .GGE_OVF, .GGE_FRZ]) s t) ∧
      ∀ plans n, s.commitEnd m = .applied plans n →
        let applies : (State → Prop) → Prop := fun p => ∃ t, exec .commitApply s = .next t ∧ t.chart.commits = [] ∧ p t ∧
          (y.tail = false → y.cut = false → w t = some
            { y with staged := [], holds := false, commits := y.commits + 1, ctick := s.tikCount.toNat % 65536, done := y.done + 1, wait := .none }) ∧ (y.tail = true → w t = none) ∧
          (∀ j, j ≠ m.ctx → t.ctx j = s.ctx j) ∧ t.wrote = addPair s.wrote n ∧ t.queues = s.queues ∧ t.ports = s.ports ∧
          (s.counts .CHT_CNT 2 → t.reg .CHT_CNT 2 = s.reg .CHT_CNT 2 + 1) ∧
          (s.counts .CHT_CNT 3 → t.reg .CHT_CNT 3 = s.reg .CHT_CNT 3 + BitVec.ofNat 64 (n.1 + n.2))
        applies (fun _ => True) ∧
        (∀ tid idx v, m.writes = [.direct tid idx (some v)] → idx < 2 ^ 20 → applies (fun t => t.tabs.direct? tid idx = ⟨true, v⟩ ∧
          (∀ a b, b < 2 ^ 20 → a ≠ tid ∨ b ≠ idx → t.tabs.direct? a b = s.tabs.direct? a b) ∧ t.tvals = s.tvals ∧ t.stats = s.stats)) ∧
        (∀ j, m.writes = [.tinv j] → applies (fun t => (t.tval j).cur = false ∧ t.tabs = s.tabs ∧ t.tslots = s.tslots)) ∧
        (∀ j a b, m.writes = [.stat j a b] → applies (fun t => t.statPair j = (a % 2 ^ 40, b % 2 ^ 56) ∧ (∀ o, o ≠ j → t.statPair o = s.statPair o) ∧
          t.tabs = s.tabs)) ∧
        (∀ j v, m.writes = [.pivot j v] → j < 4096 → applies (fun t => ∀ d, d < 2 →
          SMap.get (fun _ => 0) t.tabs.piv (d * 4096 + j) = BitVec.ofNat 49 v)))

/-- Chart instructions read tables and registers into the result area, write registers and queue flushes (R150, R174,
R175, R177, R188, R363, R368, R371, R372, R373). DRD, TRD, PIVR, HSRCH, HNEXT and REGR write their records one after
another into the result area, which moves on, and end; records that do not fit, or no area, end the program with
CHT_E_RESULT, none written. DRD of a direct-indexed entry returns VALID and the entry's data, HSRCH the entry of its
key or status 1, or 4 where the table is off; HNEXT from cursor 0 the first entry with the cursor behind it, or END;
PIVR the pivots; TRD an entry's slots, ACTION and validity; REGR the register as it reads. REGW and REGM write the
register under their access codes, REGM under its mask. A register refused under R17 ends the program with
CHT_E_ACCESS. FLUSH is queued, or refused while a die holds 16. Bytes that the spec leaves open are free. -/
def Obligations.ChartReadsAndRegisters : Prop :=
  ∀ (q c : Fin 8) (x : Ctx) (i : Nat) (e : Bytes) (s : State), let k := 8 * q.val + c.val
    let y := x.took i e
    let u := s.afterTaking k x i e
    let f := s.ownerOf false x.ring
    let quiet : State → State → Prop := fun s t => (∀ j, j ≠ k → t.ctx j = s.ctx j) ∧ t.tabs = s.tabs ∧ t.ports = s.ports ∧
      RegsBut (fun r _ => r ∈ reportRegs ++ [.CHT_CNT, .CHT_ERR, .DMA_SQ_STS, .LKP_EVQ_STS]) s t
    let returns : Instr → (Bytes → Prop) → Prop := fun cmd p => ∃ data, p data ∧
      (∀ a z n, x.area = some (a, z, n) → n + data.length ≤ z →
        s.endsInstr cmd k { y with area := some (a, z, n + data.length), bytes := x.bytes + data.length } (fun s t => quiet s t ∧
          (s.fnMayIssue f = true → .memWrite f (a + n) data ∈ t.out) ∧
          (s.counts .CHT_CNT 8 → t.reg .CHT_CNT 8 = s.reg .CHT_CNT 8 + BitVec.ofNat 64 data.length))) ∧
      ((∀ a z n, x.area = some (a, z, n) → z < n + data.length) → s.failsWith cmd k x i 5 quiet)
    let die := (chartDies q.val e).headD 0
    let table := cTbl e - 11
    (s.runs q c x i e 0x12 → cTbl e < 8 → (∀ j, j < cCount e → s.domOn (50 + directDie (cTbl e + 1) (cA e + j)) = true) →
      returns (.drd q c []) (fun d => d = (List.range (cCount e)).flatMap (fun j => let v := s.tabs.direct? (cTbl e + 1) (cA e + j)
        leBytes 4 (boolNat v.valid) ++ leBytes 4 (cA e + j) ++ padTo (operandStride (cTbl e)) (leBytes (4 * entryWords (cTbl e + 1)) v.data)))) ∧
    (s.runs q c x i e 0x12 → cTbl e < 8 → cCount e = 1 → returns (.drd q c [0]) (fun d => d.length = 8 + operandStride (cTbl e) ∧
      bitOf (leAt d 0 4) 1 = true ∧ leAt d 4 4 = cA e % 2 ^ 32)) ∧
    (s.runs q c x i e 0x26 → returns (.pivr q c) (fun d => d = (List.range (cCount e)).flatMap (fun j =>
      leBytes 8 (SMap.get (fun _ => 0) s.tabs.piv (q.val / 4 * 4096 + (cA e + j))).toNat))) ∧
    (s.runs q c x i e 0x24 → cCount e = 1 → let p := slotPanel (cA e)
      s.panelOn p = true → cA e % 32768 / 4096 % s.panelSlots p = 0 → returns (.trd q c) (fun d => d.length = 192 ∧
        d.take (10 * s.panelSlots p) = (List.range (s.panelSlots p)).flatMap (fun j => beBytes 10 (s.tslot (cA e + j * 4096)).value.toNat) ∧
        leAt d 160 8 = (SMap.get (fun _ => 0) s.tabs.action (cA e)).toNat ∧ leAt d 168 4 % 2 ^ 21 = cA e ∧
        leAt d 168 4 / 2 ^ 21 % 16 = (s.tval (cA e)).tags.toNat)) ∧
    (∀ data, s.runs q c x i e 0x1A → s.hasOperand x i e 64 .whole data data → cCount e = 1 → cDies e ≠ 3 → let key := (sliceZ data 0 64).take (hashKeyLen table)
      (s.domOn (hashDomain die table) = false → returns (.hsrch q c .whole data []) (fun d => d.length = 64 ∧ leAt d 42 1 = 4 ∧ leAt d 43 1 = die)) ∧
      (s.domOn (hashDomain die table) = true → s.tabs.findKey die table key = none →
        returns (.hsrch q c .whole data []) (fun d => d.length = 64 ∧ d.take key.length = key ∧ leAt d 42 1 = 1 ∧ leAt d 43 1 = die)) ∧
      (∀ loc v, s.domOn (hashDomain die table) = true → s.tabs.findKey die table key = some loc → s.tabs.slotAt die table loc = some v →
        v.all.length ≤ 4 → returns (.hsrch q c .whole data []) (fun d => d.length = 64 ∧ d.take key.length = key ∧ leAt d 20 4 % 2 ^ 20 = loc % 2 ^ 20 ∧
          sliceZ d 24 (4 * v.all.length) = v.all.flatMap (fun w => leBytes 4 w.toNat) ∧ leAt d 40 2 = v.stamp % 2 ^ 16 ∧
          leAt d 42 1 = 0 ∧ leAt d 43 1 = die))) ∧
    (s.runs q c x i e 0x1B → cCount e = 1 → cA e = 0 → (s.learning die).scans = [] → s.domOn (hashDomain die table) = true →
      (s.entryFrom die table 0 = none → returns (.hnext q c) (fun d => d.length = 64 ∧ leAt d 42 1 = 2)) ∧
      (∀ loc v, s.entryFrom die table 0 = some (loc, v) → v.key.length ≤ 20 → v.all.length ≤ 4 → loc < 2 ^ 20 →
        returns (.hnext q c) (fun d => d.length = 64 ∧ d.take v.key.length = v.key ∧ leAt d 42 1 = 0 ∧ leAt d 44 4 = loc + 1))) ∧
    (s.runs q c x i e 0x1C → let dies := chartDies q.val e
      (dies.any s.flushBusy = true → s.failsWith (.flush q c) k x i 10 quiet) ∧
      (dies.any s.flushBusy = false → cF1 e = false → s.endsInstr (.flush q c) k y (fun s t => quiet s t ∧ t.nextId = s.nextId + 1 ∧
        ∃ fl, t.flushes = s.flushes ++ [fl] ∧ fl.1 = ⟨s.nextId, table, cA e, cF0 e, (dies.map (fun d => 2 ^ d)).sum, none⟩)) ∧
      (dies.any s.flushBusy = false → cF1 e = true → x.room 16 = false → s.failsWith (.flush q c) k x i 5 quiet) ∧
      (dies.any s.flushBusy = false → cF1 e = true → x.room 16 = true → ∃ t, exec (.flush q c) s = .next t ∧ quiet s t ∧
        t.ctx k = some { y with wait := .flush s.nextId })) ∧
    (s.runs q c x i e 0x30 → cCount e = 1 → let r := u.busRead (.cs q) (cA e) (if cF0 e then 8 else 4)
      (r.2.2 = false → returns (.regr q c) (fun d => d = leBytes 8 r.1.toNat)) ∧
      (r.2.2 = true → x.room 8 = true → s.failsWith (.regr q c) k x i 3 quiet)) ∧
    ∀ r j, s.takes (.cs q) r j → r.width = 32 → locate (cA e) = some (r, j, 0) → cA e % 4 = 0 → s.busAddr (.cs q) (cA e) = some (cA e) →
      r ∉ specialWrites → r ∉ reportRegs ++ [.CHT_CNT, .CHT_ERR, .DMA_SQ_STS] →
      let only : State → State → Prop := fun s t => (∀ h, h ≠ k → t.ctx h = s.ctx h) ∧ t.tabs = s.tabs ∧ t.ports = s.ports ∧
        RegsBut (fun o n => o ∈ reportRegs ++ [.CHT_CNT, .CHT_ERR, .DMA_SQ_STS] ∨ o = r ∧ n = j) s t
      (s.runs q c x i e 0x31 → cF0 e = false → cCount e = 1 → s.endsInstr (.regw q c) k y (fun s t => only s t ∧
        t.reg r j = Reg.written r (s.reg r j) low32 (BitVec.ofNat 64 (cB e)))) ∧
      (s.runs q c x i e 0x32 → s.endsInstr (.regm q c) k y (fun s t => only s t ∧
        t.reg r j = Reg.written r (s.reg r j) (BitVec.ofNat 64 (cB e / 2 ^ 32)) (BitVec.ofNat 64 (cB e % 2 ^ 32))))

/-- A detected fault is marked, counted, captured and reported once (R304, R377, R380, R381, R383, R384, R388, R390,
R391). FAULT_DETECT of a source of Table 16-3: its bit of FLT_STS is set; a lasting condition is live. While its
record finds room or none is due, FLT_CNT counts one more up to 65,535, FLT_INST marks an instance below 128, an empty
capture takes source, instance, tick and information; and where the bit was 0 the reaction falls due and the selected
reports are made: interrupt event of source 16 + k, FAULT record, journal record. Where it was 1 none is. A store
word, poisoned cell, sample or SA key that was hit is lost as Table 16-3 says, a parity error of a stack counts in
PAR_ERR; nothing else changes. Without such a source nothing changes; a rail fault and a thermal trip are a loss of
supply. FAULT_CONDITION_CLEARED ends the live mark only. FAULT_INJECT: without GO nothing changes; outside SWATCH it
is discarded with INJ_REFUSED; with MODE 1 or 2, a memory's source is armed; otherwise the source is detected, its
capture marked INJ, and a reaction that changes mode is withheld. -/
def Obligations.FaultsAreMarkedCountedAndReported : Prop :=
  (∀ (k : Fin 23) (src : Fin 32) (inst : Fin 65536) (info : BitVec 48) (hit : Nat) (lasting : Bool) (cls react : Nat) (s : State),
    fltSource k src = some (cls, react) → ¬ (k.val = 2 ∧ (src.val = 1 ∨ src.val = 3)) →
    let n := k.val * 32 + src.val
    let was := bitOf (s.fld F.FLT_STS_STS k) src
    let armed := s.flt.armed.any (fun e => e.1 == k.val && e.2.1 == src.val && e.2.2.1 == inst.val)
    let ntf := bitOf (s.fld F.FLT_EN_NTF_EN k) src
    let g := s.fld F.DMA_NTF_MAP_RING 9
    let hot := (k.val, src.val) ∈ [(9, 1), (9, 2), (14, 1), (15, 0), (15, 1), (16, 2), (18, 0), (21, 0)]
    let parity := k.val = 17 ∧ src.val = 2
    ∃ t, exec (.faultDetect k src inst info hit lasting) s = .next t ∧ bitOf (t.fld F.FLT_STS_STS k) src = true ∧
      (lasting = true → (k.val, src.val, inst.val) ∈ t.flt.live) ∧ (¬ hot → OnlyReports (fun r i => parity ∧ r = .HBC_CNT ∧ i = inst * 9 + 4) s t) ∧
      (parity → s.counts .HBC_CNT (inst * 9 + 4) → t.reg .HBC_CNT (inst * 9 + 4) = s.reg .HBC_CNT (inst * 9 + 4) + 1) ∧
      (was = true ∨ ntf = false ∨ s.cqRoom g = true →
        t.fld F.FLT_CNT_COUNT n = min 65535 (s.fld F.FLT_CNT_COUNT n + 1) ∧
        (inst.val < 128 → t.reg .FLT_INST (k * 2 + inst / 64) =
          s.reg .FLT_INST (k * 2 + inst / 64) ||| ((1 : BitVec 64) <<< (inst.val % 64))) ∧
        (s.fld F.FLT_FIRST_VALID k = 1 → t.reg .FLT_FIRST k = s.reg .FLT_FIRST k ∧ t.reg .FLT_FIRST_INFO k = s.reg .FLT_FIRST_INFO k) ∧
        (s.fld F.FLT_FIRST_VALID k = 0 →
          t.reg .FLT_FIRST k = BitVec.ofNat 64 (src + inst * 2 ^ 16 + s.tikCount.toNat % 2 ^ 31 * 2 ^ 32 + 2 ^ 63) ∧
          t.reg .FLT_FIRST_INFO k = info.setWidth 64 ||| (if armed then (1 : BitVec 64) <<< 63 else 0)) ∧
        (was = true → t.flt.react.length = s.flt.react.length ∧ t.jrn = s.jrn ∧ t.reg .DMA_CNT 8 = s.reg .DMA_CNT 8) ∧
        (was = false →
          (react = 0 → t.flt.react.length = s.flt.react.length) ∧
          (react ≠ 0 → (⟨k, src, inst, info, if armed then 0 else hit, s.tikCount, armed, s.split 11⟩ : React) ∈ t.flt.react) ∧
          (∀ v, bitOf (s.fld F.FLT_EN_INT_EN k) src = true → s.fld F.PCX_ISRC_EN (16 + k) = 1 →
            vectorNum (s.fld F.PCX_ISRC_FUNC (16 + k)) (s.fld F.PCX_ISRC_VEC (16 + k)) = some v →
            s.modeRefuses (s.fld F.PCX_ISRC_FUNC (16 + k)) = false → t.fld F.PCX_IMOD_PEND v = 1) ∧
          (ntf = true → s.fld F.DMA_NTF_MAP_EN 9 = 1 → s.fld F.DMA_CQ_STS_ENABLED g = 1 → s.fld F.DMA_CQ_CFG_KIND g = 1 →
            (s.cq g).staged = [] → s.cqOpen g = true → s.counts .DMA_CNT 8 → t.reg .DMA_CNT 8 = s.reg .DMA_CNT 8 + 1 ∧
            let tail := s.fld F.DMA_CQ_STS_TAIL g
            let log := s.fld F.DMA_CQ_CFG_LOG2SIZE g
            Out.memWrite (s.ownerOf true g) (s.fld F.DMA_CQ_BASE_ADDR g * 4096 + tail % 2 ^ log * 32)
              (withPhase log tail (notifyEntry 9 0 k 0 s.tikCount.toNat (s.cq g).overflow
                (leBytes 4 (src + cls * 256 + 4096) ++ leBytes 4 (t.fld F.FLT_CNT_COUNT n)))) ∈ t.out) ∧
          (bitOf (s.fld F.FLT_EN_JRN_EN k) src = false → t.jrn = s.jrn) ∧
          (bitOf (s.fld F.FLT_EN_JRN_EN k) src = true → s.jrn.queue.length < 64 → ∃ r, t.jrn.queue = s.jrn.queue ++ [r] ∧
            r.type = 1 ∧ r.tick = s.tikCount ∧ r.todNs = s.fld F.TIM_TOD_NS_NS 0 ∧ r.todSec = s.fld F.TIM_TOD_SEC_SEC 0 % 65536 ∧
            r.flags = boolNat armed + 2 * boolNat (!bitOf (s.fld F.FLT_EN_ACT_EN k) src || (armed && (react == 3 || react == 4))) ∧
            r.body.take 24 = [k.val, src.val, cls + 16 * react, s.curMode].flatMap (leBytes 1) ++ leBytes 2 inst ++
              leBytes 2 (t.fld F.FLT_CNT_COUNT n) ++ leBytes 8 info.toNat ++ leBytes 4 (t.reg .FLT_STS k).toNat ++
              leBytes 4 (t.fltLive k ||| 2 ^ src.val)))) ∧
      (∀ c, k.val = 14 ∧ src.val = 1 ∨ k.val = 15 ∧ src.val = 0 → s.copy hit = some c → c.die = inst.val →
        t.copy hit = some { c with poison := true, late := true } ∧ ∀ j, j ≠ hit → t.copy j = s.copy j) ∧
      (∀ nd, k.val = 9 → src.val = 1 ∨ src.val = 2 → s.needle hit = some nd → hit / 384 = inst.val →
        t.needle hit = none ∧ ∀ j, j ≠ hit → t.needle j = s.needle j) ∧
      (k.val = 18 → t.samplesOf inst.val = (s.samplesOf inst.val).eraseIdx hit) ∧
      (k.val = 21 → src.val = 0 → let a := inst.val / 8 * 64 + info.toNat % 64
        t.fld F.MSC_SA_CTL_EN a = 0 ∧ t.fld F.MSC_SA_STS_KEYED a = 0 ∧ SMap.get (fun _ => SaKey.zero) t.keys a = SaKey.zero)) ∧
  (∀ (k : Fin 23) (src : Fin 32) (inst : Fin 65536) (info : BitVec 48) (hit : Nat) (lasting : Bool) (s : State),
    (fltSource k src = none → ∃ t, exec (.faultDetect k src inst info hit lasting) s = .next t ∧
      ({ t with flt := s.flt } : State) = { s with out := [] } ∧ t.flt.live = s.flt.live ∧ t.flt.react.length = s.flt.react.length) ∧
    exec (.faultDetect 2 1 inst info hit lasting) s = exec .thermalTrip s ∧
    exec (.faultDetect 2 3 inst info hit lasting) s = exec (.railFault false) s ∧
    ∃ t, exec (.faultConditionCleared k src inst) s = .next t ∧
      (∀ e, e ∈ t.flt.live ↔ e ∈ s.flt.live ∧ e ≠ (k.val, src.val, inst.val)) ∧
      ({ t with flt := { t.flt with live := s.flt.live } } : State) = { s with out := [] }) ∧
  ∀ (a : Agent) (k : Fin 23) (v : BitVec 32) (s : State), s.takes a .FLT_INJ k →
    let src := (v.extractLsb' 0 5).toNat
    let inst := (v.extractLsb' 8 16).toNat
    let m := (v.extractLsb' 28 2).toNat
    (v.getLsbD 31 = false → ∃ t, exec (.faultInject a k v) s = .next t ∧ OnlyRegs (fun _ _ => False) s t) ∧
    (v.getLsbD 31 = true → s.curMode ≠ 10 → ∃ t, exec (.faultInject a k v) s = .next t ∧ bitOf (t.fld F.FLT_STS_STS 0) 5 = true ∧
      (∀ e, e ∈ t.flt.armed → e ∈ s.flt.armed) ∧ OnlyReports (fun _ _ => False) s t) ∧
    (v.getLsbD 31 = true → s.curMode = 10 → (m = 1 ∨ m = 2) → eccSource k src = true → ∃ t, exec (.faultInject a k v) s = .next t ∧
      t.flt.armed = s.flt.armed ++ [(k.val, src, inst, m)] ∧ t.flt.react = s.flt.react ∧
      OnlyRegs (fun _ _ => False) s { t with flt := s.flt }) ∧
    ∀ cls react, v.getLsbD 31 = true → s.curMode = 10 → ¬ ((m = 1 ∨ m = 2) ∧ eccSource k src = true) → fltSource k src = some (cls, react) →
      ∃ t, exec (.faultInject a k v) s = .next t ∧ bitOf (t.fld F.FLT_STS_STS k) src = true ∧
        (s.fld F.FLT_FIRST_VALID k = 0 → t.fld F.FLT_FIRST_SRC k = src ∧ t.fld F.FLT_FIRST_INST k = inst ∧ t.fld F.FLT_FIRST_INFO_INJ k = 1) ∧
        (bitOf (s.fld F.FLT_STS_STS k) src = false → react ≠ 0 → (⟨k, src, inst, 0, 0, s.tikCount, true, s.split 11⟩ : React) ∈ t.flt.react) ∧
        OnlyReports (fun _ _ => False) s t

/-- A fault's reaction of Table 16-3 is taken once, at an edge after the one it was detected in, if enabled (R22,
R381, R382, R383, R384, R391, R425). FAULT_REACTION, in an edge's clock, takes the first reaction due for its block,
source and instance from an earlier tick; without one nothing changes. Not enabled by FLT_EN_ACT, or of a source
without a reaction of its own, it is only taken off. Otherwise a lost module leaves service; a slot, sequence counter,
route, set or group entry is cleared; a queue is flushed; spilling of the die stops; the program holding the staging
fails with CHT_E_OPREAD; and, where FAULTACT was 0 at the detection, SHUT clears EN of every enabled port named, which
leaves UP, HELD or TRAINING, and BINDOFF takes the port to BINDOFF. A unit lost is REMOVED, and from FORWARD or
ECONOMY the device goes to FORWARD-REDUCED with REASON 7; heat and the power cap take it from FORWARD or
FORWARD-REDUCED to ECONOMY; DEVICE_FATAL from modes 4 to 11 to READY with REASON 6. An injected fault changes no mode.
-/
def Obligations.ReactionsFollowAtTheNextEdge : Prop :=
  ∀ (k : Fin 23) (src : Fin 32) (inst : Fin 65536) (s : State),
    let it : React → Prop := fun r => r.block = k.val ∧ r.src = src.val ∧ r.inst = inst.val ∧ s.atEdge = true ∧ r.tick ≠ s.tikCount
    ((∀ r, r ∈ s.flt.react → ¬ it r) → exec (.faultReaction k src inst) s = .next { s with out := [] }) ∧
    ∀ (l1 l2 : List React) (r : React), s.flt.react = l1 ++ r :: l2 → (∀ x, x ∈ l1 → ¬ it x) → it r →
      let u : State := { s with out := [], flt := { s.flt with react := l1 ++ l2 } }
      let i := inst.val
      let x := r.info.toNat % 2 ^ 32
      let act := exec (.faultReaction k src inst) s
      let ports := if src.val = 2 ∨ k.val = 21 then [i] else (List.range 8).map (8 * i + ·)
      (bitOf (s.fld F.FLT_EN_ACT_EN k) src = false → act = .next u) ∧
      (bitOf (s.fld F.FLT_EN_ACT_EN k) src = true → GoesOn act ∧
        ((k.val, src.val) ∉ [(0, 1), (0, 3), (0, 4), (2, 0), (2, 2), (2, 4), (6, 1), (10, 2), (11, 1), (14, 2), (15, 2), (16, 0), (16, 1), (17, 4),
          (17, 6), (19, 0), (19, 1), (20, 2), (21, 0)] → act = .next u) ∧
        (k.val = 0 → src.val = 1 → ∃ t, act = .next t ∧ (∀ m, m ∈ t.flt.modules ↔ m ∈ s.flt.modules ∨ m = i) ∧
          ({ t with flt := u.flt } : State) = u) ∧
        (k.val = 11 → src.val = 1 → ∃ t, act = .next t ∧ t.tabs.slotAt i (r.hit % 3) x = none ∧ ({ t with tabs := s.tabs } : State) = u) ∧
        (k.val = 14 → src.val = 2 → ∃ t, act = .next t ∧ (t.queue (i * 65536 + x)).chain = [] ∧ (t.queue (i * 65536 + x)).wait = [] ∧
          t.tabs = s.tabs ∧ t.needles = s.needles) ∧
        (k.val = 15 → src.val = 2 → ∃ t, act = .next t ∧ (t.readGroup t.tabs i x).getLsbD 96 = false ∧
          ({ t with tabs := s.tabs, prev1 := s.prev1, prev2 := s.prev2 } : State) = u) ∧
        (k.val = 16 → src.val = 0 → ∃ t, act = .next t ∧ SMap.get (fun _ => 0) t.seqs x = 0 ∧
          (∀ j, j ≠ x → SMap.get (fun _ => 0) t.seqs j = SMap.get (fun _ => 0) s.seqs j) ∧ ({ t with seqs := s.seqs } : State) = u) ∧
        (k.val = 16 → src.val = 1 → ∃ t, act = .next t ∧ OnlyRegs (fun q j => j = x ∧ q = if r.hit = 0 then .YRN_ROUTE else .YRN_SET) u t ∧
          (if r.hit = 0 then t.fld F.YRN_ROUTE_V x = 0 else t.reg .YRN_SET x = 0)) ∧
        (k.val = 17 → src.val = 6 → ∃ t, act = .next t ∧ t.fld F.SKN_SPILL_CFG_EN (i / 2) = 0 ∧
          OnlyRegs (fun q j => q = .SKN_SPILL_CFG ∧ j = i / 2) u t) ∧
        (k.val = 10 → src.val = 2 → r.hit = 0 → ∃ t, act = .next t ∧ t.reg .ACT_LAG (i * 128 + x % 128) = 0 ∧
          (∀ j, j < 16 → t.reg .ACT_LAG_MEM ((i * 128 + x % 128) * 16 + j) = 0) ∧ OnlyRegs (fun q _ => q = .ACT_LAG ∨ q = .ACT_LAG_MEM) u t) ∧
        (k.val = 6 → src.val = 1 → ∃ t, act = .next t ∧ ∀ c y, c < 8 → s.ctx (8 * i + c) = some y → y.holds = true →
          t.ctx (8 * i + c) = none ∨ ∃ z, t.ctx (8 * i + c) = some z ∧ z.status = 4 ∧ z.staged = [] ∧ z.holds = false) ∧
        ((k.val, src.val) ∈ [(19, 0), (19, 1), (20, 2), (21, 0)] → r.withheld = true → act = .next u) ∧
        ((k.val, src.val) ∈ [(19, 0), (19, 1), (21, 0)] → r.withheld = false → ∃ t, act = .next t ∧ t.tabs = s.tabs ∧
          ∀ p, p ∈ ports → t.fld F.MAC_PORT_CFG_EN p = 0 ∧ (s.fld F.MAC_PORT_CFG_EN p = 1 →
            (s.portState p = 2 ∨ s.portState p = 4 → t.portState p = 3 ∧ (t.port p).marked = true) ∧
            (s.portState p = 1 → t.portState p = 0))) ∧
        (k.val = 20 → src.val = 2 → r.withheld = false → s.fld F.MAC_PORT_CFG_EN i = 1 → s.portState i = 2 →
          (s.port i).faultRun < s.downDeb i → ∃ t, act = .next t ∧ t.portState i = 3 ∧ (t.port i).marked = false ∧
            t.fld F.MAC_PORT_CFG_EN i = 1) ∧
        (∀ doms : List Nat, (k.val = 0 ∧ src.val = 3 ∧ doms = (List.range 4).map (fun j => 16 + (i - 16) / 4 * 4 + j)) ∨
            (k.val = 2 ∧ src.val = 4 ∧ doms = [i]) ∨ (k.val = 17 ∧ src.val = 4 ∧ doms = [32 + i]) →
          ∃ t, act = .next t ∧ (∀ d, d ∈ doms → d < 64 → t.domState d = if s.domState d = 7 then 7 else 6) ∧
            (r.injected = true → t.curMode = s.curMode) ∧
            (r.injected = false → s.curMode = 4 ∨ s.curMode = 6 → (∀ y, y ∈ l1 ++ l2 → ¬ (y.block = 0 ∧ y.src = 4)) →
              t.curMode = 5 ∧ t.fld F.GLB_MODE_PREV 0 = s.curMode ∧ t.fld F.GLB_MODE_REASON 0 = 7)) ∧
        (∀ m why : Nat, (k.val = 2 ∧ src.val = 0 ∧ m = 6 ∧ why = 5) ∨ (k.val = 2 ∧ src.val = 2 ∧ m = 6 ∧ why = 4) ∨
            (k.val = 0 ∧ src.val = 4 ∧ m = 3 ∧ why = 6) →
          (r.injected = true → act = .next u) ∧
          (r.injected = false → (if m = 6 then s.curMode = 4 ∨ s.curMode = 5 else 4 ≤ s.curMode ∧ s.curMode ≤ 11) →
            ∃ t, act = .next t ∧ t.curMode = m ∧ t.fld F.GLB_MODE_PREV 0 = s.curMode ∧ t.fld F.GLB_MODE_REASON 0 = why ∧
              t.fld F.GLB_MODE_SEQ 0 = (s.fld F.GLB_MODE_SEQ 0 + 1) % 256 ∧ t.fld F.GLB_MODE_STS_AUTO 0 = 1 ∧ t.mode = none)))

/-- The journal writes its queued records within its bucket, and is erased in SWATCH only (R386, R387, R388, R389).
JOURNAL_WRITE with an empty queue changes nothing. With no record left in the bucket the oldest queued record is
dropped and counted. Otherwise it is written: record SEQ below 1,024 of a boot to slot BOOT mod 2 times 1,024 plus
SEQ, a later one to the next ring slot, its header, body and drop count followed by their CRC-32C; other slots stay;
SEQ, the ring slot (from 8,191 on to 2,048) and NEXT advance. JOURNAL_ERASE with ERASE set zeroes every record in
SWATCH and does nothing elsewhere. -/
def Obligations.JournalRecordsAreWritten : Prop :=
  (∀ s : State, s.jrn.queue = [] → exec .journalWrite s = .next { s with out := [] }) ∧
  (∀ (r : JrnRec) (q : List JrnRec) (s : State), s.jrn.queue = r :: q →
    (s.jrn.bucket = 0 → ∃ t, exec .journalWrite s = .next t ∧ t.jrn.queue = q ∧ t.jrn.dropped = true ∧ t.jrn.mram = s.jrn.mram ∧
      t.fld F.BOOT_JRN_STS_DROPS 0 = min 65535 (s.fld F.BOOT_JRN_STS_DROPS 0 + 1) ∧ t.jrn.seq = s.jrn.seq ∧
      OnlyRegs (fun x i => x = .BOOT_JRN_STS ∧ i = 0) s { t with jrn := s.jrn }) ∧
    (s.jrn.bucket ≠ 0 → let boot := s.fld F.BOOT_JRN_STS_BOOT 0
      let slot := if s.jrn.seq < 1024 then boot % 2 * 1024 + s.jrn.seq else s.jrn.ringNext
      let d := leBytes 1 r.type ++ leBytes 1 (r.flags + (if s.jrn.dropped then 4 else 0)) ++ leBytes 2 0 ++ leBytes 4 boot ++
        leBytes 4 s.jrn.seq ++ leBytes 4 0 ++ leBytes 8 r.tick.toNat ++ leBytes 4 r.todNs ++ leBytes 2 r.todSec ++ leBytes 2 0 ++
        padTo 88 r.body ++ leBytes 4 (s.fld F.BOOT_JRN_STS_DROPS 0)
      ∃ t, exec .journalWrite s = .next t ∧ t.jrn.queue = q ∧ t.jrn.dropped = false ∧ t.jrn.bucket = s.jrn.bucket - 1 ∧
        t.jrnRecord slot = d ++ leBytes 4 (crc32c d).toNat ∧ (∀ j, j ≠ slot → t.jrnRecord j = s.jrnRecord j) ∧
        t.jrn.seq = s.jrn.seq + 1 ∧ (s.jrn.seq < 1024 → t.jrn.ringNext = s.jrn.ringNext) ∧
        (1024 ≤ s.jrn.seq → s.jrn.ringNext < 8192 → t.jrn.ringNext = if s.jrn.ringNext = 8191 then 2048 else s.jrn.ringNext + 1) ∧
        t.fld F.BOOT_JRN_STS_NEXT 0 = (if t.jrn.seq < 1024 then boot % 2 * 1024 + t.jrn.seq else t.jrn.ringNext) % 8192 ∧
        t.fld F.BOOT_JRN_STS_BOOT 0 = boot ∧ OnlyRegs (fun x i => x = .BOOT_JRN_STS ∧ i = 0) s { t with jrn := s.jrn })) ∧
  ∀ (a : Agent) (v : BitVec 32) (s : State), s.takes a .BOOT_JRN_CMD 0 →
    ∃ t, exec (.journalErase a v) s = .next t ∧ (∀ j, t.jrnRecord j =
        if v.getLsbD 0 = true ∧ s.curMode = 10 then List.replicate 128 0 else s.jrnRecord j) ∧
      t.jrn.queue = s.jrn.queue ∧ t.jrn.seq = s.jrn.seq ∧ OnlyRegs (fun _ _ => False) s { t with jrn := s.jrn }

/-- Gauge counters are written, ranges are checked, and collections and samples leave in order (R395, R396, R398,
R399, R400, R401, R402, R405). GAUGE_COUNTER_WRITE sets COUNT. COLLECTION_RANGE_WRITE is refused with CFG_REFUSED
where an enabled range would change, or where enabling it would name a register that is no wrapping counter, a STATS
pair beyond the last, or more values than a buffer of 40 + 8N bytes holds; otherwise it is stored. COLLECTION_REQUEST
asks for a collection, or is discarded with SKIPPED while one is BUSY. COLLECTION_DUE acts once, in an edge's clock,
by period, or by request while COUNTERS is 1: it is skipped while BUSY (counted as late), while PF0 may not issue
requests, and with N of 0; otherwise the collection starts, in dump mode with the values of the edge, above 4,096
values in freeze mode with its counters frozen. COLLECTION_DONE, once PF0 may issue, sends header, values and trailer
to buffer SEQ mod 2 as PF0, sets DONE, clears BUSY, and thaws what was frozen with its pending count. SAMPLE_DRAIN
makes the oldest sample of a die a TYPE 10 record. Nothing else changes but what a report touches. -/
def Obligations.GaugeCountsCollectsAndSamples : Prop :=
  (∀ (a : Agent) (c : Fin 320) (v : BitVec 64) (s : State), s.takes a .GGE_CNT c.val →
    ∃ t, exec (.gaugeCounterWrite a c v) s = .next t ∧ t.fld F.GGE_CNT_COUNT c.val = v.toNat % 2 ^ 48 ∧
      OnlyRegs (fun r i => r = .GGE_CNT ∧ i = c.val) s t) ∧
  (∀ (a : Agent) (v : BitVec 32) (s : State), s.takes a .GGE_COL_CMD 0 → let busy := s.fld F.GGE_COL_STS_BUSY 0
    ∃ t, exec (.collectionRequest a v) s = .next t ∧ t.gauge.go = (s.gauge.go || (v.getLsbD 31 && busy == 0)) ∧
      (v.getLsbD 31 = true → busy = 1 → t.fld F.GGE_COL_STS_SKIPPED 0 = 1) ∧
      OnlyRegs (fun r _ => r = .GGE_COL_STS ∧ v.getLsbD 31 = true ∧ busy = 1) s { t with gauge := s.gauge }) ∧
  (∀ (a : Agent) (hi : Bool) (r : Fin 32) (v : BitVec 64) (s : State), let q := if hi then Reg.GGE_COL_RNG_B else .GGE_COL_RNG_A
    s.takes a q r.val →
    let m : BitVec 64 := if hi then 0xFFFFFFFFFFFFFF else 0xFFFFF0FFFFFFF
    let new := (s.reg q r.val &&& ~~~ m) ||| (v &&& m)
    let x := if hi then s.reg .GGE_COL_RNG_A r.val else new
    let y := if hi then new else s.reg .GGE_COL_RNG_B r.val
    let wrong := (s.fld F.GGE_COL_RNG_A_EN r.val = 1 ∧
        ((s.reg .GGE_COL_RNG_A r.val ^^^ x) &&& ~~~ (1 <<< 27 : BitVec 64) ≠ 0 ∨ y ≠ s.reg .GGE_COL_RNG_B r.val)) ∨
      (x.getLsbD 27 = true ∧ (State.rangeSet x y = none ∨ s.fld F.GGE_COL_SIZE_PAGES 0 * 4096 < 40 + 8 * s.collectN r.val x y))
    ∃ t, exec (.collectionRangeWrite a hi r v) s = .next t ∧
      (wrong → t.fld F.GGE_COL_STS_CFG_REFUSED 0 = 1 ∧ OnlyRegs (fun p _ => p = .GGE_COL_STS) s t) ∧
      (¬ wrong → t.reg q r.val = new ∧ OnlyRegs (fun p i => p = q ∧ i = r.val) s t)) ∧
  (∀ s : State, let due := s.atEdge = true ∧ s.gauge.decided ≠ some s.tikCount ∧ (if s.split 12 then s.gauge.go = true
      else s.fld F.GGE_COL_CFG_EN 0 = 1 ∧ s.tikCount.toNat % max 1 (s.fld F.GGE_COL_CFG_PERIOD 0) = 0)
    let frz := decide (4096 < s.collectSet.length)
    let k := s.gauge.nextSeq % 2 ^ 32
    (¬ due → exec .collectionDue s = .next { s with out := [] }) ∧
    (due → ∃ t, exec .collectionDue s = .next t ∧ t.gauge.go = false ∧ t.gauge.decided = some s.tikCount ∧
      (s.fld F.GGE_COL_STS_BUSY 0 = 1 → t.fld F.GGE_COL_STS_SKIPPED 0 = 1 ∧
        t.gauge.col.map (·.seq) = s.gauge.col.map (·.seq) ∧ t.fld F.TIK_OVERRUN_COUNT 6 = min (2 ^ F.TIK_OVERRUN_COUNT.width - 1) (s.fld F.TIK_OVERRUN_COUNT 6 + 1) ∧
        bitOf (t.reg .TIK_OVR_STS 0).toNat 6 = true ∧ bitOf (t.fld F.FLT_STS_STS 1) 3 = true ∧
        OnlyReports (fun r _ => r = .TIK_OVERRUN ∨ r = .TIK_OVR_STS) s t) ∧
      (s.fld F.GGE_COL_STS_BUSY 0 = 0 → s.fnMayIssue 0 = false ∨ s.collectSet = [] → t.fld F.GGE_COL_STS_SKIPPED 0 = 1 ∧
        t.gauge.col = s.gauge.col ∧ OnlyRegs (fun r _ => r = .GGE_COL_STS) s { t with gauge := s.gauge }) ∧
      (s.fld F.GGE_COL_STS_BUSY 0 = 0 → s.fnMayIssue 0 = true → s.collectSet ≠ [] →
        t.gauge.col = some ⟨k, frz, s.tikCount, s.fld F.TIM_TOD_NS_NS 0, s.fld F.TIM_TOD_SEC_SEC 0 % 65536, s.collectSet,
          if frz then [] else s.collectSet.map s.collectValue, 0⟩ ∧ t.gauge.nextSeq = s.gauge.nextSeq + 1 ∧
        t.fld F.GGE_COL_STS_BUSY 0 = 1 ∧ t.fld F.GGE_COL_STS_MODE 0 = boolNat frz ∧ t.fld F.GGE_COL_STS_SEQ 0 = k ∧
        (∀ r i, frz = true → (false, r.key i, 0) ∈ s.collectSet → ¬ t.counts r i) ∧
        OnlyRegs (fun r _ => r = .GGE_COL_STS) s { t with gauge := s.gauge }))) ∧
  (∀ s : State, (s.gauge.col = none ∨ s.fnMayIssue 0 = false → exec .collectionDone s = .next { s with out := [] }) ∧
    ∀ c, s.gauge.col = some c → s.fnMayIssue 0 = true →
      let addr := s.fld F.GGE_COL_ADDR_ADDR (c.seq % 2) * 4096
      let n := c.set.length
      ∃ t, exec .collectionDone s = .next t ∧ t.gauge.col = none ∧ t.fld F.GGE_COL_STS_DONE 0 = 1 ∧ t.fld F.GGE_COL_STS_BUSY 0 = 0 ∧
        t.out = [.memWrite 0 addr (leBytes 4 c.seq ++ leBytes 4 n ++ leBytes 8 c.tick.toNat ++ [if c.freeze then 1 else 0, 0, 0, 0] ++
            leBytes 4 c.lost ++ leBytes 4 c.todNs ++ leBytes 2 c.todSec ++ [0, 0]),
          .memWrite 0 (addr + 32) ((if c.freeze then c.set.map s.collectValue else c.values).flatMap (leBytes 8)),
          .memWrite 0 (addr + 32 + 8 * n) (leBytes 4 c.seq ++ leBytes 4 n)] ∧
        (c.freeze = false → OnlyRegs (fun r _ => r = .GGE_COL_STS ∨ r = .PCX_LINK_STS) { s with out := t.out } { t with gauge := s.gauge }) ∧
        ∀ r i, c.freeze = true → (false, r.key i, 0) ∈ c.set → r.collectable = true → r ≠ .GGE_CNT → r ≠ .PCX_CNT →
          t.counts r i ∧ t.reg r i = s.reg r i + BitVec.ofNat 64 (SMap.get (fun _ => 0) s.gauge.pend (r.key i))) ∧
  ∀ (d : Fin 2) (s : State), (s.samplesOf d.val = [] → exec (.sampleDrain d) s = .next { s with out := [] }) ∧
    ∀ r rest, s.samplesOf d.val = r :: rest → let g := s.fld F.DMA_NTF_MAP_RING 10
      ∃ t, exec (.sampleDrain d) s = .next t ∧ t.samplesOf d.val = rest ∧ t.tikCount = s.tikCount ∧
        OnlyReports (fun q i => q = .GGE_SBUF_STS ∧ i = d.val) s t ∧
        (s.fld F.DMA_NTF_MAP_EN 10 = 1 → s.fld F.DMA_CQ_STS_ENABLED g = 1 → s.fld F.DMA_CQ_CFG_KIND g = 1 → (s.cq g).staged = [] →
          s.cqOpen g = true → let tail := s.fld F.DMA_CQ_STS_TAIL g
          let log := s.fld F.DMA_CQ_CFG_LOG2SIZE g
          t.out = [.memWrite (s.ownerOf true g) (s.fld F.DMA_CQ_BASE_ADDR g * 4096 + tail % 2 ^ log * 32)
            (withPhase log tail (notifyEntry 10 d.val r.a r.b r.tick (s.cq g).overflow r.body))])

/-- Loss of supply, clock or reset takes the device to OFF; a start runs cast-on to READY, MINIMAL or a hang (R410,
R413, R414, R415, R417, R421, R439, R443, R452, R455, R458). POR_N_ASSERT takes the device to OFF and lets it leave by
a start; REFCLK_LOSS does the same but leaves that as it was; RAIL_FAULT and THERMAL_TRIP take it to OFF until POR_N,
the trip output low after a trip, with the source's record written to the journal while VDD_AON holds. RESTART with
GUARD 0xB0 begins a start of cause 2, WATCHDOG_EXPIRE and CAST_ON_STEP_TIMEOUT one of cause 1; otherwise they change
nothing. START from OFF, where POR_N is not still asked for, or at C0 of a start begun: the boot number counts on,
LAST_END, CAUSE and the watchdog are set, then ATTEMPT 3 falls back with reason 1; otherwise ATTEMPT counts one more
and the slot PREFER XOR (ATTEMPT - 1) mod 2 is verified, then the other: with neither the device falls back with
reason 2, else it ends in READY with REASON 2 at tick 0, or hangs at the step given. From OFF, GLB_MODE is then
0x0203_0212 or 0x0202_0313. -/
def Obligations.StartsBeginAndTheDeviceGoesOff : Prop :=
  (∀ s : State,
    (∃ t, exec .porNAssert s = .next t ∧ WentOff s t false ∧ t.boot.needPor = false ∧ t.pwr.trip = false ∧ t.jrn.mram = s.jrn.mram) ∧
    (∃ t, exec .refclkLoss s = .next t ∧ WentOff s t false ∧ t.boot.needPor = s.boot.needPor ∧ t.pwr.trip = s.pwr.trip ∧
      t.jrn.mram = s.jrn.mram) ∧
    (s.curMode = 0 → ∀ aon, exec (.railFault aon) s = .next { s with out := [], boot := { s.boot with needPor := true } }) ∧
    (s.curMode = 0 → exec .thermalTrip s =
      .next { s with out := [], boot := { s.boot with needPor := true }, pwr := { s.pwr with trip := true } }) ∧
    (s.curMode ≠ 0 → ∀ aon, ∃ t, exec (.railFault aon) s = .next t ∧ WentOff s t (!aon) ∧ t.boot.needPor = true ∧
      t.pwr.trip = (s.pwr.trip && !aon) ∧ (aon = true → t.jrn.mram = s.jrn.mram)) ∧
    (s.curMode ≠ 0 → ∃ t, exec .thermalTrip s = .next t ∧ WentOff s t true ∧ t.boot.needPor = true ∧ t.pwr.trip = true) ∧
    (∀ src c, s.curMode ≠ 0 → (src = 1 ∧ c = .thermalTrip) ∨ (src = 3 ∧ c = .railFault false) → bitOf (s.fld F.FLT_STS_STS 2) src = false →
      s.cqRoom (s.fld F.DMA_NTF_MAP_RING 9) = true → bitOf (s.fld F.FLT_EN_JRN_EN 2) src = true → s.jrn.queue.length < 64 →
      ∃ t, exec c s = .next t ∧ (t.jrnRecord s.jrnSlot).take 1 = [1] ∧ ((t.jrnRecord s.jrnSlot).drop 32).take 2 = leBytes 1 2 ++ leBytes 1 src)) ∧
  (∀ (a : Agent) (v : BitVec 32) (s : State), s.takes a .BOOT_CTL 0 → v &&& 0x1D = 0 →
    (v &&& 0xFF00 = 0xB000 → ∃ t, exec (.restart a v) s = .next t ∧ StartBegun s t 2 2) ∧
    (v &&& 0xFF00 ≠ 0xB000 → ∃ t, exec (.restart a v) s = .next t ∧ OnlyRegs (fun _ _ => False) s t)) ∧
  (∀ s : State,
    (s.curMode ≠ 0 ∧ 3 ≤ s.boot.step ∧ s.boot.wdog = 0 → ∃ t, exec .watchdogExpire s = .next t ∧ StartBegun s t 1 1) ∧
    (¬ (s.curMode ≠ 0 ∧ 3 ≤ s.boot.step ∧ s.boot.wdog = 0) → exec .watchdogExpire s = .next { s with out := [] }) ∧
    (s.curMode = 1 ∧ s.boot.step < 8 → ∃ t, exec .castOnStepTimeout s = .next t ∧ StartBegun s t 1 1) ∧
    (¬ (s.curMode = 1 ∧ s.boot.step < 8) → exec .castOnStepTimeout s = .next { s with out := [] })) ∧
  ∀ (c : CastOn) (s : State), let off := s.curMode = 0 ∧ s.boot.needPor = false
    let begun := s.curMode = 1 ∧ s.boot.step = 0
    let a := s.fld F.BOOT_STS_ATTEMPT 0
    let first := (s.fld F.BOOT_CFG_PREFER 0 + a) % 2
    let code : Nat → Nat := fun x => (s.verifySlot x (if x = 0 then c.badA else c.badB)).1
    let stop := c.stop.val
    (¬ off ∧ ¬ begun → exec (.start c) s = .next { s with out := [] }) ∧
    (off ∨ begun → s.boot.prev < 16 → ∃ t, exec (.start c) s = .next t ∧
      t.fld F.BOOT_JRN_STS_BOOT 0 = (s.fld F.BOOT_JRN_STS_BOOT 0 + 1) % 2 ^ 32 ∧ t.fld F.BOOT_STS_LAST_END 0 = s.boot.prev ∧
      t.fld F.BOOT_STS_CAUSE 0 = (if s.curMode = 0 then 0 else s.fld F.BOOT_STS_CAUSE 0) ∧ t.fld F.BOOT_STS_CONFIRMED 0 = 0 ∧
      t.boot.wdog = max 1 (s.fld F.BOOT_CFG_WDOG_MS 0) * 1200000 ∧
      (stop < 2 → t.curMode = 1 ∧ t.boot.step = stop ∧ t.fld F.BOOT_STS_ATTEMPT 0 = a) ∧
      (2 ≤ stop → a = 3 → FellBack t 1) ∧
      (2 = stop → a ≠ 3 → t.curMode = 1 ∧ t.boot.step = 2 ∧ t.fld F.BOOT_STS_ATTEMPT 0 = a + 1) ∧
      (3 ≤ stop → a ≠ 3 → if code first ≠ 0 ∧ code (1 - first) ≠ 0 then FellBack t 2 ∧ (off → t.reg .GLB_MODE 0 = 0x02030212)
        else t.fld F.BOOT_STS_ATTEMPT 0 = a + 1 ∧ t.fld F.BOOT_STS_FB 0 = 0 ∧
          t.fld F.BOOT_STS_SLOT 0 = (if code first = 0 then first else 1 - first) ∧
          (stop < 8 → t.curMode = 1 ∧ t.boot.step = stop) ∧
          (stop = 8 → t.curMode = 3 ∧ t.fld F.GLB_MODE_REASON 0 = 2 ∧ t.boot.step = 8 ∧ t.tikCount = 0 ∧
            (off → t.reg .GLB_MODE 0 = 0x02020313))))

/-- Starts are confirmed, fuses are blown under guard, and slot lines are written (R411, R412, R414, R416). KICK by a
management core reloads the watchdog with WDOG_MS milliseconds of core clocks, by another agent it is ignored. CONFIRM
is remembered for the next edge. START_SETTLED, in an edge's clock, confirms a start after SETTLE times 1,024 ticks in
modes 3 to 11: ATTEMPT 0, CONFIRMED 1. SVN_COMMIT with GUARD 0xB0, confirmed and not fallen back, raises SVN_MIN to
the SVN of the running image; REVOKE0 likewise revokes KH0, where KH1 verified the running image; otherwise both are
discarded. SLOT_WRITE while BUSY is discarded; for a line of 229,376 or more, or the running slot without fallback, it
is refused with REFUSED; otherwise BUSY is set and SLOT_LINE_WRITTEN, which needs a line in progress, stores the 64
bytes and clears BUSY. Nothing else changes. -/
def Obligations.BootControlAndSlots : Prop :=
  (∀ (a : Agent) (v : BitVec 32) (s : State), s.takes a .BOOT_CTL 0 →
    let fuse := v &&& 0xFF00 = 0xB000 ∧ s.fld F.BOOT_STS_CONFIRMED 0 = 1 ∧ s.fld F.BOOT_STS_FB 0 = 0
    (v &&& 0x0F = 0 → ∃ t, exec (.kick a v) s = .next t ∧
      t.boot = (if isMc a then { s.boot with wdog := max 1 (s.fld F.BOOT_CFG_WDOG_MS 0) * 1200000 } else s.boot) ∧
      OnlyRegs (fun _ _ => False) s { t with boot := s.boot }) ∧
    (v &&& 0x1E = 0 → ∃ t, exec (.confirm a v) s = .next t ∧ t.boot = { s.boot with confirm := true } ∧
      OnlyRegs (fun _ _ => False) s { t with boot := s.boot }) ∧
    (v &&& 0x1B = 0 → ∃ t, exec (.svnCommit a v) s = .next t ∧
      (fuse → t.fld F.BOOT_STS_SVN_MIN 0 = max (s.fld F.BOOT_STS_SVN_MIN 0) (s.fld F.BOOT_STS_SVN 0) % 128) ∧
      t.fld F.BOOT_STS_KH0_REV 0 = s.fld F.BOOT_STS_KH0_REV 0 ∧ OnlyRegs (fun r i => r = .BOOT_STS ∧ i = 0 ∧ fuse) s t) ∧
    (v &&& 0x17 = 0 → ∃ t, exec (.revoke0 a v) s = .next t ∧ (fuse → s.boot.kh = 1 → t.fld F.BOOT_STS_KH0_REV 0 = 1) ∧
      t.fld F.BOOT_STS_SVN_MIN 0 = s.fld F.BOOT_STS_SVN_MIN 0 ∧ OnlyRegs (fun r i => r = .BOOT_STS ∧ i = 0 ∧ fuse ∧ s.boot.kh = 1) s t)) ∧
  (∀ s : State, let due := s.atEdge = true ∧ 3 ≤ s.curMode ∧ s.curMode ≤ 11 ∧ s.fld F.BOOT_STS_CONFIRMED 0 = 0 ∧ s.fld F.BOOT_CFG_SETTLE 0 * 1024 ≤ s.boot.settled
    (due → ∃ t, exec .startSettled s = .next t ∧ t.fld F.BOOT_STS_ATTEMPT 0 = 0 ∧ t.fld F.BOOT_STS_CONFIRMED 0 = 1 ∧
      t.fld F.BOOT_STS_SLOT 0 = s.fld F.BOOT_STS_SLOT 0 ∧ OnlyRegs (fun r i => r = .BOOT_STS ∧ i = 0) s t) ∧
    (¬ due → exec .startSettled s = .next { s with out := [] })) ∧
  (∀ (a : Agent) (v : BitVec 32) (s : State), s.takes a .BOOT_SLOT_CTL 0 →
    let slot := boolNat (v.getLsbD 0)
    let line := (v.extractLsb' 1 18).toNat
    let busy := s.fld F.BOOT_SLOT_CTL_BUSY 0
    let data := (List.range 16).flatMap (fun w => leBytes 4 (s.reg .BOOT_SLOT_DATA w).toNat)
    let wrong := 229376 ≤ line ∨ (slot = s.fld F.BOOT_STS_SLOT 0 ∧ s.fld F.BOOT_STS_FB 0 = 0)
    ∃ t, exec (.slotWrite a v) s = .next t ∧ OnlyRegs (fun r i => r = .BOOT_SLOT_CTL ∧ i = 0) s { t with boot := s.boot } ∧
      (busy = 0 → t.fld F.BOOT_SLOT_CTL_SLOT 0 = slot ∧ t.fld F.BOOT_SLOT_CTL_LINE 0 = line) ∧
      (busy = 1 → t.boot = s.boot ∧ t.fld F.BOOT_SLOT_CTL_BUSY 0 = 1) ∧
      (busy = 0 → wrong → t.boot = s.boot ∧ t.fld F.BOOT_SLOT_CTL_REFUSED 0 = 1 ∧ t.fld F.BOOT_SLOT_CTL_BUSY 0 = 0) ∧
      (busy = 0 → ¬ wrong → t.fld F.BOOT_SLOT_CTL_BUSY 0 = 1 ∧ t.boot = { s.boot with line := some (slot * 229376 + line, data) })) ∧
  ∀ s : State, (s.boot.line = none → exec .slotLineWritten s = .next { s with out := [] }) ∧
    ∀ k b, s.boot.line = some (k, b) → ∃ t, exec .slotLineWritten s = .next t ∧ t.fld F.BOOT_SLOT_CTL_BUSY 0 = 0 ∧ t.boot.line = none ∧
      SMap.get (fun _ => none) t.boot.slots k = some b ∧
      (∀ j, j ≠ k → SMap.get (fun _ => none) t.boot.slots j = SMap.get (fun _ => none) s.boot.slots j) ∧
      OnlyRegs (fun r i => r = .BOOT_SLOT_CTL ∧ i = 0) s { t with boot := s.boot }

/-- Power domains, the drain, HIBERNATE and the power window follow their tables (R299, R420, R422, R423, R424, R425,
R426, R427, R428, R429, R439). In an edge's clock, a domain after RAMP ticks in RAMP goes to INIT with the rail good,
else to REMOVED with DOMAIN_FAIL; one in FENCE whose unit is empty and that no other needs goes to RET or OFF, an
octet's keys then zeroed, a stack without pages first to self-refresh; one in RET with its wake ticks passed goes to
ON and is counted; otherwise nothing changes. RESTORE takes a REMOVED domain to OFF in READY and FORWARD-REDUCED, with
a power record, and sets REFUSED otherwise. In DRAIN for READY: DRAIN_COMPLETE with all empty completes the request
with its requester's REASON and TAG; DRAIN_TIMEOUT flushes once after DRAIN_LIMIT ticks. HIBERNATE_ENTRY without a
Chart program flushes until all is empty, then starts the stacks' way into self-refresh, and is over when all are
there. POWER_WINDOW at a window's end shows PWR and PEAK, drives PWR_ALERT_N, decides the throttle level for the next
edge by R428, and raises CAP_EXCEEDED and TEMP_WARN; elsewhere it changes nothing. -/
def Obligations.DomainsModesAndPower : Prop :=
  let rests : Nat → State → State → Prop := fun h s t => t.fld F.HBC_STS_BUSY h = 1 ∧ t.fld F.HBC_STS_STEP h = 1 ∧
    t.hbcAt h = { s.hbcAt h with ret := false, edges := 0, rest := true }
  (∀ (d : Fin 64) (good : Bool) (s : State), let due := s.atEdge = true ∧ s.domState d = 1 ∧ max 1 (s.fld F.PWR_SEQ_RAMP 0) ≤ s.domTicks d
    (¬ due → exec (.domainRampDone d good) s = .next { s with out := [] }) ∧
    (due → ∃ t, exec (.domainRampDone d good) s = .next t ∧ t.domState d = (if good then 2 else 6) ∧
      (∀ e, e ≠ d.val → t.domState e = s.domState e) ∧
      (good = true → OnlyRegs (fun r i => r = .PWR_DOM_STS ∧ i = d.val) s { t with pwr := s.pwr }) ∧
      (good = false → bitOf (t.fld F.FLT_STS_STS 2) 4 = true))) ∧
  (∀ (d : Fin 64) (s : State),
    (s.domState d ≠ 4 ∨ s.atEdge = false → exec (.domainFenceDone d) s = .next { s with out := [] }) ∧
    (s.domState d = 4 → s.atEdge = true → 32 ≤ d.val → d.val < 36 → s.domTicks d < s.fld F.PWR_SEQ_DRAIN_LIMIT 0 →
      s.hbcReady (d - 32) = true → let h := d.val - 32
      (s.pagedIn h ≠ [] → exec (.domainFenceDone d) s = .next { s with out := [] }) ∧
      (s.pagedIn h = [] → ∃ t, exec (.domainFenceDone d) s = .next t ∧ rests h s t ∧
        OnlyRegs (fun r i => r = .HBC_STS ∧ i = h) s { t with hbc := s.hbc })) ∧
    (s.domState d = 4 → s.atEdge = true → ¬ (32 ≤ d.val ∧ d.val < 36 ∧
        (s.fld F.PWR_SEQ_DRAIN_LIMIT 0 ≤ s.domTicks d ∨ s.hbcReady (d - 32) = true)) →
      (¬ (s.unitEmpty d = true ∧ s.unneeded d = true) → exec (.domainFenceDone d) s = .next { s with out := [] }) ∧
      (s.unitEmpty d = true → s.unneeded d = true → ∃ t, exec (.domainFenceDone d) s = .next t ∧
        t.domState d = (if s.domTarget d = 5 then 5 else 0) ∧ (∀ e, e ≠ d.val → t.domState e = s.domState e) ∧
        (s.domTarget d = 5 → OnlyRegs (fun r i => r = .PWR_DOM_STS ∧ i = d.val) s { t with pwr := s.pwr }) ∧
        (s.domTarget d ≠ 5 → 16 ≤ d.val → d.val < 32 → ∀ a, a < 64 →
          SMap.get (fun _ => SaKey.zero) t.keys ((d.val - 16) * 64 + a) = SaKey.zero)))) ∧
  (∀ (d : Fin 64) (s : State), let due := s.atEdge = true ∧ s.domState d = 5 ∧ 3 ≤ SMap.get (fun _ => 0) s.pwr.waking d
    (¬ due → exec (.domainRetWake d) s = .next { s with out := [] }) ∧
    (due → ∃ t, exec (.domainRetWake d) s = .next t ∧ t.domState d = 3 ∧
        t.fld F.PWR_DOM_STS_UPS d = min 65535 (s.fld F.PWR_DOM_STS_UPS d + 1) ∧
        OnlyRegs (fun r i => r = .PWR_DOM_STS ∧ i = d.val) s { t with pwr := s.pwr })) ∧
  (∀ (a : Agent) (v : BitVec 32) (s : State), s.takes a .PWR_DOM_CMD 0 → v &&& 0xC0 = 0x40 →
    let d := (v.extractLsb' 0 6).toNat
    let ok := s.domState d = 6 ∧ (s.curMode = 3 ∨ s.curMode = 5)
    ∃ t, exec (.domainRestore a v) s = .next t ∧ (∀ e, e ≠ d → t.domState e = s.domState e) ∧
      (ok → t.domState d = 0 ∧ (s.jrn.queue.length < 64 → ∃ r, t.jrn.queue = s.jrn.queue ++ [r] ∧ r.type = 4 ∧ r.body.take 4 = [4, d, 6, 0].flatMap (leBytes 1)) ∧
        OnlyReports (fun r i => r = .PWR_DOM_CMD ∨ r = .PWR_DOM_STS ∧ i = d) s { t with pwr := s.pwr }) ∧
      (¬ ok → t.fld F.PWR_DOM_STS_REFUSED d = 1 ∧ t.domState d = s.domState d ∧
        OnlyRegs (fun r i => r = .PWR_DOM_CMD ∨ r = .PWR_DOM_STS ∧ i = d) s t)) ∧
  (∀ s : State, let draining := s.atEdge = true ∧ s.fld F.GLB_MODE_BUSY 0 = 1 ∧ s.fld F.GLB_MODE_TARGET 0 = 3 ∧ s.curMode = 7
    let done := draining ∧ 1 ≤ s.pwr.drain ∧ s.allEmpty = true ∧ s.domsThere = true
    let late := draining ∧ s.fld F.PWR_SEQ_DRAIN_LIMIT 0 ≤ s.pwr.drain ∧ s.pwr.flushed = false
    let down := s.fld F.GLB_MODE_BUSY 0 = 1 ∧ s.fld F.GLB_MODE_TARGET 0 = 11 ∧ 1 ≤ s.pwr.edges ∧ s.pwr.hib = false ∧
      ∀ k x, (k, some x) ∉ s.chart.ctxs
    (¬ done → exec .drainComplete s = .next { s with out := [] }) ∧
    (done → ∃ t, exec .drainComplete s = .next t ∧ t.curMode = 3 ∧ t.fld F.GLB_MODE_PREV 0 = 7 ∧ t.fld F.GLB_MODE_BUSY 0 = 0 ∧
      t.fld F.GLB_MODE_REASON 0 = s.reqReason ∧ t.fld F.GLB_MODE_SEQ 0 = (s.fld F.GLB_MODE_SEQ 0 + 1) % 256 ∧
      t.fld F.GLB_MODE_STS_DONE 0 = 1 ∧ t.fld F.GLB_MODE_STS_TAG 0 = s.reqTag % 256 ∧ t.mode = none ∧
      t.fld F.PWR_CAP_STS_LEVEL 0 = 0 ∧ (∀ h, h ∈ s.dieStacks 0 ++ s.dieStacks 1 → s.hbcOn h = true → t.fld F.HBC_SPD_CFG2_CAP_SP h = 0) ∧
      OnlyReports (fun r _ => r ∈ [.GLB_MODE, .GLB_MODE_STS, .PWR_CAP_STS, .HBC_SPD_CFG2]) s { t with pwr := s.pwr, mode := s.mode }) ∧
    (¬ late → exec .drainTimeout s = .next { s with out := [] }) ∧
    (late → SMap.wf (fun _ => QSt.empty) s.queues = true → ∃ t, exec .drainTimeout s = .next t ∧ t.pwr.flushed = true ∧ t.txq = [] ∧
      (∀ k, (t.queue k).chain = [] ∧ (t.queue k).wait = []) ∧ t.curMode = 7 ∧ t.tabs = s.tabs ∧ t.needles = s.needles) ∧
    (¬ down → exec .hibernateEntry s = .next { s with out := [] }) ∧
    (down → s.allEmpty = true → s.stacksRest = true →
      exec .hibernateEntry s = .next { s with out := [], pwr := { s.pwr with hib := true } }) ∧
    (down → s.allEmpty = true → s.stacksRest = false → ∃ t, exec .hibernateEntry s = .next t ∧
      (∀ h, h ∈ s.dieStacks 0 ++ s.dieStacks 1 → s.hbcReady h = true → rests h s t) ∧
      OnlyRegs (fun r _ => r = .HBC_STS) s { t with hbc := s.hbc }) ∧
    (down → s.allEmpty = false → SMap.wf (fun _ => QSt.empty) s.queues = true → ∃ t, exec .hibernateEntry s = .next t ∧
      t.pwr = s.pwr ∧ t.txq = [] ∧ ∀ k, (t.queue k).chain = [] ∧ (t.queue k).wait = [])) ∧
  ∀ (w : Fin 1024) (s : State), let p := w.val
    let cap := min 810 (s.fld F.PWR_CAP_CAP 0)
    let en := s.fld F.PWR_CAP_EN 0 = 1
    let ends := s.atEdge = true ∧ s.pwr.level = none ∧ 2 ≤ s.curMode ∧ s.tikCount.toNat % (16 * max 1 (s.fld F.PWR_CAP_WIN 0)) = 0
    let lvl := s.fld F.PWR_CAP_STS_LEVEL 0
    let hot := s.tjWarn ≤ s.tj
    let cool := (en → p + 10 * s.fld F.PWR_CAP_HYST 0 ≤ cap) ∧ s.tj ≤ s.tjWarn - 5
    let floor := if s.curMode = 6 then min 4 (s.fld F.PWR_CAP_ECO_LVL 0) else 0
    let lv : Nat × Nat := if s.curMode < 4 ∨ 8 < s.curMode then (0, 0)
      else if (en ∧ cap < p) ∨ hot then (min 4 (lvl + 1), 0)
      else if ¬ cool then (lvl, 0)
      else if max 1 (s.fld F.PWR_CAP_DWELL 0) ≤ s.pwr.below + 1 then (max floor (lvl - 1), 0) else (lvl, s.pwr.below + 1)
    (¬ ends → exec (.powerWindow w) s = .next { s with out := [] }) ∧
    (ends → ∃ t, exec (.powerWindow w) s = .next t ∧ t.fld F.PWR_CAP_STS_PWR 0 = p ∧
      t.fld F.PWR_CAP_STS_PEAK 0 = max p (s.fld F.PWR_CAP_STS_PEAK 0) ∧ t.fld F.PWR_CAP_STS_LEVEL 0 = lvl ∧
      t.fld F.PWR_CAP_STS_ALERT 0 = (if p ≤ cap then 0 else if en then 1 else s.fld F.PWR_CAP_STS_ALERT 0) ∧
      t.pwr = { s.pwr with level := some lv.1, below := lv.2 } ∧
      (en → cap < p → bitOf (t.fld F.FLT_STS_STS 2) 2 = true) ∧ (hot → bitOf (t.fld F.FLT_STS_STS 2) 0 = true) ∧
      OnlyReports (fun r _ => r = .PWR_CAP_STS) s { t with pwr := s.pwr })

/-- Keys are loaded and zeroed, debug access is unlocked by challenge, and the TAP and the SMBus answer (R437, R438,
R439, R440, R441, R442, R443, R459). A KEY_LOAD on an SA whose EN is 0 moves the octet's staged key, for XPN with its
salt, into the SA and zeroes the staging; on an enabled SA it is discarded with REFUSED. SA_DISABLE clears EN and
zeroes the key. CHALLENGE fills SEC_CHAL with a nonce of four free values (log entry 2). UNLOCK_GO of PF0 in the clock
of the TAP's is discarded; in lockout it is discarded; without a nonce or while BUSY it sets REFUSED; otherwise the
response for the requested level is verified, BUSY. UNLOCK_VERIFY_DONE zeroes the nonce: a pass sets the level for the
next edge and raises DEBUG_UNLOCK, a failure raises UNLOCK_FAIL and is counted, at three with LOCKOUT. LOCK returns
the level to 0 at the next edge, or sets REFUSED in SWATCH or with it pending. The TAP holds its instruction, EXTEST
takes the balls until TAP_RESET. SMBUS_REQUEST answers a sensor's value in every mode but OFF, of present stacks only.
Nothing else changes. -/
def Obligations.KeysDebugAndSensors : Prop :=
  (∀ (a : Agent) (i : Fin 1024) (v : BitVec 32) (s : State), s.takes a .MSC_SA_CTL i.val →
    let o := i.val / 64
    let mine : Reg → Nat → Prop := fun r j => (r = .MSC_SA_CTL ∨ r = .MSC_SA_STS) ∧ j = i.val
    let key : State → SaKey := fun t => SMap.get (fun _ => SaKey.zero) t.keys i.val
    (s.fld F.MSC_SA_CTL_EN i.val = 1 → v.getLsbD 0 = true → ∃ t, exec (.keyLoad a i v) s = .next t ∧
      t.fld F.MSC_SA_STS_REFUSED i.val = 1 ∧ OnlyRegs mine s t) ∧
    (s.fld F.MSC_SA_CTL_EN i.val = 0 → ∃ t, exec (.keyLoad a i v) s = .next t ∧ (key t).key = (s.stagedKey o).key ∧
      (v.getLsbD 7 = true → key t = s.stagedKey o) ∧ t.fld F.MSC_SA_STS_KEYED i.val = 1 ∧ t.fld F.MSC_SA_STS_EXHAUSTED i.val = 0 ∧
      t.fld F.MSC_SA_CTL_EN i.val = boolNat (v.getLsbD 0) ∧
      (∀ w, w < 8 → t.reg .MSC_KEY (o * 8 + w) = 0) ∧ (∀ w, w < 3 → t.reg .MSC_SALT (o * 3 + w) = 0) ∧
      (∀ j, j ≠ i.val → SMap.get (fun _ => SaKey.zero) t.keys j = SMap.get (fun _ => SaKey.zero) s.keys j) ∧
      OnlyRegs (fun r j => mine r j ∨ r = .MSC_KEY ∧ j / 8 = o ∨ r = .MSC_SALT ∧ j / 3 = o) s { t with keys := s.keys }) ∧
    ∃ t, exec (.saDisable a i v) s = .next t ∧ t.fld F.MSC_SA_CTL_EN i.val = 0 ∧ t.fld F.MSC_SA_STS_KEYED i.val = 0 ∧ key t = SaKey.zero ∧
      (∀ j, j ≠ i.val → SMap.get (fun _ => SaKey.zero) t.keys j = SMap.get (fun _ => SaKey.zero) s.keys j) ∧
      OnlyRegs mine s { t with keys := s.keys }) ∧
  (∀ (a : Agent) (v : BitVec 32) (s : State), s.takes a .SEC_DBG_CTL 0 →
    let l := (v.extractLsb' 2 2).toNat
    let swatch := s.curMode = 10 ∨ (s.fld F.GLB_MODE_BUSY 0 = 1 ∧ s.fld F.GLB_MODE_TARGET 0 = 10)
    let here : Reg → Nat → Prop := fun r _ => r = .SEC_DBG_CTL ∨ r = .SEC_DBG_STS
    (v &&& 0x12 = 0 → ∃ t, exec (.challenge a v) s = .next t ∧ t.fld F.SEC_DBG_STS_NONCE 0 = 1 ∧ t.fresh = s.fresh + 4 ∧
      (∀ w, w < 4 → t.reg .SEC_CHAL (2 * w) = Config.freeValue (s.fresh + w) &&& 0xFFFFFFFF ∧
        t.reg .SEC_CHAL (2 * w + 1) = Config.freeValue (s.fresh + w) >>> 32) ∧
      OnlyRegs (fun r j => here r j ∨ r = .SEC_CHAL) s { t with fresh := s.fresh }) ∧
    (a = .fn 0 → exec (.unlockGo a v true) s = .next { s with out := [] }) ∧
    (∀ both, both = false ∨ a ≠ .fn 0 → v &&& 0x11 = 0 → ∃ t, exec (.unlockGo a v both) s = .next t ∧
      OnlyRegs here s { t with sec := s.sec } ∧
      (s.fld F.SEC_DBG_STS_LOCKOUT 0 = 1 → t.sec = s.sec ∧ t.reg .SEC_DBG_STS 0 = s.reg .SEC_DBG_STS 0) ∧
      (s.fld F.SEC_DBG_STS_LOCKOUT 0 = 0 → s.fld F.SEC_DBG_STS_NONCE 0 = 0 ∨ s.fld F.SEC_DBG_STS_BUSY 0 = 1 →
        t.sec = s.sec ∧ t.fld F.SEC_DBG_STS_REFUSED 0 = 1) ∧
      (s.fld F.SEC_DBG_STS_LOCKOUT 0 = 0 → s.fld F.SEC_DBG_STS_NONCE 0 = 1 → s.fld F.SEC_DBG_STS_BUSY 0 = 0 →
        t.fld F.SEC_DBG_STS_BUSY 0 = 1 ∧ t.sec = { s.sec with asked := some (l, (l == 1 || l == 2) && s.responsePasses l) })) ∧
    (v &&& 0x03 = 0 → ∃ t, exec (.lock a v) s = .next t ∧ OnlyRegs here s { t with sec := s.sec } ∧
      (swatch → t.sec = s.sec ∧ t.fld F.SEC_DBG_STS_REFUSED 0 = 1) ∧ (¬ swatch → t.sec = { s.sec with level := some 0 }))) ∧
  (∀ s : State, (s.sec.asked = none → exec .unlockVerifyDone s = .next { s with out := [] }) ∧
    ∀ l pass, s.sec.asked = some (l, pass) → ∃ t, exec .unlockVerifyDone s = .next t ∧ t.sec.asked = none ∧
      t.fld F.SEC_DBG_STS_BUSY 0 = 0 ∧ t.fld F.SEC_DBG_STS_NONCE 0 = 0 ∧ (∀ w, w < 8 → t.reg .SEC_CHAL w = 0) ∧
      t.sec.level = (if pass then some l else s.sec.level) ∧ bitOf (t.fld F.FLT_STS_STS 8) (if pass then 0 else 1) = true ∧
      t.fld F.SEC_DBG_STS_FAILS 0 = (if pass then s.fld F.SEC_DBG_STS_FAILS 0 else min 3 (s.fld F.SEC_DBG_STS_FAILS 0 + 1)) ∧
      (pass = false → 2 ≤ s.fld F.SEC_DBG_STS_FAILS 0 → t.fld F.SEC_DBG_STS_LOCKOUT 0 = 1) ∧
      (pass = true ∨ s.fld F.SEC_DBG_STS_FAILS 0 < 2 → t.fld F.SEC_DBG_STS_LOCKOUT 0 = s.fld F.SEC_DBG_STS_LOCKOUT 0) ∧
      OnlyReports (fun r _ => r = .SEC_DBG_STS ∨ r = .SEC_CHAL) s { t with sec := s.sec }) ∧
  (∀ (i : TapInstr) (s : State), (∃ t, exec (.tapInstruction i) s = .next t ∧ t.sec.tap = i ∧ t.sec.level = s.sec.level ∧
      t.sec.extest = (s.sec.extest || (i == .extest || i == .pulse || i == .train)) ∧
      (i ≠ .idcode → t.out = []) ∧ (i = .idcode → t.out.length = 1) ∧ OnlyRegs (fun _ _ => False) s { t with sec := s.sec, fresh := s.fresh }) ∧
    ∃ t, exec .tapReset s = .next t ∧ t.sec.extest = false ∧ t.sec.level = s.sec.level ∧ t.sec.asked = s.sec.asked ∧
      OnlyRegs (fun _ _ => False) s { t with sec := s.sec }) ∧
  ∀ (q : SmbusReq) (s : State), exec (.smbusRequest q) s = .next { s with out :=
    if s.curMode = 0 then [] else match q with
      | .state => [.sensor 0 s.curMode]
      | .numeric i => if i = 1 then [.sensor 1 (s.fld F.PWR_TEMP_TJ 0)] else if i = 2 then [.sensor 2 (s.fld F.PWR_CAP_STS_PWR 0)]
        else if i = 0 ∨ (absentDomains s.part).contains (29 + i.val) then []
        else [.sensor i (s.fld F.HBC_TEMP_TEMP (i.val - 3))] }
end

