-- ==== Sys2Proof/Laws/Map.lean ====
section
/-! SUPPORT. The laws of sparse maps: what a key reads after a write, and that every operation keeps the canonical form. -/

namespace Sys2Proof.Machine

variable {α : Type} [DecidableEq α] {d : Nat → α}

theorem SMap.wfFrom_mono {m : SMap α} {a b : Nat} (h : SMap.wfFrom d b m = true) (hab : a ≤ b) :
    SMap.wfFrom d a m = true := by
  cases m with
  | nil => rfl
  | cons e m =>
    obtain ⟨k, v⟩ := e
    simp only [SMap.wfFrom, Bool.and_eq_true, decide_eq_true_eq] at h ⊢
    exact ⟨⟨by omega, h.1.2⟩, h.2⟩

/-- A key below all listed keys reads the default. -/
theorem SMap.get_of_lt {m : SMap α} {lo k : Nat} (h : SMap.wfFrom d lo m = true) (hk : k < lo) : SMap.get d m k = d k := by
  induction m generalizing lo with
  | nil => rfl
  | cons e m ih =>
    obtain ⟨j, v⟩ := e
    simp only [SMap.wfFrom, Bool.and_eq_true, decide_eq_true_eq] at h
    simp only [SMap.get]
    rw [if_neg (by omega)]
    exact ih h.2 (by omega)

omit [DecidableEq α] in
theorem SMap.get_put (m : SMap α) (k j : Nat) (v : α) :
    SMap.get d (SMap.put m k v) j = if k = j then v else SMap.get d m j := by
  induction m with
  | nil => simp only [SMap.put, SMap.get]
  | cons e m ih =>
    obtain ⟨i, w⟩ := e
    simp only [SMap.put]
    split
    · simp only [SMap.get]
    · split
      · subst i; simp only [SMap.get]; split <;> rfl
      · simp only [SMap.get, ih]
        split
        · subst i; rw [if_neg (by omega)]
        · rfl

omit [DecidableEq α] in
theorem SMap.get_drop (m : SMap α) (k j : Nat) :
    SMap.get d (SMap.drop m k) j = if k = j then d k else SMap.get d m j := by
  induction m with
  | nil => simp only [SMap.drop, SMap.get]; split <;> simp_all
  | cons e m ih =>
    obtain ⟨i, w⟩ := e
    simp only [SMap.drop]
    split
    · subst i
      rw [ih]
      simp only [SMap.get]
      split <;> rfl
    · simp only [SMap.get, ih]
      split
      · subst i; rw [if_neg (by omega)]
      · rfl

/-- What a key reads after a write. -/
theorem SMap.get_set (m : SMap α) (k j : Nat) (v : α) :
    SMap.get d (SMap.set d m k v) j = if k = j then v else SMap.get d m j := by
  unfold SMap.set
  split
  · rename_i hv; rw [SMap.get_drop, hv]
  · exact SMap.get_put m k j v

theorem SMap.wfFrom_drop {m : SMap α} {lo : Nat} (h : SMap.wfFrom d lo m = true) (k : Nat) :
    SMap.wfFrom d lo (SMap.drop m k) = true := by
  induction m generalizing lo with
  | nil => rfl
  | cons e m ih =>
    obtain ⟨i, w⟩ := e
    simp only [SMap.wfFrom, Bool.and_eq_true, decide_eq_true_eq] at h
    simp only [SMap.drop]
    split
    · exact SMap.wfFrom_mono (ih h.2) (by omega)
    · simp only [SMap.wfFrom, Bool.and_eq_true, decide_eq_true_eq]
      exact ⟨h.1, ih h.2⟩

theorem SMap.wfFrom_put {m : SMap α} {lo : Nat} (h : SMap.wfFrom d lo m = true) {k : Nat} {v : α} (hk : lo ≤ k)
    (hv : v ≠ d k) : SMap.wfFrom d lo (SMap.put m k v) = true := by
  induction m generalizing lo with
  | nil => simp [SMap.put, SMap.wfFrom, hk, hv]
  | cons e m ih =>
    obtain ⟨i, w⟩ := e
    simp only [SMap.wfFrom, Bool.and_eq_true, decide_eq_true_eq] at h
    simp only [SMap.put]
    split
    · simp only [SMap.wfFrom, Bool.and_eq_true, decide_eq_true_eq]
      exact ⟨⟨hk, by simp [hv]⟩, ⟨by omega, h.1.2⟩, h.2⟩
    · split
      · subst i
        simp only [SMap.wfFrom, Bool.and_eq_true, decide_eq_true_eq]
        exact ⟨⟨hk, by simp [hv]⟩, h.2⟩
      · simp only [SMap.wfFrom, Bool.and_eq_true, decide_eq_true_eq]
        exact ⟨h.1, ih h.2 (by omega)⟩

/-- A write keeps the canonical form. -/
theorem SMap.wf_set {m : SMap α} (h : SMap.wf d m = true) (k : Nat) (v : α) : SMap.wf d (SMap.set d m k v) = true := by
  unfold SMap.set
  split
  · exact SMap.wfFrom_drop h k
  · exact SMap.wfFrom_put h (Nat.zero_le _) ‹_›

/-- Taking entries out keeps the canonical form. -/
theorem SMap.wfFrom_filter {m : SMap α} {lo : Nat} (h : SMap.wfFrom d lo m = true) (p : Nat × α → Bool) :
    SMap.wfFrom d lo (m.filter p) = true := by
  induction m generalizing lo with
  | nil => rfl
  | cons e m ih =>
    obtain ⟨i, w⟩ := e
    simp only [SMap.wfFrom, Bool.and_eq_true, decide_eq_true_eq] at h
    rw [List.filter_cons]
    split
    · simp only [SMap.wfFrom, Bool.and_eq_true, decide_eq_true_eq]
      exact ⟨h.1, ih h.2⟩
    · exact ih (SMap.wfFrom_mono h.2 (by omega))

theorem SMap.wf_filter {m : SMap α} (h : SMap.wf d m = true) (p : Nat × α → Bool) : SMap.wf d (m.filter p) = true :=
  SMap.wfFrom_filter h p

/-- A map changed step by step stays canonical. -/
theorem SMap.wf_foldl {β : Type} (l : List β) (f : SMap α → β → SMap α) (hf : ∀ m b, SMap.wf d m = true → SMap.wf d (f m b) = true)
    {m : SMap α} (h : SMap.wf d m = true) : SMap.wf d (l.foldl f m) = true := by
  induction l generalizing m with
  | nil => exact h
  | cons b l ih => exact ih (hf m b h)

theorem SMap.wf_update (f : Nat → α → α) {m : SMap α} (h : SMap.wf d m = true) : SMap.wf d (SMap.update d f m) = true :=
  SMap.wf_foldl m _ (fun _ _ h => SMap.wf_set h _ _) h

/-- A canonical map is determined by what its keys read. -/
theorem SMap.ext_of_get {a b : SMap α} {lo : Nat} (ha : SMap.wfFrom d lo a = true) (hb : SMap.wfFrom d lo b = true)
    (h : ∀ k, SMap.get d a k = SMap.get d b k) : a = b := by
  induction a generalizing b lo with
  | nil =>
    cases b with
    | nil => rfl
    | cons e b =>
      obtain ⟨j, w⟩ := e
      have hj := h j
      simp only [SMap.wfFrom, Bool.and_eq_true, decide_eq_true_eq, Bool.not_eq_true', decide_eq_false_iff_not] at hb
      simp only [SMap.get, if_pos] at hj
      exact absurd hj.symm hb.1.2
  | cons e a ih =>
    obtain ⟨i, v⟩ := e
    simp only [SMap.wfFrom, Bool.and_eq_true, decide_eq_true_eq, Bool.not_eq_true', decide_eq_false_iff_not] at ha
    cases b with
    | nil =>
      have hi := h i
      simp only [SMap.get, if_pos] at hi
      exact absurd hi ha.1.2
    | cons e' b =>
      obtain ⟨j, w⟩ := e'
      simp only [SMap.wfFrom, Bool.and_eq_true, decide_eq_true_eq, Bool.not_eq_true', decide_eq_false_iff_not] at hb
      have hij : i = j := by
        rcases Nat.lt_trichotomy i j with hlt | heq | hgt
        · have hi := h i
          simp only [SMap.get, if_pos] at hi
          rw [if_neg (by omega), SMap.get_of_lt hb.2 (by omega)] at hi
          exact absurd hi ha.1.2
        · exact heq
        · have hj := h j
          simp only [SMap.get, if_pos] at hj
          rw [if_neg (by omega), SMap.get_of_lt ha.2 (by omega)] at hj
          exact absurd hj.symm hb.1.2
      subst j
      have hv : v = w := by have := h i; simpa [SMap.get] using this
      subst w
      have : a = b := by
        refine ih ha.2 hb.2 (fun k => ?_)
        by_cases hk : i = k
        · subst k; rw [SMap.get_of_lt ha.2 (by omega), SMap.get_of_lt hb.2 (by omega)]
        · have := h k; simpa [SMap.get, hk] using this
      rw [this]

end Sys2Proof.Machine
end

