-- ==== Sys2Proof/Laws/Reg.lean ====
section
/-! SUPPORT. The laws of registers and their fields: what a register or a field reads after a write of one. -/

namespace Sys2Proof.Machine

theorem Reg.code_lt (r : Reg) : r.code < 256 := by cases r <;> decide

/-- Two register instances have one key only when they are the same. -/
theorem Reg.key_eq {r q : Reg} {i j : Nat} : r.key i = q.key j ↔ r = q ∧ i = j := by
  have hr := r.code_lt
  have hq := q.code_lt
  constructor
  · intro h
    unfold Reg.key at h
    exact ⟨Reg.code_inj (by omega), by omega⟩
  · rintro ⟨rfl, rfl⟩; rfl

/-- The register after a write of a register. -/
theorem State.reg_setReg (s : State) (r q : Reg) (i j : Nat) (v : BitVec 64) :
    (s.setReg r i v).reg q j = if r = q ∧ i = j then v else s.reg q j := by
  simp only [State.reg, State.setReg, SMap.get_set, Reg.key_eq]

@[simp] theorem State.reg_setReg_self (s : State) (r : Reg) (i : Nat) (v : BitVec 64) : (s.setReg r i v).reg r i = v := by
  simp [State.reg_setReg]

theorem State.reg_setReg_ne {s : State} {r q : Reg} {i j : Nat} {v : BitVec 64} (h : ¬(r = q ∧ i = j)) :
    (s.setReg r i v).reg q j = s.reg q j := by rw [State.reg_setReg, if_neg h]

/-- A bit of a field mask. -/
theorem getLsbD_fieldMask (lsb w i : Nat) :
    (fieldMask lsb w).getLsbD i = (decide (i < 64) && decide (lsb ≤ i) && decide (i < lsb + w)) := by
  simp only [fieldMask, BitVec.getLsbD_shiftLeft, BitVec.getLsbD_setWidth, BitVec.getLsbD_allOnes]
  by_cases h1 : i < 64 <;> by_cases h2 : i < lsb <;> by_cases h3 : i - lsb < 64 <;> by_cases h4 : i - lsb < w <;>
    simp [h1, h2, h3, h4] <;> omega

/-- A bit of a value with a field replaced. -/
theorem getLsbD_putField (v : BitVec 64) (lsb w x i : Nat) :
    (putField v lsb w x).getLsbD i =
      if lsb ≤ i ∧ i < lsb + w ∧ i < 64 then x.testBit (i - lsb) else v.getLsbD i := by
  simp only [putField, BitVec.getLsbD_or, BitVec.getLsbD_and, BitVec.getLsbD_not, getLsbD_fieldMask,
    BitVec.getLsbD_shiftLeft, BitVec.getLsbD_setWidth, BitVec.getLsbD_ofNat]
  by_cases h1 : i < 64
  · by_cases h2 : lsb ≤ i
    · by_cases h3 : i < lsb + w
      · have h4 : i - lsb < w := by omega
        have h5 : i - lsb < 64 := by omega
        simp [h1, h2, h3, h4, h5]
      · have h4 : ¬ (i - lsb < w) := by omega
        simp [h1, h2, h3, h4]
    · have h3 : i < lsb := by omega
      simp [h1, h2, h3]
  · have : v.getLsbD i = false := BitVec.getLsbD_of_ge _ _ (by omega)
    simp [h1, this]

/-- A bit of a field's value. -/
theorem testBit_getField (v : BitVec 64) (lsb w i : Nat) :
    (getField v lsb w).testBit i = (decide (i < w) && v.getLsbD (lsb + i)) := by
  rw [getField, ← BitVec.getLsbD, BitVec.getLsbD_extractLsb']

/-- A field reads the low bits of what was put there. -/
theorem getField_putField_self (v : BitVec 64) (lsb w x : Nat) (h : lsb + w ≤ 64) :
    getField (putField v lsb w x) lsb w = x % 2 ^ w := by
  refine Nat.eq_of_testBit_eq (fun i => ?_)
  rw [testBit_getField, getLsbD_putField, Nat.testBit_mod_two_pow]
  by_cases hi : i < w
  · have h1 : lsb + i < lsb + w := by omega
    have h2 : lsb + i < 64 := by omega
    simp [hi, h1, h2]
  · simp [hi]

/-- A field apart from the one that was put reads what it read. -/
theorem getField_putField_ne (v : BitVec 64) (lsb w x l n : Nat) (h : l + n ≤ lsb ∨ lsb + w ≤ l) :
    getField (putField v lsb w x) l n = getField v l n := by
  refine Nat.eq_of_testBit_eq (fun i => ?_)
  rw [testBit_getField, testBit_getField, getLsbD_putField]
  by_cases hi : i < n
  · have : ¬ (lsb ≤ l + i ∧ l + i < lsb + w ∧ l + i < 64) := by omega
    simp [hi, this]
  · simp [hi]

/-- A field after a write of a field. -/
theorem State.fld_setFld (s : State) (f g : Fld) (i j x : Nat) :
    (s.setFld f i x).fld g j =
      if f.reg = g.reg ∧ i = j then getField (putField (s.reg f.reg i) f.lsb f.width x) g.lsb g.width else s.fld g j := by
  simp only [State.fld, State.setFld, State.reg_setReg]
  split <;> rfl

/-- A field that lies in its register reads what was written. -/
theorem State.fld_setFld_self (s : State) (f : Fld) (i x : Nat) (h : f.lsb + f.width ≤ 64) :
    (s.setFld f i x).fld f i = x % 2 ^ f.width := by
  rw [State.fld_setFld, if_pos ⟨rfl, rfl⟩, getField_putField_self _ _ _ _ h]

/-- A field of another register, of another instance, or of other bits reads what it read. -/
theorem State.fld_setFld_ne (s : State) (f g : Fld) (i j x : Nat)
    (h : f.reg ≠ g.reg ∨ i ≠ j ∨ g.lsb + g.width ≤ f.lsb ∨ f.lsb + f.width ≤ g.lsb) :
    (s.setFld f i x).fld g j = s.fld g j := by
  rw [State.fld_setFld]
  split
  · rename_i he
    obtain ⟨he, rfl⟩ := he
    rcases h with h | h | h
    · exact absurd he h
    · exact absurd rfl h
    · rw [getField_putField_ne _ _ _ _ _ _ h, State.fld, he]
  · rfl

/-- A register after a write of a field. -/
theorem State.reg_setFld (s : State) (f : Fld) (i x : Nat) (q : Reg) (j : Nat) :
    (s.setFld f i x).reg q j = if f.reg = q ∧ i = j then putField (s.reg f.reg i) f.lsb f.width x else s.reg q j := by
  rw [State.setFld, State.reg_setReg]

/-- A field after a write of a whole register. -/
theorem State.fld_setReg (s : State) (r : Reg) (i : Nat) (v : BitVec 64) (g : Fld) (j : Nat) :
    (s.setReg r i v).fld g j = if r = g.reg ∧ i = j then getField v g.lsb g.width else s.fld g j := by
  simp only [State.fld, State.reg_setReg]
  split <;> rfl

/-- A field is below two to its width. -/
theorem State.fld_lt (s : State) (f : Fld) (i : Nat) : s.fld f i < 2 ^ f.width := by
  unfold State.fld getField; exact BitVec.isLt _

/-- The register file stays canonical. -/
theorem State.canonical_setReg {s : State} (h : s.RegsCanonical) (r : Reg) (i : Nat) (v : BitVec 64) :
    (s.setReg r i v).RegsCanonical := ⟨SMap.wf_set h.1 _ _, h.2⟩

/-- Register files with the same reads are the same, both canonical. -/
theorem State.regs_ext {s t : State} (hs : s.RegsCanonical) (ht : t.RegsCanonical)
    (h : ∀ k, SMap.get Reg.resetAt s.regs k = SMap.get Reg.resetAt t.regs k) : s.regs = t.regs :=
  SMap.ext_of_get hs.1 ht.1 h

end Sys2Proof.Machine
end

