-- ==== Sys2Proof/Laws/Frame.lean ====
section
/-! SUPPORT. Frames: how `OnlyRegs` and `OnlyReports` compose, what each shared operation of Ops, Gate and Report leaves
alone, and what a write that is taken comes to. -/

namespace Sys2Proof.Machine

theorem RegsBut.refl (p) (s : State) : RegsBut p s s := fun _ _ _ => rfl

theorem RegsBut.trans {p} {s t u : State} (h : RegsBut p s t) (k : RegsBut p t u) : RegsBut p s u :=
  fun r i hp => (k r i hp).trans (h r i hp)

theorem RegsBut.mono {p q : Reg → Nat → Prop} {s t : State} (h : RegsBut p s t) (hpq : ∀ r i, p r i → q r i) : RegsBut q s t :=
  fun r i hq => h r i (fun hp => hq (hpq r i hp))

theorem OnlyRegs.refl (p) (s : State) : OnlyRegs p s s := ⟨rfl, RegsBut.refl p s⟩

theorem OnlyRegs.trans {p} {s t u : State} (h : OnlyRegs p s t) (k : OnlyRegs p t u) : OnlyRegs p s u := by
  refine ⟨?_, h.2.trans k.2⟩
  have h1 := h.1
  have k1 := k.1
  rw [← h1]
  conv => rhs; rw [← k1]

theorem OnlyRegs.mono {p q : Reg → Nat → Prop} {s t : State} (h : OnlyRegs p s t) (hpq : ∀ r i, p r i → q r i) :
    OnlyRegs q s t := ⟨h.1, h.2.mono hpq⟩

theorem OnlyRegs.begin (p) (s : State) : OnlyRegs p s s.begin := ⟨rfl, fun _ _ _ => rfl⟩

theorem OnlyRegs.touch (p) (s : State) (a : Agent) (k : Nat) : OnlyRegs p s (s.touch a k) := by
  unfold State.touch
  split
  · split
    · exact OnlyRegs.refl p s
    · exact ⟨rfl, fun _ _ _ => rfl⟩
  · exact OnlyRegs.refl p s

theorem OnlyRegs.emit (p) (s : State) (o : Out) : OnlyRegs p s (s.emit o) := ⟨rfl, fun _ _ _ => rfl⟩

theorem OnlyRegs.setReg {p : Reg → Nat → Prop} (s : State) {r : Reg} {i : Nat} (v : BitVec 64) (h : p r i) :
    OnlyRegs p s (s.setReg r i v) := by
  refine ⟨rfl, fun q j hq => State.reg_setReg_ne ?_⟩
  rintro ⟨rfl, rfl⟩; exact hq h

theorem OnlyRegs.setFld {p : Reg → Nat → Prop} (s : State) {f : Fld} {i : Nat} (v : Nat) (h : p f.reg i) :
    OnlyRegs p s (s.setFld f i v) := OnlyRegs.setReg s _ h

/-- A register-only change is a change within reports. -/
theorem OnlyRegs.reports {p : Reg → Nat → Prop} {s t : State} (h : OnlyRegs p s t) : OnlyReports p s t := by
  refine ⟨?_, h.2.mono (fun _ _ x => Or.inr x)⟩
  have h1 := h.1
  rw [← h1]

theorem OnlyReports.refl (p) (s : State) : OnlyReports p s s := ⟨rfl, fun _ _ _ => rfl⟩

theorem OnlyReports.trans {p} {s t u : State} (h : OnlyReports p s t) (k : OnlyReports p t u) : OnlyReports p s u := by
  refine ⟨?_, h.2.trans k.2⟩
  have h1 := h.1
  have k1 := k.1
  rw [← h1]
  conv => rhs; rw [← k1]

theorem OnlyReports.mono {p q : Reg → Nat → Prop} {s t : State} (h : OnlyReports p s t) (hpq : ∀ r i, p r i → q r i) :
    OnlyReports q s t := ⟨h.1, h.2.mono (fun r i x => x.imp id (hpq r i))⟩

theorem OnlyReports.setReg {p : Reg → Nat → Prop} (s : State) {r : Reg} {i : Nat} (v : BitVec 64) (h : r ∈ reportRegs ∨ p r i) :
    OnlyReports p s (s.setReg r i v) := by
  refine ⟨rfl, fun q j hq => State.reg_setReg_ne ?_⟩
  rintro ⟨rfl, rfl⟩; exact hq h

/-- The same for changes beside the registers that a report makes. -/
theorem OnlyReports.of_eq {p : Reg → Nat → Prop} {s t : State} (h : { t with out := s.out, bus := s.bus, regs := s.regs, dma := s.dma, flt := s.flt, jrn := s.jrn, gauge := s.gauge } = s)
    (hr : t.regs = s.regs) : OnlyReports p s t := ⟨h, fun r i _ => by simp only [State.reg, hr]⟩

theorem OnlyReports.setFld {p : Reg → Nat → Prop} (s : State) {f : Fld} {i : Nat} (v : Nat) (h : f.reg ∈ reportRegs ∨ p f.reg i) :
    OnlyReports p s (s.setFld f i v) := OnlyReports.setReg s _ h

theorem OnlyReports.emit {p : Reg → Nat → Prop} (s : State) (o : Out) : OnlyReports p s (s.emit o) := ⟨rfl, fun _ _ _ => rfl⟩

theorem OnlyReports.sendTlp {p : Reg → Nat → Prop} (s : State) (o : Out) : OnlyReports p s (s.sendTlp o) :=
  (OnlyReports.emit s o).trans (OnlyReports.setFld _ 0 (.inl (by decide)))

theorem OnlyReports.begin (p) (s : State) : OnlyReports p s s.begin := ⟨rfl, fun _ _ _ => rfl⟩

theorem OnlyReports.touch (p) (s : State) (a : Agent) (k : Nat) : OnlyReports p s (s.touch a k) := (OnlyRegs.touch p s a k).reports

/-- A counter's addition: into the register, or into its pending count while a collection holds it. -/
theorem OnlyReports.bump {p : Reg → Nat → Prop} (s : State) {r : Reg} {i : Nat} (n : Nat) (h : r ∈ reportRegs ∨ p r i) :
    OnlyReports p s (s.bump r i n) := by
  unfold State.bump State.pend State.lose
  split
  · dsimp only
    split
    · exact OnlyReports.of_eq rfl rfl
    · split
      · exact OnlyReports.refl p s
      · refine (OnlyReports.setReg s _ (.inl (by decide))).trans (OnlyReports.of_eq rfl rfl)
  · exact OnlyReports.setReg s _ h

theorem OnlyReports.satFld {p : Reg → Nat → Prop} (s : State) {f : Fld} {i : Nat} (n : Nat) (h : f.reg ∈ reportRegs ∨ p f.reg i) :
    OnlyReports p s (s.satFld f i n) := OnlyReports.setFld s _ h

theorem OnlyReports.event (p) (s : State) (f j : Nat) : OnlyReports p s (s.event f j) := by
  unfold State.event
  split
  · split
    · exact OnlyReports.bump s 1 (.inl (by decide))
    · exact OnlyReports.setFld s 1 (.inl (by decide))
  · exact OnlyReports.bump s 1 (.inl (by decide))

theorem OnlyReports.interrupt (p) (s : State) (i : Nat) : OnlyReports p s (s.interrupt i) := by
  unfold State.interrupt
  split
  · exact OnlyReports.event p s _ _
  · exact OnlyReports.refl p s

theorem OnlyReports.setCq (p) (s : State) (g : Nat) (v : CqSt) : OnlyReports p s (s.setCq g v) := OnlyReports.of_eq rfl rfl

theorem OnlyReports.cqRefresh (p) (s : State) (g : Nat) : OnlyReports p s (s.cqRefresh g) :=
  (OnlyReports.setFld s _ (.inl (by decide))).trans (OnlyReports.setFld _ _ (.inl (by decide)))

theorem OnlyReports.cqWrite (p) (s : State) (g : Nat) (e : Bytes) : OnlyReports p s (s.cqWrite g e) := by
  unfold State.cqWrite
  dsimp only
  have h : OnlyReports p s ((s.sendTlp (.memWrite (s.ownerOf true g) (s.fld F.DMA_CQ_BASE_ADDR g * 4096 + s.fld F.DMA_CQ_STS_TAIL g %
      2 ^ s.fld F.DMA_CQ_CFG_LOG2SIZE g * s.cqEntrySize g) (withPhase (s.fld F.DMA_CQ_CFG_LOG2SIZE g) (s.fld F.DMA_CQ_STS_TAIL g)
      e))).setFld F.DMA_CQ_STS_TAIL g (s.fld F.DMA_CQ_STS_TAIL g + 1)) :=
    (OnlyReports.sendTlp s _).trans (OnlyReports.setFld _ _ (.inl (by decide)))
  split
  · exact (h.trans (OnlyReports.event p _ _ _)).trans (OnlyReports.cqRefresh p _ g)
  · exact h.trans (OnlyReports.cqRefresh p _ g)

theorem OnlyReports.cqPush (p) (s : State) (g : Nat) (e : Bytes) : OnlyReports p s (s.cqPush g e) := by
  unfold State.cqPush
  split
  · exact OnlyReports.cqWrite p s g e
  · exact (OnlyReports.setCq p s g _).trans (OnlyReports.cqRefresh p _ g)

theorem OnlyReports.notifyCore (p) (s : State) (t die a b : Nat) (body : Bytes) :
    OnlyReports p s (s.notifyCore t die a b body).1 := by
  unfold State.notifyCore
  dsimp only
  split
  · exact OnlyReports.bump s 1 (.inl (by decide))
  · split
    · exact ((OnlyReports.setCq p s _ _).trans (OnlyReports.cqPush p _ _ _)).trans (OnlyReports.bump _ 1 (.inl (by decide)))
    · exact ((OnlyReports.setCq p s _ _).trans (OnlyReports.satFld _ 1 (.inl (by decide)))).trans
        (OnlyReports.bump _ 1 (.inl (by decide)))

theorem OnlyReports.journal (p) (s : State) (r : JrnRec) : OnlyReports p s (s.journal r) := by
  unfold State.journal
  split
  · exact OnlyReports.of_eq rfl rfl
  · exact (OnlyReports.satFld s 1 (.inl (by decide))).trans (OnlyReports.of_eq rfl rfl)

theorem OnlyReports.journalNow (p) (s : State) (ty fl : Nat) (b : Bytes) : OnlyReports p s (s.journalNow ty fl b) :=
  OnlyReports.journal p s _

theorem OnlyReports.fltMark (p) (s : State) (k src inst : Nat) (info : BitVec 48) (inj : Bool) :
    OnlyReports p s (s.fltMark k src inst info inj) := by
  have h1 : OnlyReports p s ((s.setBit .FLT_STS k src).satFld F.FLT_CNT_COUNT (k * 32 + src) 1) :=
    (OnlyReports.setReg s _ (.inl (by decide))).trans (OnlyReports.satFld _ 1 (.inl (by decide)))
  have h2 : OnlyReports p s (if inst < 128 then
      ((s.setBit .FLT_STS k src).satFld F.FLT_CNT_COUNT (k * 32 + src) 1).setBit .FLT_INST (k * 2 + inst / 64) (inst % 64)
      else (s.setBit .FLT_STS k src).satFld F.FLT_CNT_COUNT (k * 32 + src) 1) := by
    split
    · exact h1.trans (OnlyReports.setReg _ _ (.inl (by decide)))
    · exact h1
  unfold State.fltMark
  dsimp only
  split
  · exact h2
  · exact (h2.trans (OnlyReports.setReg _ _ (.inl (by decide)))).trans (OnlyReports.setReg _ _ (.inl (by decide)))

theorem OnlyReports.fltReport (p) (s : State) (k src inst cls react : Nat) (info : BitVec 48) (inj : Bool) :
    OnlyReports p s (s.fltReport k src inst cls react info inj).1 := by
  have hk (t : State) (b : Bool) : OnlyReports p t (if b = true then t.interrupt (16 + k) else t) := by
    split
    · exact OnlyReports.interrupt p t _
    · exact OnlyReports.refl p t
  have hn (t : State) (b : Bool) (x : Bytes) : OnlyReports p t (if b = true then t.notifyCore 9 0 k 0 x else (t, none)).1 := by
    split
    · exact OnlyReports.notifyCore p t _ _ _ _ _
    · exact OnlyReports.refl p t
  have hj (t : State) (b : Bool) (n : Nat) (x : Bytes) : OnlyReports p t (if b = true then t.journalNow 1 n x else t) := by
    split
    · exact OnlyReports.journalNow p t _ _ _
    · exact OnlyReports.refl p t
  unfold State.fltReport
  dsimp only
  split
  · exact ((hk s _).trans (hn _ _ _)).trans (hj _ _ _ _)
  · exact (((hk s _).trans (hn _ _ _)).trans (hj _ _ _ _)).trans (OnlyReports.of_eq rfl rfl)

theorem OnlyReports.fltCore (p) (s : State) (k src inst : Nat) (info : BitVec 48) (lasting inj : Bool) :
    OnlyReports p s (s.fltCore k src inst info lasting inj).1 := by
  have h0 (x : FltSt) : OnlyReports p s { s with flt := x } := OnlyReports.of_eq rfl rfl
  unfold State.fltCore
  split
  · exact OnlyReports.refl p s
  · dsimp only
    split
    · exact (h0 _).trans (OnlyReports.fltMark p _ _ _ _ _ _)
    · exact ((h0 _).trans (OnlyReports.fltMark p _ _ _ _ _ _)).trans (OnlyReports.fltReport p _ _ _ _ _ _ _ _)

theorem OnlyReports.faultWith (p) (s : State) (k src inst : Nat) (info : BitVec 48) (lasting inj : Bool) :
    OnlyReports p s (s.faultWith k src inst info lasting inj) := by
  have h (t : State) (a b c : Nat) (d : BitVec 48) (e f : Bool) {u : State} {g : Option Nat} (he : t.fltCore a b c d e f = (u, g)) :
      OnlyReports p t u := by
    have := OnlyReports.fltCore p t a b c d e f
    rw [he] at this; exact this
  unfold State.faultWith
  split
  · rename_i e; exact h _ _ _ _ _ _ _ e
  · rename_i e
    split
    · rename_i e2; exact (h _ _ _ _ _ _ _ e).trans (h _ _ _ _ _ _ _ e2)
    · rename_i e2; exact ((h _ _ _ _ _ _ _ e).trans (h _ _ _ _ _ _ _ e2)).trans (OnlyReports.fltCore p _ _ _ _ _ _ _)

theorem OnlyReports.fault (p) (s : State) (k src inst info : Nat) : OnlyReports p s (s.fault k src inst info) :=
  OnlyReports.faultWith p s k src inst _ _ _

theorem OnlyReports.faultLasting (p) (s : State) (k src inst info : Nat) : OnlyReports p s (s.faultLasting k src inst info) :=
  OnlyReports.faultWith p s k src inst _ _ _

theorem OnlyReports.notify (p) (s : State) (t die a b : Nat) (body : Bytes) : OnlyReports p s (s.notify t die a b body) := by
  have h := OnlyReports.notifyCore p s t die a b body
  unfold State.notify
  split
  · rename_i e; rw [e] at h; exact h
  · rename_i e; rw [e] at h; exact h.trans (OnlyReports.fault p _ _ _ _ _)

theorem OnlyReports.accViol (p) (s : State) (a : Agent) : OnlyReports p s (s.accViol a) :=
  (OnlyReports.bump s 1 (.inl (by decide))).trans (OnlyReports.fault p _ _ _ _ _)

/-- Only registers outside those of reports are looked at: they keep their values. -/
theorem OnlyReports.reg {p : Reg → Nat → Prop} {s t : State} (h : OnlyReports p s t) {r : Reg} {i : Nat} (hr : r ∉ reportRegs)
    (hp : ¬ p r i) : t.reg r i = s.reg r i := h.2 r i (fun x => x.elim hr hp)

theorem OnlyReports.fld {p : Reg → Nat → Prop} {s t : State} (h : OnlyReports p s t) {f : Fld} {i : Nat} (hr : f.reg ∉ reportRegs)
    (hp : ¬ p f.reg i) : t.fld f i = s.fld f i := by
  unfold State.fld; rw [h.reg hr hp]

/-- A write that is taken is its effect, on the state with the agent's shadow handled. -/
theorem writeBy_takes {s : State} {a : Agent} {r : Reg} {i : Nat} (h : s.takes a r i) (f : State → State) :
    s.begin.writeBy a r i f = f (s.begin.touch a (r.key i)) := by
  have h1 : s.begin.gate a = none := by
    have h := h.1
    cases a with
    | fn f =>
      have e1 : s.begin.modeRefuses f.val = s.modeRefuses f.val := rfl
      have e2 : (s.begin.inFlr f.val || s.begin.inD3 f.val || !s.begin.fnExists f.val) =
        (s.inFlr f.val || s.inD3 f.val || !s.fnExists f.val) := rfl
      simp only [State.gate, e1, e2] at h ⊢
      split at h
      · cases h
      · split at h
        · cases h
        · rename_i c d; rw [if_neg c, if_neg d]
    | mc n => rfl
    | cs n => rfl
    | jtag => rfl
    | tap => rfl
  have h2 : s.begin.reach a r i = .ok := h.2
  unfold State.writeBy
  rw [h1]; dsimp only
  rw [h2]

theorem touch_reg (s : State) (a : Agent) (k : Nat) (r : Reg) (i : Nat) : (s.touch a k).reg r i = s.reg r i :=
  (OnlyRegs.touch (fun _ _ => False) s a k).2 r i id

theorem touch_fld (s : State) (a : Agent) (k : Nat) (f : Fld) (i : Nat) : (s.touch a k).fld f i = s.fld f i := by
  unfold State.fld; rw [touch_reg]

end Sys2Proof.Machine
end

