-- ==== Sys2Proof/Laws/Keeps.lean ====
section
/-! SUPPORT. What no operation does: no meaning changes the part or the queue of commands, and all keep the register file
canonical. `Keeps z t` says it of the states before and after; here stand its rules for the shapes that meanings have. -/

namespace Sys2Proof.Machine

/-- From `z` to `t` the queue and the part have stayed, and the register file is canonical if it was. -/
structure Keeps (z t : State) : Prop where
  pending : t.pending = z.pending
  part : t.part = z.part
  regs : z.RegsCanonical → t.RegsCanonical

theorem Keeps.rfl' (z : State) : Keeps z z := ⟨rfl, rfl, id⟩

theorem Keeps.trans {a b c : State} (h : Keeps a b) (k : Keeps b c) : Keeps a c :=
  ⟨k.pending.trans h.pending, k.part.trans h.part, fun x => k.regs (h.regs x)⟩

/-- A record update that leaves the queue, the part and the registers. -/
theorem keeps_mk {z x : State} {f1 f2 f6 f7 f8 f9 f10 f11 f12 f13 f14 f15 f16 f17 f18 f19 f20 f21 f22 f23 f24 f25 f26 f27 f28 f29 f30 f31 f32 f33 f34 f35 f36 f37 f38 f39 f40 f41 f42 f43 f44 f45 f46 f47 f48 f49 f50 f51 f52 f53 f54 f55 f56} (h : Keeps z x) :
    Keeps z ⟨x.pending, f1, f2, x.part, x.regs, x.inForce, f6, f7, f8, f9, f10, f11, f12, f13, f14, f15, f16, f17, f18, f19, f20, f21, f22, f23, f24, f25, f26, f27, f28, f29, f30, f31, f32, f33, f34, f35, f36, f37, f38, f39, f40, f41, f42, f43, f44, f45, f46, f47, f48, f49, f50, f51, f52, f53, f54, f55, f56⟩ :=
  ⟨h.pending, h.part, h.regs⟩

/-- A record update that leaves the queue and the part, and keeps the registers canonical. -/
theorem keeps_mkr {z x : State} {f1 f2 f6 f7 f8 f9 f10 f11 f12 f13 f14 f15 f16 f17 f18 f19 f20 f21 f22 f23 f24 f25 f26 f27 f28 f29 f30 f31 f32 f33 f34 f35 f36 f37 f38 f39 f40 f41 f42 f43 f44 f45 f46 f47 f48 f49 f50 f51 f52 f53 f54 f55 f56 r q} (h : Keeps z x)
    (hr : z.RegsCanonical → SMap.wf Reg.resetAt r = true ∧ SMap.wf Reg.resetAt q = true) :
    Keeps z ⟨x.pending, f1, f2, x.part, r, q, f6, f7, f8, f9, f10, f11, f12, f13, f14, f15, f16, f17, f18, f19, f20, f21, f22, f23, f24, f25, f26, f27, f28, f29, f30, f31, f32, f33, f34, f35, f36, f37, f38, f39, f40, f41, f42, f43, f44, f45, f46, f47, f48, f49, f50, f51, f52, f53, f54, f55, f56⟩ :=
  ⟨h.pending, h.part, hr⟩

/-- A record update that brings the registers into force. -/
theorem keeps_mkc {z x : State} {f1 f2 f6 f7 f8 f9 f10 f11 f12 f13 f14 f15 f16 f17 f18 f19 f20 f21 f22 f23 f24 f25 f26 f27 f28 f29 f30 f31 f32 f33 f34 f35 f36 f37 f38 f39 f40 f41 f42 f43 f44 f45 f46 f47 f48 f49 f50 f51 f52 f53 f54 f55 f56} (h : Keeps z x) :
    Keeps z ⟨x.pending, f1, f2, x.part, x.regs, x.regs, f6, f7, f8, f9, f10, f11, f12, f13, f14, f15, f16, f17, f18, f19, f20, f21, f22, f23, f24, f25, f26, f27, f28, f29, f30, f31, f32, f33, f34, f35, f36, f37, f38, f39, f40, f41, f42, f43, f44, f45, f46, f47, f48, f49, f50, f51, f52, f53, f54, f55, f56⟩ := keeps_mkr h (fun k => ⟨(h.regs k).1, (h.regs k).1⟩)

/-- The same of an outcome that is a next state. -/
def ResKeeps (z : State) (r : Res) : Prop := ∀ t, r = .next t → Keeps z t

theorem resKeeps_next {z t : State} (h : Keeps z t) : ResKeeps z (.next t) := fun _ e => by cases e; exact h

/-- The same of what an instruction comes to. -/
def DidKeeps (z : State) : Did → Prop
  | .go t _ => Keeps z t
  | .hold => True
  | .stop t _ _ => Keeps z t

theorem didKeeps_go {z t : State} {n} (h : Keeps z t) : DidKeeps z (.go t n) := h
theorem didKeeps_hold {z : State} : DidKeeps z .hold := trivial
theorem didKeeps_stop {z t : State} {n r} (h : Keeps z t) : DidKeeps z (.stop t n r) := h

/-- The same of an optional answer. -/
def OptKeeps {α : Type} (p : α → State) (z : State) (o : Option α) : Prop := ∀ r, o = some r → Keeps z (p r)

theorem optKeeps_none {α : Type} {p : α → State} {z : State} : OptKeeps p z none := fun _ e => nomatch e
theorem optKeeps_some {α : Type} {p : α → State} {z : State} {r : α} (h : Keeps z (p r)) : OptKeeps p z (some r) :=
  fun _ e => by cases e; exact h

/-- A fold over states, and over pairs that hold one. -/
theorem keeps_foldl {z : State} {α : Type} (l : List α) (f : State → α → State) {s : State} (h : Keeps z s)
    (hf : ∀ t a, Keeps z t → Keeps z (f t a)) : Keeps z (l.foldl f s) := by
  induction l generalizing s with
  | nil => exact h
  | cons a l ih => exact ih (hf s a h)

theorem keeps_foldl_fst {z : State} {α β : Type} (l : List α) (f : State × β → α → State × β) {s : State × β}
    (h : Keeps z s.1) (hf : ∀ t a, Keeps z t.1 → Keeps z (f t a).1) : Keeps z (l.foldl f s).1 := by
  induction l generalizing s with
  | nil => exact h
  | cons a l ih => exact ih (hf s a h)

theorem keeps_foldl_snd {z : State} {α β : Type} (l : List α) (f : β × State → α → β × State) {s : β × State}
    (h : Keeps z s.2) (hf : ∀ t a, Keeps z t.2 → Keeps z (f t a).2) : Keeps z (l.foldl f s).2 := by
  induction l generalizing s with
  | nil => exact h
  | cons a l ih => exact ih (hf s a h)

theorem keeps_foldl_mid {z : State} {α β γ : Type} (l : List α) (f : β × State × γ → α → β × State × γ) {s : β × State × γ}
    (h : Keeps z s.2.1) (hf : ∀ t a, Keeps z t.2.1 → Keeps z (f t a).2.1) : Keeps z (l.foldl f s).2.1 := by
  induction l generalizing s with
  | nil => exact h
  | cons a l ih => exact ih (hf s a h)

theorem keeps_setReg {z s : State} (h : Keeps z s) (r : Reg) (i : Nat) (v : BitVec 64) : Keeps z (s.setReg r i v) :=
  ⟨h.pending, h.part, fun k => State.canonical_setReg (h.regs k) r i v⟩

theorem keeps_each {z s : State} (h : Keeps z s) {l : List Nat} {f : State → Nat → State}
    (hf : ∀ t a, Keeps z t → Keeps z (f t a)) : Keeps z (s.each l f) := keeps_foldl l f h hf

theorem keeps_when {z s : State} (h : Keeps z s) {b : Bool} {f : State → State} (hf : ∀ t, Keeps z t → Keeps z (f t)) :
    Keeps z (s.when b f) := by
  unfold State.when; split
  · exact hf _ h
  · exact h

end Sys2Proof.Machine
end

