-- ==== Sys2Proof/Laws/KeepsA.lean ====
section
/-! SUPPORT. One lemma `keeps_<name>` for each operation and each meaning of: Ops, Access, Report, Gate, Tables, Gauge, Events, Ports, Ste, ChartCore, Rings, Buffers, Sched. -/

set_option maxRecDepth 4000
set_option linter.unusedTactic false
set_option linter.unreachableTactic false

open Host

namespace Sys2Proof.Machine

theorem keeps_begin {z s : State} (h : Keeps z s)  : Keeps z (State.begin s) := by
  unfold State.begin
  repeat' first
    | (with_reducible first | assumption)
    | ((conv => arg 2; arg 55; skip); with_reducible first | apply keeps_mk | apply keeps_mkc)
    | split | dsimp only | intro _

theorem keeps_lose {z s : State} (h : Keeps z s) (a1 : ℕ) : Keeps z (State.lose s a1) := by
  unfold State.lose
  repeat' first
    | (with_reducible first | assumption | apply keeps_setReg)
    | ((conv => arg 2; arg 55; skip); with_reducible first | apply keeps_mk | apply keeps_mkc)
    | split | dsimp only | intro _

theorem keeps_pend {z s : State} (h : Keeps z s) (a1 : ℕ) (a2 : ℕ) : Keeps z (State.pend s a1 a2) := by
  unfold State.pend
  repeat' first
    | (with_reducible first | assumption | apply keeps_lose)
    | ((conv => arg 2; arg 55; skip); with_reducible first | apply keeps_mk | apply keeps_mkc)
    | split | dsimp only | intro _

theorem keeps_bump {z s : State} (h : Keeps z s) (a1 : Reg) (a2 : ℕ) (a3 : ℕ) : Keeps z (State.bump s a1 a2 a3) := by
  unfold State.bump
  repeat' first
    | (with_reducible first | assumption | apply keeps_setReg | apply keeps_pend)
    | split | dsimp only | intro _

theorem keeps_clearBit {z s : State} (h : Keeps z s) (a1 : Reg) (a2 : ℕ) (a3 : ℕ) : Keeps z (State.clearBit s a1 a2 a3) := by
  unfold State.clearBit
  repeat' first
    | (with_reducible first | assumption | apply keeps_setReg)
    | split | dsimp only | intro _

theorem keeps_drawn {z s : State} (h : Keeps z s)  : Keeps z (State.drawn s) := by
  unfold State.drawn
  repeat' first
    | (with_reducible first | assumption)
    | ((conv => arg 2; arg 55; skip); with_reducible first | apply keeps_mk | apply keeps_mkc)
    | split | dsimp only | intro _

theorem keeps_emit {z s : State} (h : Keeps z s) (a1 : Out) : Keeps z (State.emit s a1) := by
  unfold State.emit
  repeat' first
    | (with_reducible first | assumption)
    | ((conv => arg 2; arg 55; skip); with_reducible first | apply keeps_mk | apply keeps_mkc)
    | split | dsimp only | intro _

theorem keeps_setFld {z s : State} (h : Keeps z s) (a1 : Fld) (a2 : ℕ) (a3 : ℕ) : Keeps z (State.setFld s a1 a2 a3) := by
  unfold State.setFld
  repeat' first
    | (with_reducible first | assumption | apply keeps_setReg)
    | split | dsimp only | intro _

theorem keeps_satFld {z s : State} (h : Keeps z s) (a1 : Fld) (a2 : ℕ) (a3 : ℕ) : Keeps z (State.satFld s a1 a2 a3) := by
  unfold State.satFld
  repeat' first
    | (with_reducible first | assumption | apply keeps_setFld)
    | split | dsimp only | intro _

theorem keeps_sendTlp {z s : State} (h : Keeps z s) (a1 : Out) : Keeps z (State.sendTlp s a1) := by
  unfold State.sendTlp
  repeat' first
    | (with_reducible first | assumption | apply keeps_emit | apply keeps_setFld)
    | split | dsimp only | intro _

theorem keeps_setBit {z s : State} (h : Keeps z s) (a1 : Reg) (a2 : ℕ) (a3 : ℕ) : Keeps z (State.setBit s a1 a2 a3) := by
  unfold State.setBit
  repeat' first
    | (with_reducible first | assumption | apply keeps_setReg)
    | split | dsimp only | intro _

theorem keeps_setCfg {z s : State} (h : Keeps z s) (a1 : ℕ) (a2 : ℕ) (a3 : BitVec 32) : Keeps z (State.setCfg s a1 a2 a3) := by
  unfold State.setCfg
  repeat' first
    | (with_reducible first | assumption)
    | ((conv => arg 2; arg 55; skip); with_reducible first | apply keeps_mk | apply keeps_mkc)
    | split | dsimp only | intro _

theorem keeps_journal {z s : State} (h : Keeps z s) (a1 : JrnRec) : Keeps z (State.journal s a1) := by
  unfold State.journal
  repeat' first
    | (with_reducible first | assumption | apply keeps_satFld)
    | ((conv => arg 2; arg 55; skip); with_reducible first | apply keeps_mk | apply keeps_mkc)
    | split | dsimp only | intro _

theorem keeps_journalNow {z s : State} (h : Keeps z s) (a1 : ℕ) (a2 : ℕ) (a3 : Bytes) : Keeps z (State.journalNow s a1 a2 a3) := by
  unfold State.journalNow
  repeat' first
    | (with_reducible first | assumption | apply keeps_journal)
    | split | dsimp only | intro _

theorem keeps_setCq {z s : State} (h : Keeps z s) (a1 : ℕ) (a2 : CqSt) : Keeps z (State.setCq s a1 a2) := by
  unfold State.setCq
  repeat' first
    | (with_reducible first | assumption)
    | ((conv => arg 2; arg 55; skip); with_reducible first | apply keeps_mk | apply keeps_mkc)
    | split | dsimp only | intro _

theorem keeps_cqRefresh {z s : State} (h : Keeps z s) (a1 : ℕ) : Keeps z (State.cqRefresh s a1) := by
  unfold State.cqRefresh
  repeat' first
    | (with_reducible first | assumption | apply keeps_setFld)
    | split | dsimp only | intro _

theorem keeps_event {z s : State} (h : Keeps z s) (a1 : ℕ) (a2 : ℕ) : Keeps z (State.event s a1 a2) := by
  unfold State.event
  repeat' first
    | (with_reducible first | assumption | apply keeps_setFld | apply keeps_bump)
    | ((conv => arg 2; arg 55; skip); with_reducible first | apply keeps_mk | apply keeps_mkc)
    | split | dsimp only | intro _

theorem keeps_cqWrite {z s : State} (h : Keeps z s) (a1 : ℕ) (a2 : Bytes) : Keeps z (State.cqWrite s a1 a2) := by
  unfold State.cqWrite
  repeat' first
    | (with_reducible first | assumption | apply keeps_event | apply keeps_cqRefresh | apply keeps_sendTlp
                            | apply keeps_setFld)
    | split | dsimp only | intro _

theorem keeps_cqPush {z s : State} (h : Keeps z s) (a1 : ℕ) (a2 : Bytes) : Keeps z (State.cqPush s a1 a2) := by
  unfold State.cqPush
  repeat' first
    | (with_reducible first | assumption | apply keeps_setCq | apply keeps_cqRefresh | apply keeps_cqWrite)
    | ((conv => arg 2; arg 55; skip); with_reducible first | apply keeps_mk | apply keeps_mkc)
    | split | dsimp only | intro _

theorem keeps_notifyCore {z s : State} (h : Keeps z s) (a1 : ℕ) (a2 : ℕ) (a3 : ℕ) (a4 : ℕ) (a5 : Bytes) : Keeps z (State.notifyCore s a1 a2 a3 a4 a5).1 := by
  unfold State.notifyCore
  repeat' first
    | (with_reducible first | assumption | apply keeps_satFld | apply keeps_setCq | apply keeps_cqPush
                            | apply keeps_bump)
    | ((conv => arg 2; arg 55; skip); with_reducible first | apply keeps_mk | apply keeps_mkc)
    | split | dsimp only | intro _
theorem keeps_notifyCore_eq {z s t : State} {b1 : Option ℕ} {a1 : ℕ} {a2 : ℕ} {a3 : ℕ} {a4 : ℕ} {a5 : Bytes} (e : State.notifyCore s a1 a2 a3 a4 a5 = (t, b1)) (h : Keeps z s) : Keeps z t := by
  have k := keeps_notifyCore h a1 a2 a3 a4 a5
  rw [e] at k; exact k

theorem keeps_interrupt {z s : State} (h : Keeps z s) (a1 : ℕ) : Keeps z (State.interrupt s a1) := by
  unfold State.interrupt
  repeat' first
    | (with_reducible first | assumption | apply keeps_event)
    | split | dsimp only | intro _

theorem keeps_fltReport {z s : State} (h : Keeps z s) (a1 : ℕ) (a2 : ℕ) (a3 : ℕ) (a4 : ℕ) (a5 : ℕ) (a6 : BitVec 48) (a7 : Bool) : Keeps z (State.fltReport s a1 a2 a3 a4 a5 a6 a7).1 := by
  unfold State.fltReport
  repeat' first
    | (with_reducible first | assumption | apply keeps_journalNow | apply keeps_notifyCore
                            | refine keeps_notifyCore_eq (by assumption) ?_ | apply keeps_interrupt)
    | ((conv => arg 2; arg 55; skip); with_reducible first | apply keeps_mk | apply keeps_mkc)
    | split | dsimp only | intro _
theorem keeps_fltReport_eq {z s t : State} {b1 : Option ℕ} {a1 : ℕ} {a2 : ℕ} {a3 : ℕ} {a4 : ℕ} {a5 : ℕ} {a6 : BitVec 48} {a7 : Bool} (e : State.fltReport s a1 a2 a3 a4 a5 a6 a7 = (t, b1)) (h : Keeps z s) : Keeps z t := by
  have k := keeps_fltReport h a1 a2 a3 a4 a5 a6 a7
  rw [e] at k; exact k

theorem keeps_fltMark {z s : State} (h : Keeps z s) (a1 : ℕ) (a2 : ℕ) (a3 : ℕ) (a4 : BitVec 48) (a5 : Bool) : Keeps z (State.fltMark s a1 a2 a3 a4 a5) := by
  unfold State.fltMark
  repeat' first
    | (with_reducible first | assumption | apply keeps_setReg | apply keeps_setBit | apply keeps_satFld)
    | split | dsimp only | intro _

theorem keeps_fltCore {z s : State} (h : Keeps z s) (a1 : ℕ) (a2 : ℕ) (a3 : ℕ) (a4 : BitVec 48) (a5 : Bool) (a6 : Bool) : Keeps z (State.fltCore s a1 a2 a3 a4 a5 a6).1 := by
  unfold State.fltCore
  repeat' first
    | (with_reducible first | assumption | apply keeps_fltReport | refine keeps_fltReport_eq (by assumption) ?_
                            | apply keeps_fltMark)
    | ((conv => arg 2; arg 55; skip); with_reducible first | apply keeps_mk | apply keeps_mkc)
    | split | dsimp only | intro _
theorem keeps_fltCore_eq {z s t : State} {b1 : Option ℕ} {a1 : ℕ} {a2 : ℕ} {a3 : ℕ} {a4 : BitVec 48} {a5 : Bool} {a6 : Bool} (e : State.fltCore s a1 a2 a3 a4 a5 a6 = (t, b1)) (h : Keeps z s) : Keeps z t := by
  have k := keeps_fltCore h a1 a2 a3 a4 a5 a6
  rw [e] at k; exact k

theorem keeps_faultWith {z s : State} (h : Keeps z s) (a1 : ℕ) (a2 : ℕ) (a3 : ℕ) (a4 : BitVec 48) (a5 : Bool) (a6 : Bool) : Keeps z (State.faultWith s a1 a2 a3 a4 a5 a6) := by
  unfold State.faultWith
  repeat' first
    | (with_reducible first | assumption | apply keeps_fltCore | refine keeps_fltCore_eq (by assumption) ?_)
    | ((conv => arg 2; arg 55; skip); with_reducible first | apply keeps_mk | apply keeps_mkc)
    | split | dsimp only | intro _

theorem keeps_fault {z s : State} (h : Keeps z s) (a1 : ℕ) (a2 : ℕ) (a3 : ℕ) (a4 : ℕ) : Keeps z (State.fault s a1 a2 a3 a4) := by
  unfold State.fault
  repeat' first
    | (with_reducible first | assumption | apply keeps_faultWith)
    | split | dsimp only | intro _

theorem keeps_accViol {z s : State} (h : Keeps z s) (a1 : Agent) : Keeps z (State.accViol s a1) := by
  unfold State.accViol
  repeat' first
    | (with_reducible first | assumption | apply keeps_bump | apply keeps_fault)
    | split | dsimp only | intro _

theorem keeps_cqDrain {z s : State} (h : Keeps z s) (a1 : ℕ) (a2 : ℕ) : Keeps z (State.cqDrain s a1 a2) := by
  induction a2 generalizing s with
  | zero =>
    unfold State.cqDrain
    repeat' first
      | (with_reducible first | assumption | apply ih | apply keeps_setCq | apply keeps_cqWrite)
      | ((conv => arg 2; arg 55; skip); with_reducible first | apply keeps_mk | apply keeps_mkc)
      | split | dsimp only | intro _
  | succ n ih =>
    unfold State.cqDrain
    repeat' first
      | (with_reducible first | assumption | apply ih | apply keeps_setCq | apply keeps_cqWrite)
      | ((conv => arg 2; arg 55; skip); with_reducible first | apply keeps_mk | apply keeps_mkc)
      | split | dsimp only | intro _

theorem keeps_faultEnds {z s : State} (h : Keeps z s) (a1 : ℕ) (a2 : ℕ) (a3 : ℕ) : Keeps z (State.faultEnds s a1 a2 a3) := by
  unfold State.faultEnds
  repeat' first
    | (with_reducible first | assumption)
    | ((conv => arg 2; arg 55; skip); with_reducible first | apply keeps_mk | apply keeps_mkc)
    | split | dsimp only | intro _

theorem keeps_faultLasting {z s : State} (h : Keeps z s) (a1 : ℕ) (a2 : ℕ) (a3 : ℕ) (a4 : ℕ) : Keeps z (State.faultLasting s a1 a2 a3 a4) := by
  unfold State.faultLasting
  repeat' first
    | (with_reducible first | assumption | apply keeps_faultWith)
    | split | dsimp only | intro _

theorem keeps_notify {z s : State} (h : Keeps z s) (a1 : ℕ) (a2 : ℕ) (a3 : ℕ) (a4 : ℕ) (a5 : Bytes) : Keeps z (State.notify s a1 a2 a3 a4 a5) := by
  unfold State.notify
  repeat' first
    | (with_reducible first | assumption | apply keeps_fault | apply keeps_notifyCore
                            | refine keeps_notifyCore_eq (by assumption) ?_)
    | ((conv => arg 2; arg 55; skip); with_reducible first | apply keeps_mk | apply keeps_mkc)
    | split | dsimp only | intro _

theorem keeps_setSq {z s : State} (h : Keeps z s) (a1 : ℕ) (a2 : SqSt) : Keeps z (State.setSq s a1 a2) := by
  unfold State.setSq
  repeat' first
    | (with_reducible first | assumption)
    | ((conv => arg 2; arg 55; skip); with_reducible first | apply keeps_mk | apply keeps_mkc)
    | split | dsimp only | intro _

theorem keeps_gate_opt {z s : State} (h : Keeps z s) (a1 : Agent) : OptKeeps (fun r => r) z (State.gate s a1) := by
  unfold State.gate
  repeat' first
    | (with_reducible first | exact optKeeps_none | apply optKeeps_some | assumption | apply keeps_bump)
    | ((conv => arg 2; arg 55; skip); with_reducible first | apply keeps_mk | apply keeps_mkc)
    | split | dsimp only | intro _
theorem keeps_gate {z s t : State}  {a1 : Agent} (e : State.gate s a1 = some t) (h : Keeps z s) : Keeps z t :=
  keeps_gate_opt h a1 _ e

theorem keeps_plainWrite {z s : State} (h : Keeps z s) (a1 : Reg) (a2 : ℕ) (a3 : BitVec 64) (a4 : BitVec 64) : Keeps z (State.plainWrite s a1 a2 a3 a4) := by
  unfold State.plainWrite
  repeat' first
    | (with_reducible first | assumption | apply keeps_setReg)
    | split | dsimp only | intro _

theorem keeps_touch {z s : State} (h : Keeps z s) (a1 : Agent) (a2 : ℕ) : Keeps z (State.touch s a1 a2) := by
  unfold State.touch
  repeat' first
    | (with_reducible first | assumption)
    | ((conv => arg 2; arg 55; skip); with_reducible first | apply keeps_mk | apply keeps_mkc)
    | split | dsimp only | intro _

theorem keeps_writeBy {z s : State} (h : Keeps z s) {a : Agent} {r : Reg} {i : Nat} {f : State → State}
    (hf : ∀ t, Keeps z t → Keeps z (f t)) : Keeps z (s.writeBy a r i f) := by
  unfold State.writeBy
  repeat' first
    | (with_reducible assumption)
    | (with_reducible apply hf)
    | (with_reducible refine keeps_gate (by assumption) ?_)
    | (with_reducible apply keeps_touch)
    | (with_reducible apply keeps_accViol)
    | (split)

theorem keeps_setMeter {z s : State} (h : Keeps z s) (a1 : ℕ) (a2 : Meter) : Keeps z (State.setMeter s a1 a2) := by
  unfold State.setMeter
  repeat' first
    | (with_reducible first | assumption)
    | ((conv => arg 2; arg 55; skip); with_reducible first | apply keeps_mk | apply keeps_mkc)
    | split | dsimp only | intro _

theorem keeps_setStat {z s : State} (h : Keeps z s) (a1 : ℕ) (a2 : ℕ × ℕ) : Keeps z (State.setStat s a1 a2) := by
  unfold State.setStat
  repeat' first
    | (with_reducible first | assumption)
    | ((conv => arg 2; arg 55; skip); with_reducible first | apply keeps_mk | apply keeps_mkc)
    | split | dsimp only | intro _

theorem keeps_setTabs {z s : State} (h : Keeps z s) (a1 : Tables) : Keeps z (State.setTabs s a1) := by
  unfold State.setTabs
  repeat' first
    | (with_reducible first | assumption)
    | ((conv => arg 2; arg 55; skip); with_reducible first | apply keeps_mk | apply keeps_mkc)
    | split | dsimp only | intro _

theorem keeps_collectStart {z s : State} (h : Keeps z s)  : Keeps z (State.collectStart s) := by
  unfold State.collectStart
  repeat' first
    | (with_reducible first | assumption | apply keeps_setFld)
    | ((conv => arg 2; arg 55; skip); with_reducible first | apply keeps_mk | apply keeps_mkc)
    | split | dsimp only | intro _

theorem keeps_gaugeOverflow {z s : State} (h : Keeps z s) (a1 : ℕ) : Keeps z (State.gaugeOverflow s a1) := by
  unfold State.gaugeOverflow
  repeat' first
    | (with_reducible first | assumption | apply keeps_setFld | apply keeps_interrupt | apply keeps_setBit)
    | split | dsimp only | intro _

theorem keeps_gaugeAdd {z s : State} (h : Keeps z s) (a1 : ℕ) (a2 : ℕ) : Keeps z (State.gaugeAdd s a1 a2) := by
  unfold State.gaugeAdd
  repeat' first
    | (with_reducible first | assumption | apply keeps_gaugeOverflow | apply keeps_setFld | apply keeps_pend)
    | split | dsimp only | intro _

theorem keeps_thaw {z s : State} (h : Keeps z s) (a1 : Reg) (a2 : ℕ) : Keeps z (State.thaw s a1 a2) := by
  unfold State.thaw
  repeat' first
    | (with_reducible first | assumption | apply keeps_bump | apply keeps_gaugeAdd | apply keeps_pend)
    | ((conv => arg 2; arg 55; skip); with_reducible first | apply keeps_mk | apply keeps_mkc)
    | split | dsimp only | intro _

theorem keeps_thawStat {z s : State} (h : Keeps z s) (a1 : ℕ) : Keeps z (State.thawStat s a1) := by
  unfold State.thawStat
  repeat' first
    | (with_reducible first | assumption | apply keeps_setStat)
    | ((conv => arg 2; arg 55; skip); with_reducible first | apply keeps_mk | apply keeps_mkc)
    | split | dsimp only | intro _

theorem keeps_collectThaw {z s : State} (h : Keeps z s) (a1 : List (Bool × ℕ × ℕ)) : Keeps z (State.collectThaw s a1) := by
  unfold State.collectThaw
  repeat' first
    | (with_reducible first | assumption | apply keeps_thaw | apply keeps_thawStat | apply keeps_foldl
                            | apply keeps_foldl_fst | apply keeps_foldl_snd | apply keeps_foldl_mid)
    | ((conv => arg 2; arg 55; skip); with_reducible first | apply keeps_mk | apply keeps_mkc)
    | split | dsimp only | intro _

theorem keeps_countStat {z s : State} (h : Keeps z s) (a1 : ℕ) (a2 : ℕ) (a3 : ℕ) : Keeps z (State.countStat s a1 a2 a3) := by
  unfold State.countStat
  repeat' first
    | (with_reducible first | assumption | apply keeps_setStat | apply keeps_lose)
    | ((conv => arg 2; arg 55; skip); with_reducible first | apply keeps_mk | apply keeps_mkc)
    | split | dsimp only | intro _

theorem keeps_edgeFreeze {z s : State} (h : Keeps z s)  : Keeps z (State.edgeFreeze s) := by
  unfold State.edgeFreeze
  repeat' first
    | (with_reducible first | assumption | apply keeps_thaw | apply keeps_setFld | apply keeps_each)
    | split | dsimp only | intro _

theorem keeps_gauge_now {z s : State} (h : Keeps z s) (a1 : ℕ) (a2 : ℕ) (a3 : ℕ) (a4 : (Option ℕ)) : Keeps z (State.gauge! s a1 a2 a3 a4) := by
  unfold State.gauge!
  repeat' first
    | (with_reducible first | assumption | apply keeps_gaugeAdd | apply keeps_each)
    | ((conv => arg 2; arg 55; skip); with_reducible first | apply keeps_mk | apply keeps_mkc)
    | split | dsimp only | intro _

theorem keeps_gaugePass {z s : State} (h : Keeps z s) (a1 : ℕ) (a2 : ℕ) (a3 : Option ℕ) : Keeps z (State.gaugePass s a1 a2 a3) := by
  unfold State.gaugePass
  repeat' first
    | (with_reducible first | assumption | apply keeps_gaugeAdd)
    | ((conv => arg 2; arg 55; skip); with_reducible first | apply keeps_mk | apply keeps_mkc)
    | split | dsimp only | intro _

theorem keeps_notifySample {z s : State} (h : Keeps z s) (a1 : ℕ) (a2 : Sample) : Keeps z (State.notifySample s a1 a2) := by
  unfold State.notifySample
  repeat' first
    | (with_reducible first | assumption | apply keeps_fault | apply keeps_setReg | apply keeps_notifyCore
                            | refine keeps_notifyCore_eq (by assumption) ?_)
    | ((conv => arg 2; arg 55; skip); with_reducible first | apply keeps_mk | apply keeps_mkc)
    | split | dsimp only | intro _

theorem keeps_setSamples {z s : State} (h : Keeps z s) (a1 : ℕ) (a2 : List Sample) : Keeps z (State.setSamples s a1 a2) := by
  unfold State.setSamples
  repeat' first
    | (with_reducible first | assumption | apply keeps_setFld)
    | ((conv => arg 2; arg 55; skip); with_reducible first | apply keeps_mk | apply keeps_mkc)
    | split | dsimp only | intro _

theorem keeps_setMissed {z s : State} (h : Keeps z s) (a1 : ℕ) (a2 : ℕ) : Keeps z (State.setMissed s a1 a2) := by
  unfold State.setMissed
  repeat' first
    | (with_reducible first | assumption)
    | ((conv => arg 2; arg 55; skip); with_reducible first | apply keeps_mk | apply keeps_mkc)
    | split | dsimp only | intro _

theorem keeps_sampleEnter {z s : State} (h : Keeps z s) (a1 : ℕ) (a2 : ℕ) (a3 : Bytes) (a4 : ℕ) : Keeps z (State.sampleEnter s a1 a2 a3 a4) := by
  unfold State.sampleEnter
  repeat' first
    | (with_reducible first | assumption | apply keeps_setFld | apply keeps_interrupt | apply keeps_satFld
                            | apply keeps_setSamples | apply keeps_setMissed)
    | ((conv => arg 2; arg 55; skip); with_reducible first | apply keeps_mk | apply keeps_mkc)
    | split | dsimp only | intro _

theorem keeps_sampleLoad {z s : State} (h : Keeps z s) (a1 : ℕ) : Keeps z (State.sampleLoad s a1).2 := by
  unfold State.sampleLoad
  repeat' first
    | (with_reducible first | assumption | apply keeps_drawn)
    | split | dsimp only | intro _
theorem keeps_sampleLoad_eq {z s t : State} {b0 : ℕ} {a1 : ℕ} (e : State.sampleLoad s a1 = (b0, t)) (h : Keeps z s) : Keeps z t := by
  have k := keeps_sampleLoad h a1
  rw [e] at k; exact k

theorem keeps_writeColCmd {z s : State} (h : Keeps z s) (a1 : BitVec 64) (a2 : BitVec 64) : Keeps z (State.writeColCmd s a1 a2) := by
  unfold State.writeColCmd
  repeat' first
    | (with_reducible first | assumption | apply keeps_setFld)
    | ((conv => arg 2; arg 55; skip); with_reducible first | apply keeps_mk | apply keeps_mkc)
    | split | dsimp only | intro _

theorem keeps_writeGaugeCnt {z s : State} (h : Keeps z s) (a1 : ℕ) (a2 : BitVec 64) (a3 : BitVec 64) : Keeps z (State.writeGaugeCnt s a1 a2 a3) := by
  unfold State.writeGaugeCnt
  repeat' first
    | (with_reducible first | assumption | apply keeps_plainWrite)
    | split | dsimp only | intro _

theorem keeps_writeRange {z s : State} (h : Keeps z s) (a1 : Bool) (a2 : ℕ) (a3 : BitVec 64) (a4 : BitVec 64) : Keeps z (State.writeRange s a1 a2 a3 a4) := by
  unfold State.writeRange
  repeat' first
    | (with_reducible first | assumption | apply keeps_setReg | apply keeps_setFld)
    | split | dsimp only | intro _

theorem keeps_execCollectionDone {z s : State} (h : Keeps z s)  : ResKeeps z (execCollectionDone s) := by
  unfold execCollectionDone
  repeat' first
    | (with_reducible first | apply resKeeps_next | assumption | apply keeps_setFld | apply keeps_collectThaw
                            | apply keeps_sendTlp | apply keeps_begin)
    | ((conv => arg 2; arg 55; skip); with_reducible first | apply keeps_mk | apply keeps_mkc)
    | split | dsimp only | intro _

theorem keeps_execCollectionDue {z s : State} (h : Keeps z s)  : ResKeeps z (execCollectionDue s) := by
  unfold execCollectionDue
  repeat' first
    | (with_reducible first | apply resKeeps_next | assumption | apply keeps_collectStart | apply keeps_setFld
                            | apply keeps_satFld | apply keeps_setBit | apply keeps_interrupt | apply keeps_fault
                            | apply keeps_begin)
    | ((conv => arg 2; arg 55; skip); with_reducible first | apply keeps_mk | apply keeps_mkc)
    | split | dsimp only | intro _

theorem keeps_execCollectionRangeWrite {z s : State} (h : Keeps z s) (a0 : Agent) (a1 : Bool) (a2 : Fin 32) (a3 : BitVec 64) : ResKeeps z (execCollectionRangeWrite a0 a1 a2 a3 s) := by
  unfold execCollectionRangeWrite
  repeat' first
    | (with_reducible first | apply resKeeps_next | assumption | apply keeps_writeRange | apply keeps_begin
                            | apply keeps_writeBy)
    | split | dsimp only | intro _

theorem keeps_execCollectionRequest {z s : State} (h : Keeps z s) (a0 : Agent) (a1 : BitVec 32) : ResKeeps z (execCollectionRequest a0 a1 s) := by
  unfold execCollectionRequest
  repeat' first
    | (with_reducible first | apply resKeeps_next | assumption | apply keeps_writeColCmd | apply keeps_begin
                            | apply keeps_writeBy)
    | split | dsimp only | intro _

theorem keeps_execGaugeCounterWrite {z s : State} (h : Keeps z s) (a0 : Agent) (a1 : Fin 320) (a2 : BitVec 64) : ResKeeps z (execGaugeCounterWrite a0 a1 a2 s) := by
  unfold execGaugeCounterWrite
  repeat' first
    | (with_reducible first | apply resKeeps_next | assumption | apply keeps_writeGaugeCnt | apply keeps_begin
                            | apply keeps_writeBy)
    | split | dsimp only | intro _

theorem keeps_execSampleDrain {z s : State} (h : Keeps z s) (a0 : Fin 2) : ResKeeps z (execSampleDrain a0 s) := by
  unfold execSampleDrain
  repeat' first
    | (with_reducible first | apply resKeeps_next | assumption | apply keeps_setSamples | apply keeps_notifySample
                            | apply keeps_begin)
    | ((conv => arg 2; arg 55; skip); with_reducible first | apply keeps_mk | apply keeps_mkc)
    | split | dsimp only | intro _

theorem keeps_setLearning {z s : State} (h : Keeps z s) (a1 : ℕ) (a2 : LearnSt) : Keeps z (State.setLearning s a1 a2) := by
  unfold State.setLearning
  repeat' first
    | (with_reducible first | assumption | apply keeps_setFld)
    | ((conv => arg 2; arg 55; skip); with_reducible first | apply keeps_mk | apply keeps_mkc)
    | split | dsimp only | intro _

theorem keeps_lkpCount {z s : State} (h : Keeps z s) (a1 : ℕ) (a2 : ℕ) (a3 : ℕ) : Keeps z (State.lkpCount s a1 a2 a3) := by
  unfold State.lkpCount
  repeat' first
    | (with_reducible first | assumption | apply keeps_bump)
    | split | dsimp only | intro _

theorem keeps_eventAt {z s : State} (h : Keeps z s) (a1 : LEvent) (a2 : ℕ) : Keeps z (State.eventAt s a1 a2) := by
  unfold State.eventAt
  repeat' first
    | (with_reducible first | assumption | apply keeps_setLearning | apply keeps_gauge_now | apply keeps_fault
                            | apply keeps_lkpCount)
    | ((conv => arg 2; arg 55; skip); with_reducible first | apply keeps_mk | apply keeps_mkc)
    | split | dsimp only | intro _

theorem keeps_learnEvent {z s : State} (h : Keeps z s) (a1 : ℕ) (a2 : Bytes) (a3 : ℕ) (a4 : ℕ) : Keeps z (State.learnEvent s a1 a2 a3 a4) := by
  unfold State.learnEvent
  repeat' first
    | (with_reducible first | assumption | apply keeps_eventAt)
    | ((conv => arg 2; arg 55; skip); with_reducible first | apply keeps_mk | apply keeps_mkc)
    | split | dsimp only | intro _

theorem keeps_setPort {z s : State} (h : Keeps z s) (a1 : ℕ) (a2 : PortSt) : Keeps z (State.setPort s a1 a2) := by
  unfold State.setPort
  repeat' first
    | (with_reducible first | assumption)
    | ((conv => arg 2; arg 55; skip); with_reducible first | apply keeps_mk | apply keeps_mkc)
    | split | dsimp only | intro _

theorem keeps_requestBindoff {z s : State} (h : Keeps z s) (a1 : ℕ) : Keeps z (State.requestBindoff s a1) := by
  unfold State.requestBindoff
  repeat' first
    | (with_reducible first | assumption | apply keeps_setPort)
    | ((conv => arg 2; arg 55; skip); with_reducible first | apply keeps_mk | apply keeps_mkc)
    | split | dsimp only | intro _

theorem keeps_writeLaneCfg {z s : State} (h : Keeps z s) (a1 : ℕ) (a2 : BitVec 64) (a3 : BitVec 64) : Keeps z (State.writeLaneCfg s a1 a2 a3) := by
  unfold State.writeLaneCfg
  repeat' first
    | (with_reducible first | assumption | apply keeps_setFld | apply keeps_plainWrite)
    | split | dsimp only | intro _

theorem keeps_writePortCfg {z s : State} (h : Keeps z s) (a1 : ℕ) (a2 : BitVec 64) (a3 : BitVec 64) : Keeps z (State.writePortCfg s a1 a2 a3) := by
  unfold State.writePortCfg
  repeat' first
    | (with_reducible first | assumption | apply keeps_setFld | apply keeps_setReg)
    | split | dsimp only | intro _

theorem keeps_writePortCmd {z s : State} (h : Keeps z s) (a1 : ℕ) (a2 : BitVec 64) (a3 : BitVec 64) : Keeps z (State.writePortCmd s a1 a2 a3) := by
  unfold State.writePortCmd
  repeat' first
    | (with_reducible first | assumption | apply keeps_requestBindoff)
    | split | dsimp only | intro _

theorem keeps_execBindoffCmd {z s : State} (h : Keeps z s) (a0 : Agent) (a1 : Fin 130) (a2 : BitVec 32) : ResKeeps z (execBindoffCmd a0 a1 a2 s) := by
  unfold execBindoffCmd
  repeat' first
    | (with_reducible first | apply resKeeps_next | assumption | apply keeps_writePortCmd | apply keeps_begin
                            | apply keeps_writeBy)
    | split | dsimp only | intro _

theorem keeps_execLinkFaultChange {z s : State} (h : Keeps z s) (a0 : Fin 130) (a1 : Bool) (a2 : Bool) (a3 : Bool) (a4 : Bool) : ResKeeps z (execLinkFaultChange a0 a1 a2 a3 a4 s) := by
  unfold execLinkFaultChange
  repeat' first
    | (with_reducible first | apply resKeeps_next | assumption | apply keeps_setPort | apply keeps_setFld
                            | apply keeps_begin)
    | ((conv => arg 2; arg 55; skip); with_reducible first | apply keeps_mk | apply keeps_mkc)
    | split | dsimp only | intro _

theorem keeps_execLinkTrainingDone {z s : State} (h : Keeps z s) (a0 : Fin 130) : ResKeeps z (execLinkTrainingDone a0 s) := by
  unfold execLinkTrainingDone
  repeat' first
    | (with_reducible first | apply resKeeps_next | assumption | apply keeps_setFld | apply keeps_begin)
    | split | dsimp only | intro _

theorem keeps_execPortCfgWrite {z s : State} (h : Keeps z s) (a0 : Agent) (a1 : Fin 130) (a2 : BitVec 32) : ResKeeps z (execPortCfgWrite a0 a1 a2 s) := by
  unfold execPortCfgWrite
  repeat' first
    | (with_reducible first | apply resKeeps_next | assumption | apply keeps_writePortCfg | apply keeps_begin
                            | apply keeps_writeBy)
    | split | dsimp only | intro _

theorem keeps_setPipe {z s : State} (h : Keeps z s) (a1 : ℕ) (a2 : PipeSt) : Keeps z (State.setPipe s a1 a2) := by
  unfold State.setPipe
  repeat' first
    | (with_reducible first | assumption)
    | ((conv => arg 2; arg 55; skip); with_reducible first | apply keeps_mk | apply keeps_mkc)
    | split | dsimp only | intro _

theorem keeps_setArm {z s : State} (h : Keeps z s) (a1 : ℕ) (a2 : ℕ) (a3 : Option (ℕ × Bool × ℕ × ℕ)) : Keeps z (State.setArm s a1 a2 a3) := by
  unfold State.setArm
  repeat' first
    | (with_reducible first | assumption | apply keeps_setPipe)
    | ((conv => arg 2; arg 55; skip); with_reducible first | apply keeps_mk | apply keeps_mkc)
    | split | dsimp only | intro _

theorem keeps_imageEvent {z s : State} (h : Keeps z s) (a1 : Fld) (a2 : ℕ) : Keeps z (State.imageEvent s a1 a2) := by
  unfold State.imageEvent
  repeat' first
    | (with_reducible first | assumption | apply keeps_setFld | apply keeps_interrupt)
    | split | dsimp only | intro _

theorem keeps_armDir {z s : State} (h : Keeps z s) (a1 : ℕ) (a2 : ℕ) (a3 : BitVec 64) : Keeps z (State.armDir s a1 a2 a3) := by
  unfold State.armDir
  repeat' first
    | (with_reducible first | assumption | apply keeps_setFld | apply keeps_setArm | apply keeps_imageEvent)
    | split | dsimp only | intro _

theorem keeps_steCount {z s : State} (h : Keeps z s) (a1 : ℕ) (a2 : ℕ) : Keeps z (State.steCount s a1 a2) := by
  unfold State.steCount
  repeat' first
    | (with_reducible first | assumption | apply keeps_bump)
    | split | dsimp only | intro _

theorem keeps_setNeedle {z s : State} (h : Keeps z s) (a1 : ℕ) (a2 : Option Needle) : Keeps z (State.setNeedle s a1 a2) := by
  unfold State.setNeedle
  repeat' first
    | (with_reducible first | assumption | apply keeps_setFld)
    | ((conv => arg 2; arg 55; skip); with_reducible first | apply keeps_mk | apply keeps_mkc)
    | split | dsimp only | intro _

theorem keeps_startOn {z s : State} (h : Keeps z s) (a1 : ℕ) (a2 : Needle) : Keeps z (State.startOn s a1 a2) := by
  unfold State.startOn
  repeat' first
    | (with_reducible first | assumption | apply keeps_setPipe | apply keeps_setNeedle)
    | ((conv => arg 2; arg 55; skip); with_reducible first | apply keeps_mk | apply keeps_mkc)
    | split | dsimp only | intro _

theorem keeps_sampleStep {z s : State} (h : Keeps z s) (n d : Nat) : Keeps z (s.sampleStep n d).2 := by
  unfold State.sampleStep
  have hc : ∀ c : Nat × State, Keeps z c.2 → Keeps z (if c.1 ≤ 1 then
      (true, (c.2.sampleLoad n).2.setPipe n (((c.2.sampleLoad n).2.pipe n).setSample d (some (c.2.sampleLoad n).1)))
      else (false, c.2.setPipe n ((c.2.pipe n).setSample d (some (c.1 - 1))))).2 := by
    intro c hc
    split
    · exact keeps_setPipe (keeps_sampleLoad hc n) _ _
    · exact keeps_setPipe hc _ _
  by_cases hb : (!(if d = 0 then s.effBit F.GGE_SMP_CFG_IG_EN n else s.effBit F.GGE_SMP_CFG_EG_EN n)) = true
  · rw [if_pos hb]; exact keeps_setPipe h _ _
  · rw [if_neg hb]
    apply hc
    split
    · exact h
    · exact keeps_sampleLoad h n

theorem keeps_sampleStep_eq {z s t : State} {b0 : Bool} {a1 a2 : Nat} (e : s.sampleStep a1 a2 = (b0, t)) (h : Keeps z s) :
    Keeps z t := by
  have k := keeps_sampleStep h a1 a2
  rw [e] at k; exact k

theorem keeps_startIngress {z s : State} (h : Keeps z s) (a1 : ℕ) (a2 : ℕ) (a3 : Pkt) : Keeps z (State.startIngress s a1 a2 a3) := by
  unfold State.startIngress
  repeat' first
    | (with_reducible first | assumption | apply keeps_setPipe | apply keeps_steCount | apply keeps_gauge_now
                            | apply keeps_startOn | apply keeps_sampleStep
                            | refine keeps_sampleStep_eq (by assumption) ?_)
    | ((conv => arg 2; arg 55; skip); with_reducible first | apply keeps_mk | apply keeps_mkc)
    | split | dsimp only | intro _

theorem keeps_dropStaged {z s : State} (h : Keeps z s) (a1 : ℕ) : Keeps z (State.dropStaged s a1) := by
  unfold State.dropStaged
  repeat' first
    | (with_reducible first | assumption)
    | ((conv => arg 2; arg 55; skip); with_reducible first | apply keeps_mk | apply keeps_mkc)
    | split | dsimp only | intro _

theorem keeps_takeReady {z s : State} (h : Keeps z s) (a1 : ℕ) (a2 : Pkt) : Keeps z (State.takeReady s a1 a2) := by
  unfold State.takeReady
  repeat' first
    | (with_reducible first | assumption | apply keeps_setPipe)
    | ((conv => arg 2; arg 55; skip); with_reducible first | apply keeps_mk | apply keeps_mkc)
    | split | dsimp only | intro _

theorem keeps_dispatchSlot {z s : State} (h : Keeps z s) (a1 : ℕ) (a2 : List ℕ) : Keeps z (State.dispatchSlot s a1 a2).1 := by
  unfold State.dispatchSlot
  repeat' first
    | (with_reducible first | assumption | apply keeps_startIngress | apply keeps_gauge_now | apply keeps_dropStaged
                            | apply keeps_steCount | apply keeps_setPipe | apply keeps_takeReady)
    | ((conv => arg 2; arg 55; skip); with_reducible first | apply keeps_mk | apply keeps_mkc)
    | split | dsimp only | intro _
theorem keeps_dispatchSlot_eq {z s t : State} {b1 : List ℕ} {b2 : Bool} {a1 : ℕ} {a2 : List ℕ} (e : State.dispatchSlot s a1 a2 = (t, b1, b2)) (h : Keeps z s) : Keeps z t := by
  have k := keeps_dispatchSlot h a1 a2
  rw [e] at k; exact k

theorem keeps_sampleRecord {z s : State} (h : Keeps z s) (a1 : ℕ) (a2 : Needle) (a3 : ℕ) (a4 : ℕ) (a5 : ℕ) (a6 : Bytes) : Keeps z (State.sampleRecord s a1 a2 a3 a4 a5 a6) := by
  unfold State.sampleRecord
  repeat' first
    | (with_reducible first | assumption | apply keeps_sampleEnter)
    | split | dsimp only | intro _

theorem keeps_endNeedle {z s : State} (h : Keeps z s) (a1 : ℕ) (a2 : Needle) (a3 : ℕ) (a4 : ℕ) (a5 : ℕ) : Keeps z (State.endNeedle s a1 a2 a3 a4 a5) := by
  unfold State.endNeedle
  repeat' first
    | (with_reducible first | assumption | apply keeps_bump | apply keeps_steCount | apply keeps_gauge_now
                            | apply keeps_sampleRecord | apply keeps_setNeedle | apply keeps_setPipe)
    | ((conv => arg 2; arg 55; skip); with_reducible first | apply keeps_mk | apply keeps_mkc)
    | split | dsimp only | intro _

theorem keeps_enterStaging {z s : State} (h : Keeps z s) (a1 : ℕ) (a2 : Pkt) (a3 : Bool) : Keeps z (State.enterStaging s a1 a2 a3) := by
  unfold State.enterStaging
  repeat' first
    | (with_reducible first | assumption | apply keeps_setPipe | apply keeps_steCount)
    | ((conv => arg 2; arg 55; skip); with_reducible first | apply keeps_mk | apply keeps_mkc)
    | split | dsimp only | intro _

theorem keeps_setStaged {z s : State} (h : Keeps z s) (a1 : ℕ) (a2 : Staged) : Keeps z (State.setStaged s a1 a2) := by
  unfold State.setStaged
  repeat' first
    | (with_reducible first | assumption)
    | ((conv => arg 2; arg 55; skip); with_reducible first | apply keeps_mk | apply keeps_mkc)
    | split | dsimp only | intro _

theorem keeps_leaveStaging {z s : State} (h : Keeps z s) (a1 : ℕ) : Keeps z (State.leaveStaging s a1) := by
  unfold State.leaveStaging
  repeat' first
    | (with_reducible first | assumption | apply keeps_setStaged)
    | ((conv => arg 2; arg 55; skip); with_reducible first | apply keeps_mk | apply keeps_mkc)
    | split | dsimp only | intro _

theorem keeps_passEgress {z s : State} (h : Keeps z s) (a1 : ℕ) (a2 : ℕ) (a3 : Copy) : Keeps z (State.passEgress s a1 a2 a3) := by
  unfold State.passEgress
  repeat' first
    | (with_reducible first | assumption | apply keeps_setPipe)
    | ((conv => arg 2; arg 55; skip); with_reducible first | apply keeps_mk | apply keeps_mkc)
    | split | dsimp only | intro _

theorem keeps_setCopy {z s : State} (h : Keeps z s) (a1 : ℕ) (a2 : Option Copy) : Keeps z (State.setCopy s a1 a2) := by
  unfold State.setCopy
  repeat' first
    | (with_reducible first | assumption)
    | ((conv => arg 2; arg 55; skip); with_reducible first | apply keeps_mk | apply keeps_mkc)
    | split | dsimp only | intro _

theorem keeps_startEgress {z s : State} (h : Keeps z s) (a1 : ℕ) (a2 : ℕ) (a3 : ℕ) (a4 : Copy) : Keeps z (State.startEgress s a1 a2 a3 a4) := by
  unfold State.startEgress
  repeat' first
    | (with_reducible first | assumption | apply keeps_setPipe | apply keeps_steCount | apply keeps_gauge_now
                            | apply keeps_startOn | apply keeps_sampleStep
                            | refine keeps_sampleStep_eq (by assumption) ?_)
    | ((conv => arg 2; arg 55; skip); with_reducible first | apply keeps_mk | apply keeps_mkc)
    | split | dsimp only | intro _

theorem keeps_writeImage {z s : State} (h : Keeps z s) (a1 : ℕ) (a2 : ℕ) (a3 : ImageReg) (a4 : BitVec 64) (a5 : BitVec 64) : Keeps z (State.writeImage s a1 a2 a3 a4 a5) := by
  unfold State.writeImage
  repeat' first
    | (with_reducible first | assumption | apply keeps_plainWrite | apply keeps_imageEvent | apply keeps_setFld)
    | split | dsimp only | intro _

theorem keeps_writeImg {z s : State} (h : Keeps z s) (a1 : ℕ) (a2 : BitVec 64) (a3 : BitVec 64) : Keeps z (State.writeImg s a1 a2 a3) := by
  unfold State.writeImg
  repeat' first
    | (with_reducible first | assumption | apply keeps_armDir | apply keeps_setFld)
    | split | dsimp only | intro _

theorem keeps_execEgressDispatch {z s : State} (h : Keeps z s) (a0 : Fin 16) : ResKeeps z (execEgressDispatch a0 s) := by
  unfold execEgressDispatch
  repeat' first
    | (with_reducible first | apply resKeeps_next | assumption | apply keeps_startEgress | apply keeps_passEgress
                            | apply keeps_setPipe | apply keeps_begin)
    | ((conv => arg 2; arg 55; skip); with_reducible first | apply keeps_mk | apply keeps_mkc)
    | split | dsimp only | intro _

theorem keeps_execImageArm {z s : State} (h : Keeps z s) (a0 : Agent) (a1 : Fin 16) (a2 : BitVec 32) : ResKeeps z (execImageArm a0 a1 a2 s) := by
  unfold execImageArm
  repeat' first
    | (with_reducible first | apply resKeeps_next | assumption | apply keeps_writeImg | apply keeps_begin
                            | apply keeps_writeBy)
    | split | dsimp only | intro _

theorem keeps_execImageSwitch {z s : State} (h : Keeps z s) (a0 : Fin 16) (a1 : Bool) : ResKeeps z (execImageSwitch a0 a1 s) := by
  unfold execImageSwitch
  repeat' first
    | (with_reducible first | apply resKeeps_next | assumption | apply keeps_setArm | apply keeps_setFld
                            | apply keeps_imageEvent | apply keeps_begin)
    | ((conv => arg 2; arg 55; skip); with_reducible first | apply keeps_mk | apply keeps_mkc)
    | split | dsimp only | intro _

theorem keeps_execIngressDispatch {z s : State} (h : Keeps z s) (a0 : Fin 16) : ResKeeps z (execIngressDispatch a0 s) := by
  unfold execIngressDispatch
  repeat' first
    | (with_reducible first | apply resKeeps_next | assumption | apply keeps_dispatchSlot
                            | refine keeps_dispatchSlot_eq (by assumption) ?_ | apply keeps_setPipe | apply keeps_begin)
    | ((conv => arg 2; arg 55; skip); with_reducible first | apply keeps_mk | apply keeps_mkc)
    | split | dsimp only | intro _

theorem keeps_execOldSetDrained {z s : State} (h : Keeps z s) (a0 : Fin 16) (a1 : Bool) : ResKeeps z (execOldSetDrained a0 a1 s) := by
  unfold execOldSetDrained
  repeat' first
    | (with_reducible first | apply resKeeps_next | assumption | apply keeps_setFld | apply keeps_begin)
    | split | dsimp only | intro _

theorem keeps_execProgramStoreWrite {z s : State} (h : Keeps z s) (a0 : Agent) (a1 : Fin 16) (a2 : Bool) (a3 : ImageReg) (a4 : BitVec 64) : ResKeeps z (execProgramStoreWrite a0 a1 a2 a3 a4 s) := by
  unfold execProgramStoreWrite
  repeat' first
    | (with_reducible first | apply resKeeps_next | assumption | apply keeps_writeImage | apply keeps_begin
                            | apply keeps_writeBy)
    | split | dsimp only | intro _

theorem keeps_setCtx {z s : State} (h : Keeps z s) (a1 : ℕ) (a2 : Option Ctx) : Keeps z (State.setCtx s a1 a2) := by
  unfold State.setCtx
  repeat' first
    | (with_reducible first | assumption)
    | ((conv => arg 2; arg 55; skip); with_reducible first | apply keeps_mk | apply keeps_mkc)
    | split | dsimp only | intro _

theorem keeps_consume {z s : State} (h : Keeps z s) (g : Nat) (l : List (Nat × Nat × Option (Option Bytes))) :
    Keeps z (s.consume g l) := by
  induction l generalizing s with
  | nil => exact keeps_setSq h _ _
  | cons x l ih =>
    obtain ⟨i, n, o⟩ := x
    cases o with
    | none => exact keeps_setSq h _ _
    | some e =>
      unfold State.consume
      dsimp only
      apply ih
      have h1 := keeps_setCq (keeps_setFld h F.DMA_SQ_STS_HEAD g (s.fld F.DMA_SQ_STS_HEAD g + n)) (s.boundCq g)
        { s.cq (s.boundCq g) with promised := (s.cq (s.boundCq g)).promised - 1 }
      split
      · split
        · exact keeps_cqPush h1 _ _
        · exact h1
      · exact h1

theorem keeps_finishEntries {z s : State} (h : Keeps z s) (a1 : ℕ) (a2 : ℕ) (a3 : Option Bytes) : Keeps z (State.finishEntries s a1 a2 a3) := by
  unfold State.finishEntries
  repeat' first
    | (with_reducible first | assumption | apply keeps_consume)
    | split | dsimp only | intro _

theorem keeps_chartEnd {z s : State} (h : Keeps z s) (a1 : ℕ) (a2 : Ctx) : Keeps z (State.chartEnd s a1 a2) := by
  unfold State.chartEnd
  repeat' first
    | (with_reducible first | assumption | apply keeps_bump | apply keeps_finishEntries | apply keeps_setSq
                            | apply keeps_setCtx)
    | ((conv => arg 2; arg 55; skip); with_reducible first | apply keeps_mk | apply keeps_mkc)
    | split | dsimp only | intro _

theorem keeps_forgetAhead {z s : State} (h : Keeps z s) (a1 : Ctx) (a2 : ℕ) : Keeps z (State.forgetAhead s a1 a2) := by
  unfold State.forgetAhead
  repeat' first
    | (with_reducible first | assumption)
    | ((conv => arg 2; arg 55; skip); with_reducible first | apply keeps_mk | apply keeps_mkc)
    | split | dsimp only | intro _

theorem keeps_takeEntry_opt {z s : State} (h : Keeps z s) (a1 : ℕ) (a2 : Ctx) : OptKeeps (fun r => r.2.2.2) z (State.takeEntry s a1 a2) := by
  unfold State.takeEntry
  repeat' first
    | (with_reducible first | exact optKeeps_none | apply optKeeps_some | assumption | apply keeps_forgetAhead
                            | apply keeps_setCtx | apply keeps_setSq)
    | ((conv => arg 2; arg 55; skip); with_reducible first | apply keeps_mk | apply keeps_mkc)
    | split | dsimp only | intro _
theorem keeps_takeEntry {z s t : State} {b0 : ℕ} {b1 : Bytes} {b2 : Ctx} {a1 : ℕ} {a2 : Ctx} (e : State.takeEntry s a1 a2 = some (b0, b1, b2, t)) (h : Keeps z s) : Keeps z t :=
  keeps_takeEntry_opt h a1 a2 _ e

theorem keeps_chartDrain {z s : State} (h : Keeps z s) (a1 : ℕ) (a2 : ℕ) : Keeps z (State.chartDrain s a1 a2) := by
  induction a2 generalizing s with
  | zero =>
    unfold State.chartDrain
    repeat' first
      | (with_reducible first | assumption | apply ih | apply keeps_chartEnd | apply keeps_takeEntry_opt
                              | refine keeps_takeEntry (by assumption) ?_)
      | ((conv => arg 2; arg 55; skip); with_reducible first | apply keeps_mk | apply keeps_mkc)
      | split | dsimp only | intro _
  | succ n ih =>
    unfold State.chartDrain
    repeat' first
      | (with_reducible first | assumption | apply ih | apply keeps_chartEnd | apply keeps_takeEntry_opt
                              | refine keeps_takeEntry (by assumption) ?_)
      | ((conv => arg 2; arg 55; skip); with_reducible first | apply keeps_mk | apply keeps_mkc)
      | split | dsimp only | intro _

theorem keeps_drainAll {z s : State} (h : Keeps z s) (a1 : ℕ) : Keeps z (State.drainAll s a1) := by
  unfold State.drainAll
  repeat' first
    | (with_reducible first | assumption | apply keeps_chartDrain)
    | ((conv => arg 2; arg 55; skip); with_reducible first | apply keeps_mk | apply keeps_mkc)
    | split | dsimp only | intro _

theorem keeps_chartFail {z s : State} (h : Keeps z s) (a1 : ℕ) (a2 : ℕ) : Keeps z (State.chartFail s a1 a2) := by
  unfold State.chartFail
  repeat' first
    | (with_reducible first | assumption | apply keeps_setCtx | apply keeps_drainAll | apply keeps_setReg
                            | apply keeps_bump)
    | ((conv => arg 2; arg 55; skip); with_reducible first | apply keeps_mk | apply keeps_mkc)
    | split | dsimp only | intro _

theorem keeps_operandFails {z s : State} (h : Keeps z s) (a1 : ℕ) : Keeps z (State.operandFails s a1) := by
  unfold State.operandFails
  repeat' first
    | (with_reducible first | assumption | apply keeps_chartFail | apply keeps_takeEntry_opt
                            | refine keeps_takeEntry (by assumption) ?_)
    | ((conv => arg 2; arg 55; skip); with_reducible first | apply keeps_mk | apply keeps_mkc)
    | split | dsimp only | intro _

theorem keeps_operandArrives {z s : State} (h : Keeps z s) (a1 : ℕ) (a2 : Bytes) : Keeps z (State.operandArrives s a1 a2) := by
  unfold State.operandArrives
  repeat' first
    | (with_reducible first | assumption | apply keeps_setCtx)
    | ((conv => arg 2; arg 55; skip); with_reducible first | apply keeps_mk | apply keeps_mkc)
    | split | dsimp only | intro _

theorem keeps_aheadEnds {z s : State} (h : Keeps z s) (a1 : ℕ) (a2 : Option Bytes) : Keeps z (State.aheadEnds s a1 a2) := by
  unfold State.aheadEnds
  repeat' first
    | (with_reducible first | assumption | apply keeps_operandFails | apply keeps_operandArrives | apply keeps_each)
    | ((conv => arg 2; arg 55; skip); with_reducible first | apply keeps_mk | apply keeps_mkc)
    | split | dsimp only | intro _

theorem keeps_beginEntries {z s : State} (h : Keeps z s) (a1 : ℕ) (a2 : ℕ) : Keeps z (State.beginEntries s a1 a2) := by
  unfold State.beginEntries
  repeat' first
    | (with_reducible first | assumption | apply keeps_setSq | apply keeps_setCq)
    | ((conv => arg 2; arg 55; skip); with_reducible first | apply keeps_mk | apply keeps_mkc)
    | split | dsimp only | intro _

theorem keeps_chartArrived {z s : State} (h : Keeps z s) (a1 : ℕ) : Keeps z (State.chartArrived s a1) := by
  unfold State.chartArrived
  repeat' first
    | (with_reducible first | assumption | apply keeps_drainAll | apply keeps_each)
    | split | dsimp only | intro _

theorem keeps_chartCut {z s : State} (h : Keeps z s) (a1 : ℕ) (a2 : Bool) : Keeps z (State.chartCut s a1 a2) := by
  unfold State.chartCut
  repeat' first
    | (with_reducible first | assumption | apply keeps_chartFail | apply keeps_drainAll | apply keeps_setCtx
                            | apply keeps_each)
    | ((conv => arg 2; arg 55; skip); with_reducible first | apply keeps_mk | apply keeps_mkc)
    | split | dsimp only | intro _

theorem keeps_chartDone {z s : State} (h : Keeps z s) (a1 : ℕ) : Keeps z (State.chartDone s a1) := by
  unfold State.chartDone
  repeat' first
    | (with_reducible first | assumption | apply keeps_chartFail | apply keeps_chartEnd | apply keeps_bump
                            | apply keeps_setCtx)
    | ((conv => arg 2; arg 55; skip); with_reducible first | apply keeps_mk | apply keeps_mkc)
    | split | dsimp only | intro _

theorem keeps_abandonFrames {z s : State} (h : Keeps z s) (a1 : ℕ) : Keeps z (State.abandonFrames s a1) := by
  unfold State.abandonFrames
  repeat' first
    | (with_reducible first | assumption)
    | ((conv => arg 2; arg 55; skip); with_reducible first | apply keeps_mk | apply keeps_mkc)
    | split | dsimp only | intro _

theorem keeps_badDoorbell {z s : State} (h : Keeps z s) (a1 : ℕ) : Keeps z (State.badDoorbell s a1) := by
  unfold State.badDoorbell
  repeat' first
    | (with_reducible first | assumption | apply keeps_bump | apply keeps_fault)
    | split | dsimp only | intro _

theorem keeps_applyDoorbell {z s : State} (h : Keeps z s) (a1 : Bool) (a2 : ℕ) (a3 : ℕ) : Keeps z (State.applyDoorbell s a1 a2 a3) := by
  unfold State.applyDoorbell
  repeat' first
    | (with_reducible first | assumption | apply keeps_cqDrain | apply keeps_cqRefresh | apply keeps_setFld
                            | apply keeps_badDoorbell)
    | split | dsimp only | intro _

theorem keeps_cqOff {z s : State} (h : Keeps z s) (a1 : ℕ) (a2 : ℕ) : Keeps z (State.cqOff s a1 a2) := by
  unfold State.cqOff
  repeat' first
    | (with_reducible first | assumption | apply keeps_setCq | apply keeps_cqRefresh | apply keeps_setFld
                            | apply keeps_satFld)
    | ((conv => arg 2; arg 55; skip); with_reducible first | apply keeps_mk | apply keeps_mkc)
    | split | dsimp only | intro _

theorem keeps_writeIndex {z s : State} (h : Keeps z s) (a1 : Bool) (a2 : ℕ) : Keeps z (State.writeIndex s a1 a2) := by
  unfold State.writeIndex
  repeat' first
    | (with_reducible first | assumption | apply keeps_setSq | apply keeps_setCq | apply keeps_sendTlp)
    | ((conv => arg 2; arg 55; skip); with_reducible first | apply keeps_mk | apply keeps_mkc)
    | split | dsimp only | intro _

theorem keeps_ltrUpdate {z s : State} (h : Keeps z s)  : Keeps z (State.ltrUpdate s) := by
  unfold State.ltrUpdate
  repeat' first
    | (with_reducible first | assumption | apply keeps_sendTlp)
    | ((conv => arg 2; arg 55; skip); with_reducible first | apply keeps_mk | apply keeps_mkc)
    | split | dsimp only | intro _

theorem keeps_sqFinish {z s : State} (h : Keeps z s) (a1 : ℕ) : Keeps z (State.sqFinish s a1) := by
  unfold State.sqFinish
  repeat' first
    | (with_reducible first | assumption | apply keeps_writeIndex | apply keeps_ltrUpdate | apply keeps_setSq
                            | apply keeps_setFld | apply keeps_cqPush)
    | ((conv => arg 2; arg 55; skip); with_reducible first | apply keeps_mk | apply keeps_mkc)
    | split | dsimp only | intro _

theorem keeps_readLost {z s : State} (h : Keeps z s) (a1 : ReadFor) : Keeps z (State.readLost s a1) := by
  unfold State.readLost
  repeat' first
    | (with_reducible first | assumption | apply keeps_aheadEnds | apply keeps_operandFails | apply keeps_setSq
                            | apply keeps_setCq)
    | ((conv => arg 2; arg 55; skip); with_reducible first | apply keeps_mk | apply keeps_mkc)
    | split | dsimp only | intro _

theorem keeps_dropOps {z s : State} (h : Keeps z s) (a1 : ReadOp → Bool) : Keeps z (State.dropOps s a1) := by
  unfold State.dropOps
  repeat' first
    | (with_reducible first | assumption | apply keeps_readLost | apply keeps_foldl | apply keeps_foldl_fst
                            | apply keeps_foldl_snd | apply keeps_foldl_mid)
    | ((conv => arg 2; arg 55; skip); with_reducible first | apply keeps_mk | apply keeps_mkc)
    | split | dsimp only | intro _

theorem keeps_dropAhead {z s : State} (h : Keeps z s) (a1 : ℕ) : Keeps z (State.dropAhead s a1) := by
  unfold State.dropAhead
  repeat' first
    | (with_reducible first | assumption | apply keeps_dropOps)
    | ((conv => arg 2; arg 55; skip); with_reducible first | apply keeps_mk | apply keeps_mkc)
    | split | dsimp only | intro _

theorem keeps_sqStop {z s : State} (h : Keeps z s) (a1 : ℕ) : Keeps z (State.sqStop s a1) := by
  unfold State.sqStop
  repeat' first
    | (with_reducible first | assumption | apply keeps_setSq | apply keeps_chartCut | apply keeps_dropAhead
                            | apply keeps_dropOps)
    | ((conv => arg 2; arg 55; skip); with_reducible first | apply keeps_mk | apply keeps_mkc)
    | split | dsimp only | intro _

theorem keeps_descFail {z s : State} (h : Keeps z s) (a1 : ℕ) : Keeps z (State.descFail s a1) := by
  unfold State.descFail
  repeat' first
    | (with_reducible first | assumption | apply keeps_setSq | apply keeps_bump | apply keeps_fault
                            | apply keeps_sqFinish | apply keeps_sqStop | apply keeps_setFld)
    | ((conv => arg 2; arg 55; skip); with_reducible first | apply keeps_mk | apply keeps_mkc)
    | split | dsimp only | intro _

theorem keeps_issueNext {z s : State} (h : Keeps z s)  : Keeps z (State.issueNext s) := by
  unfold State.issueNext
  repeat' first
    | (with_reducible first | assumption | apply keeps_sendTlp)
    | ((conv => arg 2; arg 55; skip); with_reducible first | apply keeps_mk | apply keeps_mkc)
    | split | dsimp only | intro _

theorem keeps_issueReads {z s : State} (h : Keeps z s) (a1 : ℕ) : Keeps z (State.issueReads s a1) := by
  induction a1 generalizing s with
  | zero =>
    unfold State.issueReads
    repeat' first
      | (with_reducible first | assumption | apply ih | apply keeps_issueNext)
      | split | dsimp only | intro _
  | succ n ih =>
    unfold State.issueReads
    repeat' first
      | (with_reducible first | assumption | apply ih | apply keeps_issueNext)
      | split | dsimp only | intro _

theorem keeps_pumpReads {z s : State} (h : Keeps z s)  : Keeps z (State.pumpReads s) := by
  unfold State.pumpReads
  repeat' first
    | (with_reducible first | assumption | apply keeps_issueReads)
    | split | dsimp only | intro _

theorem keeps_startRead {z s : State} (h : Keeps z s) (a1 : ℕ) (a2 : List (ℕ × ℕ)) (a3 : ReadFor) : Keeps z (State.startRead s a1 a2 a3) := by
  unfold State.startRead
  repeat' first
    | (with_reducible first | assumption | apply keeps_pumpReads)
    | ((conv => arg 2; arg 55; skip); with_reducible first | apply keeps_mk | apply keeps_mkc)
    | split | dsimp only | intro _

theorem keeps_fetchDoorbell {z s : State} (h : Keeps z s) (a1 : Bool) (a2 : ℕ) : Keeps z (State.fetchDoorbell s a1 a2) := by
  unfold State.fetchDoorbell
  repeat' first
    | (with_reducible first | assumption | apply keeps_setSq | apply keeps_startRead | apply keeps_setCq
                            | apply keeps_badDoorbell)
    | ((conv => arg 2; arg 55; skip); with_reducible first | apply keeps_mk | apply keeps_mkc)
    | split | dsimp only | intro _

theorem keeps_doorbellWord {z s : State} (h : Keeps z s) (a1 : Bool) (a2 : ℕ) (a3 : BitVec 64) : Keeps z (State.doorbellWord s a1 a2 a3) := by
  unfold State.doorbellWord
  repeat' first
    | (with_reducible first | assumption | apply keeps_applyDoorbell | apply keeps_fetchDoorbell)
    | split | dsimp only | intro _

theorem keeps_publish {z s : State} (h : Keeps z s) (a1 : ℕ) (a2 : Bool) (a3 : ℕ) : Keeps z (State.publish s a1 a2 a3) := by
  unfold State.publish
  repeat' first
    | (with_reducible first | assumption | apply keeps_writeIndex)
    | split | dsimp only | intro _

theorem keeps_edgeRings {z s : State} (h : Keeps z s)  : Keeps z (State.edgeRings s) := by
  unfold State.edgeRings
  repeat' first
    | (with_reducible first | assumption | apply keeps_pumpReads | apply keeps_cqDrain | apply keeps_publish
                            | apply keeps_each)
    | split | dsimp only | intro _

theorem keeps_fetchFrom {z s : State} (h : Keeps z s) (a1 : ℕ) : Keeps z (State.fetchFrom s a1) := by
  unfold State.fetchFrom
  repeat' first
    | (with_reducible first | assumption | apply keeps_setFld | apply keeps_setSq | apply keeps_startRead)
    | ((conv => arg 2; arg 55; skip); with_reducible first | apply keeps_mk | apply keeps_mkc)
    | split | dsimp only | intro _

theorem keeps_hostIndexDone {z s : State} (h : Keeps z s) (a1 : Bool) (a2 : ℕ) (a3 : Option ℕ) : Keeps z (State.hostIndexDone s a1 a2 a3) := by
  unfold State.hostIndexDone
  repeat' first
    | (with_reducible first | assumption | apply keeps_fetchDoorbell | apply keeps_setFld | apply keeps_applyDoorbell
                            | apply keeps_setSq | apply keeps_setCq)
    | ((conv => arg 2; arg 55; skip); with_reducible first | apply keeps_mk | apply keeps_mkc)
    | split | dsimp only | intro _

theorem keeps_newRound {z s : State} (h : Keeps z s)  : Keeps z (State.newRound s) := by
  unfold State.newRound
  repeat' first
    | (with_reducible first | assumption)
    | ((conv => arg 2; arg 55; skip); with_reducible first | apply keeps_mk | apply keeps_mkc)
    | split | dsimp only | intro _

theorem keeps_packetWrite {z s : State} (h : Keeps z s) (a1 : ℕ) (a2 : ℕ) (a3 : Bytes) : Keeps z (State.packetWrite s a1 a2 a3) := by
  unfold State.packetWrite
  repeat' first
    | (with_reducible first | assumption | apply keeps_sendTlp)
    | split | dsimp only | intro _

theorem keeps_readAhead {z s : State} (h : Keeps z s) (a1 : ℕ) (a2 : List (ℕ × Bytes)) : Keeps z (State.readAhead s a1 a2) := by
  unfold State.readAhead
  repeat' first
    | (with_reducible first | assumption | apply keeps_startRead | apply keeps_foldl | apply keeps_foldl_fst
                            | apply keeps_foldl_snd | apply keeps_foldl_mid)
    | ((conv => arg 2; arg 55; skip); with_reducible first | apply keeps_mk | apply keeps_mkc)
    | split | dsimp only | intro _

theorem keeps_ringReadDone {z s : State} (h : Keeps z s) (a1 : ReadFor) (a2 : Bytes) : Keeps z (State.ringReadDone s a1 a2) := by
  unfold State.ringReadDone
  repeat' first
    | (with_reducible first | assumption | apply keeps_aheadEnds | apply keeps_operandArrives
                            | apply keeps_hostIndexDone | apply keeps_setSq | apply keeps_chartArrived
                            | apply keeps_readAhead)
    | ((conv => arg 2; arg 55; skip); with_reducible first | apply keeps_mk | apply keeps_mkc)
    | split | dsimp only | intro _

theorem keeps_ringReadFailed {z s : State} (h : Keeps z s) (a1 : ReadFor) : Keeps z (State.ringReadFailed s a1) := by
  unfold State.ringReadFailed
  repeat' first
    | (with_reducible first | assumption | apply keeps_aheadEnds | apply keeps_fault | apply keeps_operandFails
                            | apply keeps_hostIndexDone | apply keeps_descFail)
    | ((conv => arg 2; arg 55; skip); with_reducible first | apply keeps_mk | apply keeps_mkc)
    | split | dsimp only | intro _

theorem keeps_ringRefuse {z s : State} (h : Keeps z s) (a1 : Bool) (a2 : ℕ) (a3 : ℕ) : Keeps z (State.ringRefuse s a1 a2 a3) := by
  unfold State.ringRefuse
  repeat' first
    | (with_reducible first | assumption | apply keeps_setFld)
    | split | dsimp only | intro _

theorem keeps_ringStart {z s : State} (h : Keeps z s) (a1 : Bool) (a2 : ℕ) : Keeps z (State.ringStart s a1 a2) := by
  unfold State.ringStart
  repeat' first
    | (with_reducible first | assumption | apply keeps_setSq | apply keeps_setCq | apply keeps_cqRefresh
                            | apply keeps_setFld)
    | ((conv => arg 2; arg 55; skip); with_reducible first | apply keeps_mk | apply keeps_mkc)
    | split | dsimp only | intro _

theorem keeps_sqOff {z s : State} (h : Keeps z s) (a1 : ℕ) : Keeps z (State.sqOff s a1) := by
  unfold State.sqOff
  repeat' first
    | (with_reducible first | assumption | apply keeps_setSq | apply keeps_bump | apply keeps_setFld
                            | apply keeps_dropOps | apply keeps_chartCut | apply keeps_dropAhead
                            | apply keeps_abandonFrames)
    | ((conv => arg 2; arg 55; skip); with_reducible first | apply keeps_mk | apply keeps_mkc)
    | split | dsimp only | intro _

theorem keeps_ringsOffOf {z s : State} (h : Keeps z s) (a1 : ℕ) : Keeps z (State.ringsOffOf s a1) := by
  unfold State.ringsOffOf
  repeat' first
    | (with_reducible first | assumption | apply keeps_cqOff | apply keeps_bump | apply keeps_sqOff | apply keeps_each)
    | split | dsimp only | intro _

theorem keeps_setRingCfg {z s : State} (h : Keeps z s) (a1 : Bool) (a2 : ℕ) (a3 : BitVec 64) : Keeps z (State.setRingCfg s a1 a2 a3) := by
  unfold State.setRingCfg
  repeat' first
    | (with_reducible first | assumption | apply keeps_setSq | apply keeps_setReg)
    | ((conv => arg 2; arg 55; skip); with_reducible first | apply keeps_mk | apply keeps_mkc)
    | split | dsimp only | intro _

theorem keeps_writeBar2 {z s : State} (h : Keeps z s) (a1 : ℕ) (a2 : ℕ) (a3 : ℕ) (a4 : BitVec 64) : Keeps z (State.writeBar2 s a1 a2 a3 a4) := by
  unfold State.writeBar2
  repeat' first
    | (with_reducible first | assumption | apply keeps_doorbellWord)
    | ((conv => arg 2; arg 55; skip); with_reducible first | apply keeps_mk | apply keeps_mkc)
    | split | dsimp only | intro _

theorem keeps_writeFuncRings {z s : State} (h : Keeps z s) (a1 : ℕ) (a2 : BitVec 64) (a3 : BitVec 64) : Keeps z (State.writeFuncRings s a1 a2 a3) := by
  unfold State.writeFuncRings
  repeat' first
    | (with_reducible first | assumption | apply keeps_setReg | apply keeps_setFld)
    | split | dsimp only | intro _

theorem keeps_writeRingAddr {z s : State} (h : Keeps z s) (a1 : Bool) (a2 : Reg) (a3 : ℕ) (a4 : BitVec 64) (a5 : BitVec 64) : Keeps z (State.writeRingAddr s a1 a2 a3 a4 a5) := by
  unfold State.writeRingAddr
  repeat' first
    | (with_reducible first | assumption | apply keeps_plainWrite | apply keeps_ringRefuse)
    | split | dsimp only | intro _

theorem keeps_writeRingCfg {z s : State} (h : Keeps z s) (a1 : Bool) (a2 : ℕ) (a3 : BitVec 64) (a4 : BitVec 64) : Keeps z (State.writeRingCfg s a1 a2 a3 a4) := by
  unfold State.writeRingCfg
  repeat' first
    | (with_reducible first | assumption | apply keeps_ringStart | apply keeps_sqStop | apply keeps_setReg
                            | apply keeps_cqOff | apply keeps_writeIndex | apply keeps_ltrUpdate
                            | apply keeps_setRingCfg | apply keeps_ringRefuse)
    | split | dsimp only | intro _

theorem keeps_execDescriptorFetch {z s : State} (h : Keeps z s)  : ResKeeps z (execDescriptorFetch s) := by
  unfold execDescriptorFetch
  repeat' first
    | (with_reducible first | apply resKeeps_next | assumption | apply keeps_newRound | apply keeps_fetchFrom
                            | apply keeps_begin)
    | ((conv => arg 2; arg 55; skip); with_reducible first | apply keeps_mk | apply keeps_mkc)
    | split | dsimp only | intro _

theorem keeps_execDoorbell {z s : State} (h : Keeps z s) (a0 : Fin 64) (a1 : ℕ) (a2 : ℕ) (a3 : BitVec 64) : ResKeeps z (execDoorbell a0 a1 a2 a3 s) := by
  unfold execDoorbell
  repeat' first
    | (with_reducible first | apply resKeeps_next | assumption | apply keeps_writeBar2 | apply keeps_gate_opt
                            | refine keeps_gate (by assumption) ?_ | apply keeps_begin)
    | ((conv => arg 2; arg 55; skip); with_reducible first | apply keeps_mk | apply keeps_mkc)
    | split | dsimp only | intro _

theorem keeps_execDoorbellFetch {z s : State} (h : Keeps z s) (a0 : Fin 64) (a1 : Bool) (a2 : Fin 4096) : ResKeeps z (execDoorbellFetch a0 a1 a2 s) := by
  unfold execDoorbellFetch
  repeat' first
    | (with_reducible first | apply resKeeps_next | assumption | apply keeps_fetchDoorbell | apply keeps_gate_opt
                            | refine keeps_gate (by assumption) ?_ | apply keeps_begin)
    | ((conv => arg 2; arg 55; skip); with_reducible first | apply keeps_mk | apply keeps_mkc)
    | split | dsimp only | intro _

theorem keeps_execFuncRingsWrite {z s : State} (h : Keeps z s) (a0 : Agent) (a1 : Fin 64) (a2 : BitVec 64) : ResKeeps z (execFuncRingsWrite a0 a1 a2 s) := by
  unfold execFuncRingsWrite
  repeat' first
    | (with_reducible first | apply resKeeps_next | assumption | apply keeps_writeFuncRings | apply keeps_begin
                            | apply keeps_writeBy)
    | split | dsimp only | intro _

theorem keeps_execIndexWrite {z s : State} (h : Keeps z s) (a0 : Bool) (a1 : Fin 4096) : ResKeeps z (execIndexWrite a0 a1 s) := by
  unfold execIndexWrite
  repeat' first
    | (with_reducible first | apply resKeeps_next | assumption | apply keeps_publish | apply keeps_begin)
    | split | dsimp only | intro _

theorem keeps_execRingDisable {z s : State} (h : Keeps z s) (a0 : Agent) (a1 : Bool) (a2 : Fin 4096) (a3 : BitVec 64) : ResKeeps z (execRingDisable a0 a1 a2 a3 s) := by
  unfold execRingDisable
  repeat' first
    | (with_reducible first | apply resKeeps_next | assumption | apply keeps_writeRingCfg | apply keeps_begin
                            | apply keeps_writeBy)
    | split | dsimp only | intro _

theorem keeps_execRingEnable {z s : State} (h : Keeps z s) (a0 : Agent) (a1 : Bool) (a2 : Fin 4096) (a3 : BitVec 64) : ResKeeps z (execRingEnable a0 a1 a2 a3 s) := by
  unfold execRingEnable
  repeat' first
    | (with_reducible first | apply resKeeps_next | assumption | apply keeps_writeRingCfg | apply keeps_begin
                            | apply keeps_writeBy)
    | split | dsimp only | intro _

theorem keeps_setBuf {z s : State} (h : Keeps z s) (a1 : ℕ) (a2 : BufSt) : Keeps z (State.setBuf s a1 a2) := by
  unfold State.setBuf
  repeat' first
    | (with_reducible first | assumption)
    | ((conv => arg 2; arg 55; skip); with_reducible first | apply keeps_mk | apply keeps_mkc)
    | split | dsimp only | intro _

theorem keeps_setQueue {z s : State} (h : Keeps z s) (a1 : ℕ) (a2 : QSt) : Keeps z (State.setQueue s a1 a2) := by
  unfold State.setQueue
  repeat' first
    | (with_reducible first | assumption)
    | ((conv => arg 2; arg 55; skip); with_reducible first | apply keeps_mk | apply keeps_mkc)
    | split | dsimp only | intro _

theorem keeps_account {z s : State} (h : Keeps z s) (a1 : Copy) (a2 : ℤ) (a3 : ℤ) (a4 : ℤ) : Keeps z (State.account s a1 a2 a3 a4) := by
  unfold State.account
  repeat' first
    | (with_reducible first | assumption | apply keeps_setQueue | apply keeps_setBuf)
    | ((conv => arg 2; arg 55; skip); with_reducible first | apply keeps_mk | apply keeps_mkc)
    | split | dsimp only | intro _

theorem keeps_bpmCount {z s : State} (h : Keeps z s) (a1 : ℕ) (a2 : ℕ) (a3 : ℕ) : Keeps z (State.bpmCount s a1 a2 a3) := by
  unfold State.bpmCount
  repeat' first
    | (with_reducible first | assumption | apply keeps_bump)
    | split | dsimp only | intro _

theorem keeps_sendCtrl {z s : State} (h : Keeps z s) (a1 : ℕ) (a2 : ℕ) (a3 : Bool) : Keeps z (State.sendCtrl s a1 a2 a3) := by
  unfold State.sendCtrl
  repeat' first
    | (with_reducible first | assumption | apply keeps_setPort)
    | ((conv => arg 2; arg 55; skip); with_reducible first | apply keeps_mk | apply keeps_mkc)
    | split | dsimp only | intro _

theorem keeps_fixGroup {z s : State} (h : Keeps z s) (a1 : ℕ) (a2 : ℕ) : Keeps z (State.fixGroup s a1 a2) := by
  unfold State.fixGroup
  repeat' first
    | (with_reducible first | assumption | apply keeps_bpmCount | apply keeps_sendCtrl)
    | ((conv => arg 2; arg 55; skip); with_reducible first | apply keeps_mk | apply keeps_mkc)
    | split | dsimp only | intro _

theorem keeps_groupMove {z s : State} (h : Keeps z s) (a1 : Option (ℕ × ℕ)) (a2 : ℤ) : Keeps z (State.groupMove s a1 a2) := by
  unfold State.groupMove
  repeat' first
    | (with_reducible first | assumption | apply keeps_fixGroup)
    | ((conv => arg 2; arg 55; skip); with_reducible first | apply keeps_mk | apply keeps_mkc)
    | split | dsimp only | intro _

theorem keeps_accept {z s : State} (h : Keeps z s) (a1 : ℕ) (a2 : Copy) (a3 : ℕ) (a4 : ℕ) (a5 : ℕ) : Keeps z (State.accept s a1 a2 a3 a4 a5) := by
  unfold State.accept
  repeat' first
    | (with_reducible first | assumption | apply keeps_setBuf | apply keeps_setCopy | apply keeps_account
                            | apply keeps_groupMove | apply keeps_bpmCount)
    | ((conv => arg 2; arg 55; skip); with_reducible first | apply keeps_mk | apply keeps_mkc)
    | split | dsimp only | intro _

theorem keeps_accessCells {z s : State} (h : Keeps z s) (a1 : Bool) (a2 : List ℕ) (a3 : ℕ) (a4 : ℕ) : Keeps z (State.accessCells s a1 a2 a3 a4) := by
  unfold State.accessCells
  repeat' first
    | (with_reducible first | assumption | apply keeps_emit)
    | split | dsimp only | intro _

theorem keeps_cellIn {z s : State} (h : Keeps z s) (a0 : ℕ) (a1 : Bool) (a2 : Bool) (a4 : ℕ) (a5 : Copy) (a6 : ℕ) (a7 : ℕ) : Keeps z (State.cellIn a0 a1 a2 s a4 a5 a6 a7) := by
  unfold State.cellIn
  repeat' first
    | (with_reducible first | assumption | apply keeps_setCopy)
    | ((conv => arg 2; arg 55; skip); with_reducible first | apply keeps_mk | apply keeps_mkc)
    | split | dsimp only | intro _

theorem keeps_freeBanks {z s : State} (h : Keeps z s) (a1 : ℕ) (a2 : List ℕ) : Keeps z (State.freeBanks s a1 a2) := by
  unfold State.freeBanks
  repeat' first
    | (with_reducible first | assumption | apply keeps_setBuf | apply keeps_foldl | apply keeps_foldl_fst
                            | apply keeps_foldl_snd | apply keeps_foldl_mid)
    | ((conv => arg 2; arg 55; skip); with_reducible first | apply keeps_mk | apply keeps_mkc)
    | split | dsimp only | intro _

theorem keeps_cellsOut {z s : State} (h : Keeps z s) (a1 : ℕ) (a2 : Copy) (a3 : ℕ) (a4 : ℕ) : Keeps z (State.cellsOut s a1 a2 a3 a4) := by
  unfold State.cellsOut
  repeat' first
    | (with_reducible first | assumption | apply keeps_setCopy | apply keeps_account | apply keeps_groupMove
                            | apply keeps_freeBanks)
    | ((conv => arg 2; arg 55; skip); with_reducible first | apply keeps_mk | apply keeps_mkc)
    | split | dsimp only | intro _

theorem keeps_chartFrame {z s : State} (h : Keeps z s) (a1 : Copy) (a2 : Bool) : Keeps z (State.chartFrame s a1 a2) := by
  unfold State.chartFrame
  repeat' first
    | (with_reducible first | assumption | apply keeps_chartDone | apply keeps_bump)
    | ((conv => arg 2; arg 55; skip); with_reducible first | apply keeps_mk | apply keeps_mkc)
    | split | dsimp only | intro _

theorem keeps_macCount {z s : State} (h : Keeps z s) (a1 : ℕ) (a2 : ℕ) (a3 : ℕ) : Keeps z (State.macCount s a1 a2 a3) := by
  unfold State.macCount
  repeat' first
    | (with_reducible first | assumption | apply keeps_bump)
    | split | dsimp only | intro _

theorem keeps_txDone {z s : State} (h : Keeps z s) (a1 : Copy) (a2 : ℕ) : Keeps z (State.txDone s a1 a2) := by
  unfold State.txDone
  repeat' first
    | (with_reducible first | assumption | apply keeps_bump | apply keeps_finishEntries)
    | ((conv => arg 2; arg 55; skip); with_reducible first | apply keeps_mk | apply keeps_mkc)
    | split | dsimp only | intro _

theorem keeps_sknCount {z s : State} (h : Keeps z s) (a1 : ℕ) (a2 : ℕ) (a3 : ℕ) : Keeps z (State.sknCount s a1 a2 a3) := by
  unfold State.sknCount
  repeat' first
    | (with_reducible first | assumption | apply keeps_bump)
    | split | dsimp only | intro _

theorem keeps_spillStart {z s : State} (h : Keeps z s) (a1 : ℕ) : Keeps z (State.spillStart s a1) := by
  unfold State.spillStart
  repeat' first
    | (with_reducible first | assumption | apply keeps_fault | apply keeps_setQueue | apply keeps_sknCount)
    | ((conv => arg 2; arg 55; skip); with_reducible first | apply keeps_mk | apply keeps_mkc)
    | split | dsimp only | intro _

theorem keeps_linkTo {z s : State} (h : Keeps z s) (a1 : ℕ) (a2 : List ℕ) : Keeps z (State.linkTo s a1 a2) := by
  unfold State.linkTo
  repeat' first
    | (with_reducible first | assumption | apply keeps_setQueue | apply keeps_sknCount | apply keeps_spillStart
                            | apply keeps_setCopy | apply keeps_each)
    | ((conv => arg 2; arg 55; skip); with_reducible first | apply keeps_mk | apply keeps_mkc)
    | split | dsimp only | intro _

theorem keeps_linkWaiting {z s : State} (h : Keeps z s) (a1 : ℕ) : Keeps z (State.linkWaiting s a1) := by
  unfold State.linkWaiting
  repeat' first
    | (with_reducible first | assumption | apply keeps_setQueue | apply keeps_linkTo)
    | ((conv => arg 2; arg 55; skip); with_reducible first | apply keeps_mk | apply keeps_mkc)
    | split | dsimp only | intro _

theorem keeps_release {z s : State} (h : Keeps z s) (a1 : ℕ) (a2 : Copy) : Keeps z (State.release s a1 a2) := by
  unfold State.release
  repeat' first
    | (with_reducible first | assumption | apply keeps_leaveStaging | apply keeps_linkWaiting | apply keeps_freeBanks
                            | apply keeps_setCopy | apply keeps_setQueue | apply keeps_account | apply keeps_groupMove)
    | ((conv => arg 2; arg 55; skip); with_reducible first | apply keeps_mk | apply keeps_mkc)
    | split | dsimp only | intro _

theorem keeps_dropSpeed {z s : State} (h : Keeps z s) (a1 : ℕ) : Keeps z (State.dropSpeed s a1) := by
  unfold State.dropSpeed
  repeat' first
    | (with_reducible first | assumption | apply keeps_bump | apply keeps_each)
    | split | dsimp only | intro _

theorem keeps_dropClaim {z s : State} (h : Keeps z s) (a1 : ℕ) (a2 : ℕ) (a3 : Copy) (a4 : ℕ) : Keeps z (State.dropClaim s a1 a2 a3 a4) := by
  unfold State.dropClaim
  repeat' first
    | (with_reducible first | assumption | apply keeps_fault | apply keeps_bpmCount | apply keeps_dropSpeed
                            | apply keeps_gauge_now | apply keeps_release)
    | split | dsimp only | intro _

theorem keeps_decideClaim {z s : State} (h : Keeps z s) (a1 : ℕ) (a2 : Claim) (a3 : ℕ) : Keeps z (State.decideClaim s a1 a2 a3).1 := by
  unfold State.decideClaim
  repeat' first
    | (with_reducible first | assumption | apply keeps_setBuf | apply keeps_accessCells | apply keeps_setQueue
                            | apply keeps_macCount | apply keeps_txDone | apply keeps_release | apply keeps_dropClaim
                            | apply keeps_bpmCount | apply keeps_accept | apply keeps_chartFrame)
    | ((conv => arg 2; arg 55; skip); with_reducible first | apply keeps_mk | apply keeps_mkc)
    | split | dsimp only | intro _
theorem keeps_decideClaim_eq {z s t : State} {b1 : Bool} {b2 : Bool} {a1 : ℕ} {a2 : Claim} {a3 : ℕ} (e : State.decideClaim s a1 a2 a3 = (t, b1, b2)) (h : Keeps z s) : Keeps z t := by
  have k := keeps_decideClaim h a1 a2 a3
  rw [e] at k; exact k

theorem keeps_claimRound {z s : State} (h : Keeps z s) (a1 : ℕ) (a2 : ℕ) (a3 : List ℕ) : Keeps z (State.claimRound s a1 a2 a3) := by
  induction a3 generalizing s with
  | nil =>
    unfold State.claimRound
    repeat' first
      | (with_reducible first | assumption | apply ih | apply keeps_setBuf | apply keeps_decideClaim
                              | refine keeps_decideClaim_eq (by assumption) ?_)
      | ((conv => arg 2; arg 55; skip); with_reducible first | apply keeps_mk | apply keeps_mkc)
      | split | dsimp only | intro _
  | cons x l ih =>
    unfold State.claimRound
    repeat' first
      | (with_reducible first | assumption | apply ih | apply keeps_setBuf | apply keeps_decideClaim
                              | refine keeps_decideClaim_eq (by assumption) ?_)
      | ((conv => arg 2; arg 55; skip); with_reducible first | apply keeps_mk | apply keeps_mkc)
      | split | dsimp only | intro _

theorem keeps_corrected {z s : State} (h : Keeps z s) (a1 : ℕ) : Keeps z (State.corrected s a1) := by
  unfold State.corrected
  repeat' first
    | (with_reducible first | assumption | apply keeps_bump | apply keeps_fault)
    | split | dsimp only | intro _

theorem keeps_countCells {z s : State} (h : Keeps z s) (a1 : Spill) (a2 : ℕ) (a3 : ℕ) (a4 : ℕ) : Keeps z (State.countCells s a1 a2 a3 a4) := by
  unfold State.countCells
  repeat' first
    | (with_reducible first | assumption | apply keeps_bump | apply keeps_each)
    | split | dsimp only | intro _

theorem keeps_fetchError {z s : State} (h : Keeps z s) (a1 : ℕ) (a2 : ℕ) (a3 : ℕ) (a4 : ℕ) : Keeps z (State.fetchError s a1 a2 a3 a4) := by
  unfold State.fetchError
  repeat' first
    | (with_reducible first | assumption | apply keeps_fault | apply keeps_setReg | apply keeps_bump)
    | split | dsimp only | intro _

theorem keeps_flushCopies {z s : State} (h : Keeps z s) (a1 : ℕ) (a2 : List ℕ) : Keeps z (State.flushCopies s a1 a2) := by
  unfold State.flushCopies
  repeat' first
    | (with_reducible first | assumption | apply keeps_sknCount | apply keeps_release | apply keeps_each)
    | ((conv => arg 2; arg 55; skip); with_reducible first | apply keeps_mk | apply keeps_mkc)
    | split | dsimp only | intro _

theorem keeps_flushQueue {z s : State} (h : Keeps z s) (a1 : ℕ) : Keeps z (State.flushQueue s a1) := by
  unfold State.flushQueue
  repeat' first
    | (with_reducible first | assumption | apply keeps_setBuf | apply keeps_sknCount | apply keeps_setQueue
                            | apply keeps_flushCopies)
    | ((conv => arg 2; arg 55; skip); with_reducible first | apply keeps_mk | apply keeps_mkc)
    | split | dsimp only | intro _

theorem keeps_takeBank {z s t : State} {b0 : Nat} {a1 : Nat} (e : s.takeBank a1 = some (b0, t)) (h : Keeps z s) : Keeps z t := by
  unfold State.takeBank at e
  simp only [Option.map_eq_some_iff, Prod.mk.injEq] at e
  obtain ⟨g, -, -, rfl⟩ := e
  exact keeps_setQueue (keeps_setBuf h _ _) _ _

theorem keeps_offer {z s : State} (h : Keeps z s) (a1 : ℕ) (a2 : ℕ) (a3 : ℕ) (a4 : ℕ) : Keeps z (State.offer s a1 a2 a3 a4) := by
  induction a4 generalizing s with
  | zero =>
    unfold State.offer
    repeat' first
      | (with_reducible first | assumption | apply ih | apply keeps_setBuf | apply keeps_takeBank_opt
                              | refine keeps_takeBank (by assumption) ?_ | apply keeps_drawn)
      | ((conv => arg 2; arg 55; skip); with_reducible first | apply keeps_mk | apply keeps_mkc)
      | split | dsimp only | intro _
  | succ n ih =>
    unfold State.offer
    repeat' first
      | (with_reducible first | assumption | apply ih | apply keeps_setBuf | apply keeps_takeBank_opt
                              | refine keeps_takeBank (by assumption) ?_ | apply keeps_drawn)
      | ((conv => arg 2; arg 55; skip); with_reducible first | apply keeps_mk | apply keeps_mkc)
      | split | dsimp only | intro _

theorem keeps_offerAll {z s : State} (h : Keeps z s) (a1 : ℕ) : Keeps z (State.offerAll s a1) := by
  unfold State.offerAll
  repeat' first
    | (with_reducible first | assumption | apply keeps_offer | apply keeps_each)
    | split | dsimp only | intro _

theorem keeps_schCount {z s : State} (h : Keeps z s) (a1 : ℕ) (a2 : ℕ) (a3 : ℕ) : Keeps z (State.schCount s a1 a2 a3) := by
  unfold State.schCount
  repeat' first
    | (with_reducible first | assumption | apply keeps_bump)
    | split | dsimp only | intro _

theorem keeps_settle {z s : State} (h : Keeps z s) (a1 : ℕ) (a2 : Copy) : Keeps z (State.settle s a1 a2) := by
  unfold State.settle
  repeat' first
    | (with_reducible first | assumption | apply keeps_account | apply keeps_groupMove | apply keeps_setCopy)
    | ((conv => arg 2; arg 55; skip); with_reducible first | apply keeps_mk | apply keeps_mkc)
    | split | dsimp only | intro _

theorem keeps_unstage {z s : State} (h : Keeps z s) (a1 : ℕ) (a2 : Copy) : Keeps z (State.unstage s a1 a2) := by
  unfold State.unstage
  repeat' first
    | (with_reducible first | assumption | apply keeps_leaveStaging | apply keeps_setCopy)
    | ((conv => arg 2; arg 55; skip); with_reducible first | apply keeps_mk | apply keeps_mkc)
    | split | dsimp only | intro _

theorem keeps_walkCells {z s : State} (h : Keeps z s) {f : State → Nat → Copy → Nat → Nat → State} (l : List Nat) (a b : Nat)
    (hf : ∀ t i c x y, Keeps z t → Keeps z (f t i c x y)) : Keeps z (s.walkCells f l a b) := by
  induction l generalizing s a b with
  | nil => exact h
  | cons x l ih =>
    unfold State.walkCells
    dsimp only
    repeat' first
      | (with_reducible assumption)
      | (with_reducible apply ih)
      | (with_reducible apply hf)
      | (split)

theorem keeps_execBpmClaim {z s : State} (h : Keeps z s) (a0 : Fin 2) : ResKeeps z (execBpmClaim a0 s) := by
  unfold execBpmClaim
  repeat' first
    | (with_reducible first | apply resKeeps_next | assumption | apply keeps_claimRound | apply keeps_offerAll
                            | apply keeps_begin)
    | split | dsimp only | intro _

theorem keeps_execCopyLink {z s : State} (h : Keeps z s) (a0 : ℕ) : ResKeeps z (execCopyLink a0 s) := by
  unfold execCopyLink
  repeat' first
    | (with_reducible first | apply resKeeps_next | assumption | apply keeps_setQueue | apply keeps_linkWaiting
                            | apply keeps_flushQueue | apply keeps_settle | apply keeps_txDone | apply keeps_sknCount
                            | apply keeps_release | apply keeps_unstage | apply keeps_linkTo | apply keeps_begin)
    | ((conv => arg 2; arg 55; skip); with_reducible first | apply keeps_mk | apply keeps_mkc)
    | split | dsimp only | intro _

theorem keeps_execSpillFetch {z s : State} (h : Keeps z s) (a0 : Fin 2) (a1 : Fin 34048) : ResKeeps z (execSpillFetch a0 a1 s) := by
  unfold execSpillFetch
  repeat' first
    | (with_reducible first | apply resKeeps_next | assumption | apply keeps_setBuf | apply keeps_setQueue
                            | apply keeps_begin)
    | ((conv => arg 2; arg 55; skip); with_reducible first | apply keeps_mk | apply keeps_mkc)
    | split | dsimp only | intro _

theorem keeps_execSpillFetchDone {z s : State} (h : Keeps z s) (a0 : Fin 2) (a1 : Fin 34048) (a2 : List ℕ) (a3 : List (ℕ × Fin 4 × Fin 8)) : ResKeeps z (execSpillFetchDone a0 a1 a2 a3 s) := by
  unfold execSpillFetchDone
  repeat' first
    | (with_reducible first | apply resKeeps_next | assumption | apply keeps_gauge_now | apply keeps_cellIn
                            | apply keeps_walkCells | apply keeps_setQueue | apply keeps_freeBanks
                            | apply keeps_fetchError | apply keeps_corrected | apply keeps_countCells | apply keeps_each
                            | apply keeps_begin | apply keeps_foldl | apply keeps_foldl_fst | apply keeps_foldl_snd
                            | apply keeps_foldl_mid)
    | ((conv => arg 2; arg 55; skip); with_reducible first | apply keeps_mk | apply keeps_mkc)
    | split | dsimp only | intro _

theorem keeps_execSpillMove {z s : State} (h : Keeps z s) (a0 : Fin 2) (a1 : Fin 34048) : ResKeeps z (execSpillMove a0 a1 s) := by
  unfold execSpillMove
  repeat' first
    | (with_reducible first | apply resKeeps_next | assumption | apply keeps_setQueue | apply keeps_accessCells
                            | apply keeps_begin)
    | ((conv => arg 2; arg 55; skip); with_reducible first | apply keeps_mk | apply keeps_mkc)
    | split | dsimp only | intro _

theorem keeps_execSpillMoveAck {z s : State} (h : Keeps z s) (a0 : Fin 2) (a1 : Fin 34048) : ResKeeps z (execSpillMoveAck a0 a1 s) := by
  unfold execSpillMoveAck
  repeat' first
    | (with_reducible first | apply resKeeps_next | assumption | apply keeps_cellsOut | apply keeps_walkCells
                            | apply keeps_gauge_now | apply keeps_setQueue | apply keeps_countCells | apply keeps_begin)
    | ((conv => arg 2; arg 55; skip); with_reducible first | apply keeps_mk | apply keeps_mkc)
    | split | dsimp only | intro _

theorem keeps_execSplice {z s : State} (h : Keeps z s) (a0 : Fin 2) (a1 : Fin 34048) : ResKeeps z (execSplice a0 a1 s) := by
  unfold execSplice
  repeat' first
    | (with_reducible first | apply resKeeps_next | assumption | apply keeps_setQueue | apply keeps_sknCount
                            | apply keeps_begin)
    | ((conv => arg 2; arg 55; skip); with_reducible first | apply keeps_mk | apply keeps_mkc)
    | split | dsimp only | intro _

theorem keeps_chargeLeaf {z s : State} (h : Keeps z s) (a1 : ℕ) (a2 : ℕ) (a3 : ℤ) : Keeps z (State.chargeLeaf s a1 a2 a3) := by
  unfold State.chargeLeaf
  repeat' first
    | (with_reducible first | assumption | apply keeps_setQueue)
    | ((conv => arg 2; arg 55; skip); with_reducible first | apply keeps_mk | apply keeps_mkc)
    | split | dsimp only | intro _

theorem keeps_chargeReg {z s : State} (h : Keeps z s) (a1 : Reg) (a2 : Reg) (a3 : ℕ) (a4 : ℤ) : Keeps z (State.chargeReg s a1 a2 a3 a4) := by
  unfold State.chargeReg
  repeat' first
    | (with_reducible first | assumption | apply keeps_setReg)
    | split | dsimp only | intro _

theorem keeps_claim {z s : State} (h : Keeps z s) (a1 : Copy) : Keeps z (State.claim s a1) := by
  unfold State.claim
  repeat' first
    | (with_reducible first | assumption | apply keeps_setBuf | apply keeps_setCopy)
    | ((conv => arg 2; arg 55; skip); with_reducible first | apply keeps_mk | apply keeps_mkc)
    | split | dsimp only | intro _

theorem keeps_refillLeaves {z s : State} (h : Keeps z s) (a1 : ℕ) : Keeps z (State.refillLeaves s a1) := by
  unfold State.refillLeaves
  repeat' first
    | (with_reducible first | assumption | apply keeps_setQueue | apply keeps_each | apply keeps_setBuf)
    | ((conv => arg 2; arg 55; skip); with_reducible first | apply keeps_mk | apply keeps_mkc)
    | split | dsimp only | intro _

theorem keeps_refillRegs {z s : State} (h : Keeps z s) (a1 : Reg) (a2 : Reg) : Keeps z (State.refillRegs s a1 a2) := by
  unfold State.refillRegs
  repeat' first
    | (with_reducible first | assumption | apply keeps_setReg | apply keeps_each)
    | split | dsimp only | intro _

theorem keeps_edgeShapers {z s : State} (h : Keeps z s)  : Keeps z (State.edgeShapers s) := by
  unfold State.edgeShapers
  repeat' first
    | (with_reducible first | assumption | apply keeps_refillLeaves | apply keeps_refillRegs | apply keeps_each)
    | split | dsimp only | intro _

theorem keeps_handOver {z s : State} (h : Keeps z s) (a1 : ℕ) (a2 : Copy) : Keeps z (State.handOver s a1 a2) := by
  unfold State.handOver
  repeat' first
    | (with_reducible first | assumption | apply keeps_setPipe)
    | ((conv => arg 2; arg 55; skip); with_reducible first | apply keeps_mk | apply keeps_mkc)
    | split | dsimp only | intro _

theorem keeps_placeCell {z s : State} (h : Keeps z s) (a1 : ℕ) (a2 : ℕ) (a3 : ℕ) : Keeps z (State.placeCell s a1 a2 a3) := by
  unfold State.placeCell
  repeat' first
    | (with_reducible first | assumption | apply keeps_freeBanks | apply keeps_sknCount | apply keeps_setCopy
                            | apply keeps_when)
    | ((conv => arg 2; arg 55; skip); with_reducible first | apply keeps_mk | apply keeps_mkc)
    | split | dsimp only | intro _

theorem keeps_placeFetched {z s : State} (h : Keeps z s) (a1 : ℕ) (a2 : ℕ) : Keeps z (State.placeFetched s a1 a2) := by
  unfold State.placeFetched
  repeat' first
    | (with_reducible first | assumption | apply keeps_setQueue | apply keeps_freeBanks)
    | ((conv => arg 2; arg 55; skip); with_reducible first | apply keeps_mk | apply keeps_mkc)
    | split | dsimp only | intro _

theorem keeps_replicaTo {z : State} {a : State × Nat} (h : Keeps z a.1) (s : State) (d : Nat) (r : Repl) (b : Bool) (lp : Nat) :
    Keeps z (s.replicaTo d r b a lp).1 := by
  unfold State.replicaTo
  dsimp only
  repeat' first
    | (with_reducible assumption)
    | (with_reducible apply keeps_schCount)
    | (with_reducible apply keeps_bump)
    | (with_reducible apply keeps_gauge_now)
    | (with_reducible apply keeps_claim)
    | (split)

theorem keeps_replicate {z s : State} (h : Keeps z s) (a1 : ℕ) (a2 : ℕ) (a3 : Copy) : Keeps z (State.replicate s a1 a2 a3) := by
  unfold State.replicate
  repeat' first
    | (with_reducible first | assumption | apply keeps_setBuf | apply keeps_schCount)
    | ((conv => arg 2; arg 55; skip); with_reducible first | apply keeps_mk | apply keeps_mkc)
    | split | dsimp only | intro _

theorem keeps_selectFrom {z s : State} (h : Keeps z s) (a1 : ℕ) : Keeps z (State.selectFrom s a1) := by
  unfold State.selectFrom
  repeat' first
    | (with_reducible first | assumption | apply keeps_setCopy | apply keeps_handOver | apply keeps_setQueue)
    | ((conv => arg 2; arg 55; skip); with_reducible first | apply keeps_mk | apply keeps_mkc)
    | split | dsimp only | intro _

theorem keeps_takeTurn {z s : State} (h : Keeps z s) (a1 : ℕ) (a2 : ℕ) : Keeps z (State.takeTurn s a1 a2) := by
  unfold State.takeTurn
  repeat' first
    | (with_reducible first | assumption | apply keeps_setPipe)
    | ((conv => arg 2; arg 55; skip); with_reducible first | apply keeps_mk | apply keeps_mkc)
    | split | dsimp only | intro _

theorem keeps_writeGrp {z s : State} (h : Keeps z s) (a1 : ℕ) (a2 : BitVec 64) (a3 : BitVec 64) : Keeps z (State.writeGrp s a1 a2 a3) := by
  unfold State.writeGrp
  repeat' first
    | (with_reducible first | assumption | apply keeps_setReg | apply keeps_setFld)
    | split | dsimp only | intro _

theorem keeps_writeLeaf {z s : State} (h : Keeps z s) (a1 : ℕ) (a2 : BitVec 64) (a3 : BitVec 64) : Keeps z (State.writeLeaf s a1 a2 a3) := by
  unfold State.writeLeaf
  repeat' first
    | (with_reducible first | assumption | apply keeps_setReg | apply keeps_setFld)
    | split | dsimp only | intro _

theorem keeps_execEgressSelect {z s : State} (h : Keeps z s) (a0 : Fin 2) (a1 : Fin 75) : ResKeeps z (execEgressSelect a0 a1 s) := by
  unfold execEgressSelect
  repeat' first
    | (with_reducible first | apply resKeeps_next | assumption | apply keeps_gauge_now | apply keeps_takeTurn
                            | apply keeps_selectFrom | apply keeps_schCount | apply keeps_chargeLeaf
                            | apply keeps_chargeReg | apply keeps_setBuf | apply keeps_sknCount | apply keeps_begin
                            | apply keeps_foldl | apply keeps_foldl_fst | apply keeps_foldl_snd | apply keeps_foldl_mid)
    | ((conv => arg 2; arg 55; skip); with_reducible first | apply keeps_mk | apply keeps_mkc)
    | split | dsimp only | intro _

theorem keeps_execReplication {z s : State} (h : Keeps z s) (a0 : Fin 2) (a1 : Bool) (a2 : Bool) : ResKeeps z (execReplication a0 a1 a2 s) := by
  unfold execReplication
  repeat' first
    | (with_reducible first | apply resKeeps_next | assumption | apply keeps_schCount | apply keeps_replicaTo
                            | refine keeps_replicaTo_eq (by assumption) ?_ | apply keeps_fault | apply keeps_setBuf
                            | apply keeps_begin | apply keeps_foldl | apply keeps_foldl_fst | apply keeps_foldl_snd
                            | apply keeps_foldl_mid)
    | ((conv => arg 2; arg 55; skip); with_reducible first | apply keeps_mk | apply keeps_mkc)
    | split | dsimp only | intro _

theorem keeps_execSchGrpWrite {z s : State} (h : Keeps z s) (a0 : Agent) (a1 : Fin 2) (a2 : Fin 4096) (a3 : BitVec 32) : ResKeeps z (execSchGrpWrite a0 a1 a2 a3 s) := by
  unfold execSchGrpWrite
  repeat' first
    | (with_reducible first | apply resKeeps_next | assumption | apply keeps_writeGrp | apply keeps_begin
                            | apply keeps_writeBy)
    | split | dsimp only | intro _

theorem keeps_execSchLeafWrite {z s : State} (h : Keeps z s) (a0 : Agent) (a1 : Fin 2) (a2 : Fin 32768) (a3 : BitVec 64) : ResKeeps z (execSchLeafWrite a0 a1 a2 a3 s) := by
  unfold execSchLeafWrite
  repeat' first
    | (with_reducible first | apply resKeeps_next | assumption | apply keeps_writeLeaf | apply keeps_begin
                            | apply keeps_writeBy)
    | split | dsimp only | intro _

theorem keeps_execXbarMatch {z s : State} (h : Keeps z s) (a0 : Fin 2) : ResKeeps z (execXbarMatch a0 s) := by
  unfold execXbarMatch
  repeat' first
    | (with_reducible first | apply resKeeps_next | assumption | apply keeps_gauge_now | apply keeps_schCount
                            | apply keeps_placeCell | apply keeps_placeFetched | apply keeps_setBuf | apply keeps_begin
                            | apply keeps_offerAll | apply keeps_foldl | apply keeps_foldl_fst | apply keeps_foldl_snd
                            | apply keeps_foldl_mid)
    | ((conv => arg 2; arg 55; skip); with_reducible first | apply keeps_mk | apply keeps_mkc)
    | split | dsimp only | intro _

end Sys2Proof.Machine
end

