-- ==== Sys2Proof/Laws/KeepsB.lean ====
section
/-! SUPPORT. One lemma `keeps_<name>` for each operation and each meaning of: Yarn, Respond, Tcam, Stitch, Tim, Clock, Journal, Cage, Hbm. -/

set_option maxRecDepth 4000
set_option linter.unusedTactic false
set_option linter.unreachableTactic false

open Host

namespace Sys2Proof.Machine

theorem keeps_claimAt {z s : State} (h : Keeps z s) (a1 : ℕ) (a2 : Copy) : Keeps z (State.claimAt s a1 a2) := by
  unfold State.claimAt
  repeat' first
    | (with_reducible first | assumption | apply keeps_setCopy | apply keeps_setBuf)
    | ((conv => arg 2; arg 55; skip); with_reducible first | apply keeps_mk | apply keeps_mkc)
    | split | dsimp only | intro _

theorem keeps_yrnCount {z s : State} (h : Keeps z s) (a1 : ℕ) (a2 : ℕ) (a3 : ℕ) : Keeps z (State.yrnCount s a1 a2 a3) := by
  unfold State.yrnCount
  repeat' first
    | (with_reducible first | assumption | apply keeps_bump)
    | split | dsimp only | intro _

theorem keeps_releaseSeq {z s : State} (h : Keeps z s) (a1 : ℕ) (a2 : ℕ) : Keeps z (State.releaseSeq s a1 a2) := by
  unfold State.releaseSeq
  repeat' first
    | (with_reducible first | assumption | apply keeps_claimAt)
    | ((conv => arg 2; arg 55; skip); with_reducible first | apply keeps_mk | apply keeps_mkc)
    | split | dsimp only | intro _

theorem keeps_unmarkSeq {z s : State} (h : Keeps z s) (a1 : ℕ) : Keeps z (State.unmarkSeq s a1) := by
  unfold State.unmarkSeq
  repeat' first
    | (with_reducible first | assumption | apply keeps_setFld)
    | split | dsimp only | intro _

theorem keeps_setHeld {z s : State} (h : Keeps z s) (a1 : ℕ) (a2 : List Held) : Keeps z (State.setHeld s a1 a2) := by
  unfold State.setHeld
  repeat' first
    | (with_reducible first | assumption | apply keeps_setFld)
    | ((conv => arg 2; arg 55; skip); with_reducible first | apply keeps_mk | apply keeps_mkc)
    | split | dsimp only | intro _

theorem keeps_skipTo {z s : State} (h : Keeps z s) (a1 : ℕ) (a2 : ℕ) : Keeps z (State.skipTo s a1 a2) := by
  unfold State.skipTo
  repeat' first
    | (with_reducible first | assumption | apply keeps_setFld | apply keeps_yrnCount | apply keeps_releaseSeq
                            | apply keeps_unmarkSeq | apply keeps_setHeld | apply keeps_when | apply keeps_foldl
                            | apply keeps_foldl_fst | apply keeps_foldl_snd | apply keeps_foldl_mid)
    | split | dsimp only | intro _

theorem keeps_runSeq {z s : State} (h : Keeps z s) (a1 : ℕ) (a2 : ℕ) : Keeps z (State.runSeq s a1 a2) := by
  induction a2 generalizing s with
  | zero =>
    unfold State.runSeq
    repeat' first
      | (with_reducible first | assumption | apply ih | apply keeps_unmarkSeq | apply keeps_setHeld | apply keeps_setFld
                              | apply keeps_releaseSeq)
      | ((conv => arg 2; arg 55; skip); with_reducible first | apply keeps_mk | apply keeps_mkc)
      | split | dsimp only | intro _
  | succ n ih =>
    unfold State.runSeq
    repeat' first
      | (with_reducible first | assumption | apply ih | apply keeps_unmarkSeq | apply keeps_setHeld | apply keeps_setFld
                              | apply keeps_releaseSeq)
      | ((conv => arg 2; arg 55; skip); with_reducible first | apply keeps_mk | apply keeps_mkc)
      | split | dsimp only | intro _

theorem keeps_resumeSeq {z s : State} (h : Keeps z s) (a1 : ℕ) : Keeps z (State.resumeSeq s a1) := by
  unfold State.resumeSeq
  repeat' first
    | (with_reducible first | assumption | apply keeps_runSeq)
    | split | dsimp only | intro _

theorem keeps_closeGap {z s : State} (h : Keeps z s) (a1 : ℕ) : Keeps z (State.closeGap s a1) := by
  unfold State.closeGap
  repeat' first
    | (with_reducible first | assumption | apply keeps_skipTo | apply keeps_resumeSeq | apply keeps_yrnCount
                            | apply keeps_unmarkSeq | apply keeps_foldl | apply keeps_foldl_fst | apply keeps_foldl_snd
                            | apply keeps_foldl_mid)
    | split | dsimp only | intro _

theorem keeps_closeNamed {z s : State} (h : Keeps z s) (a1 : ℕ × ℕ) : Keeps z (State.closeNamed s a1) := by
  unfold State.closeNamed
  repeat' first
    | (with_reducible first | assumption | apply keeps_closeGap)
    | split | dsimp only | intro _

theorem keeps_deliverSeq {z s : State} (h : Keeps z s) (a1 : ℕ) (a2 : ℕ) (a3 : Copy) : Keeps z (State.deliverSeq s a1 a2 a3) := by
  unfold State.deliverSeq
  repeat' first
    | (with_reducible first | assumption | apply keeps_claimAt | apply keeps_unstage | apply keeps_releaseSeq)
    | ((conv => arg 2; arg 55; skip); with_reducible first | apply keeps_mk | apply keeps_mkc)
    | split | dsimp only | intro _

theorem keeps_edgeReseq {z s : State} (h : Keeps z s)  : Keeps z (State.edgeReseq s) := by
  unfold State.edgeReseq
  repeat' first
    | (with_reducible first | assumption | apply keeps_closeNamed | apply keeps_foldl | apply keeps_foldl_fst
                            | apply keeps_foldl_snd | apply keeps_foldl_mid)
    | ((conv => arg 2; arg 55; skip); with_reducible first | apply keeps_mk | apply keeps_mkc)
    | split | dsimp only | intro _

theorem keeps_holdSeq {z s : State} (h : Keeps z s) (a1 : ℕ) (a2 : ℕ) (a3 : ℕ) (a4 : Copy) : Keeps z (State.holdSeq s a1 a2 a3 a4) := by
  unfold State.holdSeq
  repeat' first
    | (with_reducible first | assumption | apply keeps_unstage | apply keeps_setHeld | apply keeps_yrnCount
                            | apply keeps_fault | apply keeps_release)
    | ((conv => arg 2; arg 55; skip); with_reducible first | apply keeps_mk | apply keeps_mkc)
    | split | dsimp only | intro _

theorem keeps_releaseAll {z s : State} (h : Keeps z s) (a1 : ℕ) : Keeps z (State.releaseAll s a1) := by
  unfold State.releaseAll
  repeat' first
    | (with_reducible first | assumption | apply keeps_skipTo | apply keeps_foldl | apply keeps_foldl_fst
                            | apply keeps_foldl_snd | apply keeps_foldl_mid)
    | split | dsimp only | intro _

theorem keeps_seqArrive {z s : State} (h : Keeps z s) (a1 : ℕ) (a2 : ℕ) (a3 : ℕ) (a4 : Copy) : Keeps z (State.seqArrive s a1 a2 a3 a4) := by
  unfold State.seqArrive
  repeat' first
    | (with_reducible first | assumption | apply keeps_release | apply keeps_skipTo | apply keeps_yrnCount
                            | apply keeps_holdSeq | apply keeps_deliverSeq | apply keeps_setFld | apply keeps_resumeSeq)
    | split | dsimp only | intro _

theorem keeps_spray {z s t : State} {b0 : Nat} {a1 a2 : Nat} (e : s.spray a1 a2 = some (b0, t)) (h : Keeps z s) : Keeps z t := by
  unfold State.spray at e
  split at e
  · exact nomatch e
  · simp only [Option.map_eq_some_iff, Prod.mk.injEq] at e
    obtain ⟨g, -, -, rfl⟩ := e
    exact keeps_setPipe h _ _

theorem keeps_submit {z s : State} (h : Keeps z s) (a1 : ℕ) (a2 : Copy) : Keeps z (State.submit s a1 a2) := by
  unfold State.submit
  repeat' first
    | (with_reducible first | assumption | apply keeps_claim | apply keeps_setStaged | apply keeps_gauge_now)
    | ((conv => arg 2; arg 55; skip); with_reducible first | apply keeps_mk | apply keeps_mkc)
    | split | dsimp only | intro _

theorem keeps_takeSeq {z s : State} (h : Keeps z s) (a1 : ℕ) (a2 : ℕ) (a3 : ℕ) : Keeps z (State.takeSeq s a1 a2 a3).2 := by
  unfold State.takeSeq
  repeat' first
    | (with_reducible first | assumption)
    | ((conv => arg 2; arg 55; skip); with_reducible first | apply keeps_mk | apply keeps_mkc)
    | split | dsimp only | intro _
theorem keeps_takeSeq_eq {z s t : State} {b0 : ℕ} {a1 : ℕ} {a2 : ℕ} {a3 : ℕ} (e : State.takeSeq s a1 a2 a3 = (b0, t)) (h : Keeps z s) : Keeps z t := by
  have k := keeps_takeSeq h a1 a2 a3
  rw [e] at k; exact k

theorem keeps_writeReseqCmd {z s : State} (h : Keeps z s) (a1 : BitVec 64) (a2 : BitVec 64) : Keeps z (State.writeReseqCmd s a1 a2) := by
  unfold State.writeReseqCmd
  repeat' first
    | (with_reducible first | assumption | apply keeps_plainWrite)
    | ((conv => arg 2; arg 55; skip); with_reducible first | apply keeps_mk | apply keeps_mkc)
    | split | dsimp only | intro _

theorem keeps_writeYrnId {z s : State} (h : Keeps z s) (a1 : BitVec 64) (a2 : BitVec 64) : Keeps z (State.writeYrnId s a1 a2) := by
  unfold State.writeYrnId
  repeat' first
    | (with_reducible first | assumption | apply keeps_plainWrite)
    | ((conv => arg 2; arg 55; skip); with_reducible first | apply keeps_mk | apply keeps_mkc)
    | split | dsimp only | intro _

theorem keeps_yarnDrop {z s : State} (h : Keeps z s) (a1 : Pkt) (a2 : ℕ) : Keeps z (State.yarnDrop s a1 a2) := by
  unfold State.yarnDrop
  repeat' first
    | (with_reducible first | assumption | apply keeps_dropStaged | apply keeps_yrnCount)
    | split | dsimp only | intro _

theorem keeps_yarnForward {z s : State} (h : Keeps z s) (a1 : ℕ) (a2 : ℕ) (a3 : Copy) : Keeps z (State.yarnForward s a1 a2 a3).2 := by
  unfold State.yarnForward
  repeat' first
    | (with_reducible first | assumption | apply keeps_takeSeq | refine keeps_takeSeq_eq (by assumption) ?_
                            | apply keeps_spray_opt | refine keeps_spray (by assumption) ?_ | apply keeps_yrnCount)
    | ((conv => arg 2; arg 55; skip); with_reducible first | apply keeps_mk | apply keeps_mkc)
    | split | dsimp only | intro _
theorem keeps_yarnForward_eq {z s t : State} {b0 : Option Copy} {a1 : ℕ} {a2 : ℕ} {a3 : Copy} (e : State.yarnForward s a1 a2 a3 = (b0, t)) (h : Keeps z s) : Keeps z t := by
  have k := keeps_yarnForward h a1 a2 a3
  rw [e] at k; exact k

theorem keeps_execReseqArrive {z s : State} (h : Keeps z s) (a0 : Fin 2) : ResKeeps z (execReseqArrive a0 s) := by
  unfold execReseqArrive
  repeat' first
    | (with_reducible first | apply resKeeps_next | assumption | apply keeps_seqArrive | apply keeps_releaseAll
                            | apply keeps_setFld | apply keeps_begin)
    | ((conv => arg 2; arg 55; skip); with_reducible first | apply keeps_mk | apply keeps_mkc)
    | split | dsimp only | intro _

theorem keeps_execReseqCmd {z s : State} (h : Keeps z s) (a0 : Agent) (a1 : BitVec 32) : ResKeeps z (execReseqCmd a0 a1 s) := by
  unfold execReseqCmd
  repeat' first
    | (with_reducible first | apply resKeeps_next | assumption | apply keeps_writeReseqCmd | apply keeps_begin
                            | apply keeps_writeBy)
    | split | dsimp only | intro _

theorem keeps_execReseqTimeout {z s : State} (h : Keeps z s) (a0 : Fin 2) (a1 : Fin 131072) : ResKeeps z (execReseqTimeout a0 a1 s) := by
  unfold execReseqTimeout
  repeat' first
    | (with_reducible first | apply resKeeps_next | assumption | apply keeps_setFld | apply keeps_yrnCount
                            | apply keeps_notify | apply keeps_closeGap | apply keeps_begin | apply keeps_foldl
                            | apply keeps_foldl_fst | apply keeps_foldl_snd | apply keeps_foldl_mid)
    | split | dsimp only | intro _

theorem keeps_execYarnParse {z s : State} (h : Keeps z s) (a0 : Fin 16) : ResKeeps z (execYarnParse a0 s) := by
  unfold execYarnParse
  repeat' first
    | (with_reducible first | apply resKeeps_next | assumption | apply keeps_yrnCount | apply keeps_yarnDrop
                            | apply keeps_setPipe | apply keeps_steCount | apply keeps_begin)
    | ((conv => arg 2; arg 55; skip); with_reducible first | apply keeps_mk | apply keeps_mkc)
    | split | dsimp only | intro _

theorem keeps_execYrnIdWrite {z s : State} (h : Keeps z s) (a0 : Agent) (a1 : BitVec 32) : ResKeeps z (execYrnIdWrite a0 a1 s) := by
  unfold execYrnIdWrite
  repeat' first
    | (with_reducible first | apply resKeeps_next | assumption | apply keeps_writeYrnId | apply keeps_begin
                            | apply keeps_writeBy)
    | split | dsimp only | intro _

theorem keeps_actCount {z s : State} (h : Keeps z s) (a1 : ℕ) (a2 : ℕ) : Keeps z (State.actCount s a1 a2) := by
  unfold State.actCount
  repeat' first
    | (with_reducible first | assumption | apply keeps_bump)
    | split | dsimp only | intro _

theorem keeps_bfdDown {z s : State} (h : Keeps z s) (a1 : ℕ) (a2 : ℕ) : Keeps z (State.bfdDown s a1 a2) := by
  unfold State.bfdDown
  repeat' first
    | (with_reducible first | assumption | apply keeps_notify | apply keeps_actCount | apply keeps_setFld)
    | split | dsimp only | intro _

theorem keeps_setBfd {z s : State} (h : Keeps z s) (a1 : ℕ) (a2 : BfdSt) : Keeps z (State.setBfd s a1 a2) := by
  unfold State.setBfd
  repeat' first
    | (with_reducible first | assumption | apply keeps_setFld)
    | ((conv => arg 2; arg 55; skip); with_reducible first | apply keeps_mk | apply keeps_mkc)
    | split | dsimp only | intro _

theorem keeps_bfdReceive {z s : State} (h : Keeps z s) (a1 : ℕ) (a2 : Bytes) : Keeps z (State.bfdReceive s a1 a2).2 := by
  unfold State.bfdReceive
  repeat' first
    | (with_reducible first | assumption | apply keeps_bfdDown | apply keeps_setBfd | apply keeps_actCount)
    | ((conv => arg 2; arg 55; skip); with_reducible first | apply keeps_mk | apply keeps_mkc)
    | split | dsimp only | intro _
theorem keeps_bfdReceive_eq {z s t : State} {b0 : Bool} {a1 : ℕ} {a2 : Bytes} (e : State.bfdReceive s a1 a2 = (b0, t)) (h : Keeps z s) : Keeps z t := by
  have k := keeps_bfdReceive h a1 a2
  rw [e] at k; exact k

theorem keeps_edgeBfd {z s : State} (h : Keeps z s) (a0 : Bool) (a2 : ℕ) : Keeps z (State.edgeBfd a0 s a2) := by
  unfold State.edgeBfd
  repeat' first
    | (with_reducible first | assumption | apply keeps_setFld | apply keeps_setBfd)
    | ((conv => arg 2; arg 55; skip); with_reducible first | apply keeps_mk | apply keeps_mkc)
    | split | dsimp only | intro _

theorem keeps_edgeResponders {z s : State} (h : Keeps z s)  : Keeps z (State.edgeResponders s) := by
  unfold State.edgeResponders
  repeat' first
    | (with_reducible first | assumption | apply keeps_setPipe | apply keeps_each)
    | ((conv => arg 2; arg 55; skip); with_reducible first | apply keeps_mk | apply keeps_mkc)
    | split | dsimp only | intro _

theorem keeps_edgeTimers {z s : State} (h : Keeps z s) (a1 : ℕ) : Keeps z (State.edgeTimers s a1) := by
  unfold State.edgeTimers
  repeat' first
    | (with_reducible first | assumption | apply keeps_edgeBfd | apply keeps_each)
    | ((conv => arg 2; arg 55; skip); with_reducible first | apply keeps_mk | apply keeps_mkc)
    | split | dsimp only | intro _

theorem keeps_rspQueue {z s : State} (h : Keeps z s) (a1 : ℕ) (a2 : ℕ) (a3 : Bytes) (a4 : ℕ) : Keeps z (State.rspQueue s a1 a2 a3 a4) := by
  unfold State.rspQueue
  repeat' first
    | (with_reducible first | assumption | apply keeps_setPipe | apply keeps_actCount)
    | ((conv => arg 2; arg 55; skip); with_reducible first | apply keeps_mk | apply keeps_mkc)
    | split | dsimp only | intro _

theorem keeps_sendOwn {z s : State} (h : Keeps z s) (a1 : ℕ) (a2 : ℕ) (a3 : Bytes) : Keeps z (State.sendOwn s a1 a2 a3) := by
  unfold State.sendOwn
  repeat' first
    | (with_reducible first | assumption | apply keeps_claim)
    | ((conv => arg 2; arg 55; skip); with_reducible first | apply keeps_mk | apply keeps_mkc)
    | split | dsimp only | intro _

theorem keeps_writeBfdCtl {z s : State} (h : Keeps z s) (a1 : ℕ) (a2 : BitVec 64) (a3 : BitVec 64) : Keeps z (State.writeBfdCtl s a1 a2 a3) := by
  unfold State.writeBfdCtl
  repeat' first
    | (with_reducible first | assumption | apply keeps_setFld | apply keeps_setBfd | apply keeps_setReg)
    | ((conv => arg 2; arg 55; skip); with_reducible first | apply keeps_mk | apply keeps_mkc)
    | split | dsimp only | intro _

theorem keeps_writeBfdFixed {z s : State} (h : Keeps z s) (a1 : Reg) (a2 : ℕ) (a3 : ℕ) (a4 : BitVec 64) (a5 : BitVec 64) : Keeps z (State.writeBfdFixed s a1 a2 a3 a4 a5) := by
  unfold State.writeBfdFixed
  repeat' first
    | (with_reducible first | assumption | apply keeps_plainWrite | apply keeps_setFld)
    | split | dsimp only | intro _

theorem keeps_execBfdCtlWrite {z s : State} (h : Keeps z s) (a0 : Agent) (a1 : Fin 16) (a2 : Fin 256) (a3 : BitVec 64) : ResKeeps z (execBfdCtlWrite a0 a1 a2 a3 s) := by
  unfold execBfdCtlWrite
  repeat' first
    | (with_reducible first | apply resKeeps_next | assumption | apply keeps_writeBfdCtl | apply keeps_begin
                            | apply keeps_writeBy)
    | split | dsimp only | intro _

theorem keeps_execBfdDetectExpire {z s : State} (h : Keeps z s) (a0 : Fin 16) (a1 : Fin 256) : ResKeeps z (execBfdDetectExpire a0 a1 s) := by
  unfold execBfdDetectExpire
  repeat' first
    | (with_reducible first | apply resKeeps_next | assumption | apply keeps_bfdDown | apply keeps_begin)
    | split | dsimp only | intro _

theorem keeps_execBfdTx {z s : State} (h : Keeps z s) (a0 : Fin 16) (a1 : Fin 256) : ResKeeps z (execBfdTx a0 a1 s) := by
  unfold execBfdTx
  repeat' first
    | (with_reducible first | apply resKeeps_next | assumption | apply keeps_actCount | apply keeps_sendOwn
                            | apply keeps_setBfd | apply keeps_begin)
    | ((conv => arg 2; arg 55; skip); with_reducible first | apply keeps_mk | apply keeps_mkc)
    | split | dsimp only | intro _

theorem keeps_execLacpTx {z s : State} (h : Keeps z s) (a0 : Fin 16) (a1 : Fin 8) : ResKeeps z (execLacpTx a0 a1 s) := by
  unfold execLacpTx
  repeat' first
    | (with_reducible first | apply resKeeps_next | assumption | apply keeps_actCount | apply keeps_sendOwn
                            | apply keeps_begin)
    | ((conv => arg 2; arg 55; skip); with_reducible first | apply keeps_mk | apply keeps_mkc)
    | split | dsimp only | intro _

theorem keeps_execResponderReply {z s : State} (h : Keeps z s) (a0 : Fin 16) : ResKeeps z (execResponderReply a0 s) := by
  unfold execResponderReply
  repeat' first
    | (with_reducible first | apply resKeeps_next | assumption | apply keeps_sendOwn | apply keeps_setPipe
                            | apply keeps_actCount | apply keeps_begin)
    | ((conv => arg 2; arg 55; skip); with_reducible first | apply keeps_mk | apply keeps_mkc)
    | split | dsimp only | intro _

theorem keeps_setTslot {z s : State} (h : Keeps z s) (a1 : ℕ) (a2 : TSlot) : Keeps z (State.setTslot s a1 a2) := by
  unfold State.setTslot
  repeat' first
    | (with_reducible first | assumption)
    | ((conv => arg 2; arg 55; skip); with_reducible first | apply keeps_mk | apply keeps_mkc)
    | split | dsimp only | intro _

theorem keeps_setTval {z s : State} (h : Keeps z s) (a1 : ℕ) (a2 : TVal) : Keeps z (State.setTval s a1 a2) := by
  unfold State.setTval
  repeat' first
    | (with_reducible first | assumption)
    | ((conv => arg 2; arg 55; skip); with_reducible first | apply keeps_mk | apply keeps_mkc)
    | split | dsimp only | intro _

theorem keeps_copyRow {z s : State} (h : Keeps z s) (a1 : ℕ) (a2 : ℕ) (a3 : ℕ) : Keeps z (State.copyRow s a1 a2 a3) := by
  unfold State.copyRow
  repeat' first
    | (with_reducible first | assumption | apply keeps_setTabs | apply keeps_setTslot | apply keeps_setTval
                            | apply keeps_each)
    | ((conv => arg 2; arg 55; skip); with_reducible first | apply keeps_mk | apply keeps_mkc)
    | split | dsimp only | intro _

theorem keeps_edgeTcamValidity {z s : State} (h : Keeps z s)  : Keeps z (State.edgeTcamValidity s) := by
  unfold State.edgeTcamValidity
  repeat' first
    | (with_reducible first | assumption)
    | ((conv => arg 2; arg 55; skip); with_reducible first | apply keeps_mk | apply keeps_mkc)
    | split | dsimp only | intro _

theorem keeps_setTwinState {z s : State} (h : Keeps z s) (a1 : ℕ) (a2 : ℕ) : Keeps z (State.setTwinState s a1 a2) := by
  unfold State.setTwinState
  repeat' first
    | (with_reducible first | assumption | apply keeps_setFld)
    | split | dsimp only | intro _

theorem keeps_setTwin {z s : State} (h : Keeps z s) (a1 : ℕ) (a2 : Twin) : Keeps z (State.setTwin s a1 a2) := by
  unfold State.setTwin
  repeat' first
    | (with_reducible first | assumption)
    | ((conv => arg 2; arg 55; skip); with_reducible first | apply keeps_mk | apply keeps_mkc)
    | split | dsimp only | intro _

theorem keeps_edgeTwin {z s : State} (h : Keeps z s) (a1 : ℕ) : Keeps z (State.edgeTwin s a1) := by
  unfold State.edgeTwin
  repeat' first
    | (with_reducible first | assumption | apply keeps_copyRow | apply keeps_setTwinState | apply keeps_setTwin
                            | apply keeps_foldl | apply keeps_foldl_fst | apply keeps_foldl_snd | apply keeps_foldl_mid)
    | ((conv => arg 2; arg 55; skip); with_reducible first | apply keeps_mk | apply keeps_mkc)
    | split | dsimp only | intro _

theorem keeps_edgeTwins {z s : State} (h : Keeps z s)  : Keeps z (State.edgeTwins s) := by
  unfold State.edgeTwins
  repeat' first
    | (with_reducible first | assumption | apply keeps_edgeTwin | apply keeps_each)
    | split | dsimp only | intro _

theorem keeps_setLookup {z s : State} (h : Keeps z s) (a1 : ℕ) (a2 : Option Lookup) : Keeps z (State.setLookup s a1 a2) := by
  unfold State.setLookup
  repeat' first
    | (with_reducible first | assumption)
    | ((conv => arg 2; arg 55; skip); with_reducible first | apply keeps_mk | apply keeps_mkc)
    | split | dsimp only | intro _

theorem keeps_tcmCount {z s : State} (h : Keeps z s) (a1 : ℕ) (a2 : ℕ) (a3 : ℕ) : Keeps z (State.tcmCount s a1 a2 a3) := by
  unfold State.tcmCount
  repeat' first
    | (with_reducible first | assumption | apply keeps_bump)
    | split | dsimp only | intro _

theorem keeps_setPanelQueue {z s : State} (h : Keeps z s) (a1 : ℕ) (a2 : List ℕ) : Keeps z (State.setPanelQueue s a1 a2) := by
  unfold State.setPanelQueue
  repeat' first
    | (with_reducible first | assumption)
    | ((conv => arg 2; arg 55; skip); with_reducible first | apply keeps_mk | apply keeps_mkc)
    | split | dsimp only | intro _

theorem keeps_enterPanel {z s : State} (h : Keeps z s) (a1 : ℕ) (a2 : ℕ × Bool) (a3 : ℕ) : Keeps z (State.enterPanel s a1 a2 a3) := by
  unfold State.enterPanel
  repeat' first
    | (with_reducible first | assumption | apply keeps_setLookup | apply keeps_setTwin | apply keeps_tcmCount
                            | apply keeps_setFld | apply keeps_setPanelQueue)
    | ((conv => arg 2; arg 55; skip); with_reducible first | apply keeps_mk | apply keeps_mkc)
    | split | dsimp only | intro _

theorem keeps_panelClear {z s : State} (h : Keeps z s) (a1 : ℕ) : Keeps z (State.panelClear s a1) := by
  unfold State.panelClear
  repeat' first
    | (with_reducible first | assumption)
    | ((conv => arg 2; arg 55; skip); with_reducible first | apply keeps_mk | apply keeps_mkc)
    | split | dsimp only | intro _

theorem keeps_repairNext {z s : State} (h : Keeps z s) (a1 : ℕ) (a2 : Bool) (a3 : ℕ) : Keeps z (State.repairNext s a1 a2 a3) := by
  unfold State.repairNext
  repeat' first
    | (with_reducible first | assumption | apply keeps_when)
    | ((conv => arg 2; arg 55; skip); with_reducible first | apply keeps_mk | apply keeps_mkc)
    | split | dsimp only | intro _

theorem keeps_setValid {z s : State} (h : Keeps z s) (a1 : ℕ) (a2 : Bool) : Keeps z (State.setValid s a1 a2) := by
  unfold State.setValid
  repeat' first
    | (with_reducible first | assumption | apply keeps_setTval)
    | ((conv => arg 2; arg 55; skip); with_reducible first | apply keeps_mk | apply keeps_mkc)
    | split | dsimp only | intro _

theorem keeps_tryPanels {z s : State} (h : Keeps z s) (a1 : ℕ) (a2 : ℕ) (a3 : List ℕ) : Keeps z (State.tryPanels s a1 a2 a3) := by
  unfold State.tryPanels
  repeat' first
    | (with_reducible first | assumption | apply keeps_tcmCount | apply keeps_gauge_now | apply keeps_enterPanel
                            | apply keeps_setLookup | apply keeps_foldl | apply keeps_foldl_fst | apply keeps_foldl_snd
                            | apply keeps_foldl_mid)
    | ((conv => arg 2; arg 55; skip); with_reducible first | apply keeps_mk | apply keeps_mkc)
    | split | dsimp only | intro _

theorem keeps_startSearch {z s : State} (h : Keeps z s) (a1 : ℕ) (a2 : ℕ) (a3 : ℕ) (a4 : Bool) : Keeps z (State.startSearch s a1 a2 a3 a4) := by
  unfold State.startSearch
  repeat' first
    | (with_reducible first | assumption | apply keeps_tryPanels | apply keeps_tcmCount | apply keeps_setLookup)
    | ((conv => arg 2; arg 55; skip); with_reducible first | apply keeps_mk | apply keeps_mkc)
    | split | dsimp only | intro _

theorem keeps_writePanelCfg {z s : State} (h : Keeps z s) (a1 : ℕ) (a2 : BitVec 64) (a3 : BitVec 64) : Keeps z (State.writePanelCfg s a1 a2 a3) := by
  unfold State.writePanelCfg
  repeat' first
    | (with_reducible first | assumption | apply keeps_setReg | apply keeps_setFld)
    | split | dsimp only | intro _

theorem keeps_execPanelCfgWrite {z s : State} (h : Keeps z s) (a0 : Agent) (a1 : Fin 48) (a2 : BitVec 32) : ResKeeps z (execPanelCfgWrite a0 a1 a2 s) := by
  unfold execPanelCfgWrite
  repeat' first
    | (with_reducible first | apply resKeeps_next | assumption | apply keeps_writePanelCfg | apply keeps_begin
                            | apply keeps_writeBy)
    | split | dsimp only | intro _

theorem keeps_execPanelSearch {z s : State} (h : Keeps z s) (a0 : Fin 48) (a1 : Bool) : ResKeeps z (execPanelSearch a0 a1 s) := by
  unfold execPanelSearch
  repeat' first
    | (with_reducible first | apply resKeeps_next | assumption | apply keeps_setLookup | apply keeps_fault
                            | apply keeps_repairNext | apply keeps_setPanelQueue | apply keeps_tcmCount
                            | apply keeps_gauge_now | apply keeps_begin)
    | ((conv => arg 2; arg 55; skip); with_reducible first | apply keeps_mk | apply keeps_mkc)
    | split | dsimp only | intro _

theorem keeps_execTcamFallback {z s : State} (h : Keeps z s) (a0 : ℕ) : ResKeeps z (execTcamFallback a0 s) := by
  unfold execTcamFallback
  repeat' first
    | (with_reducible first | apply resKeeps_next | assumption | apply keeps_tcmCount | apply keeps_setLookup
                            | apply keeps_startSearch | apply keeps_begin)
    | ((conv => arg 2; arg 55; skip); with_reducible first | apply keeps_mk | apply keeps_mkc)
    | split | dsimp only | intro _

theorem keeps_execTcamRetry {z s : State} (h : Keeps z s) (a0 : ℕ) : ResKeeps z (execTcamRetry a0 s) := by
  unfold execTcamRetry
  repeat' first
    | (with_reducible first | apply resKeeps_next | assumption | apply keeps_startSearch | apply keeps_begin)
    | ((conv => arg 2; arg 55; skip); with_reducible first | apply keeps_mk | apply keeps_mkc)
    | split | dsimp only | intro _

theorem keeps_execTwinCopyDone {z s : State} (h : Keeps z s) (a0 : Fin 48) : ResKeeps z (execTwinCopyDone a0 s) := by
  unfold execTwinCopyDone
  repeat' first
    | (with_reducible first | apply resKeeps_next | assumption | apply keeps_setTwinState | apply keeps_begin)
    | split | dsimp only | intro _

theorem keeps_execTwinReleaseEnd {z s : State} (h : Keeps z s) (a0 : Fin 48) : ResKeeps z (execTwinReleaseEnd a0 s) := by
  unfold execTwinReleaseEnd
  repeat' first
    | (with_reducible first | apply resKeeps_next | assumption | apply keeps_setTwinState | apply keeps_panelClear
                            | apply keeps_setTwin | apply keeps_begin)
    | ((conv => arg 2; arg 55; skip); with_reducible first | apply keeps_mk | apply keeps_mkc)
    | split | dsimp only | intro _

theorem keeps_Did_alu {z s : State} (h : Keeps z s) (a1 : Needle) (a2 : ℕ) (a3 : Word) (a4 : Bool) : DidKeeps z (Did.alu s a1 a2 a3 a4) := by
  unfold Did.alu
  repeat' first
    | (with_reducible first | apply didKeeps_go | exact didKeeps_hold | apply didKeeps_stop | assumption)
    | split | dsimp only | intro _

theorem keeps_Did_write {z s : State} (h : Keeps z s) (a1 : Needle) (a2 : ℕ) (a3 : Word) : DidKeeps z (Did.write s a1 a2 a3) := by
  unfold Did.write
  repeat' first
    | (with_reducible first | apply didKeeps_go | exact didKeeps_hold | apply didKeeps_stop | assumption)
    | split | dsimp only | intro _

theorem keeps_askHash {z s : State} (h : Keeps z s) (a1 : ℕ) (a2 : ℕ) (a3 : ℕ) (a4 : Bytes) : Keeps z (State.askHash s a1 a2 a3 a4).2 := by
  unfold State.askHash
  repeat' first
    | (with_reducible first | assumption)
    | ((conv => arg 2; arg 55; skip); with_reducible first | apply keeps_mk | apply keeps_mkc)
    | split | dsimp only | intro _
theorem keeps_askHash_eq {z s t : State} {b0 : Answer} {a1 : ℕ} {a2 : ℕ} {a3 : ℕ} {a4 : Bytes} (e : State.askHash s a1 a2 a3 a4 = (b0, t)) (h : Keeps z s) : Keeps z t := by
  have k := keeps_askHash h a1 a2 a3 a4
  rw [e] at k; exact k

theorem keeps_castonAnswer {z s : State} (h : Keeps z s) (a1 : ℕ) (a2 : ℕ) (a3 : Bytes) : Keeps z (State.castonAnswer s a1 a2 a3).2 := by
  unfold State.castonAnswer
  repeat' first
    | (with_reducible first | assumption | apply keeps_askHash | refine keeps_askHash_eq (by assumption) ?_)
    | ((conv => arg 2; arg 55; skip); with_reducible first | apply keeps_mk | apply keeps_mkc)
    | split | dsimp only | intro _
theorem keeps_castonAnswer_eq {z s t : State} {b0 : Answer} {a1 : ℕ} {a2 : ℕ} {a3 : Bytes} (e : State.castonAnswer s a1 a2 a3 = (b0, t)) (h : Keeps z s) : Keeps z t := by
  have k := keeps_castonAnswer h a1 a2 a3
  rw [e] at k; exact k

theorem keeps_samplePoint {z s : State} (h : Keeps z s) (a1 : ℕ) (a2 : Needle) : Keeps z (State.samplePoint s a1 a2).1 := by
  unfold State.samplePoint
  repeat' first
    | (with_reducible first | assumption | apply keeps_sampleRecord)
    | ((conv => arg 2; arg 55; skip); with_reducible first | apply keeps_mk | apply keeps_mkc)
    | split | dsimp only | intro _
theorem keeps_samplePoint_eq {z s t : State} {b1 : Needle} {a1 : ℕ} {a2 : Needle} (e : State.samplePoint s a1 a2 = (t, b1)) (h : Keeps z s) : Keeps z t := by
  have k := keeps_samplePoint h a1 a2
  rw [e] at k; exact k

theorem keeps_issue {z s : State} (h : Keeps z s) {op : Nat} {m : BitVec 64} {side : Side} {e : Fin 64} {i : Fin 96}
    {f : State → Nat → Needle → BitVec 64 → Did} (hf : ∀ t k nd w, Keeps z t → DidKeeps z (f t k nd w)) :
    ResKeeps z (s.issue op m side e i f) := by
  have key : ∀ a b c d x, f a b c d = x → Keeps z a → DidKeeps z x := by
    intro a b c d x hx ha
    subst hx
    exact hf _ _ _ _ ha
  unfold State.issue
  dsimp only
  split
  · exact resKeeps_next (keeps_begin h)
  · rename_i nd _
    have hq : Keeps z (if nd.stalled = true then (s.begin, nd)
        else (s.begin.gauge! (enginePipe e.val) 0x05 1 (some (engineDir e.val))).samplePoint (e.val * 96 + i.val) nd).1 := by
      split
      · exact keeps_begin h
      · exact keeps_samplePoint (keeps_gauge_now (keeps_begin h) _ _ _ _) _ _
    revert hq
    generalize (if nd.stalled = true then (s.begin, nd)
        else (s.begin.gauge! (enginePipe e.val) 0x05 1 (some (engineDir e.val))).samplePoint (e.val * 96 + i.val) nd) = q
    intro hq
    split
    · exact resKeeps_next (keeps_begin h)
    · split
      · exact resKeeps_next (keeps_endNeedle (keeps_begin h) _ _ _ _ _)
      · split
        · split
          · exact resKeeps_next (keeps_endNeedle hq _ _ _ _ _)
          · split
            · rename_i he
              exact resKeeps_next (keeps_setNeedle (key _ _ _ _ _ he hq) _ _)
            · exact resKeeps_next (keeps_setNeedle hq _ _)
            · rename_i he
              exact resKeeps_next (keeps_endNeedle (key _ _ _ _ _ he hq) _ _ _ _ _)
        · split
          · exact resKeeps_next (keeps_begin h)
          · exact resKeeps_next (keeps_endNeedle (keeps_begin h) _ _ _ _ _)

theorem keeps_send {z s : State} (h : Keeps z s) (a1 : ℕ) (a2 : Needle) (a3 : ℕ) (a4 : ℕ) (a5 : ℕ) (a6 : Lookup) (a7 : Bool) : Keeps z (State.send s a1 a2 a3 a4 a5 a6 a7).1 := by
  unfold State.send
  repeat' first
    | (with_reducible first | assumption | apply keeps_setLookup | apply keeps_gauge_now)
    | ((conv => arg 2; arg 55; skip); with_reducible first | apply keeps_mk | apply keeps_mkc)
    | split | dsimp only | intro _
theorem keeps_send_eq {z s t : State} {b1 : Needle} {b2 : ℕ} {a1 : ℕ} {a2 : Needle} {a3 : ℕ} {a4 : ℕ} {a5 : ℕ} {a6 : Lookup} {a7 : Bool} (e : State.send s a1 a2 a3 a4 a5 a6 a7 = (t, b1, b2)) (h : Keeps z s) : Keeps z t := by
  have k := keeps_send h a1 a2 a3 a4 a5 a6 a7
  rw [e] at k; exact k

theorem keeps_aluImm {z s : State} (h : Keeps z s) (a0 : Word → Word → Word) (a1 : Word → Word → Bool) (a3 : ℕ) (a4 : Needle) (a5 : BitVec 64) : DidKeeps z (aluImm a0 a1 s a3 a4 a5) := by
  unfold aluImm
  repeat' first
    | (with_reducible first | apply didKeeps_go | exact didKeeps_hold | apply didKeeps_stop | assumption
                            | apply keeps_Did_alu)
    | split | dsimp only | intro _

theorem keeps_aluReg {z s : State} (h : Keeps z s) (a0 : Word → Word → Word) (a1 : Word → Word → Bool) (a3 : ℕ) (a4 : Needle) (a5 : BitVec 64) : DidKeeps z (aluReg a0 a1 s a3 a4 a5) := by
  unfold aluReg
  repeat' first
    | (with_reducible first | apply didKeeps_go | exact didKeeps_hold | apply didKeeps_stop | assumption
                            | apply keeps_Did_alu)
    | split | dsimp only | intro _

theorem keeps_execAdd {z s : State} (h : Keeps z s) (a0 : Fin 64) (a1 : Fin 96) : ResKeeps z (execAdd a0 a1 s) := by
  unfold execAdd
  repeat' first
    | (with_reducible first | apply resKeeps_next | apply didKeeps_go | exact didKeeps_hold | apply didKeeps_stop
                            | assumption | apply keeps_aluReg | apply keeps_issue)
    | split | dsimp only | intro _

theorem keeps_execAddi {z s : State} (h : Keeps z s) (a0 : Fin 64) (a1 : Fin 96) : ResKeeps z (execAddi a0 a1 s) := by
  unfold execAddi
  repeat' first
    | (with_reducible first | apply resKeeps_next | apply didKeeps_go | exact didKeeps_hold | apply didKeeps_stop
                            | assumption | apply keeps_aluImm | apply keeps_issue)
    | split | dsimp only | intro _

theorem keeps_execAnd {z s : State} (h : Keeps z s) (a0 : Fin 64) (a1 : Fin 96) : ResKeeps z (execAnd a0 a1 s) := by
  unfold execAnd
  repeat' first
    | (with_reducible first | apply resKeeps_next | apply didKeeps_go | exact didKeeps_hold | apply didKeeps_stop
                            | assumption | apply keeps_aluReg | apply keeps_issue)
    | split | dsimp only | intro _

theorem keeps_execAndi {z s : State} (h : Keeps z s) (a0 : Fin 64) (a1 : Fin 96) : ResKeeps z (execAndi a0 a1 s) := by
  unfold execAndi
  repeat' first
    | (with_reducible first | apply resKeeps_next | apply didKeeps_go | exact didKeeps_hold | apply didKeeps_stop
                            | assumption | apply keeps_aluImm | apply keeps_issue)
    | split | dsimp only | intro _

theorem keeps_execBCc {z s : State} (h : Keeps z s) (a0 : Fin 64) (a1 : Fin 96) : ResKeeps z (execBCc a0 a1 s) := by
  unfold execBCc
  repeat' first
    | (with_reducible first | apply resKeeps_next | apply didKeeps_go | exact didKeeps_hold | apply didKeeps_stop
                            | assumption | apply keeps_issue)
    | ((conv => arg 2; arg 55; skip); with_reducible first | apply keeps_mk | apply keeps_mkc)
    | split | dsimp only | intro _

theorem keeps_execBudgetAbort {z s : State} (h : Keeps z s) (a0 : Fin 64) (a1 : Fin 96) : ResKeeps z (execBudgetAbort a0 a1 s) := by
  unfold execBudgetAbort
  repeat' first
    | (with_reducible first | apply resKeeps_next | assumption | apply keeps_endNeedle | apply keeps_begin)
    | ((conv => arg 2; arg 55; skip); with_reducible first | apply keeps_mk | apply keeps_mkc)
    | split | dsimp only | intro _

theorem keeps_execCall {z s : State} (h : Keeps z s) (a0 : Fin 64) (a1 : Fin 96) : ResKeeps z (execCall a0 a1 s) := by
  unfold execCall
  repeat' first
    | (with_reducible first | apply resKeeps_next | apply didKeeps_go | exact didKeeps_hold | apply didKeeps_stop
                            | assumption | apply keeps_issue)
    | split | dsimp only | intro _

theorem keeps_execCmp {z s : State} (h : Keeps z s) (a0 : Fin 64) (a1 : Fin 96) : ResKeeps z (execCmp a0 a1 s) := by
  unfold execCmp
  repeat' first
    | (with_reducible first | apply resKeeps_next | apply didKeeps_go | exact didKeeps_hold | apply didKeeps_stop
                            | assumption | apply keeps_issue)
    | split | dsimp only | intro _

theorem keeps_execCmpi {z s : State} (h : Keeps z s) (a0 : Fin 64) (a1 : Fin 96) : ResKeeps z (execCmpi a0 a1 s) := by
  unfold execCmpi
  repeat' first
    | (with_reducible first | apply resKeeps_next | apply didKeeps_go | exact didKeeps_hold | apply didKeeps_stop
                            | assumption | apply keeps_issue)
    | split | dsimp only | intro _

theorem keeps_execCount {z s : State} (h : Keeps z s) (a0 : Fin 64) (a1 : Fin 96) : ResKeeps z (execCount a0 a1 s) := by
  unfold execCount
  repeat' first
    | (with_reducible first | apply resKeeps_next | apply didKeeps_go | exact didKeeps_hold | apply didKeeps_stop
                            | assumption | apply keeps_countStat | apply keeps_issue)
    | split | dsimp only | intro _

theorem keeps_execCsum4 {z s : State} (h : Keeps z s) (a0 : Fin 64) (a1 : Fin 96) : ResKeeps z (execCsum4 a0 a1 s) := by
  unfold execCsum4
  repeat' first
    | (with_reducible first | apply resKeeps_next | apply didKeeps_go | exact didKeeps_hold | apply didKeeps_stop
                            | assumption | apply keeps_issue)
    | ((conv => arg 2; arg 55; skip); with_reducible first | apply keeps_mk | apply keeps_mkc)
    | split | dsimp only | intro _

theorem keeps_execDep {z s : State} (h : Keeps z s) (a0 : Fin 64) (a1 : Fin 96) : ResKeeps z (execDep a0 a1 s) := by
  unfold execDep
  repeat' first
    | (with_reducible first | apply resKeeps_next | apply didKeeps_go | exact didKeeps_hold | apply didKeeps_stop
                            | assumption | apply keeps_Did_alu | apply keeps_issue)
    | split | dsimp only | intro _

theorem keeps_execDrop {z s : State} (h : Keeps z s) (a0 : Fin 64) (a1 : Fin 96) : ResKeeps z (execDrop a0 a1 s) := by
  unfold execDrop
  repeat' first
    | (with_reducible first | apply resKeeps_next | apply didKeeps_go | exact didKeeps_hold | apply didKeeps_stop
                            | assumption | apply keeps_issue)
    | split | dsimp only | intro _

theorem keeps_execEdel {z s : State} (h : Keeps z s) (a0 : Fin 64) (a1 : Fin 96) : ResKeeps z (execEdel a0 a1 s) := by
  unfold execEdel
  repeat' first
    | (with_reducible first | apply resKeeps_next | apply didKeeps_go | exact didKeeps_hold | apply didKeeps_stop
                            | assumption | apply keeps_issue)
    | ((conv => arg 2; arg 55; skip); with_reducible first | apply keeps_mk | apply keeps_mkc)
    | split | dsimp only | intro _

theorem keeps_execEins {z s : State} (h : Keeps z s) (a0 : Fin 64) (a1 : Fin 96) : ResKeeps z (execEins a0 a1 s) := by
  unfold execEins
  repeat' first
    | (with_reducible first | apply resKeeps_next | apply didKeeps_go | exact didKeeps_hold | apply didKeeps_stop
                            | assumption | apply keeps_issue)
    | ((conv => arg 2; arg 55; skip); with_reducible first | apply keeps_mk | apply keeps_mkc)
    | split | dsimp only | intro _

theorem keeps_execEndProg {z s : State} (h : Keeps z s) (a0 : Fin 64) (a1 : Fin 96) : ResKeeps z (execEndProg a0 a1 s) := by
  unfold execEndProg
  repeat' first
    | (with_reducible first | apply resKeeps_next | apply didKeeps_go | exact didKeeps_hold | apply didKeeps_stop
                            | assumption | apply keeps_issue)
    | split | dsimp only | intro _

theorem keeps_execEtpl {z s : State} (h : Keeps z s) (a0 : Fin 64) (a1 : Fin 96) : ResKeeps z (execEtpl a0 a1 s) := by
  unfold execEtpl
  repeat' first
    | (with_reducible first | apply resKeeps_next | apply didKeeps_go | exact didKeeps_hold | apply didKeeps_stop
                            | assumption | apply keeps_issue)
    | ((conv => arg 2; arg 55; skip); with_reducible first | apply keeps_mk | apply keeps_mkc)
    | split | dsimp only | intro _

theorem keeps_execExt {z s : State} (h : Keeps z s) (a0 : Fin 64) (a1 : Fin 96) : ResKeeps z (execExt a0 a1 s) := by
  unfold execExt
  repeat' first
    | (with_reducible first | apply resKeeps_next | apply didKeeps_go | exact didKeeps_hold | apply didKeeps_stop
                            | assumption | apply keeps_Did_alu | apply keeps_issue)
    | split | dsimp only | intro _

theorem keeps_execFwd {z s : State} (h : Keeps z s) (a0 : Fin 64) (a1 : Fin 96) : ResKeeps z (execFwd a0 a1 s) := by
  unfold execFwd
  repeat' first
    | (with_reducible first | apply resKeeps_next | apply didKeeps_go | exact didKeeps_hold | apply didKeeps_stop
                            | assumption | apply keeps_issue)
    | split | dsimp only | intro _

theorem keeps_execHash {z s : State} (h : Keeps z s) (a0 : Fin 64) (a1 : Fin 96) : ResKeeps z (execHash a0 a1 s) := by
  unfold execHash
  repeat' first
    | (with_reducible first | apply resKeeps_next | apply didKeeps_go | exact didKeeps_hold | apply didKeeps_stop
                            | assumption | apply keeps_issue)
    | split | dsimp only | intro _

theorem keeps_execJmp {z s : State} (h : Keeps z s) (a0 : Fin 64) (a1 : Fin 96) : ResKeeps z (execJmp a0 a1 s) := by
  unfold execJmp
  repeat' first
    | (with_reducible first | apply resKeeps_next | apply didKeeps_go | exact didKeeps_hold | apply didKeeps_stop
                            | assumption | apply keeps_issue)
    | split | dsimp only | intro _

theorem keeps_execKclr {z s : State} (h : Keeps z s) (a0 : Fin 64) (a1 : Fin 96) : ResKeeps z (execKclr a0 a1 s) := by
  unfold execKclr
  repeat' first
    | (with_reducible first | apply resKeeps_next | apply didKeeps_go | exact didKeeps_hold | apply didKeeps_stop
                            | assumption | apply keeps_issue)
    | ((conv => arg 2; arg 55; skip); with_reducible first | apply keeps_mk | apply keeps_mkc)
    | split | dsimp only | intro _

theorem keeps_execKcpy {z s : State} (h : Keeps z s) (a0 : Fin 64) (a1 : Fin 96) : ResKeeps z (execKcpy a0 a1 s) := by
  unfold execKcpy
  repeat' first
    | (with_reducible first | apply resKeeps_next | apply didKeeps_go | exact didKeeps_hold | apply didKeeps_stop
                            | assumption | apply keeps_issue)
    | ((conv => arg 2; arg 55; skip); with_reducible first | apply keeps_mk | apply keeps_mkc)
    | split | dsimp only | intro _

theorem keeps_execKput {z s : State} (h : Keeps z s) (a0 : Fin 64) (a1 : Fin 96) : ResKeeps z (execKput a0 a1 s) := by
  unfold execKput
  repeat' first
    | (with_reducible first | apply resKeeps_next | apply didKeeps_go | exact didKeeps_hold | apply didKeeps_stop
                            | assumption | apply keeps_issue)
    | ((conv => arg 2; arg 55; skip); with_reducible first | apply keeps_mk | apply keeps_mkc)
    | split | dsimp only | intro _

theorem keeps_execLdh {z s : State} (h : Keeps z s) (a0 : Fin 64) (a1 : Fin 96) : ResKeeps z (execLdh a0 a1 s) := by
  unfold execLdh
  repeat' first
    | (with_reducible first | apply resKeeps_next | apply didKeeps_go | exact didKeeps_hold | apply didKeeps_stop
                            | assumption | apply keeps_Did_write | apply keeps_issue)
    | ((conv => arg 2; arg 55; skip); with_reducible first | apply keeps_mk | apply keeps_mkc)
    | split | dsimp only | intro _

theorem keeps_execLdm {z s : State} (h : Keeps z s) (a0 : Fin 64) (a1 : Fin 96) : ResKeeps z (execLdm a0 a1 s) := by
  unfold execLdm
  repeat' first
    | (with_reducible first | apply resKeeps_next | apply didKeeps_go | exact didKeeps_hold | apply didKeeps_stop
                            | assumption | apply keeps_Did_write | apply keeps_issue)
    | ((conv => arg 2; arg 55; skip); with_reducible first | apply keeps_mk | apply keeps_mkc)
    | split | dsimp only | intro _

theorem keeps_execLdr {z s : State} (h : Keeps z s) (a0 : Fin 64) (a1 : Fin 96) : ResKeeps z (execLdr a0 a1 s) := by
  unfold execLdr
  repeat' first
    | (with_reducible first | apply resKeeps_next | apply didKeeps_go | exact didKeeps_hold | apply didKeeps_stop
                            | assumption | apply keeps_issue)
    | ((conv => arg 2; arg 55; skip); with_reducible first | apply keeps_mk | apply keeps_mkc)
    | split | dsimp only | intro _

theorem keeps_execLearn {z s : State} (h : Keeps z s) (a0 : Fin 64) (a1 : Fin 96) : ResKeeps z (execLearn a0 a1 s) := by
  unfold execLearn
  repeat' first
    | (with_reducible first | apply resKeeps_next | apply didKeeps_go | exact didKeeps_hold | apply didKeeps_stop
                            | assumption | apply keeps_learnEvent | apply keeps_issue)
    | split | dsimp only | intro _

theorem keeps_execLkd {z s : State} (h : Keeps z s) (a0 : Fin 64) (a1 : Fin 96) : ResKeeps z (execLkd a0 a1 s) := by
  unfold execLkd
  repeat' first
    | (with_reducible first | apply resKeeps_next | apply didKeeps_go | exact didKeeps_hold | apply didKeeps_stop
                            | assumption | apply keeps_send | refine keeps_send_eq (by assumption) ?_
                            | apply keeps_issue)
    | ((conv => arg 2; arg 55; skip); with_reducible first | apply keeps_mk | apply keeps_mkc)
    | split | dsimp only | intro _

theorem keeps_execLkh {z s : State} (h : Keeps z s) (a0 : Fin 64) (a1 : Fin 96) : ResKeeps z (execLkh a0 a1 s) := by
  unfold execLkh
  repeat' first
    | (with_reducible first | apply resKeeps_next | apply didKeeps_go | exact didKeeps_hold | apply didKeeps_stop
                            | assumption | apply keeps_send | refine keeps_send_eq (by assumption) ?_
                            | apply keeps_askHash | refine keeps_askHash_eq (by assumption) ?_ | apply keeps_issue)
    | ((conv => arg 2; arg 55; skip); with_reducible first | apply keeps_mk | apply keeps_mkc)
    | split | dsimp only | intro _

theorem keeps_execLkt {z s : State} (h : Keeps z s) (a0 : Fin 64) (a1 : Fin 96) : ResKeeps z (execLkt a0 a1 s) := by
  unfold execLkt
  repeat' first
    | (with_reducible first | apply resKeeps_next | apply didKeeps_go | exact didKeeps_hold | apply didKeeps_stop
                            | assumption | apply keeps_startSearch | apply keeps_send
                            | refine keeps_send_eq (by assumption) ?_ | apply keeps_castonAnswer
                            | refine keeps_castonAnswer_eq (by assumption) ?_ | apply keeps_issue)
    | ((conv => arg 2; arg 55; skip); with_reducible first | apply keeps_mk | apply keeps_mkc)
    | split | dsimp only | intro _

theorem keeps_execLookupAnswer {z s : State} (h : Keeps z s) (k : Nat) (err : Bool) (lat : Nat) :
    ResKeeps z (execLookupAnswer k err lat s) := by
  have hb := keeps_begin h
  unfold execLookupAnswer
  extract_lets s0 s1 l
  split
  · exact resKeeps_next hb
  · split
    · exact resKeeps_next hb
    · extract_lets a n d s2 kind s3 s4 acl p entry s5
      have h1 : Keeps z s1 := keeps_setLookup hb _ _
      have h2 : Keeps z s2 := by
        show Keeps z (if _ then _ else _)
        split
        · exact keeps_tcmCount h1 _ _ _
        · exact h1
      have h3 : Keeps z s3 := by
        show Keeps z (if _ then _ else _)
        split
        · exact keeps_gauge_now h2 _ _ _ _
        · exact h2
      have h4 : Keeps z s4 := by
        show Keeps z (if _ then _ else _)
        split
        · exact keeps_gauge_now h3 _ _ _ _
        · exact h3
      have h5 : Keeps z s5 := by
        show Keeps z (if _ then _ else _)
        split
        · exact keeps_setPipe h4 _ _
        · exact h4
      clear_value s5
      split
      · split
        · exact resKeeps_next (keeps_setNeedle h5 _ _)
        · exact resKeeps_next h5
      · exact resKeeps_next h5

theorem keeps_execMirror {z s : State} (h : Keeps z s) (a0 : Fin 64) (a1 : Fin 96) : ResKeeps z (execMirror a0 a1 s) := by
  unfold execMirror
  repeat' first
    | (with_reducible first | apply resKeeps_next | apply didKeeps_go | exact didKeeps_hold | apply didKeeps_stop
                            | assumption | apply keeps_issue)
    | ((conv => arg 2; arg 55; skip); with_reducible first | apply keeps_mk | apply keeps_mkc)
    | split | dsimp only | intro _

theorem keeps_execMov {z s : State} (h : Keeps z s) (a0 : Fin 64) (a1 : Fin 96) : ResKeeps z (execMov a0 a1 s) := by
  unfold execMov
  repeat' first
    | (with_reducible first | apply resKeeps_next | apply didKeeps_go | exact didKeeps_hold | apply didKeeps_stop
                            | assumption | apply keeps_Did_write | apply keeps_issue)
    | split | dsimp only | intro _

theorem keeps_execMovi {z s : State} (h : Keeps z s) (a0 : Fin 64) (a1 : Fin 96) : ResKeeps z (execMovi a0 a1 s) := by
  unfold execMovi
  repeat' first
    | (with_reducible first | apply resKeeps_next | apply didKeeps_go | exact didKeeps_hold | apply didKeeps_stop
                            | assumption | apply keeps_Did_write | apply keeps_issue)
    | split | dsimp only | intro _

theorem keeps_execNop {z s : State} (h : Keeps z s) (a0 : Fin 64) (a1 : Fin 96) : ResKeeps z (execNop a0 a1 s) := by
  unfold execNop
  repeat' first
    | (with_reducible first | apply resKeeps_next | apply didKeeps_go | exact didKeeps_hold | apply didKeeps_stop
                            | assumption | apply keeps_issue)
    | split | dsimp only | intro _

theorem keeps_execOr {z s : State} (h : Keeps z s) (a0 : Fin 64) (a1 : Fin 96) : ResKeeps z (execOr a0 a1 s) := by
  unfold execOr
  repeat' first
    | (with_reducible first | apply resKeeps_next | apply didKeeps_go | exact didKeeps_hold | apply didKeeps_stop
                            | assumption | apply keeps_aluReg | apply keeps_issue)
    | split | dsimp only | intro _

theorem keeps_execOri {z s : State} (h : Keeps z s) (a0 : Fin 64) (a1 : Fin 96) : ResKeeps z (execOri a0 a1 s) := by
  unfold execOri
  repeat' first
    | (with_reducible first | apply resKeeps_next | apply didKeeps_go | exact didKeeps_hold | apply didKeeps_stop
                            | assumption | apply keeps_aluImm | apply keeps_issue)
    | split | dsimp only | intro _

theorem keeps_execOuter {z s : State} (h : Keeps z s) (a0 : Fin 64) (a1 : Fin 96) : ResKeeps z (execOuter a0 a1 s) := by
  unfold execOuter
  repeat' first
    | (with_reducible first | apply resKeeps_next | apply didKeeps_go | exact didKeeps_hold | apply didKeeps_stop
                            | assumption | apply keeps_issue)
    | split | dsimp only | intro _

theorem keeps_execPolice {z s : State} (h : Keeps z s) (a0 : Fin 64) (a1 : Fin 96) : ResKeeps z (execPolice a0 a1 s) := by
  unfold execPolice
  repeat' first
    | (with_reducible first | apply resKeeps_next | apply didKeeps_go | exact didKeeps_hold | apply didKeeps_stop
                            | assumption | apply keeps_issue)
    | split | dsimp only | intro _

theorem keeps_execResp {z s : State} (h : Keeps z s) (a0 : Fin 64) (a1 : Fin 96) : ResKeeps z (execResp a0 a1 s) := by
  unfold execResp
  repeat' first
    | (with_reducible first | apply resKeeps_next | apply didKeeps_go | exact didKeeps_hold | apply didKeeps_stop
                            | assumption | apply keeps_issue)
    | split | dsimp only | intro _

theorem keeps_execRet {z s : State} (h : Keeps z s) (a0 : Fin 64) (a1 : Fin 96) : ResKeeps z (execRet a0 a1 s) := by
  unfold execRet
  repeat' first
    | (with_reducible first | apply resKeeps_next | apply didKeeps_go | exact didKeeps_hold | apply didKeeps_stop
                            | assumption | apply keeps_issue)
    | split | dsimp only | intro _

theorem keeps_execSettc {z s : State} (h : Keeps z s) (a0 : Fin 64) (a1 : Fin 96) : ResKeeps z (execSettc a0 a1 s) := by
  unfold execSettc
  repeat' first
    | (with_reducible first | apply resKeeps_next | apply didKeeps_go | exact didKeeps_hold | apply didKeeps_stop
                            | assumption | apply keeps_issue)
    | split | dsimp only | intro _

theorem keeps_execShl {z s : State} (h : Keeps z s) (a0 : Fin 64) (a1 : Fin 96) : ResKeeps z (execShl a0 a1 s) := by
  unfold execShl
  repeat' first
    | (with_reducible first | apply resKeeps_next | apply didKeeps_go | exact didKeeps_hold | apply didKeeps_stop
                            | assumption | apply keeps_Did_alu | apply keeps_issue)
    | split | dsimp only | intro _

theorem keeps_execShr {z s : State} (h : Keeps z s) (a0 : Fin 64) (a1 : Fin 96) : ResKeeps z (execShr a0 a1 s) := by
  unfold execShr
  repeat' first
    | (with_reducible first | apply resKeeps_next | apply didKeeps_go | exact didKeeps_hold | apply didKeeps_stop
                            | assumption | apply keeps_Did_alu | apply keeps_issue)
    | split | dsimp only | intro _

theorem keeps_execSlearn {z s : State} (h : Keeps z s) (a0 : Fin 64) (a1 : Fin 96) : ResKeeps z (execSlearn a0 a1 s) := by
  unfold execSlearn
  repeat' first
    | (with_reducible first | apply resKeeps_next | apply didKeeps_go | exact didKeeps_hold | apply didKeeps_stop
                            | assumption | apply keeps_learnEvent | apply keeps_issue)
    | split | dsimp only | intro _

theorem keeps_execSth {z s : State} (h : Keeps z s) (a0 : Fin 64) (a1 : Fin 96) : ResKeeps z (execSth a0 a1 s) := by
  unfold execSth
  repeat' first
    | (with_reducible first | apply resKeeps_next | apply didKeeps_go | exact didKeeps_hold | apply didKeeps_stop
                            | assumption | apply keeps_issue)
    | ((conv => arg 2; arg 55; skip); with_reducible first | apply keeps_mk | apply keeps_mkc)
    | split | dsimp only | intro _

theorem keeps_execStm {z s : State} (h : Keeps z s) (a0 : Fin 64) (a1 : Fin 96) : ResKeeps z (execStm a0 a1 s) := by
  unfold execStm
  repeat' first
    | (with_reducible first | apply resKeeps_next | apply didKeeps_go | exact didKeeps_hold | apply didKeeps_stop
                            | assumption | apply keeps_issue)
    | ((conv => arg 2; arg 55; skip); with_reducible first | apply keeps_mk | apply keeps_mkc)
    | split | dsimp only | intro _

theorem keeps_execSub {z s : State} (h : Keeps z s) (a0 : Fin 64) (a1 : Fin 96) : ResKeeps z (execSub a0 a1 s) := by
  unfold execSub
  repeat' first
    | (with_reducible first | apply resKeeps_next | apply didKeeps_go | exact didKeeps_hold | apply didKeeps_stop
                            | assumption | apply keeps_aluReg | apply keeps_issue)
    | split | dsimp only | intro _

theorem keeps_execSubi {z s : State} (h : Keeps z s) (a0 : Fin 64) (a1 : Fin 96) : ResKeeps z (execSubi a0 a1 s) := by
  unfold execSubi
  repeat' first
    | (with_reducible first | apply resKeeps_next | apply didKeeps_go | exact didKeeps_hold | apply didKeeps_stop
                            | assumption | apply keeps_aluImm | apply keeps_issue)
    | split | dsimp only | intro _

theorem keeps_execTohost {z s : State} (h : Keeps z s) (a0 : Fin 64) (a1 : Fin 96) : ResKeeps z (execTohost a0 a1 s) := by
  unfold execTohost
  repeat' first
    | (with_reducible first | apply resKeeps_next | apply didKeeps_go | exact didKeeps_hold | apply didKeeps_stop
                            | assumption | apply keeps_issue)
    | split | dsimp only | intro _

theorem keeps_execTsmark {z s : State} (h : Keeps z s) (a0 : Fin 64) (a1 : Fin 96) : ResKeeps z (execTsmark a0 a1 s) := by
  unfold execTsmark
  repeat' first
    | (with_reducible first | apply resKeeps_next | apply didKeeps_go | exact didKeeps_hold | apply didKeeps_stop
                            | assumption | apply keeps_issue)
    | split | dsimp only | intro _

theorem keeps_execTstag {z s : State} (h : Keeps z s) (a0 : Fin 64) (a1 : Fin 96) : ResKeeps z (execTstag a0 a1 s) := by
  unfold execTstag
  repeat' first
    | (with_reducible first | apply resKeeps_next | apply didKeeps_go | exact didKeeps_hold | apply didKeeps_stop
                            | assumption | apply keeps_issue)
    | ((conv => arg 2; arg 55; skip); with_reducible first | apply keeps_mk | apply keeps_mkc)
    | split | dsimp only | intro _

theorem keeps_execTsti {z s : State} (h : Keeps z s) (a0 : Fin 64) (a1 : Fin 96) : ResKeeps z (execTsti a0 a1 s) := by
  unfold execTsti
  repeat' first
    | (with_reducible first | apply resKeeps_next | apply didKeeps_go | exact didKeeps_hold | apply didKeeps_stop
                            | assumption | apply keeps_issue)
    | split | dsimp only | intro _

theorem keeps_execWait {z s : State} (h : Keeps z s) (a0 : Fin 64) (a1 : Fin 96) : ResKeeps z (execWait a0 a1 s) := by
  unfold execWait
  repeat' first
    | (with_reducible first | apply resKeeps_next | apply didKeeps_go | exact didKeeps_hold | apply didKeeps_stop
                            | assumption | apply keeps_issue)
    | ((conv => arg 2; arg 55; skip); with_reducible first | apply keeps_mk | apply keeps_mkc)
    | split | dsimp only | intro _

theorem keeps_execXor {z s : State} (h : Keeps z s) (a0 : Fin 64) (a1 : Fin 96) : ResKeeps z (execXor a0 a1 s) := by
  unfold execXor
  repeat' first
    | (with_reducible first | apply resKeeps_next | apply didKeeps_go | exact didKeeps_hold | apply didKeeps_stop
                            | assumption | apply keeps_aluReg | apply keeps_issue)
    | split | dsimp only | intro _

theorem keeps_execXori {z s : State} (h : Keeps z s) (a0 : Fin 64) (a1 : Fin 96) : ResKeeps z (execXori a0 a1 s) := by
  unfold execXori
  repeat' first
    | (with_reducible first | apply resKeeps_next | apply didKeeps_go | exact didKeeps_hold | apply didKeeps_stop
                            | assumption | apply keeps_aluImm | apply keeps_issue)
    | split | dsimp only | intro _

theorem keeps_synceLost {z s : State} (h : Keeps z s) (a1 : ℕ) : Keeps z (State.synceLost s a1) := by
  unfold State.synceLost
  repeat' first
    | (with_reducible first | assumption | apply keeps_setFld | apply keeps_faultLasting)
    | split | dsimp only | intro _

theorem keeps_synceBack {z s : State} (h : Keeps z s) (a1 : ℕ) : Keeps z (State.synceBack s a1) := by
  unfold State.synceBack
  repeat' first
    | (with_reducible first | assumption | apply keeps_setFld | apply keeps_faultEnds)
    | split | dsimp only | intro _

theorem keeps_edgeSynceOne {z s : State} (h : Keeps z s) (a1 : Fin 2) : Keeps z (State.edgeSynceOne s a1) := by
  unfold State.edgeSynceOne
  repeat' first
    | (with_reducible first | assumption | apply keeps_emit | apply keeps_synceLost | apply keeps_synceBack)
    | split | dsimp only | intro _

theorem keeps_edgeSynce {z s : State} (h : Keeps z s)  : Keeps z (State.edgeSynce s) := by
  unfold State.edgeSynce
  repeat' first
    | (with_reducible first | assumption | apply keeps_edgeSynceOne)
    | split | dsimp only | intro _

theorem keeps_setTod {z s : State} (h : Keeps z s) (a1 : ℕ) : Keeps z (State.setTod s a1) := by
  unfold State.setTod
  repeat' first
    | (with_reducible first | assumption | apply keeps_setFld)
    | ((conv => arg 2; arg 55; skip); with_reducible first | apply keeps_mk | apply keeps_mkc)
    | split | dsimp only | intro _

theorem keeps_edgeTod {z s : State} (h : Keeps z s)  : Keeps z (State.edgeTod s) := by
  unfold State.edgeTod
  repeat' first
    | (with_reducible first | assumption | apply keeps_setTod)
    | ((conv => arg 2; arg 55; skip); with_reducible first | apply keeps_mk | apply keeps_mkc)
    | split | dsimp only | intro _

theorem keeps_synceLock {z s : State} (h : Keeps z s) (a1 : Fin 2) (a2 : Bool) : Keeps z (State.synceLock s a1 a2) := by
  unfold State.synceLock
  repeat' first
    | (with_reducible first | assumption | apply keeps_emit | apply keeps_synceLost | apply keeps_synceBack
                            | apply keeps_setFld)
    | split | dsimp only | intro _

theorem keeps_todClocks {z s : State} (h : Keeps z s) (a1 : ℕ) : Keeps z (State.todClocks s a1) := by
  unfold State.todClocks
  repeat' first
    | (with_reducible first | assumption | apply keeps_setTod)
    | split | dsimp only | intro _

theorem keeps_writeTimAdj {z s : State} (h : Keeps z s) (a1 : BitVec 64) (a2 : BitVec 64) : Keeps z (State.writeTimAdj s a1 a2) := by
  unfold State.writeTimAdj
  repeat' first
    | (with_reducible first | assumption | apply keeps_plainWrite)
    | ((conv => arg 2; arg 55; skip); with_reducible first | apply keeps_mk | apply keeps_mkc)
    | split | dsimp only | intro _

theorem keeps_writeTimSet {z s : State} (h : Keeps z s) (a1 : BitVec 64) (a2 : BitVec 64) : Keeps z (State.writeTimSet s a1 a2) := by
  unfold State.writeTimSet
  repeat' first
    | (with_reducible first | assumption | apply keeps_plainWrite)
    | ((conv => arg 2; arg 55; skip); with_reducible first | apply keeps_mk | apply keeps_mkc)
    | split | dsimp only | intro _

theorem keeps_execCdrLockRegained {z s : State} (h : Keeps z s) (a0 : Fin 2) : ResKeeps z (execCdrLockRegained a0 s) := by
  unfold execCdrLockRegained
  repeat' first
    | (with_reducible first | apply resKeeps_next | assumption | apply keeps_begin | apply keeps_synceLock)
    | split | dsimp only | intro _

theorem keeps_execSynceLos {z s : State} (h : Keeps z s) (a0 : Fin 2) : ResKeeps z (execSynceLos a0 s) := by
  unfold execSynceLos
  repeat' first
    | (with_reducible first | apply resKeeps_next | assumption | apply keeps_begin | apply keeps_synceLock)
    | split | dsimp only | intro _

theorem keeps_execTodSet {z s : State} (h : Keeps z s) (a0 : Agent) (a1 : BitVec 64) : ResKeeps z (execTodSet a0 a1 s) := by
  unfold execTodSet
  repeat' first
    | (with_reducible first | apply resKeeps_next | assumption | apply keeps_writeTimSet | apply keeps_begin
                            | apply keeps_writeBy)
    | split | dsimp only | intro _

theorem keeps_execTodStep {z s : State} (h : Keeps z s) (a0 : Agent) (a1 : BitVec 64) : ResKeeps z (execTodStep a0 a1 s) := by
  unfold execTodStep
  repeat' first
    | (with_reducible first | apply resKeeps_next | assumption | apply keeps_writeTimAdj | apply keeps_begin
                            | apply keeps_writeBy)
    | split | dsimp only | intro _

theorem keeps_passClocks {z s : State} (h : Keeps z s) (a1 : ℕ) : Keeps z (State.passClocks s a1) := by
  unfold State.passClocks
  repeat' first
    | (with_reducible first | assumption | apply keeps_gaugePass | apply keeps_todClocks | apply keeps_each)
    | ((conv => arg 2; arg 55; skip); with_reducible first | apply keeps_mk | apply keeps_mkc)
    | split | dsimp only | intro _

theorem keeps_clock {z s : State} (h : Keeps z s)  : Keeps z (State.clock s) := by
  unfold State.clock
  repeat' first
    | (with_reducible first | assumption | apply keeps_passClocks | apply keeps_setFld)
    | ((conv => arg 2; arg 55; skip); with_reducible first | apply keeps_mk | apply keeps_mkc)
    | split | dsimp only | intro _

theorem keeps_edgeJournal {z s : State} (h : Keeps z s)  : Keeps z (State.edgeJournal s) := by
  unfold State.edgeJournal
  repeat' first
    | (with_reducible first | assumption)
    | ((conv => arg 2; arg 55; skip); with_reducible first | apply keeps_mk | apply keeps_mkc)
    | split | dsimp only | intro _

theorem keeps_jrnAdvance {z s : State} (h : Keeps z s)  : Keeps z (State.jrnAdvance s) := by
  unfold State.jrnAdvance
  repeat' first
    | (with_reducible first | assumption | apply keeps_setFld)
    | ((conv => arg 2; arg 55; skip); with_reducible first | apply keeps_mk | apply keeps_mkc)
    | split | dsimp only | intro _

theorem keeps_writeInject {z s : State} (h : Keeps z s) (a1 : ℕ) (a2 : BitVec 64) : Keeps z (State.writeInject s a1 a2) := by
  unfold State.writeInject
  repeat' first
    | (with_reducible first | assumption | apply keeps_faultWith | apply keeps_fault)
    | ((conv => arg 2; arg 55; skip); with_reducible first | apply keeps_mk | apply keeps_mkc)
    | split | dsimp only | intro _

theorem keeps_writeJournalCmd {z s : State} (h : Keeps z s) (a1 : BitVec 64) : Keeps z (State.writeJournalCmd s a1) := by
  unfold State.writeJournalCmd
  repeat' first
    | (with_reducible first | assumption)
    | ((conv => arg 2; arg 55; skip); with_reducible first | apply keeps_mk | apply keeps_mkc)
    | split | dsimp only | intro _

theorem keeps_execFaultConditionCleared {z s : State} (h : Keeps z s) (a0 : Fin 23) (a1 : Fin 32) (a2 : Fin 65536) : ResKeeps z (execFaultConditionCleared a0 a1 a2 s) := by
  unfold execFaultConditionCleared
  repeat' first
    | (with_reducible first | apply resKeeps_next | assumption | apply keeps_begin | apply keeps_faultEnds)
    | split | dsimp only | intro _

theorem keeps_execFaultInject {z s : State} (h : Keeps z s) (a0 : Agent) (a1 : Fin 23) (a2 : BitVec 32) : ResKeeps z (execFaultInject a0 a1 a2 s) := by
  unfold execFaultInject
  repeat' first
    | (with_reducible first | apply resKeeps_next | assumption | apply keeps_writeInject | apply keeps_begin
                            | apply keeps_writeBy)
    | split | dsimp only | intro _

theorem keeps_execJournalErase {z s : State} (h : Keeps z s) (a0 : Agent) (a1 : BitVec 32) : ResKeeps z (execJournalErase a0 a1 s) := by
  unfold execJournalErase
  repeat' first
    | (with_reducible first | apply resKeeps_next | assumption | apply keeps_writeJournalCmd | apply keeps_begin
                            | apply keeps_writeBy)
    | split | dsimp only | intro _

theorem keeps_execJournalWrite {z s : State} (h : Keeps z s)  : ResKeeps z (execJournalWrite s) := by
  unfold execJournalWrite
  repeat' first
    | (with_reducible first | apply resKeeps_next | assumption | apply keeps_jrnAdvance | apply keeps_satFld
                            | apply keeps_begin)
    | ((conv => arg 2; arg 55; skip); with_reducible first | apply keeps_mk | apply keeps_mkc)
    | split | dsimp only | intro _

theorem keeps_setCage {z s : State} (h : Keeps z s) (a1 : ℕ) (a2 : CageSt) : Keeps z (State.setCage s a1 a2) := by
  unfold State.setCage
  repeat' first
    | (with_reducible first | assumption)
    | ((conv => arg 2; arg 55; skip); with_reducible first | apply keeps_mk | apply keeps_mkc)
    | split | dsimp only | intro _

theorem keeps_putCageCtl {z s : State} (h : Keeps z s) (a1 : ℕ) (a2 : BitVec 64) : Keeps z (State.putCageCtl s a1 a2) := by
  unfold State.putCageCtl
  repeat' first
    | (with_reducible first | assumption | apply keeps_setReg | apply keeps_setCage)
    | ((conv => arg 2; arg 55; skip); with_reducible first | apply keeps_mk | apply keeps_mkc)
    | split | dsimp only | intro _

theorem keeps_putCageFld {z s : State} (h : Keeps z s) (a1 : ℕ) (a2 : Fld) (a3 : ℕ) : Keeps z (State.putCageFld s a1 a2 a3) := by
  unfold State.putCageFld
  repeat' first
    | (with_reducible first | assumption | apply keeps_setFld | apply keeps_putCageCtl)
    | split | dsimp only | intro _

theorem keeps_cageSeq {z s : State} (h : Keeps z s) (a1 : ℕ) (a2 : ℕ) : Keeps z (State.cageSeq s a1 a2) := by
  unfold State.cageSeq
  repeat' first
    | (with_reducible first | assumption | apply keeps_setFld)
    | split | dsimp only | intro _

theorem keeps_cageEvent {z s : State} (h : Keeps z s) (a1 : ℕ) (a2 : Fld) (a3 : Fld) : Keeps z (State.cageEvent s a1 a2 a3) := by
  unfold State.cageEvent
  repeat' first
    | (with_reducible first | assumption | apply keeps_notify | apply keeps_interrupt | apply keeps_setFld)
    | split | dsimp only | intro _

theorem keeps_pressButton {z s : State} (h : Keeps z s) (a1 : ℕ) : Keeps z (State.pressButton s a1) := by
  unfold State.pressButton
  repeat' first
    | (with_reducible first | assumption | apply keeps_setFld | apply keeps_putCageFld | apply keeps_cageSeq
                            | apply keeps_setCage | apply keeps_cageEvent)
    | ((conv => arg 2; arg 55; skip); with_reducible first | apply keeps_mk | apply keeps_mkc)
    | split | dsimp only | intro _

theorem keeps_acceptButton {z s : State} (h : Keeps z s) (a1 : ℕ) : Keeps z (State.acceptButton s a1) := by
  unfold State.acceptButton
  repeat' first
    | (with_reducible first | assumption | apply keeps_pressButton | apply keeps_setCage)
    | ((conv => arg 2; arg 55; skip); with_reducible first | apply keeps_mk | apply keeps_mkc)
    | split | dsimp only | intro _

theorem keeps_cagePower {z s : State} (h : Keeps z s) (a1 : ℕ) (a2 : ℕ) (a3 : ℕ) : Keeps z (State.cagePower s a1 a2 a3) := by
  unfold State.cagePower
  repeat' first
    | (with_reducible first | assumption | apply keeps_putCageFld)
    | split | dsimp only | intro _

theorem keeps_cagePowerFault {z s : State} (h : Keeps z s) (a1 : ℕ) : Keeps z (State.cagePowerFault s a1) := by
  unfold State.cagePowerFault
  repeat' first
    | (with_reducible first | assumption | apply keeps_requestBindoff | apply keeps_each | apply keeps_cagePower
                            | apply keeps_fault | apply keeps_cageEvent | apply keeps_setCage)
    | ((conv => arg 2; arg 55; skip); with_reducible first | apply keeps_mk | apply keeps_mkc)
    | split | dsimp only | intro _

theorem keeps_acceptGood {z s : State} (h : Keeps z s) (a1 : ℕ) : Keeps z (State.acceptGood s a1) := by
  unfold State.acceptGood
  repeat' first
    | (with_reducible first | assumption | apply keeps_cagePowerFault | apply keeps_setCage | apply keeps_setFld)
    | ((conv => arg 2; arg 55; skip); with_reducible first | apply keeps_mk | apply keeps_mkc)
    | split | dsimp only | intro _

theorem keeps_acceptPresence {z s : State} (h : Keeps z s) (a1 : ℕ) : Keeps z (State.acceptPresence s a1) := by
  unfold State.acceptPresence
  repeat' first
    | (with_reducible first | assumption | apply keeps_cageSeq | apply keeps_cagePower | apply keeps_cageEvent
                            | apply keeps_setCage | apply keeps_setFld)
    | ((conv => arg 2; arg 55; skip); with_reducible first | apply keeps_mk | apply keeps_mkc)
    | split | dsimp only | intro _

theorem keeps_cageFinal {z s : State} (h : Keeps z s) (a1 : ℕ) : Keeps z (State.cageFinal s a1) := by
  unfold State.cageFinal
  repeat' first
    | (with_reducible first | assumption | apply keeps_setCage | apply keeps_cageSeq | apply keeps_putCageFld
                            | apply keeps_cagePower)
    | ((conv => arg 2; arg 55; skip); with_reducible first | apply keeps_mk | apply keeps_mkc)
    | split | dsimp only | intro _

theorem keeps_captureCage {z s : State} (h : Keeps z s) (a1 : ℕ) (a2 : BitVec 4) : Keeps z (State.captureCage s a1 a2) := by
  unfold State.captureCage
  repeat' first
    | (with_reducible first | assumption | apply keeps_cageEvent | apply keeps_setFld | apply keeps_setCage)
    | ((conv => arg 2; arg 55; skip); with_reducible first | apply keeps_mk | apply keeps_mkc)
    | split | dsimp only | intro _

theorem keeps_edgeScan {z s : State} (h : Keeps z s)  : Keeps z (State.edgeScan s) := by
  unfold State.edgeScan
  repeat' first
    | (with_reducible first | assumption | apply keeps_fault | apply keeps_when | apply keeps_setFld)
    | ((conv => arg 2; arg 55; skip); with_reducible first | apply keeps_mk | apply keeps_mkc)
    | split | dsimp only | intro _

theorem keeps_edgeCages {z s : State} (h : Keeps z s) (a1 : ℕ) : Keeps z (State.edgeCages s a1) := by
  unfold State.edgeCages
  repeat' first
    | (with_reducible first | assumption | apply keeps_edgeScan)
    | ((conv => arg 2; arg 55; skip); with_reducible first | apply keeps_mk | apply keeps_mkc)
    | split | dsimp only | intro _

theorem keeps_i2cEnd {z s : State} (h : Keeps z s) (a1 : ℕ) : Keeps z (State.i2cEnd s a1) := by
  unfold State.i2cEnd
  repeat' first
    | (with_reducible first | assumption | apply keeps_setFld)
    | ((conv => arg 2; arg 55; skip); with_reducible first | apply keeps_mk | apply keeps_mkc)
    | split | dsimp only | intro _

theorem keeps_i2cFill {z s : State} (h : Keeps z s) (a1 : ℕ) (a2 : Bytes) : Keeps z (State.i2cFill s a1 a2) := by
  unfold State.i2cFill
  repeat' first
    | (with_reducible first | assumption | apply keeps_setReg | apply keeps_each)
    | split | dsimp only | intro _

theorem keeps_shiftCage {z s : State} (h : Keeps z s) (a1 : ℕ) (a2 : ℕ) (a3 : ℕ) : Keeps z (State.shiftCage s a1 a2 a3).1 := by
  unfold State.shiftCage
  repeat' first
    | (with_reducible first | assumption | apply keeps_setFld | apply keeps_setCage)
    | ((conv => arg 2; arg 55; skip); with_reducible first | apply keeps_mk | apply keeps_mkc)
    | split | dsimp only | intro _
theorem keeps_shiftCage_eq {z s t : State} {b1 : ℕ} {a1 : ℕ} {a2 : ℕ} {a3 : ℕ} (e : State.shiftCage s a1 a2 a3 = (t, b1)) (h : Keeps z s) : Keeps z t := by
  have k := keeps_shiftCage h a1 a2 a3
  rw [e] at k; exact k

theorem keeps_writeCageCtl {z s : State} (h : Keeps z s) (a1 : ℕ) (a2 : BitVec 64) (a3 : BitVec 64) : Keeps z (State.writeCageCtl s a1 a2 a3) := by
  unfold State.writeCageCtl
  repeat' first
    | (with_reducible first | assumption | apply keeps_cageSeq | apply keeps_setFld | apply keeps_putCageCtl
                            | apply keeps_setCage)
    | ((conv => arg 2; arg 55; skip); with_reducible first | apply keeps_mk | apply keeps_mkc)
    | split | dsimp only | intro _

theorem keeps_writeI2c {z s : State} (h : Keeps z s) (a1 : ℕ) (a2 : BitVec 64) (a3 : BitVec 64) : Keeps z (State.writeI2c s a1 a2 a3) := by
  unfold State.writeI2c
  repeat' first
    | (with_reducible first | assumption | apply keeps_emit | apply keeps_setFld | apply keeps_plainWrite)
    | ((conv => arg 2; arg 55; skip); with_reducible first | apply keeps_mk | apply keeps_mkc)
    | split | dsimp only | intro _

theorem keeps_execBtnWaitExpire {z s : State} (h : Keeps z s) (a0 : Fin 128) : ResKeeps z (execBtnWaitExpire a0 s) := by
  unfold execBtnWaitExpire
  repeat' first
    | (with_reducible first | apply resKeeps_next | assumption | apply keeps_cagePower | apply keeps_requestBindoff
                            | apply keeps_cageSeq | apply keeps_each | apply keeps_setCage | apply keeps_begin)
    | ((conv => arg 2; arg 55; skip); with_reducible first | apply keeps_mk | apply keeps_mkc)
    | split | dsimp only | intro _

theorem keeps_execCageBindoffDone {z s : State} (h : Keeps z s) (a0 : Fin 128) : ResKeeps z (execCageBindoffDone a0 s) := by
  unfold execCageBindoffDone
  repeat' first
    | (with_reducible first | apply resKeeps_next | assumption | apply keeps_cageFinal | apply keeps_begin)
    | split | dsimp only | intro _

theorem keeps_execCageCtlWrite {z s : State} (h : Keeps z s) (a0 : Agent) (a1 : Fin 128) (a2 : BitVec 32) : ResKeeps z (execCageCtlWrite a0 a1 a2 s) := by
  unfold execCageCtlWrite
  repeat' first
    | (with_reducible first | apply resKeeps_next | assumption | apply keeps_writeCageCtl | apply keeps_begin
                            | apply keeps_writeBy)
    | split | dsimp only | intro _

theorem keeps_execCageInputAccepted {z s : State} (h : Keeps z s) (a0 : Fin 128) (a1 : CageInput) : ResKeeps z (execCageInputAccepted a0 a1 s) := by
  unfold execCageInputAccepted
  repeat' first
    | (with_reducible first | apply resKeeps_next | assumption | apply keeps_acceptGood | apply keeps_acceptButton
                            | apply keeps_acceptPresence | apply keeps_begin)
    | ((conv => arg 2; arg 55; skip); with_reducible first | apply keeps_mk | apply keeps_mkc)
    | split | dsimp only | intro _

theorem keeps_execCmbScanFrame {z s : State} (h : Keeps z s) (a0 : List (BitVec 4)) : ResKeeps z (execCmbScanFrame a0 s) := by
  unfold execCmbScanFrame
  repeat' first
    | (with_reducible first | apply resKeeps_next | assumption | apply keeps_setFld | apply keeps_emit
                            | apply keeps_captureCage | apply keeps_each | apply keeps_shiftCage
                            | refine keeps_shiftCage_eq (by assumption) ?_ | apply keeps_begin | apply keeps_foldl
                            | apply keeps_foldl_fst | apply keeps_foldl_snd | apply keeps_foldl_mid)
    | ((conv => arg 2; arg 55; skip); with_reducible first | apply keeps_mk | apply keeps_mkc)
    | split | dsimp only | intro _

theorem keeps_execI2cDone {z s : State} (h : Keeps z s) (a0 : Fin 8) (a1 : Bool) (a2 : Bytes) : ResKeeps z (execI2cDone a0 a1 a2 s) := by
  unfold execI2cDone
  repeat' first
    | (with_reducible first | apply resKeeps_next | assumption | apply keeps_i2cFill | apply keeps_i2cEnd
                            | apply keeps_setFld | apply keeps_begin)
    | split | dsimp only | intro _

theorem keeps_execI2cGo {z s : State} (h : Keeps z s) (a0 : Agent) (a1 : Fin 8) (a2 : BitVec 32) : ResKeeps z (execI2cGo a0 a1 a2 s) := by
  unfold execI2cGo
  repeat' first
    | (with_reducible first | apply resKeeps_next | assumption | apply keeps_writeI2c | apply keeps_begin
                            | apply keeps_writeBy)
    | split | dsimp only | intro _

theorem keeps_execI2cTimeout {z s : State} (h : Keeps z s) (a0 : Fin 8) : ResKeeps z (execI2cTimeout a0 s) := by
  unfold execI2cTimeout
  repeat' first
    | (with_reducible first | apply resKeeps_next | assumption | apply keeps_i2cEnd | apply keeps_setFld
                            | apply keeps_fault | apply keeps_begin)
    | split | dsimp only | intro _

theorem keeps_copySets {z s : State} (h : Keeps z s) (a1 : ℕ) (a2 : ℕ) : Keeps z (State.copySets s a1 a2) := by
  unfold State.copySets
  repeat' first
    | (with_reducible first | assumption | apply keeps_setReg | apply keeps_each)
    | split | dsimp only | intro _

theorem keeps_setHbc {z s : State} (h : Keeps z s) (a1 : ℕ) (a2 : HbcSt) : Keeps z (State.setHbc s a1 a2) := by
  unfold State.setHbc
  repeat' first
    | (with_reducible first | assumption)
    | ((conv => arg 2; arg 55; skip); with_reducible first | apply keeps_mk | apply keeps_mkc)
    | split | dsimp only | intro _

theorem keeps_quiesce {z s : State} (h : Keeps z s) (a1 : ℕ) : Keeps z (State.quiesce s a1) := by
  unfold State.quiesce
  repeat' first
    | (with_reducible first | assumption | apply keeps_setFld)
    | split | dsimp only | intro _

theorem keeps_startChange {z s : State} (h : Keeps z s) (a1 : ℕ) (a2 : ℕ) : Keeps z (State.startChange s a1 a2) := by
  unfold State.startChange
  repeat' first
    | (with_reducible first | assumption | apply keeps_setHbc | apply keeps_quiesce | apply keeps_setFld)
    | ((conv => arg 2; arg 55; skip); with_reducible first | apply keeps_mk | apply keeps_mkc)
    | split | dsimp only | intro _

theorem keeps_decideSpeed {z s : State} (h : Keeps z s) (a1 : ℕ) (a2 : ℕ) : Keeps z (State.decideSpeed s a1 a2) := by
  unfold State.decideSpeed
  repeat' first
    | (with_reducible first | assumption | apply keeps_setFld | apply keeps_startChange)
    | split | dsimp only | intro _

theorem keeps_dropSpilled {z s : State} (h : Keeps z s) (a1 : ℕ) : Keeps z (State.dropSpilled s a1) := by
  unfold State.dropSpilled
  repeat' first
    | (with_reducible first | assumption | apply keeps_setQueue | apply keeps_setBuf | apply keeps_flushCopies
                            | apply keeps_sknCount)
    | ((conv => arg 2; arg 55; skip); with_reducible first | apply keeps_mk | apply keeps_mkc)
    | split | dsimp only | intro _

theorem keeps_startWake {z s : State} (h : Keeps z s) (a1 : ℕ) : Keeps z (State.startWake s a1) := by
  unfold State.startWake
  repeat' first
    | (with_reducible first | assumption | apply keeps_setFld | apply keeps_emit | apply keeps_setHbc)
    | ((conv => arg 2; arg 55; skip); with_reducible first | apply keeps_mk | apply keeps_mkc)
    | split | dsimp only | intro _

theorem keeps_edgeStack {z s : State} (h : Keeps z s) (a1 : ℕ) : Keeps z (State.edgeStack s a1) := by
  unfold State.edgeStack
  repeat' first
    | (with_reducible first | assumption | apply keeps_startChange | apply keeps_startWake | apply keeps_decideSpeed
                            | apply keeps_setHbc)
    | ((conv => arg 2; arg 55; skip); with_reducible first | apply keeps_mk | apply keeps_mkc)
    | split | dsimp only | intro _

theorem keeps_edgeWindows {z s : State} (h : Keeps z s)  : Keeps z (State.edgeWindows s) := by
  unfold State.edgeWindows
  repeat' first
    | (with_reducible first | assumption | apply keeps_setHbc | apply keeps_each)
    | ((conv => arg 2; arg 55; skip); with_reducible first | apply keeps_mk | apply keeps_mkc)
    | split | dsimp only | intro _

theorem keeps_edgeHbc {z s : State} (h : Keeps z s)  : Keeps z (State.edgeHbc s) := by
  unfold State.edgeHbc
  repeat' first
    | (with_reducible first | assumption | apply keeps_edgeStack | apply keeps_edgeWindows | apply keeps_each)
    | split | dsimp only | intro _

theorem keeps_endRest {z s : State} (h : Keeps z s) (a1 : ℕ) (a2 : ℕ) : Keeps z (State.endRest s a1 a2) := by
  unfold State.endRest
  repeat' first
    | (with_reducible first | assumption | apply keeps_setFld | apply keeps_setHbc)
    | ((conv => arg 2; arg 55; skip); with_reducible first | apply keeps_mk | apply keeps_mkc)
    | split | dsimp only | intro _

theorem keeps_hbcCondition {z s : State} (h : Keeps z s) (a1 : ℕ) (a2 : ℕ) (a3 : Bool) (a4 : Bool) : Keeps z (State.hbcCondition s a1 a2 a3 a4) := by
  unfold State.hbcCondition
  repeat' first
    | (with_reducible first | assumption | apply keeps_faultEnds | apply keeps_faultLasting)
    | split | dsimp only | intro _

theorem keeps_policyRestart {z s : State} (h : Keeps z s) (a1 : ℕ) : Keeps z (State.policyRestart s a1) := by
  unfold State.policyRestart
  repeat' first
    | (with_reducible first | assumption | apply keeps_setHbc)
    | ((conv => arg 2; arg 55; skip); with_reducible first | apply keeps_mk | apply keeps_mkc)
    | split | dsimp only | intro _

theorem keeps_resumeChange {z s : State} (h : Keeps z s) (a1 : ℕ) : Keeps z (State.resumeChange s a1) := by
  unfold State.resumeChange
  repeat' first
    | (with_reducible first | assumption | apply keeps_bump | apply keeps_interrupt | apply keeps_policyRestart
                            | apply keeps_setFld)
    | split | dsimp only | intro _

theorem keeps_selfRefresh {z s : State} (h : Keeps z s) (a1 : ℕ) : Keeps z (State.selfRefresh s a1) := by
  unfold State.selfRefresh
  repeat' first
    | (with_reducible first | assumption | apply keeps_setHbc | apply keeps_emit)
    | ((conv => arg 2; arg 55; skip); with_reducible first | apply keeps_mk | apply keeps_mkc)
    | split | dsimp only | intro _

theorem keeps_stackFailed {z s : State} (h : Keeps z s) (a1 : ℕ) : Keeps z (State.stackFailed s a1) := by
  unfold State.stackFailed
  repeat' first
    | (with_reducible first | assumption | apply keeps_dropSpilled | apply keeps_each | apply keeps_fault
                            | apply keeps_setFld)
    | split | dsimp only | intro _

theorem keeps_startRest {z s : State} (h : Keeps z s) (a1 : ℕ) : Keeps z (State.startRest s a1) := by
  unfold State.startRest
  repeat' first
    | (with_reducible first | assumption | apply keeps_quiesce | apply keeps_setHbc)
    | ((conv => arg 2; arg 55; skip); with_reducible first | apply keeps_mk | apply keeps_mkc)
    | split | dsimp only | intro _

theorem keeps_writeHbcSet {z s : State} (h : Keeps z s) (a1 : Reg) (a2 : ℕ) (a3 : ℕ) (a4 : ℕ) (a5 : BitVec 64) (a6 : BitVec 64) : Keeps z (State.writeHbcSet s a1 a2 a3 a4 a5 a6) := by
  unfold State.writeHbcSet
  repeat' first
    | (with_reducible first | assumption | apply keeps_plainWrite | apply keeps_setFld)
    | split | dsimp only | intro _

theorem keeps_writeSpeedCmd {z s : State} (h : Keeps z s) (a1 : ℕ) (a2 : BitVec 64) (a3 : BitVec 64) : Keeps z (State.writeSpeedCmd s a1 a2 a3) := by
  unfold State.writeSpeedCmd
  repeat' first
    | (with_reducible first | assumption | apply keeps_setHbc | apply keeps_plainWrite)
    | ((conv => arg 2; arg 55; skip); with_reducible first | apply keeps_mk | apply keeps_mkc)
    | split | dsimp only | intro _

theorem keeps_execHbmTempRead {z s : State} (h : Keeps z s) (a0 : Fin 4) (a1 : BitVec 8) : ResKeeps z (execHbmTempRead a0 a1 s) := by
  unfold execHbmTempRead
  repeat' first
    | (with_reducible first | apply resKeeps_next | assumption | apply keeps_hbcCondition | apply keeps_setHbc
                            | apply keeps_setFld | apply keeps_begin)
    | ((conv => arg 2; arg 55; skip); with_reducible first | apply keeps_mk | apply keeps_mkc)
    | split | dsimp only | intro _

theorem keeps_execRefresh {z s : State} (h : Keeps z s) (a0 : Fin 4) (a1 : List (Fin 32 × Fin 256)) : ResKeeps z (execRefresh a0 a1 s) := by
  unfold execRefresh
  repeat' first
    | (with_reducible first | apply resKeeps_next | assumption | apply keeps_emit | apply keeps_setHbc
                            | apply keeps_bump | apply keeps_begin | apply keeps_foldl | apply keeps_foldl_fst
                            | apply keeps_foldl_snd | apply keeps_foldl_mid)
    | ((conv => arg 2; arg 55; skip); with_reducible first | apply keeps_mk | apply keeps_mkc)
    | split | dsimp only | intro _

theorem keeps_execSpeedCommand {z s : State} (h : Keeps z s) (a0 : Agent) (a1 : Fin 4) (a2 : BitVec 32) : ResKeeps z (execSpeedCommand a0 a1 a2 s) := by
  unfold execSpeedCommand
  repeat' first
    | (with_reducible first | apply resKeeps_next | assumption | apply keeps_writeSpeedCmd | apply keeps_begin
                            | apply keeps_writeBy)
    | split | dsimp only | intro _

theorem keeps_execSpeedPolicyWindow {z s : State} (h : Keeps z s) (a0 : Fin 2) (a1 : ℕ) : ResKeeps z (execSpeedPolicyWindow a0 a1 s) := by
  unfold execSpeedPolicyWindow
  repeat' first
    | (with_reducible first | apply resKeeps_next | assumption | apply keeps_startChange | apply keeps_each
                            | apply keeps_setHbc | apply keeps_begin)
    | ((conv => arg 2; arg 55; skip); with_reducible first | apply keeps_mk | apply keeps_mkc)
    | split | dsimp only | intro _

theorem keeps_execSpeedStep {z s : State} (h : Keeps z s) (a0 : Fin 4) : ResKeeps z (execSpeedStep a0 s) := by
  unfold execSpeedStep
  repeat' first
    | (with_reducible first | apply resKeeps_next | assumption | apply keeps_resumeChange | apply keeps_emit
                            | apply keeps_copySets | apply keeps_endRest | apply keeps_selfRefresh | apply keeps_setFld
                            | apply keeps_setHbc | apply keeps_begin)
    | ((conv => arg 2; arg 55; skip); with_reducible first | apply keeps_mk | apply keeps_mkc)
    | split | dsimp only | intro _

theorem keeps_execSpeedStepTimeout {z s : State} (h : Keeps z s) (a0 : Fin 4) : ResKeeps z (execSpeedStepTimeout a0 s) := by
  unfold execSpeedStepTimeout
  repeat' first
    | (with_reducible first | apply resKeeps_next | assumption | apply keeps_setHbc | apply keeps_selfRefresh
                            | apply keeps_bump | apply keeps_interrupt | apply keeps_fault | apply keeps_setFld
                            | apply keeps_stackFailed | apply keeps_begin)
    | ((conv => arg 2; arg 55; skip); with_reducible first | apply keeps_mk | apply keeps_mkc)
    | split | dsimp only | intro _

end Sys2Proof.Machine
end

