-- ==== Sys2Proof/Laws/KeepsC.lean ====
section
/-! SUPPORT. One lemma `keeps_<name>` for each operation and each meaning of: Learn, Msec, Merge, Mac, LinkState, Tick, Pcie, Power, Boot. -/

set_option maxRecDepth 4000
set_option linter.unusedTactic false
set_option linter.unreachableTactic false

open Host

namespace Sys2Proof.Machine

theorem keeps_lkpNotify {z s : State} (h : Keeps z s) (a1 : ℕ) (a2 : ℕ) (a3 : ℕ) (a4 : Bytes) : Keeps z (State.lkpNotify s a1 a2 a3 a4) := by
  unfold State.lkpNotify
  repeat' first
    | (with_reducible first | assumption | apply keeps_notify | apply keeps_lkpCount)
    | split | dsimp only | intro _

theorem keeps_judge {z s : State} (h : Keeps z s) (a1 : ℕ) (a2 : ℕ) (a3 : ℕ) : Keeps z (State.judge s a1 a2 a3) := by
  unfold State.judge
  repeat' first
    | (with_reducible first | assumption | apply keeps_setLearning | apply keeps_lkpNotify | apply keeps_lkpCount
                            | apply keeps_setTabs)
    | ((conv => arg 2; arg 55; skip); with_reducible first | apply keeps_mk | apply keeps_mkc)
    | split | dsimp only | intro _

theorem keeps_ageSlice {z s : State} (h : Keeps z s) (a1 : ℕ) (a2 : ℕ) : Keeps z (State.ageSlice s a1 a2) := by
  unfold State.ageSlice
  repeat' first
    | (with_reducible first | assumption | apply keeps_setLearning | apply keeps_judge | apply keeps_foldl
                            | apply keeps_foldl_fst | apply keeps_foldl_snd | apply keeps_foldl_mid)
    | ((conv => arg 2; arg 55; skip); with_reducible first | apply keeps_mk | apply keeps_mkc)
    | split | dsimp only | intro _

theorem keeps_noteMove {z s : State} (h : Keeps z s) (a1 : ℕ) (a2 : ℕ) (a3 : ℕ) (a4 : ℕ) (a5 : Bytes) : Keeps z (State.noteMove s a1 a2 a3 a4 a5) := by
  unfold State.noteMove
  repeat' first
    | (with_reducible first | assumption | apply keeps_setLearning)
    | ((conv => arg 2; arg 55; skip); with_reducible first | apply keeps_mk | apply keeps_mkc)
    | split | dsimp only | intro _

theorem keeps_runPath {z s : State} (h : Keeps z s) (a1 : ℕ) (a2 : ℕ) (a3 : List ℕ) (a4 : HEnt) : Keeps z (State.runPath s a1 a2 a3 a4) := by
  unfold State.runPath
  repeat' first
    | (with_reducible first | assumption | apply keeps_setTabs | apply keeps_lkpCount | apply keeps_setLearning
                            | apply keeps_noteMove | apply keeps_foldl | apply keeps_foldl_fst | apply keeps_foldl_snd
                            | apply keeps_foldl_mid)
    | ((conv => arg 2; arg 55; skip); with_reducible first | apply keeps_mk | apply keeps_mkc)
    | split | dsimp only | intro _

theorem keeps_applyPlan {z s : State} (h : Keeps z s) (a1 : ℕ) (a2 : LPlan) (a3 : ℕ) : Keeps z (State.applyPlan s a1 a2 a3) := by
  unfold State.applyPlan
  repeat' first
    | (with_reducible first | assumption | apply keeps_setLearning | apply keeps_setStat | apply keeps_runPath
                            | apply keeps_lkpCount)
    | ((conv => arg 2; arg 55; skip); with_reducible first | apply keeps_mk | apply keeps_mkc)
    | split | dsimp only | intro _

theorem keeps_sessionEnd {z s : State} (h : Keeps z s) (a1 : ℕ) (a2 : HEnt) : Keeps z (State.sessionEnd s a1 a2) := by
  unfold State.sessionEnd
  repeat' first
    | (with_reducible first | assumption | apply keeps_lkpNotify | apply keeps_setLearning)
    | ((conv => arg 2; arg 55; skip); with_reducible first | apply keeps_mk | apply keeps_mkc)
    | split | dsimp only | intro _

theorem keeps_deleteEntry {z s : State} (h : Keeps z s) (a1 : ℕ) (a2 : ℕ) (a3 : ℕ) : Keeps z (State.deleteEntry s a1 a2 a3) := by
  unfold State.deleteEntry
  repeat' first
    | (with_reducible first | assumption | apply keeps_sessionEnd | apply keeps_setLearning | apply keeps_setTabs)
    | ((conv => arg 2; arg 55; skip); with_reducible first | apply keeps_mk | apply keeps_mkc)
    | split | dsimp only | intro _

theorem keeps_flushStart {z s : State} (h : Keeps z s) (a1 : ℕ) : Keeps z (State.flushStart s a1) := by
  unfold State.flushStart
  repeat' first
    | (with_reducible first | assumption | apply keeps_setLearning)
    | ((conv => arg 2; arg 55; skip); with_reducible first | apply keeps_mk | apply keeps_mkc)
    | split | dsimp only | intro _

theorem keeps_queueFlush {z s : State} (h : Keeps z s) (a1 : Flush) (a2 : Bool) (a3 : ℕ) : Keeps z (State.queueFlush s a1 a2 a3).1 := by
  unfold State.queueFlush
  repeat' first
    | (with_reducible first | assumption | apply keeps_setLearning)
    | ((conv => arg 2; arg 55; skip); with_reducible first | apply keeps_mk | apply keeps_mkc)
    | split | dsimp only | intro _
theorem keeps_queueFlush_eq {z s t : State} {b1 : Bool} {a1 : Flush} {a2 : Bool} {a3 : ℕ} (e : State.queueFlush s a1 a2 a3 = (t, b1)) (h : Keeps z s) : Keeps z t := by
  have k := keeps_queueFlush h a1 a2 a3
  rw [e] at k; exact k

theorem keeps_startFlush {z s : State} (h : Keeps z s) (a1 : ℕ) (a2 : ℕ) (a3 : Bool) (a4 : ℕ) (a5 : Option ℕ) (a6 : Bool) : Keeps z (State.startFlush s a1 a2 a3 a4 a5 a6) := by
  unfold State.startFlush
  repeat' first
    | (with_reducible first | assumption | apply keeps_queueFlush | refine keeps_queueFlush_eq (by assumption) ?_)
    | ((conv => arg 2; arg 55; skip); with_reducible first | apply keeps_mk | apply keeps_mkc)
    | split | dsimp only | intro _

theorem keeps_flushSlice {z s : State} (h : Keeps z s) (a1 : ℕ) : Keeps z (State.flushSlice s a1) := by
  unfold State.flushSlice
  repeat' first
    | (with_reducible first | assumption | apply keeps_setLearning)
    | ((conv => arg 2; arg 55; skip); with_reducible first | apply keeps_mk | apply keeps_mkc)
    | split | dsimp only | intro _

theorem keeps_edgeLearn {z s : State} (h : Keeps z s) (a1 : Bool) : Keeps z (State.edgeLearn s a1) := by
  unfold State.edgeLearn
  repeat' first
    | (with_reducible first | assumption | apply keeps_setLearning | apply keeps_flushStart | apply keeps_startFlush
                            | apply keeps_each | apply keeps_flushSlice | apply keeps_ageSlice)
    | ((conv => arg 2; arg 55; skip); with_reducible first | apply keeps_mk | apply keeps_mkc)
    | split | dsimp only | intro _

theorem keeps_edgeSeeds {z s : State} (h : Keeps z s)  : Keeps z (State.edgeSeeds s) := by
  unfold State.edgeSeeds
  repeat' first
    | (with_reducible first | assumption | apply keeps_setTabs | apply keeps_foldl | apply keeps_foldl_fst
                            | apply keeps_foldl_snd | apply keeps_foldl_mid)
    | ((conv => arg 2; arg 55; skip); with_reducible first | apply keeps_mk | apply keeps_mkc)
    | split | dsimp only | intro _

theorem keeps_edgeStamps {z s : State} (h : Keeps z s) (a1 : BitVec 64) : Keeps z (State.edgeStamps s a1) := by
  unfold State.edgeStamps
  repeat' first
    | (with_reducible first | assumption | apply keeps_setTabs | apply keeps_foldl | apply keeps_foldl_fst
                            | apply keeps_foldl_snd | apply keeps_foldl_mid)
    | ((conv => arg 2; arg 55; skip); with_reducible first | apply keeps_mk | apply keeps_mkc)
    | split | dsimp only | intro _

theorem keeps_learnFail {z s : State} (h : Keeps z s) (a1 : ℕ) (a2 : LEvent) (a3 : Bool) : Keeps z (State.learnFail s a1 a2 a3) := by
  unfold State.learnFail
  repeat' first
    | (with_reducible first | assumption | apply keeps_setLearning | apply keeps_lkpNotify | apply keeps_lkpCount)
    | ((conv => arg 2; arg 55; skip); with_reducible first | apply keeps_mk | apply keeps_mkc)
    | split | dsimp only | intro _

theorem keeps_retryDone {z s : State} (h : Keeps z s) (a1 : ℕ) (a2 : LEvent) (a3 : Bool) : Keeps z (State.retryDone s a1 a2 a3) := by
  unfold State.retryDone
  repeat' first
    | (with_reducible first | assumption | apply keeps_setLearning | apply keeps_when)
    | split | dsimp only | intro _

theorem keeps_handleEvent {z s : State} (h : Keeps z s) (a1 : ℕ) (a2 : LEvent) (a3 : Bool) : Keeps z (State.handleEvent s a1 a2 a3) := by
  unfold State.handleEvent
  repeat' first
    | (with_reducible first | assumption | apply keeps_setLearning | apply keeps_learnFail | apply keeps_lkpCount
                            | apply keeps_retryDone)
    | ((conv => arg 2; arg 55; skip); with_reducible first | apply keeps_mk | apply keeps_mkc)
    | split | dsimp only | intro _

theorem keeps_sweepEnd {z s : State} (h : Keeps z s) (a1 : ℕ) : Keeps z (State.sweepEnd s a1) := by
  unfold State.sweepEnd
  repeat' first
    | (with_reducible first | assumption | apply keeps_setLearning)
    | ((conv => arg 2; arg 55; skip); with_reducible first | apply keeps_mk | apply keeps_mkc)
    | split | dsimp only | intro _

theorem keeps_roomFlush {z : State} (d n : Nat) (r : Room) (h : Keeps z r.1) : Keeps z (Room.flush d n r).1 := by
  induction n generalizing r with
  | zero => exact h
  | succ n ih =>
    unfold Room.flush
    dsimp only [Room.take]
    repeat' first
      | (with_reducible assumption)
      | (with_reducible apply ih)
      | (with_reducible apply keeps_setLearning)
      | (with_reducible apply keeps_lkpCount)
      | (with_reducible apply keeps_deleteEntry)
      | (split)
      | (dsimp only)

theorem keeps_roomAge {z : State} (d n : Nat) (r : Room) (h : Keeps z r.1) : Keeps z (Room.age d n r).1 := by
  induction n generalizing r with
  | zero => exact h
  | succ n ih =>
    unfold Room.age
    dsimp only [Room.take]
    repeat' first
      | (with_reducible assumption)
      | (with_reducible apply ih)
      | (with_reducible apply keeps_setLearning)
      | (with_reducible apply keeps_lkpCount)
      | (with_reducible apply keeps_deleteEntry)
      | (split)
      | (dsimp only)

theorem keeps_roomLearn {z : State} (d n : Nat) (r : Room) (h : Keeps z r.1) : Keeps z (Room.learn d n r).1 := by
  induction n generalizing r with
  | zero => exact h
  | succ n ih =>
    unfold Room.learn
    dsimp only [Room.take]
    have h1 : ∀ b : Bool, ∀ l : LearnSt, Keeps z (if b = true then r.1.setLearning d l else (r.1.setLearning d l).lkpCount d 8 1) := by
      intro b l
      split
      · exact keeps_setLearning h _ _
      · exact keeps_lkpCount (keeps_setLearning h _ _) _ _ _
    repeat' first
      | (with_reducible assumption)
      | (with_reducible apply h1)
      | (with_reducible apply ih)
      | (with_reducible apply keeps_setLearning)
      | (with_reducible apply keeps_lkpCount)
      | (with_reducible apply keeps_learnFail)
      | (with_reducible apply keeps_retryDone)
      | (with_reducible apply keeps_applyPlan)
      | ((conv => arg 2; arg 55; skip); with_reducible apply keeps_mk)
      | (split)
      | (dsimp only)

theorem keeps_hwWrites {z s : State} (h : Keeps z s) : Keeps z s.hwWrites := by
  unfold State.hwWrites
  refine keeps_mk (x := State.sweepEnd (State.sweepEnd _ 0) 1) ?_
  dsimp only
  repeat' first
    | (with_reducible assumption)
    | (with_reducible apply keeps_sweepEnd)
    | (with_reducible apply keeps_gauge_now)
    | (with_reducible apply keeps_roomLearn)
    | (with_reducible apply keeps_roomAge)
    | (with_reducible apply keeps_roomFlush)

theorem keeps_writeSeed {z s : State} (h : Keeps z s) (a1 : ℕ) (a2 : ℕ) (a3 : ℕ) (a4 : BitVec 64) (a5 : BitVec 64) : Keeps z (State.writeSeed s a1 a2 a3 a4 a5) := by
  unfold State.writeSeed
  repeat' first
    | (with_reducible first | assumption | apply keeps_setFld | apply keeps_plainWrite)
    | split | dsimp only | intro _

theorem keeps_execHashSeedWrite {z s : State} (h : Keeps z s) (a0 : Agent) (a1 : Fin 2) (a2 : Fin 3) (a3 : Fin 2) (a4 : BitVec 32) : ResKeeps z (execHashSeedWrite a0 a1 a2 a3 a4 s) := by
  unfold execHashSeedWrite
  repeat' first
    | (with_reducible first | apply resKeeps_next | assumption | apply keeps_writeSeed | apply keeps_begin
                            | apply keeps_writeBy)
    | split | dsimp only | intro _

theorem keeps_execHwWritesApply {z s : State} (h : Keeps z s)  : ResKeeps z (execHwWritesApply s) := by
  unfold execHwWritesApply
  repeat' first
    | (with_reducible first | apply resKeeps_next | assumption | apply keeps_hwWrites | apply keeps_begin)
    | split | dsimp only | intro _

theorem keeps_execLearnPlan {z s : State} (h : Keeps z s) (a0 : Fin 2) : ResKeeps z (execLearnPlan a0 s) := by
  unfold execLearnPlan
  repeat' first
    | (with_reducible first | apply resKeeps_next | assumption | apply keeps_handleEvent | apply keeps_lkpNotify
                            | apply keeps_setLearning | apply keeps_begin)
    | ((conv => arg 2; arg 55; skip); with_reducible first | apply keeps_mk | apply keeps_mkc)
    | split | dsimp only | intro _

theorem keeps_execRetryReplan {z s : State} (h : Keeps z s) (a0 : Fin 2) : ResKeeps z (execRetryReplan a0 s) := by
  unfold execRetryReplan
  repeat' first
    | (with_reducible first | apply resKeeps_next | assumption | apply keeps_handleEvent | apply keeps_setLearning
                            | apply keeps_begin | apply keeps_foldl | apply keeps_foldl_fst | apply keeps_foldl_snd
                            | apply keeps_foldl_mid)
    | ((conv => arg 2; arg 55; skip); with_reducible first | apply keeps_mk | apply keeps_mkc)
    | split | dsimp only | intro _

theorem keeps_zeroStaging {z s : State} (h : Keeps z s) (a1 : ℕ) : Keeps z (State.zeroStaging s a1) := by
  unfold State.zeroStaging
  repeat' first
    | (with_reducible first | assumption | apply keeps_setReg | apply keeps_each)
    | split | dsimp only | intro _

theorem keeps_loadKey {z s : State} (h : Keeps z s) (a1 : ℕ) : Keeps z (State.loadKey s a1) := by
  unfold State.loadKey
  repeat' first
    | (with_reducible first | assumption | apply keeps_setFld | apply keeps_zeroStaging)
    | ((conv => arg 2; arg 55; skip); with_reducible first | apply keeps_mk | apply keeps_mkc)
    | split | dsimp only | intro _

theorem keeps_secyCount {z s : State} (h : Keeps z s) (a1 : ℕ) (a2 : ℕ) : Keeps z (State.secyCount s a1 a2) := by
  unfold State.secyCount
  repeat' first
    | (with_reducible first | assumption | apply keeps_bump)
    | split | dsimp only | intro _

theorem keeps_secyReceive {z s : State} (h : Keeps z s) (a1 : ℕ) (a2 : Bytes) : Keeps z (State.secyReceive s a1 a2).2 := by
  unfold State.secyReceive
  repeat' first
    | (with_reducible first | assumption | apply keeps_setReg | apply keeps_secyCount)
    | ((conv => arg 2; arg 55; skip); with_reducible first | apply keeps_mk | apply keeps_mkc)
    | split | dsimp only | intro _
theorem keeps_secyReceive_eq {z s t : State} {b0 : Option Bytes} {a1 : ℕ} {a2 : Bytes} (e : State.secyReceive s a1 a2 = (b0, t)) (h : Keeps z s) : Keeps z t := by
  have k := keeps_secyReceive h a1 a2
  rw [e] at k; exact k

theorem keeps_usePn {z s : State} (h : Keeps z s) (a1 : ℕ) (a2 : ℕ) : Keeps z (State.usePn s a1 a2) := by
  unfold State.usePn
  repeat' first
    | (with_reducible first | assumption | apply keeps_fault | apply keeps_setFld | apply keeps_setReg)
    | split | dsimp only | intro _

theorem keeps_secySend {z s : State} (h : Keeps z s) (a1 : ℕ) (a2 : Bytes) : Keeps z (State.secySend s a1 a2).2 := by
  unfold State.secySend
  repeat' first
    | (with_reducible first | assumption | apply keeps_usePn | apply keeps_secyCount)
    | ((conv => arg 2; arg 55; skip); with_reducible first | apply keeps_mk | apply keeps_mkc)
    | split | dsimp only | intro _
theorem keeps_secySend_eq {z s t : State} {b0 : Option Bytes} {a1 : ℕ} {a2 : Bytes} (e : State.secySend s a1 a2 = (b0, t)) (h : Keeps z s) : Keeps z t := by
  have k := keeps_secySend h a1 a2
  rw [e] at k; exact k

theorem keeps_zeroKey {z s : State} (h : Keeps z s) (a1 : ℕ) : Keeps z (State.zeroKey s a1) := by
  unfold State.zeroKey
  repeat' first
    | (with_reducible first | assumption | apply keeps_setFld)
    | ((conv => arg 2; arg 55; skip); with_reducible first | apply keeps_mk | apply keeps_mkc)
    | split | dsimp only | intro _

theorem keeps_writeSaCtl {z s : State} (h : Keeps z s) (a1 : ℕ) (a2 : BitVec 64) (a3 : BitVec 64) : Keeps z (State.writeSaCtl s a1 a2 a3) := by
  unfold State.writeSaCtl
  repeat' first
    | (with_reducible first | assumption | apply keeps_loadKey | apply keeps_setFld | apply keeps_zeroKey
                            | apply keeps_plainWrite)
    | split | dsimp only | intro _

theorem keeps_zeroOctet {z s : State} (h : Keeps z s) (a1 : ℕ) (a2 : Bool) : Keeps z (State.zeroOctet s a1 a2) := by
  unfold State.zeroOctet
  repeat' first
    | (with_reducible first | assumption | apply keeps_setFld | apply keeps_zeroKey | apply keeps_each
                            | apply keeps_zeroStaging)
    | split | dsimp only | intro _

theorem keeps_execKeyLoad {z s : State} (h : Keeps z s) (a0 : Agent) (a1 : Fin 1024) (a2 : BitVec 32) : ResKeeps z (execKeyLoad a0 a1 a2 s) := by
  unfold execKeyLoad
  repeat' first
    | (with_reducible first | apply resKeeps_next | assumption | apply keeps_writeSaCtl | apply keeps_begin
                            | apply keeps_writeBy)
    | split | dsimp only | intro _

theorem keeps_execSaDisable {z s : State} (h : Keeps z s) (a0 : Agent) (a1 : Fin 1024) (a2 : BitVec 32) : ResKeeps z (execSaDisable a0 a1 a2 s) := by
  unfold execSaDisable
  repeat' first
    | (with_reducible first | apply resKeeps_next | assumption | apply keeps_writeSaCtl | apply keeps_begin
                            | apply keeps_writeBy)
    | split | dsimp only | intro _

theorem keeps_resolveRead {z s : State} (h : Keeps z s) (a1 : ℕ) (a2 : ℕ) (a3 : ℕ) (a4 : ℕ) (a5 : Bool) : Keeps z (State.resolveRead s a1 a2 a3 a4 a5).2 := by
  unfold State.resolveRead
  repeat' first
    | (with_reducible first | assumption | apply keeps_fault)
    | split | dsimp only | intro _
theorem keeps_resolveRead_eq {z s t : State} {b0 : Option DEnt} {a1 : ℕ} {a2 : ℕ} {a3 : ℕ} {a4 : ℕ} {a5 : Bool} (e : State.resolveRead s a1 a2 a3 a4 a5 = (b0, t)) (h : Keeps z s) : Keeps z t := by
  have k := keeps_resolveRead h a1 a2 a3 a4 a5
  rw [e] at k; exact k

theorem keeps_nexthop {z s : State} (h : Keeps z s) (a1 : ℕ) (a2 : ℕ) (a3 : ℕ) (a4 : ℕ) (a5 : Bool) : Keeps z (State.nexthop s a1 a2 a3 a4 a5).2 := by
  unfold State.nexthop
  repeat' first
    | (with_reducible first | assumption | apply keeps_resolveRead | refine keeps_resolveRead_eq (by assumption) ?_)
    | ((conv => arg 2; arg 55; skip); with_reducible first | apply keeps_mk | apply keeps_mkc)
    | split | dsimp only | intro _
theorem keeps_nexthop_eq {z s t : State} {b0 : Target} {a1 : ℕ} {a2 : ℕ} {a3 : ℕ} {a4 : ℕ} {a5 : Bool} (e : State.nexthop s a1 a2 a3 a4 a5 = (b0, t)) (h : Keeps z s) : Keeps z t := by
  have k := keeps_nexthop h a1 a2 a3 a4 a5
  rw [e] at k; exact k

theorem keeps_ecmp {z s : State} (h : Keeps z s) (a1 : ℕ) (a2 : ℕ) (a3 : ℕ) (a4 : ℕ) (a5 : ℕ) : Keeps z (State.ecmp s a1 a2 a3 a4 a5).2 := by
  unfold State.ecmp
  repeat' first
    | (with_reducible first | assumption | apply keeps_nexthop | refine keeps_nexthop_eq (by assumption) ?_
                            | apply keeps_resolveRead | refine keeps_resolveRead_eq (by assumption) ?_)
    | ((conv => arg 2; arg 55; skip); with_reducible first | apply keeps_mk | apply keeps_mkc)
    | split | dsimp only | intro _
theorem keeps_ecmp_eq {z s t : State} {b0 : Target} {a1 : ℕ} {a2 : ℕ} {a3 : ℕ} {a4 : ℕ} {a5 : ℕ} (e : State.ecmp s a1 a2 a3 a4 a5 = (b0, t)) (h : Keeps z s) : Keeps z t := by
  have k := keeps_ecmp h a1 a2 a3 a4 a5
  rw [e] at k; exact k

theorem keeps_fabric {z s : State} (h : Keeps z s) (a1 : ℕ) (a2 : Copy) (a3 : Bool) : Keeps z (State.fabric s a1 a2 a3).2 := by
  unfold State.fabric
  repeat' first
    | (with_reducible first | assumption | apply keeps_yarnForward | refine keeps_yarnForward_eq (by assumption) ?_)
    | ((conv => arg 2; arg 55; skip); with_reducible first | apply keeps_mk | apply keeps_mkc)
    | split | dsimp only | intro _
theorem keeps_fabric_eq {z s t : State} {b0 : Option Copy} {a1 : ℕ} {a2 : Copy} {a3 : Bool} (e : State.fabric s a1 a2 a3 = (b0, t)) (h : Keeps z s) : Keeps z t := by
  have k := keeps_fabric h a1 a2 a3
  rw [e] at k; exact k

theorem keeps_queueFor {z s : State} (h : Keeps z s) (a1 : ℕ) (a2 : ℕ) (a3 : Bytes) : Keeps z (State.queueFor s a1 a2 a3).2 := by
  unfold State.queueFor
  repeat' first
    | (with_reducible first | assumption | apply keeps_schCount)
    | split | dsimp only | intro _
theorem keeps_queueFor_eq {z s t : State} {b0 : ℕ} {a1 : ℕ} {a2 : ℕ} {a3 : Bytes} (e : State.queueFor s a1 a2 a3 = (b0, t)) (h : Keeps z s) : Keeps z t := by
  have k := keeps_queueFor h a1 a2 a3
  rw [e] at k; exact k

theorem keeps_sendForward {z s : State} (h : Keeps z s) (a1 : ℕ) (a2 : Copy) (a3 : Bool) : Keeps z (State.sendForward s a1 a2 a3) := by
  unfold State.sendForward
  repeat' first
    | (with_reducible first | assumption | apply keeps_submit | apply keeps_queueFor
                            | refine keeps_queueFor_eq (by assumption) ?_)
    | split | dsimp only | intro _

theorem keeps_sendGroup {z s : State} (h : Keeps z s) (a1 : ℕ) (a2 : ℕ) (a3 : ℕ) (a4 : Copy) (a5 : Option YHdr) : Keeps z (State.sendGroup s a1 a2 a3 a4 a5) := by
  unfold State.sendGroup
  repeat' first
    | (with_reducible first | assumption | apply keeps_replicate | apply keeps_gauge_now | apply keeps_each)
    | ((conv => arg 2; arg 55; skip); with_reducible first | apply keeps_mk | apply keeps_mkc)
    | split | dsimp only | intro _

theorem keeps_police {z s : State} (h : Keeps z s) (a1 : ℕ) (a2 : ℕ) (a3 : ℕ) (a4 : Bool) (a5 : Bool) : Keeps z (State.police s a1 a2 a3 a4 a5).2.2 := by
  unfold State.police
  repeat' first
    | (with_reducible first | assumption | apply keeps_setMeter | apply keeps_gauge_now | apply keeps_actCount
                            | apply keeps_fault)
    | split | dsimp only | intro _
theorem keeps_police_eq {z s t : State} {b0 : ℕ} {b1 : Bool} {a1 : ℕ} {a2 : ℕ} {a3 : ℕ} {a4 : Bool} {a5 : Bool} (e : State.police s a1 a2 a3 a4 a5 = (b0, b1, t)) (h : Keeps z s) : Keeps z t := by
  have k := keeps_police h a1 a2 a3 a4 a5
  rw [e] at k; exact k

theorem keeps_mergeDrop {z s : State} (h : Keeps z s) (a1 : ℕ) (a2 : ℕ) : Keeps z (State.mergeDrop s a1 a2) := by
  unfold State.mergeDrop
  repeat' first
    | (with_reducible first | assumption | apply keeps_actCount | apply keeps_gauge_now)
    | split | dsimp only | intro _

theorem keeps_groupTarget {z s : State} (h : Keeps z s) (a1 : ℕ) (a2 : ℕ) (a3 : ℕ) (a4 : ℕ) (a5 : Bool) : Keeps z (State.groupTarget s a1 a2 a3 a4 a5).2 := by
  unfold State.groupTarget
  repeat' first
    | (with_reducible first | assumption | apply keeps_schCount | apply keeps_fault)
    | split | dsimp only | intro _
theorem keeps_groupTarget_eq {z s t : State} {b0 : Target} {a1 : ℕ} {a2 : ℕ} {a3 : ℕ} {a4 : ℕ} {a5 : Bool} (e : State.groupTarget s a1 a2 a3 a4 a5 = (b0, t)) (h : Keeps z s) : Keeps z t := by
  have k := keeps_groupTarget h a1 a2 a3 a4 a5
  rw [e] at k; exact k

theorem keeps_resolve {z s : State} (h : Keeps z s) (a1 : ℕ) (a2 : ℕ) (a3 : ℕ) (a4 : ℕ) (a5 : ℕ) : Keeps z (State.resolve s a1 a2 a3 a4 a5).2 := by
  unfold State.resolve
  repeat' first
    | (with_reducible first | assumption | apply keeps_groupTarget | refine keeps_groupTarget_eq (by assumption) ?_
                            | apply keeps_resolveRead | refine keeps_resolveRead_eq (by assumption) ?_
                            | apply keeps_ecmp | refine keeps_ecmp_eq (by assumption) ?_ | apply keeps_nexthop
                            | refine keeps_nexthop_eq (by assumption) ?_)
    | ((conv => arg 2; arg 55; skip); with_reducible first | apply keeps_mk | apply keeps_mkc)
    | split | dsimp only | intro _
theorem keeps_resolve_eq {z s t : State} {b0 : Target} {a1 : ℕ} {a2 : ℕ} {a3 : ℕ} {a4 : ℕ} {a5 : ℕ} (e : State.resolve s a1 a2 a3 a4 a5 = (b0, t)) (h : Keeps z s) : Keeps z t := by
  have k := keeps_resolve h a1 a2 a3 a4 a5
  rw [e] at k; exact k

theorem keeps_forward {z s : State} (h : Keeps z s) (a1 : ℕ) (a2 : Job) (a3 : ℕ) (a4 : ℕ) (a5 : ℕ) (a6 : Bool) (a7 : Bool) : Keeps z (State.forward s a1 a2 a3 a4 a5 a6 a7) := by
  unfold State.forward
  repeat' first
    | (with_reducible first | assumption | apply keeps_sendForward | apply keeps_sendGroup | apply keeps_police
                            | refine keeps_police_eq (by assumption) ?_ | apply keeps_fabric
                            | refine keeps_fabric_eq (by assumption) ?_ | apply keeps_mergeDrop | apply keeps_resolve
                            | refine keeps_resolve_eq (by assumption) ?_)
    | ((conv => arg 2; arg 55; skip); with_reducible first | apply keeps_mk | apply keeps_mkc)
    | split | dsimp only | intro _

theorem keeps_hostCopy {z s : State} (h : Keeps z s) (a1 : ℕ) (a2 : Job) (a3 : ℕ) (a4 : ℕ) : Keeps z (State.hostCopy s a1 a2 a3 a4).2 := by
  unfold State.hostCopy
  repeat' first
    | (with_reducible first | assumption | apply keeps_police | refine keeps_police_eq (by assumption) ?_
                            | apply keeps_actCount)
    | ((conv => arg 2; arg 55; skip); with_reducible first | apply keeps_mk | apply keeps_mkc)
    | split | dsimp only | intro _
theorem keeps_hostCopy_eq {z s t : State} {b0 : Option Copy} {a1 : ℕ} {a2 : Job} {a3 : ℕ} {a4 : ℕ} (e : State.hostCopy s a1 a2 a3 a4 = (b0, t)) (h : Keeps z s) : Keeps z t := by
  have k := keeps_hostCopy h a1 a2 a3 a4
  rw [e] at k; exact k

theorem keeps_sendPlain {z s : State} (h : Keeps z s) (a1 : ℕ) (a2 : ℕ) (a3 : Copy) : Keeps z (State.sendPlain s a1 a2 a3) := by
  unfold State.sendPlain
  repeat' first
    | (with_reducible first | assumption | apply keeps_submit)
    | split | dsimp only | intro _

theorem keeps_mergeHost {z s : State} (h : Keeps z s) (a1 : ℕ) (a2 : Bytes) (a3 : Bytes) (a4 : ℕ) (a5 : ℕ) (a6 : Option (ℕ × ℕ × ℕ × Bool)) (a7 : Option ℕ) : Keeps z (State.mergeHost s a1 a2 a3 a4 a5 a6 a7) := by
  unfold State.mergeHost
  repeat' first
    | (with_reducible first | assumption | apply keeps_mergeDrop | apply keeps_txDone | apply keeps_sendPlain
                            | apply keeps_steCount)
    | ((conv => arg 2; arg 55; skip); with_reducible first | apply keeps_mk | apply keeps_mkc)
    | split | dsimp only | intro _

theorem keeps_mergedStage {z s : State} (h : Keeps z s) (a1 : ℕ) : Keeps z (State.mergedStage s a1) := by
  unfold State.mergedStage
  repeat' first
    | (with_reducible first | assumption | apply keeps_setStaged)
    | ((conv => arg 2; arg 55; skip); with_reducible first | apply keeps_mk | apply keeps_mkc)
    | split | dsimp only | intro _

theorem keeps_mirrorCopy {z s : State} (h : Keeps z s) (a1 : ℕ) (a2 : Job) (a3 : ℕ) (a4 : ℕ) : Keeps z (State.mirrorCopy s a1 a2 a3 a4).2 := by
  unfold State.mirrorCopy
  repeat' first
    | (with_reducible first | assumption | apply keeps_setPipe | apply keeps_actCount | apply keeps_resolveRead
                            | refine keeps_resolveRead_eq (by assumption) ?_)
    | ((conv => arg 2; arg 55; skip); with_reducible first | apply keeps_mk | apply keeps_mkc)
    | split | dsimp only | intro _
theorem keeps_mirrorCopy_eq {z s t : State} {b0 : Option Copy} {a1 : ℕ} {a2 : Job} {a3 : ℕ} {a4 : ℕ} (e : State.mirrorCopy s a1 a2 a3 a4 = (b0, t)) (h : Keeps z s) : Keeps z t := by
  have k := keeps_mirrorCopy h a1 a2 a3 a4
  rw [e] at k; exact k

theorem keeps_respond {z s : State} (h : Keeps z s) (a1 : ℕ) (a2 : Job) : Keeps z (State.respond s a1 a2).2 := by
  unfold State.respond
  repeat' first
    | (with_reducible first | assumption | apply keeps_rspQueue | apply keeps_bfdReceive
                            | refine keeps_bfdReceive_eq (by assumption) ?_ | apply keeps_actCount)
    | split | dsimp only | intro _
theorem keeps_respond_eq {z s t : State} {b0 : Bool} {a1 : ℕ} {a2 : Job} (e : State.respond s a1 a2 = (b0, t)) (h : Keeps z s) : Keeps z t := by
  have k := keeps_respond h a1 a2
  rw [e] at k; exact k

theorem keeps_mergeJob {z s : State} (h : Keeps z s) (n : Nat) (j : Job) (errs : Nat) : Keeps z (s.mergeJob n j errs) := by
  unfold State.mergeJob
  extract_lets j1 prog aFwd fwd tc cause rsp aclReason copy reason h0 ms s1 s2
  have hr : Keeps z rsp.2 := keeps_respond h n j1
  have hh : Keeps z h0.2 := by
    show Keeps z (if reason ≠ 0 then rsp.2.hostCopy n j1 reason errs else (none, rsp.2)).2
    split
    · exact keeps_hostCopy hr _ _ _ _
    · exact hr
  have hm : Keeps z ms.2 := by
    refine keeps_foldl_snd _ _ hh (fun t a ht => ?_)
    exact keeps_mirrorCopy ht _ _ _ _
  have h1 : Keeps z s1 := by
    show Keeps z (if cause ≠ 0 then _ else _)
    split
    · exact keeps_mergeDrop hm _ _
    · exact keeps_forward hm _ _ _ _ _ _ _
  have h2 : Keeps z s2 := by
    show Keeps z (match h0.1 with | some c => s1.sendPlain n j1.src c | none => s1)
    split
    · exact keeps_sendPlain h1 _ _ _
    · exact h1
  exact keeps_mergedStage (keeps_foldl _ _ h2 (fun t a ht => keeps_sendPlain ht _ _ _)) _

theorem keeps_mergeOuter {z s : State} (h : Keeps z s) (a1 : ℕ) (a2 : Job) : Keeps z (State.mergeOuter s a1 a2) := by
  unfold State.mergeOuter
  repeat' first
    | (with_reducible first | assumption | apply keeps_mergedStage | apply keeps_sendForward | apply keeps_fabric
                            | refine keeps_fabric_eq (by assumption) ?_ | apply keeps_steCount | apply keeps_sendPlain
                            | apply keeps_actCount)
    | ((conv => arg 2; arg 55; skip); with_reducible first | apply keeps_mk | apply keeps_mkc)
    | split | dsimp only | intro _

theorem keeps_mergeYarn {z s : State} (h : Keeps z s) (a1 : ℕ) (a2 : Pkt) (a3 : Bytes) (a4 : ℕ) (a5 : ℕ) (a6 : YHdr) (a7 : Bytes) (a8 : Bool) (a9 : ℕ) : Keeps z (State.mergeYarn s a1 a2 a3 a4 a5 a6 a7 a8 a9) := by
  unfold State.mergeYarn
  repeat' first
    | (with_reducible first | assumption | apply keeps_mergedStage | apply keeps_yrnCount | apply keeps_spray_opt
                            | refine keeps_spray (by assumption) ?_ | apply keeps_setCopy | apply keeps_setStaged
                            | apply keeps_queueFor | refine keeps_queueFor_eq (by assumption) ?_ | apply keeps_mergeDrop
                            | apply keeps_sendGroup | apply keeps_groupTarget
                            | refine keeps_groupTarget_eq (by assumption) ?_ | apply keeps_sendPlain)
    | ((conv => arg 2; arg 55; skip); with_reducible first | apply keeps_mk | apply keeps_mkc)
    | split | dsimp only | intro _

theorem keeps_releaseEgress {z s : State} (h : Keeps z s) (a1 : ℕ) (a2 : ℕ) : Keeps z (State.releaseEgress s a1 a2) := by
  unfold State.releaseEgress
  repeat' first
    | (with_reducible first | assumption | apply keeps_setCopy | apply keeps_enterStaging | apply keeps_sknCount
                            | apply keeps_release | apply keeps_setPipe)
    | ((conv => arg 2; arg 55; skip); with_reducible first | apply keeps_mk | apply keeps_mkc)
    | split | dsimp only | intro _

theorem keeps_releaseIngress {z s : State} (h : Keeps z s) (a1 : ℕ) (a2 : ℕ) (a3 : Bool) : Keeps z (State.releaseIngress s a1 a2 a3) := by
  unfold State.releaseIngress
  repeat' first
    | (with_reducible first | assumption | apply keeps_actCount | apply keeps_each | apply keeps_setPipe)
    | ((conv => arg 2; arg 55; skip); with_reducible first | apply keeps_mk | apply keeps_mkc)
    | split | dsimp only | intro _

theorem keeps_execActionMerge {z s : State} (h : Keeps z s) (a0 : Fin 16) (a1 : BitVec 8) : ResKeeps z (execActionMerge a0 a1 s) := by
  unfold execActionMerge
  repeat' first
    | (with_reducible first | apply resKeeps_next | assumption | apply keeps_mergeHost | apply keeps_mergeYarn
                            | apply keeps_mergeJob | apply keeps_mergeOuter | apply keeps_mergedStage
                            | apply keeps_setPipe | apply keeps_actCount | apply keeps_begin)
    | ((conv => arg 2; arg 55; skip); with_reducible first | apply keeps_mk | apply keeps_mkc)
    | split | dsimp only | intro _

theorem keeps_execReorderRelease {z s : State} (h : Keeps z s) (a0 : Fin 16) (a1 : Bool) (a2 : Fin 160) (a3 : Bool) : ResKeeps z (execReorderRelease a0 a1 a2 a3 s) := by
  unfold execReorderRelease
  repeat' first
    | (with_reducible first | apply resKeeps_next | assumption | apply keeps_releaseIngress | apply keeps_releaseEgress
                            | apply keeps_begin)
    | split | dsimp only | intro _

theorem keeps_twoStepRecord {z s : State} (h : Keeps z s) (a1 : ℕ) (a2 : Bytes) (a3 : ℕ) : Keeps z (State.twoStepRecord s a1 a2 a3) := by
  unfold State.twoStepRecord
  repeat' first
    | (with_reducible first | assumption | apply keeps_notify)
    | split | dsimp only | intro _

theorem keeps_macSent {z s : State} (h : Keeps z s) (a1 : ℕ) (a2 : Bytes) : Keeps z (State.macSent s a1 a2) := by
  unfold State.macSent
  repeat' first
    | (with_reducible first | assumption | apply keeps_gauge_now | apply keeps_emit | apply keeps_macCount)
    | split | dsimp only | intro _

theorem keeps_macStomp {z s : State} (h : Keeps z s) (a1 : ℕ) (a2 : Bytes) : Keeps z (State.macStomp s a1 a2) := by
  unfold State.macStomp
  repeat' first
    | (with_reducible first | assumption | apply keeps_emit | apply keeps_macCount)
    | split | dsimp only | intro _

theorem keeps_sendCopy {z s : State} (h : Keeps z s) (p : Nat) (c : Copy) (n : Nat) (stomp : Bool) : Keeps z (s.sendCopy p c n stomp) := by
  unfold State.sendCopy
  extract_lets now b r hd
  have hr : Keeps z r.2 := by
    show Keeps z (if _ then (some b, s) else s.secySend p b).2
    split
    · exact h
    · exact keeps_secySend h _ _
  clear_value r
  split
  · exact hr
  · rename_i y _
    extract_lets x t u
    have ht : Keeps z t := by
      show Keeps z (if _ then _ else _)
      split
      · exact keeps_macStomp hr _ _
      · exact keeps_macSent hr _ _
    have hu : Keeps z u := by
      show Keeps z (if _ then _ else _)
      split
      · exact keeps_yrnCount ht _ _ _
      · exact ht
    split
    · exact keeps_twoStepRecord hu _ _ _
    · exact hu

theorem keeps_endTransmission {z s : State} (h : Keeps z s) (a1 : ℕ) : Keeps z (State.endTransmission s a1) := by
  unfold State.endTransmission
  repeat' first
    | (with_reducible first | assumption | apply keeps_sendCopy | apply keeps_drawn)
    | ((conv => arg 2; arg 55; skip); with_reducible first | apply keeps_mk | apply keeps_mkc)
    | split | dsimp only | intro _

theorem keeps_setPause {z s : State} (h : Keeps z s) (a1 : ℕ) (a2 : ℕ) (a3 : ℕ) : Keeps z (State.setPause s a1 a2 a3) := by
  unfold State.setPause
  repeat' first
    | (with_reducible first | assumption | apply keeps_setPort)
    | ((conv => arg 2; arg 55; skip); with_reducible first | apply keeps_mk | apply keeps_mkc)
    | split | dsimp only | intro _

theorem keeps_macControl {z s : State} (h : Keeps z s) (a1 : ℕ) (a2 : Bytes) : Keeps z (State.macControl s a1 a2) := by
  unfold State.macControl
  repeat' first
    | (with_reducible first | assumption | apply keeps_each | apply keeps_macCount | apply keeps_setPause)
    | split | dsimp only | intro _

theorem keeps_mgtReceive {z s : State} (h : Keeps z s) (a1 : ℕ) (a2 : Pkt) (a3 : Bool) : Keeps z (State.mgtReceive s a1 a2 a3) := by
  unfold State.mgtReceive
  repeat' first
    | (with_reducible first | assumption | apply keeps_claim | apply keeps_enterStaging | apply keeps_emit)
    | ((conv => arg 2; arg 55; skip); with_reducible first | apply keeps_mk | apply keeps_mkc)
    | split | dsimp only | intro _

theorem keeps_rxPass {z s : State} (h : Keeps z s) (a1 : ℕ) (a2 : Bytes) (a3 : Bool) (a4 : ℕ) (a5 : Bool) : Keeps z (State.rxPass s a1 a2 a3 a4 a5) := by
  unfold State.rxPass
  repeat' first
    | (with_reducible first | assumption | apply keeps_secyReceive | refine keeps_secyReceive_eq (by assumption) ?_
                            | apply keeps_enterStaging | apply keeps_mgtReceive)
    | ((conv => arg 2; arg 55; skip); with_reducible first | apply keeps_mk | apply keeps_mkc)
    | split | dsimp only | intro _

theorem keeps_sendNextCtrl {z s : State} (h : Keeps z s) (a1 : ℕ) (a2 : ℕ) (a3 : Bool) (a4 : List (ℕ × Bool)) : Keeps z (State.sendNextCtrl s a1 a2 a3 a4) := by
  unfold State.sendNextCtrl
  repeat' first
    | (with_reducible first | assumption | apply keeps_macCount | apply keeps_macSent | apply keeps_setPort
                            | apply keeps_drawn)
    | ((conv => arg 2; arg 55; skip); with_reducible first | apply keeps_mk | apply keeps_mkc)
    | split | dsimp only | intro _

theorem keeps_transmit {z s : State} (h : Keeps z s) (p id : Nat) (c : Copy) : Keeps z (s.transmit p id c) := by
  unfold State.transmit
  extract_lets s1
  have h1 : Keeps z s1 := by
    show Keeps z (if _ then _ else _)
    split
    · exact keeps_sknCount h _ _ _
    · exact h
  split
  · exact keeps_release (keeps_sendCopy (keeps_drawn (keeps_drawn h)) _ _ _ _) _ _
  split
  · split
    · exact keeps_release (keeps_sknCount h _ _ _) _ _
    · exact keeps_release (keeps_macCount h _ _ _) _ _
  · exact keeps_release (keeps_sendCopy h1 _ _ _ _) _ _

theorem keeps_execFrameTransmit {z s : State} (h : Keeps z s) (a0 : Fin 130) : ResKeeps z (execFrameTransmit a0 s) := by
  unfold execFrameTransmit
  repeat' first
    | (with_reducible first | apply resKeeps_next | assumption | apply keeps_transmit | apply keeps_sendNextCtrl
                            | apply keeps_begin)
    | ((conv => arg 2; arg 55; skip); with_reducible first | apply keeps_mk | apply keeps_mkc)
    | split | dsimp only | intro _

theorem keeps_execPauseTimerExpire {z s : State} (h : Keeps z s) (a0 : Fin 130) (a1 : Fin 9) : ResKeeps z (execPauseTimerExpire a0 a1 s) := by
  unfold execPauseTimerExpire
  repeat' first
    | (with_reducible first | apply resKeeps_next | assumption | apply keeps_begin | apply keeps_setPause)
    | split | dsimp only | intro _

theorem keeps_execRxFrame {z s : State} (h : Keeps z s) (a0 : Fin 130) (a1 : Bytes) (a2 : Fin 3) (a3 : Bool) : ResKeeps z (execRxFrame a0 a1 a2 a3 s) := by
  unfold execRxFrame
  repeat' first
    | (with_reducible first | apply resKeeps_next | assumption | apply keeps_macControl | apply keeps_gauge_now
                            | apply keeps_rxPass | apply keeps_macCount | apply keeps_yrnCount | apply keeps_begin)
    | ((conv => arg 2; arg 55; skip); with_reducible first | apply keeps_mk | apply keeps_mkc)
    | split | dsimp only | intro _

theorem keeps_execXoffResend {z s : State} (h : Keeps z s) (a0 : Fin 130) (a1 : Fin 8) : ResKeeps z (execXoffResend a0 a1 s) := by
  unfold execXoffResend
  repeat' first
    | (with_reducible first | apply resKeeps_next | assumption | apply keeps_sendCtrl | apply keeps_begin)
    | split | dsimp only | intro _

theorem keeps_bindoffFlush {z s : State} (h : Keeps z s) (a1 : ℕ) : Keeps z (State.bindoffFlush s a1) := by
  unfold State.bindoffFlush
  repeat' first
    | (with_reducible first | assumption)
    | ((conv => arg 2; arg 55; skip); with_reducible first | apply keeps_mk | apply keeps_mkc)
    | split | dsimp only | intro _

theorem keeps_edgeLink {z s : State} (h : Keeps z s) (a1 : ℕ) : Keeps z (State.edgeLink s a1) := by
  unfold State.edgeLink
  repeat' first
    | (with_reducible first | assumption | apply keeps_setFld | apply keeps_setPort)
    | ((conv => arg 2; arg 55; skip); with_reducible first | apply keeps_mk | apply keeps_mkc)
    | split | dsimp only | intro _

theorem keeps_laneRates {z s : State} (h : Keeps z s) (a1 : ℕ) : Keeps z (State.laneRates s a1) := by
  unfold State.laneRates
  repeat' first
    | (with_reducible first | assumption | apply keeps_setFld | apply keeps_each)
    | split | dsimp only | intro _

theorem keeps_flushPort {z s : State} (h : Keeps z s) (a1 : ℕ) : Keeps z (State.flushPort s a1) := by
  unfold State.flushPort
  repeat' first
    | (with_reducible first | assumption | apply keeps_flushQueue | apply keeps_each | apply keeps_flushCopies)
    | ((conv => arg 2; arg 55; skip); with_reducible first | apply keeps_mk | apply keeps_mkc)
    | split | dsimp only | intro _

theorem keeps_enterBindoff {z s : State} (h : Keeps z s) (a1 : ℕ) (a2 : Bool) : Keeps z (State.enterBindoff s a1 a2) := by
  unfold State.enterBindoff
  repeat' first
    | (with_reducible first | assumption | apply keeps_flushPort | apply keeps_bindoffFlush | apply keeps_setPort
                            | apply keeps_setFld | apply keeps_endTransmission)
    | ((conv => arg 2; arg 55; skip); with_reducible first | apply keeps_mk | apply keeps_mkc)
    | split | dsimp only | intro _

theorem keeps_enterState {z s : State} (h : Keeps z s) (a1 : ℕ) (a2 : ℕ) : Keeps z (State.enterState s a1 a2) := by
  unfold State.enterState
  repeat' first
    | (with_reducible first | assumption | apply keeps_setPort | apply keeps_setFld)
    | ((conv => arg 2; arg 55; skip); with_reducible first | apply keeps_mk | apply keeps_mkc)
    | split | dsimp only | intro _

theorem keeps_portEval {z s : State} (h : Keeps z s) (a1 : ℕ) (a2 : Bool) : Keeps z (State.portEval s a1 a2) := by
  unfold State.portEval
  repeat' first
    | (with_reducible first | assumption | apply keeps_enterBindoff | apply keeps_setPort | apply keeps_enterState)
    | ((conv => arg 2; arg 55; skip); with_reducible first | apply keeps_mk | apply keeps_mkc)
    | split | dsimp only | intro _

theorem keeps_edgePorts {z s : State} (h : Keeps z s)  : Keeps z (State.edgePorts s) := by
  unfold State.edgePorts
  repeat' first
    | (with_reducible first | assumption | apply keeps_laneRates | apply keeps_edgeLink | apply keeps_portEval
                            | apply keeps_each)
    | split | dsimp only | intro _

theorem keeps_flushAll {z s : State} (h : Keeps z s)  : Keeps z (State.flushAll s) := by
  unfold State.flushAll
  repeat' first
    | (with_reducible first | assumption | apply keeps_flushQueue | apply keeps_sknCount | apply keeps_release
                            | apply keeps_each)
    | ((conv => arg 2; arg 55; skip); with_reducible first | apply keeps_mk | apply keeps_mkc)
    | split | dsimp only | intro _

theorem keeps_execBindoffFlushComplete {z s : State} (h : Keeps z s) (a0 : Fin 130) : ResKeeps z (execBindoffFlushComplete a0 s) := by
  unfold execBindoffFlushComplete
  repeat' first
    | (with_reducible first | apply resKeeps_next | assumption | apply keeps_setPort | apply keeps_begin)
    | ((conv => arg 2; arg 55; skip); with_reducible first | apply keeps_mk | apply keeps_mkc)
    | split | dsimp only | intro _

theorem keeps_execHolddownExpire {z s : State} (h : Keeps z s) (a0 : Fin 130) : ResKeeps z (execHolddownExpire a0 s) := by
  unfold execHolddownExpire
  repeat' first
    | (with_reducible first | apply resKeeps_next | assumption | apply keeps_enterState | apply keeps_begin)
    | split | dsimp only | intro _

theorem keeps_execLinkFaultDebounced {z s : State} (h : Keeps z s) (a0 : Fin 130) : ResKeeps z (execLinkFaultDebounced a0 s) := by
  unfold execLinkFaultDebounced
  repeat' first
    | (with_reducible first | apply resKeeps_next | assumption | apply keeps_enterBindoff | apply keeps_enterState
                            | apply keeps_setFld | apply keeps_fault | apply keeps_begin)
    | split | dsimp only | intro _

theorem keeps_execLinkUp {z s : State} (h : Keeps z s) (a0 : Fin 130) : ResKeeps z (execLinkUp a0 s) := by
  unfold execLinkUp
  repeat' first
    | (with_reducible first | apply resKeeps_next | assumption | apply keeps_enterState | apply keeps_begin)
    | split | dsimp only | intro _

theorem keeps_disarmPeriod {z s : State} (h : Keeps z s) : Keeps z s.disarmPeriod :=
  keeps_mkr (keeps_setFld h _ _ _)
    (fun k => ⟨((keeps_setFld h _ _ _).regs k).1, SMap.wf_set ((keeps_setFld h _ _ _).regs k).2 _ _⟩)

theorem keeps_edgeBeat {z s : State} (h : Keeps z s)  : Keeps z (State.edgeBeat s) := by
  unfold State.edgeBeat
  repeat' first
    | (with_reducible first | assumption)
    | ((conv => arg 2; arg 55; skip); with_reducible first | apply keeps_mk | apply keeps_mkc)
    | split | dsimp only | intro _

theorem keeps_syncStatus {z s : State} (h : Keeps z s) (a1 : Fld) (a2 : ℕ) : Keeps z (State.syncStatus s a1 a2) := by
  unfold State.syncStatus
  repeat' first
    | (with_reducible first | assumption | apply keeps_setFld | apply keeps_interrupt | apply keeps_fault)
    | split | dsimp only | intro _

theorem keeps_lockStatus {z s : State} (h : Keeps z s) (a1 : ℤ) : Keeps z (State.lockStatus s a1) := by
  unfold State.lockStatus
  repeat' first
    | (with_reducible first | assumption | apply keeps_syncStatus | apply keeps_when | apply keeps_setFld)
    | split | dsimp only | intro _

theorem keeps_edgeFollow {z s : State} (h : Keeps z s)  : Keeps z (State.edgeFollow s) := by
  unfold State.edgeFollow
  repeat' first
    | (with_reducible first | assumption | apply keeps_syncStatus | apply keeps_when | apply keeps_lockStatus)
    | ((conv => arg 2; arg 55; skip); with_reducible first | apply keeps_mk | apply keeps_mkc)
    | split | dsimp only | intro _

theorem keeps_edgeCount {z s : State} (h : Keeps z s)  : Keeps z (State.edgeCount s) := by
  unfold State.edgeCount
  repeat' first
    | (with_reducible first | assumption | apply keeps_emit | apply keeps_edgeFollow | apply keeps_setReg)
    | ((conv => arg 2; arg 55; skip); with_reducible first | apply keeps_mk | apply keeps_mkc)
    | split | dsimp only | intro _

theorem keeps_hostLoss {z s : State} (h : Keeps z s) (a1 : ℕ) : Keeps z (State.hostLoss s a1) := by
  unfold State.hostLoss
  repeat' first
    | (with_reducible first | assumption | apply keeps_setFld)
    | split | dsimp only | intro _

theorem keeps_edgeSplit {z s : State} (h : Keeps z s)  : Keeps z (State.edgeSplit s) := by
  unfold State.edgeSplit
  repeat' first
    | (with_reducible first | assumption | apply keeps_setReg | apply keeps_hostLoss)
    | split | dsimp only | intro _

theorem keeps_followPulse {z s : State} (h : Keeps z s) (a1 : Bool) : Keeps z (State.followPulse s a1) := by
  unfold State.followPulse
  repeat' first
    | (with_reducible first | assumption | apply keeps_setFld)
    | ((conv => arg 2; arg 55; skip); with_reducible first | apply keeps_mk | apply keeps_mkc)
    | split | dsimp only | intro _

theorem keeps_writeHeartbeat {z s : State} (h : Keeps z s)  : Keeps z (State.writeHeartbeat s) := by
  unfold State.writeHeartbeat
  repeat' first
    | (with_reducible first | assumption)
    | ((conv => arg 2; arg 55; skip); with_reducible first | apply keeps_mk | apply keeps_mkc)
    | split | dsimp only | intro _

theorem keeps_writeHostLoss {z s : State} (h : Keeps z s) (a1 : BitVec 64) (a2 : BitVec 64) : Keeps z (State.writeHostLoss s a1 a2) := by
  unfold State.writeHostLoss
  repeat' first
    | (with_reducible first | assumption | apply keeps_setFld | apply keeps_plainWrite)
    | ((conv => arg 2; arg 55; skip); with_reducible first | apply keeps_mk | apply keeps_mkc)
    | split | dsimp only | intro _

theorem keeps_writePeriodNext {z s : State} (h : Keeps z s) (a1 : BitVec 64) (a2 : BitVec 64) : Keeps z (State.writePeriodNext s a1 a2) := by
  unfold State.writePeriodNext
  repeat' first
    | (with_reducible first | assumption | apply keeps_plainWrite | apply keeps_setFld)
    | split | dsimp only | intro _

theorem keeps_writeTikSync {z s : State} (h : Keeps z s) (a1 : BitVec 64) (a2 : BitVec 64) : Keeps z (State.writeTikSync s a1 a2) := by
  unfold State.writeTikSync
  repeat' first
    | (with_reducible first | assumption | apply keeps_setFld | apply keeps_plainWrite)
    | split | dsimp only | intro _

theorem keeps_execHeartbeatExpired {z s : State} (h : Keeps z s)  : ResKeeps z (execHeartbeatExpired s) := by
  unfold execHeartbeatExpired
  repeat' first
    | (with_reducible first | apply resKeeps_next | assumption | apply keeps_hostLoss | apply keeps_begin)
    | split | dsimp only | intro _

theorem keeps_execHeartbeatWrite {z s : State} (h : Keeps z s) (a0 : Agent) (a1 : BitVec 32) : ResKeeps z (execHeartbeatWrite a0 a1 s) := by
  unfold execHeartbeatWrite
  repeat' first
    | (with_reducible first | apply resKeeps_next | assumption | apply keeps_writeHeartbeat | apply keeps_begin
                            | apply keeps_writeBy)
    | split | dsimp only | intro _

theorem keeps_execHostlossLostClear {z s : State} (h : Keeps z s) (a0 : Agent) : ResKeeps z (execHostlossLostClear a0 s) := by
  unfold execHostlossLostClear
  repeat' first
    | (with_reducible first | apply resKeeps_next | assumption | apply keeps_writeHostLoss | apply keeps_begin
                            | apply keeps_writeBy)
    | split | dsimp only | intro _

theorem keeps_execPeriodArm {z s : State} (h : Keeps z s) (a0 : Agent) (a1 : BitVec 32) : ResKeeps z (execPeriodArm a0 a1 s) := by
  unfold execPeriodArm
  repeat' first
    | (with_reducible first | apply resKeeps_next | assumption | apply keeps_writePeriodNext | apply keeps_begin
                            | apply keeps_writeBy)
    | split | dsimp only | intro _

theorem keeps_execPeriodChangeApply {z s : State} (h : Keeps z s)  : ResKeeps z (execPeriodChangeApply s) := by
  unfold execPeriodChangeApply
  repeat' first
    | (with_reducible first | apply resKeeps_next | assumption | apply keeps_setFld | apply keeps_disarmPeriod
                            | apply keeps_begin)
    | ((conv => arg 2; arg 55; skip); with_reducible first | apply keeps_mk | apply keeps_mkc)
    | split | dsimp only | intro _

theorem keeps_execTickHoldover {z s : State} (h : Keeps z s)  : ResKeeps z (execTickHoldover s) := by
  unfold execTickHoldover
  repeat' first
    | (with_reducible first | apply resKeeps_next | assumption | apply keeps_setFld | apply keeps_syncStatus
                            | apply keeps_begin)
    | ((conv => arg 2; arg 55; skip); with_reducible first | apply keeps_mk | apply keeps_mkc)
    | split | dsimp only | intro _

theorem keeps_execTickInPulse {z s : State} (h : Keeps z s) (a0 : Bool) : ResKeeps z (execTickInPulse a0 s) := by
  unfold execTickInPulse
  repeat' first
    | (with_reducible first | apply resKeeps_next | assumption | apply keeps_followPulse | apply keeps_setFld
                            | apply keeps_begin)
    | split | dsimp only | intro _

theorem keeps_cfgSet {z s : State} (h : Keeps z s) (a1 : ℕ) (a2 : ℕ) (a3 : ℕ) : Keeps z (State.cfgSet s a1 a2 a3) := by
  unfold State.cfgSet
  repeat' first
    | (with_reducible first | assumption | apply keeps_setCfg)
    | split | dsimp only | intro _

theorem keeps_aerCor {z s : State} (h : Keeps z s) (a1 : ℕ) (a2 : ℕ) : Keeps z (State.aerCor s a1 a2) := by
  unfold State.aerCor
  repeat' first
    | (with_reducible first | assumption | apply keeps_cfgSet)
    | split | dsimp only | intro _

theorem keeps_headerLog {z s : State} (h : Keeps z s) (a1 : ℕ) (a2 : ℕ) : Keeps z (State.headerLog s a1 a2) := by
  induction a2 generalizing s with
  | zero =>
    unfold State.headerLog
    repeat' first
      | (with_reducible first | assumption | apply ih | apply keeps_setCfg | apply keeps_drawn)
      | split | dsimp only | intro _
  | succ n ih =>
    unfold State.headerLog
    repeat' first
      | (with_reducible first | assumption | apply ih | apply keeps_setCfg | apply keeps_drawn)
      | split | dsimp only | intro _

theorem keeps_aerUncor {z s : State} (h : Keeps z s) (a1 : ℕ) (a2 : ℕ) (a3 : Bool) : Keeps z (State.aerUncor s a1 a2 a3) := by
  unfold State.aerUncor
  repeat' first
    | (with_reducible first | assumption | apply keeps_setCfg | apply keeps_headerLog | apply keeps_cfgSet)
    | split | dsimp only | intro _

theorem keeps_pf1Loss {z s : State} (h : Keeps z s)  : Keeps z (State.pf1Loss s) := by
  unfold State.pf1Loss
  repeat' first
    | (with_reducible first | assumption | apply keeps_hostLoss)
    | ((conv => arg 2; arg 55; skip); with_reducible first | apply keeps_mk | apply keeps_mkc)
    | split | dsimp only | intro _

theorem keeps_discardReads {z s : State} (h : Keeps z s) (a1 : ℕ) : Keeps z (State.discardReads s a1) := by
  unfold State.discardReads
  repeat' first
    | (with_reducible first | assumption | apply keeps_dropOps)
    | split | dsimp only | intro _

theorem keeps_busMasterStops {z s : State} (h : Keeps z s) (a1 : ℕ) : Keeps z (State.busMasterStops s a1) := by
  unfold State.busMasterStops
  repeat' first
    | (with_reducible first | assumption | apply keeps_pf1Loss | apply keeps_ringsOffOf | apply keeps_discardReads
                            | apply keeps_ltrUpdate)
    | split | dsimp only | intro _

theorem keeps_cfgReset {z s : State} (h : Keeps z s) (a1 : ℕ) : Keeps z (State.cfgReset s a1) := by
  unfold State.cfgReset
  repeat' first
    | (with_reducible first | assumption)
    | ((conv => arg 2; arg 55; skip); with_reducible first | apply keeps_mk | apply keeps_mkc)
    | split | dsimp only | intro _

theorem keeps_edgeHold {z s : State} (h : Keeps z s)  : Keeps z (State.edgeHold s) := by
  unfold State.edgeHold
  repeat' first
    | (with_reducible first | assumption | apply keeps_setFld | apply keeps_each)
    | split | dsimp only | intro _

theorem keeps_edgeL0p {z s : State} (h : Keeps z s)  : Keeps z (State.edgeL0p s) := by
  unfold State.edgeL0p
  repeat' first
    | (with_reducible first | assumption)
    | ((conv => arg 2; arg 55; skip); with_reducible first | apply keeps_mk | apply keeps_mkc)
    | split | dsimp only | intro _

theorem keeps_enterD3 {z s : State} (h : Keeps z s) (a1 : ℕ) : Keeps z (State.enterD3 s a1) := by
  unfold State.enterD3
  repeat' first
    | (with_reducible first | assumption | apply keeps_ringsOffOf | apply keeps_busMasterStops | apply keeps_setCfg)
    | split | dsimp only | intro _

theorem keeps_fnStop {z s : State} (h : Keeps z s) (a1 : ℕ) : Keeps z (State.fnStop s a1) := by
  unfold State.fnStop
  repeat' first
    | (with_reducible first | assumption | apply keeps_ringsOffOf | apply keeps_discardReads | apply keeps_foldl
                            | apply keeps_foldl_fst | apply keeps_foldl_snd | apply keeps_foldl_mid)
    | split | dsimp only | intro _

theorem keeps_flrStart {z s : State} (h : Keeps z s) (a1 : ℕ) : Keeps z (State.flrStart s a1) := by
  unfold State.flrStart
  repeat' first
    | (with_reducible first | assumption | apply keeps_pf1Loss | apply keeps_ltrUpdate | apply keeps_setFld
                            | apply keeps_fnStop)
    | split | dsimp only | intro _

theorem keeps_setMsix {z s : State} (h : Keeps z s) (a1 : ℕ) (a2 : MsixEnt) : Keeps z (State.setMsix s a1 a2) := by
  unfold State.setMsix
  repeat' first
    | (with_reducible first | assumption)
    | ((conv => arg 2; arg 55; skip); with_reducible first | apply keeps_mk | apply keeps_mkc)
    | split | dsimp only | intro _

theorem keeps_msixReset {z s : State} (h : Keeps z s) (a1 : ℕ) : Keeps z (State.msixReset s a1) := by
  unfold State.msixReset
  repeat' first
    | (with_reducible first | assumption | apply keeps_setMsix | apply keeps_setReg | apply keeps_each)
    | split | dsimp only | intro _

theorem keeps_fnReset {z s : State} (h : Keeps z s) (a1 : ℕ) : Keeps z (State.fnReset s a1) := by
  unfold State.fnReset
  repeat' first
    | (with_reducible first | assumption | apply keeps_cfgReset | apply keeps_msixReset | apply keeps_foldl
                            | apply keeps_foldl_fst | apply keeps_foldl_snd | apply keeps_foldl_mid)
    | split | dsimp only | intro _

theorem keeps_freeRead {z s : State} (h : Keeps z s) (a1 : ℕ) : Keeps z (State.freeRead s a1) := by
  unfold State.freeRead
  repeat' first
    | (with_reducible first | assumption)
    | ((conv => arg 2; arg 55; skip); with_reducible first | apply keeps_mk | apply keeps_mkc)
    | split | dsimp only | intro _

theorem keeps_resetRegs {z s : State} (h : Keeps z s) (l : List Reg) : Keeps z (s.resetRegs l) :=
  keeps_mkr h (fun k => ⟨SMap.wf_filter (h.regs k).1 _, (h.regs k).2⟩)

theorem keeps_hostFacingReset {z s : State} (h : Keeps z s)  : Keeps z (State.hostFacingReset s) := by
  unfold State.hostFacingReset
  repeat' first
    | (with_reducible first | assumption | apply keeps_setFld | apply keeps_bump | apply keeps_resetRegs
                            | apply keeps_chartCut | apply keeps_abandonFrames | apply keeps_each | apply keeps_dropOps)
    | ((conv => arg 2; arg 55; skip); with_reducible first | apply keeps_mk | apply keeps_mkc)
    | split | dsimp only | intro _

theorem keeps_l0pSet {z s : State} (h : Keeps z s) (a1 : ℕ) : Keeps z (State.l0pSet s a1) := by
  unfold State.l0pSet
  repeat' first
    | (with_reducible first | assumption | apply keeps_setFld | apply keeps_bump)
    | split | dsimp only | intro _

theorem keeps_pf1Refresh {z s : State} (h : Keeps z s)  : Keeps z (State.pf1Refresh s) := by
  unfold State.pf1Refresh
  repeat' first
    | (with_reducible first | assumption)
    | ((conv => arg 2; arg 55; skip); with_reducible first | apply keeps_mk | apply keeps_mkc)
    | split | dsimp only | intro _

theorem keeps_leaveD3 {z s : State} (h : Keeps z s) (a1 : ℕ) : Keeps z (State.leaveD3 s a1) := by
  unfold State.leaveD3
  repeat' first
    | (with_reducible first | assumption | apply keeps_fnStop | apply keeps_fnReset | apply keeps_ltrUpdate
                            | apply keeps_pf1Refresh)
    | split | dsimp only | intro _

theorem keeps_leaveDlActive {z s : State} (h : Keeps z s)  : Keeps z (State.leaveDlActive s) := by
  unfold State.leaveDlActive
  repeat' first
    | (with_reducible first | assumption | apply keeps_hostLoss | apply keeps_bump | apply keeps_fault
                            | apply keeps_when | apply keeps_hostFacingReset)
    | split | dsimp only | intro _

theorem keeps_setRead {z s : State} (h : Keeps z s) (a1 : ℕ) (a2 : ReadRec) : Keeps z (State.setRead s a1 a2) := by
  unfold State.setRead
  repeat' first
    | (with_reducible first | assumption)
    | ((conv => arg 2; arg 55; skip); with_reducible first | apply keeps_mk | apply keeps_mkc)
    | split | dsimp only | intro _

theorem keeps_vfsOff {z s : State} (h : Keeps z s) (a1 : List ℕ) : Keeps z (State.vfsOff s a1) := by
  unfold State.vfsOff
  repeat' first
    | (with_reducible first | assumption | apply keeps_setFld | apply keeps_ltrUpdate | apply keeps_ringsOffOf
                            | apply keeps_discardReads | apply keeps_setCfg | apply keeps_foldl | apply keeps_foldl_fst
                            | apply keeps_foldl_snd | apply keeps_foldl_mid)
    | split | dsimp only | intro _

theorem keeps_execBusMasterClear {z s : State} (h : Keeps z s) (a0 : Fin 64) : ResKeeps z (execBusMasterClear a0 s) := by
  unfold execBusMasterClear
  repeat' first
    | (with_reducible first | apply resKeeps_next | assumption | apply keeps_setCfg | apply keeps_busMasterStops
                            | apply keeps_begin)
    | split | dsimp only | intro _

theorem keeps_execD3hotTransition {z s : State} (h : Keeps z s) (a0 : Fin 64) (a1 : Bool) : ResKeeps z (execD3hotTransition a0 a1 s) := by
  unfold execD3hotTransition
  repeat' first
    | (with_reducible first | apply resKeeps_next | assumption | apply keeps_leaveD3 | apply keeps_enterD3
                            | apply keeps_begin)
    | split | dsimp only | intro _

theorem keeps_execFlrComplete {z s : State} (h : Keeps z s) (a0 : Fin 64) (a1 : Bool) : ResKeeps z (execFlrComplete a0 a1 s) := by
  unfold execFlrComplete
  repeat' first
    | (with_reducible first | apply resKeeps_next | assumption | apply keeps_bump | apply keeps_pf1Refresh
                            | apply keeps_setFld | apply keeps_fnReset | apply keeps_begin)
    | ((conv => arg 2; arg 55; skip); with_reducible first | apply keeps_mk | apply keeps_mkc)
    | split | dsimp only | intro _

theorem keeps_execFlrStart {z s : State} (h : Keeps z s) (a0 : Fin 64) : ResKeeps z (execFlrStart a0 s) := by
  unfold execFlrStart
  repeat' first
    | (with_reducible first | apply resKeeps_next | assumption | apply keeps_flrStart | apply keeps_begin)
    | split | dsimp only | intro _

theorem keeps_execL0pPartnerRequest {z s : State} (h : Keeps z s) (a0 : Fin 3) : ResKeeps z (execL0pPartnerRequest a0 s) := by
  unfold execL0pPartnerRequest
  repeat' first
    | (with_reducible first | apply resKeeps_next | assumption | apply keeps_l0pSet | apply keeps_begin)
    | split | dsimp only | intro _

theorem keeps_execL0pWindow {z s : State} (h : Keeps z s) (a0 : Fin 101) : ResKeeps z (execL0pWindow a0 s) := by
  unfold execL0pWindow
  repeat' first
    | (with_reducible first | apply resKeeps_next | assumption | apply keeps_l0pSet | apply keeps_begin)
    | ((conv => arg 2; arg 55; skip); with_reducible first | apply keeps_mk | apply keeps_mkc)
    | split | dsimp only | intro _

theorem keeps_execL1Entry {z s : State} (h : Keeps z s)  : ResKeeps z (execL1Entry s) := by
  unfold execL1Entry
  repeat' first
    | (with_reducible first | apply resKeeps_next | assumption | apply keeps_setFld | apply keeps_bump
                            | apply keeps_begin)
    | split | dsimp only | intro _

theorem keeps_execL1Exit {z s : State} (h : Keeps z s)  : ResKeeps z (execL1Exit s) := by
  unfold execL1Exit
  repeat' first
    | (with_reducible first | apply resKeeps_next | assumption | apply keeps_begin | apply keeps_setFld)
    | split | dsimp only | intro _

theorem keeps_execLinkDown {z s : State} (h : Keeps z s) (a0 : LinkDownCause) : ResKeeps z (execLinkDown a0 s) := by
  unfold execLinkDown
  repeat' first
    | (with_reducible first | apply resKeeps_next | assumption | apply keeps_begin | apply keeps_leaveDlActive)
    | split | dsimp only | intro _

theorem keeps_execMsixSend {z s : State} (h : Keeps z s) (a0 : Fin 4096) : ResKeeps z (execMsixSend a0 s) := by
  unfold execMsixSend
  repeat' first
    | (with_reducible first | apply resKeeps_next | assumption | apply keeps_sendTlp | apply keeps_setFld
                            | apply keeps_bump | apply keeps_begin)
    | split | dsimp only | intro _

theorem keeps_execPcieLinkUp {z s : State} (h : Keeps z s) (a0 : Fin 6) (a1 : Fin 5) (a2 : Bool) : ResKeeps z (execPcieLinkUp a0 a1 a2 s) := by
  unfold execPcieLinkUp
  repeat' first
    | (with_reducible first | apply resKeeps_next | assumption | apply keeps_fault | apply keeps_setReg
                            | apply keeps_begin)
    | ((conv => arg 2; arg 55; skip); with_reducible first | apply keeps_mk | apply keeps_mkc)
    | split | dsimp only | intro _

theorem keeps_execPerstNAssert {z s : State} (h : Keeps z s)  : ResKeeps z (execPerstNAssert s) := by
  unfold execPerstNAssert
  repeat' first
    | (with_reducible first | apply resKeeps_next | assumption | apply keeps_begin | apply keeps_leaveDlActive)
    | split | dsimp only | intro _

theorem keeps_execVfEnableWrite {z s : State} (h : Keeps z s) (a0 : Bool) : ResKeeps z (execVfEnableWrite a0 s) := by
  unfold execVfEnableWrite
  repeat' first
    | (with_reducible first | apply resKeeps_next | assumption | apply keeps_vfsOff | apply keeps_setCfg
                            | apply keeps_begin)
    | split | dsimp only | intro _

theorem keeps_jrnPower {z s : State} (h : Keeps z s) (a1 : ℕ) (a2 : ℕ) (a3 : ℕ) (a4 : ℕ) : Keeps z (State.jrnPower s a1 a2 a3 a4) := by
  unfold State.jrnPower
  repeat' first
    | (with_reducible first | assumption | apply keeps_journalNow)
    | split | dsimp only | intro _

theorem keeps_capStacks {z s : State} (h : Keeps z s) (a1 : ℕ) : Keeps z (State.capStacks s a1) := by
  unfold State.capStacks
  repeat' first
    | (with_reducible first | assumption | apply keeps_setFld | apply keeps_each)
    | split | dsimp only | intro _

theorem keeps_applyLevel {z s : State} (h : Keeps z s) (a1 : ℕ) : Keeps z (State.applyLevel s a1) := by
  unfold State.applyLevel
  repeat' first
    | (with_reducible first | assumption | apply keeps_setFld | apply keeps_jrnPower | apply keeps_capStacks)
    | split | dsimp only | intro _

theorem keeps_freshTransition {z s : State} (h : Keeps z s)  : Keeps z (State.freshTransition s) := by
  unfold State.freshTransition
  repeat' first
    | (with_reducible first | assumption)
    | ((conv => arg 2; arg 55; skip); with_reducible first | apply keeps_mk | apply keeps_mkc)
    | split | dsimp only | intro _

theorem keeps_setMode {z s : State} (h : Keeps z s) (a1 : ℕ) (a2 : ℕ) (a3 : ℕ) : Keeps z (State.setMode s a1 a2 a3) := by
  unfold State.setMode
  repeat' first
    | (with_reducible first | assumption | apply keeps_applyLevel | apply keeps_journalNow | apply keeps_setFld)
    | split | dsimp only | intro _

theorem keeps_rejectMode {z s : State} (h : Keeps z s) (a1 : ℕ) (a2 : ℕ) : Keeps z (State.rejectMode s a1 a2) := by
  unfold State.rejectMode
  repeat' first
    | (with_reducible first | assumption | apply keeps_setFld | apply keeps_interrupt)
    | split | dsimp only | intro _

theorem keeps_autoMode {z s : State} (h : Keeps z s) (a1 : ℕ) (a2 : ℕ) : Keeps z (State.autoMode s a1 a2) := by
  unfold State.autoMode
  repeat' first
    | (with_reducible first | assumption | apply keeps_flushAll | apply keeps_freshTransition | apply keeps_when
                            | apply keeps_setMode | apply keeps_interrupt | apply keeps_rejectMode | apply keeps_setFld)
    | ((conv => arg 2; arg 55; skip); with_reducible first | apply keeps_mk | apply keeps_mkc)
    | split | dsimp only | intro _

theorem keeps_completeMode {z s : State} (h : Keeps z s)  : Keeps z (State.completeMode s) := by
  unfold State.completeMode
  repeat' first
    | (with_reducible first | assumption | apply keeps_freshTransition | apply keeps_interrupt | apply keeps_setMode
                            | apply keeps_setFld)
    | ((conv => arg 2; arg 55; skip); with_reducible first | apply keeps_mk | apply keeps_mkc)
    | split | dsimp only | intro _

theorem keeps_setDom {z s : State} (h : Keeps z s) (a1 : ℕ) (a2 : ℕ) : Keeps z (State.setDom s a1 a2) := by
  unfold State.setDom
  repeat' first
    | (with_reducible first | assumption | apply keeps_satFld | apply keeps_setFld)
    | ((conv => arg 2; arg 55; skip); with_reducible first | apply keeps_mk | apply keeps_mkc)
    | split | dsimp only | intro _

theorem keeps_dropChart {z s : State} (h : Keeps z s)  : Keeps z (State.dropChart s) := by
  unfold State.dropChart
  repeat' first
    | (with_reducible first | assumption)
    | ((conv => arg 2; arg 55; skip); with_reducible first | apply keeps_mk | apply keeps_mkc)
    | split | dsimp only | intro _

theorem keeps_loseCopies {z s : State} (h : Keeps z s) (a1 : Copy → Bool) : Keeps z (State.loseCopies s a1) := by
  unfold State.loseCopies
  repeat' first
    | (with_reducible first | assumption | apply keeps_release | apply keeps_each)
    | ((conv => arg 2; arg 55; skip); with_reducible first | apply keeps_mk | apply keeps_mkc)
    | split | dsimp only | intro _

theorem keeps_dropTables {z s : State} (h : Keeps z s) (a1 : ℕ → Bool) (a2 : ℕ → Bool) (a3 : ℕ → Bool) : Keeps z (State.dropTables s a1 a2 a3) := by
  unfold State.dropTables
  repeat' first
    | (with_reducible first | assumption)
    | ((conv => arg 2; arg 55; skip); with_reducible first | apply keeps_mk | apply keeps_mkc)
    | split | dsimp only | intro _

theorem keeps_dropRepl {z s : State} (h : Keeps z s) (a1 : ℕ) : Keeps z (State.dropRepl s a1) := by
  unfold State.dropRepl
  repeat' first
    | (with_reducible first | assumption | apply keeps_setBuf | apply keeps_loseCopies | apply keeps_dropTables)
    | ((conv => arg 2; arg 55; skip); with_reducible first | apply keeps_mk | apply keeps_mkc)
    | split | dsimp only | intro _

theorem keeps_dropStore {z s : State} (h : Keeps z s) (a1 : ℕ) (a2 : Bool) : Keeps z (State.dropStore s a1 a2) := by
  unfold State.dropStore
  repeat' first
    | (with_reducible first | assumption | apply keeps_dropTables)
    | ((conv => arg 2; arg 55; skip); with_reducible first | apply keeps_mk | apply keeps_mkc)
    | split | dsimp only | intro _

theorem keeps_dropQuarter {z s : State} (h : Keeps z s) (a1 : ℕ) (a2 : ℕ) : Keeps z (State.dropQuarter s a1 a2) := by
  unfold State.dropQuarter
  repeat' first
    | (with_reducible first | assumption | apply keeps_setCopy | apply keeps_each)
    | ((conv => arg 2; arg 55; skip); with_reducible first | apply keeps_mk | apply keeps_mkc)
    | split | dsimp only | intro _

theorem keeps_dropPanel {z s : State} (h : Keeps z s) (a1 : ℕ) : Keeps z (State.dropPanel s a1) := by
  unfold State.dropPanel
  repeat' first
    | (with_reducible first | assumption | apply keeps_setTwin | apply keeps_panelClear | apply keeps_setPanelQueue
                            | apply keeps_setLookup | apply keeps_each)
    | ((conv => arg 2; arg 55; skip); with_reducible first | apply keeps_mk | apply keeps_mkc)
    | split | dsimp only | intro _

theorem keeps_dropStack {z s : State} (h : Keeps z s) (a1 : ℕ) : Keeps z (State.dropStack s a1) := by
  unfold State.dropStack
  repeat' first
    | (with_reducible first | assumption | apply keeps_dropSpilled | apply keeps_each)
    | ((conv => arg 2; arg 55; skip); with_reducible first | apply keeps_mk | apply keeps_mkc)
    | split | dsimp only | intro _

theorem keeps_dropOctet {z s : State} (h : Keeps z s) (a1 : ℕ) : Keeps z (State.dropOctet s a1) := by
  unfold State.dropOctet
  repeat' first
    | (with_reducible first | assumption | apply keeps_zeroOctet | apply keeps_loseCopies)
    | ((conv => arg 2; arg 55; skip); with_reducible first | apply keeps_mk | apply keeps_mkc)
    | split | dsimp only | intro _

theorem keeps_dropPipe {z s : State} (h : Keeps z s) (a1 : ℕ) : Keeps z (State.dropPipe s a1) := by
  unfold State.dropPipe
  repeat' first
    | (with_reducible first | assumption | apply keeps_release | apply keeps_each)
    | ((conv => arg 2; arg 55; skip); with_reducible first | apply keeps_mk | apply keeps_mkc)
    | split | dsimp only | intro _

theorem keeps_dropUnit {z s : State} (h : Keeps z s) (d : Nat) : Keeps z (s.dropUnit d) := by
  unfold State.dropUnit
  by_cases h0 : d < 16
  · rw [if_pos h0]; exact keeps_dropPipe h _
  rw [if_neg h0]
  by_cases h1 : d < 32
  · rw [if_pos h1]; exact keeps_dropOctet h _
  rw [if_neg h1]
  by_cases h2 : d < 36
  · rw [if_pos h2]; exact keeps_dropStack h _
  rw [if_neg h2]
  by_cases h3 : d < 44
  · rw [if_pos h3]; exact keeps_each h (fun _ _ ht => keeps_dropPanel ht _)
  rw [if_neg h3]
  by_cases h4 : d < 48
  · rw [if_pos h4]; exact keeps_dropQuarter h _ _
  rw [if_neg h4]
  by_cases h5 : d < 50
  · rw [if_pos h5]; exact keeps_dropStore h _ _
  rw [if_neg h5]
  by_cases h6 : d < 52
  · rw [if_pos h6]; exact keeps_dropStore h _ _
  rw [if_neg h6]
  by_cases h7 : d < 54
  · rw [if_pos h7]; exact keeps_dropRepl h _
  rw [if_neg h7]
  by_cases h8 : d < 56
  · rw [if_pos h8]; exact keeps_mk h
  rw [if_neg h8]
  by_cases h9 : d = 56
  · rw [if_pos h9]; exact keeps_hostFacingReset h
  rw [if_neg h9]
  by_cases h10 : d = 57
  · rw [if_pos h10]; exact keeps_dropChart h
  rw [if_neg h10]
  by_cases h11 : d = 63
  · rw [if_pos h11]; exact keeps_mk h
  rw [if_neg h11]
  exact h

theorem keeps_dropRegs {z s : State} (h : Keeps z s) : Keeps z s.dropRegs :=
  keeps_mkr h (fun k => ⟨SMap.wf_filter (h.regs k).1 _, SMap.wf_filter (h.regs k).2 _⟩)

theorem keeps_domDown {z s : State} (h : Keeps z s) (a1 : ℕ) (a2 : ℕ) : Keeps z (State.domDown s a1 a2) := by
  unfold State.domDown
  repeat' first
    | (with_reducible first | assumption | apply keeps_setDom | apply keeps_dropUnit | apply keeps_dropRegs)
    | split | dsimp only | intro _

theorem keeps_edgeAvs {z s : State} (h : Keeps z s) (a1 : Bool) : Keeps z (State.edgeAvs s a1) := by
  unfold State.edgeAvs
  repeat' first
    | (with_reducible first | assumption)
    | ((conv => arg 2; arg 55; skip); with_reducible first | apply keeps_mk | apply keeps_mkc)
    | split | dsimp only | intro _

theorem keeps_removeDomain {z s : State} (h : Keeps z s) (a1 : ℕ) : Keeps z (State.removeDomain s a1) := by
  unfold State.removeDomain
  repeat' first
    | (with_reducible first | assumption | apply keeps_domDown | apply keeps_jrnPower)
    | split | dsimp only | intro _

theorem keeps_stepDomain {z s : State} (h : Keeps z s) (a0 : List ℕ) (a2 : ℕ) : Keeps z (State.stepDomain a0 s a2) := by
  unfold State.stepDomain
  repeat' first
    | (with_reducible first | assumption | apply keeps_zeroOctet | apply keeps_when | apply keeps_setDom
                            | apply keeps_removeDomain | apply keeps_fault)
    | ((conv => arg 2; arg 55; skip); with_reducible first | apply keeps_mk | apply keeps_mkc)
    | split | dsimp only | intro _

theorem keeps_edgeDomains {z s : State} (h : Keeps z s) (a1 : List ℕ) : Keeps z (State.edgeDomains s a1) := by
  unfold State.edgeDomains
  repeat' first
    | (with_reducible first | assumption | apply keeps_setDom | apply keeps_stepDomain | apply keeps_each)
    | split | dsimp only | intro _

theorem keeps_edgeLevel {z s : State} (h : Keeps z s)  : Keeps z (State.edgeLevel s) := by
  unfold State.edgeLevel
  repeat' first
    | (with_reducible first | assumption | apply keeps_applyLevel)
    | ((conv => arg 2; arg 55; skip); with_reducible first | apply keeps_mk | apply keeps_mkc)
    | split | dsimp only | intro _

theorem keeps_edgeMode {z s : State} (h : Keeps z s)  : Keeps z (State.edgeMode s) := by
  unfold State.edgeMode
  repeat' first
    | (with_reducible first | assumption | apply keeps_flushAll | apply keeps_setMode)
    | ((conv => arg 2; arg 55; skip); with_reducible first | apply keeps_mk | apply keeps_mkc)
    | split | dsimp only | intro _

theorem keeps_fenceFlush {z s : State} (h : Keeps z s) (a1 : ℕ) : Keeps z (State.fenceFlush s a1) := by
  unfold State.fenceFlush
  repeat' first
    | (with_reducible first | assumption | apply keeps_flushQueue | apply keeps_each)
    | split | dsimp only | intro _

theorem keeps_fenceRest {z s : State} (h : Keeps z s) (a1 : ℕ) : Keeps z (State.fenceRest s a1) := by
  unfold State.fenceRest
  repeat' first
    | (with_reducible first | assumption | apply keeps_startRest)
    | split | dsimp only | intro _

theorem keeps_restStacks {z s : State} (h : Keeps z s)  : Keeps z (State.restStacks s) := by
  unfold State.restStacks
  repeat' first
    | (with_reducible first | assumption | apply keeps_startRest | apply keeps_each)
    | split | dsimp only | intro _

theorem keeps_writeDomCmd {z s : State} (h : Keeps z s) (a1 : BitVec 64) (a2 : BitVec 64) : Keeps z (State.writeDomCmd s a1 a2) := by
  unfold State.writeDomCmd
  repeat' first
    | (with_reducible first | assumption | apply keeps_setFld | apply keeps_setDom | apply keeps_jrnPower
                            | apply keeps_plainWrite)
    | split | dsimp only | intro _

theorem keeps_writeModeReq {z s : State} (h : Keeps z s) (a1 : Agent) (a2 : Bool) (a3 : BitVec 64) (a4 : BitVec 64) : Keeps z (State.writeModeReq s a1 a2 a3 a4) := by
  unfold State.writeModeReq
  repeat' first
    | (with_reducible first | assumption | apply keeps_setFld | apply keeps_freshTransition | apply keeps_rejectMode
                            | apply keeps_plainWrite)
    | ((conv => arg 2; arg 55; skip); with_reducible first | apply keeps_mk | apply keeps_mkc)
    | split | dsimp only | intro _

theorem keeps_execDomainFenceDone {z s : State} (h : Keeps z s) (a0 : Fin 64) : ResKeeps z (execDomainFenceDone a0 s) := by
  unfold execDomainFenceDone
  repeat' first
    | (with_reducible first | apply resKeeps_next | assumption | apply keeps_domDown | apply keeps_setDom
                            | apply keeps_fenceFlush | apply keeps_fenceRest | apply keeps_begin)
    | split | dsimp only | intro _

theorem keeps_execDomainRampDone {z s : State} (h : Keeps z s) (a0 : Fin 64) (a1 : Bool) : ResKeeps z (execDomainRampDone a0 a1 s) := by
  unfold execDomainRampDone
  repeat' first
    | (with_reducible first | apply resKeeps_next | assumption | apply keeps_removeDomain | apply keeps_fault
                            | apply keeps_setDom | apply keeps_begin)
    | split | dsimp only | intro _

theorem keeps_execDomainRestore {z s : State} (h : Keeps z s) (a0 : Agent) (a1 : BitVec 32) : ResKeeps z (execDomainRestore a0 a1 s) := by
  unfold execDomainRestore
  repeat' first
    | (with_reducible first | apply resKeeps_next | assumption | apply keeps_writeDomCmd | apply keeps_begin
                            | apply keeps_writeBy)
    | split | dsimp only | intro _

theorem keeps_execDomainRetWake {z s : State} (h : Keeps z s) (a0 : Fin 64) : ResKeeps z (execDomainRetWake a0 s) := by
  unfold execDomainRetWake
  repeat' first
    | (with_reducible first | apply resKeeps_next | assumption | apply keeps_setDom | apply keeps_begin)
    | split | dsimp only | intro _

theorem keeps_execDrainComplete {z s : State} (h : Keeps z s)  : ResKeeps z (execDrainComplete s) := by
  unfold execDrainComplete
  repeat' first
    | (with_reducible first | apply resKeeps_next | assumption | apply keeps_completeMode | apply keeps_begin)
    | split | dsimp only | intro _

theorem keeps_execDrainTimeout {z s : State} (h : Keeps z s)  : ResKeeps z (execDrainTimeout s) := by
  unfold execDrainTimeout
  repeat' first
    | (with_reducible first | apply resKeeps_next | assumption | apply keeps_flushAll | apply keeps_begin)
    | ((conv => arg 2; arg 55; skip); with_reducible first | apply keeps_mk | apply keeps_mkc)
    | split | dsimp only | intro _

theorem keeps_execHibernateEntry {z s : State} (h : Keeps z s)  : ResKeeps z (execHibernateEntry s) := by
  unfold execHibernateEntry
  repeat' first
    | (with_reducible first | apply resKeeps_next | assumption | apply keeps_restStacks | apply keeps_flushAll
                            | apply keeps_begin)
    | ((conv => arg 2; arg 55; skip); with_reducible first | apply keeps_mk | apply keeps_mkc)
    | split | dsimp only | intro _

theorem keeps_execModeRequest {z s : State} (h : Keeps z s) (a0 : Agent) (a1 : Bool) (a2 : BitVec 32) : ResKeeps z (execModeRequest a0 a1 a2 s) := by
  unfold execModeRequest
  repeat' first
    | (with_reducible first | apply resKeeps_next | assumption | apply keeps_writeModeReq | apply keeps_begin
                            | apply keeps_writeBy)
    | split | dsimp only | intro _

theorem keeps_execPowerWindow {z s : State} (h : Keeps z s) (a0 : Fin 1024) : ResKeeps z (execPowerWindow a0 s) := by
  unfold execPowerWindow
  repeat' first
    | (with_reducible first | apply resKeeps_next | assumption | apply keeps_faultEnds | apply keeps_faultLasting
                            | apply keeps_jrnPower | apply keeps_setFld | apply keeps_begin)
    | ((conv => arg 2; arg 55; skip); with_reducible first | apply keeps_mk | apply keeps_mkc)
    | split | dsimp only | intro _

theorem keeps_domsOff {z s : State} (h : Keeps z s) (a1 : Bool) : Keeps z (State.domsOff s a1) := by
  unfold State.domsOff
  repeat' first
    | (with_reducible first | assumption | apply keeps_setFld | apply keeps_each)
    | split | dsimp only | intro _

theorem keeps_enterCastOn {z s : State} (h : Keeps z s) (a1 : ℕ) : Keeps z (State.enterCastOn s a1) := by
  unfold State.enterCastOn
  repeat' first
    | (with_reducible first | assumption | apply keeps_journalNow | apply keeps_setFld | apply keeps_interrupt
                            | apply keeps_setReg)
    | split | dsimp only | intro _

theorem wf_restartRegs (s : State) : SMap.wf Reg.resetAt s.restartRegs = true := by
  refine SMap.wf_foldl _ _ (fun m b h => ?_) rfl
  split
  · exact h
  · split
    · exact SMap.wf_set h _ _
    · exact SMap.wf_set h _ _

theorem keeps_restart {z s : State} (h : Keeps z s) (a b : Nat) : Keeps z (s.restart a b) := by
  unfold State.restart
  dsimp only
  apply keeps_enterCastOn
  apply keeps_domsOff
  apply keeps_foldl
  · have h2 : Keeps z (match s.leaveDlActive.mode with
        | some r => (s.leaveDlActive.rejectMode 2 r.tag).setFld F.GLB_MODE_BUSY 0 0
        | none => s.leaveDlActive) := by
      split
      · exact keeps_setFld (keeps_rejectMode (keeps_leaveDlActive h) _ _) _ _ _
      · exact keeps_leaveDlActive h
    exact keeps_mkr h2 (fun _ => ⟨wf_restartRegs _, rfl⟩)
  · intro t f ht
    exact keeps_setFld ht _ _ _

theorem keeps_loadWdog {z s : State} (h : Keeps z s)  : Keeps z (State.loadWdog s) := by
  unfold State.loadWdog
  repeat' first
    | (with_reducible first | assumption)
    | ((conv => arg 2; arg 55; skip); with_reducible first | apply keeps_mk | apply keeps_mkc)
    | split | dsimp only | intro _

theorem keeps_writeBootCtl {z s : State} (h : Keeps z s) (a1 : Agent) (a2 : BitVec 64) (a3 : BitVec 64) : Keeps z (State.writeBootCtl s a1 a2 a3) := by
  unfold State.writeBootCtl
  repeat' first
    | (with_reducible first | assumption | apply keeps_restart | apply keeps_loadWdog | apply keeps_setFld
                            | apply keeps_when)
    | ((conv => arg 2; arg 55; skip); with_reducible first | apply keeps_mk | apply keeps_mkc)
    | split | dsimp only | intro _

theorem keeps_bootCtl {z s : State} (h : Keeps z s) (a1 : Agent) (a2 : BitVec 32) (a3 : BitVec 32) : Keeps z (State.bootCtl s a1 a2 a3) := by
  unfold State.bootCtl
  repeat' first
    | (with_reducible first | assumption | apply keeps_writeBootCtl | apply keeps_begin | apply keeps_writeBy)
    | split | dsimp only | intro _

theorem keeps_jrnStart {z s : State} (h : Keeps z s) (a1 : ℕ) (a2 : ℕ) : Keeps z (State.jrnStart s a1 a2) := by
  unfold State.jrnStart
  repeat' first
    | (with_reducible first | assumption | apply keeps_journalNow)
    | split | dsimp only | intro _

theorem keeps_castC3 {z s : State} (h : Keeps z s) : Keeps z s.castC3 :=
  have h1 := keeps_setReg (keeps_setDom (keeps_setDom h 56 3) 63 3) .TIK_COUNT 0 0
  have h2 := keeps_setReg h1 .TIK_CLK 0 0
  keeps_mkr h2 (fun k => ⟨(h2.regs k).1, (h1.regs k).1⟩)

theorem keeps_fallback {z s : State} (h : Keeps z s) (a1 : ℕ) : Keeps z (State.fallback s a1) := by
  unfold State.fallback
  repeat' first
    | (with_reducible first | assumption | apply keeps_loadWdog | apply keeps_interrupt | apply keeps_setMode
                            | apply keeps_jrnStart | apply keeps_castC3 | apply keeps_domDown | apply keeps_setFld
                            | apply keeps_setReg | apply keeps_fault)
    | ((conv => arg 2; arg 55; skip); with_reducible first | apply keeps_mk | apply keeps_mkc)
    | split | dsimp only | intro _

theorem keeps_loadCaston {z s : State} (h : Keeps z s) (a1 : ℕ) (a2 : Bytes × List Word × Word) : Keeps z (State.loadCaston s a1 a2) := by
  unfold State.loadCaston
  repeat' first
    | (with_reducible first | assumption | apply keeps_setTabs)
    | ((conv => arg 2; arg 55; skip); with_reducible first | apply keeps_mk | apply keeps_mkc)
    | split | dsimp only | intro _

theorem keeps_loadStitch {z s : State} (h : Keeps z s) (a1 : ℕ) (a2 : ℕ) (a3 : Bytes) : Keeps z (State.loadStitch s a1 a2 a3) := by
  unfold State.loadStitch
  repeat' first
    | (with_reducible first | assumption | apply keeps_setFld | apply keeps_setReg | apply keeps_foldl
                            | apply keeps_foldl_fst | apply keeps_foldl_snd | apply keeps_foldl_mid)
    | split | dsimp only | intro _

theorem keeps_loadSection {z s : State} (h : Keeps z s) (a1 : ℕ) (a2 : List (Fin 16 × Bool)) (a3 : ℕ) : Keeps z (State.loadSection s a1 a2 a3) := by
  unfold State.loadSection
  repeat' first
    | (with_reducible first | assumption | apply keeps_loadCaston | apply keeps_loadStitch | apply keeps_each
                            | apply keeps_foldl | apply keeps_foldl_fst | apply keeps_foldl_snd | apply keeps_foldl_mid)
    | ((conv => arg 2; arg 55; skip); with_reducible first | apply keeps_mk | apply keeps_mkc)
    | split | dsimp only | intro _

theorem keeps_castC6 {z s : State} (h : Keeps z s) (a1 : List (Fin 16 × Bool)) : Keeps z (State.castC6 s a1) := by
  unfold State.castC6
  repeat' first
    | (with_reducible first | assumption | apply keeps_setFld | apply keeps_drawn | apply keeps_setReg
                            | apply keeps_loadSection | apply keeps_each)
    | ((conv => arg 2; arg 55; skip); with_reducible first | apply keeps_mk | apply keeps_mkc)
    | split | dsimp only | intro _

theorem keeps_castLosses {z s : State} (h : Keeps z s) (a1 : CastOn) : Keeps z (State.castLosses s a1) := by
  unfold State.castLosses
  repeat' first
    | (with_reducible first | assumption | apply keeps_removeDomain | apply keeps_fault | apply keeps_foldl
                            | apply keeps_foldl_fst | apply keeps_foldl_snd | apply keeps_foldl_mid)
    | split | dsimp only | intro _

theorem keeps_castPower {z s : State} (h : Keeps z s) (a1 : CastOn) : Keeps z (State.castPower s a1) := by
  unfold State.castPower
  repeat' first
    | (with_reducible first | assumption | apply keeps_setDom | apply keeps_removeDomain | apply keeps_fault
                            | apply keeps_each)
    | split | dsimp only | intro _

theorem keeps_castC4 {z s : State} (h : Keeps z s) (a1 : CastOn) : Keeps z (State.castC4 s a1) := by
  unfold State.castC4
  repeat' first
    | (with_reducible first | assumption | apply keeps_interrupt | apply keeps_setMode | apply keeps_setFld
                            | apply keeps_castC6 | apply keeps_castLosses | apply keeps_castPower)
    | ((conv => arg 2; arg 55; skip); with_reducible first | apply keeps_mk | apply keeps_mkc)
    | split | dsimp only | intro _

theorem keeps_useSlot {z s : State} (h : Keeps z s) (a1 : ℕ) (a2 : ℕ) : Keeps z (State.useSlot s a1 a2) := by
  unfold State.useSlot
  repeat' first
    | (with_reducible first | assumption | apply keeps_setFld)
    | ((conv => arg 2; arg 55; skip); with_reducible first | apply keeps_mk | apply keeps_mkc)
    | split | dsimp only | intro _

theorem keeps_slotResult {z s : State} (h : Keeps z s) (a1 : ℕ) (a2 : ℕ) : Keeps z (State.slotResult s a1 a2) := by
  unfold State.slotResult
  repeat' first
    | (with_reducible first | assumption | apply keeps_fault | apply keeps_setFld)
    | split | dsimp only | intro _

theorem keeps_castC2 {z s : State} (h : Keeps z s) (a1 : CastOn) : Keeps z (State.castC2 s a1) := by
  unfold State.castC2
  repeat' first
    | (with_reducible first | assumption | apply keeps_fallback | apply keeps_castC3 | apply keeps_castC4
                            | apply keeps_useSlot | apply keeps_jrnStart | apply keeps_loadWdog | apply keeps_slotResult)
    | ((conv => arg 2; arg 55; skip); with_reducible first | apply keeps_mk | apply keeps_mkc)
    | split | dsimp only | intro _

theorem keeps_castOn {z s : State} (h : Keeps z s) (a1 : CastOn) : Keeps z (State.castOn s a1) := by
  unfold State.castOn
  repeat' first
    | (with_reducible first | assumption | apply keeps_castC2 | apply keeps_fallback | apply keeps_loadWdog
                            | apply keeps_setFld | apply keeps_setReg | apply keeps_setDom)
    | ((conv => arg 2; arg 55; skip); with_reducible first | apply keeps_mk | apply keeps_mkc)
    | split | dsimp only | intro _

theorem keeps_confirmed {z s : State} (h : Keeps z s)  : Keeps z (State.confirmed s) := by
  unfold State.confirmed
  repeat' first
    | (with_reducible first | assumption | apply keeps_setFld)
    | split | dsimp only | intro _

theorem keeps_edgeBoot {z s : State} (h : Keeps z s)  : Keeps z (State.edgeBoot s) := by
  unfold State.edgeBoot
  repeat' first
    | (with_reducible first | assumption | apply keeps_confirmed)
    | ((conv => arg 2; arg 55; skip); with_reducible first | apply keeps_mk | apply keeps_mkc)
    | split | dsimp only | intro _

theorem keeps_writeNow {z s : State} (h : Keeps z s) (a1 : ℕ) : Keeps z (State.writeNow s a1) := by
  unfold State.writeNow
  repeat' first
    | (with_reducible first | assumption | apply keeps_jrnAdvance | apply keeps_foldl | apply keeps_foldl_fst
                            | apply keeps_foldl_snd | apply keeps_foldl_mid)
    | ((conv => arg 2; arg 55; skip); with_reducible first | apply keeps_mk | apply keeps_mkc)
    | split | dsimp only | intro _

theorem keeps_turnOff {z s : State} (h : Keeps z s) (b : Bool) : Keeps z (s.turnOff b) := by
  unfold State.turnOff
  dsimp only
  apply keeps_domsOff
  apply keeps_foldl
  · apply keeps_setReg
    apply keeps_setReg
    exact keeps_mkr h (fun _ => ⟨rfl, rfl⟩)
  · intro t f ht
    exact keeps_setFld ht _ _ _

theorem keeps_supplyLoss {z s : State} (h : Keeps z s) (a1 : ℕ) (a2 : Bool) (a3 : Bool) : Keeps z (State.supplyLoss s a1 a2 a3) := by
  unfold State.supplyLoss
  repeat' first
    | (with_reducible first | assumption | apply keeps_writeNow | apply keeps_turnOff | apply keeps_fault)
    | ((conv => arg 2; arg 55; skip); with_reducible first | apply keeps_mk | apply keeps_mkc)
    | split | dsimp only | intro _

theorem keeps_writeSlotCtl {z s : State} (h : Keeps z s) (a1 : BitVec 64) (a2 : BitVec 64) : Keeps z (State.writeSlotCtl s a1 a2) := by
  unfold State.writeSlotCtl
  repeat' first
    | (with_reducible first | assumption | apply keeps_setFld | apply keeps_plainWrite)
    | ((conv => arg 2; arg 55; skip); with_reducible first | apply keeps_mk | apply keeps_mkc)
    | split | dsimp only | intro _

theorem keeps_execCastOnStepTimeout {z s : State} (h : Keeps z s)  : ResKeeps z (execCastOnStepTimeout s) := by
  unfold execCastOnStepTimeout
  repeat' first
    | (with_reducible first | apply resKeeps_next | assumption | apply keeps_restart | apply keeps_begin)
    | split | dsimp only | intro _

theorem keeps_execConfirm {z s : State} (h : Keeps z s) (a0 : Agent) (a1 : BitVec 32) : ResKeeps z (execConfirm a0 a1 s) := by
  unfold execConfirm
  repeat' first
    | (with_reducible first | apply resKeeps_next | assumption | apply keeps_bootCtl)
    | split | dsimp only | intro _

theorem keeps_execKick {z s : State} (h : Keeps z s) (a0 : Agent) (a1 : BitVec 32) : ResKeeps z (execKick a0 a1 s) := by
  unfold execKick
  repeat' first
    | (with_reducible first | apply resKeeps_next | assumption | apply keeps_bootCtl)
    | split | dsimp only | intro _

theorem keeps_execPorNAssert {z s : State} (h : Keeps z s)  : ResKeeps z (execPorNAssert s) := by
  unfold execPorNAssert
  repeat' first
    | (with_reducible first | apply resKeeps_next | assumption | apply keeps_begin | apply keeps_turnOff)
    | ((conv => arg 2; arg 55; skip); with_reducible first | apply keeps_mk | apply keeps_mkc)
    | split | dsimp only | intro _

theorem keeps_execRailFault {z s : State} (h : Keeps z s) (a0 : Bool) : ResKeeps z (execRailFault a0 s) := by
  unfold execRailFault
  repeat' first
    | (with_reducible first | apply resKeeps_next | assumption | apply keeps_begin | apply keeps_supplyLoss)
    | split | dsimp only | intro _

theorem keeps_execRefclkLoss {z s : State} (h : Keeps z s)  : ResKeeps z (execRefclkLoss s) := by
  unfold execRefclkLoss
  repeat' first
    | (with_reducible first | apply resKeeps_next | assumption | apply keeps_turnOff | apply keeps_begin)
    | ((conv => arg 2; arg 55; skip); with_reducible first | apply keeps_mk | apply keeps_mkc)
    | split | dsimp only | intro _

theorem keeps_execRestart {z s : State} (h : Keeps z s) (a0 : Agent) (a1 : BitVec 32) : ResKeeps z (execRestart a0 a1 s) := by
  unfold execRestart
  repeat' first
    | (with_reducible first | apply resKeeps_next | assumption | apply keeps_bootCtl)
    | split | dsimp only | intro _

theorem keeps_execRevoke0 {z s : State} (h : Keeps z s) (a0 : Agent) (a1 : BitVec 32) : ResKeeps z (execRevoke0 a0 a1 s) := by
  unfold execRevoke0
  repeat' first
    | (with_reducible first | apply resKeeps_next | assumption | apply keeps_bootCtl)
    | split | dsimp only | intro _

theorem keeps_execSlotLineWritten {z s : State} (h : Keeps z s)  : ResKeeps z (execSlotLineWritten s) := by
  unfold execSlotLineWritten
  repeat' first
    | (with_reducible first | apply resKeeps_next | assumption | apply keeps_setFld | apply keeps_begin)
    | ((conv => arg 2; arg 55; skip); with_reducible first | apply keeps_mk | apply keeps_mkc)
    | split | dsimp only | intro _

theorem keeps_execSlotWrite {z s : State} (h : Keeps z s) (a0 : Agent) (a1 : BitVec 32) : ResKeeps z (execSlotWrite a0 a1 s) := by
  unfold execSlotWrite
  repeat' first
    | (with_reducible first | apply resKeeps_next | assumption | apply keeps_writeSlotCtl | apply keeps_begin
                            | apply keeps_writeBy)
    | split | dsimp only | intro _

theorem keeps_execStart {z s : State} (h : Keeps z s) (a0 : CastOn) : ResKeeps z (execStart a0 s) := by
  unfold execStart
  repeat' first
    | (with_reducible first | apply resKeeps_next | assumption | apply keeps_enterCastOn | apply keeps_castOn
                            | apply keeps_begin)
    | split | dsimp only | intro _

theorem keeps_execStartSettled {z s : State} (h : Keeps z s)  : ResKeeps z (execStartSettled s) := by
  unfold execStartSettled
  repeat' first
    | (with_reducible first | apply resKeeps_next | assumption | apply keeps_confirmed | apply keeps_begin)
    | split | dsimp only | intro _

theorem keeps_execSvnCommit {z s : State} (h : Keeps z s) (a0 : Agent) (a1 : BitVec 32) : ResKeeps z (execSvnCommit a0 a1 s) := by
  unfold execSvnCommit
  repeat' first
    | (with_reducible first | apply resKeeps_next | assumption | apply keeps_bootCtl)
    | split | dsimp only | intro _

theorem keeps_execThermalTrip {z s : State} (h : Keeps z s)  : ResKeeps z (execThermalTrip s) := by
  unfold execThermalTrip
  repeat' first
    | (with_reducible first | apply resKeeps_next | assumption | apply keeps_begin | apply keeps_supplyLoss)
    | split | dsimp only | intro _

theorem keeps_execTransitionComplete {z s : State} (h : Keeps z s)  : ResKeeps z (execTransitionComplete s) := by
  unfold execTransitionComplete
  repeat' first
    | (with_reducible first | apply resKeeps_next | assumption | apply keeps_completeMode | apply keeps_castC6
                            | apply keeps_begin)
    | split | dsimp only | intro _

theorem keeps_execWatchdogExpire {z s : State} (h : Keeps z s)  : ResKeeps z (execWatchdogExpire s) := by
  unfold execWatchdogExpire
  repeat' first
    | (with_reducible first | apply resKeeps_next | assumption | apply keeps_restart | apply keeps_begin)
    | split | dsimp only | intro _

end Sys2Proof.Machine
end

