-- ==== Sys2Proof/Laws/KeepsD.lean ====
section
/-! SUPPORT. One lemma `keeps_<name>` for each operation and each meaning of: Debug, PcieCfg, RegAccess, HostIo, Chart, ChartRead, ChartCommit, Faults, TickEdge. -/

set_option maxRecDepth 4000
set_option linter.unusedTactic false
set_option linter.unreachableTactic false

open Host

namespace Sys2Proof.Machine

theorem keeps_debugLock {z s : State} (h : Keeps z s)  : Keeps z (State.debugLock s) := by
  unfold State.debugLock
  repeat' first
    | (with_reducible first | assumption | apply keeps_setFld)
    | ((conv => arg 2; arg 55; skip); with_reducible first | apply keeps_mk | apply keeps_mkc)
    | split | dsimp only | intro _

theorem keeps_unlockGo {z s : State} (h : Keeps z s) (a1 : ℕ) : Keeps z (State.unlockGo s a1) := by
  unfold State.unlockGo
  repeat' first
    | (with_reducible first | assumption | apply keeps_setFld)
    | ((conv => arg 2; arg 55; skip); with_reducible first | apply keeps_mk | apply keeps_mkc)
    | split | dsimp only | intro _

theorem keeps_freshNonce {z s : State} (h : Keeps z s)  : Keeps z (State.freshNonce s) := by
  unfold State.freshNonce
  repeat' first
    | (with_reducible first | assumption | apply keeps_setReg | apply keeps_drawn | apply keeps_each
                            | apply keeps_setFld)
    | split | dsimp only | intro _

theorem keeps_writeDbgCtl {z s : State} (h : Keeps z s) (a1 : Bool) (a2 : BitVec 64) (a3 : BitVec 64) : Keeps z (State.writeDbgCtl s a1 a2 a3) := by
  unfold State.writeDbgCtl
  repeat' first
    | (with_reducible first | assumption | apply keeps_debugLock | apply keeps_unlockGo | apply keeps_freshNonce
                            | apply keeps_plainWrite | apply keeps_when)
    | split | dsimp only | intro _

theorem keeps_dbgCtl {z s : State} (h : Keeps z s) (a1 : Agent) (a2 : BitVec 32) (a3 : BitVec 32) (a4 : Bool) : Keeps z (State.dbgCtl s a1 a2 a3 a4) := by
  unfold State.dbgCtl
  repeat' first
    | (with_reducible first | assumption | apply keeps_writeDbgCtl | apply keeps_begin | apply keeps_writeBy)
    | split | dsimp only | intro _

theorem keeps_edgeDebug {z s : State} (h : Keeps z s)  : Keeps z (State.edgeDebug s) := by
  unfold State.edgeDebug
  repeat' first
    | (with_reducible first | assumption | apply keeps_setFld | apply keeps_zeroOctet | apply keeps_each
                            | apply keeps_when)
    | ((conv => arg 2; arg 55; skip); with_reducible first | apply keeps_mk | apply keeps_mkc)
    | split | dsimp only | intro _

theorem keeps_zeroNonce {z s : State} (h : Keeps z s)  : Keeps z (State.zeroNonce s) := by
  unfold State.zeroNonce
  repeat' first
    | (with_reducible first | assumption | apply keeps_setReg | apply keeps_each | apply keeps_setFld)
    | split | dsimp only | intro _

theorem keeps_execChallenge {z s : State} (h : Keeps z s) (a0 : Agent) (a1 : BitVec 32) : ResKeeps z (execChallenge a0 a1 s) := by
  unfold execChallenge
  repeat' first
    | (with_reducible first | apply resKeeps_next | assumption | apply keeps_dbgCtl)
    | split | dsimp only | intro _

theorem keeps_execLock {z s : State} (h : Keeps z s) (a0 : Agent) (a1 : BitVec 32) : ResKeeps z (execLock a0 a1 s) := by
  unfold execLock
  repeat' first
    | (with_reducible first | apply resKeeps_next | assumption | apply keeps_dbgCtl)
    | split | dsimp only | intro _

theorem keeps_execSmbusRequest {z s : State} (h : Keeps z s) (a0 : SmbusReq) : ResKeeps z (execSmbusRequest a0 s) := by
  unfold execSmbusRequest
  repeat' first
    | (with_reducible first | apply resKeeps_next | assumption | apply keeps_emit | apply keeps_begin)
    | ((conv => arg 2; arg 55; skip); with_reducible first | apply keeps_mk | apply keeps_mkc)
    | split | dsimp only | intro _

theorem keeps_execTapInstruction {z s : State} (h : Keeps z s) (a0 : TapInstr) : ResKeeps z (execTapInstruction a0 s) := by
  unfold execTapInstruction
  repeat' first
    | (with_reducible first | apply resKeeps_next | assumption | apply keeps_emit | apply keeps_drawn
                            | apply keeps_begin)
    | ((conv => arg 2; arg 55; skip); with_reducible first | apply keeps_mk | apply keeps_mkc)
    | split | dsimp only | intro _

theorem keeps_execTapReset {z s : State} (h : Keeps z s)  : ResKeeps z (execTapReset s) := by
  unfold execTapReset
  repeat' first
    | (with_reducible first | apply resKeeps_next | assumption | apply keeps_begin)
    | ((conv => arg 2; arg 55; skip); with_reducible first | apply keeps_mk | apply keeps_mkc)
    | split | dsimp only | intro _

theorem keeps_execUnlockGo {z s : State} (h : Keeps z s) (a0 : Agent) (a1 : BitVec 32) (a2 : Bool) : ResKeeps z (execUnlockGo a0 a1 a2 s) := by
  unfold execUnlockGo
  repeat' first
    | (with_reducible first | apply resKeeps_next | assumption | apply keeps_dbgCtl | apply keeps_begin)
    | split | dsimp only | intro _

theorem keeps_execUnlockVerifyDone {z s : State} (h : Keeps z s)  : ResKeeps z (execUnlockVerifyDone s) := by
  unfold execUnlockVerifyDone
  repeat' first
    | (with_reducible first | apply resKeeps_next | assumption | apply keeps_satFld | apply keeps_fault
                            | apply keeps_setFld | apply keeps_zeroNonce | apply keeps_begin)
    | ((conv => arg 2; arg 55; skip); with_reducible first | apply keeps_mk | apply keeps_mkc)
    | split | dsimp only | intro _

theorem keeps_cfgEffect {z s : State} (h : Keeps z s) (u : State) (a2 : ℕ) (a3 : ℕ) (a4 : BitVec 32) (a5 : BitVec 32) : Keeps z (State.cfgEffect s u a2 a3 a4 a5) := by
  unfold State.cfgEffect
  repeat' first
    | (with_reducible first | assumption | apply keeps_vfsOff | apply keeps_ltrUpdate | apply keeps_flrStart
                            | apply keeps_pf1Refresh | apply keeps_busMasterStops)
    | ((conv => arg 2; arg 55; skip); with_reducible first | apply keeps_mk | apply keeps_mkc)
    | split | dsimp only | intro _

theorem keeps_writePower {z s : State} (h : Keeps z s) (a1 : ℕ) (a2 : ℕ) : Keeps z (State.writePower s a1 a2) := by
  unfold State.writePower
  repeat' first
    | (with_reducible first | assumption | apply keeps_leaveD3 | apply keeps_enterD3)
    | split | dsimp only | intro _

theorem keeps_cfgWrite {z s : State} (h : Keeps z s) (a1 : ℕ) (a2 : ℕ) (a3 : BitVec 4) (a4 : BitVec 32) : Keeps z (State.cfgWrite s a1 a2 a3 a4) := by
  unfold State.cfgWrite
  repeat' first
    | (with_reducible first | assumption | apply keeps_setCfg | apply keeps_cfgEffect | apply keeps_writePower
                            | apply keeps_plainWrite | apply keeps_writeCageCtl)
    | ((conv => arg 2; arg 55; skip); with_reducible first | apply keeps_mk | apply keeps_mkc)
    | split | dsimp only | intro _

theorem keeps_execConfigRequest {z s : State} (h : Keeps z s) (a0 : Fin 64) (a1 : Fin 1024) (a2 : Bool) (a3 : BitVec 4) (a4 : BitVec 32) : ResKeeps z (execConfigRequest a0 a1 a2 a3 a4 s) := by
  unfold execConfigRequest
  repeat' first
    | (with_reducible first | apply resKeeps_next | assumption | apply keeps_cfgWrite | apply keeps_bump
                            | apply keeps_emit | apply keeps_begin)
    | split | dsimp only | intro _

theorem keeps_readWhole {z s : State} (h : Keeps z s) (a1 : Reg) (a2 : ℕ) : Keeps z (State.readWhole s a1 a2).2 := by
  unfold State.readWhole
  repeat' first
    | (with_reducible first | assumption)
    | ((conv => arg 2; arg 55; skip); with_reducible first | apply keeps_mk | apply keeps_mkc)
    | split | dsimp only | intro _
theorem keeps_readWhole_eq {z s t : State} {b0 : BitVec 64} {a1 : Reg} {a2 : ℕ} (e : State.readWhole s a1 a2 = (b0, t)) (h : Keeps z s) : Keeps z t := by
  have k := keeps_readWhole h a1 a2
  rw [e] at k; exact k

theorem keeps_setShadow {z s : State} (h : Keeps z s) (a1 : Agent) (a2 : Option Half) : Keeps z (State.setShadow s a1 a2) := by
  unfold State.setShadow
  repeat' first
    | (with_reducible first | assumption)
    | ((conv => arg 2; arg 55; skip); with_reducible first | apply keeps_mk | apply keeps_mkc)
    | split | dsimp only | intro _

theorem keeps_readHalf {z s : State} (h : Keeps z s) (a1 : Agent) (a2 : Reg) (a3 : ℕ) (a4 : Bool) : Keeps z (State.readHalf s a1 a2 a3 a4).2 := by
  unfold State.readHalf
  repeat' first
    | (with_reducible first | assumption | apply keeps_readWhole | refine keeps_readWhole_eq (by assumption) ?_
                            | apply keeps_setShadow)
    | ((conv => arg 2; arg 55; skip); with_reducible first | apply keeps_mk | apply keeps_mkc)
    | split | dsimp only | intro _
theorem keeps_readHalf_eq {z s t : State} {b0 : BitVec 32} {a1 : Agent} {a2 : Reg} {a3 : ℕ} {a4 : Bool} (e : State.readHalf s a1 a2 a3 a4 = (b0, t)) (h : Keeps z s) : Keeps z t := by
  have k := keeps_readHalf h a1 a2 a3 a4
  rw [e] at k; exact k

theorem keeps_read32 {z s : State} (h : Keeps z s) (a1 : Agent) (a2 : ℕ) : Keeps z (State.read32 s a1 a2).2.1 := by
  unfold State.read32
  repeat' first
    | (with_reducible first | assumption | apply keeps_readHalf | refine keeps_readHalf_eq (by assumption) ?_
                            | apply keeps_accViol | apply keeps_touch)
    | ((conv => arg 2; arg 55; skip); with_reducible first | apply keeps_mk | apply keeps_mkc)
    | split | dsimp only | intro _
theorem keeps_read32_eq {z s t : State} {b0 : BitVec 32} {b2 : Bool} {a1 : Agent} {a2 : ℕ} (e : State.read32 s a1 a2 = (b0, t, b2)) (h : Keeps z s) : Keeps z t := by
  have k := keeps_read32 h a1 a2
  rw [e] at k; exact k

theorem keeps_read64 {z s : State} (h : Keeps z s) (a1 : Agent) (a2 : ℕ) : Keeps z (State.read64 s a1 a2).2.1 := by
  unfold State.read64
  repeat' first
    | (with_reducible first | assumption | apply keeps_readWhole | refine keeps_readWhole_eq (by assumption) ?_
                            | apply keeps_accViol | apply keeps_touch | apply keeps_read32
                            | refine keeps_read32_eq (by assumption) ?_)
    | ((conv => arg 2; arg 55; skip); with_reducible first | apply keeps_mk | apply keeps_mkc)
    | split | dsimp only | intro _
theorem keeps_read64_eq {z s t : State} {b0 : BitVec 64} {b2 : Bool} {a1 : Agent} {a2 : ℕ} (e : State.read64 s a1 a2 = (b0, t, b2)) (h : Keeps z s) : Keeps z t := by
  have k := keeps_read64 h a1 a2
  rw [e] at k; exact k

theorem keeps_busRead {z s : State} (h : Keeps z s) (a1 : Agent) (a2 : ℕ) (a3 : ℕ) : Keeps z (State.busRead s a1 a2 a3).2.1 := by
  unfold State.busRead
  repeat' first
    | (with_reducible first | assumption | apply keeps_read32 | refine keeps_read32_eq (by assumption) ?_
                            | apply keeps_read64 | refine keeps_read64_eq (by assumption) ?_)
    | ((conv => arg 2; arg 55; skip); with_reducible first | apply keeps_mk | apply keeps_mkc)
    | split | dsimp only | intro _
theorem keeps_busRead_eq {z s t : State} {b0 : BitVec 64} {b2 : Bool} {a1 : Agent} {a2 : ℕ} {a3 : ℕ} (e : State.busRead s a1 a2 a3 = (b0, t, b2)) (h : Keeps z s) : Keeps z t := by
  have k := keeps_busRead h a1 a2 a3
  rw [e] at k; exact k

theorem keeps_writeReserve {z s : State} (h : Keeps z s) (a1 : Reg) (a2 : ℕ) (a3 : ℕ) (a4 : BitVec 64) (a5 : BitVec 64) : Keeps z (State.writeReserve s a1 a2 a3 a4 a5) := by
  unfold State.writeReserve
  repeat' first
    | (with_reducible first | assumption | apply keeps_setFld | apply keeps_plainWrite)
    | split | dsimp only | intro _

theorem keeps_writeLag {z s : State} (h : Keeps z s) (a1 : Bool) (a2 : Reg) (a3 : ℕ) (a4 : ℕ) (a5 : BitVec 64) (a6 : BitVec 64) : Keeps z (State.writeLag s a1 a2 a3 a4 a5 a6) := by
  unfold State.writeLag
  repeat' first
    | (with_reducible first | assumption)
    | ((conv => arg 2; arg 55; skip); with_reducible first | apply keeps_mk | apply keeps_mkc)
    | split | dsimp only | intro _

theorem keeps_writeFlt {z s : State} (h : Keeps z s) (a1 : Reg) (a2 : ℕ) (a3 : BitVec 64) (a4 : BitVec 64) : Keeps z (State.writeFlt s a1 a2 a3 a4) := by
  unfold State.writeFlt
  repeat' first
    | (with_reducible first | assumption | apply keeps_plainWrite)
    | split | dsimp only | intro _

theorem keeps_writeReg {z s : State} (h : Keeps z s) (a : Agent) (r : Reg) (i : Nat) (m v : BitVec 64) : Keeps z (s.writeReg a r i m v) := by
  cases r <;> simp only [State.writeReg] <;> repeat' first
    | (with_reducible assumption)
    | (with_reducible apply keeps_plainWrite)
    | (with_reducible apply keeps_writeHbcSet)
    | (with_reducible apply keeps_writeSpeedCmd)
    | (with_reducible apply keeps_writeReseqCmd)
    | (with_reducible apply keeps_writeYrnId)
    | (with_reducible apply keeps_writeGrp)
    | (with_reducible apply keeps_writeLeaf)
    | (with_reducible apply keeps_writeReserve)
    | (with_reducible apply keeps_writeSeed)
    | (with_reducible apply keeps_writePanelCfg)
    | (with_reducible apply keeps_writeSaCtl)
    | (with_reducible apply keeps_writePortCmd)
    | (with_reducible apply keeps_writePortCfg)
    | (with_reducible apply keeps_writeLaneCfg)
    | (with_reducible apply keeps_writeRange)
    | (with_reducible apply keeps_writeColCmd)
    | (with_reducible apply keeps_writeGaugeCnt)
    | (with_reducible apply keeps_writeBfdFixed)
    | (with_reducible apply keeps_writeBfdCtl)
    | (with_reducible apply keeps_writeLag)
    | (with_reducible apply keeps_writeImg)
    | (with_reducible apply keeps_writeImage)
    | (with_reducible apply keeps_writeDbgCtl)
    | (with_reducible apply keeps_writeI2c)
    | (with_reducible apply keeps_writeCageCtl)
    | (with_reducible apply keeps_writeTimSet)
    | (with_reducible apply keeps_writeTimAdj)
    | (with_reducible apply keeps_writeRingAddr)
    | (with_reducible apply keeps_writeRingCfg)
    | (with_reducible apply keeps_ltrUpdate)
    | (with_reducible apply keeps_writeFuncRings)
    | (with_reducible apply keeps_writeJournalCmd)
    | (with_reducible apply keeps_writeSlotCtl)
    | (with_reducible apply keeps_writeBootCtl)
    | (with_reducible apply keeps_writeDomCmd)
    | (with_reducible apply keeps_setFld)
    | (with_reducible apply keeps_writeInject)
    | (with_reducible apply keeps_writeFlt)
    | (with_reducible apply keeps_writeModeReq)
    | (with_reducible apply keeps_writeHeartbeat)
    | (with_reducible apply keeps_writeHostLoss)
    | (with_reducible apply keeps_writeTikSync)
    | (with_reducible apply keeps_writePeriodNext)
    | ((conv => arg 2; arg 55; skip); with_reducible apply keeps_mk)

theorem keeps_setHold {z s : State} (h : Keeps z s) (a1 : Agent) (a2 : Option Half) : Keeps z (State.setHold s a1 a2) := by
  unfold State.setHold
  repeat' first
    | (with_reducible first | assumption)
    | ((conv => arg 2; arg 55; skip); with_reducible first | apply keeps_mk | apply keeps_mkc)
    | split | dsimp only | intro _

theorem keeps_writeHalf {z s : State} (h : Keeps z s) (a1 : Agent) (a2 : Reg) (a3 : ℕ) (a4 : Bool) (a5 : BitVec 32) : Keeps z (State.writeHalf s a1 a2 a3 a4 a5) := by
  unfold State.writeHalf
  repeat' first
    | (with_reducible first | assumption | apply keeps_writeReg | apply keeps_setHold)
    | ((conv => arg 2; arg 55; skip); with_reducible first | apply keeps_mk | apply keeps_mkc)
    | split | dsimp only | intro _

theorem keeps_tryWrite {z s : State} (h : Keeps z s) {a : Agent} {r : Reg} {i : Nat} {f : State → State}
    (hf : ∀ t, Keeps z t → Keeps z (f t)) : Keeps z (s.tryWrite a r i f).1 := by
  unfold State.tryWrite
  dsimp only
  repeat' first
    | (with_reducible assumption)
    | (with_reducible apply hf)
    | (with_reducible apply keeps_touch)
    | (with_reducible apply keeps_accViol)
    | (split)

theorem keeps_write32 {z s : State} (h : Keeps z s) (a1 : Agent) (a2 : ℕ) (a3 : BitVec 32) : Keeps z (State.write32 s a1 a2 a3).1 := by
  unfold State.write32
  repeat' first
    | (with_reducible first | assumption | apply keeps_writeHalf | apply keeps_writeReg | apply keeps_tryWrite
                            | refine keeps_tryWrite_eq (by assumption) ?_)
    | ((conv => arg 2; arg 55; skip); with_reducible first | apply keeps_mk | apply keeps_mkc)
    | split | dsimp only | intro _
theorem keeps_write32_eq {z s t : State} {b1 : Bool} {a1 : Agent} {a2 : ℕ} {a3 : BitVec 32} (e : State.write32 s a1 a2 a3 = (t, b1)) (h : Keeps z s) : Keeps z t := by
  have k := keeps_write32 h a1 a2 a3
  rw [e] at k; exact k

theorem keeps_clearFirst {z s : State} (h : Keeps z s) (a1 : Agent) (a2 : ℕ) (a3 : BitVec 32) : Keeps z (State.clearFirst s a1 a2 a3) := by
  unfold State.clearFirst
  repeat' first
    | (with_reducible first | assumption | apply keeps_plainWrite)
    | ((conv => arg 2; arg 55; skip); with_reducible first | apply keeps_mk | apply keeps_mkc)
    | split | dsimp only | intro _

theorem keeps_write64 {z s : State} (h : Keeps z s) (a1 : Agent) (a2 : ℕ) (a3 : BitVec 64) : Keeps z (State.write64 s a1 a2 a3).1 := by
  unfold State.write64
  repeat' first
    | (with_reducible first | assumption | apply keeps_clearFirst | apply keeps_write32
                            | refine keeps_write32_eq (by assumption) ?_ | apply keeps_writeReg | apply keeps_tryWrite
                            | refine keeps_tryWrite_eq (by assumption) ?_)
    | ((conv => arg 2; arg 55; skip); with_reducible first | apply keeps_mk | apply keeps_mkc)
    | split | dsimp only | intro _
theorem keeps_write64_eq {z s t : State} {b1 : Bool} {a1 : Agent} {a2 : ℕ} {a3 : BitVec 64} (e : State.write64 s a1 a2 a3 = (t, b1)) (h : Keeps z s) : Keeps z t := by
  have k := keeps_write64 h a1 a2 a3
  rw [e] at k; exact k

theorem keeps_busWrite {z s : State} (h : Keeps z s) (a1 : Agent) (a2 : ℕ) (a3 : ℕ) (a4 : BitVec 64) : Keeps z (State.busWrite s a1 a2 a3 a4).1 := by
  unfold State.busWrite
  repeat' first
    | (with_reducible first | assumption | apply keeps_write32 | refine keeps_write32_eq (by assumption) ?_
                            | apply keeps_write64 | refine keeps_write64_eq (by assumption) ?_)
    | ((conv => arg 2; arg 55; skip); with_reducible first | apply keeps_mk | apply keeps_mkc)
    | split | dsimp only | intro _
theorem keeps_busWrite_eq {z s t : State} {b1 : Bool} {a1 : Agent} {a2 : ℕ} {a3 : ℕ} {a4 : BitVec 64} (e : State.busWrite s a1 a2 a3 a4 = (t, b1)) (h : Keeps z s) : Keeps z t := by
  have k := keeps_busWrite h a1 a2 a3 a4
  rw [e] at k; exact k

theorem keeps_msixWrite {z s : State} (h : Keeps z s) (a1 : ℕ) (a2 : ℕ) (a3 : BitVec 32) : Keeps z (State.msixWrite s a1 a2 a3) := by
  unfold State.msixWrite
  repeat' first
    | (with_reducible first | assumption | apply keeps_setMsix)
    | ((conv => arg 2; arg 55; skip); with_reducible first | apply keeps_mk | apply keeps_mkc)
    | split | dsimp only | intro _

theorem keeps_execRegisterRead {z s : State} (h : Keeps z s) (a : Agent) (q : BusReq) : ResKeeps z (execRegisterRead a q s) := by
  have hb := keeps_begin h
  unfold execRegisterRead
  dsimp only
  split
  · rename_i e _; exact resKeeps_next (keeps_emit (keeps_gate e hb) _)
  · rename_i e _; exact resKeeps_next (keeps_gate e hb)
  · exact resKeeps_next (keeps_emit (keeps_busRead hb _ _ _) _)
  · repeat' split
    · exact resKeeps_next (keeps_emit hb _)
    · exact resKeeps_next (keeps_emit (keeps_bump hb _ _ _) _)
    · exact resKeeps_next (keeps_emit (keeps_busRead hb _ _ _) _)
    · exact resKeeps_next (keeps_emit hb _)
    · exact resKeeps_next (keeps_emit hb _)

theorem keeps_execHalfReadLatch {z s : State} (h : Keeps z s) (a0 : Agent) (a1 : ℕ) : ResKeeps z (execHalfReadLatch a0 a1 s) := by
  unfold execHalfReadLatch
  repeat' first
    | (with_reducible first | apply resKeeps_next | assumption | apply keeps_execRegisterRead | apply keeps_begin)
    | ((conv => arg 2; arg 55; skip); with_reducible first | apply keeps_mk | apply keeps_mkc)
    | split | dsimp only | intro _

theorem keeps_execRegisterWrite {z s : State} (h : Keeps z s) (a0 : Agent) (a1 : BusReq) (a2 : BitVec 64) : ResKeeps z (execRegisterWrite a0 a1 a2 s) := by
  unfold execRegisterWrite
  repeat' first
    | (with_reducible first | apply resKeeps_next | assumption | apply keeps_msixWrite | apply keeps_bump
                            | apply keeps_writeBar2 | apply keeps_busWrite | refine keeps_busWrite_eq (by assumption) ?_
                            | apply keeps_gate_opt | refine keeps_gate (by assumption) ?_ | apply keeps_begin)
    | ((conv => arg 2; arg 55; skip); with_reducible first | apply keeps_mk | apply keeps_mkc)
    | split | dsimp only | intro _

theorem keeps_hostPipe {z s t : State} {b0 : Nat} (e : s.hostPipe = some (b0, t)) (h : Keeps z s) : Keeps z t := by
  unfold State.hostPipe at e
  dsimp only at e
  split at e
  · simp only [Option.map_eq_some_iff, Prod.mk.injEq] at e
    obtain ⟨g, -, -, rfl⟩ := e
    exact h
  · simp only [Option.some.injEq, Prod.mk.injEq] at e
    obtain ⟨-, rfl⟩ := e
    exact keeps_mk h

theorem keeps_txEnter {z s : State} (h : Keeps z s) (a1 : ℕ) (a2 : TxRead) (a3 : Bytes) : Keeps z (State.txEnter s a1 a2 a3) := by
  unfold State.txEnter
  repeat' first
    | (with_reducible first | assumption | apply keeps_setPipe)
    | ((conv => arg 2; arg 55; skip); with_reducible first | apply keeps_mk | apply keeps_mkc)
    | split | dsimp only | intro _

theorem keeps_txFail {z s : State} (h : Keeps z s) (a1 : ℕ) (a2 : ℕ) (a3 : List Bytes) (a4 : ℕ) : Keeps z (State.txFail s a1 a2 a3 a4) := by
  unfold State.txFail
  repeat' first
    | (with_reducible first | assumption | apply keeps_bump | apply keeps_finishEntries)
    | split | dsimp only | intro _

theorem keeps_enterFrames {z s : State} (h : Keeps z s) (a1 : ℕ) (a2 : ℕ) : Keeps z (State.enterFrames s a1 a2) := by
  induction a2 generalizing s with
  | zero =>
    unfold State.enterFrames
    repeat' first
      | (with_reducible first | assumption | apply ih | apply keeps_hostPipe_opt
                              | refine keeps_hostPipe (by assumption) ?_ | apply keeps_txEnter | apply keeps_txFail)
      | ((conv => arg 2; arg 55; skip); with_reducible first | apply keeps_mk | apply keeps_mkc)
      | split | dsimp only | intro _
  | succ n ih =>
    unfold State.enterFrames
    repeat' first
      | (with_reducible first | assumption | apply ih | apply keeps_hostPipe_opt
                              | refine keeps_hostPipe (by assumption) ?_ | apply keeps_txEnter | apply keeps_txFail)
      | ((conv => arg 2; arg 55; skip); with_reducible first | apply keeps_mk | apply keeps_mkc)
      | split | dsimp only | intro _

theorem keeps_frameRead {z s : State} (h : Keeps z s) (a1 : ℕ) (a2 : ℕ) (a3 : Option Bytes) : Keeps z (State.frameRead s a1 a2 a3) := by
  unfold State.frameRead
  repeat' first
    | (with_reducible first | assumption | apply keeps_enterFrames)
    | ((conv => arg 2; arg 55; skip); with_reducible first | apply keeps_mk | apply keeps_mkc)
    | split | dsimp only | intro _

theorem keeps_opFails {z s : State} (h : Keeps z s) (a1 : ℕ) : Keeps z (State.opFails s a1) := by
  unfold State.opFails
  repeat' first
    | (with_reducible first | assumption | apply keeps_ringReadFailed | apply keeps_frameRead | apply keeps_pumpReads)
    | ((conv => arg 2; arg 55; skip); with_reducible first | apply keeps_mk | apply keeps_mkc)
    | split | dsimp only | intro _

theorem keeps_readError {z s : State} (h : Keeps z s) (a1 : ReadRec) (a2 : CplStatus) : Keeps z (State.readError s a1 a2) := by
  unfold State.readError
  repeat' first
    | (with_reducible first | assumption | apply keeps_freeRead | apply keeps_bump | apply keeps_aerUncor
                            | apply keeps_fault | apply keeps_opFails)
    | split | dsimp only | intro _

theorem keeps_readTimesOut {z s : State} (h : Keeps z s) (a1 : ReadRec) : Keeps z (State.readTimesOut s a1) := by
  unfold State.readTimesOut
  repeat' first
    | (with_reducible first | assumption | apply keeps_setRead | apply keeps_bump | apply keeps_aerUncor
                            | apply keeps_fault | apply keeps_opFails)
    | ((conv => arg 2; arg 55; skip); with_reducible first | apply keeps_mk | apply keeps_mkc)
    | split | dsimp only | intro _

theorem keeps_readDone {z s : State} (h : Keeps z s) (a1 : ReadFor) (a2 : Bytes) : Keeps z (State.readDone s a1 a2) := by
  unfold State.readDone
  repeat' first
    | (with_reducible first | assumption | apply keeps_ringReadDone | apply keeps_frameRead)
    | ((conv => arg 2; arg 55; skip); with_reducible first | apply keeps_mk | apply keeps_mkc)
    | split | dsimp only | intro _

theorem keeps_opEnds {z s : State} (h : Keeps z s) (a1 : ReadFor) (a2 : ReadEnd) (a3 : Bytes) : Keeps z (State.opEnds s a1 a2 a3) := by
  unfold State.opEnds
  repeat' first
    | (with_reducible first | assumption | apply keeps_readError | apply keeps_readTimesOut | apply keeps_readDone
                            | apply keeps_pumpReads)
    | ((conv => arg 2; arg 55; skip); with_reducible first | apply keeps_mk | apply keeps_mkc)
    | split | dsimp only | intro _

theorem keeps_partDone {z s : State} (h : Keeps z s) (a1 : ℕ) (a2 : ℕ) (a3 : Bytes) : Keeps z (State.partDone s a1 a2 a3) := by
  unfold State.partDone
  repeat' first
    | (with_reducible first | assumption | apply keeps_readDone)
    | ((conv => arg 2; arg 55; skip); with_reducible first | apply keeps_mk | apply keeps_mkc)
    | split | dsimp only | intro _

theorem keeps_rxBad {z s : State} (h : Keeps z s) (a1 : ℕ) (a2 : ℕ) : Keeps z (State.rxBad s a1 a2) := by
  unfold State.rxBad
  repeat' first
    | (with_reducible first | assumption | apply keeps_beginEntries | apply keeps_finishEntries)
    | split | dsimp only | intro _

theorem keeps_rxSkipBad {z s : State} (h : Keeps z s) (a1 : ℕ) (a2 : ℕ) : Keeps z (State.rxSkipBad s a1 a2) := by
  induction a2 generalizing s with
  | zero =>
    unfold State.rxSkipBad
    repeat' first
      | (with_reducible first | assumption | apply ih | apply keeps_rxBad)
      | ((conv => arg 2; arg 55; skip); with_reducible first | apply keeps_mk | apply keeps_mkc)
      | split | dsimp only | intro _
  | succ n ih =>
    unfold State.rxSkipBad
    repeat' first
      | (with_reducible first | assumption | apply ih | apply keeps_rxBad)
      | ((conv => arg 2; arg 55; skip); with_reducible first | apply keeps_mk | apply keeps_mkc)
      | split | dsimp only | intro _

theorem keeps_rxWrite {z s : State} (h : Keeps z s) (a1 : ℕ) (a2 : List Bytes) (a3 : Bytes) : Keeps z (State.rxWrite s a1 a2 a3) := by
  induction a2 generalizing s a3 with
  | nil =>
    unfold State.rxWrite
    repeat' first
      | (with_reducible first | assumption | apply ih | apply keeps_packetWrite)
      | split | dsimp only | intro _
  | cons x l ih =>
    unfold State.rxWrite
    repeat' first
      | (with_reducible first | assumption | apply ih | apply keeps_packetWrite)
      | split | dsimp only | intro _

theorem keeps_rxStore {z s : State} (h : Keeps z s) (a1 : ℕ) (a2 : Copy) : Keeps z (State.rxStore s a1 a2) := by
  unfold State.rxStore
  repeat' first
    | (with_reducible first | assumption | apply keeps_finishEntries | apply keeps_rxWrite | apply keeps_beginEntries
                            | apply keeps_setSq | apply keeps_rxBad | apply keeps_fault | apply keeps_bump
                            | apply keeps_rxSkipBad | apply keeps_foldl | apply keeps_foldl_fst | apply keeps_foldl_snd
                            | apply keeps_foldl_mid)
    | ((conv => arg 2; arg 55; skip); with_reducible first | apply keeps_mk | apply keeps_mkc)
    | split | dsimp only | intro _

theorem keeps_execCompletionTimeout {z s : State} (h : Keeps z s) (a0 : Fin 16384) : ResKeeps z (execCompletionTimeout a0 s) := by
  unfold execCompletionTimeout
  repeat' first
    | (with_reducible first | apply resKeeps_next | assumption | apply keeps_readTimesOut | apply keeps_begin)
    | ((conv => arg 2; arg 55; skip); with_reducible first | apply keeps_mk | apply keeps_mkc)
    | split | dsimp only | intro _

theorem keeps_execReadCompletion {z s : State} (h : Keeps z s) (a0 : Fin 16384) (a1 : CplStatus) (a2 : Bool) (a3 : Bytes) : ResKeeps z (execReadCompletion a0 a1 a2 a3 s) := by
  unfold execReadCompletion
  repeat' first
    | (with_reducible first | apply resKeeps_next | assumption | apply keeps_partDone | apply keeps_setRead
                            | apply keeps_readError | apply keeps_bump | apply keeps_aerUncor | apply keeps_aerCor
                            | apply keeps_fault | apply keeps_freeRead | apply keeps_pumpReads | apply keeps_begin)
    | ((conv => arg 2; arg 55; skip); with_reducible first | apply keeps_mk | apply keeps_mkc)
    | split | dsimp only | intro _

theorem keeps_execRingDisableDone {z s : State} (h : Keeps z s) (a0 : Fin 4096) : ResKeeps z (execRingDisableDone a0 s) := by
  unfold execRingDisableDone
  repeat' first
    | (with_reducible first | apply resKeeps_next | assumption | apply keeps_begin | apply keeps_sqFinish)
    | split | dsimp only | intro _

theorem keeps_execRxDeliver {z s : State} (h : Keeps z s)  : ResKeeps z (execRxDeliver s) := by
  unfold execRxDeliver
  repeat' first
    | (with_reducible first | apply resKeeps_next | assumption | apply keeps_rxStore | apply keeps_bump
                            | apply keeps_sknCount | apply keeps_release | apply keeps_begin)
    | ((conv => arg 2; arg 55; skip); with_reducible first | apply keeps_mk | apply keeps_mkc)
    | split | dsimp only | intro _

theorem keeps_execTagHoldExpire {z s : State} (h : Keeps z s) (a0 : Fin 16384) : ResKeeps z (execTagHoldExpire a0 s) := by
  unfold execTagHoldExpire
  repeat' first
    | (with_reducible first | apply resKeeps_next | assumption | apply keeps_freeRead | apply keeps_pumpReads
                            | apply keeps_begin)
    | ((conv => arg 2; arg 55; skip); with_reducible first | apply keeps_mk | apply keeps_mkc)
    | split | dsimp only | intro _

theorem keeps_execTxFrame {z s : State} (h : Keeps z s) (a0 : Fin 4096) (a1 : ReadEnd) (a2 : Bytes) : ResKeeps z (execTxFrame a0 a1 a2 s) := by
  unfold execTxFrame
  repeat' first
    | (with_reducible first | apply resKeeps_next | assumption | apply keeps_startRead | apply keeps_opEnds
                            | apply keeps_txFail | apply keeps_beginEntries | apply keeps_hostPipe_opt
                            | refine keeps_hostPipe (by assumption) ?_ | apply keeps_begin)
    | ((conv => arg 2; arg 55; skip); with_reducible first | apply keeps_mk | apply keeps_mkc)
    | split | dsimp only | intro _

theorem keeps_chartResult {z s : State} (h : Keeps z s) (a1 : ℕ) (a2 : Bytes) : Keeps z (State.chartResult s a1 a2) := by
  unfold State.chartResult
  repeat' first
    | (with_reducible first | assumption | apply keeps_sendTlp | apply keeps_bump | apply keeps_setCtx)
    | ((conv => arg 2; arg 55; skip); with_reducible first | apply keeps_mk | apply keeps_mkc)
    | split | dsimp only | intro _

theorem keeps_chartReturn {z s : State} (h : Keeps z s) (a1 : ℕ) (a2 : Ctx) (a3 : Bytes) : Keeps z (State.chartReturn s a1 a2 a3) := by
  unfold State.chartReturn
  repeat' first
    | (with_reducible first | assumption | apply keeps_chartFail | apply keeps_chartResult | apply keeps_chartDone)
    | split | dsimp only | intro _

theorem keeps_chartRun {z s : State} (h : Keeps z s) {q c : Nat} {ops : Bytes → Bool} {f : State → Nat → Ctx → Bytes → State}
    (hf : ∀ t k x e, Keeps z t → Keeps z (f t k x e)) : Keeps z (s.chartRun q c ops f) := by
  unfold State.chartRun
  dsimp only
  repeat' first
    | (with_reducible assumption)
    | (with_reducible apply hf)
    | (with_reducible apply keeps_chartFail)
    | (with_reducible apply keeps_chartDone)
    | (with_reducible refine keeps_takeEntry (by assumption) ?_)
    | (split)

theorem keeps_freeBytes {z s : State} (h : Keeps z s) (a1 : ℕ) : Keeps z (State.freeBytes s a1).2 := by
  induction a1 generalizing s with
  | zero =>
    unfold State.freeBytes
    repeat' first
      | (with_reducible first | assumption | apply ih | apply keeps_drawn)
      | split | dsimp only | intro _
  | succ n ih =>
    unfold State.freeBytes
    repeat' first
      | (with_reducible first | assumption | apply ih | apply keeps_drawn)
      | split | dsimp only | intro _
theorem keeps_freeBytes_eq {z s t : State} {b0 : Bytes} {a1 : ℕ} (e : State.freeBytes s a1 = (b0, t)) (h : Keeps z s) : Keeps z t := by
  have k := keeps_freeBytes h a1
  rw [e] at k; exact k

theorem keeps_mergeReg {z s : State} (h : Keeps z s) (a1 : Agent) (a2 : ℕ) (a3 : BitVec 32) (a4 : BitVec 32) : Keeps z (State.mergeReg s a1 a2 a3 a4).1 := by
  unfold State.mergeReg
  repeat' first
    | (with_reducible first | assumption | apply keeps_writeReg | apply keeps_tryWrite
                            | refine keeps_tryWrite_eq (by assumption) ?_)
    | ((conv => arg 2; arg 55; skip); with_reducible first | apply keeps_mk | apply keeps_mkc)
    | split | dsimp only | intro _
theorem keeps_mergeReg_eq {z s t : State} {b1 : Bool} {a1 : Agent} {a2 : ℕ} {a3 : BitVec 32} {a4 : BitVec 32} (e : State.mergeReg s a1 a2 a3 a4 = (t, b1)) (h : Keeps z s) : Keeps z t := by
  have k := keeps_mergeReg h a1 a2 a3 a4
  rw [e] at k; exact k

theorem keeps_operandStep {z s : State} (h : Keeps z s) {q c op : Nat}
    {f : State → Nat → Ctx → Bytes → Bytes → State} (hf : ∀ t k x e d, Keeps z t → Keeps z (f t k x e d)) :
    Keeps z (s.operandStep q c op f) := by
  unfold State.operandStep
  refine keeps_chartRun h (fun t k x e ht => ?_)
  dsimp only
  repeat' first
    | (with_reducible assumption)
    | (with_reducible apply hf)
    | (with_reducible apply keeps_chartFail)
    | (with_reducible apply keeps_startRead)
    | (with_reducible apply keeps_setCtx)
    | (split)

theorem keeps_readRegs {z s : State} (h : Keeps z s) (a1 : Agent) (a2 : ℕ) (a3 : ℕ) (a4 : ℕ) : Keeps z (State.readRegs s a1 a2 a3 a4).2.1 := by
  induction a4 generalizing s a2 with
  | zero =>
    unfold State.readRegs
    repeat' first
      | (with_reducible first | assumption | apply ih | apply keeps_busRead | refine keeps_busRead_eq (by assumption) ?_)
      | split | dsimp only | intro _
  | succ n ih =>
    unfold State.readRegs
    repeat' first
      | (with_reducible first | assumption | apply ih | apply keeps_busRead | refine keeps_busRead_eq (by assumption) ?_)
      | split | dsimp only | intro _
theorem keeps_readRegs_eq {z s t : State} {b0 : Bytes} {b2 : Bool} {a1 : Agent} {a2 : ℕ} {a3 : ℕ} {a4 : ℕ} (e : State.readRegs s a1 a2 a3 a4 = (b0, t, b2)) (h : Keeps z s) : Keeps z t := by
  have k := keeps_readRegs h a1 a2 a3 a4
  rw [e] at k; exact k

theorem keeps_withOperand {z s : State} (h : Keeps z s) {q c op : Nat} {rd : ReadEnd} {data : Bytes}
    {f : State → Nat → Ctx → Bytes → Bytes → State} (hf : ∀ t k x e d, Keeps z t → Keeps z (f t k x e d)) :
    Keeps z (s.withOperand q c op rd data f) := by
  have h1 : Keeps z ((s.operandStep q c op f).opEnds ((s.operandStep q c op f).operandRead (8 * q + c)) rd data) :=
    keeps_opEnds (keeps_operandStep h hf) _ _ _
  unfold State.withOperand
  dsimp only
  split
  · split
    · exact keeps_operandStep h1 hf
    · exact h1
  · exact keeps_operandStep h hf

theorem keeps_writeRegs {z s : State} (h : Keeps z s) (a1 : Agent) (a2 : ℕ) (a3 : ℕ) (a4 : BitVec 64) (a5 : ℕ) : Keeps z (State.writeRegs s a1 a2 a3 a4 a5).1 := by
  induction a5 generalizing s a2 with
  | zero =>
    unfold State.writeRegs
    repeat' first
      | (with_reducible first | assumption | apply ih | apply keeps_busWrite | refine keeps_busWrite_eq (by assumption) ?_)
      | split | dsimp only | intro _
  | succ n ih =>
    unfold State.writeRegs
    repeat' first
      | (with_reducible first | assumption | apply ih | apply keeps_busWrite | refine keeps_busWrite_eq (by assumption) ?_)
      | split | dsimp only | intro _
theorem keeps_writeRegs_eq {z s t : State} {b1 : Bool} {a1 : Agent} {a2 : ℕ} {a3 : ℕ} {a4 : BitVec 64} {a5 : ℕ} (e : State.writeRegs s a1 a2 a3 a4 a5 = (t, b1)) (h : Keeps z s) : Keeps z t := by
  have k := keeps_writeRegs h a1 a2 a3 a4 a5
  rw [e] at k; exact k

theorem keeps_xmitFrame {z s : State} (h : Keeps z s) (a1 : ℕ) (a2 : ℕ) (a3 : ℕ) (a4 : Bytes) : Keeps z (State.xmitFrame s a1 a2 a3 a4) := by
  unfold State.xmitFrame
  repeat' first
    | (with_reducible first | assumption | apply keeps_claim)
    | ((conv => arg 2; arg 55; skip); with_reducible first | apply keeps_mk | apply keeps_mkc)
    | split | dsimp only | intro _

theorem keeps_execChartNop {z s : State} (h : Keeps z s) (a0 : Fin 8) (a1 : Fin 8) : ResKeeps z (execChartNop a0 a1 s) := by
  unfold execChartNop
  repeat' first
    | (with_reducible first | apply resKeeps_next | assumption | apply keeps_chartDone | apply keeps_begin
                            | apply keeps_chartRun)
    | split | dsimp only | intro _

theorem keeps_execChartWaitEnd {z s : State} (h : Keeps z s) (a0 : Fin 8) (a1 : Fin 8) : ResKeeps z (execChartWaitEnd a0 a1 s) := by
  unfold execChartWaitEnd
  repeat' first
    | (with_reducible first | apply resKeeps_next | assumption | apply keeps_chartDone | apply keeps_begin)
    | split | dsimp only | intro _

theorem keeps_execFence {z s : State} (h : Keeps z s) (a0 : Fin 8) (a1 : Fin 8) : ResKeeps z (execFence a0 a1 s) := by
  unfold execFence
  repeat' first
    | (with_reducible first | apply resKeeps_next | assumption | apply keeps_chartDone | apply keeps_begin
                            | apply keeps_chartRun)
    | split | dsimp only | intro _

theorem keeps_execFlush {z s : State} (h : Keeps z s) (a0 : Fin 8) (a1 : Fin 8) : ResKeeps z (execFlush a0 a1 s) := by
  unfold execFlush
  repeat' first
    | (with_reducible first | apply resKeeps_next | assumption | apply keeps_chartDone | apply keeps_setCtx
                            | apply keeps_startFlush | apply keeps_chartFail | apply keeps_begin | apply keeps_chartRun)
    | ((conv => arg 2; arg 55; skip); with_reducible first | apply keeps_mk | apply keeps_mkc)
    | split | dsimp only | intro _

theorem keeps_execPoll {z s : State} (h : Keeps z s) (q c : Fin 8) : ResKeeps z (execPoll q c s) := by
  have hb := keeps_begin h
  unfold execPoll
  extract_lets s0 k waiting idle s1
  have hi : Keeps z idle := by
    show Keeps z (if waiting = true then _ else _)
    split
    · cases s0.ctx k with
      | none => exact hb
      | some x => exact keeps_setCtx hb _ _
    · exact hb
  refine resKeeps_next (keeps_chartRun hi (fun t k x e ht => ?_))
  dsimp only
  split
  · exact keeps_chartFail (keeps_busRead ht _ _ _) _ _
  · split
    · exact keeps_chartDone (keeps_busRead ht _ _ _) _
    · split
      · exact keeps_setCtx (keeps_setSq (keeps_busRead ht _ _ _) _ _) _ _
      · exact ht

theorem keeps_execPollTimeout {z s : State} (h : Keeps z s) (a0 : Fin 8) (a1 : Fin 8) : ResKeeps z (execPollTimeout a0 a1 s) := by
  unfold execPollTimeout
  repeat' first
    | (with_reducible first | apply resKeeps_next | assumption | apply keeps_chartFail | apply keeps_takeEntry_opt
                            | refine keeps_takeEntry (by assumption) ?_ | apply keeps_begin)
    | ((conv => arg 2; arg 55; skip); with_reducible first | apply keeps_mk | apply keeps_mkc)
    | split | dsimp only | intro _

theorem keeps_execProgramStart {z s : State} (h : Keeps z s) (a0 : Fin 8) (a1 : Fin 8) : ResKeeps z (execProgramStart a0 a1 s) := by
  unfold execProgramStart
  repeat' first
    | (with_reducible first | apply resKeeps_next | assumption | apply keeps_bump | apply keeps_setSq
                            | apply keeps_setCtx | apply keeps_beginEntries | apply keeps_begin)
    | ((conv => arg 2; arg 55; skip); with_reducible first | apply keeps_mk | apply keeps_mkc)
    | split | dsimp only | intro _

theorem keeps_execRbase {z s : State} (h : Keeps z s) (a0 : Fin 8) (a1 : Fin 8) : ResKeeps z (execRbase a0 a1 s) := by
  unfold execRbase
  repeat' first
    | (with_reducible first | apply resKeeps_next | assumption | apply keeps_setCtx | apply keeps_chartDone
                            | apply keeps_begin | apply keeps_chartRun)
    | ((conv => arg 2; arg 55; skip); with_reducible first | apply keeps_mk | apply keeps_mkc)
    | split | dsimp only | intro _

theorem keeps_execRegm {z s : State} (h : Keeps z s) (a0 : Fin 8) (a1 : Fin 8) : ResKeeps z (execRegm a0 a1 s) := by
  unfold execRegm
  repeat' first
    | (with_reducible first | apply resKeeps_next | assumption | apply keeps_chartDone | apply keeps_chartFail
                            | apply keeps_mergeReg | refine keeps_mergeReg_eq (by assumption) ?_ | apply keeps_begin
                            | apply keeps_chartRun)
    | split | dsimp only | intro _

theorem keeps_execRegr {z s : State} (h : Keeps z s) (a0 : Fin 8) (a1 : Fin 8) : ResKeeps z (execRegr a0 a1 s) := by
  unfold execRegr
  repeat' first
    | (with_reducible first | apply resKeeps_next | assumption | apply keeps_chartReturn | apply keeps_readRegs
                            | refine keeps_readRegs_eq (by assumption) ?_ | apply keeps_chartFail | apply keeps_begin
                            | apply keeps_chartRun)
    | split | dsimp only | intro _

theorem keeps_execRegw {z s : State} (h : Keeps z s) (a0 : Fin 8) (a1 : Fin 8) : ResKeeps z (execRegw a0 a1 s) := by
  unfold execRegw
  repeat' first
    | (with_reducible first | apply resKeeps_next | assumption | apply keeps_chartDone | apply keeps_chartFail
                            | apply keeps_writeRegs | refine keeps_writeRegs_eq (by assumption) ?_ | apply keeps_begin
                            | apply keeps_chartRun)
    | split | dsimp only | intro _

theorem keeps_execTableFlushComplete {z s : State} (h : Keeps z s)  : ResKeeps z (execTableFlushComplete s) := by
  unfold execTableFlushComplete
  repeat' first
    | (with_reducible first | apply resKeeps_next | assumption | apply keeps_chartResult | apply keeps_chartDone
                            | apply keeps_begin)
    | ((conv => arg 2; arg 55; skip); with_reducible first | apply keeps_mk | apply keeps_mkc)
    | split | dsimp only | intro _

theorem keeps_execWaitAt {z s : State} (h : Keeps z s) (a0 : Fin 8) (a1 : Fin 8) : ResKeeps z (execWaitAt a0 a1 s) := by
  unfold execWaitAt
  repeat' first
    | (with_reducible first | apply resKeeps_next | assumption | apply keeps_setCtx | apply keeps_chartDone
                            | apply keeps_begin | apply keeps_chartRun)
    | ((conv => arg 2; arg 55; skip); with_reducible first | apply keeps_mk | apply keeps_mkc)
    | split | dsimp only | intro _

theorem keeps_execWaitTick {z s : State} (h : Keeps z s) (a0 : Fin 8) (a1 : Fin 8) : ResKeeps z (execWaitTick a0 a1 s) := by
  unfold execWaitTick
  repeat' first
    | (with_reducible first | apply resKeeps_next | assumption | apply keeps_setCtx | apply keeps_begin
                            | apply keeps_chartRun)
    | ((conv => arg 2; arg 55; skip); with_reducible first | apply keeps_mk | apply keeps_mkc)
    | split | dsimp only | intro _

theorem keeps_execXmit {z s : State} (h : Keeps z s) (a0 : Fin 8) (a1 : Fin 8) (a2 : ReadEnd) (a3 : Bytes) : ResKeeps z (execXmit a0 a1 a2 a3 s) := by
  unfold execXmit
  repeat' first
    | (with_reducible first | apply resKeeps_next | assumption | apply keeps_setCtx | apply keeps_xmitFrame
                            | apply keeps_begin | apply keeps_withOperand | apply keeps_foldl | apply keeps_foldl_fst
                            | apply keeps_foldl_snd | apply keeps_foldl_mid)
    | ((conv => arg 2; arg 55; skip); with_reducible first | apply keeps_mk | apply keeps_mkc)
    | split | dsimp only | intro _

theorem keeps_drdRecord {z s : State} (h : Keeps z s) (a1 : Bool) (a2 : Bool) (a3 : ℕ) (a4 : ℕ) (a5 : Bytes) : Keeps z (State.drdRecord s a1 a2 a3 a4 a5).2 := by
  unfold State.drdRecord
  repeat' first
    | (with_reducible first | assumption | apply keeps_freeBytes | refine keeps_freeBytes_eq (by assumption) ?_)
    | split | dsimp only | intro _
theorem keeps_drdRecord_eq {z s t : State} {b0 : Bytes} {a1 : Bool} {a2 : Bool} {a3 : ℕ} {a4 : ℕ} {a5 : Bytes} (e : State.drdRecord s a1 a2 a3 a4 a5 = (b0, t)) (h : Keeps z s) : Keeps z t := by
  have k := keeps_drdRecord h a1 a2 a3 a4 a5
  rw [e] at k; exact k

theorem keeps_drdEntry {z s : State} (h : Keeps z s) (a1 : ℕ) (a2 : ℕ) (a3 : ℕ) (a4 : Bool) (a5 : Bool) : Keeps z (State.drdEntry s a1 a2 a3 a4 a5).2 := by
  unfold State.drdEntry
  repeat' first
    | (with_reducible first | assumption | apply keeps_setStat | apply keeps_drdRecord
                            | refine keeps_drdRecord_eq (by assumption) ?_)
    | split | dsimp only | intro _
theorem keeps_drdEntry_eq {z s t : State} {b0 : Bytes} {a1 : ℕ} {a2 : ℕ} {a3 : ℕ} {a4 : Bool} {a5 : Bool} (e : State.drdEntry s a1 a2 a3 a4 a5 = (b0, t)) (h : Keeps z s) : Keeps z t := by
  have k := keeps_drdEntry h a1 a2 a3 a4 a5
  rw [e] at k; exact k

theorem keeps_drdAll {z s : State} (h : Keeps z s) (a1 : ℕ) (a2 : Bool) (a3 : List ℕ) (a4 : List (ℕ × ℕ × ℕ)) : Keeps z (State.drdAll s a1 a2 a3 a4).2 := by
  induction a4 generalizing s with
  | nil =>
    unfold State.drdAll
    repeat' first
      | (with_reducible first | assumption | apply ih | apply keeps_drdEntry | refine keeps_drdEntry_eq (by assumption) ?_)
      | split | dsimp only | intro _
  | cons x l ih =>
    unfold State.drdAll
    repeat' first
      | (with_reducible first | assumption | apply ih | apply keeps_drdEntry | refine keeps_drdEntry_eq (by assumption) ?_)
      | split | dsimp only | intro _
theorem keeps_drdAll_eq {z s t : State} {b0 : Bytes} {a1 : ℕ} {a2 : Bool} {a3 : List ℕ} {a4 : List (ℕ × ℕ × ℕ)} (e : State.drdAll s a1 a2 a3 a4 = (b0, t)) (h : Keeps z s) : Keeps z t := by
  have k := keeps_drdAll h a1 a2 a3 a4
  rw [e] at k; exact k

theorem keeps_openWord {z s : State} (h : Keeps z s) (a1 : ℕ) (a2 : ℕ) : Keeps z (State.openWord s a1 a2).2 := by
  unfold State.openWord
  repeat' first
    | (with_reducible first | assumption | apply keeps_drawn)
    | split | dsimp only | intro _
theorem keeps_openWord_eq {z s t : State} {b0 : Bytes} {a1 : ℕ} {a2 : ℕ} (e : State.openWord s a1 a2 = (b0, t)) (h : Keeps z s) : Keeps z t := by
  have k := keeps_openWord h a1 a2
  rw [e] at k; exact k

theorem keeps_hashRecord {z s : State} (h : Keeps z s) (a1 : Bytes) (a2 : Option (ℕ × HEnt)) (a3 : ℕ) (a4 : ℕ) (a5 : Option ℕ) : Keeps z (State.hashRecord s a1 a2 a3 a4 a5).2 := by
  unfold State.hashRecord
  repeat' first
    | (with_reducible first | assumption | apply keeps_openWord | refine keeps_openWord_eq (by assumption) ?_
                            | apply keeps_freeBytes | refine keeps_freeBytes_eq (by assumption) ?_)
    | ((conv => arg 2; arg 55; skip); with_reducible first | apply keeps_mk | apply keeps_mkc)
    | split | dsimp only | intro _
theorem keeps_hashRecord_eq {z s t : State} {b0 : Bytes} {a1 : Bytes} {a2 : Option (ℕ × HEnt)} {a3 : ℕ} {a4 : ℕ} {a5 : Option ℕ} (e : State.hashRecord s a1 a2 a3 a4 a5 = (b0, t)) (h : Keeps z s) : Keeps z t := by
  have k := keeps_hashRecord h a1 a2 a3 a4 a5
  rw [e] at k; exact k

theorem keeps_setScans {z s : State} (h : Keeps z s) (a1 : ℕ) (a2 : List Scan) : Keeps z (State.setScans s a1 a2) := by
  unfold State.setScans
  repeat' first
    | (with_reducible first | assumption | apply keeps_setLearning)
    | ((conv => arg 2; arg 55; skip); with_reducible first | apply keeps_mk | apply keeps_mkc)
    | split | dsimp only | intro _

theorem keeps_scanSteps {z s : State} (h : Keeps z s) (d tb hd cu n : Nat) : Keeps z (s.scanSteps d tb hd cu n).2 := by
  induction n generalizing s hd cu with
  | zero => exact h
  | succ n ih =>
    unfold State.scanSteps
    extract_lets scans close o
    have hc : ∀ t x, Keeps z t → Keeps z (close t x) := fun t x ht => keeps_setScans ht _ _
    clear_value close o
    split
    · apply keeps_hashRecord
      split
      · exact h
      · exact hc _ _ h
    · split
      · exact keeps_hashRecord h _ _ _ _ _
      · rename_i sc l _
        split
        · exact keeps_hashRecord (keeps_setScans h _ _) _ _ _ _ _
        · split
          · exact keeps_hashRecord (hc _ _ h) _ _ _ _ _
          · extract_lets s1 put go
            have h1 : Keeps z s1 := keeps_setScans h _ _
            have hp : ∀ x y, Keeps z (put x y) := fun x y => keeps_setScans h1 _ _
            have hg : ∀ e x y, Keeps z (go e x y).2 := fun e x y => ih (keeps_hashRecord (hp _ _) _ _ _ _ _) _ _
            clear_value go
            split
            · exact hg _ _ _
            · split
              · exact hg _ _ _
              · exact keeps_hashRecord (hc _ _ h1) _ _ _ _ _

theorem keeps_scanSteps_eq {z s t : State} {b0 : Bytes} {a1 a2 a3 a4 a5 : Nat} (e : s.scanSteps a1 a2 a3 a4 a5 = (b0, t))
    (h : Keeps z s) : Keeps z t := by
  have k := keeps_scanSteps h a1 a2 a3 a4 a5
  rw [e] at k; exact k

theorem keeps_searchRecord {z s : State} (h : Keeps z s) (a1 : ℕ) (a2 : ℕ) (a3 : Bytes) (a4 : Bool) : Keeps z (State.searchRecord s a1 a2 a3 a4).2 := by
  unfold State.searchRecord
  repeat' first
    | (with_reducible first | assumption | apply keeps_hashRecord | refine keeps_hashRecord_eq (by assumption) ?_)
    | ((conv => arg 2; arg 55; skip); with_reducible first | apply keeps_mk | apply keeps_mkc)
    | split | dsimp only | intro _
theorem keeps_searchRecord_eq {z s t : State} {b0 : Bytes} {a1 : ℕ} {a2 : ℕ} {a3 : Bytes} {a4 : Bool} (e : State.searchRecord s a1 a2 a3 a4 = (b0, t)) (h : Keeps z s) : Keeps z t := by
  have k := keeps_searchRecord h a1 a2 a3 a4
  rw [e] at k; exact k

theorem keeps_searchAll {z s : State} (h : Keeps z s) (a1 : ℕ) (a2 : List ℕ) (a3 : List (ℕ × ℕ × Bytes)) : Keeps z (State.searchAll s a1 a2 a3).2 := by
  induction a3 generalizing s with
  | nil =>
    unfold State.searchAll
    repeat' first
      | (with_reducible first | assumption | apply ih | apply keeps_searchRecord
                              | refine keeps_searchRecord_eq (by assumption) ?_)
      | split | dsimp only | intro _
  | cons x l ih =>
    unfold State.searchAll
    repeat' first
      | (with_reducible first | assumption | apply ih | apply keeps_searchRecord
                              | refine keeps_searchRecord_eq (by assumption) ?_)
      | split | dsimp only | intro _
theorem keeps_searchAll_eq {z s t : State} {b0 : Bytes} {a1 : ℕ} {a2 : List ℕ} {a3 : List (ℕ × ℕ × Bytes)} (e : State.searchAll s a1 a2 a3 = (b0, t)) (h : Keeps z s) : Keeps z t := by
  have k := keeps_searchAll h a1 a2 a3
  rw [e] at k; exact k

theorem keeps_trdRecord {z s : State} (h : Keeps z s) (a1 : ℕ) : Keeps z (State.trdRecord s a1).2 := by
  unfold State.trdRecord
  repeat' first
    | (with_reducible first | assumption | apply keeps_openWord | refine keeps_openWord_eq (by assumption) ?_
                            | apply keeps_freeBytes | refine keeps_freeBytes_eq (by assumption) ?_)
    | split | dsimp only | intro _
theorem keeps_trdRecord_eq {z s t : State} {b0 : Bytes} {a1 : ℕ} (e : State.trdRecord s a1 = (b0, t)) (h : Keeps z s) : Keeps z t := by
  have k := keeps_trdRecord h a1
  rw [e] at k; exact k

theorem keeps_trdAll {z s : State} (h : Keeps z s) (a1 : List ℕ) : Keeps z (State.trdAll s a1).2 := by
  induction a1 generalizing s with
  | nil =>
    unfold State.trdAll
    repeat' first
      | (with_reducible first | assumption | apply ih | apply keeps_trdRecord
                              | refine keeps_trdRecord_eq (by assumption) ?_)
      | split | dsimp only | intro _
  | cons x l ih =>
    unfold State.trdAll
    repeat' first
      | (with_reducible first | assumption | apply ih | apply keeps_trdRecord
                              | refine keeps_trdRecord_eq (by assumption) ?_)
      | split | dsimp only | intro _
theorem keeps_trdAll_eq {z s t : State} {b0 : Bytes} {a1 : List ℕ} (e : State.trdAll s a1 = (b0, t)) (h : Keeps z s) : Keeps z t := by
  have k := keeps_trdAll h a1
  rw [e] at k; exact k

theorem keeps_execDrd {z s : State} (h : Keeps z s) (a0 : Fin 8) (a1 : Fin 8) (a2 : List ℕ) : ResKeeps z (execDrd a0 a1 a2 s) := by
  unfold execDrd
  repeat' first
    | (with_reducible first | apply resKeeps_next | assumption | apply keeps_chartReturn | apply keeps_drdAll
                            | refine keeps_drdAll_eq (by assumption) ?_ | apply keeps_chartFail | apply keeps_begin
                            | apply keeps_chartRun)
    | split | dsimp only | intro _

theorem keeps_execHnext {z s : State} (h : Keeps z s) (a0 : Fin 8) (a1 : Fin 8) : ResKeeps z (execHnext a0 a1 s) := by
  unfold execHnext
  repeat' first
    | (with_reducible first | apply resKeeps_next | assumption | apply keeps_chartFail | apply keeps_chartReturn
                            | apply keeps_scanSteps | refine keeps_scanSteps_eq (by assumption) ?_ | apply keeps_begin
                            | apply keeps_chartRun)
    | split | dsimp only | intro _

theorem keeps_execHsrch {z s : State} (h : Keeps z s) (a0 : Fin 8) (a1 : Fin 8) (a2 : ReadEnd) (a3 : Bytes) (a4 : List ℕ) : ResKeeps z (execHsrch a0 a1 a2 a3 a4 s) := by
  unfold execHsrch
  repeat' first
    | (with_reducible first | apply resKeeps_next | assumption | apply keeps_chartReturn | apply keeps_searchAll
                            | refine keeps_searchAll_eq (by assumption) ?_ | apply keeps_chartFail | apply keeps_begin
                            | apply keeps_withOperand)
    | split | dsimp only | intro _

theorem keeps_execPivr {z s : State} (h : Keeps z s) (a0 : Fin 8) (a1 : Fin 8) : ResKeeps z (execPivr a0 a1 s) := by
  unfold execPivr
  repeat' first
    | (with_reducible first | apply resKeeps_next | assumption | apply keeps_chartReturn | apply keeps_begin
                            | apply keeps_chartRun)
    | split | dsimp only | intro _

theorem keeps_execTrd {z s : State} (h : Keeps z s) (a0 : Fin 8) (a1 : Fin 8) : ResKeeps z (execTrd a0 a1 s) := by
  unfold execTrd
  repeat' first
    | (with_reducible first | apply resKeeps_next | assumption | apply keeps_chartReturn | apply keeps_trdAll
                            | refine keeps_trdAll_eq (by assumption) ?_ | apply keeps_chartFail | apply keeps_begin
                            | apply keeps_chartRun)
    | split | dsimp only | intro _

theorem keeps_setAction {z s : State} (h : Keeps z s) (a1 : ℕ) (a2 : BitVec 64) : Keeps z (State.setAction s a1 a2) := by
  unfold State.setAction
  repeat' first
    | (with_reducible first | assumption | apply keeps_setTabs)
    | ((conv => arg 2; arg 55; skip); with_reducible first | apply keeps_mk | apply keeps_mkc)
    | split | dsimp only | intro _

theorem keeps_writeEntry {z s : State} (h : Keeps z s) (a1 : ℕ) (a2 : Bytes) (a3 : Bytes) (a4 : BitVec 64) (a5 : Bool) : Keeps z (State.writeEntry s a1 a2 a3 a4 a5) := by
  unfold State.writeEntry
  repeat' first
    | (with_reducible first | assumption | apply keeps_setValid | apply keeps_setAction | apply keeps_setTslot
                            | apply keeps_each)
    | ((conv => arg 2; arg 55; skip); with_reducible first | apply keeps_mk | apply keeps_mkc)
    | split | dsimp only | intro _

theorem keeps_applyWrite {z s : State} (h : Keeps z s) (a1 : CWrite) (a2 : List CPlan) : Keeps z (State.applyWrite s a1 a2).1 := by
  unfold State.applyWrite
  repeat' first
    | (with_reducible first | assumption | apply keeps_setAction | apply keeps_setValid | apply keeps_writeEntry
                            | apply keeps_deleteEntry | apply keeps_runPath | apply keeps_setStat | apply keeps_setMeter
                            | apply keeps_setPipe | apply keeps_each | apply keeps_setTabs)
    | ((conv => arg 2; arg 55; skip); with_reducible first | apply keeps_mk | apply keeps_mkc)
    | split | dsimp only | intro _
theorem keeps_applyWrite_eq {z s t : State} {b1 : List CPlan} {a1 : CWrite} {a2 : List CPlan} (e : State.applyWrite s a1 a2 = (t, b1)) (h : Keeps z s) : Keeps z t := by
  have k := keeps_applyWrite h a1 a2
  rw [e] at k; exact k

theorem keeps_applyWrites {z s : State} (h : Keeps z s) (a1 : List CWrite) (a2 : List CPlan) : Keeps z (State.applyWrites s a1 a2) := by
  induction a1 generalizing s a2 with
  | nil =>
    unfold State.applyWrites
    repeat' first
      | (with_reducible first | assumption | apply ih | apply keeps_applyWrite
                              | refine keeps_applyWrite_eq (by assumption) ?_)
      | split | dsimp only | intro _
  | cons x l ih =>
    unfold State.applyWrites
    repeat' first
      | (with_reducible first | assumption | apply ih | apply keeps_applyWrite
                              | refine keeps_applyWrite_eq (by assumption) ?_)
      | split | dsimp only | intro _

theorem keeps_commitApplied {z s : State} (h : Keeps z s) (a1 : Commit) (a2 : List CPlan) (a3 : ℕ × ℕ) : Keeps z (State.commitApplied s a1 a2 a3) := by
  unfold State.commitApplied
  repeat' first
    | (with_reducible first | assumption | apply keeps_setCtx | apply keeps_chartDone | apply keeps_gauge_now
                            | apply keeps_bump | apply keeps_setReg | apply keeps_applyWrites)
    | ((conv => arg 2; arg 55; skip); with_reducible first | apply keeps_mk | apply keeps_mkc)
    | split | dsimp only | intro _

theorem keeps_commitRefuse {z s : State} (h : Keeps z s) (a1 : ℕ) (a2 : Ctx) (a3 : ℕ) : Keeps z (State.commitRefuse s a1 a2 a3) := by
  unfold State.commitRefuse
  repeat' first
    | (with_reducible first | assumption | apply keeps_setCtx | apply keeps_bump | apply keeps_chartFail)
    | ((conv => arg 2; arg 55; skip); with_reducible first | apply keeps_mk | apply keeps_mkc)
    | split | dsimp only | intro _

theorem keeps_takeCommits {z s : State} (h : Keeps z s) (b : Bool) (l : List Commit) : Keeps z (s.takeCommits b l).1 := by
  induction l generalizing s b with
  | nil => exact h
  | cons x l ih =>
    unfold State.takeCommits
    dsimp only
    repeat' first
      | (with_reducible assumption)
      | (with_reducible apply ih)
      | (with_reducible apply keeps_satFld)
      | (with_reducible apply keeps_when)
      | (with_reducible apply keeps_tcmCount)
      | (with_reducible apply keeps_commitRefuse)
      | (with_reducible apply keeps_commitApplied)
      | (split)
      | (intro _)
      | (dsimp only)

theorem keeps_takeCommits_eq {z s t : State} {b1 : List Commit} {a1 : Bool} {a2 : List Commit}
    (e : s.takeCommits a1 a2 = (t, b1)) (h : Keeps z s) : Keeps z t := by
  have k := keeps_takeCommits h a1 a2
  rw [e] at k; exact k

theorem keeps_edgeCommits {z s : State} (h : Keeps z s)  : Keeps z (State.edgeCommits s) := by
  unfold State.edgeCommits
  repeat' first
    | (with_reducible first | assumption | apply keeps_takeCommits | refine keeps_takeCommits_eq (by assumption) ?_)
    | ((conv => arg 2; arg 55; skip); with_reducible first | apply keeps_mk | apply keeps_mkc)
    | split | dsimp only | intro _

theorem keeps_stage {z s : State} (h : Keeps z s) (a1 : ℕ) (a2 : Ctx) (a3 : List CWrite) : Keeps z (State.stage s a1 a2 a3) := by
  unfold State.stage
  repeat' first
    | (with_reducible first | assumption | apply keeps_setCtx | apply keeps_chartDone)
    | ((conv => arg 2; arg 55; skip); with_reducible first | apply keeps_mk | apply keeps_mkc)
    | split | dsimp only | intro _

theorem keeps_execCommit {z s : State} (h : Keeps z s) (a0 : Fin 8) (a1 : Fin 8) : ResKeeps z (execCommit a0 a1 s) := by
  unfold execCommit
  repeat' first
    | (with_reducible first | apply resKeeps_next | assumption | apply keeps_commitRefuse | apply keeps_setCtx
                            | apply keeps_chartDone | apply keeps_begin | apply keeps_chartRun)
    | ((conv => arg 2; arg 55; skip); with_reducible first | apply keeps_mk | apply keeps_mkc)
    | split | dsimp only | intro _

theorem keeps_execCommitApply {z s : State} (h : Keeps z s)  : ResKeeps z (execCommitApply s) := by
  unfold execCommitApply
  repeat' first
    | (with_reducible first | apply resKeeps_next | assumption | apply keeps_begin | apply keeps_edgeCommits)
    | split | dsimp only | intro _

theorem keeps_execDinv {z s : State} (h : Keeps z s) (a0 : Fin 8) (a1 : Fin 8) : ResKeeps z (execDinv a0 a1 s) := by
  unfold execDinv
  repeat' first
    | (with_reducible first | apply resKeeps_next | assumption | apply keeps_stage | apply keeps_begin
                            | apply keeps_chartRun)
    | split | dsimp only | intro _

theorem keeps_execDiscard {z s : State} (h : Keeps z s) (a0 : Fin 8) (a1 : Fin 8) : ResKeeps z (execDiscard a0 a1 s) := by
  unfold execDiscard
  repeat' first
    | (with_reducible first | apply resKeeps_next | assumption | apply keeps_setCtx | apply keeps_chartDone
                            | apply keeps_begin | apply keeps_chartRun)
    | ((conv => arg 2; arg 55; skip); with_reducible first | apply keeps_mk | apply keeps_mkc)
    | split | dsimp only | intro _

theorem keeps_execDwr {z s : State} (h : Keeps z s) (a0 : Fin 8) (a1 : Fin 8) (a2 : ReadEnd) (a3 : Bytes) : ResKeeps z (execDwr a0 a1 a2 a3 s) := by
  unfold execDwr
  repeat' first
    | (with_reducible first | apply resKeeps_next | assumption | apply keeps_stage | apply keeps_begin
                            | apply keeps_withOperand)
    | split | dsimp only | intro _

theorem keeps_execHdel {z s : State} (h : Keeps z s) (a0 : Fin 8) (a1 : Fin 8) (a2 : ReadEnd) (a3 : Bytes) : ResKeeps z (execHdel a0 a1 a2 a3 s) := by
  unfold execHdel
  repeat' first
    | (with_reducible first | apply resKeeps_next | assumption | apply keeps_stage | apply keeps_begin
                            | apply keeps_withOperand)
    | split | dsimp only | intro _

theorem keeps_execHins {z s : State} (h : Keeps z s) (a0 : Fin 8) (a1 : Fin 8) (a2 : ReadEnd) (a3 : Bytes) : ResKeeps z (execHins a0 a1 a2 a3 s) := by
  unfold execHins
  repeat' first
    | (with_reducible first | apply resKeeps_next | assumption | apply keeps_stage | apply keeps_begin
                            | apply keeps_withOperand)
    | split | dsimp only | intro _

theorem keeps_execPivw {z s : State} (h : Keeps z s) (a0 : Fin 8) (a1 : Fin 8) (a2 : ReadEnd) (a3 : Bytes) : ResKeeps z (execPivw a0 a1 a2 a3 s) := by
  unfold execPivw
  repeat' first
    | (with_reducible first | apply resKeeps_next | assumption | apply keeps_stage | apply keeps_begin
                            | apply keeps_withOperand)
    | split | dsimp only | intro _

theorem keeps_execTact {z s : State} (h : Keeps z s) (a0 : Fin 8) (a1 : Fin 8) (a2 : ReadEnd) (a3 : Bytes) : ResKeeps z (execTact a0 a1 a2 a3 s) := by
  unfold execTact
  repeat' first
    | (with_reducible first | apply resKeeps_next | assumption | apply keeps_stage | apply keeps_begin
                            | apply keeps_withOperand)
    | split | dsimp only | intro _

theorem keeps_execTinv {z s : State} (h : Keeps z s) (a0 : Fin 8) (a1 : Fin 8) : ResKeeps z (execTinv a0 a1 s) := by
  unfold execTinv
  repeat' first
    | (with_reducible first | apply resKeeps_next | assumption | apply keeps_stage | apply keeps_begin
                            | apply keeps_chartRun)
    | split | dsimp only | intro _

theorem keeps_execTval {z s : State} (h : Keeps z s) (a0 : Fin 8) (a1 : Fin 8) : ResKeeps z (execTval a0 a1 s) := by
  unfold execTval
  repeat' first
    | (with_reducible first | apply resKeeps_next | assumption | apply keeps_stage | apply keeps_begin
                            | apply keeps_chartRun)
    | split | dsimp only | intro _

theorem keeps_execTwr {z s : State} (h : Keeps z s) (a0 : Fin 8) (a1 : Fin 8) (a2 : ReadEnd) (a3 : Bytes) : ResKeeps z (execTwr a0 a1 a2 a3 s) := by
  unfold execTwr
  repeat' first
    | (with_reducible first | apply resKeeps_next | assumption | apply keeps_stage | apply keeps_begin
                            | apply keeps_withOperand)
    | split | dsimp only | intro _

theorem keeps_actZero {z s : State} (h : Keeps z s) (a1 : ℕ) (a2 : ℕ) (a3 : ℕ) : Keeps z (State.actZero s a1 a2 a3) := by
  unfold State.actZero
  repeat' first
    | (with_reducible first | assumption | apply keeps_setBfd | apply keeps_setPipe | apply keeps_setReg
                            | apply keeps_each | apply keeps_foldl | apply keeps_foldl_fst | apply keeps_foldl_snd
                            | apply keeps_foldl_mid)
    | ((conv => arg 2; arg 55; skip); with_reducible first | apply keeps_mk | apply keeps_mkc)
    | split | dsimp only | intro _

theorem keeps_dropHeld {z s : State} (h : Keeps z s) (a1 : ℕ) (a2 : ℕ) : Keeps z (State.dropHeld s a1 a2) := by
  unfold State.dropHeld
  repeat' first
    | (with_reducible first | assumption | apply keeps_release)
    | ((conv => arg 2; arg 55; skip); with_reducible first | apply keeps_mk | apply keeps_mkc)
    | split | dsimp only | intro _

theorem keeps_dropReplica {z s : State} (h : Keeps z s) (a1 : ℕ) (a2 : ℕ) : Keeps z (State.dropReplica s a1 a2) := by
  unfold State.dropReplica
  repeat' first
    | (with_reducible first | assumption | apply keeps_setBuf)
    | ((conv => arg 2; arg 55; skip); with_reducible first | apply keeps_mk | apply keeps_mkc)
    | split | dsimp only | intro _

theorem keeps_poison {z s : State} (h : Keeps z s) (a1 : ℕ) (a2 : ℕ) : Keeps z (State.poison s a1 a2) := by
  unfold State.poison
  repeat' first
    | (with_reducible first | assumption | apply keeps_setCopy)
    | ((conv => arg 2; arg 55; skip); with_reducible first | apply keeps_mk | apply keeps_mkc)
    | split | dsimp only | intro _

theorem keeps_parityEnd {z s : State} (h : Keeps z s) (a1 : ℕ) (a2 : ℕ) : Keeps z (State.parityEnd s a1 a2) := by
  unfold State.parityEnd
  repeat' first
    | (with_reducible first | assumption | apply keeps_endNeedle)
    | ((conv => arg 2; arg 55; skip); with_reducible first | apply keeps_mk | apply keeps_mkc)
    | split | dsimp only | intro _

theorem keeps_atDetect {z s : State} (h : Keeps z s) (a1 : ℕ) (a2 : ℕ) (a3 : ℕ) (a4 : BitVec 48) (a5 : ℕ) : Keeps z (State.atDetect s a1 a2 a3 a4 a5) := by
  unfold State.atDetect
  repeat' first
    | (with_reducible first | assumption | apply keeps_setFld | apply keeps_zeroKey | apply keeps_setSamples
                            | apply keeps_dropHeld | apply keeps_dropReplica | apply keeps_poison
                            | apply keeps_parityEnd)
    | ((conv => arg 2; arg 55; skip); with_reducible first | apply keeps_mk | apply keeps_mkc)
    | split | dsimp only | intro _

theorem keeps_fatalDevice {z s : State} (h : Keeps z s)  : Keeps z (State.fatalDevice s) := by
  unfold State.fatalDevice
  repeat' first
    | (with_reducible first | assumption | apply keeps_autoMode)
    | split | dsimp only | intro _

theorem keeps_fatalUnit {z s : State} (h : Keeps z s)  : Keeps z (State.fatalUnit s) := by
  unfold State.fatalUnit
  repeat' first
    | (with_reducible first | assumption | apply keeps_autoMode)
    | split | dsimp only | intro _

theorem keeps_hbmParity {z s : State} (h : Keeps z s) (a1 : ℕ) (a2 : ℕ) (a3 : ℕ) : Keeps z (State.hbmParity s a1 a2 a3) := by
  unfold State.hbmParity
  repeat' first
    | (with_reducible first | assumption | apply keeps_bump | apply keeps_when)
    | split | dsimp only | intro _

theorem keeps_loseUnits {z s : State} (h : Keeps z s) (a1 : List ℕ) (a2 : Bool) : Keeps z (State.loseUnits s a1 a2) := by
  unfold State.loseUnits
  repeat' first
    | (with_reducible first | assumption | apply keeps_fatalUnit | apply keeps_removeDomain | apply keeps_each
                            | apply keeps_when)
    | split | dsimp only | intro _

theorem keeps_noteHit {z s : State} (h : Keeps z s) (a1 : ℕ) (a2 : ℕ) (a3 : ℕ) (a4 : ℕ) : Keeps z (State.noteHit s a1 a2 a3 a4) := by
  unfold State.noteHit
  repeat' first
    | (with_reducible first | assumption)
    | ((conv => arg 2; arg 55; skip); with_reducible first | apply keeps_mk | apply keeps_mkc)
    | split | dsimp only | intro _

theorem keeps_shutEn {z s : State} (h : Keeps z s) (p : Nat) : Keeps z (s.shutEn p) :=
  keeps_mkr (keeps_setFld h _ _ _)
    (fun k => ⟨((keeps_setFld h _ _ _).regs k).1, SMap.wf_set ((keeps_setFld h _ _ _).regs k).2 _ _⟩)

theorem keeps_shutPort {z s : State} (h : Keeps z s) (a1 : ℕ) : Keeps z (State.shutPort s a1) := by
  unfold State.shutPort
  repeat' first
    | (with_reducible first | assumption | apply keeps_shutEn | apply keeps_portEval)
    | split | dsimp only | intro _

theorem keeps_portReact {z s : State} (h : Keeps z s) (a1 : Bool) (a2 : List ℕ) (a3 : Bool) : Keeps z (State.portReact s a1 a2 a3) := by
  unfold State.portReact
  repeat' first
    | (with_reducible first | assumption | apply keeps_requestBindoff | apply keeps_portEval | apply keeps_shutPort
                            | apply keeps_each)
    | ((conv => arg 2; arg 55; skip); with_reducible first | apply keeps_mk | apply keeps_mkc)
    | split | dsimp only | intro _

theorem keeps_stagingLost {z s : State} (h : Keeps z s) (a1 : ℕ) : Keeps z (State.stagingLost s a1) := by
  unfold State.stagingLost
  repeat' first
    | (with_reducible first | assumption | apply keeps_chartFail | apply keeps_each)
    | ((conv => arg 2; arg 55; skip); with_reducible first | apply keeps_mk | apply keeps_mkc)
    | split | dsimp only | intro _

theorem keeps_toEconomy {z s : State} (h : Keeps z s) (a1 : ℕ) : Keeps z (State.toEconomy s a1) := by
  unfold State.toEconomy
  repeat' first
    | (with_reducible first | assumption | apply keeps_autoMode)
    | split | dsimp only | intro _

theorem keeps_react {z s : State} (h : Keeps z s) (a1 : React) : Keeps z (State.react s a1) := by
  unfold State.react
  repeat' first
    | (with_reducible first | assumption | apply keeps_portReact | apply keeps_setReg | apply keeps_setFld
                            | apply keeps_flushQueue | apply keeps_setTabs | apply keeps_actZero
                            | apply keeps_stagingLost | apply keeps_toEconomy | apply keeps_fatalDevice
                            | apply keeps_when | apply keeps_loseUnits)
    | ((conv => arg 2; arg 55; skip); with_reducible first | apply keeps_mk | apply keeps_mkc)
    | split | dsimp only | intro _

theorem keeps_execFaultDetect {z s : State} (h : Keeps z s) (a0 : Fin 23) (a1 : Fin 32) (a2 : Fin 65536) (a3 : BitVec 48) (a4 : ℕ) (a5 : Bool) : ResKeeps z (execFaultDetect a0 a1 a2 a3 a4 a5 s) := by
  unfold execFaultDetect
  repeat' first
    | (with_reducible first | apply resKeeps_next | assumption | apply keeps_atDetect | apply keeps_hbmParity
                            | apply keeps_faultWith | apply keeps_noteHit | apply keeps_supplyLoss | apply keeps_begin)
    | split | dsimp only | intro _

theorem keeps_execFaultReaction {z s : State} (h : Keeps z s) (a0 : Fin 23) (a1 : Fin 32) (a2 : Fin 65536) : ResKeeps z (execFaultReaction a0 a1 a2 s) := by
  unfold execFaultReaction
  repeat' first
    | (with_reducible first | apply resKeeps_next | assumption | apply keeps_react | apply keeps_begin)
    | ((conv => arg 2; arg 55; skip); with_reducible first | apply keeps_mk | apply keeps_mkc)
    | split | dsimp only | intro _

theorem keeps_agerLate {z s : State} (h : Keeps z s)  : Keeps z (State.agerLate s) := by
  unfold State.agerLate
  repeat' first
    | (with_reducible first | assumption | apply keeps_satFld | apply keeps_setBit | apply keeps_interrupt
                            | apply keeps_fault)
    | split | dsimp only | intro _

theorem keeps_copyLag {z s : State} (h : Keeps z s) (a1 : ℕ) (a2 : ℕ) : Keeps z (State.copyLag s a1 a2) := by
  unfold State.copyLag
  repeat' first
    | (with_reducible first | assumption | apply keeps_setReg | apply keeps_each)
    | split | dsimp only | intro _

theorem keeps_edgeBefore {z s : State} (h : Keeps z s) (a1 : EdgeIn) : Keeps z (State.edgeBefore s a1) := by
  unfold State.edgeBefore
  repeat' first
    | (with_reducible first | assumption | apply keeps_agerLate | apply keeps_when | apply keeps_edgeLearn
                            | apply keeps_passClocks)
    | split | dsimp only | intro _

theorem keeps_edgeChart {z s : State} (h : Keeps z s)  : Keeps z (State.edgeChart s) := by
  unfold State.edgeChart
  repeat' first
    | (with_reducible first | assumption)
    | ((conv => arg 2; arg 55; skip); with_reducible first | apply keeps_mk | apply keeps_mkc)
    | split | dsimp only | intro _

theorem keeps_edgeClkreq {z s : State} (h : Keeps z s) (a1 : Bool) : Keeps z (State.edgeClkreq s a1) := by
  unfold State.edgeClkreq
  repeat' first
    | (with_reducible first | assumption)
    | ((conv => arg 2; arg 55; skip); with_reducible first | apply keeps_mk | apply keeps_mkc)
    | split | dsimp only | intro _

theorem keeps_edgeTemp {z s : State} (h : Keeps z s) (a1 : BitVec 8) : Keeps z (State.edgeTemp s a1) := by
  unfold State.edgeTemp
  repeat' first
    | (with_reducible first | assumption | apply keeps_setFld)
    | split | dsimp only | intro _

theorem keeps_edgeFec {z s : State} (h : Keeps z s) (a1 : EdgeIn) : Keeps z (State.edgeFec s a1) := by
  unfold State.edgeFec
  repeat' first
    | (with_reducible first | assumption | apply keeps_fault | apply keeps_macCount | apply keeps_each
                            | apply keeps_foldl | apply keeps_foldl_fst | apply keeps_foldl_snd | apply keeps_foldl_mid)
    | split | dsimp only | intro _

theorem keeps_edgeLanes {z s : State} (h : Keeps z s) (a1 : EdgeIn) : Keeps z (State.edgeLanes s a1) := by
  unfold State.edgeLanes
  repeat' first
    | (with_reducible first | assumption | apply keeps_satFld | apply keeps_when | apply keeps_setFld
                            | apply keeps_foldl | apply keeps_foldl_fst | apply keeps_foldl_snd | apply keeps_foldl_mid)
    | split | dsimp only | intro _

theorem keeps_edgeCounts {z s : State} (h : Keeps z s) (a1 : EdgeIn) (a2 : ℕ) : Keeps z (State.edgeCounts s a1 a2) := by
  unfold State.edgeCounts
  repeat' first
    | (with_reducible first | assumption | apply keeps_edgeChart | apply keeps_edgeDebug | apply keeps_edgeBoot
                            | apply keeps_edgeTemp | apply keeps_edgeAvs | apply keeps_edgeFec | apply keeps_edgeLanes
                            | apply keeps_edgeHold | apply keeps_edgeBeat | apply keeps_edgeCages | apply keeps_edgeTod
                            | apply keeps_edgeJournal | apply keeps_edgeFreeze | apply keeps_edgePorts
                            | apply keeps_edgeReseq | apply keeps_edgeHbc)
    | split | dsimp only | intro _

theorem keeps_edgeForce {z s : State} (h : Keeps z s) : Keeps z s.edgeForce := keeps_mkr h (fun k => ⟨(h.regs k).1, (h.regs k).1⟩)

theorem keeps_edgeGo {z s : State} (h : Keeps z s)  : Keeps z (State.edgeGo s) := by
  unfold State.edgeGo
  repeat' first
    | (with_reducible first | assumption)
    | ((conv => arg 2; arg 55; skip); with_reducible first | apply keeps_mk | apply keeps_mkc)
    | split | dsimp only | intro _

theorem keeps_edgeLag {z s : State} (h : Keeps z s)  : Keeps z (State.edgeLag s) := by
  unfold State.edgeLag
  repeat' first
    | (with_reducible first | assumption | apply keeps_setReg | apply keeps_each | apply keeps_foldl
                            | apply keeps_foldl_fst | apply keeps_foldl_snd | apply keeps_foldl_mid)
    | ((conv => arg 2; arg 55; skip); with_reducible first | apply keeps_mk | apply keeps_mkc)
    | split | dsimp only | intro _

theorem keeps_edgeMeters {z s : State} (h : Keeps z s)  : Keeps z (State.edgeMeters s) := by
  unfold State.edgeMeters
  repeat' first
    | (with_reducible first | assumption)
    | ((conv => arg 2; arg 55; skip); with_reducible first | apply keeps_mk | apply keeps_mkc)
    | split | dsimp only | intro _

theorem keeps_edgePower {z s : State} (h : Keeps z s) (a1 : List ℕ) : Keeps z (State.edgePower s a1) := by
  unfold State.edgePower
  repeat' first
    | (with_reducible first | assumption | apply keeps_copyLag | apply keeps_each | apply keeps_edgeDomains)
    | ((conv => arg 2; arg 55; skip); with_reducible first | apply keeps_mk | apply keeps_mkc)
    | split | dsimp only | intro _

theorem keeps_edgeModes {z s : State} (h : Keeps z s) (a1 : EdgeIn) : Keeps z (State.edgeModes s a1) := by
  unfold State.edgeModes
  repeat' first
    | (with_reducible first | assumption | apply keeps_edgeSplit | apply keeps_edgeGo | apply keeps_edgeMode
                            | apply keeps_edgePower | apply keeps_edgeLevel | apply keeps_edgeLag)
    | split | dsimp only | intro _

theorem keeps_withForce {z s : State} (h : Keeps z s) {old : SMap (BitVec 64)}
    (ho : z.RegsCanonical → SMap.wf Reg.resetAt old = true) : Keeps z (s.withForce old) :=
  keeps_mkr h (fun k => ⟨(h.regs k).1, SMap.wf_filter (ho k) _⟩)

theorem keeps_edgeRefill {z s : State} (h : Keeps z s) (was : Nat) {old : SMap (BitVec 64)}
    (ho : z.RegsCanonical → SMap.wf Reg.resetAt old = true) : Keeps z (s.edgeRefill was old) := by
  unfold State.edgeRefill
  exact keeps_edgeForce (keeps_edgeTimers (keeps_edgeSynce (keeps_edgeResponders (keeps_edgeShapers
    (keeps_edgeMeters (keeps_withForce h ho))))) _)

theorem keeps_scrubFound {z s : State} (h : Keeps z s) (a1 : ℕ) (a2 : ℕ) (a3 : ScrubFind) : Keeps z (State.scrubFound s a1 a2 a3) := by
  unfold State.scrubFound
  repeat' first
    | (with_reducible first | assumption | apply keeps_setValid | apply keeps_setFld | apply keeps_tcmCount
                            | apply keeps_fault)
    | ((conv => arg 2; arg 55; skip); with_reducible first | apply keeps_mk | apply keeps_mkc)
    | split | dsimp only | intro _

theorem keeps_edgeScrub {z s : State} (h : Keeps z s) (a1 : EdgeIn) (a2 : ℕ) : Keeps z (State.edgeScrub s a1 a2) := by
  unfold State.edgeScrub
  repeat' first
    | (with_reducible first | assumption | apply keeps_setFld | apply keeps_when | apply keeps_scrubFound
                            | apply keeps_foldl | apply keeps_foldl_fst | apply keeps_foldl_snd | apply keeps_foldl_mid)
    | ((conv => arg 2; arg 55; skip); with_reducible first | apply keeps_mk | apply keeps_mkc)
    | split | dsimp only | intro _

theorem keeps_edgeTables {z s : State} (h : Keeps z s) (a1 : EdgeIn) : Keeps z (State.edgeTables s a1) := by
  unfold State.edgeTables
  repeat' first
    | (with_reducible first | assumption | apply keeps_edgeSeeds | apply keeps_edgeTcamValidity | apply keeps_edgeTwins
                            | apply keeps_edgeScrub)
    | split | dsimp only | intro _

theorem keeps_edgeTime {z s : State} (h : Keeps z s)  : Keeps z (State.edgeTime s) := by
  unfold State.edgeTime
  repeat' first
    | (with_reducible first | assumption | apply keeps_setReg | apply keeps_edgeStamps | apply keeps_edgeCount)
    | ((conv => arg 2; arg 55; skip); with_reducible first | apply keeps_mk | apply keeps_mkc)
    | split | dsimp only | intro _

theorem keeps_execTickEdge {z s : State} (h : Keeps z s) (a0 : EdgeIn) : ResKeeps z (execTickEdge a0 s) := by
  unfold execTickEdge
  extract_lets s0 was s1 s2
  have h0 : Keeps z s0 := keeps_begin h
  have h1 : Keeps z s1 := keeps_edgeTime (keeps_edgeBefore h0 _)
  have h2 : Keeps z s2 := keeps_hwWrites (keeps_edgeCommits (keeps_edgeTables (keeps_edgeForce h1) _))
  clear_value s1 s2
  split
  · exact resKeeps_next h0
  · exact resKeeps_next (keeps_edgeClkreq (keeps_edgeRings (keeps_edgeL0p (keeps_edgeCounts
      (keeps_edgeRefill (keeps_edgeModes h2 _) _ (fun k => (h1.regs k).2)) _ _))) _)

end Sys2Proof.Machine
end

