-- ==== Sys2Proof/Laws/State.lean ====
section
/-! SUPPORT. For each operation that changes one field of State, every other field as it was: true by rfl, for simp;
and what its own field then reads as. -/

namespace Sys2Proof.Machine

@[simp] theorem State.setReg_others (s : State) (r : Reg) (i : Nat) (v : BitVec 64) :
    (s.setReg r i v).pending = s.pending ∧ (s.setReg r i v).out = s.out ∧ (s.setReg r i v).fresh = s.fresh ∧
    (s.setReg r i v).part = s.part ∧ (s.setReg r i v).inForce = s.inForce ∧ (s.setReg r i v).bus = s.bus ∧
    (s.setReg r i v).tick = s.tick ∧ (s.setReg r i v).mode = s.mode ∧ (s.setReg r i v).pcie = s.pcie ∧
    (s.setReg r i v).dma = s.dma ∧ (s.setReg r i v).flt = s.flt ∧ (s.setReg r i v).jrn = s.jrn ∧
    (s.setReg r i v).ports = s.ports ∧ (s.setReg r i v).cages = s.cages ∧ (s.setReg r i v).cmb = s.cmb ∧
    (s.setReg r i v).tim = s.tim ∧ (s.setReg r i v).nextId = s.nextId ∧ (s.setReg r i v).tabs = s.tabs ∧
    (s.setReg r i v).prev1 = s.prev1 ∧ (s.setReg r i v).prev2 = s.prev2 ∧ (s.setReg r i v).tslots = s.tslots ∧
    (s.setReg r i v).tvals = s.tvals ∧ (s.setReg r i v).meters = s.meters ∧ (s.setReg r i v).stats = s.stats ∧
    (s.setReg r i v).hits = s.hits ∧ (s.setReg r i v).needles = s.needles ∧ (s.setReg r i v).lookups = s.lookups ∧
    (s.setReg r i v).pipes = s.pipes ∧ (s.setReg r i v).staged = s.staged ∧ (s.setReg r i v).copies = s.copies ∧
    (s.setReg r i v).gauge = s.gauge ∧ (s.setReg r i v).tqueue = s.tqueue ∧ (s.setReg r i v).scrubNext = s.scrubNext ∧
    (s.setReg r i v).twins = s.twins ∧ (s.setReg r i v).learn = s.learn ∧ (s.setReg r i v).flushes = s.flushes ∧
    (s.setReg r i v).flushPorts = s.flushPorts ∧ (s.setReg r i v).txq = s.txq ∧ (s.setReg r i v).queues = s.queues ∧
    (s.setReg r i v).bufs = s.bufs ∧ (s.setReg r i v).groups = s.groups ∧ (s.setReg r i v).xoff = s.xoff ∧
    (s.setReg r i v).bfd = s.bfd ∧ (s.setReg r i v).lacp = s.lacp ∧ (s.setReg r i v).lags = s.lags ∧
    (s.setReg r i v).seqs = s.seqs ∧ (s.setReg r i v).rsq = s.rsq ∧ (s.setReg r i v).held = s.held ∧
    (s.setReg r i v).rsqGo = s.rsqGo ∧ (s.setReg r i v).hbc = s.hbc ∧ (s.setReg r i v).keys = s.keys ∧
    (s.setReg r i v).wrote = s.wrote ∧ (s.setReg r i v).chart = s.chart ∧ (s.setReg r i v).pwr = s.pwr ∧
    (s.setReg r i v).boot = s.boot ∧ (s.setReg r i v).sec = s.sec := by
  unfold State.setReg
  exact ⟨rfl, rfl, rfl, rfl, rfl, rfl, rfl, rfl, rfl, rfl, rfl, rfl, rfl, rfl, rfl, rfl, rfl, rfl, rfl, rfl, rfl, rfl, rfl, rfl,
   rfl, rfl, rfl, rfl, rfl, rfl, rfl, rfl, rfl, rfl, rfl, rfl, rfl, rfl, rfl, rfl, rfl, rfl, rfl, rfl, rfl, rfl, rfl, rfl,
   rfl, rfl, rfl, rfl, rfl, rfl, rfl, rfl⟩

@[simp] theorem State.setFld_others (s : State) (f : Fld) (i v : Nat) :
    (s.setFld f i v).pending = s.pending ∧ (s.setFld f i v).out = s.out ∧ (s.setFld f i v).fresh = s.fresh ∧
    (s.setFld f i v).part = s.part ∧ (s.setFld f i v).inForce = s.inForce ∧ (s.setFld f i v).bus = s.bus ∧
    (s.setFld f i v).tick = s.tick ∧ (s.setFld f i v).mode = s.mode ∧ (s.setFld f i v).pcie = s.pcie ∧
    (s.setFld f i v).dma = s.dma ∧ (s.setFld f i v).flt = s.flt ∧ (s.setFld f i v).jrn = s.jrn ∧
    (s.setFld f i v).ports = s.ports ∧ (s.setFld f i v).cages = s.cages ∧ (s.setFld f i v).cmb = s.cmb ∧
    (s.setFld f i v).tim = s.tim ∧ (s.setFld f i v).nextId = s.nextId ∧ (s.setFld f i v).tabs = s.tabs ∧
    (s.setFld f i v).prev1 = s.prev1 ∧ (s.setFld f i v).prev2 = s.prev2 ∧ (s.setFld f i v).tslots = s.tslots ∧
    (s.setFld f i v).tvals = s.tvals ∧ (s.setFld f i v).meters = s.meters ∧ (s.setFld f i v).stats = s.stats ∧
    (s.setFld f i v).hits = s.hits ∧ (s.setFld f i v).needles = s.needles ∧ (s.setFld f i v).lookups = s.lookups ∧
    (s.setFld f i v).pipes = s.pipes ∧ (s.setFld f i v).staged = s.staged ∧ (s.setFld f i v).copies = s.copies ∧
    (s.setFld f i v).gauge = s.gauge ∧ (s.setFld f i v).tqueue = s.tqueue ∧ (s.setFld f i v).scrubNext = s.scrubNext ∧
    (s.setFld f i v).twins = s.twins ∧ (s.setFld f i v).learn = s.learn ∧ (s.setFld f i v).flushes = s.flushes ∧
    (s.setFld f i v).flushPorts = s.flushPorts ∧ (s.setFld f i v).txq = s.txq ∧ (s.setFld f i v).queues = s.queues ∧
    (s.setFld f i v).bufs = s.bufs ∧ (s.setFld f i v).groups = s.groups ∧ (s.setFld f i v).xoff = s.xoff ∧
    (s.setFld f i v).bfd = s.bfd ∧ (s.setFld f i v).lacp = s.lacp ∧ (s.setFld f i v).lags = s.lags ∧
    (s.setFld f i v).seqs = s.seqs ∧ (s.setFld f i v).rsq = s.rsq ∧ (s.setFld f i v).held = s.held ∧
    (s.setFld f i v).rsqGo = s.rsqGo ∧ (s.setFld f i v).hbc = s.hbc ∧ (s.setFld f i v).keys = s.keys ∧
    (s.setFld f i v).wrote = s.wrote ∧ (s.setFld f i v).chart = s.chart ∧ (s.setFld f i v).pwr = s.pwr ∧
    (s.setFld f i v).boot = s.boot ∧ (s.setFld f i v).sec = s.sec := by
  unfold State.setFld
  simp

@[simp] theorem State.emit_others (s : State) (o : Out) :
    (s.emit o).pending = s.pending ∧ (s.emit o).fresh = s.fresh ∧ (s.emit o).part = s.part ∧ (s.emit o).regs = s.regs ∧
    (s.emit o).inForce = s.inForce ∧ (s.emit o).bus = s.bus ∧ (s.emit o).tick = s.tick ∧ (s.emit o).mode = s.mode ∧
    (s.emit o).pcie = s.pcie ∧ (s.emit o).dma = s.dma ∧ (s.emit o).flt = s.flt ∧ (s.emit o).jrn = s.jrn ∧
    (s.emit o).ports = s.ports ∧ (s.emit o).cages = s.cages ∧ (s.emit o).cmb = s.cmb ∧ (s.emit o).tim = s.tim ∧
    (s.emit o).nextId = s.nextId ∧ (s.emit o).tabs = s.tabs ∧ (s.emit o).prev1 = s.prev1 ∧ (s.emit o).prev2 = s.prev2 ∧
    (s.emit o).tslots = s.tslots ∧ (s.emit o).tvals = s.tvals ∧ (s.emit o).meters = s.meters ∧ (s.emit o).stats = s.stats ∧
    (s.emit o).hits = s.hits ∧ (s.emit o).needles = s.needles ∧ (s.emit o).lookups = s.lookups ∧ (s.emit o).pipes = s.pipes ∧
    (s.emit o).staged = s.staged ∧ (s.emit o).copies = s.copies ∧ (s.emit o).gauge = s.gauge ∧ (s.emit o).tqueue = s.tqueue ∧
    (s.emit o).scrubNext = s.scrubNext ∧ (s.emit o).twins = s.twins ∧ (s.emit o).learn = s.learn ∧
    (s.emit o).flushes = s.flushes ∧ (s.emit o).flushPorts = s.flushPorts ∧ (s.emit o).txq = s.txq ∧
    (s.emit o).queues = s.queues ∧ (s.emit o).bufs = s.bufs ∧ (s.emit o).groups = s.groups ∧ (s.emit o).xoff = s.xoff ∧
    (s.emit o).bfd = s.bfd ∧ (s.emit o).lacp = s.lacp ∧ (s.emit o).lags = s.lags ∧ (s.emit o).seqs = s.seqs ∧
    (s.emit o).rsq = s.rsq ∧ (s.emit o).held = s.held ∧ (s.emit o).rsqGo = s.rsqGo ∧ (s.emit o).hbc = s.hbc ∧
    (s.emit o).keys = s.keys ∧ (s.emit o).wrote = s.wrote ∧ (s.emit o).chart = s.chart ∧ (s.emit o).pwr = s.pwr ∧
    (s.emit o).boot = s.boot ∧ (s.emit o).sec = s.sec ∧ (∀ rg j, (s.emit o).reg rg j = s.reg rg j) ∧
    (∀ fd j, (s.emit o).fld fd j = s.fld fd j) ∧ (∀ fd j, (s.emit o).bit fd j = s.bit fd j) := by
  unfold State.emit
  exact ⟨rfl, rfl, rfl, rfl, rfl, rfl, rfl, rfl, rfl, rfl, rfl, rfl, rfl, rfl, rfl, rfl, rfl, rfl, rfl, rfl, rfl, rfl, rfl, rfl,
   rfl, rfl, rfl, rfl, rfl, rfl, rfl, rfl, rfl, rfl, rfl, rfl, rfl, rfl, rfl, rfl, rfl, rfl, rfl, rfl, rfl, rfl, rfl, rfl,
   rfl, rfl, rfl, rfl, rfl, rfl, rfl, rfl, fun _ _ => rfl, fun _ _ => rfl, fun _ _ => rfl⟩

@[simp] theorem State.begin_others (s : State) :
    (s.begin).pending = s.pending ∧ (s.begin).fresh = s.fresh ∧ (s.begin).part = s.part ∧ (s.begin).regs = s.regs ∧
    (s.begin).inForce = s.inForce ∧ (s.begin).bus = s.bus ∧ (s.begin).tick = s.tick ∧ (s.begin).mode = s.mode ∧
    (s.begin).pcie = s.pcie ∧ (s.begin).dma = s.dma ∧ (s.begin).flt = s.flt ∧ (s.begin).jrn = s.jrn ∧
    (s.begin).ports = s.ports ∧ (s.begin).cages = s.cages ∧ (s.begin).cmb = s.cmb ∧ (s.begin).tim = s.tim ∧
    (s.begin).nextId = s.nextId ∧ (s.begin).tabs = s.tabs ∧ (s.begin).prev1 = s.prev1 ∧ (s.begin).prev2 = s.prev2 ∧
    (s.begin).tslots = s.tslots ∧ (s.begin).tvals = s.tvals ∧ (s.begin).meters = s.meters ∧ (s.begin).stats = s.stats ∧
    (s.begin).hits = s.hits ∧ (s.begin).needles = s.needles ∧ (s.begin).lookups = s.lookups ∧ (s.begin).pipes = s.pipes ∧
    (s.begin).staged = s.staged ∧ (s.begin).copies = s.copies ∧ (s.begin).gauge = s.gauge ∧ (s.begin).tqueue = s.tqueue ∧
    (s.begin).scrubNext = s.scrubNext ∧ (s.begin).twins = s.twins ∧ (s.begin).learn = s.learn ∧
    (s.begin).flushes = s.flushes ∧ (s.begin).flushPorts = s.flushPorts ∧ (s.begin).txq = s.txq ∧
    (s.begin).queues = s.queues ∧ (s.begin).bufs = s.bufs ∧ (s.begin).groups = s.groups ∧ (s.begin).xoff = s.xoff ∧
    (s.begin).bfd = s.bfd ∧ (s.begin).lacp = s.lacp ∧ (s.begin).lags = s.lags ∧ (s.begin).seqs = s.seqs ∧
    (s.begin).rsq = s.rsq ∧ (s.begin).held = s.held ∧ (s.begin).rsqGo = s.rsqGo ∧ (s.begin).hbc = s.hbc ∧
    (s.begin).keys = s.keys ∧ (s.begin).wrote = s.wrote ∧ (s.begin).chart = s.chart ∧ (s.begin).pwr = s.pwr ∧
    (s.begin).boot = s.boot ∧ (s.begin).sec = s.sec ∧ (∀ rg j, (s.begin).reg rg j = s.reg rg j) ∧
    (∀ fd j, (s.begin).fld fd j = s.fld fd j) ∧ (∀ fd j, (s.begin).bit fd j = s.bit fd j) := by
  unfold State.begin
  exact ⟨rfl, rfl, rfl, rfl, rfl, rfl, rfl, rfl, rfl, rfl, rfl, rfl, rfl, rfl, rfl, rfl, rfl, rfl, rfl, rfl, rfl, rfl, rfl, rfl,
   rfl, rfl, rfl, rfl, rfl, rfl, rfl, rfl, rfl, rfl, rfl, rfl, rfl, rfl, rfl, rfl, rfl, rfl, rfl, rfl, rfl, rfl, rfl, rfl,
   rfl, rfl, rfl, rfl, rfl, rfl, rfl, rfl, fun _ _ => rfl, fun _ _ => rfl, fun _ _ => rfl⟩

@[simp] theorem State.drawn_others (s : State) :
    (s.drawn).pending = s.pending ∧ (s.drawn).out = s.out ∧ (s.drawn).part = s.part ∧ (s.drawn).regs = s.regs ∧
    (s.drawn).inForce = s.inForce ∧ (s.drawn).bus = s.bus ∧ (s.drawn).tick = s.tick ∧ (s.drawn).mode = s.mode ∧
    (s.drawn).pcie = s.pcie ∧ (s.drawn).dma = s.dma ∧ (s.drawn).flt = s.flt ∧ (s.drawn).jrn = s.jrn ∧
    (s.drawn).ports = s.ports ∧ (s.drawn).cages = s.cages ∧ (s.drawn).cmb = s.cmb ∧ (s.drawn).tim = s.tim ∧
    (s.drawn).nextId = s.nextId ∧ (s.drawn).tabs = s.tabs ∧ (s.drawn).prev1 = s.prev1 ∧ (s.drawn).prev2 = s.prev2 ∧
    (s.drawn).tslots = s.tslots ∧ (s.drawn).tvals = s.tvals ∧ (s.drawn).meters = s.meters ∧ (s.drawn).stats = s.stats ∧
    (s.drawn).hits = s.hits ∧ (s.drawn).needles = s.needles ∧ (s.drawn).lookups = s.lookups ∧ (s.drawn).pipes = s.pipes ∧
    (s.drawn).staged = s.staged ∧ (s.drawn).copies = s.copies ∧ (s.drawn).gauge = s.gauge ∧ (s.drawn).tqueue = s.tqueue ∧
    (s.drawn).scrubNext = s.scrubNext ∧ (s.drawn).twins = s.twins ∧ (s.drawn).learn = s.learn ∧
    (s.drawn).flushes = s.flushes ∧ (s.drawn).flushPorts = s.flushPorts ∧ (s.drawn).txq = s.txq ∧
    (s.drawn).queues = s.queues ∧ (s.drawn).bufs = s.bufs ∧ (s.drawn).groups = s.groups ∧ (s.drawn).xoff = s.xoff ∧
    (s.drawn).bfd = s.bfd ∧ (s.drawn).lacp = s.lacp ∧ (s.drawn).lags = s.lags ∧ (s.drawn).seqs = s.seqs ∧
    (s.drawn).rsq = s.rsq ∧ (s.drawn).held = s.held ∧ (s.drawn).rsqGo = s.rsqGo ∧ (s.drawn).hbc = s.hbc ∧
    (s.drawn).keys = s.keys ∧ (s.drawn).wrote = s.wrote ∧ (s.drawn).chart = s.chart ∧ (s.drawn).pwr = s.pwr ∧
    (s.drawn).boot = s.boot ∧ (s.drawn).sec = s.sec ∧ (∀ rg j, (s.drawn).reg rg j = s.reg rg j) ∧
    (∀ fd j, (s.drawn).fld fd j = s.fld fd j) ∧ (∀ fd j, (s.drawn).bit fd j = s.bit fd j) := by
  unfold State.drawn
  exact ⟨rfl, rfl, rfl, rfl, rfl, rfl, rfl, rfl, rfl, rfl, rfl, rfl, rfl, rfl, rfl, rfl, rfl, rfl, rfl, rfl, rfl, rfl, rfl, rfl,
   rfl, rfl, rfl, rfl, rfl, rfl, rfl, rfl, rfl, rfl, rfl, rfl, rfl, rfl, rfl, rfl, rfl, rfl, rfl, rfl, rfl, rfl, rfl, rfl,
   rfl, rfl, rfl, rfl, rfl, rfl, rfl, rfl, fun _ _ => rfl, fun _ _ => rfl, fun _ _ => rfl⟩

@[simp] theorem State.setPort_others (s : State) (p : Nat) (v : PortSt) :
    (s.setPort p v).pending = s.pending ∧ (s.setPort p v).out = s.out ∧ (s.setPort p v).fresh = s.fresh ∧
    (s.setPort p v).part = s.part ∧ (s.setPort p v).regs = s.regs ∧ (s.setPort p v).inForce = s.inForce ∧
    (s.setPort p v).bus = s.bus ∧ (s.setPort p v).tick = s.tick ∧ (s.setPort p v).mode = s.mode ∧
    (s.setPort p v).pcie = s.pcie ∧ (s.setPort p v).dma = s.dma ∧ (s.setPort p v).flt = s.flt ∧ (s.setPort p v).jrn = s.jrn ∧
    (s.setPort p v).cages = s.cages ∧ (s.setPort p v).cmb = s.cmb ∧ (s.setPort p v).tim = s.tim ∧
    (s.setPort p v).nextId = s.nextId ∧ (s.setPort p v).tabs = s.tabs ∧ (s.setPort p v).prev1 = s.prev1 ∧
    (s.setPort p v).prev2 = s.prev2 ∧ (s.setPort p v).tslots = s.tslots ∧ (s.setPort p v).tvals = s.tvals ∧
    (s.setPort p v).meters = s.meters ∧ (s.setPort p v).stats = s.stats ∧ (s.setPort p v).hits = s.hits ∧
    (s.setPort p v).needles = s.needles ∧ (s.setPort p v).lookups = s.lookups ∧ (s.setPort p v).pipes = s.pipes ∧
    (s.setPort p v).staged = s.staged ∧ (s.setPort p v).copies = s.copies ∧ (s.setPort p v).gauge = s.gauge ∧
    (s.setPort p v).tqueue = s.tqueue ∧ (s.setPort p v).scrubNext = s.scrubNext ∧ (s.setPort p v).twins = s.twins ∧
    (s.setPort p v).learn = s.learn ∧ (s.setPort p v).flushes = s.flushes ∧ (s.setPort p v).flushPorts = s.flushPorts ∧
    (s.setPort p v).txq = s.txq ∧ (s.setPort p v).queues = s.queues ∧ (s.setPort p v).bufs = s.bufs ∧
    (s.setPort p v).groups = s.groups ∧ (s.setPort p v).xoff = s.xoff ∧ (s.setPort p v).bfd = s.bfd ∧
    (s.setPort p v).lacp = s.lacp ∧ (s.setPort p v).lags = s.lags ∧ (s.setPort p v).seqs = s.seqs ∧
    (s.setPort p v).rsq = s.rsq ∧ (s.setPort p v).held = s.held ∧ (s.setPort p v).rsqGo = s.rsqGo ∧
    (s.setPort p v).hbc = s.hbc ∧ (s.setPort p v).keys = s.keys ∧ (s.setPort p v).wrote = s.wrote ∧
    (s.setPort p v).chart = s.chart ∧ (s.setPort p v).pwr = s.pwr ∧ (s.setPort p v).boot = s.boot ∧
    (s.setPort p v).sec = s.sec ∧ (∀ rg j, (s.setPort p v).reg rg j = s.reg rg j) ∧
    (∀ fd j, (s.setPort p v).fld fd j = s.fld fd j) ∧ (∀ fd j, (s.setPort p v).bit fd j = s.bit fd j) := by
  unfold State.setPort
  exact ⟨rfl, rfl, rfl, rfl, rfl, rfl, rfl, rfl, rfl, rfl, rfl, rfl, rfl, rfl, rfl, rfl, rfl, rfl, rfl, rfl, rfl, rfl, rfl, rfl,
   rfl, rfl, rfl, rfl, rfl, rfl, rfl, rfl, rfl, rfl, rfl, rfl, rfl, rfl, rfl, rfl, rfl, rfl, rfl, rfl, rfl, rfl, rfl, rfl,
   rfl, rfl, rfl, rfl, rfl, rfl, rfl, rfl, fun _ _ => rfl, fun _ _ => rfl, fun _ _ => rfl⟩

@[simp] theorem State.setPipe_others (s : State) (n : Nat) (v : PipeSt) :
    (s.setPipe n v).pending = s.pending ∧ (s.setPipe n v).out = s.out ∧ (s.setPipe n v).fresh = s.fresh ∧
    (s.setPipe n v).part = s.part ∧ (s.setPipe n v).regs = s.regs ∧ (s.setPipe n v).inForce = s.inForce ∧
    (s.setPipe n v).bus = s.bus ∧ (s.setPipe n v).tick = s.tick ∧ (s.setPipe n v).mode = s.mode ∧
    (s.setPipe n v).pcie = s.pcie ∧ (s.setPipe n v).dma = s.dma ∧ (s.setPipe n v).flt = s.flt ∧ (s.setPipe n v).jrn = s.jrn ∧
    (s.setPipe n v).ports = s.ports ∧ (s.setPipe n v).cages = s.cages ∧ (s.setPipe n v).cmb = s.cmb ∧
    (s.setPipe n v).tim = s.tim ∧ (s.setPipe n v).nextId = s.nextId ∧ (s.setPipe n v).tabs = s.tabs ∧
    (s.setPipe n v).prev1 = s.prev1 ∧ (s.setPipe n v).prev2 = s.prev2 ∧ (s.setPipe n v).tslots = s.tslots ∧
    (s.setPipe n v).tvals = s.tvals ∧ (s.setPipe n v).meters = s.meters ∧ (s.setPipe n v).stats = s.stats ∧
    (s.setPipe n v).hits = s.hits ∧ (s.setPipe n v).needles = s.needles ∧ (s.setPipe n v).lookups = s.lookups ∧
    (s.setPipe n v).staged = s.staged ∧ (s.setPipe n v).copies = s.copies ∧ (s.setPipe n v).gauge = s.gauge ∧
    (s.setPipe n v).tqueue = s.tqueue ∧ (s.setPipe n v).scrubNext = s.scrubNext ∧ (s.setPipe n v).twins = s.twins ∧
    (s.setPipe n v).learn = s.learn ∧ (s.setPipe n v).flushes = s.flushes ∧ (s.setPipe n v).flushPorts = s.flushPorts ∧
    (s.setPipe n v).txq = s.txq ∧ (s.setPipe n v).queues = s.queues ∧ (s.setPipe n v).bufs = s.bufs ∧
    (s.setPipe n v).groups = s.groups ∧ (s.setPipe n v).xoff = s.xoff ∧ (s.setPipe n v).bfd = s.bfd ∧
    (s.setPipe n v).lacp = s.lacp ∧ (s.setPipe n v).lags = s.lags ∧ (s.setPipe n v).seqs = s.seqs ∧
    (s.setPipe n v).rsq = s.rsq ∧ (s.setPipe n v).held = s.held ∧ (s.setPipe n v).rsqGo = s.rsqGo ∧
    (s.setPipe n v).hbc = s.hbc ∧ (s.setPipe n v).keys = s.keys ∧ (s.setPipe n v).wrote = s.wrote ∧
    (s.setPipe n v).chart = s.chart ∧ (s.setPipe n v).pwr = s.pwr ∧ (s.setPipe n v).boot = s.boot ∧
    (s.setPipe n v).sec = s.sec ∧ (∀ rg j, (s.setPipe n v).reg rg j = s.reg rg j) ∧
    (∀ fd j, (s.setPipe n v).fld fd j = s.fld fd j) ∧ (∀ fd j, (s.setPipe n v).bit fd j = s.bit fd j) := by
  unfold State.setPipe
  exact ⟨rfl, rfl, rfl, rfl, rfl, rfl, rfl, rfl, rfl, rfl, rfl, rfl, rfl, rfl, rfl, rfl, rfl, rfl, rfl, rfl, rfl, rfl, rfl, rfl,
   rfl, rfl, rfl, rfl, rfl, rfl, rfl, rfl, rfl, rfl, rfl, rfl, rfl, rfl, rfl, rfl, rfl, rfl, rfl, rfl, rfl, rfl, rfl, rfl,
   rfl, rfl, rfl, rfl, rfl, rfl, rfl, rfl, fun _ _ => rfl, fun _ _ => rfl, fun _ _ => rfl⟩

@[simp] theorem State.setNeedle_others (s : State) (k : Nat) (v : Option Needle) :
    (s.setNeedle k v).pending = s.pending ∧ (s.setNeedle k v).out = s.out ∧ (s.setNeedle k v).fresh = s.fresh ∧
    (s.setNeedle k v).part = s.part ∧ (s.setNeedle k v).inForce = s.inForce ∧ (s.setNeedle k v).bus = s.bus ∧
    (s.setNeedle k v).tick = s.tick ∧ (s.setNeedle k v).mode = s.mode ∧ (s.setNeedle k v).pcie = s.pcie ∧
    (s.setNeedle k v).dma = s.dma ∧ (s.setNeedle k v).flt = s.flt ∧ (s.setNeedle k v).jrn = s.jrn ∧
    (s.setNeedle k v).ports = s.ports ∧ (s.setNeedle k v).cages = s.cages ∧ (s.setNeedle k v).cmb = s.cmb ∧
    (s.setNeedle k v).tim = s.tim ∧ (s.setNeedle k v).nextId = s.nextId ∧ (s.setNeedle k v).tabs = s.tabs ∧
    (s.setNeedle k v).prev1 = s.prev1 ∧ (s.setNeedle k v).prev2 = s.prev2 ∧ (s.setNeedle k v).tslots = s.tslots ∧
    (s.setNeedle k v).tvals = s.tvals ∧ (s.setNeedle k v).meters = s.meters ∧ (s.setNeedle k v).stats = s.stats ∧
    (s.setNeedle k v).hits = s.hits ∧ (s.setNeedle k v).lookups = s.lookups ∧ (s.setNeedle k v).pipes = s.pipes ∧
    (s.setNeedle k v).staged = s.staged ∧ (s.setNeedle k v).copies = s.copies ∧ (s.setNeedle k v).gauge = s.gauge ∧
    (s.setNeedle k v).tqueue = s.tqueue ∧ (s.setNeedle k v).scrubNext = s.scrubNext ∧ (s.setNeedle k v).twins = s.twins ∧
    (s.setNeedle k v).learn = s.learn ∧ (s.setNeedle k v).flushes = s.flushes ∧ (s.setNeedle k v).flushPorts = s.flushPorts ∧
    (s.setNeedle k v).txq = s.txq ∧ (s.setNeedle k v).queues = s.queues ∧ (s.setNeedle k v).bufs = s.bufs ∧
    (s.setNeedle k v).groups = s.groups ∧ (s.setNeedle k v).xoff = s.xoff ∧ (s.setNeedle k v).bfd = s.bfd ∧
    (s.setNeedle k v).lacp = s.lacp ∧ (s.setNeedle k v).lags = s.lags ∧ (s.setNeedle k v).seqs = s.seqs ∧
    (s.setNeedle k v).rsq = s.rsq ∧ (s.setNeedle k v).held = s.held ∧ (s.setNeedle k v).rsqGo = s.rsqGo ∧
    (s.setNeedle k v).hbc = s.hbc ∧ (s.setNeedle k v).keys = s.keys ∧ (s.setNeedle k v).wrote = s.wrote ∧
    (s.setNeedle k v).chart = s.chart ∧ (s.setNeedle k v).pwr = s.pwr ∧ (s.setNeedle k v).boot = s.boot ∧
    (s.setNeedle k v).sec = s.sec := by
  unfold State.setNeedle
  simp

@[simp] theorem State.setStaged_others (s : State) (id : Nat) (t : Staged) :
    (s.setStaged id t).pending = s.pending ∧ (s.setStaged id t).out = s.out ∧ (s.setStaged id t).fresh = s.fresh ∧
    (s.setStaged id t).part = s.part ∧ (s.setStaged id t).regs = s.regs ∧ (s.setStaged id t).inForce = s.inForce ∧
    (s.setStaged id t).bus = s.bus ∧ (s.setStaged id t).tick = s.tick ∧ (s.setStaged id t).mode = s.mode ∧
    (s.setStaged id t).pcie = s.pcie ∧ (s.setStaged id t).dma = s.dma ∧ (s.setStaged id t).flt = s.flt ∧
    (s.setStaged id t).jrn = s.jrn ∧ (s.setStaged id t).ports = s.ports ∧ (s.setStaged id t).cages = s.cages ∧
    (s.setStaged id t).cmb = s.cmb ∧ (s.setStaged id t).tim = s.tim ∧ (s.setStaged id t).nextId = s.nextId ∧
    (s.setStaged id t).tabs = s.tabs ∧ (s.setStaged id t).prev1 = s.prev1 ∧ (s.setStaged id t).prev2 = s.prev2 ∧
    (s.setStaged id t).tslots = s.tslots ∧ (s.setStaged id t).tvals = s.tvals ∧ (s.setStaged id t).meters = s.meters ∧
    (s.setStaged id t).stats = s.stats ∧ (s.setStaged id t).hits = s.hits ∧ (s.setStaged id t).needles = s.needles ∧
    (s.setStaged id t).lookups = s.lookups ∧ (s.setStaged id t).pipes = s.pipes ∧ (s.setStaged id t).copies = s.copies ∧
    (s.setStaged id t).gauge = s.gauge ∧ (s.setStaged id t).tqueue = s.tqueue ∧ (s.setStaged id t).scrubNext = s.scrubNext ∧
    (s.setStaged id t).twins = s.twins ∧ (s.setStaged id t).learn = s.learn ∧ (s.setStaged id t).flushes = s.flushes ∧
    (s.setStaged id t).flushPorts = s.flushPorts ∧ (s.setStaged id t).txq = s.txq ∧ (s.setStaged id t).queues = s.queues ∧
    (s.setStaged id t).bufs = s.bufs ∧ (s.setStaged id t).groups = s.groups ∧ (s.setStaged id t).xoff = s.xoff ∧
    (s.setStaged id t).bfd = s.bfd ∧ (s.setStaged id t).lacp = s.lacp ∧ (s.setStaged id t).lags = s.lags ∧
    (s.setStaged id t).seqs = s.seqs ∧ (s.setStaged id t).rsq = s.rsq ∧ (s.setStaged id t).held = s.held ∧
    (s.setStaged id t).rsqGo = s.rsqGo ∧ (s.setStaged id t).hbc = s.hbc ∧ (s.setStaged id t).keys = s.keys ∧
    (s.setStaged id t).wrote = s.wrote ∧ (s.setStaged id t).chart = s.chart ∧ (s.setStaged id t).pwr = s.pwr ∧
    (s.setStaged id t).boot = s.boot ∧ (s.setStaged id t).sec = s.sec ∧ (∀ rg j, (s.setStaged id t).reg rg j = s.reg rg j) ∧
    (∀ fd j, (s.setStaged id t).fld fd j = s.fld fd j) ∧ (∀ fd j, (s.setStaged id t).bit fd j = s.bit fd j) := by
  unfold State.setStaged
  exact ⟨rfl, rfl, rfl, rfl, rfl, rfl, rfl, rfl, rfl, rfl, rfl, rfl, rfl, rfl, rfl, rfl, rfl, rfl, rfl, rfl, rfl, rfl, rfl, rfl,
   rfl, rfl, rfl, rfl, rfl, rfl, rfl, rfl, rfl, rfl, rfl, rfl, rfl, rfl, rfl, rfl, rfl, rfl, rfl, rfl, rfl, rfl, rfl, rfl,
   rfl, rfl, rfl, rfl, rfl, rfl, rfl, rfl, fun _ _ => rfl, fun _ _ => rfl, fun _ _ => rfl⟩

@[simp] theorem State.setCopy_others (s : State) (id : Nat) (c : Option Copy) :
    (s.setCopy id c).pending = s.pending ∧ (s.setCopy id c).out = s.out ∧ (s.setCopy id c).fresh = s.fresh ∧
    (s.setCopy id c).part = s.part ∧ (s.setCopy id c).regs = s.regs ∧ (s.setCopy id c).inForce = s.inForce ∧
    (s.setCopy id c).bus = s.bus ∧ (s.setCopy id c).tick = s.tick ∧ (s.setCopy id c).mode = s.mode ∧
    (s.setCopy id c).pcie = s.pcie ∧ (s.setCopy id c).dma = s.dma ∧ (s.setCopy id c).flt = s.flt ∧
    (s.setCopy id c).jrn = s.jrn ∧ (s.setCopy id c).ports = s.ports ∧ (s.setCopy id c).cages = s.cages ∧
    (s.setCopy id c).cmb = s.cmb ∧ (s.setCopy id c).tim = s.tim ∧ (s.setCopy id c).nextId = s.nextId ∧
    (s.setCopy id c).tabs = s.tabs ∧ (s.setCopy id c).prev1 = s.prev1 ∧ (s.setCopy id c).prev2 = s.prev2 ∧
    (s.setCopy id c).tslots = s.tslots ∧ (s.setCopy id c).tvals = s.tvals ∧ (s.setCopy id c).meters = s.meters ∧
    (s.setCopy id c).stats = s.stats ∧ (s.setCopy id c).hits = s.hits ∧ (s.setCopy id c).needles = s.needles ∧
    (s.setCopy id c).lookups = s.lookups ∧ (s.setCopy id c).pipes = s.pipes ∧ (s.setCopy id c).staged = s.staged ∧
    (s.setCopy id c).gauge = s.gauge ∧ (s.setCopy id c).tqueue = s.tqueue ∧ (s.setCopy id c).scrubNext = s.scrubNext ∧
    (s.setCopy id c).twins = s.twins ∧ (s.setCopy id c).learn = s.learn ∧ (s.setCopy id c).flushes = s.flushes ∧
    (s.setCopy id c).flushPorts = s.flushPorts ∧ (s.setCopy id c).txq = s.txq ∧ (s.setCopy id c).queues = s.queues ∧
    (s.setCopy id c).bufs = s.bufs ∧ (s.setCopy id c).groups = s.groups ∧ (s.setCopy id c).xoff = s.xoff ∧
    (s.setCopy id c).bfd = s.bfd ∧ (s.setCopy id c).lacp = s.lacp ∧ (s.setCopy id c).lags = s.lags ∧
    (s.setCopy id c).seqs = s.seqs ∧ (s.setCopy id c).rsq = s.rsq ∧ (s.setCopy id c).held = s.held ∧
    (s.setCopy id c).rsqGo = s.rsqGo ∧ (s.setCopy id c).hbc = s.hbc ∧ (s.setCopy id c).keys = s.keys ∧
    (s.setCopy id c).wrote = s.wrote ∧ (s.setCopy id c).chart = s.chart ∧ (s.setCopy id c).pwr = s.pwr ∧
    (s.setCopy id c).boot = s.boot ∧ (s.setCopy id c).sec = s.sec ∧ (∀ rg j, (s.setCopy id c).reg rg j = s.reg rg j) ∧
    (∀ fd j, (s.setCopy id c).fld fd j = s.fld fd j) ∧ (∀ fd j, (s.setCopy id c).bit fd j = s.bit fd j) := by
  unfold State.setCopy
  exact ⟨rfl, rfl, rfl, rfl, rfl, rfl, rfl, rfl, rfl, rfl, rfl, rfl, rfl, rfl, rfl, rfl, rfl, rfl, rfl, rfl, rfl, rfl, rfl, rfl,
   rfl, rfl, rfl, rfl, rfl, rfl, rfl, rfl, rfl, rfl, rfl, rfl, rfl, rfl, rfl, rfl, rfl, rfl, rfl, rfl, rfl, rfl, rfl, rfl,
   rfl, rfl, rfl, rfl, rfl, rfl, rfl, rfl, fun _ _ => rfl, fun _ _ => rfl, fun _ _ => rfl⟩

@[simp] theorem State.setQueue_others (s : State) (k : Nat) (q : QSt) :
    (s.setQueue k q).pending = s.pending ∧ (s.setQueue k q).out = s.out ∧ (s.setQueue k q).fresh = s.fresh ∧
    (s.setQueue k q).part = s.part ∧ (s.setQueue k q).regs = s.regs ∧ (s.setQueue k q).inForce = s.inForce ∧
    (s.setQueue k q).bus = s.bus ∧ (s.setQueue k q).tick = s.tick ∧ (s.setQueue k q).mode = s.mode ∧
    (s.setQueue k q).pcie = s.pcie ∧ (s.setQueue k q).dma = s.dma ∧ (s.setQueue k q).flt = s.flt ∧
    (s.setQueue k q).jrn = s.jrn ∧ (s.setQueue k q).ports = s.ports ∧ (s.setQueue k q).cages = s.cages ∧
    (s.setQueue k q).cmb = s.cmb ∧ (s.setQueue k q).tim = s.tim ∧ (s.setQueue k q).nextId = s.nextId ∧
    (s.setQueue k q).tabs = s.tabs ∧ (s.setQueue k q).prev1 = s.prev1 ∧ (s.setQueue k q).prev2 = s.prev2 ∧
    (s.setQueue k q).tslots = s.tslots ∧ (s.setQueue k q).tvals = s.tvals ∧ (s.setQueue k q).meters = s.meters ∧
    (s.setQueue k q).stats = s.stats ∧ (s.setQueue k q).hits = s.hits ∧ (s.setQueue k q).needles = s.needles ∧
    (s.setQueue k q).lookups = s.lookups ∧ (s.setQueue k q).pipes = s.pipes ∧ (s.setQueue k q).staged = s.staged ∧
    (s.setQueue k q).copies = s.copies ∧ (s.setQueue k q).gauge = s.gauge ∧ (s.setQueue k q).tqueue = s.tqueue ∧
    (s.setQueue k q).scrubNext = s.scrubNext ∧ (s.setQueue k q).twins = s.twins ∧ (s.setQueue k q).learn = s.learn ∧
    (s.setQueue k q).flushes = s.flushes ∧ (s.setQueue k q).flushPorts = s.flushPorts ∧ (s.setQueue k q).txq = s.txq ∧
    (s.setQueue k q).bufs = s.bufs ∧ (s.setQueue k q).groups = s.groups ∧ (s.setQueue k q).xoff = s.xoff ∧
    (s.setQueue k q).bfd = s.bfd ∧ (s.setQueue k q).lacp = s.lacp ∧ (s.setQueue k q).lags = s.lags ∧
    (s.setQueue k q).seqs = s.seqs ∧ (s.setQueue k q).rsq = s.rsq ∧ (s.setQueue k q).held = s.held ∧
    (s.setQueue k q).rsqGo = s.rsqGo ∧ (s.setQueue k q).hbc = s.hbc ∧ (s.setQueue k q).keys = s.keys ∧
    (s.setQueue k q).wrote = s.wrote ∧ (s.setQueue k q).chart = s.chart ∧ (s.setQueue k q).pwr = s.pwr ∧
    (s.setQueue k q).boot = s.boot ∧ (s.setQueue k q).sec = s.sec ∧ (∀ rg j, (s.setQueue k q).reg rg j = s.reg rg j) ∧
    (∀ fd j, (s.setQueue k q).fld fd j = s.fld fd j) ∧ (∀ fd j, (s.setQueue k q).bit fd j = s.bit fd j) := by
  unfold State.setQueue
  exact ⟨rfl, rfl, rfl, rfl, rfl, rfl, rfl, rfl, rfl, rfl, rfl, rfl, rfl, rfl, rfl, rfl, rfl, rfl, rfl, rfl, rfl, rfl, rfl, rfl,
   rfl, rfl, rfl, rfl, rfl, rfl, rfl, rfl, rfl, rfl, rfl, rfl, rfl, rfl, rfl, rfl, rfl, rfl, rfl, rfl, rfl, rfl, rfl, rfl,
   rfl, rfl, rfl, rfl, rfl, rfl, rfl, rfl, fun _ _ => rfl, fun _ _ => rfl, fun _ _ => rfl⟩

@[simp] theorem State.setBuf_others (s : State) (d : Nat) (b : BufSt) :
    (s.setBuf d b).pending = s.pending ∧ (s.setBuf d b).out = s.out ∧ (s.setBuf d b).fresh = s.fresh ∧
    (s.setBuf d b).part = s.part ∧ (s.setBuf d b).regs = s.regs ∧ (s.setBuf d b).inForce = s.inForce ∧
    (s.setBuf d b).bus = s.bus ∧ (s.setBuf d b).tick = s.tick ∧ (s.setBuf d b).mode = s.mode ∧ (s.setBuf d b).pcie = s.pcie ∧
    (s.setBuf d b).dma = s.dma ∧ (s.setBuf d b).flt = s.flt ∧ (s.setBuf d b).jrn = s.jrn ∧ (s.setBuf d b).ports = s.ports ∧
    (s.setBuf d b).cages = s.cages ∧ (s.setBuf d b).cmb = s.cmb ∧ (s.setBuf d b).tim = s.tim ∧
    (s.setBuf d b).nextId = s.nextId ∧ (s.setBuf d b).tabs = s.tabs ∧ (s.setBuf d b).prev1 = s.prev1 ∧
    (s.setBuf d b).prev2 = s.prev2 ∧ (s.setBuf d b).tslots = s.tslots ∧ (s.setBuf d b).tvals = s.tvals ∧
    (s.setBuf d b).meters = s.meters ∧ (s.setBuf d b).stats = s.stats ∧ (s.setBuf d b).hits = s.hits ∧
    (s.setBuf d b).needles = s.needles ∧ (s.setBuf d b).lookups = s.lookups ∧ (s.setBuf d b).pipes = s.pipes ∧
    (s.setBuf d b).staged = s.staged ∧ (s.setBuf d b).copies = s.copies ∧ (s.setBuf d b).gauge = s.gauge ∧
    (s.setBuf d b).tqueue = s.tqueue ∧ (s.setBuf d b).scrubNext = s.scrubNext ∧ (s.setBuf d b).twins = s.twins ∧
    (s.setBuf d b).learn = s.learn ∧ (s.setBuf d b).flushes = s.flushes ∧ (s.setBuf d b).flushPorts = s.flushPorts ∧
    (s.setBuf d b).txq = s.txq ∧ (s.setBuf d b).queues = s.queues ∧ (s.setBuf d b).groups = s.groups ∧
    (s.setBuf d b).xoff = s.xoff ∧ (s.setBuf d b).bfd = s.bfd ∧ (s.setBuf d b).lacp = s.lacp ∧ (s.setBuf d b).lags = s.lags ∧
    (s.setBuf d b).seqs = s.seqs ∧ (s.setBuf d b).rsq = s.rsq ∧ (s.setBuf d b).held = s.held ∧
    (s.setBuf d b).rsqGo = s.rsqGo ∧ (s.setBuf d b).hbc = s.hbc ∧ (s.setBuf d b).keys = s.keys ∧
    (s.setBuf d b).wrote = s.wrote ∧ (s.setBuf d b).chart = s.chart ∧ (s.setBuf d b).pwr = s.pwr ∧
    (s.setBuf d b).boot = s.boot ∧ (s.setBuf d b).sec = s.sec ∧ (∀ rg j, (s.setBuf d b).reg rg j = s.reg rg j) ∧
    (∀ fd j, (s.setBuf d b).fld fd j = s.fld fd j) ∧ (∀ fd j, (s.setBuf d b).bit fd j = s.bit fd j) := by
  unfold State.setBuf
  exact ⟨rfl, rfl, rfl, rfl, rfl, rfl, rfl, rfl, rfl, rfl, rfl, rfl, rfl, rfl, rfl, rfl, rfl, rfl, rfl, rfl, rfl, rfl, rfl, rfl,
   rfl, rfl, rfl, rfl, rfl, rfl, rfl, rfl, rfl, rfl, rfl, rfl, rfl, rfl, rfl, rfl, rfl, rfl, rfl, rfl, rfl, rfl, rfl, rfl,
   rfl, rfl, rfl, rfl, rfl, rfl, rfl, rfl, fun _ _ => rfl, fun _ _ => rfl, fun _ _ => rfl⟩

@[simp] theorem State.setCage_others (s : State) (g : Nat) (v : CageSt) :
    (s.setCage g v).pending = s.pending ∧ (s.setCage g v).out = s.out ∧ (s.setCage g v).fresh = s.fresh ∧
    (s.setCage g v).part = s.part ∧ (s.setCage g v).regs = s.regs ∧ (s.setCage g v).inForce = s.inForce ∧
    (s.setCage g v).bus = s.bus ∧ (s.setCage g v).tick = s.tick ∧ (s.setCage g v).mode = s.mode ∧
    (s.setCage g v).pcie = s.pcie ∧ (s.setCage g v).dma = s.dma ∧ (s.setCage g v).flt = s.flt ∧ (s.setCage g v).jrn = s.jrn ∧
    (s.setCage g v).ports = s.ports ∧ (s.setCage g v).cmb = s.cmb ∧ (s.setCage g v).tim = s.tim ∧
    (s.setCage g v).nextId = s.nextId ∧ (s.setCage g v).tabs = s.tabs ∧ (s.setCage g v).prev1 = s.prev1 ∧
    (s.setCage g v).prev2 = s.prev2 ∧ (s.setCage g v).tslots = s.tslots ∧ (s.setCage g v).tvals = s.tvals ∧
    (s.setCage g v).meters = s.meters ∧ (s.setCage g v).stats = s.stats ∧ (s.setCage g v).hits = s.hits ∧
    (s.setCage g v).needles = s.needles ∧ (s.setCage g v).lookups = s.lookups ∧ (s.setCage g v).pipes = s.pipes ∧
    (s.setCage g v).staged = s.staged ∧ (s.setCage g v).copies = s.copies ∧ (s.setCage g v).gauge = s.gauge ∧
    (s.setCage g v).tqueue = s.tqueue ∧ (s.setCage g v).scrubNext = s.scrubNext ∧ (s.setCage g v).twins = s.twins ∧
    (s.setCage g v).learn = s.learn ∧ (s.setCage g v).flushes = s.flushes ∧ (s.setCage g v).flushPorts = s.flushPorts ∧
    (s.setCage g v).txq = s.txq ∧ (s.setCage g v).queues = s.queues ∧ (s.setCage g v).bufs = s.bufs ∧
    (s.setCage g v).groups = s.groups ∧ (s.setCage g v).xoff = s.xoff ∧ (s.setCage g v).bfd = s.bfd ∧
    (s.setCage g v).lacp = s.lacp ∧ (s.setCage g v).lags = s.lags ∧ (s.setCage g v).seqs = s.seqs ∧
    (s.setCage g v).rsq = s.rsq ∧ (s.setCage g v).held = s.held ∧ (s.setCage g v).rsqGo = s.rsqGo ∧
    (s.setCage g v).hbc = s.hbc ∧ (s.setCage g v).keys = s.keys ∧ (s.setCage g v).wrote = s.wrote ∧
    (s.setCage g v).chart = s.chart ∧ (s.setCage g v).pwr = s.pwr ∧ (s.setCage g v).boot = s.boot ∧
    (s.setCage g v).sec = s.sec ∧ (∀ rg j, (s.setCage g v).reg rg j = s.reg rg j) ∧
    (∀ fd j, (s.setCage g v).fld fd j = s.fld fd j) ∧ (∀ fd j, (s.setCage g v).bit fd j = s.bit fd j) := by
  unfold State.setCage
  exact ⟨rfl, rfl, rfl, rfl, rfl, rfl, rfl, rfl, rfl, rfl, rfl, rfl, rfl, rfl, rfl, rfl, rfl, rfl, rfl, rfl, rfl, rfl, rfl, rfl,
   rfl, rfl, rfl, rfl, rfl, rfl, rfl, rfl, rfl, rfl, rfl, rfl, rfl, rfl, rfl, rfl, rfl, rfl, rfl, rfl, rfl, rfl, rfl, rfl,
   rfl, rfl, rfl, rfl, rfl, rfl, rfl, rfl, fun _ _ => rfl, fun _ _ => rfl, fun _ _ => rfl⟩

@[simp] theorem State.setCtx_others (s : State) (k : Nat) (c : Option Ctx) :
    (s.setCtx k c).pending = s.pending ∧ (s.setCtx k c).out = s.out ∧ (s.setCtx k c).fresh = s.fresh ∧
    (s.setCtx k c).part = s.part ∧ (s.setCtx k c).regs = s.regs ∧ (s.setCtx k c).inForce = s.inForce ∧
    (s.setCtx k c).bus = s.bus ∧ (s.setCtx k c).tick = s.tick ∧ (s.setCtx k c).mode = s.mode ∧ (s.setCtx k c).pcie = s.pcie ∧
    (s.setCtx k c).dma = s.dma ∧ (s.setCtx k c).flt = s.flt ∧ (s.setCtx k c).jrn = s.jrn ∧ (s.setCtx k c).ports = s.ports ∧
    (s.setCtx k c).cages = s.cages ∧ (s.setCtx k c).cmb = s.cmb ∧ (s.setCtx k c).tim = s.tim ∧
    (s.setCtx k c).nextId = s.nextId ∧ (s.setCtx k c).tabs = s.tabs ∧ (s.setCtx k c).prev1 = s.prev1 ∧
    (s.setCtx k c).prev2 = s.prev2 ∧ (s.setCtx k c).tslots = s.tslots ∧ (s.setCtx k c).tvals = s.tvals ∧
    (s.setCtx k c).meters = s.meters ∧ (s.setCtx k c).stats = s.stats ∧ (s.setCtx k c).hits = s.hits ∧
    (s.setCtx k c).needles = s.needles ∧ (s.setCtx k c).lookups = s.lookups ∧ (s.setCtx k c).pipes = s.pipes ∧
    (s.setCtx k c).staged = s.staged ∧ (s.setCtx k c).copies = s.copies ∧ (s.setCtx k c).gauge = s.gauge ∧
    (s.setCtx k c).tqueue = s.tqueue ∧ (s.setCtx k c).scrubNext = s.scrubNext ∧ (s.setCtx k c).twins = s.twins ∧
    (s.setCtx k c).learn = s.learn ∧ (s.setCtx k c).flushes = s.flushes ∧ (s.setCtx k c).flushPorts = s.flushPorts ∧
    (s.setCtx k c).txq = s.txq ∧ (s.setCtx k c).queues = s.queues ∧ (s.setCtx k c).bufs = s.bufs ∧
    (s.setCtx k c).groups = s.groups ∧ (s.setCtx k c).xoff = s.xoff ∧ (s.setCtx k c).bfd = s.bfd ∧
    (s.setCtx k c).lacp = s.lacp ∧ (s.setCtx k c).lags = s.lags ∧ (s.setCtx k c).seqs = s.seqs ∧ (s.setCtx k c).rsq = s.rsq ∧
    (s.setCtx k c).held = s.held ∧ (s.setCtx k c).rsqGo = s.rsqGo ∧ (s.setCtx k c).hbc = s.hbc ∧
    (s.setCtx k c).keys = s.keys ∧ (s.setCtx k c).wrote = s.wrote ∧ (s.setCtx k c).pwr = s.pwr ∧
    (s.setCtx k c).boot = s.boot ∧ (s.setCtx k c).sec = s.sec ∧ (∀ rg j, (s.setCtx k c).reg rg j = s.reg rg j) ∧
    (∀ fd j, (s.setCtx k c).fld fd j = s.fld fd j) ∧ (∀ fd j, (s.setCtx k c).bit fd j = s.bit fd j) := by
  unfold State.setCtx
  exact ⟨rfl, rfl, rfl, rfl, rfl, rfl, rfl, rfl, rfl, rfl, rfl, rfl, rfl, rfl, rfl, rfl, rfl, rfl, rfl, rfl, rfl, rfl, rfl, rfl,
   rfl, rfl, rfl, rfl, rfl, rfl, rfl, rfl, rfl, rfl, rfl, rfl, rfl, rfl, rfl, rfl, rfl, rfl, rfl, rfl, rfl, rfl, rfl, rfl,
   rfl, rfl, rfl, rfl, rfl, rfl, rfl, rfl, fun _ _ => rfl, fun _ _ => rfl, fun _ _ => rfl⟩

@[simp] theorem State.setLearning_others (s : State) (d : Nat) (v : LearnSt) :
    (s.setLearning d v).pending = s.pending ∧ (s.setLearning d v).out = s.out ∧ (s.setLearning d v).fresh = s.fresh ∧
    (s.setLearning d v).part = s.part ∧ (s.setLearning d v).inForce = s.inForce ∧ (s.setLearning d v).bus = s.bus ∧
    (s.setLearning d v).tick = s.tick ∧ (s.setLearning d v).mode = s.mode ∧ (s.setLearning d v).pcie = s.pcie ∧
    (s.setLearning d v).dma = s.dma ∧ (s.setLearning d v).flt = s.flt ∧ (s.setLearning d v).jrn = s.jrn ∧
    (s.setLearning d v).ports = s.ports ∧ (s.setLearning d v).cages = s.cages ∧ (s.setLearning d v).cmb = s.cmb ∧
    (s.setLearning d v).tim = s.tim ∧ (s.setLearning d v).nextId = s.nextId ∧ (s.setLearning d v).tabs = s.tabs ∧
    (s.setLearning d v).prev1 = s.prev1 ∧ (s.setLearning d v).prev2 = s.prev2 ∧ (s.setLearning d v).tslots = s.tslots ∧
    (s.setLearning d v).tvals = s.tvals ∧ (s.setLearning d v).meters = s.meters ∧ (s.setLearning d v).stats = s.stats ∧
    (s.setLearning d v).hits = s.hits ∧ (s.setLearning d v).needles = s.needles ∧ (s.setLearning d v).lookups = s.lookups ∧
    (s.setLearning d v).pipes = s.pipes ∧ (s.setLearning d v).staged = s.staged ∧ (s.setLearning d v).copies = s.copies ∧
    (s.setLearning d v).gauge = s.gauge ∧ (s.setLearning d v).tqueue = s.tqueue ∧
    (s.setLearning d v).scrubNext = s.scrubNext ∧ (s.setLearning d v).twins = s.twins ∧
    (s.setLearning d v).flushes = s.flushes ∧ (s.setLearning d v).flushPorts = s.flushPorts ∧
    (s.setLearning d v).txq = s.txq ∧ (s.setLearning d v).queues = s.queues ∧ (s.setLearning d v).bufs = s.bufs ∧
    (s.setLearning d v).groups = s.groups ∧ (s.setLearning d v).xoff = s.xoff ∧ (s.setLearning d v).bfd = s.bfd ∧
    (s.setLearning d v).lacp = s.lacp ∧ (s.setLearning d v).lags = s.lags ∧ (s.setLearning d v).seqs = s.seqs ∧
    (s.setLearning d v).rsq = s.rsq ∧ (s.setLearning d v).held = s.held ∧ (s.setLearning d v).rsqGo = s.rsqGo ∧
    (s.setLearning d v).hbc = s.hbc ∧ (s.setLearning d v).keys = s.keys ∧ (s.setLearning d v).wrote = s.wrote ∧
    (s.setLearning d v).chart = s.chart ∧ (s.setLearning d v).pwr = s.pwr ∧ (s.setLearning d v).boot = s.boot ∧
    (s.setLearning d v).sec = s.sec := by
  unfold State.setLearning
  simp

@[simp] theorem State.setHbc_others (s : State) (h : Nat) (c : HbcSt) :
    (s.setHbc h c).pending = s.pending ∧ (s.setHbc h c).out = s.out ∧ (s.setHbc h c).fresh = s.fresh ∧
    (s.setHbc h c).part = s.part ∧ (s.setHbc h c).regs = s.regs ∧ (s.setHbc h c).inForce = s.inForce ∧
    (s.setHbc h c).bus = s.bus ∧ (s.setHbc h c).tick = s.tick ∧ (s.setHbc h c).mode = s.mode ∧ (s.setHbc h c).pcie = s.pcie ∧
    (s.setHbc h c).dma = s.dma ∧ (s.setHbc h c).flt = s.flt ∧ (s.setHbc h c).jrn = s.jrn ∧ (s.setHbc h c).ports = s.ports ∧
    (s.setHbc h c).cages = s.cages ∧ (s.setHbc h c).cmb = s.cmb ∧ (s.setHbc h c).tim = s.tim ∧
    (s.setHbc h c).nextId = s.nextId ∧ (s.setHbc h c).tabs = s.tabs ∧ (s.setHbc h c).prev1 = s.prev1 ∧
    (s.setHbc h c).prev2 = s.prev2 ∧ (s.setHbc h c).tslots = s.tslots ∧ (s.setHbc h c).tvals = s.tvals ∧
    (s.setHbc h c).meters = s.meters ∧ (s.setHbc h c).stats = s.stats ∧ (s.setHbc h c).hits = s.hits ∧
    (s.setHbc h c).needles = s.needles ∧ (s.setHbc h c).lookups = s.lookups ∧ (s.setHbc h c).pipes = s.pipes ∧
    (s.setHbc h c).staged = s.staged ∧ (s.setHbc h c).copies = s.copies ∧ (s.setHbc h c).gauge = s.gauge ∧
    (s.setHbc h c).tqueue = s.tqueue ∧ (s.setHbc h c).scrubNext = s.scrubNext ∧ (s.setHbc h c).twins = s.twins ∧
    (s.setHbc h c).learn = s.learn ∧ (s.setHbc h c).flushes = s.flushes ∧ (s.setHbc h c).flushPorts = s.flushPorts ∧
    (s.setHbc h c).txq = s.txq ∧ (s.setHbc h c).queues = s.queues ∧ (s.setHbc h c).bufs = s.bufs ∧
    (s.setHbc h c).groups = s.groups ∧ (s.setHbc h c).xoff = s.xoff ∧ (s.setHbc h c).bfd = s.bfd ∧
    (s.setHbc h c).lacp = s.lacp ∧ (s.setHbc h c).lags = s.lags ∧ (s.setHbc h c).seqs = s.seqs ∧ (s.setHbc h c).rsq = s.rsq ∧
    (s.setHbc h c).held = s.held ∧ (s.setHbc h c).rsqGo = s.rsqGo ∧ (s.setHbc h c).keys = s.keys ∧
    (s.setHbc h c).wrote = s.wrote ∧ (s.setHbc h c).chart = s.chart ∧ (s.setHbc h c).pwr = s.pwr ∧
    (s.setHbc h c).boot = s.boot ∧ (s.setHbc h c).sec = s.sec ∧ (∀ rg j, (s.setHbc h c).reg rg j = s.reg rg j) ∧
    (∀ fd j, (s.setHbc h c).fld fd j = s.fld fd j) ∧ (∀ fd j, (s.setHbc h c).bit fd j = s.bit fd j) := by
  unfold State.setHbc
  exact ⟨rfl, rfl, rfl, rfl, rfl, rfl, rfl, rfl, rfl, rfl, rfl, rfl, rfl, rfl, rfl, rfl, rfl, rfl, rfl, rfl, rfl, rfl, rfl, rfl,
   rfl, rfl, rfl, rfl, rfl, rfl, rfl, rfl, rfl, rfl, rfl, rfl, rfl, rfl, rfl, rfl, rfl, rfl, rfl, rfl, rfl, rfl, rfl, rfl,
   rfl, rfl, rfl, rfl, rfl, rfl, rfl, rfl, fun _ _ => rfl, fun _ _ => rfl, fun _ _ => rfl⟩

@[simp] theorem State.setSq_others (s : State) (g : Nat) (v : SqSt) :
    (s.setSq g v).pending = s.pending ∧ (s.setSq g v).out = s.out ∧ (s.setSq g v).fresh = s.fresh ∧
    (s.setSq g v).part = s.part ∧ (s.setSq g v).regs = s.regs ∧ (s.setSq g v).inForce = s.inForce ∧
    (s.setSq g v).bus = s.bus ∧ (s.setSq g v).tick = s.tick ∧ (s.setSq g v).mode = s.mode ∧ (s.setSq g v).pcie = s.pcie ∧
    (s.setSq g v).flt = s.flt ∧ (s.setSq g v).jrn = s.jrn ∧ (s.setSq g v).ports = s.ports ∧ (s.setSq g v).cages = s.cages ∧
    (s.setSq g v).cmb = s.cmb ∧ (s.setSq g v).tim = s.tim ∧ (s.setSq g v).nextId = s.nextId ∧ (s.setSq g v).tabs = s.tabs ∧
    (s.setSq g v).prev1 = s.prev1 ∧ (s.setSq g v).prev2 = s.prev2 ∧ (s.setSq g v).tslots = s.tslots ∧
    (s.setSq g v).tvals = s.tvals ∧ (s.setSq g v).meters = s.meters ∧ (s.setSq g v).stats = s.stats ∧
    (s.setSq g v).hits = s.hits ∧ (s.setSq g v).needles = s.needles ∧ (s.setSq g v).lookups = s.lookups ∧
    (s.setSq g v).pipes = s.pipes ∧ (s.setSq g v).staged = s.staged ∧ (s.setSq g v).copies = s.copies ∧
    (s.setSq g v).gauge = s.gauge ∧ (s.setSq g v).tqueue = s.tqueue ∧ (s.setSq g v).scrubNext = s.scrubNext ∧
    (s.setSq g v).twins = s.twins ∧ (s.setSq g v).learn = s.learn ∧ (s.setSq g v).flushes = s.flushes ∧
    (s.setSq g v).flushPorts = s.flushPorts ∧ (s.setSq g v).txq = s.txq ∧ (s.setSq g v).queues = s.queues ∧
    (s.setSq g v).bufs = s.bufs ∧ (s.setSq g v).groups = s.groups ∧ (s.setSq g v).xoff = s.xoff ∧ (s.setSq g v).bfd = s.bfd ∧
    (s.setSq g v).lacp = s.lacp ∧ (s.setSq g v).lags = s.lags ∧ (s.setSq g v).seqs = s.seqs ∧ (s.setSq g v).rsq = s.rsq ∧
    (s.setSq g v).held = s.held ∧ (s.setSq g v).rsqGo = s.rsqGo ∧ (s.setSq g v).hbc = s.hbc ∧ (s.setSq g v).keys = s.keys ∧
    (s.setSq g v).wrote = s.wrote ∧ (s.setSq g v).chart = s.chart ∧ (s.setSq g v).pwr = s.pwr ∧ (s.setSq g v).boot = s.boot ∧
    (s.setSq g v).sec = s.sec ∧ (∀ rg j, (s.setSq g v).reg rg j = s.reg rg j) ∧
    (∀ fd j, (s.setSq g v).fld fd j = s.fld fd j) ∧ (∀ fd j, (s.setSq g v).bit fd j = s.bit fd j) := by
  unfold State.setSq
  exact ⟨rfl, rfl, rfl, rfl, rfl, rfl, rfl, rfl, rfl, rfl, rfl, rfl, rfl, rfl, rfl, rfl, rfl, rfl, rfl, rfl, rfl, rfl, rfl, rfl,
   rfl, rfl, rfl, rfl, rfl, rfl, rfl, rfl, rfl, rfl, rfl, rfl, rfl, rfl, rfl, rfl, rfl, rfl, rfl, rfl, rfl, rfl, rfl, rfl,
   rfl, rfl, rfl, rfl, rfl, rfl, rfl, rfl, fun _ _ => rfl, fun _ _ => rfl, fun _ _ => rfl⟩

@[simp] theorem State.setCq_others (s : State) (g : Nat) (v : CqSt) :
    (s.setCq g v).pending = s.pending ∧ (s.setCq g v).out = s.out ∧ (s.setCq g v).fresh = s.fresh ∧
    (s.setCq g v).part = s.part ∧ (s.setCq g v).regs = s.regs ∧ (s.setCq g v).inForce = s.inForce ∧
    (s.setCq g v).bus = s.bus ∧ (s.setCq g v).tick = s.tick ∧ (s.setCq g v).mode = s.mode ∧ (s.setCq g v).pcie = s.pcie ∧
    (s.setCq g v).flt = s.flt ∧ (s.setCq g v).jrn = s.jrn ∧ (s.setCq g v).ports = s.ports ∧ (s.setCq g v).cages = s.cages ∧
    (s.setCq g v).cmb = s.cmb ∧ (s.setCq g v).tim = s.tim ∧ (s.setCq g v).nextId = s.nextId ∧ (s.setCq g v).tabs = s.tabs ∧
    (s.setCq g v).prev1 = s.prev1 ∧ (s.setCq g v).prev2 = s.prev2 ∧ (s.setCq g v).tslots = s.tslots ∧
    (s.setCq g v).tvals = s.tvals ∧ (s.setCq g v).meters = s.meters ∧ (s.setCq g v).stats = s.stats ∧
    (s.setCq g v).hits = s.hits ∧ (s.setCq g v).needles = s.needles ∧ (s.setCq g v).lookups = s.lookups ∧
    (s.setCq g v).pipes = s.pipes ∧ (s.setCq g v).staged = s.staged ∧ (s.setCq g v).copies = s.copies ∧
    (s.setCq g v).gauge = s.gauge ∧ (s.setCq g v).tqueue = s.tqueue ∧ (s.setCq g v).scrubNext = s.scrubNext ∧
    (s.setCq g v).twins = s.twins ∧ (s.setCq g v).learn = s.learn ∧ (s.setCq g v).flushes = s.flushes ∧
    (s.setCq g v).flushPorts = s.flushPorts ∧ (s.setCq g v).txq = s.txq ∧ (s.setCq g v).queues = s.queues ∧
    (s.setCq g v).bufs = s.bufs ∧ (s.setCq g v).groups = s.groups ∧ (s.setCq g v).xoff = s.xoff ∧ (s.setCq g v).bfd = s.bfd ∧
    (s.setCq g v).lacp = s.lacp ∧ (s.setCq g v).lags = s.lags ∧ (s.setCq g v).seqs = s.seqs ∧ (s.setCq g v).rsq = s.rsq ∧
    (s.setCq g v).held = s.held ∧ (s.setCq g v).rsqGo = s.rsqGo ∧ (s.setCq g v).hbc = s.hbc ∧ (s.setCq g v).keys = s.keys ∧
    (s.setCq g v).wrote = s.wrote ∧ (s.setCq g v).chart = s.chart ∧ (s.setCq g v).pwr = s.pwr ∧ (s.setCq g v).boot = s.boot ∧
    (s.setCq g v).sec = s.sec ∧ (∀ rg j, (s.setCq g v).reg rg j = s.reg rg j) ∧
    (∀ fd j, (s.setCq g v).fld fd j = s.fld fd j) ∧ (∀ fd j, (s.setCq g v).bit fd j = s.bit fd j) := by
  unfold State.setCq
  exact ⟨rfl, rfl, rfl, rfl, rfl, rfl, rfl, rfl, rfl, rfl, rfl, rfl, rfl, rfl, rfl, rfl, rfl, rfl, rfl, rfl, rfl, rfl, rfl, rfl,
   rfl, rfl, rfl, rfl, rfl, rfl, rfl, rfl, rfl, rfl, rfl, rfl, rfl, rfl, rfl, rfl, rfl, rfl, rfl, rfl, rfl, rfl, rfl, rfl,
   rfl, rfl, rfl, rfl, rfl, rfl, rfl, rfl, fun _ _ => rfl, fun _ _ => rfl, fun _ _ => rfl⟩

@[simp] theorem State.setBfd_others (s : State) (k : Nat) (b : BfdSt) :
    (s.setBfd k b).pending = s.pending ∧ (s.setBfd k b).out = s.out ∧ (s.setBfd k b).fresh = s.fresh ∧
    (s.setBfd k b).part = s.part ∧ (s.setBfd k b).inForce = s.inForce ∧ (s.setBfd k b).bus = s.bus ∧
    (s.setBfd k b).tick = s.tick ∧ (s.setBfd k b).mode = s.mode ∧ (s.setBfd k b).pcie = s.pcie ∧ (s.setBfd k b).dma = s.dma ∧
    (s.setBfd k b).flt = s.flt ∧ (s.setBfd k b).jrn = s.jrn ∧ (s.setBfd k b).ports = s.ports ∧
    (s.setBfd k b).cages = s.cages ∧ (s.setBfd k b).cmb = s.cmb ∧ (s.setBfd k b).tim = s.tim ∧
    (s.setBfd k b).nextId = s.nextId ∧ (s.setBfd k b).tabs = s.tabs ∧ (s.setBfd k b).prev1 = s.prev1 ∧
    (s.setBfd k b).prev2 = s.prev2 ∧ (s.setBfd k b).tslots = s.tslots ∧ (s.setBfd k b).tvals = s.tvals ∧
    (s.setBfd k b).meters = s.meters ∧ (s.setBfd k b).stats = s.stats ∧ (s.setBfd k b).hits = s.hits ∧
    (s.setBfd k b).needles = s.needles ∧ (s.setBfd k b).lookups = s.lookups ∧ (s.setBfd k b).pipes = s.pipes ∧
    (s.setBfd k b).staged = s.staged ∧ (s.setBfd k b).copies = s.copies ∧ (s.setBfd k b).gauge = s.gauge ∧
    (s.setBfd k b).tqueue = s.tqueue ∧ (s.setBfd k b).scrubNext = s.scrubNext ∧ (s.setBfd k b).twins = s.twins ∧
    (s.setBfd k b).learn = s.learn ∧ (s.setBfd k b).flushes = s.flushes ∧ (s.setBfd k b).flushPorts = s.flushPorts ∧
    (s.setBfd k b).txq = s.txq ∧ (s.setBfd k b).queues = s.queues ∧ (s.setBfd k b).bufs = s.bufs ∧
    (s.setBfd k b).groups = s.groups ∧ (s.setBfd k b).xoff = s.xoff ∧ (s.setBfd k b).lacp = s.lacp ∧
    (s.setBfd k b).lags = s.lags ∧ (s.setBfd k b).seqs = s.seqs ∧ (s.setBfd k b).rsq = s.rsq ∧ (s.setBfd k b).held = s.held ∧
    (s.setBfd k b).rsqGo = s.rsqGo ∧ (s.setBfd k b).hbc = s.hbc ∧ (s.setBfd k b).keys = s.keys ∧
    (s.setBfd k b).wrote = s.wrote ∧ (s.setBfd k b).chart = s.chart ∧ (s.setBfd k b).pwr = s.pwr ∧
    (s.setBfd k b).boot = s.boot ∧ (s.setBfd k b).sec = s.sec := by
  unfold State.setBfd
  simp

@[simp] theorem State.setTabs_others (s : State) (t : Tables) :
    (s.setTabs t).pending = s.pending ∧ (s.setTabs t).out = s.out ∧ (s.setTabs t).fresh = s.fresh ∧
    (s.setTabs t).part = s.part ∧ (s.setTabs t).regs = s.regs ∧ (s.setTabs t).inForce = s.inForce ∧
    (s.setTabs t).bus = s.bus ∧ (s.setTabs t).tick = s.tick ∧ (s.setTabs t).mode = s.mode ∧ (s.setTabs t).pcie = s.pcie ∧
    (s.setTabs t).dma = s.dma ∧ (s.setTabs t).flt = s.flt ∧ (s.setTabs t).jrn = s.jrn ∧ (s.setTabs t).ports = s.ports ∧
    (s.setTabs t).cages = s.cages ∧ (s.setTabs t).cmb = s.cmb ∧ (s.setTabs t).tim = s.tim ∧ (s.setTabs t).nextId = s.nextId ∧
    (s.setTabs t).prev1 = s.prev1 ∧ (s.setTabs t).prev2 = s.prev2 ∧ (s.setTabs t).tslots = s.tslots ∧
    (s.setTabs t).tvals = s.tvals ∧ (s.setTabs t).meters = s.meters ∧ (s.setTabs t).stats = s.stats ∧
    (s.setTabs t).hits = s.hits ∧ (s.setTabs t).needles = s.needles ∧ (s.setTabs t).lookups = s.lookups ∧
    (s.setTabs t).pipes = s.pipes ∧ (s.setTabs t).staged = s.staged ∧ (s.setTabs t).copies = s.copies ∧
    (s.setTabs t).gauge = s.gauge ∧ (s.setTabs t).tqueue = s.tqueue ∧ (s.setTabs t).scrubNext = s.scrubNext ∧
    (s.setTabs t).twins = s.twins ∧ (s.setTabs t).learn = s.learn ∧ (s.setTabs t).flushes = s.flushes ∧
    (s.setTabs t).flushPorts = s.flushPorts ∧ (s.setTabs t).txq = s.txq ∧ (s.setTabs t).queues = s.queues ∧
    (s.setTabs t).bufs = s.bufs ∧ (s.setTabs t).groups = s.groups ∧ (s.setTabs t).xoff = s.xoff ∧ (s.setTabs t).bfd = s.bfd ∧
    (s.setTabs t).lacp = s.lacp ∧ (s.setTabs t).lags = s.lags ∧ (s.setTabs t).seqs = s.seqs ∧ (s.setTabs t).rsq = s.rsq ∧
    (s.setTabs t).held = s.held ∧ (s.setTabs t).rsqGo = s.rsqGo ∧ (s.setTabs t).hbc = s.hbc ∧ (s.setTabs t).keys = s.keys ∧
    (s.setTabs t).wrote = s.wrote ∧ (s.setTabs t).chart = s.chart ∧ (s.setTabs t).pwr = s.pwr ∧ (s.setTabs t).boot = s.boot ∧
    (s.setTabs t).sec = s.sec ∧ (∀ rg j, (s.setTabs t).reg rg j = s.reg rg j) ∧
    (∀ fd j, (s.setTabs t).fld fd j = s.fld fd j) ∧ (∀ fd j, (s.setTabs t).bit fd j = s.bit fd j) := by
  unfold State.setTabs
  exact ⟨rfl, rfl, rfl, rfl, rfl, rfl, rfl, rfl, rfl, rfl, rfl, rfl, rfl, rfl, rfl, rfl, rfl, rfl, rfl, rfl, rfl, rfl, rfl, rfl,
   rfl, rfl, rfl, rfl, rfl, rfl, rfl, rfl, rfl, rfl, rfl, rfl, rfl, rfl, rfl, rfl, rfl, rfl, rfl, rfl, rfl, rfl, rfl, rfl,
   rfl, rfl, rfl, rfl, rfl, rfl, rfl, rfl, fun _ _ => rfl, fun _ _ => rfl, fun _ _ => rfl⟩

@[simp] theorem State.setStat_others (s : State) (i : Nat) (v : Nat × Nat) :
    (s.setStat i v).pending = s.pending ∧ (s.setStat i v).out = s.out ∧ (s.setStat i v).fresh = s.fresh ∧
    (s.setStat i v).part = s.part ∧ (s.setStat i v).regs = s.regs ∧ (s.setStat i v).inForce = s.inForce ∧
    (s.setStat i v).bus = s.bus ∧ (s.setStat i v).tick = s.tick ∧ (s.setStat i v).mode = s.mode ∧
    (s.setStat i v).pcie = s.pcie ∧ (s.setStat i v).dma = s.dma ∧ (s.setStat i v).flt = s.flt ∧ (s.setStat i v).jrn = s.jrn ∧
    (s.setStat i v).ports = s.ports ∧ (s.setStat i v).cages = s.cages ∧ (s.setStat i v).cmb = s.cmb ∧
    (s.setStat i v).tim = s.tim ∧ (s.setStat i v).nextId = s.nextId ∧ (s.setStat i v).tabs = s.tabs ∧
    (s.setStat i v).prev1 = s.prev1 ∧ (s.setStat i v).prev2 = s.prev2 ∧ (s.setStat i v).tslots = s.tslots ∧
    (s.setStat i v).tvals = s.tvals ∧ (s.setStat i v).meters = s.meters ∧ (s.setStat i v).hits = s.hits ∧
    (s.setStat i v).needles = s.needles ∧ (s.setStat i v).lookups = s.lookups ∧ (s.setStat i v).pipes = s.pipes ∧
    (s.setStat i v).staged = s.staged ∧ (s.setStat i v).copies = s.copies ∧ (s.setStat i v).gauge = s.gauge ∧
    (s.setStat i v).tqueue = s.tqueue ∧ (s.setStat i v).scrubNext = s.scrubNext ∧ (s.setStat i v).twins = s.twins ∧
    (s.setStat i v).learn = s.learn ∧ (s.setStat i v).flushes = s.flushes ∧ (s.setStat i v).flushPorts = s.flushPorts ∧
    (s.setStat i v).txq = s.txq ∧ (s.setStat i v).queues = s.queues ∧ (s.setStat i v).bufs = s.bufs ∧
    (s.setStat i v).groups = s.groups ∧ (s.setStat i v).xoff = s.xoff ∧ (s.setStat i v).bfd = s.bfd ∧
    (s.setStat i v).lacp = s.lacp ∧ (s.setStat i v).lags = s.lags ∧ (s.setStat i v).seqs = s.seqs ∧
    (s.setStat i v).rsq = s.rsq ∧ (s.setStat i v).held = s.held ∧ (s.setStat i v).rsqGo = s.rsqGo ∧
    (s.setStat i v).hbc = s.hbc ∧ (s.setStat i v).keys = s.keys ∧ (s.setStat i v).wrote = s.wrote ∧
    (s.setStat i v).chart = s.chart ∧ (s.setStat i v).pwr = s.pwr ∧ (s.setStat i v).boot = s.boot ∧
    (s.setStat i v).sec = s.sec ∧ (∀ rg j, (s.setStat i v).reg rg j = s.reg rg j) ∧
    (∀ fd j, (s.setStat i v).fld fd j = s.fld fd j) ∧ (∀ fd j, (s.setStat i v).bit fd j = s.bit fd j) := by
  unfold State.setStat
  exact ⟨rfl, rfl, rfl, rfl, rfl, rfl, rfl, rfl, rfl, rfl, rfl, rfl, rfl, rfl, rfl, rfl, rfl, rfl, rfl, rfl, rfl, rfl, rfl, rfl,
   rfl, rfl, rfl, rfl, rfl, rfl, rfl, rfl, rfl, rfl, rfl, rfl, rfl, rfl, rfl, rfl, rfl, rfl, rfl, rfl, rfl, rfl, rfl, rfl,
   rfl, rfl, rfl, rfl, rfl, rfl, rfl, rfl, fun _ _ => rfl, fun _ _ => rfl, fun _ _ => rfl⟩

@[simp] theorem State.setMeter_others (s : State) (i : Nat) (m : Meter) :
    (s.setMeter i m).pending = s.pending ∧ (s.setMeter i m).out = s.out ∧ (s.setMeter i m).fresh = s.fresh ∧
    (s.setMeter i m).part = s.part ∧ (s.setMeter i m).regs = s.regs ∧ (s.setMeter i m).inForce = s.inForce ∧
    (s.setMeter i m).bus = s.bus ∧ (s.setMeter i m).tick = s.tick ∧ (s.setMeter i m).mode = s.mode ∧
    (s.setMeter i m).pcie = s.pcie ∧ (s.setMeter i m).dma = s.dma ∧ (s.setMeter i m).flt = s.flt ∧
    (s.setMeter i m).jrn = s.jrn ∧ (s.setMeter i m).ports = s.ports ∧ (s.setMeter i m).cages = s.cages ∧
    (s.setMeter i m).cmb = s.cmb ∧ (s.setMeter i m).tim = s.tim ∧ (s.setMeter i m).nextId = s.nextId ∧
    (s.setMeter i m).tabs = s.tabs ∧ (s.setMeter i m).prev1 = s.prev1 ∧ (s.setMeter i m).prev2 = s.prev2 ∧
    (s.setMeter i m).tslots = s.tslots ∧ (s.setMeter i m).tvals = s.tvals ∧ (s.setMeter i m).stats = s.stats ∧
    (s.setMeter i m).hits = s.hits ∧ (s.setMeter i m).needles = s.needles ∧ (s.setMeter i m).lookups = s.lookups ∧
    (s.setMeter i m).pipes = s.pipes ∧ (s.setMeter i m).staged = s.staged ∧ (s.setMeter i m).copies = s.copies ∧
    (s.setMeter i m).gauge = s.gauge ∧ (s.setMeter i m).tqueue = s.tqueue ∧ (s.setMeter i m).scrubNext = s.scrubNext ∧
    (s.setMeter i m).twins = s.twins ∧ (s.setMeter i m).learn = s.learn ∧ (s.setMeter i m).flushes = s.flushes ∧
    (s.setMeter i m).flushPorts = s.flushPorts ∧ (s.setMeter i m).txq = s.txq ∧ (s.setMeter i m).queues = s.queues ∧
    (s.setMeter i m).bufs = s.bufs ∧ (s.setMeter i m).groups = s.groups ∧ (s.setMeter i m).xoff = s.xoff ∧
    (s.setMeter i m).bfd = s.bfd ∧ (s.setMeter i m).lacp = s.lacp ∧ (s.setMeter i m).lags = s.lags ∧
    (s.setMeter i m).seqs = s.seqs ∧ (s.setMeter i m).rsq = s.rsq ∧ (s.setMeter i m).held = s.held ∧
    (s.setMeter i m).rsqGo = s.rsqGo ∧ (s.setMeter i m).hbc = s.hbc ∧ (s.setMeter i m).keys = s.keys ∧
    (s.setMeter i m).wrote = s.wrote ∧ (s.setMeter i m).chart = s.chart ∧ (s.setMeter i m).pwr = s.pwr ∧
    (s.setMeter i m).boot = s.boot ∧ (s.setMeter i m).sec = s.sec ∧ (∀ rg j, (s.setMeter i m).reg rg j = s.reg rg j) ∧
    (∀ fd j, (s.setMeter i m).fld fd j = s.fld fd j) ∧ (∀ fd j, (s.setMeter i m).bit fd j = s.bit fd j) := by
  unfold State.setMeter
  exact ⟨rfl, rfl, rfl, rfl, rfl, rfl, rfl, rfl, rfl, rfl, rfl, rfl, rfl, rfl, rfl, rfl, rfl, rfl, rfl, rfl, rfl, rfl, rfl, rfl,
   rfl, rfl, rfl, rfl, rfl, rfl, rfl, rfl, rfl, rfl, rfl, rfl, rfl, rfl, rfl, rfl, rfl, rfl, rfl, rfl, rfl, rfl, rfl, rfl,
   rfl, rfl, rfl, rfl, rfl, rfl, rfl, rfl, fun _ _ => rfl, fun _ _ => rfl, fun _ _ => rfl⟩

@[simp] theorem State.setTslot_others (s : State) (i : Nat) (v : TSlot) :
    (s.setTslot i v).pending = s.pending ∧ (s.setTslot i v).out = s.out ∧ (s.setTslot i v).fresh = s.fresh ∧
    (s.setTslot i v).part = s.part ∧ (s.setTslot i v).regs = s.regs ∧ (s.setTslot i v).inForce = s.inForce ∧
    (s.setTslot i v).bus = s.bus ∧ (s.setTslot i v).tick = s.tick ∧ (s.setTslot i v).mode = s.mode ∧
    (s.setTslot i v).pcie = s.pcie ∧ (s.setTslot i v).dma = s.dma ∧ (s.setTslot i v).flt = s.flt ∧
    (s.setTslot i v).jrn = s.jrn ∧ (s.setTslot i v).ports = s.ports ∧ (s.setTslot i v).cages = s.cages ∧
    (s.setTslot i v).cmb = s.cmb ∧ (s.setTslot i v).tim = s.tim ∧ (s.setTslot i v).nextId = s.nextId ∧
    (s.setTslot i v).tabs = s.tabs ∧ (s.setTslot i v).prev1 = s.prev1 ∧ (s.setTslot i v).prev2 = s.prev2 ∧
    (s.setTslot i v).tvals = s.tvals ∧ (s.setTslot i v).meters = s.meters ∧ (s.setTslot i v).stats = s.stats ∧
    (s.setTslot i v).hits = s.hits ∧ (s.setTslot i v).needles = s.needles ∧ (s.setTslot i v).lookups = s.lookups ∧
    (s.setTslot i v).pipes = s.pipes ∧ (s.setTslot i v).staged = s.staged ∧ (s.setTslot i v).copies = s.copies ∧
    (s.setTslot i v).gauge = s.gauge ∧ (s.setTslot i v).tqueue = s.tqueue ∧ (s.setTslot i v).scrubNext = s.scrubNext ∧
    (s.setTslot i v).twins = s.twins ∧ (s.setTslot i v).learn = s.learn ∧ (s.setTslot i v).flushes = s.flushes ∧
    (s.setTslot i v).flushPorts = s.flushPorts ∧ (s.setTslot i v).txq = s.txq ∧ (s.setTslot i v).queues = s.queues ∧
    (s.setTslot i v).bufs = s.bufs ∧ (s.setTslot i v).groups = s.groups ∧ (s.setTslot i v).xoff = s.xoff ∧
    (s.setTslot i v).bfd = s.bfd ∧ (s.setTslot i v).lacp = s.lacp ∧ (s.setTslot i v).lags = s.lags ∧
    (s.setTslot i v).seqs = s.seqs ∧ (s.setTslot i v).rsq = s.rsq ∧ (s.setTslot i v).held = s.held ∧
    (s.setTslot i v).rsqGo = s.rsqGo ∧ (s.setTslot i v).hbc = s.hbc ∧ (s.setTslot i v).keys = s.keys ∧
    (s.setTslot i v).wrote = s.wrote ∧ (s.setTslot i v).chart = s.chart ∧ (s.setTslot i v).pwr = s.pwr ∧
    (s.setTslot i v).boot = s.boot ∧ (s.setTslot i v).sec = s.sec ∧ (∀ rg j, (s.setTslot i v).reg rg j = s.reg rg j) ∧
    (∀ fd j, (s.setTslot i v).fld fd j = s.fld fd j) ∧ (∀ fd j, (s.setTslot i v).bit fd j = s.bit fd j) := by
  unfold State.setTslot
  exact ⟨rfl, rfl, rfl, rfl, rfl, rfl, rfl, rfl, rfl, rfl, rfl, rfl, rfl, rfl, rfl, rfl, rfl, rfl, rfl, rfl, rfl, rfl, rfl, rfl,
   rfl, rfl, rfl, rfl, rfl, rfl, rfl, rfl, rfl, rfl, rfl, rfl, rfl, rfl, rfl, rfl, rfl, rfl, rfl, rfl, rfl, rfl, rfl, rfl,
   rfl, rfl, rfl, rfl, rfl, rfl, rfl, rfl, fun _ _ => rfl, fun _ _ => rfl, fun _ _ => rfl⟩

@[simp] theorem State.setTval_others (s : State) (i : Nat) (v : TVal) :
    (s.setTval i v).pending = s.pending ∧ (s.setTval i v).out = s.out ∧ (s.setTval i v).fresh = s.fresh ∧
    (s.setTval i v).part = s.part ∧ (s.setTval i v).regs = s.regs ∧ (s.setTval i v).inForce = s.inForce ∧
    (s.setTval i v).bus = s.bus ∧ (s.setTval i v).tick = s.tick ∧ (s.setTval i v).mode = s.mode ∧
    (s.setTval i v).pcie = s.pcie ∧ (s.setTval i v).dma = s.dma ∧ (s.setTval i v).flt = s.flt ∧ (s.setTval i v).jrn = s.jrn ∧
    (s.setTval i v).ports = s.ports ∧ (s.setTval i v).cages = s.cages ∧ (s.setTval i v).cmb = s.cmb ∧
    (s.setTval i v).tim = s.tim ∧ (s.setTval i v).nextId = s.nextId ∧ (s.setTval i v).tabs = s.tabs ∧
    (s.setTval i v).prev1 = s.prev1 ∧ (s.setTval i v).prev2 = s.prev2 ∧ (s.setTval i v).tslots = s.tslots ∧
    (s.setTval i v).meters = s.meters ∧ (s.setTval i v).stats = s.stats ∧ (s.setTval i v).hits = s.hits ∧
    (s.setTval i v).needles = s.needles ∧ (s.setTval i v).lookups = s.lookups ∧ (s.setTval i v).pipes = s.pipes ∧
    (s.setTval i v).staged = s.staged ∧ (s.setTval i v).copies = s.copies ∧ (s.setTval i v).gauge = s.gauge ∧
    (s.setTval i v).tqueue = s.tqueue ∧ (s.setTval i v).scrubNext = s.scrubNext ∧ (s.setTval i v).twins = s.twins ∧
    (s.setTval i v).learn = s.learn ∧ (s.setTval i v).flushes = s.flushes ∧ (s.setTval i v).flushPorts = s.flushPorts ∧
    (s.setTval i v).txq = s.txq ∧ (s.setTval i v).queues = s.queues ∧ (s.setTval i v).bufs = s.bufs ∧
    (s.setTval i v).groups = s.groups ∧ (s.setTval i v).xoff = s.xoff ∧ (s.setTval i v).bfd = s.bfd ∧
    (s.setTval i v).lacp = s.lacp ∧ (s.setTval i v).lags = s.lags ∧ (s.setTval i v).seqs = s.seqs ∧
    (s.setTval i v).rsq = s.rsq ∧ (s.setTval i v).held = s.held ∧ (s.setTval i v).rsqGo = s.rsqGo ∧
    (s.setTval i v).hbc = s.hbc ∧ (s.setTval i v).keys = s.keys ∧ (s.setTval i v).wrote = s.wrote ∧
    (s.setTval i v).chart = s.chart ∧ (s.setTval i v).pwr = s.pwr ∧ (s.setTval i v).boot = s.boot ∧
    (s.setTval i v).sec = s.sec ∧ (∀ rg j, (s.setTval i v).reg rg j = s.reg rg j) ∧
    (∀ fd j, (s.setTval i v).fld fd j = s.fld fd j) ∧ (∀ fd j, (s.setTval i v).bit fd j = s.bit fd j) := by
  unfold State.setTval
  exact ⟨rfl, rfl, rfl, rfl, rfl, rfl, rfl, rfl, rfl, rfl, rfl, rfl, rfl, rfl, rfl, rfl, rfl, rfl, rfl, rfl, rfl, rfl, rfl, rfl,
   rfl, rfl, rfl, rfl, rfl, rfl, rfl, rfl, rfl, rfl, rfl, rfl, rfl, rfl, rfl, rfl, rfl, rfl, rfl, rfl, rfl, rfl, rfl, rfl,
   rfl, rfl, rfl, rfl, rfl, rfl, rfl, rfl, fun _ _ => rfl, fun _ _ => rfl, fun _ _ => rfl⟩

@[simp] theorem State.setTwin_others (s : State) (q : Nat) (v : Twin) :
    (s.setTwin q v).pending = s.pending ∧ (s.setTwin q v).out = s.out ∧ (s.setTwin q v).fresh = s.fresh ∧
    (s.setTwin q v).part = s.part ∧ (s.setTwin q v).regs = s.regs ∧ (s.setTwin q v).inForce = s.inForce ∧
    (s.setTwin q v).bus = s.bus ∧ (s.setTwin q v).tick = s.tick ∧ (s.setTwin q v).mode = s.mode ∧
    (s.setTwin q v).pcie = s.pcie ∧ (s.setTwin q v).dma = s.dma ∧ (s.setTwin q v).flt = s.flt ∧ (s.setTwin q v).jrn = s.jrn ∧
    (s.setTwin q v).ports = s.ports ∧ (s.setTwin q v).cages = s.cages ∧ (s.setTwin q v).cmb = s.cmb ∧
    (s.setTwin q v).tim = s.tim ∧ (s.setTwin q v).nextId = s.nextId ∧ (s.setTwin q v).tabs = s.tabs ∧
    (s.setTwin q v).prev1 = s.prev1 ∧ (s.setTwin q v).prev2 = s.prev2 ∧ (s.setTwin q v).tslots = s.tslots ∧
    (s.setTwin q v).tvals = s.tvals ∧ (s.setTwin q v).meters = s.meters ∧ (s.setTwin q v).stats = s.stats ∧
    (s.setTwin q v).hits = s.hits ∧ (s.setTwin q v).needles = s.needles ∧ (s.setTwin q v).lookups = s.lookups ∧
    (s.setTwin q v).pipes = s.pipes ∧ (s.setTwin q v).staged = s.staged ∧ (s.setTwin q v).copies = s.copies ∧
    (s.setTwin q v).gauge = s.gauge ∧ (s.setTwin q v).tqueue = s.tqueue ∧ (s.setTwin q v).scrubNext = s.scrubNext ∧
    (s.setTwin q v).learn = s.learn ∧ (s.setTwin q v).flushes = s.flushes ∧ (s.setTwin q v).flushPorts = s.flushPorts ∧
    (s.setTwin q v).txq = s.txq ∧ (s.setTwin q v).queues = s.queues ∧ (s.setTwin q v).bufs = s.bufs ∧
    (s.setTwin q v).groups = s.groups ∧ (s.setTwin q v).xoff = s.xoff ∧ (s.setTwin q v).bfd = s.bfd ∧
    (s.setTwin q v).lacp = s.lacp ∧ (s.setTwin q v).lags = s.lags ∧ (s.setTwin q v).seqs = s.seqs ∧
    (s.setTwin q v).rsq = s.rsq ∧ (s.setTwin q v).held = s.held ∧ (s.setTwin q v).rsqGo = s.rsqGo ∧
    (s.setTwin q v).hbc = s.hbc ∧ (s.setTwin q v).keys = s.keys ∧ (s.setTwin q v).wrote = s.wrote ∧
    (s.setTwin q v).chart = s.chart ∧ (s.setTwin q v).pwr = s.pwr ∧ (s.setTwin q v).boot = s.boot ∧
    (s.setTwin q v).sec = s.sec ∧ (∀ rg j, (s.setTwin q v).reg rg j = s.reg rg j) ∧
    (∀ fd j, (s.setTwin q v).fld fd j = s.fld fd j) ∧ (∀ fd j, (s.setTwin q v).bit fd j = s.bit fd j) := by
  unfold State.setTwin
  exact ⟨rfl, rfl, rfl, rfl, rfl, rfl, rfl, rfl, rfl, rfl, rfl, rfl, rfl, rfl, rfl, rfl, rfl, rfl, rfl, rfl, rfl, rfl, rfl, rfl,
   rfl, rfl, rfl, rfl, rfl, rfl, rfl, rfl, rfl, rfl, rfl, rfl, rfl, rfl, rfl, rfl, rfl, rfl, rfl, rfl, rfl, rfl, rfl, rfl,
   rfl, rfl, rfl, rfl, rfl, rfl, rfl, rfl, fun _ _ => rfl, fun _ _ => rfl, fun _ _ => rfl⟩

@[simp] theorem State.setPanelQueue_others (s : State) (q : Nat) (l : List Nat) :
    (s.setPanelQueue q l).pending = s.pending ∧ (s.setPanelQueue q l).out = s.out ∧ (s.setPanelQueue q l).fresh = s.fresh ∧
    (s.setPanelQueue q l).part = s.part ∧ (s.setPanelQueue q l).regs = s.regs ∧ (s.setPanelQueue q l).inForce = s.inForce ∧
    (s.setPanelQueue q l).bus = s.bus ∧ (s.setPanelQueue q l).tick = s.tick ∧ (s.setPanelQueue q l).mode = s.mode ∧
    (s.setPanelQueue q l).pcie = s.pcie ∧ (s.setPanelQueue q l).dma = s.dma ∧ (s.setPanelQueue q l).flt = s.flt ∧
    (s.setPanelQueue q l).jrn = s.jrn ∧ (s.setPanelQueue q l).ports = s.ports ∧ (s.setPanelQueue q l).cages = s.cages ∧
    (s.setPanelQueue q l).cmb = s.cmb ∧ (s.setPanelQueue q l).tim = s.tim ∧ (s.setPanelQueue q l).nextId = s.nextId ∧
    (s.setPanelQueue q l).tabs = s.tabs ∧ (s.setPanelQueue q l).prev1 = s.prev1 ∧ (s.setPanelQueue q l).prev2 = s.prev2 ∧
    (s.setPanelQueue q l).tslots = s.tslots ∧ (s.setPanelQueue q l).tvals = s.tvals ∧
    (s.setPanelQueue q l).meters = s.meters ∧ (s.setPanelQueue q l).stats = s.stats ∧ (s.setPanelQueue q l).hits = s.hits ∧
    (s.setPanelQueue q l).needles = s.needles ∧ (s.setPanelQueue q l).lookups = s.lookups ∧
    (s.setPanelQueue q l).pipes = s.pipes ∧ (s.setPanelQueue q l).staged = s.staged ∧
    (s.setPanelQueue q l).copies = s.copies ∧ (s.setPanelQueue q l).gauge = s.gauge ∧
    (s.setPanelQueue q l).scrubNext = s.scrubNext ∧ (s.setPanelQueue q l).twins = s.twins ∧
    (s.setPanelQueue q l).learn = s.learn ∧ (s.setPanelQueue q l).flushes = s.flushes ∧
    (s.setPanelQueue q l).flushPorts = s.flushPorts ∧ (s.setPanelQueue q l).txq = s.txq ∧
    (s.setPanelQueue q l).queues = s.queues ∧ (s.setPanelQueue q l).bufs = s.bufs ∧ (s.setPanelQueue q l).groups = s.groups ∧
    (s.setPanelQueue q l).xoff = s.xoff ∧ (s.setPanelQueue q l).bfd = s.bfd ∧ (s.setPanelQueue q l).lacp = s.lacp ∧
    (s.setPanelQueue q l).lags = s.lags ∧ (s.setPanelQueue q l).seqs = s.seqs ∧ (s.setPanelQueue q l).rsq = s.rsq ∧
    (s.setPanelQueue q l).held = s.held ∧ (s.setPanelQueue q l).rsqGo = s.rsqGo ∧ (s.setPanelQueue q l).hbc = s.hbc ∧
    (s.setPanelQueue q l).keys = s.keys ∧ (s.setPanelQueue q l).wrote = s.wrote ∧ (s.setPanelQueue q l).chart = s.chart ∧
    (s.setPanelQueue q l).pwr = s.pwr ∧ (s.setPanelQueue q l).boot = s.boot ∧ (s.setPanelQueue q l).sec = s.sec ∧
    (∀ rg j, (s.setPanelQueue q l).reg rg j = s.reg rg j) ∧ (∀ fd j, (s.setPanelQueue q l).fld fd j = s.fld fd j) ∧
    (∀ fd j, (s.setPanelQueue q l).bit fd j = s.bit fd j) := by
  unfold State.setPanelQueue
  exact ⟨rfl, rfl, rfl, rfl, rfl, rfl, rfl, rfl, rfl, rfl, rfl, rfl, rfl, rfl, rfl, rfl, rfl, rfl, rfl, rfl, rfl, rfl, rfl, rfl,
   rfl, rfl, rfl, rfl, rfl, rfl, rfl, rfl, rfl, rfl, rfl, rfl, rfl, rfl, rfl, rfl, rfl, rfl, rfl, rfl, rfl, rfl, rfl, rfl,
   rfl, rfl, rfl, rfl, rfl, rfl, rfl, rfl, fun _ _ => rfl, fun _ _ => rfl, fun _ _ => rfl⟩

@[simp] theorem State.setLookup_others (s : State) (k : Nat) (v : Option Lookup) :
    (s.setLookup k v).pending = s.pending ∧ (s.setLookup k v).out = s.out ∧ (s.setLookup k v).fresh = s.fresh ∧
    (s.setLookup k v).part = s.part ∧ (s.setLookup k v).regs = s.regs ∧ (s.setLookup k v).inForce = s.inForce ∧
    (s.setLookup k v).bus = s.bus ∧ (s.setLookup k v).tick = s.tick ∧ (s.setLookup k v).mode = s.mode ∧
    (s.setLookup k v).pcie = s.pcie ∧ (s.setLookup k v).dma = s.dma ∧ (s.setLookup k v).flt = s.flt ∧
    (s.setLookup k v).jrn = s.jrn ∧ (s.setLookup k v).ports = s.ports ∧ (s.setLookup k v).cages = s.cages ∧
    (s.setLookup k v).cmb = s.cmb ∧ (s.setLookup k v).tim = s.tim ∧ (s.setLookup k v).nextId = s.nextId ∧
    (s.setLookup k v).tabs = s.tabs ∧ (s.setLookup k v).prev1 = s.prev1 ∧ (s.setLookup k v).prev2 = s.prev2 ∧
    (s.setLookup k v).tslots = s.tslots ∧ (s.setLookup k v).tvals = s.tvals ∧ (s.setLookup k v).meters = s.meters ∧
    (s.setLookup k v).stats = s.stats ∧ (s.setLookup k v).hits = s.hits ∧ (s.setLookup k v).needles = s.needles ∧
    (s.setLookup k v).pipes = s.pipes ∧ (s.setLookup k v).staged = s.staged ∧ (s.setLookup k v).copies = s.copies ∧
    (s.setLookup k v).gauge = s.gauge ∧ (s.setLookup k v).tqueue = s.tqueue ∧ (s.setLookup k v).scrubNext = s.scrubNext ∧
    (s.setLookup k v).twins = s.twins ∧ (s.setLookup k v).learn = s.learn ∧ (s.setLookup k v).flushes = s.flushes ∧
    (s.setLookup k v).flushPorts = s.flushPorts ∧ (s.setLookup k v).txq = s.txq ∧ (s.setLookup k v).queues = s.queues ∧
    (s.setLookup k v).bufs = s.bufs ∧ (s.setLookup k v).groups = s.groups ∧ (s.setLookup k v).xoff = s.xoff ∧
    (s.setLookup k v).bfd = s.bfd ∧ (s.setLookup k v).lacp = s.lacp ∧ (s.setLookup k v).lags = s.lags ∧
    (s.setLookup k v).seqs = s.seqs ∧ (s.setLookup k v).rsq = s.rsq ∧ (s.setLookup k v).held = s.held ∧
    (s.setLookup k v).rsqGo = s.rsqGo ∧ (s.setLookup k v).hbc = s.hbc ∧ (s.setLookup k v).keys = s.keys ∧
    (s.setLookup k v).wrote = s.wrote ∧ (s.setLookup k v).chart = s.chart ∧ (s.setLookup k v).pwr = s.pwr ∧
    (s.setLookup k v).boot = s.boot ∧ (s.setLookup k v).sec = s.sec ∧ (∀ rg j, (s.setLookup k v).reg rg j = s.reg rg j) ∧
    (∀ fd j, (s.setLookup k v).fld fd j = s.fld fd j) ∧ (∀ fd j, (s.setLookup k v).bit fd j = s.bit fd j) := by
  unfold State.setLookup
  exact ⟨rfl, rfl, rfl, rfl, rfl, rfl, rfl, rfl, rfl, rfl, rfl, rfl, rfl, rfl, rfl, rfl, rfl, rfl, rfl, rfl, rfl, rfl, rfl, rfl,
   rfl, rfl, rfl, rfl, rfl, rfl, rfl, rfl, rfl, rfl, rfl, rfl, rfl, rfl, rfl, rfl, rfl, rfl, rfl, rfl, rfl, rfl, rfl, rfl,
   rfl, rfl, rfl, rfl, rfl, rfl, rfl, rfl, fun _ _ => rfl, fun _ _ => rfl, fun _ _ => rfl⟩

@[simp] theorem State.setHeld_others (s : State) (k : Nat) (l : List Held) :
    (s.setHeld k l).pending = s.pending ∧ (s.setHeld k l).out = s.out ∧ (s.setHeld k l).fresh = s.fresh ∧
    (s.setHeld k l).part = s.part ∧ (s.setHeld k l).inForce = s.inForce ∧ (s.setHeld k l).bus = s.bus ∧
    (s.setHeld k l).tick = s.tick ∧ (s.setHeld k l).mode = s.mode ∧ (s.setHeld k l).pcie = s.pcie ∧
    (s.setHeld k l).dma = s.dma ∧ (s.setHeld k l).flt = s.flt ∧ (s.setHeld k l).jrn = s.jrn ∧
    (s.setHeld k l).ports = s.ports ∧ (s.setHeld k l).cages = s.cages ∧ (s.setHeld k l).cmb = s.cmb ∧
    (s.setHeld k l).tim = s.tim ∧ (s.setHeld k l).nextId = s.nextId ∧ (s.setHeld k l).tabs = s.tabs ∧
    (s.setHeld k l).prev1 = s.prev1 ∧ (s.setHeld k l).prev2 = s.prev2 ∧ (s.setHeld k l).tslots = s.tslots ∧
    (s.setHeld k l).tvals = s.tvals ∧ (s.setHeld k l).meters = s.meters ∧ (s.setHeld k l).stats = s.stats ∧
    (s.setHeld k l).hits = s.hits ∧ (s.setHeld k l).needles = s.needles ∧ (s.setHeld k l).lookups = s.lookups ∧
    (s.setHeld k l).pipes = s.pipes ∧ (s.setHeld k l).staged = s.staged ∧ (s.setHeld k l).copies = s.copies ∧
    (s.setHeld k l).gauge = s.gauge ∧ (s.setHeld k l).tqueue = s.tqueue ∧ (s.setHeld k l).scrubNext = s.scrubNext ∧
    (s.setHeld k l).twins = s.twins ∧ (s.setHeld k l).learn = s.learn ∧ (s.setHeld k l).flushes = s.flushes ∧
    (s.setHeld k l).flushPorts = s.flushPorts ∧ (s.setHeld k l).txq = s.txq ∧ (s.setHeld k l).queues = s.queues ∧
    (s.setHeld k l).bufs = s.bufs ∧ (s.setHeld k l).groups = s.groups ∧ (s.setHeld k l).xoff = s.xoff ∧
    (s.setHeld k l).bfd = s.bfd ∧ (s.setHeld k l).lacp = s.lacp ∧ (s.setHeld k l).lags = s.lags ∧
    (s.setHeld k l).seqs = s.seqs ∧ (s.setHeld k l).rsq = s.rsq ∧ (s.setHeld k l).rsqGo = s.rsqGo ∧
    (s.setHeld k l).hbc = s.hbc ∧ (s.setHeld k l).keys = s.keys ∧ (s.setHeld k l).wrote = s.wrote ∧
    (s.setHeld k l).chart = s.chart ∧ (s.setHeld k l).pwr = s.pwr ∧ (s.setHeld k l).boot = s.boot ∧
    (s.setHeld k l).sec = s.sec := by
  unfold State.setHeld
  simp

@[simp] theorem State.setCfg_others (s : State) (f dw : Nat) (v : BitVec 32) :
    (s.setCfg f dw v).pending = s.pending ∧ (s.setCfg f dw v).out = s.out ∧ (s.setCfg f dw v).fresh = s.fresh ∧
    (s.setCfg f dw v).part = s.part ∧ (s.setCfg f dw v).regs = s.regs ∧ (s.setCfg f dw v).inForce = s.inForce ∧
    (s.setCfg f dw v).bus = s.bus ∧ (s.setCfg f dw v).tick = s.tick ∧ (s.setCfg f dw v).mode = s.mode ∧
    (s.setCfg f dw v).dma = s.dma ∧ (s.setCfg f dw v).flt = s.flt ∧ (s.setCfg f dw v).jrn = s.jrn ∧
    (s.setCfg f dw v).ports = s.ports ∧ (s.setCfg f dw v).cages = s.cages ∧ (s.setCfg f dw v).cmb = s.cmb ∧
    (s.setCfg f dw v).tim = s.tim ∧ (s.setCfg f dw v).nextId = s.nextId ∧ (s.setCfg f dw v).tabs = s.tabs ∧
    (s.setCfg f dw v).prev1 = s.prev1 ∧ (s.setCfg f dw v).prev2 = s.prev2 ∧ (s.setCfg f dw v).tslots = s.tslots ∧
    (s.setCfg f dw v).tvals = s.tvals ∧ (s.setCfg f dw v).meters = s.meters ∧ (s.setCfg f dw v).stats = s.stats ∧
    (s.setCfg f dw v).hits = s.hits ∧ (s.setCfg f dw v).needles = s.needles ∧ (s.setCfg f dw v).lookups = s.lookups ∧
    (s.setCfg f dw v).pipes = s.pipes ∧ (s.setCfg f dw v).staged = s.staged ∧ (s.setCfg f dw v).copies = s.copies ∧
    (s.setCfg f dw v).gauge = s.gauge ∧ (s.setCfg f dw v).tqueue = s.tqueue ∧ (s.setCfg f dw v).scrubNext = s.scrubNext ∧
    (s.setCfg f dw v).twins = s.twins ∧ (s.setCfg f dw v).learn = s.learn ∧ (s.setCfg f dw v).flushes = s.flushes ∧
    (s.setCfg f dw v).flushPorts = s.flushPorts ∧ (s.setCfg f dw v).txq = s.txq ∧ (s.setCfg f dw v).queues = s.queues ∧
    (s.setCfg f dw v).bufs = s.bufs ∧ (s.setCfg f dw v).groups = s.groups ∧ (s.setCfg f dw v).xoff = s.xoff ∧
    (s.setCfg f dw v).bfd = s.bfd ∧ (s.setCfg f dw v).lacp = s.lacp ∧ (s.setCfg f dw v).lags = s.lags ∧
    (s.setCfg f dw v).seqs = s.seqs ∧ (s.setCfg f dw v).rsq = s.rsq ∧ (s.setCfg f dw v).held = s.held ∧
    (s.setCfg f dw v).rsqGo = s.rsqGo ∧ (s.setCfg f dw v).hbc = s.hbc ∧ (s.setCfg f dw v).keys = s.keys ∧
    (s.setCfg f dw v).wrote = s.wrote ∧ (s.setCfg f dw v).chart = s.chart ∧ (s.setCfg f dw v).pwr = s.pwr ∧
    (s.setCfg f dw v).boot = s.boot ∧ (s.setCfg f dw v).sec = s.sec ∧ (∀ rg j, (s.setCfg f dw v).reg rg j = s.reg rg j) ∧
    (∀ fd j, (s.setCfg f dw v).fld fd j = s.fld fd j) ∧ (∀ fd j, (s.setCfg f dw v).bit fd j = s.bit fd j) := by
  unfold State.setCfg
  exact ⟨rfl, rfl, rfl, rfl, rfl, rfl, rfl, rfl, rfl, rfl, rfl, rfl, rfl, rfl, rfl, rfl, rfl, rfl, rfl, rfl, rfl, rfl, rfl, rfl,
   rfl, rfl, rfl, rfl, rfl, rfl, rfl, rfl, rfl, rfl, rfl, rfl, rfl, rfl, rfl, rfl, rfl, rfl, rfl, rfl, rfl, rfl, rfl, rfl,
   rfl, rfl, rfl, rfl, rfl, rfl, rfl, rfl, fun _ _ => rfl, fun _ _ => rfl, fun _ _ => rfl⟩

@[simp] theorem State.setMsix_others (s : State) (k : Nat) (e : MsixEnt) :
    (s.setMsix k e).pending = s.pending ∧ (s.setMsix k e).out = s.out ∧ (s.setMsix k e).fresh = s.fresh ∧
    (s.setMsix k e).part = s.part ∧ (s.setMsix k e).regs = s.regs ∧ (s.setMsix k e).inForce = s.inForce ∧
    (s.setMsix k e).bus = s.bus ∧ (s.setMsix k e).tick = s.tick ∧ (s.setMsix k e).mode = s.mode ∧
    (s.setMsix k e).dma = s.dma ∧ (s.setMsix k e).flt = s.flt ∧ (s.setMsix k e).jrn = s.jrn ∧
    (s.setMsix k e).ports = s.ports ∧ (s.setMsix k e).cages = s.cages ∧ (s.setMsix k e).cmb = s.cmb ∧
    (s.setMsix k e).tim = s.tim ∧ (s.setMsix k e).nextId = s.nextId ∧ (s.setMsix k e).tabs = s.tabs ∧
    (s.setMsix k e).prev1 = s.prev1 ∧ (s.setMsix k e).prev2 = s.prev2 ∧ (s.setMsix k e).tslots = s.tslots ∧
    (s.setMsix k e).tvals = s.tvals ∧ (s.setMsix k e).meters = s.meters ∧ (s.setMsix k e).stats = s.stats ∧
    (s.setMsix k e).hits = s.hits ∧ (s.setMsix k e).needles = s.needles ∧ (s.setMsix k e).lookups = s.lookups ∧
    (s.setMsix k e).pipes = s.pipes ∧ (s.setMsix k e).staged = s.staged ∧ (s.setMsix k e).copies = s.copies ∧
    (s.setMsix k e).gauge = s.gauge ∧ (s.setMsix k e).tqueue = s.tqueue ∧ (s.setMsix k e).scrubNext = s.scrubNext ∧
    (s.setMsix k e).twins = s.twins ∧ (s.setMsix k e).learn = s.learn ∧ (s.setMsix k e).flushes = s.flushes ∧
    (s.setMsix k e).flushPorts = s.flushPorts ∧ (s.setMsix k e).txq = s.txq ∧ (s.setMsix k e).queues = s.queues ∧
    (s.setMsix k e).bufs = s.bufs ∧ (s.setMsix k e).groups = s.groups ∧ (s.setMsix k e).xoff = s.xoff ∧
    (s.setMsix k e).bfd = s.bfd ∧ (s.setMsix k e).lacp = s.lacp ∧ (s.setMsix k e).lags = s.lags ∧
    (s.setMsix k e).seqs = s.seqs ∧ (s.setMsix k e).rsq = s.rsq ∧ (s.setMsix k e).held = s.held ∧
    (s.setMsix k e).rsqGo = s.rsqGo ∧ (s.setMsix k e).hbc = s.hbc ∧ (s.setMsix k e).keys = s.keys ∧
    (s.setMsix k e).wrote = s.wrote ∧ (s.setMsix k e).chart = s.chart ∧ (s.setMsix k e).pwr = s.pwr ∧
    (s.setMsix k e).boot = s.boot ∧ (s.setMsix k e).sec = s.sec ∧ (∀ rg j, (s.setMsix k e).reg rg j = s.reg rg j) ∧
    (∀ fd j, (s.setMsix k e).fld fd j = s.fld fd j) ∧ (∀ fd j, (s.setMsix k e).bit fd j = s.bit fd j) := by
  unfold State.setMsix
  exact ⟨rfl, rfl, rfl, rfl, rfl, rfl, rfl, rfl, rfl, rfl, rfl, rfl, rfl, rfl, rfl, rfl, rfl, rfl, rfl, rfl, rfl, rfl, rfl, rfl,
   rfl, rfl, rfl, rfl, rfl, rfl, rfl, rfl, rfl, rfl, rfl, rfl, rfl, rfl, rfl, rfl, rfl, rfl, rfl, rfl, rfl, rfl, rfl, rfl,
   rfl, rfl, rfl, rfl, rfl, rfl, rfl, rfl, fun _ _ => rfl, fun _ _ => rfl, fun _ _ => rfl⟩

@[simp] theorem State.setRead_others (s : State) (tag : Nat) (n : ReadRec) :
    (s.setRead tag n).pending = s.pending ∧ (s.setRead tag n).out = s.out ∧ (s.setRead tag n).fresh = s.fresh ∧
    (s.setRead tag n).part = s.part ∧ (s.setRead tag n).regs = s.regs ∧ (s.setRead tag n).inForce = s.inForce ∧
    (s.setRead tag n).bus = s.bus ∧ (s.setRead tag n).tick = s.tick ∧ (s.setRead tag n).mode = s.mode ∧
    (s.setRead tag n).dma = s.dma ∧ (s.setRead tag n).flt = s.flt ∧ (s.setRead tag n).jrn = s.jrn ∧
    (s.setRead tag n).ports = s.ports ∧ (s.setRead tag n).cages = s.cages ∧ (s.setRead tag n).cmb = s.cmb ∧
    (s.setRead tag n).tim = s.tim ∧ (s.setRead tag n).nextId = s.nextId ∧ (s.setRead tag n).tabs = s.tabs ∧
    (s.setRead tag n).prev1 = s.prev1 ∧ (s.setRead tag n).prev2 = s.prev2 ∧ (s.setRead tag n).tslots = s.tslots ∧
    (s.setRead tag n).tvals = s.tvals ∧ (s.setRead tag n).meters = s.meters ∧ (s.setRead tag n).stats = s.stats ∧
    (s.setRead tag n).hits = s.hits ∧ (s.setRead tag n).needles = s.needles ∧ (s.setRead tag n).lookups = s.lookups ∧
    (s.setRead tag n).pipes = s.pipes ∧ (s.setRead tag n).staged = s.staged ∧ (s.setRead tag n).copies = s.copies ∧
    (s.setRead tag n).gauge = s.gauge ∧ (s.setRead tag n).tqueue = s.tqueue ∧ (s.setRead tag n).scrubNext = s.scrubNext ∧
    (s.setRead tag n).twins = s.twins ∧ (s.setRead tag n).learn = s.learn ∧ (s.setRead tag n).flushes = s.flushes ∧
    (s.setRead tag n).flushPorts = s.flushPorts ∧ (s.setRead tag n).txq = s.txq ∧ (s.setRead tag n).queues = s.queues ∧
    (s.setRead tag n).bufs = s.bufs ∧ (s.setRead tag n).groups = s.groups ∧ (s.setRead tag n).xoff = s.xoff ∧
    (s.setRead tag n).bfd = s.bfd ∧ (s.setRead tag n).lacp = s.lacp ∧ (s.setRead tag n).lags = s.lags ∧
    (s.setRead tag n).seqs = s.seqs ∧ (s.setRead tag n).rsq = s.rsq ∧ (s.setRead tag n).held = s.held ∧
    (s.setRead tag n).rsqGo = s.rsqGo ∧ (s.setRead tag n).hbc = s.hbc ∧ (s.setRead tag n).keys = s.keys ∧
    (s.setRead tag n).wrote = s.wrote ∧ (s.setRead tag n).chart = s.chart ∧ (s.setRead tag n).pwr = s.pwr ∧
    (s.setRead tag n).boot = s.boot ∧ (s.setRead tag n).sec = s.sec ∧ (∀ rg j, (s.setRead tag n).reg rg j = s.reg rg j) ∧
    (∀ fd j, (s.setRead tag n).fld fd j = s.fld fd j) ∧ (∀ fd j, (s.setRead tag n).bit fd j = s.bit fd j) := by
  unfold State.setRead
  exact ⟨rfl, rfl, rfl, rfl, rfl, rfl, rfl, rfl, rfl, rfl, rfl, rfl, rfl, rfl, rfl, rfl, rfl, rfl, rfl, rfl, rfl, rfl, rfl, rfl,
   rfl, rfl, rfl, rfl, rfl, rfl, rfl, rfl, rfl, rfl, rfl, rfl, rfl, rfl, rfl, rfl, rfl, rfl, rfl, rfl, rfl, rfl, rfl, rfl,
   rfl, rfl, rfl, rfl, rfl, rfl, rfl, rfl, fun _ _ => rfl, fun _ _ => rfl, fun _ _ => rfl⟩

@[simp] theorem State.setHold_others (s : State) (a : Agent) (h : Option Half) :
    (s.setHold a h).pending = s.pending ∧ (s.setHold a h).out = s.out ∧ (s.setHold a h).fresh = s.fresh ∧
    (s.setHold a h).part = s.part ∧ (s.setHold a h).regs = s.regs ∧ (s.setHold a h).inForce = s.inForce ∧
    (s.setHold a h).tick = s.tick ∧ (s.setHold a h).mode = s.mode ∧ (s.setHold a h).pcie = s.pcie ∧
    (s.setHold a h).dma = s.dma ∧ (s.setHold a h).flt = s.flt ∧ (s.setHold a h).jrn = s.jrn ∧
    (s.setHold a h).ports = s.ports ∧ (s.setHold a h).cages = s.cages ∧ (s.setHold a h).cmb = s.cmb ∧
    (s.setHold a h).tim = s.tim ∧ (s.setHold a h).nextId = s.nextId ∧ (s.setHold a h).tabs = s.tabs ∧
    (s.setHold a h).prev1 = s.prev1 ∧ (s.setHold a h).prev2 = s.prev2 ∧ (s.setHold a h).tslots = s.tslots ∧
    (s.setHold a h).tvals = s.tvals ∧ (s.setHold a h).meters = s.meters ∧ (s.setHold a h).stats = s.stats ∧
    (s.setHold a h).hits = s.hits ∧ (s.setHold a h).needles = s.needles ∧ (s.setHold a h).lookups = s.lookups ∧
    (s.setHold a h).pipes = s.pipes ∧ (s.setHold a h).staged = s.staged ∧ (s.setHold a h).copies = s.copies ∧
    (s.setHold a h).gauge = s.gauge ∧ (s.setHold a h).tqueue = s.tqueue ∧ (s.setHold a h).scrubNext = s.scrubNext ∧
    (s.setHold a h).twins = s.twins ∧ (s.setHold a h).learn = s.learn ∧ (s.setHold a h).flushes = s.flushes ∧
    (s.setHold a h).flushPorts = s.flushPorts ∧ (s.setHold a h).txq = s.txq ∧ (s.setHold a h).queues = s.queues ∧
    (s.setHold a h).bufs = s.bufs ∧ (s.setHold a h).groups = s.groups ∧ (s.setHold a h).xoff = s.xoff ∧
    (s.setHold a h).bfd = s.bfd ∧ (s.setHold a h).lacp = s.lacp ∧ (s.setHold a h).lags = s.lags ∧
    (s.setHold a h).seqs = s.seqs ∧ (s.setHold a h).rsq = s.rsq ∧ (s.setHold a h).held = s.held ∧
    (s.setHold a h).rsqGo = s.rsqGo ∧ (s.setHold a h).hbc = s.hbc ∧ (s.setHold a h).keys = s.keys ∧
    (s.setHold a h).wrote = s.wrote ∧ (s.setHold a h).chart = s.chart ∧ (s.setHold a h).pwr = s.pwr ∧
    (s.setHold a h).boot = s.boot ∧ (s.setHold a h).sec = s.sec ∧ (∀ rg j, (s.setHold a h).reg rg j = s.reg rg j) ∧
    (∀ fd j, (s.setHold a h).fld fd j = s.fld fd j) ∧ (∀ fd j, (s.setHold a h).bit fd j = s.bit fd j) := by
  unfold State.setHold
  exact ⟨rfl, rfl, rfl, rfl, rfl, rfl, rfl, rfl, rfl, rfl, rfl, rfl, rfl, rfl, rfl, rfl, rfl, rfl, rfl, rfl, rfl, rfl, rfl, rfl,
   rfl, rfl, rfl, rfl, rfl, rfl, rfl, rfl, rfl, rfl, rfl, rfl, rfl, rfl, rfl, rfl, rfl, rfl, rfl, rfl, rfl, rfl, rfl, rfl,
   rfl, rfl, rfl, rfl, rfl, rfl, rfl, rfl, fun _ _ => rfl, fun _ _ => rfl, fun _ _ => rfl⟩

@[simp] theorem State.setShadow_others (s : State) (a : Agent) (h : Option Half) :
    (s.setShadow a h).pending = s.pending ∧ (s.setShadow a h).out = s.out ∧ (s.setShadow a h).fresh = s.fresh ∧
    (s.setShadow a h).part = s.part ∧ (s.setShadow a h).regs = s.regs ∧ (s.setShadow a h).inForce = s.inForce ∧
    (s.setShadow a h).tick = s.tick ∧ (s.setShadow a h).mode = s.mode ∧ (s.setShadow a h).pcie = s.pcie ∧
    (s.setShadow a h).dma = s.dma ∧ (s.setShadow a h).flt = s.flt ∧ (s.setShadow a h).jrn = s.jrn ∧
    (s.setShadow a h).ports = s.ports ∧ (s.setShadow a h).cages = s.cages ∧ (s.setShadow a h).cmb = s.cmb ∧
    (s.setShadow a h).tim = s.tim ∧ (s.setShadow a h).nextId = s.nextId ∧ (s.setShadow a h).tabs = s.tabs ∧
    (s.setShadow a h).prev1 = s.prev1 ∧ (s.setShadow a h).prev2 = s.prev2 ∧ (s.setShadow a h).tslots = s.tslots ∧
    (s.setShadow a h).tvals = s.tvals ∧ (s.setShadow a h).meters = s.meters ∧ (s.setShadow a h).stats = s.stats ∧
    (s.setShadow a h).hits = s.hits ∧ (s.setShadow a h).needles = s.needles ∧ (s.setShadow a h).lookups = s.lookups ∧
    (s.setShadow a h).pipes = s.pipes ∧ (s.setShadow a h).staged = s.staged ∧ (s.setShadow a h).copies = s.copies ∧
    (s.setShadow a h).gauge = s.gauge ∧ (s.setShadow a h).tqueue = s.tqueue ∧ (s.setShadow a h).scrubNext = s.scrubNext ∧
    (s.setShadow a h).twins = s.twins ∧ (s.setShadow a h).learn = s.learn ∧ (s.setShadow a h).flushes = s.flushes ∧
    (s.setShadow a h).flushPorts = s.flushPorts ∧ (s.setShadow a h).txq = s.txq ∧ (s.setShadow a h).queues = s.queues ∧
    (s.setShadow a h).bufs = s.bufs ∧ (s.setShadow a h).groups = s.groups ∧ (s.setShadow a h).xoff = s.xoff ∧
    (s.setShadow a h).bfd = s.bfd ∧ (s.setShadow a h).lacp = s.lacp ∧ (s.setShadow a h).lags = s.lags ∧
    (s.setShadow a h).seqs = s.seqs ∧ (s.setShadow a h).rsq = s.rsq ∧ (s.setShadow a h).held = s.held ∧
    (s.setShadow a h).rsqGo = s.rsqGo ∧ (s.setShadow a h).hbc = s.hbc ∧ (s.setShadow a h).keys = s.keys ∧
    (s.setShadow a h).wrote = s.wrote ∧ (s.setShadow a h).chart = s.chart ∧ (s.setShadow a h).pwr = s.pwr ∧
    (s.setShadow a h).boot = s.boot ∧ (s.setShadow a h).sec = s.sec ∧ (∀ rg j, (s.setShadow a h).reg rg j = s.reg rg j) ∧
    (∀ fd j, (s.setShadow a h).fld fd j = s.fld fd j) ∧ (∀ fd j, (s.setShadow a h).bit fd j = s.bit fd j) := by
  unfold State.setShadow
  exact ⟨rfl, rfl, rfl, rfl, rfl, rfl, rfl, rfl, rfl, rfl, rfl, rfl, rfl, rfl, rfl, rfl, rfl, rfl, rfl, rfl, rfl, rfl, rfl, rfl,
   rfl, rfl, rfl, rfl, rfl, rfl, rfl, rfl, rfl, rfl, rfl, rfl, rfl, rfl, rfl, rfl, rfl, rfl, rfl, rfl, rfl, rfl, rfl, rfl,
   rfl, rfl, rfl, rfl, rfl, rfl, rfl, rfl, fun _ _ => rfl, fun _ _ => rfl, fun _ _ => rfl⟩

theorem State.port_setPort (s : State) (k j : Nat) (v : PortSt) :
    (s.setPort k v).port j = if k = j then v else s.port j := by
  unfold State.setPort State.port; simp [SMap.get_set]

theorem State.pipe_setPipe (s : State) (k j : Nat) (v : PipeSt) :
    (s.setPipe k v).pipe j = if k = j then v else s.pipe j := by
  unfold State.setPipe State.pipe; simp [SMap.get_set]

theorem State.needle_setNeedle (s : State) (k j : Nat) (v : Option Needle) :
    (s.setNeedle k v).needle j = if k = j then v else s.needle j := by
  unfold State.setNeedle State.needle; simp [SMap.get_set]

theorem State.copy_setCopy (s : State) (k j : Nat) (v : Option Copy) :
    (s.setCopy k v).copy j = if k = j then v else s.copy j := by
  unfold State.setCopy State.copy; simp [SMap.get_set]

theorem State.queue_setQueue (s : State) (k j : Nat) (v : QSt) :
    (s.setQueue k v).queue j = if k = j then v else s.queue j := by
  unfold State.setQueue State.queue; simp [SMap.get_set]

theorem State.buf_setBuf (s : State) (k j : Nat) (v : BufSt) :
    (s.setBuf k v).buf j = if k = j then v else s.buf j := by
  unfold State.setBuf State.buf; simp [SMap.get_set]

theorem State.ctx_setCtx (s : State) (k j : Nat) (v : Option Ctx) :
    (s.setCtx k v).ctx j = if k = j then v else s.ctx j := by
  unfold State.setCtx State.ctx; simp [SMap.get_set]

theorem State.hbcAt_setHbc (s : State) (k j : Nat) (v : HbcSt) :
    (s.setHbc k v).hbcAt j = if k = j then v else s.hbcAt j := by
  unfold State.setHbc State.hbcAt; simp [SMap.get_set]

theorem State.sq_setSq (s : State) (k j : Nat) (v : SqSt) :
    (s.setSq k v).sq j = if k = j then v else s.sq j := by
  unfold State.setSq State.sq; simp [SMap.get_set]

theorem State.cq_setCq (s : State) (k j : Nat) (v : CqSt) :
    (s.setCq k v).cq j = if k = j then v else s.cq j := by
  unfold State.setCq State.cq; simp [SMap.get_set]

theorem State.lookup_setLookup (s : State) (k j : Nat) (v : Option Lookup) :
    (s.setLookup k v).lookup j = if k = j then v else s.lookup j := by
  unfold State.setLookup State.lookup; simp [SMap.get_set]

theorem State.stagedOf_setStaged (s : State) (k j : Nat) (v : Staged) :
    (s.setStaged k v).stagedOf j = if k = j then (if v.merged = true ∧ v.left = 0 then none else some v) else s.stagedOf j := by
  unfold State.setStaged State.stagedOf; simp [SMap.get_set]

theorem State.meter_setMeter (s : State) (k j : Nat) (v : Meter) :
    (s.setMeter k v).meter j = if k = j then v else s.meter j := by
  unfold State.setMeter State.meter; simp [SMap.get_set]

theorem State.statPair_setStat (s : State) (k j : Nat) (v : Nat × Nat) :
    (s.setStat k v).statPair j = if k = j then (v.1 % 2 ^ 40, v.2 % 2 ^ 56) else s.statPair j := by
  unfold State.setStat State.statPair; simp [SMap.get_set]

end Sys2Proof.Machine
end

