-- ==== Sys2Proof/WellFormed.lean ====
section
/-! DEFINITION. The commands whose operands name something that exists, beyond what their types say. The meanings are total:
an ill-formed command does what the spec says of an access or event that reaches nothing. -/

namespace Sys2Proof

/-- Bytes of a BAR of a PF (Table 13-4). -/
def Bar.size : Bar → Nat
  | .bar0 => 2 ^ 26
  | .bar2 => 2 ^ 24
  | .bar4 => 65536

/-- The request lies in its BAR (R310); it is of 1 to 4,096 bytes. -/
def BusReq.wf (q : BusReq) : Bool := 1 ≤ q.size && q.size ≤ 4096 && q.addr + q.size ≤ q.bar.size

/-- A doorbell write lies in the first 64 KiB of a function's BAR2, at a size that a write can have. -/
def doorbellWf (off size : Nat) : Bool := off < 65536 && (size == 1 || size == 2 || size == 4 || size == 8)

/-- A frame from the destination address through the FCS: at least the two addresses and the FCS, at most 16,384 bytes. -/
def frameWf (frame : Bytes) : Bool := 16 ≤ frame.length && frame.length ≤ 16384

/-- The command's operands name something that exists. -/
def Instr.wf : Instr → Bool
  | .registerWrite _ q _ | .registerRead _ q => q.wf
  | .halfReadLatch _ addr => addr + 4 ≤ 2 ^ 26 && addr % 4 == 0
  | .doorbell _ off size _ => doorbellWf off size
  | .rxFrame _ frame _ _ => frameWf frame
  | .cmbScanFrame inputs => inputs.length ≤ 128
  | .i2cDone _ _ data => data.length ≤ 128
  | .speedPolicyWindow _ u => u ≤ 100
  | .faultDetect k src _ _ _ _ | .faultReaction k src _ | .faultConditionCleared k src _ =>
    (Machine.fltSource k.val src.val).isSome
  | .readCompletion _ status _ data => status == .ok || data.isEmpty
  | _ => true

end Sys2Proof
end

