-- ==== Sys2Proof/Tests/Slice0.lean ====
section
/-! SUPPORT. Tests: for each statement a concrete state and operands that meet its hypotheses, with values read from the spec's
tables and rules; and the well-formedness checks. -/

set_option Elab.async false

open Host Sys2Proof Sys2Proof.Machine

namespace Sys2Proof.Tests

/-- An ill-formed term for each check of WellFormed, and a term at its bound that passes. -/
theorem test_wf_requests : (Instr.registerRead (.mc 0) ⟨.bar0, 0, 0, true⟩).wf = false ∧
    (Instr.registerRead (.mc 0) ⟨.bar0, 0, 4097, true⟩).wf = false ∧ (Instr.registerRead (.mc 0) ⟨.bar0, 0, 4096, true⟩).wf = true ∧
    (Instr.registerWrite (.mc 0) ⟨.bar0, 0x3FFFFFD, 4, true⟩ 0).wf = false ∧ (Instr.registerWrite (.mc 0) ⟨.bar0, 0x3FFFFFC, 4, true⟩ 0).wf = true ∧
    (Instr.registerWrite (.fn 0) ⟨.bar4, 0xFFFD, 4, true⟩ 0).wf = false ∧ (Instr.registerWrite (.fn 0) ⟨.bar4, 0xFFFC, 4, true⟩ 0).wf = true ∧
    (Instr.registerRead (.fn 0) ⟨.bar2, 0xFFFFFD, 4, true⟩).wf = false ∧ (Instr.registerRead (.fn 0) ⟨.bar2, 0xFFFFFC, 4, true⟩).wf = true := by
  decide +kernel

theorem test_wf_operands : (Instr.halfReadLatch (.mc 0) 2).wf = false ∧ (Instr.halfReadLatch (.mc 0) 0x4000000).wf = false ∧
    (Instr.halfReadLatch (.mc 0) 0x3FFFFFC).wf = true ∧ (Instr.doorbell 0 65536 4 0).wf = false ∧ (Instr.doorbell 0 0 3 0).wf = false ∧
    (Instr.doorbell 0 65532 4 0).wf = true ∧ (Instr.rxFrame 0 (List.replicate 15 0) 0 false).wf = false ∧
    (Instr.rxFrame 0 (List.replicate 16 0) 0 false).wf = true ∧ frameWf (List.replicate 16385 0) = false ∧ frameWf (List.replicate 16384 0) = true ∧
    (Instr.cmbScanFrame (List.replicate 129 0)).wf = false ∧ (Instr.cmbScanFrame (List.replicate 128 0)).wf = true := by decide +kernel

theorem test_wf_events : (Instr.faultDetect 7 1 0 0 0 false).wf = false ∧ (Instr.faultDetect 7 0 0 0 0 false).wf = true ∧
    (Instr.faultReaction 0 6 0).wf = false ∧ (Instr.faultConditionCleared 22 3 0).wf = false ∧ (Instr.faultConditionCleared 22 2 0).wf = true ∧
    (Instr.speedPolicyWindow 0 101).wf = false ∧ (Instr.speedPolicyWindow 0 100).wf = true ∧
    (Instr.i2cDone 0 false (List.replicate 129 0)).wf = false ∧ (Instr.i2cDone 0 false (List.replicate 128 0)).wf = true ∧
    (Instr.readCompletion 0 .abort true [1]).wf = false ∧ (Instr.readCompletion 0 .ok true [1]).wf = true := by decide +kernel

/-- The state that an outcome goes on to. -/
def nx (r : Res) : State := match r with | .next t => t | _ => State.reset

/-- From reset, with a field set. -/
def withFld (f : Fld) (i v : Nat) : State := State.reset.setFld f i v

theorem test_StepRunsFront : ({ State.reset with pending := [.l1Entry] } : State).pending = .l1Entry :: [] := by decide +kernel

theorem test_IdleStep : State.reset.pending = [] ∧ State.reset.curMode ≠ 0 ∧ 3 ≤ State.reset.boot.step ∧
    State.reset.fld F.TIK_CLK_CLK 0 + 1 < State.reset.tick.len ∧ State.reset.fld F.TIK_CLK_CLK 0 < 8191 ∧
    (withFld F.TIK_CLK_CLK 0 1199).tick.len ≤ (withFld F.TIK_CLK_CLK 0 1199).fld F.TIK_CLK_CLK 0 + 1 ∧
    (nx (step State.reset)).fld F.TIK_CLK_CLK 0 = 1 ∧ (withFld F.GLB_MODE_CUR 0 0).curMode = 0 := by decide +kernel

theorem test_QueueAndPartStay : ∃ t, exec .tapReset State.reset = .next t := ⟨_, rfl⟩

theorem test_StepsKeepRegisters : State.reset.RegsCanonical ∧ ∃ t, step State.reset = .next t := ⟨⟨rfl, rfl⟩, _, rfl⟩

/-- Port 0's octet off, and a part without pipeline 8. -/
def octOff : State := withFld F.PWR_DOM_STS_STATE 16 0
def small : State := { State.reset with part := .bx1280 }

/-- TIK_COMMIT_DEFER: RW1C count at 0x40038; GLB_SPLIT at 0x30; TIM_INCR, 64 bits, at 0x600010 (spec/01 to spec/03). -/
theorem test_WriteFollows : State.reset.takes (.mc 0) .GLB_SPLIT 0 ∧ locate 0x30 = some (.GLB_SPLIT, 0, 0) ∧
    0x30 % (Reg.GLB_SPLIT.width / 8) = 0 ∧ State.reset.busAddr (.mc 0) 0x30 = some 0x30 ∧ Reg.GLB_SPLIT ∉ specialWrites ∧
    (nx (exec (.registerWrite (.mc 0) ⟨.bar0, 0x30, 4, true⟩ 0xFFFF0004) State.reset)).reg .GLB_SPLIT 0 = 4 := by
  unfold State.takes; decide +kernel

theorem test_WriteRefused : octOff.gate (.mc 0) = none ∧ octOff.reach (.mc 0) .MAC_PORT_LINK 0 = .off ∧
    locate 0x2010004 = some (.MAC_PORT_LINK, 0, 0) ∧ 0x2010004 % (Reg.MAC_PORT_LINK.width / 8) = 0 ∧
    octOff.busAddr (.mc 0) 0x2010004 = some 0x2010004 ∧ small.reach (.mc 0) .STE_BUDGET 4 = .undefined ∧
    locate 0x1400000 = some (.STE_BUDGET, 4, 0) ∧ State.reset.gate (.cs 0) = none ∧
    State.reset.reach (.cs 0) .GLB_HEARTBEAT 0 = .violation ∧ locate 0x44 = some (.GLB_HEARTBEAT, 0, 0) ∧
    0x44 % (Reg.GLB_HEARTBEAT.width / 8) = 0 ∧ State.reset.busAddr (.cs 0) 0x44 = some 0x44 ∧
    State.reset.gauge.held.contains (Reg.PCX_CNT.key 11) = false ∧
    (nx (exec (.registerWrite (.cs 0) ⟨.bar0, 0x44, 4, true⟩ 1) State.reset)).reg .PCX_CNT 11 = 1 := by decide +kernel

theorem test_ReadAnswers : State.reset.reach (.mc 0) .GLB_SPLIT_LOSS 0 = .ok ∧ locate 0x34 = some (.GLB_SPLIT_LOSS, 0, 0) ∧
    (nx (exec (.registerRead (.mc 0) ⟨.bar0, 0x34, 4, true⟩) State.reset)).out = [.readData (.mc 0) 0x1FFF 4] ∧
    (nx (exec (.registerRead (.mc 0) ⟨.bar0, 0x2010004, 4, true⟩) octOff)).out = [.readData (.mc 0) 0xFFFFFFFF 4] ∧
    (nx (exec (.registerRead (.mc 0) ⟨.bar0, 0x1400000, 4, true⟩) small)).out = [.readData (.mc 0) 0 4] ∧
    (nx (exec (.registerRead (.cs 0) ⟨.bar0, 0x44, 4, true⟩) State.reset)).out.getLast? = some (.readData (.cs 0) 0 4) := by
  decide +kernel

/-- TIM_INCR (0x600010, 64 bits, 40 of them RW) by halves: lower 5, upper 1. -/
def halfHeld : State := nx (exec (.registerWrite (.mc 0) ⟨.bar0, 0x600010, 4, true⟩ 5) State.reset)
def halfRead : State := nx (exec (.halfReadLatch (.mc 0) 0x600010) State.reset)
theorem test_Halves : State.reset.takes (.mc 0) .TIM_INCR 0 ∧ Reg.TIM_INCR.width = 64 ∧ Reg.TIM_INCR ∉ specialWrites ∧
    locate 0x600010 = some (.TIM_INCR, 0, 0) ∧ locate (0x600010 + 4) = some (.TIM_INCR, 0, 4) ∧
    State.reset.busAddr (.mc 0) 0x600010 = some 0x600010 ∧ halfHeld.takes (.mc 0) .TIM_INCR 0 ∧
    halfHeld.busAddr (.mc 0) (0x600010 + 4) = some (0x600010 + 4) ∧ halfHeld.holdOf (.mc 0) = some ⟨Reg.TIM_INCR.key 0, 5⟩ ∧
    (nx (exec (.registerWrite (.mc 0) ⟨.bar0, 0x600014, 4, true⟩ 1) halfHeld)).reg .TIM_INCR 0 = 0x100000005 ∧
    halfRead.shadowOf (.mc 0) = some ⟨Reg.TIM_INCR.key 0, 0⟩ ∧ halfRead.takes (.mc 0) .TIM_INCR 0 := by
  unfold State.takes; decide +kernel

/-- READY to FORWARD accepted; the same mode, a reserved code and a second request refused (Table 1-6, Table 1-7). -/
def asked : State := nx (exec (.modeRequest (.fn 0) false 0x2104) State.reset)
def withBme : State := { State.reset with pcie := { State.reset.pcie with cfg := [(1, 4)] } }
theorem test_ModeRequest : State.reset.takes (.mc 0) .GLB_MODE_REQ 0 ∧ State.reset.modeAllowed 4 = true ∧
    State.reset.takes (.fn 0) .GLB_MODE_REQ 0 ∧ asked.fld F.GLB_MODE_TARGET 0 = 4 ∧ asked.fld F.GLB_MODE_BUSY 0 = 1 ∧
    asked.curMode = 3 ∧ (nx (exec (.modeRequest (.fn 0) false 0x2207) asked)).fld F.GLB_MODE_STS_REJ_CAUSE 0 = 2 ∧
    (nx (exec (.modeRequest (.fn 0) false 0x2207) asked)).fld F.GLB_MODE_STS_TAG 0 = 0x22 ∧
    (nx (exec (.modeRequest (.mc 0) false 3) State.reset)).fld F.GLB_MODE_STS_REJ_CAUSE 0 = 4 ∧
    (nx (exec (.modeRequest (.mc 0) false 13) State.reset)).fld F.GLB_MODE_STS_REJ_CAUSE 0 = 3 ∧
    (nx (exec (.modeRequest (.mc 0) false 7) State.reset)).fld F.GLB_MODE_STS_REJ_CAUSE 0 = 4 := by
  unfold State.takes; decide +kernel

def askedDone : State := nx (exec (.tickEdge ⟨50, true, [], false, [], [], [], false⟩) asked)
theorem test_Transition : askedDone.mode = some ⟨false, 0x21⟩ ∧ askedDone.transitionDone = true ∧
    askedDone.curMode ≠ 2 ∧ askedDone.curMode ≠ 11 ∧ asked.transitionDone = false ∧
    (nx (exec .transitionComplete askedDone)).curMode = 4 ∧
    (nx (exec .transitionComplete askedDone)).fld F.GLB_MODE_STS_TAG 0 = 0x21 := by decide +kernel

def beaten : State := { withFld F.GLB_HOSTLOSS_HB_LIMIT 0 5 with tick := { State.reset.tick with beat := 5, beatLost := true } }
def lostNow : State := nx (exec .heartbeatExpired beaten)
theorem test_Heartbeat : beaten.takes (.fn 0) .GLB_HEARTBEAT 0 ∧ beaten.tick.beatLost = true ∧ lostNow.fld F.GLB_HOSTLOSS_CAUSE 0 = 3 ∧
    lostNow.takes (.mc 0) .GLB_HOSTLOSS 0 ∧
    (nx (exec (.hostlossLostClear (.mc 0)) lostNow)).reg .GLB_HOSTLOSS 0 = 5 := by unfold State.takes; decide +kernel

theorem test_OffRegisters : octOff.gate (.mc 0) = none ∧ octOff.reach (.mc 0) .MAC_PORT_LINK 0 = .off ∧
    octOff.reach (.mc 0) .MSC_SA_PN 0 = .off ∧ Reg.MSC_SA_PN.width = 64 ∧
    locate 0x2050010 = some (.MSC_SA_PN, 0, 0) ∧ octOff.busAddr (.mc 0) 0x2050010 = some 0x2050010 ∧
    (nx (exec (.registerRead (.mc 0) ⟨.bar0, 0x2050010, 8, true⟩) octOff)).out = [.readData (.mc 0) all64 8] ∧
    (nx (exec (.registerWrite (.mc 0) ⟨.bar0, 0x2010004, 4, true⟩ 3) octOff)).regs = octOff.regs := by decide +kernel

/-- An edge that meets nothing unusual. -/
def calm : EdgeIn := ⟨50, true, [], false, [], [], [], false⟩
def armed : State := nx (exec (.periodArm (.mc 0) 0x6A00) State.reset)
/-- The edge that follows an arming with IMM. -/
def armedEdge : State := nx (exec (.tickEdge calm) armed)
theorem test_TickPeriod : State.reset.takes (.mc 0) .TIK_PERIOD_NEXT 0 ∧
    (nx (exec (.periodArm (.mc 0) 0x2200) State.reset)).fld F.TIK_SYNC_STS_BADPER 0 = 1 ∧
    (nx (exec (.periodArm (.mc 0) 0x2201) armed)).fld F.TIK_PERIOD_NEXT_CLOCKS 0 = 0xA00 ∧
    armedEdge.fld F.TIK_CLK_CLK 0 = 0 ∧ armedEdge.fld F.TIK_PERIOD_NEXT_ARM 0 = 1 ∧
    armedEdge.eff F.TIK_PERIOD_NEXT_ARM 0 = 1 ∧ armedEdge.eff F.TIK_PERIOD_NEXT_IMM 0 = 1 ∧
    armedEdge.tick.len = armedEdge.fld F.TIK_PERIOD_CLOCKS 0 ∧ armed.eff F.TIK_PERIOD_NEXT_ARM 0 = 0 ∧
    (nx (exec .periodChangeApply armedEdge)).tick.len = 0xA00 ∧
    (nx (exec .periodChangeApply armedEdge)).eff F.TIK_PERIOD_NEXT_ARM 0 = 0 ∧ State.reset.fld F.TIK_PERIOD_NEXT_ARM 0 = 0 := by
  unfold State.takes; decide +kernel

/-- TIK_SYNC: ROLE, SLEW 4, LOCK_WIN 3, STEP_LIMIT 50; a pulse 2, 20 and 100 clocks after the follower's edge (Table 2-1). -/
def role (r clk : Nat) : State :=
  (State.reset.setReg .TIK_SYNC 0 (BitVec.ofNat 64 (r + 4 * 16 + 3 * 256 + 50 * 65536))).setFld F.TIK_CLK_CLK 0 clk
def pulsed (clk : Nat) : State := nx (exec (.tickEdge calm) (nx (exec (.tickInPulse false) (role 2 clk))))
theorem test_TickAlignment : (role 3 0).tickRole = 0 ∧ (role 1 0).tickRole = 1 ∧ (role 2 2).tickRole = 2 ∧
    (role 2 2).tickError = -2 ∧ (role 2 20).tickError.natAbs = 20 ∧ (role 2 100).tickError.natAbs = 100 ∧
    (role 2 2).curMode ≠ 0 ∧ 4 ≤ (role 2 2).boot.step ∧ (nx (exec (.tickInPulse false) (role 2 2))).tick.pulse = some (-2) ∧
    (pulsed 2).fld F.TIK_SYNC_STS_LOCKED 0 = 1 ∧ (pulsed 2).tick.adjust = 2 ∧ (pulsed 20).tick.adjust = 4 ∧
    (pulsed 20).fld F.TIK_SYNC_STS_LOCK_LOST 0 = 1 ∧ (pulsed 100).tick.adjust = 100 ∧ (pulsed 1199).tick.adjust = -1 ∧
    ((role 2 2).setReg .TIK_COUNT 0 5).tikCount.toNat % 4096 ≠ 0 ∧
    (nx (exec (.tickInPulse true) ((role 2 2).setReg .TIK_COUNT 0 5))).tick.fixCount = true ∧
    (nx (exec (.tickInPulse false) (role 1 0))).fld F.TIK_SYNC_STS_PEER 0 = 1 ∧
    (nx (exec .tickHoldover (role 2 0))).fld F.TIK_SYNC_STS_HOLDOVER 0 = 1 := by decide +kernel

def lostSplit : State := (withFld F.GLB_HOSTLOSS_LOST 0 1).setReg .GLB_SPLIT 0 0x7
theorem test_TickEdge : State.reset.curMode ≠ 0 ∧ 4 ≤ State.reset.boot.step ∧ State.reset.tick.adjust = 0 ∧
    600 ≤ State.reset.fld F.TIK_PERIOD_CLOCKS 0 ∧ State.reset.tick.remainder = 0 ∧
    (nx (exec (.tickEdge calm) State.reset)).tikCount = 1 ∧
    (nx (exec (.tickEdge calm) lostSplit)).reg .GLB_SPLIT_EFF 0 = 0 ∧
    (nx (exec (.tickEdge calm) (State.reset.setReg .GLB_SPLIT 0 0x7))).reg .GLB_SPLIT_EFF 0 = 7 ∧
    (withFld F.GLB_MODE_CUR 0 0).curMode = 0 := by decide +kernel

/-- The registers of a state brought into force. -/
def forced (s : State) : State := { s with inForce := s.regs }
/-- Port 0 enabled for 10GbE (SPEED 0, WIDTH 0, FEC 0), MAXLEN 1,518, in a link state; the device in FORWARD. -/
def portIn (st : Nat) : State :=
  (forced ((State.reset.setReg .MAC_PORT_CFG 0 (BitVec.ofNat 64 (1 + 1518 * 65536))).setFld F.GLB_MODE_CUR 0 4)).setFld F.MAC_PORT_STS_STATE 0 st

/-- Table 3-1 has 10GbE at one lane; SPEED 5 needs two lanes; a second port may not take port 0's lane (R58, R59). -/
theorem test_PortConfig : State.reset.takes (.mc 0) .MAC_PORT_CFG 0 ∧
    (nx (exec (.portCfgWrite (.mc 0) 0 0x05EE0001) State.reset)).reg .MAC_PORT_CFG 0 = 0x05EE0001 ∧
    (nx (exec (.portCfgWrite (.mc 0) 0 0x05EE0029) State.reset)).fld F.MAC_PORT_STS_CFG_ERR 0 = 1 ∧
    (nx (exec (.portCfgWrite (.mc 0) 128 0x05EE0009) State.reset)).reg .MAC_PORT_CFG 128 = 0x05EE0009 ∧
    (portIn 2).takes (.mc 0) .MAC_PORT_CFG 0 ∧
    (nx (exec (.portCfgWrite (.mc 0) 0 0x05EE0809) (portIn 2))).fld F.MAC_PORT_STS_CFG_ERR 0 = 1 := by
  unfold State.takes; decide +kernel

def faulted : State := (portIn 2).setPort 0 { (portIn 2).port 0 with faultRun := 5 }
def lineUp : State := (portIn 1).setPort 0 { (portIn 1).port 0 with okRun := 5 }
def flushed : State := (portIn 3).setPort 0 { (portIn 3).port 0 with finished := true, okRun := 1, flushing := true }
theorem test_LinkStateMachine : (withFld F.SDS_LANE_CFG_LT_EN 0 1).fld F.SDS_LANE_CFG_LT_EN 0 = 1 ∧
    lineUp.portState 0 = 1 ∧ lineUp.portEn 0 = true ∧ max 1 (lineUp.fld F.MAC_PORT_LINK_UP_DEB 0) ≤ (lineUp.port 0).okRun ∧
    faulted.portState 0 = 2 ∧ faulted.portEn 0 = true ∧
    max 1 (faulted.fld F.MAC_PORT_LINK_DOWN_DEB 0) ≤ (faulted.port 0).faultRun ∧ faulted.split 8 = false ∧
    (nx (exec (.linkFaultDebounced 0) faulted)).portState 0 = 3 ∧
    (nx (exec (.linkFaultDebounced 0) (faulted.setReg .GLB_SPLIT_EFF 0 0x100))).portState 0 = 4 ∧
    (portIn 2).takes (.mc 0) .MAC_PORT_CMD 0 ∧ (nx (exec (.bindoffCmd (.mc 0) 0 1) (portIn 2))).port 0 =
      { (portIn 2).port 0 with bindoff := true } ∧
    (flushed.port 0).flushing = true ∧ flushed.flushEmpty 0 = true ∧ flushed.selectedOf 0 = [] ∧
    flushed.portState 0 = 3 ∧ (flushed.port 0).marked = false ∧ (flushed.port 0).finished = true ∧
    flushed.fld F.MAC_PORT_STS_HOLD_LEFT 0 = 0 ∧ (nx (exec (.holddownExpire 0) flushed)).portState 0 = 2 ∧
    (nx (exec (.linkUp 0) lineUp)).portState 0 = 2 := by unfold State.takes; decide +kernel

/-- A frame of `n` bytes before its FCS, from 02-00-00-00-00-01 to 02-00-00-00-00-02. -/
def body (n : Nat) : Bytes := padTo n [2, 0, 0, 0, 0, 2, 2, 0, 0, 0, 0, 1, 8, 0, 0x45]
def whole (n : Nat) : Bytes := body n ++ fcsOf (body n)
theorem test_FramesReceived : (portIn 2).portTakes 0 = true ∧ (portIn 2).isYarn 0 = false ∧
    (portIn 2).effBit F.MSC_SECY_CFG_EN 0 = false ∧ 4 ≤ (whole 60).length ∧ beAt (body 60) 12 2 ≠ 0x8808 ∧
    fcsOf ((whole 60).take 60) = (whole 60).drop 60 ∧ (portIn 2).counts .MAC_CNT 0 ∧ (portIn 2).counts .MAC_CNT 3 ∧
    (portIn 2).maxLen 0 = 1518 ∧ (portIn 2).domState 0 = 3 ∧ (portIn 2).curMode = 4 ∧
    (portIn 2).stageUsed 0 + stageCells 60 ≤ 2048 ∧
    ((nx (exec (.rxFrame 0 (whole 60) 0 false) (portIn 2))).pipe 0).ready.map (fun q => (q.bytes, q.src)) = [(body 60, 0)] ∧
    (nx (exec (.rxFrame 0 (whole 50) 0 false) (portIn 2))).reg .MAC_CNT 3 = 1 ∧
    (nx (exec (.rxFrame 0 (body 64) 0 false) (portIn 2))).reg .MAC_CNT 2 = 1 ∧
    (nx (exec (.rxFrame 0 (whole 1520) 0 false) (portIn 2))).reg .MAC_CNT 4 = 1 ∧ State.reset.portTakes 0 = false ∧
    ((nx (exec (.pauseTimerExpire 0 3) ((portIn 2).setPort 0 { (portIn 2).port 0 with paused := 0x18 }))).port 0).paused = 0x10 := by
  unfold State.counts; decide +kernel

/-- A copy of 50 bytes for port 0. -/
def oneCopy : Copy := { Copy.own .forward 0 0 (body 50) with done := true, sel := true, md := List.replicate 256 0 }
def sending (c : Copy) : State := { portIn 2 with copies := [(7, some c)], txq := [(0, [7, 8])] }
def xoffed : State := { portIn 2 with
  inForce := (((portIn 2).setFld F.MAC_PORT_CFG_FC 0 2).regs), xoff := [3], ports := [(0, { PortSt.reset with ctrl := [(3, true)] })] }
theorem test_FramesTransmitted : (sending oneCopy).portState 0 = 2 ∧ ((sending oneCopy).port 0).ctrl = [] ∧
    SMap.get (fun _ => []) (sending oneCopy).txq 0 = [7, 8] ∧ (sending oneCopy).copy 7 = some oneCopy ∧ oneCopy.cut = false ∧
    oneCopy.poison = false ∧ oneCopy.bad = false ∧ oneCopy.twoStep = false ∧ beAt oneCopy.md 0x64 1 = 0 ∧
    (sending oneCopy).effBit F.MSC_SECY_CFG_PROTECT 0 = false ∧ (sending oneCopy).counts .MAC_CNT 7 ∧
    (nx (exec (.frameTransmit 0) (sending oneCopy))).out = [.frame 0 (whole 60) false] ∧
    (nx (exec (.frameTransmit 0) (sending { oneCopy with bytes := body 1600 }))).reg .MAC_CNT 11 = 1 ∧
    xoffed.portState 0 = 2 ∧ (xoffed.port 0).ctrl = [(3, true)] ∧ xoffed.xoff.contains 3 = true ∧ xoffed.groupTc 0 3 = 3 ∧
    (nx (exec (.xoffResend 0 3) xoffed)).port 0 = { xoffed.port 0 with ctrl := [(3, true), (3, true)] } := by
  unfold State.counts; decide +kernel

theorem test_ControlFrameLeaves : ((nx (exec (.frameTransmit 0) xoffed)).port 0).ctrl = [] := by decide +kernel

/-- Two cages on the chain; cage 0 with a status, a control word and a dynamic state. -/
def caged (sts ctl : Nat) (c : CageSt) : State :=
  (((State.reset.setFld F.CAGE_CMB_CFG_NCAGE 0 2).setReg .CAGE_STS 0 (BitVec.ofNat 64 sts)).setReg .CAGE_CTL 0 (BitVec.ofNat 64 ctl)).setCage 0 c
def scanned : State :=
  let s := caged 0 0x7C0 { CageSt.reset with shifted := 0xD }
  { s with cmb := { s.cmb with due := true } }
def withLeft : State := { scanned with cmb := { scanned.cmb with left := 5 } }
def seen : State := caged 0 0x7C0 { CageSt.reset with presRun := 15, raw := 0xA }
def pressed : State := caged 0x100 0 { CageSt.reset with btnRun := 15 }
def starved : State := caged 0 0 { CageSt.reset with badRun := 15 }
def waitOver (on : Bool) : State := caged 0x800 0 { CageSt.reset with wasOn := on }
def boundOff (h : Option Nat × Option Nat) : State := caged 0x1000 0 { CageSt.reset with held := h }
theorem test_Cages : (State.reset.setFld F.CAGE_CMB_CFG_NCAGE 0 0).nCage = 0 ∧ scanned.nCage ≠ 0 ∧ scanned.cmb.left = 0 ∧
    scanned.cmb.due = true ∧ scanned.atEdge = true ∧ scanned.tikCount.toNat % max 1 (scanned.fld F.CAGE_CMB_CFG_SCAN 0) = 0 ∧
    (withLeft.edgeScan).fld F.CAGE_CMB_STS_OVERRUN 0 = 1 ∧ withLeft.cmb.left ≠ 0 ∧ withLeft.nCage ≠ 0 ∧
    (nx (exec (.cmbScanFrame [0xF, 0xE]) scanned)).out = [.cmb [0xD, 2]] ∧
    ((nx (exec (.cmbScanFrame [0xF, 0xE]) scanned)).cage 1).raw = 0xE ∧
    seen.cageDeb ≤ (seen.cage 0).presRun ∧ (seen.cage 0).noAuto = false ∧
    (nx (exec (.cageInputAccepted 0 .presence) seen)).reg .CAGE_CTL 0 = 0x640 ∧
    (nx (exec (.cageInputAccepted 0 .presence) seen)).reg .CAGE_STS 0 = 0x104 ∧
    pressed.cageDeb ≤ (pressed.cage 0).btnRun ∧ (pressed.cage 0).btn = true ∧ pressed.split 7 = false ∧
    pressed.fld F.CAGE_STS_SEQ 0 = 0 ∧ pressed.fld F.CAGE_STS_PDS 0 = 1 ∧
    ((nx (exec (.cageInputAccepted 0 .button) pressed)).cage 0).waitLeft = 5000000 ∧
    starved.cageDeb ≤ (starved.cage 0).badRun ∧
    (nx (exec (.cageInputAccepted 0 .powerGood) starved)).fld F.CAGE_CTL_PWR_CTL 0 = 1 := by decide +kernel

theorem test_CageSequence : State.reset.takes (.mc 0) .CAGE_CTL 0 ∧ (waitOver true).takes (.mc 0) .CAGE_CTL 0 ∧
    (nx (exec (.cageCtlWrite (.mc 0) 0 0x100) (waitOver true))).fld F.CAGE_STS_BTN_CANCEL 0 = 1 ∧
    ((nx (exec (.cageCtlWrite (.mc 0) 0 0x100) (boundOff (none, none)))).cage 0).held = (some 1, some 0) ∧
    (waitOver true).fld F.CAGE_STS_SEQ 0 = 1 ∧ ((waitOver true).cage 0).waitLeft = 0 ∧
    (nx (exec (.btnWaitExpire 0) (waitOver true))).fld F.CAGE_STS_SEQ 0 = 2 ∧
    (nx (exec (.btnWaitExpire 0) (waitOver false))).fld F.CAGE_CTL_PIND_CTL 0 = 1 ∧
    (boundOff (none, none)).fld F.CAGE_STS_SEQ 0 = 2 ∧ (((boundOff (none, none)).cage 0).flushing ++ (boundOff (none, none)).cagePorts 0).all (boundOff (none, none)).bindoffOver = true ∧
    (nx (exec (.cageBindoffDone 0) (boundOff (none, none)))).reg .CAGE_CTL 0 = 0x3C0 ∧
    (nx (exec (.cageBindoffDone 0) (boundOff (some 0, some 1)))).reg .CAGE_CTL 0 = 0x40 := by decide +kernel

/-- Master 1 reads 2 bytes at offset 0x10 of device 0x50. -/
def i2cCmd : BitVec 32 := BitVec.ofNat 32 (2 ^ 31 + 2 ^ 25 + 2 * 2 ^ 17 + 0x10 * 2 ^ 9 + 0x50 * 4)
def busyI2c : State := nx (exec (.i2cGo (.mc 0) 1 i2cCmd) State.reset)
theorem test_I2c : State.reset.takes (.mc 0) .CAGE_I2C_CTL 1 ∧ i2cCmd.getLsbD 31 = true ∧
    busyI2c.out = [.i2c 1 0x50 0x10 true 2 []] ∧ busyI2c.fld F.CAGE_I2C_STS_BUSY 1 = 1 ∧ busyI2c.i2cRun 1 = (true, 2) ∧ busyI2c.takes (.mc 0) .CAGE_I2C_CTL 1 ∧
    (nx (exec (.i2cDone 1 false [0xAB, 0xCD]) busyI2c)).reg .CAGE_I2C_DATA 32 = 0xCDAB ∧
    (nx (exec (.i2cDone 1 true []) busyI2c)).reg .CAGE_I2C_STS 1 = 6 ∧
    (nx (exec (.i2cTimeout 1) busyI2c)).reg .CAGE_I2C_STS 1 = 0xA ∧
    (nx (exec (.i2cGo (.mc 0) 1 0x80000000) State.reset)).fld F.CAGE_I2C_STS_DONE 1 = 1 := by decide +kernel

theorem test_TimeAndSyncE : State.reset.takes (.mc 0) .TIM_ADJ 0 ∧ State.reset.takes (.mc 0) .TIM_SET_SEC 0 ∧
    (nx (exec (.todStep (.mc 0) 0x100000005) State.reset)).tim.stepGo = true ∧
    (nx (exec (.todSet (.mc 0) 7) State.reset)).reg .TIM_SET_SEC 0 = 7 ∧
    (nx (exec (.synceLos 1) State.reset)).fld F.TIM_SYNCE_STS_LOS1 0 = 1 ∧
    (nx (exec (.cdrLockRegained 1) (nx (exec (.synceLos 1) State.reset)))).fld F.TIM_SYNCE_STS_LOS1_ST 0 =
      (nx (exec (.synceLos 1) State.reset)).fld F.TIM_SYNCE_STS_LOS1_ST 0 := by decide +kernel

/-- Front port 0's frame is ready; the Skein has read copy 7 for egress. -/
def pktIn : Pkt := ⟨3, 0, 0, body 60, 0, 0, 0, false, 3, 0, 0, 3⟩
def arrived : State := (forced State.reset).setPipe 0 { PipeSt.idle with ready := [pktIn] }
def readOut : State := 
  ({ arrived with copies := [(7, some { oneCopy with egBudget := 320 })] } : State).setPipe 0 { PipeSt.idle with egress := [7] }
def replyOut : State := { readOut with copies := [(7, some { oneCopy with kind := .reply })] }
def dispatched : State := nx (exec (.ingressDispatch 0) arrived)
theorem test_Dispatch : arrived.domOn 0 = true ∧ arrived.fld F.PWR_CAP_STS_LEVEL 0 = 0 ∧ (arrived.pipe 0).ready = [pktIn] ∧
    arrived.effBit F.MAC_PORT_CFG_YARN 0 = false ∧ arrived.effBit F.GGE_SMP_CFG_IG_EN 0 = false ∧
    (arrived.pipe 0).igPtr ≤ 1 ∧ arrived.pickEngine 0 0 [] = some 0 ∧ (arrived.freeNeedles 0).head? = some 0 ∧
    arrived.counts .STE_CNT 0 ∧ (dispatched.needle 0).map (fun nd => (nd.pc, nd.clk, nd.vlen, nd.job)) = some (0, 4, 60, 3) ∧
    dispatched.fld F.STE_ENG_STS_FREE 0 = 95 ∧ (dispatched.pipe 0).igPtr = 1 ∧ dispatched.reg .STE_CNT 0 = 1 ∧
    (readOut.pipe 0).egress = [7] ∧ (readOut.copy 7).isSome = true ∧ readOut.effBit F.GGE_SMP_CFG_EG_EN 0 = false ∧
    (readOut.pipe 0).egPtr ≤ 1 ∧ readOut.pickEngine 0 1 [] = some 2 ∧ (readOut.freeNeedles 2).head? = some 0 ∧
    readOut.counts .STE_CNT 8 ∧ oneCopy.plain = false ∧ ({ oneCopy with kind := .reply } : Copy).plain = true ∧
    ((nx (exec (.egressDispatch 0) replyOut)).pipe 0).eg.map (fun j => (j.id, j.ended)) = [(7, true)] ∧
    ((nx (exec (.egressDispatch 0) readOut)).needle 192).map (fun nd => (nd.vlen, nd.budget)) = some (50, 320) := by
  unfold State.counts; decide +kernel

/-- The frame's program after its budget; its job ended by END; an egress job ended. -/
def atBudget : State := { dispatched with needles := dispatched.needles.map (fun e => (e.1, e.2.map (fun nd => { nd with clk := nd.budget }))) }
def jobOf (src : Nat) (ended : Bool) (r : Nat) : Job := ⟨7, src, pktIn, some 7, 0, 4, 0, ended, r, List.replicate 128 0, body 20, false, [], []⟩
def inReorder (ended : Bool) : State := State.reset.setPipe 0 { PipeSt.idle with ig := [jobOf 0 ended 0, jobOf 1 true 0] }
def leaving (ended : Bool) (r : Nat) : State := 
  ({ State.reset with copies := [(7, some oneCopy)] } : State).setPipe 0 { PipeSt.idle with eg := [jobOf 0 ended r] }
theorem test_AbortAndReorder : (atBudget.needle 0).map (fun nd => decide (nd.budget ≤ nd.clk)) = some true ∧
    atBudget.counts .STE_CNT 2 ∧ (nx (exec (.budgetAbort 0 0) atBudget)).needle 0 = none ∧
    (nx (exec (.budgetAbort 0 0) atBudget)).reg .STE_CNT 2 = 1 ∧
    ((nx (exec (.budgetAbort 0 0) atBudget)).pipe 0).ig.map (fun j => (j.ended, j.reason)) = [(true, 1)] ∧
    (dispatched.needle 0).map (fun nd => (decide (nd.clk < nd.budget), nd.stalled)) = some (true, false) ∧
    ((nx (exec (.budgetAbort 0 0) dispatched)).needle 0).isSome = true ∧ atBudget.counts .ACT_CNT 24 ∧
    ((inReorder true).pipe 0).ig.find? (fun j => j.src == 0) = some (jobOf 0 true 0) ∧
    (inReorder true).aclOut (jobOf 0 true 0) = [] ∧ ((inReorder false).pipe 0).ig.find? (fun j => j.src == 0) = some (jobOf 0 false 0) ∧
    ((nx (exec (.reorderRelease 0 false 0 false) (inReorder true))).pipe 0).merge = [.job (jobOf 0 true 0)] ∧
    ((leaving true 0).pipe 0).eg.find? (fun j => j.src == 0) = some (jobOf 0 true 0) ∧ (leaving true 0).copy 7 = some oneCopy ∧
    ((leaving false 0).pipe 0).eg.find? (fun j => j.src == 0) = some (jobOf 0 false 0) ∧ beAt (jobOf 0 true 0).md 0x14 1 = 0 ∧
    (nx (exec (.reorderRelease 0 true 0 false) (leaving true 0))).txq = [(0, [7])] ∧
    (leaving true 1).bit F.STE_DISP_CFG_EG_ABORT_PASS 0 = false ∧
    (nx (exec (.reorderRelease 0 true 0 false) (leaving true 1))).copies = [] := by unfold State.counts; decide +kernel

/-- Set 1's image may be written at reset, set 0's not; a switch to set 1 with IMM. -/
def armedE : State := nx (exec (.imageArm (.mc 0) 0 0x10006) State.reset)
def paged : State := State.reset.setReg .STE_PAGES 0 1
def switchNow : State := nx (exec (.imageSwitch 0 false) (armedE.setReg .TIK_COUNT 0 1))
theorem test_ProgramImages : State.reset.takes (.mc 0) .STE_ENTRY 0 ∧ State.reset.takes (.mc 0) .STE_STORE 5 ∧
    (nx (exec (.programStoreWrite (.mc 0) 0 false (.entry 0 2) 9) State.reset)).fld F.STE_IMG_STS_WR_REFUSED 0 = 1 ∧
    (nx (exec (.programStoreWrite (.mc 0) 0 false (.word 5) 9) paged)).fld F.STE_IMG_STS_REF_INDEX 0 = 5 ∧
    (nx (exec (.programStoreWrite (.mc 0) 0 false (.word 5) 9) State.reset)).reg .STE_STORE 5 = 9 ∧
    (nx (exec (.programStoreWrite (.mc 0) 0 false (.entry 1 2) 9) State.reset)).reg .STE_ENTRY 18 = 9 ∧
    State.reset.takes (.mc 0) .STE_IMG 0 ∧ (State.reset.pipe 0).arms.length = 2 ∧ State.reset.arm 0 0 = none ∧
    armedE.arm 0 0 = some (1, true, 0) ∧ (nx (exec (.imageArm (.mc 0) 0 0) armedE)).arm 0 0 = none ∧
    (nx (exec (.imageArm (.mc 0) 0 4) State.reset)).fld F.STE_IMG_STS_ARM_REFUSED 0 = 1 ∧ (armedE.pipe 0).arms.length = 2 ∧
    (nx (exec (.imageSwitch 0 false) armedE)).activeSet 0 0 = 0 ∧ switchNow.activeSet 0 0 = 1 ∧ switchNow.fld F.STE_IMG_STS_IG_SWITCHED 0 = 1 ∧ switchNow.fld F.STE_IMG_STS_IG_OLD_BUSY 0 = 0 ∧
    State.reset.setRunning 0 0 1 = false ∧ (dispatched.setFld F.STE_IMG_IG_ACTIVE 0 1).setRunning 0 0 0 = true := by
  unfold State.takes; decide +kernel

/-- Needle 0 of engine `e` holds `nd`, whose instruction at PC 5 is `w`; one job works on packet 3. -/
def nd0 : Needle :=
  { Needle.start 3 0 5 (body 60) 60 (mdStart 7 0 60 60 0 0 9 8) 160 false 0 0 with regs := [0, 0xFFFFFFF0, 0x20, 0x80000001] ++ List.replicate 12 5 }
def running (e : Nat) (nd : Needle) (w : BitVec 64) : State :=
  let n := e / 4
  let d := e % 4 / 2
  let j : Job := ⟨3, 0, pktIn, none, 0, 4, 0, false, 0, [], [], false, [⟨1, 2, 3⟩], []⟩
  let s := ((State.reset.setReg .STE_PAGES ((n * 2 + d) * 2) 1).setReg .STE_STORE ((n * 2 + d) * 8192 + 5) w).setNeedle (e * 96) (some nd)
  s.setPipe n { PipeSt.idle with ig := [j] }
def ran (c : Instr) (e : Nat) (nd : Needle) (w : BitVec 64) : Option Needle := (nx (exec c (running e nd w))).needle (e * 96)
def outcome (c : Instr) (e : Nat) (w : BitVec 64) : Option (Word × Bool × Bool × Bool × Nat) :=
  (ran c e nd0 w).map (fun x => (x.regs.getD 2 0, x.z, x.n, x.c, x.clk))
/-- The reason with which the program ended. -/
def ended (c : Instr) (e : Nat) (nd : Needle) (w : BitVec 64) : Option Nat :=
  if (ran c e nd w).isSome then none else (((nx (exec c (running e nd w))).pipe (e / 4)).ig.map (·.reason)).head?

/-- G1 = 0xFFFFFFF0, G2 = 0x20, G3 = 0x80000001; results by Table 5-5 and R126. -/
theorem test_NeedleArithmetic : (running 0 nd0 0x0321200000000000).needle 0 = some nd0 ∧
    nd0.clk < nd0.budget ∧
    nd0.sample = false ∧
    (running 0 nd0 0x0321200000000000).fetch 0 nd0 = some 0x0321200000000000 ∧
    0x0321200000000000 &&& ~~~ (mRD ||| mRA ||| mRB) = BitVec.ofNat 64 (3 * 2 ^ 56) ∧
    [outcome (.nop 0 0) 0 0,
      outcome (.movi 0 0) 0 0x0120000012345678,
      outcome (.mov 0 0) 0 0x0221000000000000,
      outcome (.add 0 0) 0 0x0321200000000000,
      outcome (.addi 0 0) 0 0x0421000000000010,
      outcome (.sub 0 0) 0 0x0522100000000000,
      outcome (.subi 0 0) 0 0x0621000000000010,
      outcome (.cmp 0 0) 0 0x1101100000000000,
      outcome (.cmpi 0 0) 0 0x12020000FFFFFFFF,
      outcome (.tsti 0 0) 0 0x130100000000000F] =
      [some (0x20, false, false, false, 5), some (0x12345678, false, false, false, 5), some (0xFFFFFFF0, false, false, false, 5), some (0x10, false, false, true, 5), some (0, true, false, true, 5), some (0x30, false, false, true, 5), some (0xFFFFFFE0, false, true, false, 5), some (0x20, true, false, false, 5), some (0x20, false, false, true, 5), some (0x20, true, false, false, 5)] := by
  unfold mRD mRA mRB; decide +kernel

theorem test_NeedleBitwise : [outcome (.and 0 0) 0 0x0721300000000000,
      outcome (.andi 0 0) 0 0x082100000000000F,
      outcome (.or 0 0) 0 0x0921300000000000,
      outcome (.ori 0 0) 0 0x0A22000000000001,
      outcome (.xor 0 0) 0 0x0B21300000000000,
      outcome (.xori 0 0) 0 0x0C22000000000020,
      outcome (.shl 0 0) 0 0x0D2300000000001F,
      outcome (.shr 0 0) 0 0x0E2300000000001F,
      outcome (.ext 0 0) 0 0x0F2100000000071C,
      outcome (.dep 0 0) 0 0x102100000000071C,
      outcome (.dep 0 0) 0 0x1021000000000708] =
      [some (0x80000000, false, true, false, 5), some (0, true, false, false, 5), some (0xFFFFFFF1, false, true, false, 5), some (0x21, false, false, false, 5), some (0x7FFFFFF1, false, false, false, 5), some (0, true, false, false, 5), some (0x80000000, false, true, false, 5), some (1, false, false, false, 5), some (0xF, false, false, false, 5), some (0x20, false, false, false, 5), some (0xF020, false, false, false, 5)] := by decide +kernel

/-- The manual's word for `ldh.h g2, [14]`; the CRC-32C of "123456789" (0xE3069283 with the final inversion). -/
def keyed : Needle := { nd0 with key := padTo 80 [0x31, 0x32, 0x33, 0x34, 0x35, 0x36, 0x37, 0x38, 0x39] }
theorem test_NeedleLoads : (running 0 nd0 0x202001000000000E).fetch 0 nd0 = some 0x202001000000000E ∧
    (ran (.stm 0 0) 0 nd0 0x2203020000000030).map (fun x => sliceZ x.md 0x30 4) = some [0x80, 0, 0, 1] ∧
    (ran (.kput 0 0) 0 nd0 0x230301000000004E).map (fun x => sliceZ x.key 78 2) = some [0, 1] ∧
    (ran (.kcpy 0 0) 0 nd0 0x240000060003000C).map (fun x => (sliceZ x.key 3 4, x.clk)) = some ([8, 0, 0x45, 0], 6) ∧
    (ran (.kclr 0 0) 0 keyed 0x2500000200000001).map (fun x => sliceZ x.key 0 4) = some [0x31, 0, 0, 0x34] ∧
    [outcome (.ldh 0 0) 0 0x202001000000000E,
      outcome (.ldm 0 0) 0 0x2120010000000002] =
      [some (0x4500, false, false, false, 5), some (60, false, false, false, 5)] ∧
    [ended (.ldh 0 0) 0 nd0 0x202001000000003B,
      ended (.ldh 0 0) 0 nd0 0x202003000000000E,
      ended (.ldh 0 0) 0 nd0 0x2021080000000020,
      ended (.ldm 0 0) 0 nd0 0x212001000000007F,
      ended (.stm 0 0) 0 nd0 0x2203020000000023,
      ended (.kput 0 0) 0 nd0 0x230301000000004F,
      ended (.kcpy 0 0) 0 nd0 0x240000060000003C,
      ended (.kcpy 0 0) 0 nd0 0x2400002100000000,
      ended (.kclr 0 0) 0 nd0 0x2500000200000050] =
      [some 2, some 3, some 2, some 3, some 3, some 3, some 2, some 3, some 3] := by decide +kernel

theorem test_NeedleHashAndStore :
    (ran (.hash 0 0) 0 { keyed with regs := [0xFFFFFFFF] ++ List.replicate 15 0 } 0x1420000900000000).map (fun x => (x.regs.getD 2 0, x.clk)) =
      some (0x1CF96D7C, 6) ∧ ended (.hash 0 0) 0 keyed 0x1420000900000048 = some 3 ∧
    (ran (.sth 2 0) 2 nd0 0x6003010000000000).map (fun x => sliceZ x.win 0 3) = some [0, 1, 0] ∧
    ended (.sth 2 0) 2 nd0 0x600302000000003A = some 2 ∧
    ended (.sth 0 0) 0 nd0 0x6003010000000000 = some 3 := by decide +kernel

/-- A slot answered FB_HIT with words 7 and 8; one whose lookup is outstanding. -/
def answered : Needle := { nd0 with slots := [⟨4, [7, 8], false, none, 10⟩, ⟨0, [], false, some 9, 0⟩, Slot.empty, Slot.empty] }
def bd9 : State := { running 0 nd0 0x3004000400000000 with tabs := State.reset.tabs.setDirect 4 5 ⟨true, 0x1234⟩ }
def pendingAnswer : State := (running 0 answered 0).setLookup 9 (some { Lookup.new 0 nd0 1 4 (.direct 4 5) with answer := some ⟨1, [0x1234]⟩ })
theorem test_NeedleLookups : nd0.slots.length = 4 ∧ (nd0.slot 0).asked = none ∧ (nd0.slot 0).arr = 0 ∧
    ((nx (exec (.lkd 0 0) bd9)).lookup 0).map (fun l => (l.answer, l.issued)) = some (some ⟨1, [0x1234, 0]⟩, 4) ∧
    ((nx (exec (.lkd 0 0) bd9)).needle 0).map (fun x => ((x.slot 0).asked, x.clk)) = some (some 0, 5) ∧
    (ran (.lkd 0 0) 0 answered 0x3014000400000000).map (fun x => (x.stalled, x.pc)) = some (true, 5) ∧
    ended (.lkd 0 0) 0 nd0 0x3004000900000000 = some 3 ∧
    ((nx (exec (.lkh 0 0) (running 0 nd0 0x3100001100000000))).lookup 0).map (·.answer) = some (some ⟨2, []⟩) ∧
    ended (.lkh 0 0) 0 nd0 0x3100001100000007 = some 3 ∧ (running 0 nd0 0).redirected 0 nd0 0 = false ∧
    ((nx (exec (.lkt 0 0) (running 0 nd0 0x3200000000000000))).lookup 0).map (fun l => (l.prof, l.raw)) = some (0, List.replicate 10 0) ∧
    ended (.lkt 0 0) 0 nd0 0x3240000000000000 = some 3 := by decide +kernel

theorem test_NeedleWaits :
    (ran (.wait 0 0) 0 answered 0x3300000000000000).map (fun x => (x.z, x.n, x.c, x.clk, x.stall)) = some (false, false, true, 11, 6) ∧
    (ran (.wait 0 0) 0 answered 0x3302000000000000).map (fun x => (x.z, x.clk)) = some (true, 5) ∧
    (ran (.wait 0 0) 0 answered 0x3301000000000000).map (fun x => (x.stalled, x.clk)) = some (true, 4) ∧
    (ran (.ldr 0 0) 0 answered 0x3420000000000001).map (fun x => (x.regs.getD 2 0, x.clk)) = some (8, 11) ∧
    (ran (.ldr 0 0) 0 answered 0x3421000000000001).map (fun x => x.stalled) = some true ∧
    (ran (.ldr 0 0) 0 answered 0x3422000000000000).map (fun x => x.regs.getD 2 9) = some 0 ∧
    (pendingAnswer.lookup 9).map (fun l => (l.needle, l.slot, l.raw)) = some (0, 1, []) ∧
    (nx (exec (.lookupAnswer 9 false 12) pendingAnswer)).lookup 9 = none ∧
    ((nx (exec (.lookupAnswer 9 false 12) pendingAnswer)).needle 0).map (fun x => x.slot 1) = some ⟨1, [0x1234], false, none, 16⟩ := by
  decide +kernel

theorem test_NeedleDecisions :
    (ran (.fwd 0 0) 0 nd0 0x4000080000200007).map (fun x => sliceZ x.md 0x10 4) = some [0, 0x20, 0, 7] ∧
    ended (.fwd 0 0) 0 nd0 0x4000080000700007 = some 3 ∧ ended (.fwd 0 0) 0 nd0 0x4000080001200007 = some 3 ∧
    (ran (.drop 2 0) 2 nd0 0x4100000900000000).map (fun x => beAt x.md 0x14 1) = some 9 ∧ ended (.drop 0 0) 0 nd0 0x4100000000000000 = some 3 ∧

    (ran (.tohost 0 0) 0 nd0 0x4200004100000000).map (fun x => beAt x.md 0x15 1) = some 0x41 ∧
    (ran (.police 0 0) 0 nd0 0x4402000000000000).map (fun x => beAt x.md 0x1C 4) = some 0x80000020 ∧
    (ran (.settc 0 0) 0 nd0 0x4500080000000006).map (fun x => beAt x.md 0x0F 1) = some 6 ∧
    (ran (.resp 0 0) 0 nd0 0x4700000500000000).map (fun x => beAt x.md 0x16 1) = some 5 ∧ ended (.resp 0 0) 0 nd0 0x4700000600000000 = some 3 ∧
    State.reset.domOn (50 + directDie tidStats 0x20) = true ∧
    (nx (exec (.count 0 0) (running 0 nd0 0x4602000000000000))).statPair 0x20 = (1, 60) ∧
    (nx (exec (.count 0 0) (running 0 nd0 0x4602380000000000))).statPair 0x20 = (1, 0x80000001) := by decide +kernel

theorem test_NeedleLearns : (State.reset.learning 0).depth < 4096 ∧ (State.reset.learning 1).recent = [] ∧
    State.reset.domOn 50 = true ∧ State.reset.domOn 51 = true ∧
    ((nx (exec (.learn 0 0) (running 0 keyed 0x4802000000000000))).learning 1).queue.map (fun q => (q.table, q.src, q.data, q.key.take 2)) =
      [(0, 7, 0x20, [0x31, 0x32])] ∧ ended (.slearn 0 0) 0 nd0 0x4902000000000007 = some 3 ∧
    ((nx (exec (.slearn 0 0) (running 0 keyed 0x4902000000000000))).learning 0).queue.map (fun q => (q.table, q.key.length)) = [(1, 20)] ∧
    ((nx (exec (.slearn 0 0) (running 0 keyed 0x4902000000000000))).learning 1).queue = [] := by decide +kernel

def mirrored (m : Bytes) : Needle := nd0.putMd 0x18 m
theorem test_Mirror : (mirrored [0x85, 0, 0, 0]).md.length = 128 ∧
    (ran (.mirror 0 0) 0 (mirrored [0x85, 0, 0, 0]) 0x4300080000000009).map (fun x => (sliceZ x.md 0x18 4, x.c)) = some ([0x85, 0x89, 0, 0], false) ∧
    (ran (.mirror 0 0) 0 (mirrored [0x85, 0, 0, 0]) 0x4300080000000005).map (fun x => (sliceZ x.md 0x18 4, x.c)) = some ([0x85, 0, 0, 0], false) ∧
    (ran (.mirror 0 0) 0 (mirrored [0x81, 0x82, 0x83, 0x84]) 0x4300080000000004).map (fun x => (sliceZ x.md 0x18 4, x.c)) =
      some ([0x81, 0x82, 0x83, 0x84], true) := by decide +kernel

theorem test_NeedleControl : (ran (.jmp 0 0) 0 nd0 0x5000000000000009).map (fun x => (x.pc, x.clk)) = some (9, 6) ∧
    (ran (.bCc 0 0) 0 nd0 0x5100010000000009).map (fun x => (x.pc, x.clk)) = some (6, 5) ∧
    (ran (.bCc 0 0) 0 nd0 0x5100060000000009).map (fun x => (x.pc, x.clk)) = some (9, 6) ∧ ended (.bCc 0 0) 0 nd0 0x5100090000000009 = some 3 ∧
    (ran (.call 0 0) 0 nd0 0x5220000000000009).map (fun x => (x.pc, x.regs.getD 2 0)) = some (9, 6) ∧
    (ran (.ret 0 0) 0 nd0 0x5302000000000000).map (fun x => x.pc) = some 0x20 ∧
    ended (.outer 0 0) 0 nd0 0x5E00000400000000 = some 4 ∧ ended (.outer 0 0) 0 nd0 0x5E00000600000000 = some 3 ∧
    ended (.endProg 0 0) 0 nd0 0x5F00000000000000 = some 0 ∧
    ((nx (exec (.endProg 0 0) (running 0 nd0 0x5F00000000000000))).pipe 0).ig.map (fun j => (j.ended, j.head, j.acls.length)) =
      [(true, body 60, 1)] := by decide +kernel

/-- The manual's worked header: a checksum over 20 bytes; a TUNNEL entry of 4 bytes, 01 02 03 04. -/
def ipHead : Bytes := [0x45, 0, 0, 0x3C, 0x1C, 0x46, 0x40, 0, 0x40, 6, 0xB1, 0xE6, 0xAC, 0x10, 0x0A, 0x63, 0xAC, 0x10, 0x0A, 0x0C]
def headed : Needle := { nd0 with win := overwrite (body 256) 14 (overwrite ipHead 10 [9, 9]) }
def tunnelled : Needle := { keyed with slots := [⟨1, [0x01020304] ++ List.replicate 14 0 ++ [4], true, none, 0⟩] ++ List.replicate 3 Slot.empty }
theorem test_NeedleEdits : nd0.win.length = 256 ∧ nd0.vlen ≤ 256 ∧ tunnelBytes ([0x01020304] ++ List.replicate 14 0 ++ [4]) = [1, 2, 3, 4] ∧
    (ran (.eins 2 0) 2 keyed 0x610000020001000E).map (fun x => (sliceZ x.win 12 6, x.vlen, beAt x.md 4 2, x.clk)) =
      some ([8, 0, 0x32, 0x33, 0x45, 0], 62, 62, 6) ∧
    (ran (.eins 2 0) 2 keyed 0x610000020001003D).isNone = true ∧ ended (.eins 0 0) 0 keyed 0x610000020001000E = some 3 ∧
    (ran (.edel 2 0) 2 nd0 0x620000040000000C).map (fun x => (sliceZ x.win 10 4, x.vlen)) = some ([0, 1, 0, 0], 56) ∧
    (ran (.edel 2 0) 2 nd0 0x6200002F00000000).isNone = true ∧ (ran (.edel 2 0) 2 nd0 0x620000000000000C).isNone = true ∧
    (ran (.etpl 2 0) 2 tunnelled 0x630000000000000E).map (fun x => (sliceZ x.win 13 6, x.vlen, x.z)) = some ([0, 1, 2, 3, 4, 0x45], 64, false) ∧
    (ran (.etpl 2 0) 2 tunnelled 0x630100000000000E).map (fun x => (x.vlen, x.z)) = some (60, true) ∧
    (ran (.csum4 2 0) 2 headed 0x640000000000000E).map (fun x => (sliceZ x.win 24 2, x.z)) = some ([0xB1, 0xE6], false) ∧
    (ran (.csum4 2 0) 2 headed 0x640000000000000F).map (fun x => x.z) = some true ∧
    (ran (.csum4 2 0) 2 headed 0x640000000000003C).isNone = true ∧
    (ran (.tsmark 2 0) 2 nd0 0x6522300200000000).isNone = true ∧
    (ran (.tsmark 2 0) 2 nd0 0x6502300200000000).map (fun x => sliceZ x.md 0x60 5) = some [0, 0x20, 0, 1, 2] ∧
    (ran (.tstag 2 0) 2 nd0 0x6602000000000000).map (fun x => (beAt x.md 0x66 2, x.twoStep)) = some (0x20, true) := by decide +kernel

theorem test_FetchOutside : (running 0 { nd0 with pc := 8192 } 0).needle 0 = some { nd0 with pc := 8192 } ∧
    ended (.nop 0 0) 0 { nd0 with pc := 8192 } 0 = some 3 ∧ ((running 0 nd0 0).fld F.STE_PAGES_PAGES 0).testBit 1 = false ∧
    ended (.add 0 0) 0 { nd0 with pc := 1024 } 0 = some 3 ∧ getField 0x1500000000000000 56 8 ∉ opcodes ∧
    ended (.endProg 0 0) 0 nd0 0x1500000000000000 = some 3 := by decide +kernel

/-- A BRIDGE event of port 7 with data 0x100005; a session event of port 70; die 0 with a queue. -/
def macKey : Bytes := [2, 0, 0, 0, 0, 1, 0, 5, 0, 0]
def ev0 (host : Bool) : LEvent := ⟨0, macKey, 7, 0x100005, 0, host⟩
def ev1 : LEvent := ⟨1, padTo 20 macKey, 7, 0x77, 0, false⟩
def queued (d : Nat) (e : LEvent) : State := State.reset.setLearning d { State.reset.learning d with queue := [e] }
def planned (e : LEvent) : State := nx (exec (.learnPlan 0) (queued 0 e))
def firstSlot (tb : Nat) (k : Bytes) : Option Nat :=
  (State.reset.tabs.candidates 0 tb k).find? (fun l => (State.reset.tabs.slotAt 0 tb l).isNone)
def applied (e : LEvent) : State := nx (exec .hwWritesApply (planned e))
def held (static : Bool) : State :=
  { queued 0 (ev0 false) with tabs := State.reset.tabs.setSlot 0 0 ((firstSlot 0 macKey).getD 0) (some ⟨macKey, [1], if static then 0x100 else 0, 0⟩) }
theorem test_Learning : (queued 0 (ev0 true)).counts .LKP_CNT 15 ∧ portDie 7 = 0 ∧ (queued 0 (ev0 true)).domOn (hashDomain 0 0) = true ∧
    (nx (exec (.learnPlan 0) (queued 0 (ev0 true)))).reg .LKP_CNT 15 = 1 ∧ (nx (exec (.learnPlan 1) (queued 1 (ev0 true)))).reg .LKP_CNT 31 = 0 ∧
    State.reset.tabs.findKey 0 0 macKey = none ∧ (firstSlot 0 macKey).isSome = true ∧
    ((planned (ev0 false)).learning 0).plans.map (fun p => (p.path.length, p.new.hw, p.new.words, p.update)) = [(1, 0x807, [0x100005], false)] ∧
    ((held true).tabs.findKey 0 0 macKey).isSome = true ∧ (nx (exec (.learnPlan 0) (held true))).reg .LKP_CNT 5 = 1 ∧
    ((nx (exec (.learnPlan 0) (held false))).learning 0).plans.map (·.update) = [true] := by unfold State.counts; decide +kernel

def retrying : State := State.reset.setLearning 0 { State.reset.learning 0 with due := true, retry := [ev0 false] }
def noRoom : State := (planned (ev0 false)).setFld F.LKP_HW_CFG_MAX_WR 0 0
theorem test_HardwareWrites : ((nx (exec (.retryReplan 0) retrying)).learning 0).plans.map (·.retry) = [true] ∧
    (planned (ev0 false)).planStands 0 (((planned (ev0 false)).learning 0).plans.headD ⟨ev1, [], ⟨[], [], 0, 0⟩, true, false, [], []⟩) = true ∧
    (planned (ev0 false)).tick.hwDone = false ∧ ((nx (exec (.retryReplan 0) retrying)).learning 0).retry = [ev0 false] ∧
    (nx (exec .hwWritesApply (applied (ev0 false)))).tabs = (applied (ev0 false)).tabs ∧ 0 < (planned (ev0 false)).hwRoom 0 ∧ noRoom.hwRoom 0 = 0 ∧ ((nx (exec .hwWritesApply noRoom)).learning 0).plans.length = 1 ∧
    (applied (ev0 false)).tabs.hash.length = 1 ∧ (applied (ev0 false)).reg .LKP_CNT 3 = 1 ∧
    ((applied (ev0 false)).tabs.findKey 0 0 macKey).isSome = true ∧ (planned ev1).freeSid 0 = some 0 ∧
    ((applied ev1).learning 0).sids = [0] ∧ (applied ev1).tabs.hash.map (fun e => e.2.map (fun x => x.words)) = [some [0x77, 0]] := by
  decide +kernel

def flushed1 : State := { State.reset with flushes := [(⟨4, 0, 7, false, 3, none⟩, 0, 2, 1)] }
theorem test_FlushAndSeeds : flushed1.flushes.find? (fun e => e.2.1 == 0) = some (⟨4, 0, 7, false, 3, none⟩, 0, 2, 1) ∧
    (nx (exec .tableFlushComplete flushed1)).flushes = [] ∧ State.reset.flushes.all (fun e => e.2.1 != 0) = true ∧
    State.reset.takes (.mc 0) .LKP_HASH_SEED 0 ∧ State.reset.hashCount 0 0 = 0 ∧ (held true).hashCount 0 0 = 1 ∧
    (nx (exec (.hashSeedWrite (.mc 0) 0 0 0 0x12345678) State.reset)).reg .LKP_HASH_SEED 0 = 0x12345678 ∧
    (nx (exec (.hashSeedWrite (.mc 0) 0 0 0 0x12345678) (held true))).fld F.LKP_TBL_STS_SEED_REFUSED 0 = 1 := by
  unfold State.takes; decide +kernel

/-- Panel 0 holds two entries of one slot, at 9 (key byte 0 is 8) and at 4 (matches all), valid under tag 0; lookup 3 waits. -/
def tent (care : BitVec 80) (i : Nat) (s : State) : State :=
  (s.setTslot i ⟨0x08000000000000000000, care⟩).setTval i ⟨1, true, true, true⟩
def lk3 : Lookup := { Lookup.new 0 nd0 1 4 .tcam with key := [8] ++ List.replicate 9 0, mask := List.replicate 10 255, raw := [8] ++ List.replicate 9 0 }
def searching (l : Lookup) : State :=
  ((tent 0xFF000000000000000000 9 State.reset).setPanelQueue 0 [3]).setLookup 3 (some { l with todo := [(0, 0)] })
def answerOf (s : State) : Option Answer := (s.lookup 3).bind (·.answer)
theorem test_PanelSearch : (searching lk3).panelQueue 0 = [3] ∧ (searching lk3).primaryOf 0 = none ∧ (searching lk3).panelOn 0 = true ∧
    SMap.wf (fun _ => TVal.none) (searching lk3).tvals = true ∧ (searching lk3).counts .TCM_CNT 0 ∧
    (searching lk3).entryMatches 9 1 lk3.key lk3.mask = true ∧
    answerOf (nx (exec (.panelSearch 0 false) (searching lk3))) = some ⟨1, [0, 0, 9]⟩ ∧
    answerOf (nx (exec (.panelSearch 0 false) (tent 0 4 (searching lk3)))) = some ⟨1, [0, 0, 4]⟩ ∧
    answerOf (nx (exec (.panelSearch 0 true) (searching lk3))) = some ⟨6, []⟩ ∧
    (nx (exec (.panelSearch 0 true) (searching lk3))).scrubNext = [9] ∧ (nx (exec (.panelSearch 0 false) (searching lk3))).scrubNext = [] ∧
    answerOf (nx (exec (.panelSearch 0 false) (searching { lk3 with key := List.replicate 10 0, fb := true }))) = some ⟨5, []⟩ := by
  unfold State.counts; decide +kernel

def refusedLk (w : Nat) : State := State.reset.setLookup 3 (some { lk3 with waits := some w })
theorem test_TcamRetry : ((refusedLk 2).lookup 3).map (·.waits) = some (some 2) ∧
    answerOf (nx (exec (.tcamRetry 3) (refusedLk 2))) = some ⟨2, []⟩ ∧ (nx (exec (.tcamRetry 3) (refusedLk 4))).lookup 3 = (refusedLk 4).lookup 3 ∧
    (refusedLk 4).fallbackOk 0 = false ∧ answerOf (nx (exec (.tcamFallback 3) (refusedLk 4))) = some ⟨5, []⟩ := by decide +kernel

/-- Panel 0 with twin 1; the copy done; the release over. -/
def twinned (st row edges : Nat) : State :=
  ((((withFld F.TCM_PANEL_CFG_TWIN_EN 0 1).setFld F.TCM_PANEL_CFG_TWIN 0 1).setTwinState 0 st).setTwin 0 ⟨false, row, edges⟩)
theorem test_Twins : State.reset.takes (.mc 0) .TCM_PANEL_CFG 0 ∧
    (nx (exec (.panelCfgWrite (.mc 0) 0 0xC) State.reset)).reg .TCM_PANEL_CFG 0 = 0xC ∧
    (nx (exec (.panelCfgWrite (.mc 0) 0 0x4) State.reset)).fld F.TCM_PANEL_STS_CFG_REFUSED 0 = 1 ∧
    (nx (exec (.panelCfgWrite (.mc 0) 0 0xC0) State.reset)).fld F.TCM_PANEL_STS_CFG_REFUSED 0 = 1 ∧
    (twinned 2 4096 0).paired 0 = true ∧ (nx (exec (.panelCfgWrite (.mc 0) 0 0xC) (twinned 2 4096 0))).fld F.TCM_PANEL_STS_CFG_REFUSED 0 = 1 ∧
    (twinned 1 4096 0).fld F.TCM_PANEL_CFG_TWIN_EN 0 = 1 ∧ (twinned 1 4096 0).twinState 0 = 1 ∧ 4096 ≤ ((twinned 1 4096 0).twin 0).row ∧
    (nx (exec (.twinCopyDone 0) (twinned 1 4096 0))).twinState 1 = 2 ∧ (twinned 3 4096 2).isPrimary 0 = true ∧
    (twinned 3 4096 2).twinState 0 = 3 ∧ 2 ≤ ((twinned 3 4096 2).twin 0).edges ∧
    (nx (exec (.twinReleaseEnd 0) ((twinned 3 4096 2).setTval 32768 ⟨1, true, true, true⟩))).tval 32768 = TVal.none := by
  unfold State.takes; decide +kernel

/-- A packet for action merge in pipeline 0: FWD, DROP and reason; its port's queues and clocks as at reset. -/
def mdFwd (fwd drop : Nat) : Bytes := overwrite (overwrite (List.replicate 128 0) 0x10 (beBytes 4 fwd)) 0x14 (beBytes 1 drop)
def jobFwd (fwd drop r : Nat) : Job := ⟨3, 0, pktIn, none, 0, 4, 0, true, r, mdFwd fwd drop, [], false, [], []⟩
def merging (m : Merge) : State := (forced State.reset).setPipe 0 { PipeSt.idle with merge := [m] }
def merged (m : Merge) : State := nx (exec (.actionMerge 0 0) (merging m))
theorem test_ActionMerge : ((merging (.job (jobFwd 0 0 0))).pipe 0).merge = [.job (jobFwd 0 0 0)] ∧ (merging (.job (jobFwd 0 0 0))).counts .ACT_CNT 0 ∧
    pktIn.bad = false ∧ (merged (.job (jobFwd 0 0 0))).reg .ACT_CNT 3 = 1 ∧ (merged (.job (jobFwd 0x100001 9 0))).reg .ACT_CNT 1 = 1 ∧
    (merging (.job (jobFwd 0x100041 0 0))).portOk 65 = true ∧ (merging (.job (jobFwd 0x100041 0 0))).isYarn 65 = false ∧
    (merging (.job (jobFwd 0x100041 0 0))).effBit F.SCH_PORT_LEAF_SRC 76 = false ∧ beAt (mdFwd 0x100041 0) 0x1C 4 < 2 ^ 31 ∧
    ((merged (.job (jobFwd 0x100041 0 0))).copy 0).map (fun c => (c.port, c.die, c.queue, c.req, c.bytes.length)) = some (65, 1, 32784, 8, 60) ∧
    ((merged (.job (jobFwd 0x100041 0 0))).buf 1).claims = [(8, .copy 0)] ∧
    (merging (.job (jobFwd 0 0 2))).fld F.STE_OUTER_ACT_ACT 0 = 0 ∧ (merged (.job (jobFwd 0 0 2))).reg .STE_CNT 15 = 1 ∧
    (merged (.job { jobFwd 0x100001 0 0 with pkt := { pktIn with bad := true } })).copies = [] ∧
    (merged (.yarn { pktIn with bad := true } [] 0 0 ⟨0, 3, 1, 2, 5, 0, 9⟩ [] true)).copies = [] ∧
    (merged (.yarn { pktIn with bad := true, arr := 2 } [] 0 0 ⟨0, 3, 1, 2, 5, 0, 9⟩ [] true)).copies.length = 1 ∧
    ((merged (.host (body 60) [] 5 2 none none)).copy 0).map (fun c => (c.port, c.tc, c.req)) = some (5, 2, 12) := by
  unfold State.counts; decide +kernel

/-- An ARP request of 10.0.0.9 for 10.0.0.1 at port 3, whose MAC address is 02-AA-00-00-00-01. -/
def arp : Bytes := padTo 60 ([255, 255, 255, 255, 255, 255, 2, 0, 0, 0, 0, 9, 8, 6, 0, 1, 8, 0, 6, 4, 0, 1, 2, 0, 0, 0, 0, 9, 10, 0, 0, 9] ++
  [0, 0, 0, 0, 0, 0, 10, 0, 0, 1])
def asking : State := ((forced (State.reset.setFld F.GLB_MODE_CUR 0 4)).setFld F.ACT_PORT_MAC_MAC 3 0x02AA00000001).setPipe 0 { PipeSt.idle with replies := [(1, arp, 3)] }
def answeredArp : Bytes := [2, 0, 0, 0, 0, 9, 2, 0xAA, 0, 0, 0, 1, 8, 6, 0, 1, 8, 0, 6, 4, 0, 2, 2, 0xAA, 0, 0, 0, 1, 10, 0, 0, 1,
  2, 0, 0, 0, 0, 9, 10, 0, 0, 9]
theorem test_Responder : (asking.pipe 0).replies = [(1, arp, 3)] ∧ asking.curMode ≠ 3 ∧ ((nx (exec (.responderReply 0) (asking.setFld F.GLB_MODE_CUR 0 3))).pipe 0).replies = [(1, arp, 3)] ∧ asking.isYarn 3 = false ∧ asking.counts .ACT_CNT 15 ∧
    ((nx (exec (.responderReply 0) asking)).copy 0).map (fun c => (c.bytes.take 42, c.port)) = some (answeredArp, 3) := by
  unfold State.counts; decide +kernel

/-- Session 2 of pipeline 0, on slot 1, in a state, with timers; port 1 UP. -/
def session (st since sent : Nat) : State :=
  ((((portIn 2).setFld F.MAC_PORT_STS_STATE 1 2).setReg .ACT_BFD_CTL 2 1).setFld F.ACT_BFD_CTL_SLOT 2 1).setFld F.ACT_BFD_STS_STATE 2 st
    |>.setFld F.ACT_BFD_CTL_TX_INT 2 100 |>.setFld F.ACT_BFD_CTL_DET 2 30 |>.setBfd 2 ⟨since, sent⟩
def slow : State := { (portIn 2).setFld F.ACT_LACP_CTL_EN 0 1 with lacp := [(0, 4000000000)] }
theorem test_Sessions : State.reset.takes (.mc 0) .ACT_BFD_CTL 2 ∧ (session 3 30 75).takes (.mc 0) .ACT_BFD_CTL 2 ∧
    (session 3 30 75).fld F.ACT_BFD_CTL_EN 2 = 1 ∧
    (nx (exec (.bfdCtlWrite (.mc 0) 0 2 0xF0) (session 3 30 75))).fld F.ACT_BFD_STS_REFUSED 2 = 1 ∧
    (nx (exec (.bfdCtlWrite (.mc 0) 0 2 0xF0) (session 3 30 75))).fld F.ACT_BFD_CTL_EN 2 = 0 ∧
    (session 3 30 75).fld F.ACT_BFD_CTL_TX_INT 2 = 100 ∧ (session 3 30 75).split 4 = false ∧ ((session 3 30 75).bfdOf 2).sent = 75 ∧
    (session 3 30 75).portState 1 = 2 ∧ (session 3 30 75).counts .ACT_CNT 18 ∧
    ((nx (exec (.bfdTx 0 2) (session 3 30 75))).copy 0).map (fun c => c.port) = some 1 ∧
    (nx (exec (.bfdTx 0 2) (session 3 30 74))).copies = [] ∧ (session 3 30 75).curMode ≠ 3 ∧
    (nx (exec (.bfdTx 0 2) ((session 3 30 75).setFld F.GLB_MODE_CUR 0 3))).copies = [] ∧
    (nx (exec (.bfdTx 0 2) ((session 3 30 75).setFld F.MAC_PORT_STS_STATE 1 1))).copies = [] ∧
    (session 3 30 75).fld F.ACT_BFD_STS_STATE 2 = 3 ∧ ((session 3 30 75).bfdOf 2).since = 30 ∧
    (nx (exec (.bfdDetectExpire 0 2) (session 3 30 0))).fld F.ACT_BFD_STS_DIAG 2 = 1 ∧
    (nx (exec (.bfdDetectExpire 0 2) (session 3 29 0))).fld F.ACT_BFD_STS_STATE 2 = 3 := by
  unfold State.takes State.counts; decide +kernel

theorem test_Lacp : slow.fld F.ACT_LACP_CTL_EN 0 = 1 ∧ slow.fld F.ACT_LACP_CTL_HOLD 0 = 0 ∧ slow.split 5 = false ∧
    max 1 (slow.fld F.ACT_LACP_CTL_PERIOD 0) ≤ SMap.get (fun _ => 0) slow.lacp 0 ∧ slow.portState 0 = 2 ∧ slow.isYarn 0 = false ∧
    ((nx (exec (.lacpTx 0 0) slow)).copy 0).map (fun c => (c.tc, c.bytes.length)) = some (7, 124) ∧
    slow.curMode ≠ 3 ∧ (nx (exec (.lacpTx 0 0) (slow.setFld F.GLB_MODE_CUR 0 3))).copies = [] ∧
    (nx (exec (.lacpTx 0 0) (slow.setFld F.MAC_PORT_STS_STATE 0 1))).copies = [] := by decide +kernel

/-- Port 0 is UP; copy 7 of 300 bytes, for its queue 0, claims cells at requester 0. -/
def c7 : Copy := { Copy.own .forward 0 0 (body 300) with queue := 32768 }
def claiming (st : Nat) (c : Copy) (used other : Nat) : State :=
  let s := (({ portIn st with copies := [(7, some c)] } : State).setBuf 0 { BufSt.idle with claims := [(0, .copy 7)] })
  (s.setQueue 32768 { QSt.empty with used := used }).setQueue 32769 { QSt.empty with used := other }
def claimed (st : Nat) (c : Copy) (used other : Nat) : State := nx (exec (.bpmClaim 0) (claiming st c used other))
theorem test_Claims : ((claiming 2 c7 0 0).buf 0).claims = [(0, .copy 7)] ∧ (claiming 2 c7 0 0).copy 7 = some c7 ∧
    (claiming 2 c7 0 0).portState 0 = 2 ∧ (claiming 2 c7 0 0).counts .BPM_CNT 0 ∧
    ((claimed 2 c7 0 0).copy 7).map (·.need) = some 2 ∧ ((claimed 2 c7 0 0).queue 32768).used = 2 ∧ (claimed 2 c7 0 0).reg .BPM_CNT 0 = 1 ∧
    (claimed 3 c7 0 0).reg .MAC_CNT 12 = 1 ∧ (claimed 1 c7 0 0).reg .MAC_CNT 13 = 1 ∧ (claimed 1 c7 0 0).copies = [] ∧
    (claimed 2 c7 200000 0).reg .BPM_CNT 2 = 1 ∧ (claiming 2 c7 8 255831).freeS 0 = 1 ∧ (claimed 2 c7 8 255831).reg .BPM_CNT 1 = 1 := by
  unfold State.counts; decide +kernel

/-- One cell of copy 7 is offered for bank group 5; a written copy is to be linked. -/
def offered : State := ({ State.reset with copies := [(7, some c7)] } : State).setBuf 0 { BufSt.idle with fifos := [(3, ⟨[], [(7, 5)]⟩)] }
def written : Copy := { c7 with need := 3, cells := [1, 2] }
def linking (c : Copy) : State := ({ State.reset with copies := [(7, some c)] } : State).setQueue 32768 { QSt.empty with used := 3, chain := [4] }
/-- A fetched cell of leaf queue 6 is offered by input 14 for bank group 5. -/
def offered14 : State :=
  (State.reset.setQueue 6 { QSt.empty with spill := some ⟨0, 64, 64, false, 0, [⟨10, true, 0, [1]⟩], [0], 0, false⟩ }).setBuf 0
    { BufSt.idle with fifos := [(14 * 16, ⟨[], [(6, 5)]⟩)] }
theorem test_Input14 : (offered14.buf 0).fifos = [(14 * 16, ⟨[], [(6, 5)]⟩)] ∧
    ((nx (exec (.xbarMatch 0) offered14)).queue 6).spill.map (fun p => p.fetches.map (·.placed)) = some [[1, 5]] := by decide +kernel
theorem test_CrossbarAndLink : (offered.buf 0).fifos = [(0 * 16 + 3, ⟨[], [(7, 5)]⟩)] ∧ c7.solo = false ∧ offered.counts .SCH_CNT 0 ∧
    ((nx (exec (.xbarMatch 0) offered)).copy 7).map (·.cells) = some [5] ∧ (nx (exec (.xbarMatch 0) offered)).reg .SCH_CNT 0 = 1 ∧
    cellsOf written.bytes.length = 2 ∧ (linking written).flushing 0 = false ∧ (linking written).cutOpen 32768 = false ∧
    ((nx (exec (.copyLink 7) (linking written))).queue 32768).chain = [4, 7] ∧
    ((nx (exec (.copyLink 7) (linking written))).queue 32768).used = 2 ∧
    (nx (exec (.copyLink 7) (linking { written with bad := true }))).reg .SKN_CNT 1 = 1 := by unfold State.counts; decide +kernel

/-- Leaf queue 6 is spilled: copy 7's 300 cells make its chain, 64 of them in H and 64 in M. -/
def big : Copy := { Copy.own .forward 0 0 [] with queue := 6, need := 300, cells := List.replicate 300 2, done := true, linked := true }
def sp : Spill := ⟨0, 64, 64, false, 0, [], [0], 0, false⟩
def spilled (p : Spill) : State :=
  ({ (State.reset.setFld F.SKN_SPILL_PROF_A_HEAD_HI 0 1000).setFld F.SKN_SPILL_PROF_B_HBM_MAX 0 5000 |>.setFld F.SKN_SPILL_PROF_B_TAIL_MAX 0 100 with copies := [(7, some big)] } : State).setQueue 6
    { QSt.empty with used := 300, chain := [7], spill := some p }
theorem test_SpillMoves : ((spilled sp).queue 6).spill = some sp ∧ (spilled sp).spillPaused 0 = false ∧
    min 64 (min ((spilled sp).tailCells ((spilled sp).queue 6) - ((spilled sp).sprof 6).2.2.2.1) (((spilled sp).sprof 6).2.2.2.2 - 64)) ≠ 0 ∧
    ((spilled sp).growPages 0 (0 + 64 + 64) [0] 2).isSome = true ∧
    ((nx (exec (.spillMove 0 6) (spilled sp))).queue 6).spill.map (·.move) = some 64 ∧
    ((nx (exec (.spillMoveAck 0 6) (spilled { sp with move := 64 }))).queue 6).spill = some { sp with mid := 128 } ∧
    ((nx (exec (.spillMoveAck 0 6) (spilled { sp with move := 64 }))).copy 7).map (fun c => (c.cells.getD 127 0, c.cells.getD 128 0, c.cells.getD 191 0, c.cells.getD 192 0)) =
      some (2, 101, 101, 2) ∧ ((nx (exec (.spillMoveAck 0 6) (spilled { sp with move := 64 }))).queue 6).used = 236 := by decide +kernel

/-- A batch of 10 cells that the crossbar has written. -/
def fetched10 : Spill := { sp with fetches := [⟨10, true, 0, List.replicate 10 3⟩] }
def emptied (p : Spill) : State := (spilled p).setQueue 6 { QSt.empty with spill := some p }
theorem test_SpillFetches : (spilled { sp with head := 0 }).fillNow 6 ((spilled { sp with head := 0 }).queue 6) { sp with head := 0 } = true ∧
    ((nx (exec (.spillFetch 0 6) (spilled { sp with head := 0 }))).queue 6).spill.map (·.fetches) = some [⟨64, false, 0, []⟩] ∧
    (spilled { sp with mid := 0 }).fillNow 6 ((spilled { sp with mid := 0 }).queue 6) { sp with mid := 0 } = false ∧
    ((emptied fetched10).queue 6).chain = [] ∧
    ((nx (exec (.spillFetchDone 0 6 [] []) (emptied fetched10))).queue 6).spill.map (fun p => (p.head, p.mid, p.fetches, p.first)) =
      some (74, 54, [], 10) := by decide +kernel
theorem test_SpillFetched :
    ((nx (exec (.spillFetchDone 0 6 [] [(9, 0, 0)]) (spilled fetched10))).copy 7).map (fun c => (c.cells.getD 63 0, c.cells.getD 64 0, c.cells.getD 73 0, c.cells.getD 74 0, c.fetched, c.poison)) =
      some (2, 3, 3, 2, 10, true) ∧
    ((nx (exec (.spillFetchDone 0 6 [] []) (emptied { fetched10 with dead := true }))).queue 6).spill = none ∧
    ((nx (exec (.splice 0 6) (emptied { sp with mid := 0 }))).queue 6).spill = none ∧
    (emptied { sp with mid := 0 }).counts .SKN_CNT 7 ∧ (nx (exec (.splice 0 6) (emptied { sp with mid := 0 }))).reg .SKN_CNT 7 = 1 := by
  unfold State.counts; decide +kernel

/-- Port 0 UP; its queues 1 and 2 hold a copy each; class 2 is strict. -/
def inQueue (q : Nat) : Copy := { c7 with queue := 32768 + q, tc := q, done := true, linked := true }
def selecting (sp st : Nat) : State :=
  let s := forced ((portIn st).setFld F.SCH_PORT_SP 0 sp)
  (({ s with copies := [(7, some (inQueue 1)), (8, some (inQueue 2))] } : State).setQueue 32769 { QSt.empty with chain := [7] }).setQueue 32770
    { QSt.empty with chain := [8] }
theorem test_EgressSelect : (selecting 0 1).portEligible 0 0 = false ∧ (selecting 4 2).portEligible 0 0 = true ∧ localExists 0 0 = true ∧
    ((selecting 4 2).choose 0 0).map (fun e => (e.1, e.2.1, e.2.2.1)) = some (none, 8192 + 32770, none) ∧
    ((selecting 0 2).choose 0 0).map (fun e => e.2.1) = some (8192 + 32769) ∧
    ((selecting 4 2).firstCopy 32770).map (·.1) = some 8 ∧ (selecting 4 2).counts .SCH_CNT 2 ∧
    ((nx (exec (.egressSelect 0 0) (selecting 4 2))).pipe 0).egress = [8] ∧ ((selecting 4 2).classMember 0 0 2).ok = true ∧
    ((nx (exec (.egressSelect 0 0) (selecting 4 2))).copy 8).map (fun c => (c.sel, c.len)) = some (true, 300) := by
  unfold State.counts; decide +kernel

def leafHeld : State := State.reset.setQueue 6 { QSt.empty with used := 1 }
def backlogged : State := State.reset.setQueue 6 { QSt.empty with chain := [7] }
theorem test_HierarchyWrites : leafHeld.takes (.mc 0) .SCH_LEAF 6 ∧ State.reset.takes (.mc 0) .SCH_GRP 0 ∧
    (nx (exec (.schLeafWrite (.mc 0) 0 6 5) leafHeld)).fld F.SCH_LEAF_CFG_REFUSED 6 = 1 ∧
    (nx (exec (.schLeafWrite (.mc 0) 0 7 5) leafHeld)).fld F.SCH_LEAF_GROUP 7 = 5 ∧ backlogged.backlog 0 = 1 ∧ State.reset.backlog 0 = 0 ∧
    (nx (exec (.schGrpWrite (.mc 0) 0 0 3) backlogged)).fld F.SCH_GRP_STS_CFG_REFUSED 0 = 1 ∧
    (nx (exec (.schGrpWrite (.mc 0) 0 0 3) State.reset)).fld F.SCH_GRP_PORT 0 = 3 := by unfold State.takes; decide +kernel

/-- Group 9 of die 0 names local ports 1 and 64. -/
def repl0 : Repl := ⟨{ c7 with tc := 3 }, 9, false, 2, none⟩
def replicating : State :=
  ({ State.reset with tabs := { State.reset.tabs with mcg := [(9, (1 <<< 96) + (1 <<< 64) + 2)] } } : State).setBuf 0 { BufSt.idle with repl := [repl0] }
theorem test_Replication : (replicating.buf 0).repl = [repl0] ∧ (replicating.readGroup replicating.tabs 0 9).getLsbD 96 = true ∧
    (replicating.readGroup replicating.tabs 0 9).getLsbD 97 = false ∧ (nx (exec (.replication 0 false false) replicating)).nextId = 2 ∧
    ((nx (exec (.replication 0 false false) replicating)).copy 0).map (·.port) = some 1 ∧
    ((nx (exec (.replication 0 false false) replicating)).copy 1).map (fun c => (c.port, c.queue)) = some (144, 32768 + 1024 + 8) ∧
    ((nx (exec (.replication 0 true false) replicating)).buf 0).repl = [] := by decide +kernel

/-- A Yarn frame of 90 bytes on port 1: version 1, a type and class 3, hops, destination, source, port 5, SEQ 9. This device is 2. -/
def yframe (type hops dst src : Nat) : Bytes :=
  padTo 90 ([BitVec.ofNat 8 (64 + type * 16 + 3), BitVec.ofNat 8 hops] ++ beBytes 2 src ++ beBytes 2 dst ++ [5, 0, 0, 9])
def parsing (b : Bytes) : State :=
  (((State.reset.setFld F.YRN_ID_EN 0 1).setFld F.YRN_ID_DEV 0 2)).setPipe 0 { PipeSt.idle with parser := [{ pktIn with src := 1, bytes := b }] }
def parsed (b : Bytes) : State := nx (exec (.yarnParse 0) (parsing b))
def nextMerge (b : Bytes) : List (Nat × Nat × Bool × Nat) := ((parsed b).pipe 0).merge.map (fun m => match m with
  | .yarn p _ tc _ h _ own => (p.bytes.length, tc, own, h.hops)
  | _ => (0, 0, false, 0))
theorem test_YarnParse : ((parsing (yframe 0 3 2 1)).pipe 0).parser.length = 1 ∧ (parsing (yframe 0 3 2 1)).counts .STE_CNT 13 ∧
    yarnHdr (yframe 0 3 2 1) = ⟨0, 3, 1, 2, 5, 0, 9⟩ ∧ (parsing (yframe 0 3 2 1)).isYarn 5 = false ∧
    [nextMerge (yframe 0 3 2 1), nextMerge (yframe 0 3 4 1), nextMerge (yframe 2 3 2 1), nextMerge (yframe 1 3 2 1), nextMerge (yframe 0 1 4 1)] =
      [[(70, 3, true, 3)], [(70, 3, false, 2)], [(70, 3, true, 3)], [(70, 3, true, 2)], []] ∧
    [(parsed (yframe 0 3 2 1)).reg .YRN_CNT 3, (parsed (yframe 0 3 4 1)).reg .YRN_CNT 6, (parsed (yframe 0 1 4 1)).reg .YRN_CNT 10,
      (parsed (yframe 0 3 2 2)).reg .YRN_CNT 11, (parsed (yframe 3 3 2 1)).reg .YRN_CNT 7, (parsed ((yframe 0 3 2 1).take 79)).reg .YRN_CNT 7] =
      [1, 1, 1, 1, 1, 1] := by unfold State.counts; decide +kernel

/-- Context 8 of die 0 (source 1, class 0) with a NEXT; copy 7 carries a SEQ. -/
def seqCopy (q : Nat) : Copy := { c7 with yarn := some ⟨0, 3, 1, 2, 5, 0, q⟩, ctx := none, req := 2 }
def arriving (next q : Nat) (held : List Held) (active : Nat) : State :=
  let s := (State.reset.setFld F.YRN_CTX_NEXT 8 next).setFld F.YRN_CTX_ACTIVE 8 active
  ({ s with rsq := [(0, [7])], copies := [(7, some (seqCopy q)), (8, some (seqCopy 12))] } : State).setHeld 8 held
def reseqd (next q active : Nat) : State := nx (exec (.reseqArrive 0) (arriving next q [] active))
theorem test_ReseqArrive : SMap.get (fun _ => []) (arriving 9 9 [] 1).rsq 0 = [7] ∧ (arriving 9 9 [] 1).copy 7 = some (seqCopy 9) ∧
    (arriving 9 9 [] 1).fld F.YRN_CTX_ACTIVE 8 = 1 ∧ (arriving 9 9 [] 1).heldIn 8 = [] ∧ ((arriving 9 9 [] 1).buf 0).claims = [] ∧
    ((reseqd 9 9 1).buf 0).claims = [(2, .copy 7)] ∧ (reseqd 9 9 1).fld F.YRN_CTX_NEXT 8 = 10 ∧
    ((reseqd 5 9 0).buf 0).claims = [(2, .copy 7)] ∧ (reseqd 5 9 0).fld F.YRN_CTX_NEXT 8 = 10 ∧
    (reseqd 5 9 1).heldIn 8 = [⟨9, 7, 0⟩] ∧ (arriving 5 9 [] 1).heldCells 0 = 0 ∧ (reseqd 10 9 1).copy 7 = none ∧
    (reseqd 10 9 1).reg .YRN_CNT 13 = 1 := by decide +kernel

def waitingSeq (age : Nat) (split : BitVec 64) : State := (arriving 5 9 [⟨12, 8, age⟩] 1).setReg .GLB_SPLIT_EFF 0 split
theorem test_ReseqTimeout : (waitingSeq 4095 0).heldIn 8 = [⟨12, 8, 4095⟩] ∧ (waitingSeq 4095 0).fld F.YRN_RESEQ_CFG_TIMEOUT 0 ≤ 4095 ∧
    (waitingSeq 0 0).fld F.YRN_CTX_TIMED_OUT 8 = 0 ∧ (waitingSeq 4095 0).split 10 = false ∧ (waitingSeq 4095 0x400).split 10 = true ∧
    (nx (exec (.reseqTimeout 0 8) (waitingSeq 4095 0))).heldIn 8 = [] ∧
    (nx (exec (.reseqTimeout 0 8) (waitingSeq 4095 0))).fld F.YRN_CTX_NEXT 8 = 13 ∧
    ((nx (exec (.reseqTimeout 0 8) (waitingSeq 4095 0))).buf 0).claims = [(10, .copy 8)] ∧
    (nx (exec (.reseqTimeout 0 8) (waitingSeq 4095 0x400))).fld F.YRN_CTX_TIMED_OUT 8 = 1 ∧ State.reset.heldIn 8 = [] := by decide +kernel

def sequenced : State := { State.reset with seqs := [(3, 7)] }
theorem test_YarnWrites : State.reset.takes (.mc 0) .YRN_RESEQ_CMD 0 ∧ sequenced.takes (.mc 0) .YRN_ID 0 ∧
    (nx (exec (.reseqCmd (.mc 0) 0x80020008) State.reset)).rsqGo = [(131080, 0)] ∧ (nx (exec (.reseqCmd (.mc 0) 8) State.reset)).rsqGo = [] ∧
    (nx (exec (.yrnIdWrite (.mc 0) 0) sequenced)).seqs = [] ∧ (nx (exec (.yrnIdWrite (.mc 0) 0xFFFFFFFF) sequenced)).boot.epoch = 255 := by
  unfold State.takes; decide +kernel

/-- Stack 1 of die 0 changes to speed point 2, in step `st`. -/
def changing (st : Nat) (c : HbcSt) : State :=
  (((withFld F.HBC_STS_BUSY 1 1).setFld F.HBC_STS_TARGET 1 2).setFld F.HBC_STS_STEP 1 st).setHbc 1 c
def hb : HbcSt := { HbcSt.idle with edges := 1 }
def timed : State := (changing 2 hb).setReg .HBC_TIM ((1 * 4 + 2) * 8 + 5) 77
theorem test_SpeedSteps : State.reset.takes (.mc 0) .HBC_SPD_CMD 1 ∧
    ((nx (exec (.speedCommand (.mc 0) 1 2) State.reset)).hbcAt 1).cmd = some 2 ∧
    (nx (exec (.speedStep 1) (changing 1 hb))).fld F.HBC_STS_STEP 1 = 2 ∧ (changing 1 hb).spillBusy 0 = false ∧
    (nx (exec (.speedStep 1) (changing 1 { hb with postponed := [(40, 1)] }))).fld F.HBC_STS_STEP 1 = 1 ∧
    (nx (exec (.speedStep 1) timed)).reg .HBC_TIM ((1 * 4 + 3) * 8 + 5) = 77 ∧
    (nx (exec (.speedStep 1) timed)).fld F.HBC_STS_STEP 1 = 3 ∧
    (nx (exec (.speedStep 1) (changing 2 { hb with rest := true }))).fld F.HBC_STS_STATE 1 = 3 ∧
    (nx (exec (.speedStep 1) (changing 5 { hb with rest := true }))).fld F.HBC_STS_STATE 1 = 1 ∧
    (nx (exec (.speedStep 1) (changing 5 hb))).fld F.HBC_STS_CUR_SP 1 = 2 ∧ (nx (exec (.speedStep 1) (changing 5 hb))).fld F.HBC_STS_BUSY 1 = 0 ∧
    (changing 5 hb).counts .HBC_CNT 14 ∧ (nx (exec (.speedStep 1) (changing 5 hb))).reg .HBC_CNT 14 = 1 := by
  unfold State.counts State.takes; decide +kernel

def stuck (r : Bool) : State := changing 3 { hb with edges := 255, former := 1, ret := r }
theorem test_SpeedFails : max 1 ((stuck false).fld F.HBC_SPD_CFG2_STEP_LIMIT 1) ≤ ((stuck false).hbcAt 1).edges ∧ (stuck false).counts .HBC_CNT 15 ∧
    (nx (exec (.speedStepTimeout 1) (stuck false))).fld F.HBC_STS_SPD_FAIL 1 = 1 ∧
    (nx (exec (.speedStepTimeout 1) (stuck false))).fld F.HBC_STS_TARGET 1 = 1 ∧
    (nx (exec (.speedStepTimeout 1) (stuck false))).fld F.HBC_STS_STEP 1 = 2 ∧
    (nx (exec (.speedStepTimeout 1) (stuck true))).fld F.HBC_STS_STATE 1 = 2 := by unfold State.counts; decide +kernel

/-- Die 0's policy: UP_PCT 70, DOWN_PCT 30, DWELL 2, FLOOR 2, WIN 1 (spec/12, HBC_SPD_CFG). -/
def policy (cur win low : Nat) : State :=
  (((((withFld F.HBC_SPD_CFG_UP_PCT 0 70).setFld F.HBC_SPD_CFG_DOWN_PCT 0 30).setFld F.HBC_SPD_CFG_DWELL 0 2).setFld F.HBC_SPD_CFG_FLOOR 0 2).setFld
    F.HBC_SPD_CFG2_WIN 0 1).setFld F.HBC_STS_CUR_SP 0 cur |>.setHbc 0 { HbcSt.idle with win := win, low := low }
theorem test_SpeedPolicy : (policy 1 1 0).policyStack 0 = 0 ∧ (policy 1 1 0).split 9 = false ∧ 0 ∈ (policy 1 1 0).dieStacks 0 ∧
    (policy 1 1 0).hbcReady 0 = true ∧ (policy 1 1 0).ceiling 0 = 0 ∧
    (nx (exec (.speedPolicyWindow 0 71) (policy 1 1 0))).fld F.HBC_STS_TARGET 0 = 0 ∧
    (nx (exec (.speedPolicyWindow 0 71) (policy 1 1 0))).fld F.HBC_STS_BUSY 0 = 1 ∧
    (nx (exec (.speedPolicyWindow 0 70) (policy 1 1 0))).fld F.HBC_STS_BUSY 0 = 0 ∧
    (nx (exec (.speedPolicyWindow 0 29) (policy 1 1 1))).fld F.HBC_STS_TARGET 0 = 2 ∧
    ((nx (exec (.speedPolicyWindow 0 29) (policy 1 1 0))).hbcAt 0).low = 1 ∧
    (nx (exec (.speedPolicyWindow 0 71) (policy 1 0 0))).fld F.HBC_STS_BUSY 0 = 0 := by decide +kernel

def refreshing (post : Nat) : State :=
  ((withFld F.HBC_REF_CFG_POSTPONE 2 2).setFld F.HBC_GEOM_BANKS 2 16).setHbc 2 { HbcSt.idle with postponed := if post = 0 then [] else [(0, post)] }
def late (post : Nat) (waiting : List (Fin 32 × Fin 256)) : Nat :=
  SMap.get (fun _ => 0) ((nx (exec (.refresh 2 waiting) (refreshing post))).hbcAt 2).postponed 0
def warm : State := ((withFld F.HBC_REF_CFG_T85 2 85).setFld F.HBC_REF_CFG_T95 2 95).setHbc 2 { HbcSt.idle with ticks := 256 }
theorem test_RefreshAndTemperature : (refreshing 1).domState 34 = 3 ∧ (refreshing 1).fld F.HBC_STS_STATE 2 = 1 ∧ (refreshing 1).counts .HBC_CNT 26 ∧
    late 1 [(0, 0)] = 2 ∧ (nx (exec (.refresh 2 [(0, 0)]) (refreshing 1))).reg .HBC_CNT 26 = 1 ∧ late 2 [(0, 0)] = 2 ∧ late 2 [] = 0 ∧
    (nx (exec (.hbmTempRead 2 84) warm)).fld F.HBC_TEMP_RATE 2 = 0 ∧ (nx (exec (.hbmTempRead 2 85) warm)).fld F.HBC_TEMP_RATE 2 = 1 ∧
    (nx (exec (.hbmTempRead 2 95) warm)).fld F.HBC_TEMP_RATE 2 = 2 ∧ (nx (exec (.hbmTempRead 2 95) warm)).fld F.HBC_TEMP_TEMP 2 = 95 := by
  unfold State.counts; decide +kernel

/-- The link is up at 64 GT/s x16 in Flit mode; or idle with L0p on. -/
def linked : State := nx (exec (.pcieLinkUp 5 4 false) State.reset)
def aspm : State := linked.setCfg 0 0x1C 2
def l0p (w : Nat) : State :=
  (((linked.setCfg 0 0xAE 8).setFld F.PCX_LINK_STS_L0P_WIDTH 0 w).setFld F.PCX_LPM_L0P_EN 0 1).setFld F.PCX_LPM_L0P_LO 0 20 |>.setFld F.PCX_LPM_L0P_HI 0 70
    |>.setFld F.PCX_LPM_L0P_MIN 0 0 |>.setFld F.PCX_LPM_L0P_WIN 0 0
def l0pAt (w : Nat) : State := { l0p w with pcie := { (l0p w).pcie with l0pTicks := 1 } }
theorem test_PcieLink : State.reset.fld F.PCX_LINK_STS_DL_UP 0 = 0 ∧ linked.fld F.PCX_LINK_STS_DL_UP 0 = 1 ∧ linked.fld F.PCX_LINK_STS_WIDTH 0 = 16 ∧
    linked.fld F.PCX_LINK_STS_FLIT 0 = 1 ∧ linked.fld F.PCX_LINK_STS_SPEED 0 = 6 ∧
    (l0pAt 16).l0pOver = true ∧ (l0p 16).l0pOver = false ∧ (nx (exec (.l0pWindow 19) (l0pAt 16))).fld F.PCX_LINK_STS_L0P_WIDTH 0 = 8 ∧
    (nx (exec (.l0pWindow 19) (l0pAt 16))).l0pOver = false ∧ (nx (exec (.l0pWindow 19) (l0p 16))).fld F.PCX_LINK_STS_L0P_WIDTH 0 = 16 ∧
    (nx (exec (.l0pWindow 20) (l0pAt 16))).fld F.PCX_LINK_STS_L0P_WIDTH 0 = 16 ∧
    (nx (exec (.l0pWindow 0) (l0pAt 4))).fld F.PCX_LINK_STS_L0P_WIDTH 0 = 4 ∧
    (nx (exec (.l0pWindow 71) (l0pAt 8))).fld F.PCX_LINK_STS_L0P_WIDTH 0 = 16 ∧ (l0pAt 16).counts .PCX_CNT 8 ∧
    (nx (exec (.l0pWindow 19) (l0pAt 16))).reg .PCX_CNT 8 = 1 ∧ (nx (exec (.l0pPartnerRequest 0) linked)).fld F.PCX_LINK_STS_L0P_WIDTH 0 = 4 := by
  unfold State.counts; decide +kernel
theorem test_L1 : aspm.aspmL1 = true ∧ aspm.linkIdle = true ∧ aspm.fld F.PCX_LINK_STS_PM 0 = 0 ∧ aspm.l1State = 1 ∧ aspm.counts .PCX_CNT 7 ∧
    (nx (exec .l1Exit (aspm.setFld F.PCX_LINK_STS_PM 0 2))).fld F.PCX_LINK_STS_PM 0 = 0 ∧
    (nx (exec .l1Entry linked)).fld F.PCX_LINK_STS_PM 0 = 0 := by unfold State.counts; decide +kernel

/-- PF0 has submission rings 0 to 7; ring 5 is enabled. -/
def ringed (s : State) : State := (s.setFld F.PCX_FUNC_RINGS_SQ_COUNT 0 8).setFld F.DMA_SQ_STS_ENABLED 5 1
def downed : State := nx (exec .perstNAssert (ringed linked))
theorem test_LinkDown : (ringed linked).fld F.DMA_SQ_STS_ENABLED 5 = 1 ∧ linked.tick.linkSeen = true ∧
    downed.ringEnabled false 5 = false ∧ downed.fld F.DMA_SQ_STS_ERR 5 = 8 ∧ downed.fld F.GLB_HOSTLOSS_CAUSE 0 = 1 ∧
    downed.fld F.PCX_LINK_STS_DL_UP 0 = 0 ∧ downed.reg .PCX_FUNC_RINGS 0 = Reg.resetAt (Reg.PCX_FUNC_RINGS.key 0) := by decide +kernel

/-- Vector 66 of the device is PF1's vector 2: pending, with a hold of 50. -/
def vector : State :=
  (((State.reset.setCfg 1 1 4).setCfg 1 0x14 0x80000000).setMsix 66 ⟨0xFEE00000, 9, false⟩).setReg .PCX_IMOD 66 (BitVec.ofNat 64 (50 + 2 ^ 24))
theorem test_Msix : vectorOwner 66 = (1, 2) ∧ vector.fld F.PCX_IMOD_PEND 66 = 1 ∧ vector.msixEnabled 1 = true ∧ vector.msixMasked 1 = false ∧
    vector.fnMayIssue 1 = true ∧ vector.counts .PCX_CNT 6 ∧ (nx (exec (.msixSend 66) vector)).out = [.msix 66 0xFEE00000 9] ∧
    (nx (exec (.msixSend 66) vector)).fld F.PCX_IMOD_CNT 66 = 50 ∧ (nx (exec (.msixSend 66) vector)).fld F.PCX_IMOD_PEND 66 = 0 ∧
    (nx (exec (.msixSend 66) (nx (exec (.msixSend 66) vector)))).out = [] := by unfold State.counts; decide +kernel

theorem test_Config : State.reset.cfgAnswers 0 = true ∧ State.reset.cfgAnswers 2 = false ∧ State.reset.domOn 56 = true ∧
    (nx (exec (.configRequest 0 0 false 15 0) State.reset)).out = [.cfgData 0 0x25601FD4] ∧
    (nx (exec (.configRequest 2 0 false 15 0) State.reset)).out = [.unsupported 2] ∧ cageAt 0x05 = none ∧
    ((nx (exec (.configRequest 1 0x05 true 3 0x12345678) State.reset)).cfgWord 1 0x05 ^^^ State.reset.cfgFixed 1 0x05) = 0x5678 := by
  decide +kernel

def inFlr0 : State := (State.reset.setCfg 0 5 7).setFld F.PCX_FLR_BUSY_BUSY 0 1
def mastering : State := State.reset.setCfg 1 1 4
theorem test_FunctionResets : State.reset.fnExists 0 = true ∧ State.reset.inFlr 0 = false ∧
    (ringed State.reset).ringOwner false 5 = some 0 ∧
    inFlr0.counts .PCX_CNT 9 ∧ inFlr0.inFlr 0 = true ∧ (nx (exec (.flrComplete 0 false) inFlr0)).inFlr 0 = false ∧
    (nx (exec (.flrComplete 0 false) inFlr0)).cfgWord 0 5 = 0 ∧
    (nx (exec (.flrComplete 0 false) inFlr0)).reg .PCX_CNT 9 = 1 := by unfold State.counts; decide +kernel
theorem test_BusMaster : mastering.busMaster 1 = true ∧ State.reset.inD3 0 = false ∧ (State.reset.setCfg 0 0x11 3).inD3 0 = true ∧
    (nx (exec (.d3hotTransition 0 false) (State.reset.setCfg 0 0x11 3))).inD3 0 = false ∧
    (nx (exec (.vfEnableWrite true) State.reset)).vfEnable = true := by decide +kernel

def reading (r : ReadRec) : State := { ringed State.reset with pcie := { State.reset.pcie with
  reads := [r], ops := if r.ended ∨ r.discard then [] else [⟨0, 0, .descriptors 5 0 1, [], [none]⟩] } }
def readA : ReadRec := ⟨0x105, 0, 0, 0, [], false, false⟩
/-- Table 13-10: the timeout, the late completion and the tag. -/
theorem test_Reads : (reading readA).pcie.reads = [readA] ∧ (reading readA).ctoDisabled 0 = false ∧ (reading readA).counts .PCX_CNT 0 ∧
    (nx (exec (.completionTimeout 0x105) (reading readA))).reg .PCX_CNT 0 = 1 ∧
    ((nx (exec (.completionTimeout 0x105) (reading readA))).cfgWord 0 0x41).getLsbD 14 = true ∧
    (nx (exec (.completionTimeout 0x105) (reading readA))).fld F.DMA_SQ_STS_ERR 5 = 7 ∧
    (nx (exec (.completionTimeout 0x105) (reading readA))).fld F.DMA_SQ_STS_ENABLED 5 = 0 ∧
    (nx (exec (.completionTimeout 0x105) (reading readA))).pcie.ops = [] ∧
    ((nx (exec (.completionTimeout 0x105) (reading readA))).pcie.reads.map (fun r => (r.ended, r.discard))) = [(true, true)] ∧
    (nx (exec (.readCompletion 0x105 .ok true []) ((reading { readA with ended := true }).setCfg 0 0x41 0x4000))).reg .PCX_CNT 1 = 1 ∧
    (nx (exec (.readCompletion 0x105 .ok true []) ((reading { readA with ended := true }).setCfg 0 0x41 0x4000))).pcie.reads = [] ∧
    ((nx (exec (.readCompletion 0x105 .ok true (body 32)) (reading readA))).sq 5).entries = [(0, body 32)] ∧ (reading readA).chart.ctxs = [] ∧
    (nx (exec (.readCompletion 0x105 .abort true []) ((reading readA).setCfg 0 0x41 0x4000))).reg .PCX_CNT 2 = 1 ∧
    (nx (exec (.readCompletion 0x105 .ok true []) (reading { readA with discard := true }))).pcie.reads = [] ∧
    (nx (exec (.tagHoldExpire 0x105) (reading { readA with ended := true }))).pcie.reads = [] := by unfold State.counts; decide +kernel

/-- PF0 is a bus master: its completion ring 0 (CMPL, 64 entries) and submission ring 5 (CHART, PKT_TX or PKT_RX, 64 entries) are enabled; BURST 4. -/
def pf0 : State := State.reset.setCfg 0 1 4
def rings (kind : Nat) : State :=
  let s := ((pf0.setFld F.DMA_CQ_STS_ENABLED 0 1).setFld F.DMA_CQ_CFG_LOG2SIZE 0 6).setFld F.DMA_SQ_STS_ENABLED 5 1
  (((s.setFld F.DMA_SQ_CFG_KIND 5 kind).setFld F.DMA_SQ_CFG_LOG2SIZE 5 6).setFld F.DMA_SQ_CFG_BURST 5 4).setFld F.DMA_SQ_STS_TAIL 5 3
def cfg5 : BitVec 64 := BitVec.ofNat 64 (4 + 6 * 16 + 7 * 2 ^ 48)
def cqOnly : State := (pf0.setFld F.DMA_CQ_STS_ENABLED 0 1).setFld F.DMA_CQ_CFG_LOG2SIZE 0 6
theorem test_RingEnable : cqOnly.takes (.fn 0) .DMA_SQ_CFG 5 ∧ cqOnly.ringEnabled false 5 = false ∧ cqOnly.sqEnableErr 5 (cfg5 ||| 1) = 0 ∧
    (nx (exec (.ringEnable (.fn 0) false 5 cfg5) cqOnly)).fld F.DMA_SQ_STS_FETCH 5 = 7 ∧
    (nx (exec (.ringEnable (.fn 0) false 5 6) cqOnly)).fld F.DMA_SQ_STS_ERR 5 = 1 ∧
    (nx (exec (.ringEnable (.fn 0) false 5 4) cqOnly)).fld F.DMA_SQ_STS_ERR 5 = 2 ∧
    (nx (exec (.ringEnable (.fn 0) true 1 0x60) cqOnly)).ringEnabled true 1 = true ∧
    (rings 0).takes (.fn 0) .DMA_SQ_CFG 5 ∧ (rings 0).takes (.fn 0) .DMA_CQ_CFG 0 ∧
    (nx (exec (.ringEnable (.fn 0) false 5 4) (rings 0))).fld F.DMA_SQ_STS_ERR 5 = 5 := by unfold State.takes; decide +kernel

def stopNow : State := (rings 0).setSq 5 { SqSt.idle with stopping := true }
theorem test_RingDisable : (rings 0).ringEnabled false 5 = true ∧
    ((Reg.DMA_SQ_CFG.written ((rings 0).reg .DMA_SQ_CFG 5) all64 ((rings 0).reg .DMA_SQ_CFG 5 &&& ~~~ 1)) ^^^ (rings 0).reg .DMA_SQ_CFG 5) &&&
      ~~~ liveMask false = 0 ∧
    ((nx (exec (.ringDisable (.fn 0) false 5 ((rings 0).reg .DMA_SQ_CFG 5)) (rings 0))).sq 5).stopping = true ∧
    (stopNow.sq 5).begun = [] ∧ (nx (exec (.ringDisableDone 5) stopNow)).ringEnabled false 5 = false ∧
    (nx (exec (.ringDisable (.fn 0) true 0 ((rings 0).reg .DMA_CQ_CFG 0)) (rings 0))).fld F.DMA_CQ_STS_ERR 0 = 6 ∧ cqOnly.cqBound 0 = false := by
  decide +kernel
def stopFailed : State := (rings 0).setSq 5 { SqSt.idle with stopping := true, failed := true }
theorem test_RingDisableDone : stopFailed.boundCq 5 = 0 ∧ stopFailed.cqPlaces 0 ≠ 0 ∧ (stopFailed.cq 0).staged = [] ∧ stopFailed.cqOpen 0 = true ∧
    (nx (exec (.ringDisableDone 5) stopFailed)).fld F.DMA_CQ_STS_TAIL 0 = 1 ∧
    (nx (exec (.ringDisableDone 5) (stopFailed.setCfg 0 1 0))).fld F.DMA_CQ_STS_TAIL 0 = 0 ∧
    ((nx (exec (.ringDisableDone 5) (stopFailed.setCfg 0 1 0))).cq 0).staged.length = 1 ∧ stopNow.fnMayIssue (stopNow.ownerOf false 5) = true ∧
    (nx (exec (.ringDisableDone 5) stopNow)).out = [.memWrite 0 0 [0, 0, 0, 0, 0, 0, 0, 0]] := by decide +kernel
theorem test_FuncRings : (nx (exec (.funcRingsWrite (.fn 0) 3 0x0000000000080008) State.reset)).fld F.PCX_STS_CFG_REFUSED 0 = 1 ∧
    State.reset.takes (.fn 0) .PCX_FUNC_RINGS 3 ∧
    (nx (exec (.funcRingsWrite (.fn 0) 3 0x000800080008F000) State.reset)).fld F.PCX_STS_CFG_REFUSED 0 = 1 := by
  unfold State.takes; decide +kernel

/-- HEAD 0, tail 3, 64 entries: T of 3 to 64 are accepted (R336). -/
def rung (t : Nat) : State := nx (exec (.doorbell 0 0x5000 4 (BitVec.ofNat 64 t)) (rings 0))
def cqFull : State := ((rings 0).setFld F.DMA_CQ_STS_TAIL 0 64).setCq 0 { CqSt.idle with staged := [body 16, body 16] }
def headedM (h : Nat) : State := nx (exec (.doorbell 0 8 8 (BitVec.ofNat 64 h)) cqFull)
theorem test_Doorbells : (rings 0).gate (.fn 0) = none ∧ (rings 0).globalRing 0 false 5 = some 5 ∧ (rings 0).globalRing 0 true 0 = some 0 ∧
    (rung 64).fld F.DMA_SQ_STS_TAIL 5 = 64 ∧ (rung 65).fld F.DMA_SQ_STS_DB_ERR 5 = 1 ∧ (rung 2).fld F.DMA_SQ_STS_DB_ERR 5 = 1 ∧
    (rung 2).fld F.DMA_SQ_STS_TAIL 5 = 3 ∧ (rings 0).counts .DMA_CNT 11 ∧ (rung 65).reg .DMA_CNT 11 = 1 ∧ (rung 3).fld F.DMA_SQ_STS_TAIL 5 = 3 ∧
    (headedM 1).fld F.DMA_CQ_STS_TAIL 0 = 65 ∧ ((headedM 1).cq 0).staged = [body 16] ∧ (headedM 65).fld F.DMA_CQ_STS_DB_ERR 0 = 1 ∧
    (nx (exec (.doorbell 0 0x6000 4 3) (rings 0))).reg .DMA_CNT 11 = 1 := by unfold State.counts; decide +kernel

/-- Between edges, HEAD `h` beyond the index last written; IDX_BATCH 16. -/
def lagging (h : Nat) : State := (((rings 0).setFld F.TIK_CLK_CLK 0 5).setFld F.DMA_CFG_IDX_BATCH 0 16).setFld F.DMA_SQ_STS_HEAD 5 h
theorem test_IndexAndFetch : (nx (exec (.doorbellFetch 0 false 5) (rings 0))).out = [.memRead 0 0 8 8] ∧ (rings 0).freeTag = some 0 ∧
    ((nx (exec (.doorbellFetch 0 false 5) ((rings 0).setSq 5 { SqSt.idle with fetching := true }))).sq 5).fetchMore = true ∧
    (nx (exec (.doorbellFetch 0 false 5) ((rings 0).setCfg 0 1 0))).out = [] ∧ (lagging 15).idxBatch = 16 ∧
    ((rings 0).setFld F.DMA_SQ_STS_HEAD 5 2).atEdge = true ∧ (lagging 15).atEdge = false ∧
    (nx (exec (.indexWrite false 5) (lagging 15))).out = [] ∧ (nx (exec (.indexWrite false 5) (lagging 16))).ringPublished false 5 = 16 ∧
    (nx (exec (.indexWrite false 5) ((rings 0).setFld F.DMA_SQ_STS_HEAD 5 2))).out = [.memWrite 0 0 [2, 0, 1, 0, 0, 0, 0, 0]] ∧
    (rings 0).fetchOrder = [5] ∧ (nx (exec .descriptorFetch (rings 0))).out = [.memRead 0 0 0 96] := by decide +kernel

/-- One PKT_TX descriptor: ADDR 0x1000, BUF_LEN 64, LEN `n`, DEST 1, TC 2. -/
def txd (n : Nat) : Bytes := leBytes 8 0x1000 ++ leBytes 2 64 ++ leBytes 2 n ++ leBytes 1 1 ++ leBytes 1 2 ++ List.replicate 18 0
def txSending (n : Nat) : State := (rings 0).setSq 5 { SqSt.idle with entries := [(0, txd n)] }
def sent (n : Nat) : State := nx (exec (.txFrame 5 .whole (body n)) (txSending n))
theorem test_TxFrame : (txSending 60).fnMayIssue ((txSending 60).ownerOf false 5) = true ∧
    cutReads ((txSending 60).maxRequest 0) 0 [(0x1000, 60)] = [(0, 0x1000, 60)] ∧ (txSending 60).pcie.ops = [] ∧ (txSending 60).pcie.reads = [] ∧
    (txSending 60).maxReads = 768 ∧ (sent 60).out = [.memRead 0 0 0x1000 60] ∧
    (nx (exec (.txFrame 5 .later []) (txSending 60))).dma.frames.length = 1 ∧
    (nx (exec (.txFrame 5 .later []) (txSending 60))).pcie.reads = [⟨0, 0, 0, 0, [], false, false⟩] ∧ (txSending 60).ctoDisabled 0 = false ∧
    (nx (exec (.txFrame 5 .timeout []) ((txSending 60).setCfg 0 0x41 0x8000))).reg .DMA_CNT 2 = 1 ∧
    (txSending 60).fld F.DMA_SQ_STS_ENABLED 5 = 1 ∧ (txSending 60).fld F.DMA_SQ_CFG_KIND 5 = 0 ∧ (txSending 60).sqBlocked 5 = false ∧ (txSending 60).cqPlaces ((txSending 60).boundCq 5) ≠ 0 ∧
    (txSending 60).hostPipe.map (·.1) = some 0 ∧ txEntries 16 ((txSending 60).sq 5).entries = some [(0, txd 60)] ∧ (txSending 60).txStatus [txd 60] 1 = 0 ∧
    ((sent 60).pipe 0).merge = [.host (body 60) (txMd (txd 60) 60 2) 1 2 (some (5, 0, 1, true)) none] ∧
    ((sent 60).sq 5).begun = [(0, 1, none)] ∧ (txSending 13).txStatus [txd 13] 1 = 4 ∧ (sent 13).reg .DMA_CNT 2 = 1 ∧ (sent 13).fld F.DMA_SQ_STS_HEAD 5 = 1 ∧
    (txSending 13).counts .DMA_CNT 2 := by unfold State.counts; decide +kernel

/-- One PKT_RX buffer of 256 bytes at 0x2000; a copy of `n` bytes waits, and class 0 selects ring 5. -/
def rxd : Bytes := leBytes 8 0x2000 ++ leBytes 2 256 ++ List.replicate 22 0
def delivering (n : Nat) (l : List (Nat × Bytes)) : State :=
  let s := ((rings 1).setFld F.DMA_RX_SEL_BASE 0 5).setFld F.DMA_RX_SEL_COUNT 0 1
  { s.setSq 5 { SqSt.idle with entries := l } with txq := [(130, [7])], copies := [(7, some (Copy.own .forward 130 0 (body n)))] }
theorem test_RxDeliver : (delivering 200 [(0, rxd)]).rxSelect (Copy.own .forward 130 0 (body 200)) = some 5 ∧
    SMap.get (fun _ => []) (delivering 200 [(0, rxd)]).txq 130 = [7] ∧ rxEntries 200 [(0, rxd)] = some [(0, rxd)] ∧ rxBufLen rxd ≠ 0 ∧
    (delivering 200 [(0, rxd)]).counts .DMA_CNT 3 ∧ (delivering 200 [(0, rxd)]).counts .DMA_CNT 4 ∧
    (nx (exec .rxDeliver (delivering 200 [(0, rxd)]))).reg .DMA_CNT 4 = 200 ∧ (nx (exec .rxDeliver (delivering 200 [(0, rxd)]))).fld F.DMA_SQ_STS_HEAD 5 = 1 ∧
    rxEntries 257 [(0, rxd)] = none ∧ (nx (exec .rxDeliver (delivering 257 [(0, rxd)]))).reg .DMA_CNT 5 = 1 ∧
    (nx (exec .rxDeliver (delivering 200 [(0, List.replicate 32 0)]))).reg .DMA_CNT 5 = 1 ∧
    ((nx (exec .rxDeliver (delivering 200 [(0, List.replicate 32 0)]))).sq 5).entries = [] ∧
    (nx (exec .rxDeliver ((delivering 200 [(0, rxd)]).setCq 0 { CqSt.idle with staged := List.replicate 64 [] }))).reg .DMA_CNT 6 = 1 ∧
    (nx (exec .rxDeliver ((delivering 200 [(0, rxd)]).setFld F.DMA_RX_SEL_COUNT 0 0))).reg .DMA_CNT 7 = 1 := by unfold State.counts; decide +kernel

/-- Sequencer 0, context 0 runs a program of ring 5, a CHART ring of PF0, whose fetched entries are `l`; PF0 may read. -/
def ctx5 : Ctx := Ctx.start 5
def prog (l : List Bytes) (x : Ctx) : State :=
  let s := ((rings 2).setCfg 0 1 4).setSq 5 { SqSt.idle with entries := l.zipIdx.map (fun e => (e.2, e.1)), begun := [(0, 0, none)] }
  s.setCtx 0 (some x)
/-- An entry: opcode, flags and LAST above it, TBL, DIES, COUNT, A, B (Table 15-1). -/
def ent (op fl tbl dies count a b : Nat) : Bytes :=
  leBytes 8 (op + fl * 256 + tbl * 4096 + dies * 65536 + count * 2 ^ 18 + a * 2 ^ 32) ++ leBytes 8 b
def runIt (c : Instr) (e : Bytes) : State := nx (exec c (prog [e, ent 0 1 0 0 0 0 0] ctx5))
abbrev ready (e : Bytes) : Prop := (prog [e, ent 0 1 0 0 0 0 0] ctx5).ctx 0 = some ctx5 ∧ (prog [e] ctx5).chartOn = true ∧
  (prog [e] ctx5).stagingWaits 0 0 e = false ∧ (prog [e] ctx5).chartCheck (ctx5.took 0 e) e = 0 ∧ chartIdle e = false
def bare : State := { prog [ent 0 1 0 0 0 0 0] ctx5 with chart := ⟨[], [], []⟩ }

theorem test_ProgramStart : bare.chartOn = true ∧ bare.ctx 0 = none ∧ bare.counts .CHT_CNT 0 ∧ bare.fld F.GLB_MODE_BUSY 0 = 0 ∧
    bare.programRing 0 = some 5 ∧ ((nx (exec (.programStart 0 0) bare)).ctx 0).map (·.ring) = some 5 := by unfold State.counts; decide +kernel

/-- A bad opcode, a stray field and a VF's instruction fail with 1, 1 and 3; a COUNT of 0 does nothing; an end writes its completion. -/
def endedN : State := nx (exec (.chartNop 0 0) (prog [ent 0 1 0 0 0 0 0] ctx5))
theorem test_ProgramEnds : ready (ent 0 0 0 0 0 0 0) ∧ ready (ent 0 1 0 0 0 0 0) ∧ ready (ent 2 0 0 0 0 0 0) ∧
    (runIt (.chartNop 0 0) (ent 0x7F 0 0 0 0 0 0)).reg .CHT_ERR 0 = BitVec.ofNat 64 (1 + 5 * 2 ^ 8 + 2 ^ 36) ∧
    chartUse (ent 0x7F 0 0 0 0 0 0) = none ∧ (runIt (.fence 0 0) (ent 2 0 0 0 0 9 0)).fld F.CHT_ERR_STATUS 0 = 1 ∧
    (runIt (.rbase 0 0) (ent 1 0 0 0 0 9 4)).fld F.CHT_ERR_STATUS 0 = 2 ∧
    chartIdle (ent 3 0 0 0 0 0 0) = true ∧ ((runIt (.waitTick 0 0) (ent 3 0 0 0 0 0 0)).ctx 0).map (·.done) = some 1 ∧
    endedN.fld F.DMA_SQ_STS_HEAD 5 = 1 ∧ endedN.out = [.memWrite 0 0 ([0, 0, 5, 0x30, 1, 0, 0, 0] ++ List.replicate 7 0 ++ [0x80])] ∧
    (prog [ent 0 1 0 0 0 0 0] ctx5).boundCq 5 = 0 ∧ 0 < (prog [ent 0 1 0 0 0 0 0] ctx5).cqFree 0 ∧
    (prog [ent 0 1 0 0 0 0 0] ctx5).counts .DMA_CNT 13 := by unfold State.counts; decide +kernel

theorem test_Waits : ready (ent 1 0 0 0 0 64 0x8000) ∧ ready (ent 3 0 0 0 7 0 0) ∧ ready (ent 4 2 0 0 0 5 0) ∧ ready (ent 6 0 0 0 0 0 0) ∧
    ((runIt (.rbase 0 0) (ent 1 0 0 0 0 64 0x8000)).ctx 0).map (·.area) = some (some (0x8000, 64, 0)) ∧
    ((runIt (.waitTick 0 0) (ent 3 0 0 0 7 0 0)).ctx 0).map (·.wait) = some (.ticks 7) ∧
    ((runIt (.waitAt 0 0) (ent 4 2 0 0 0 5 0)).ctx 0).map (·.wait) = some (.edge 5) ∧
    ((runIt (.waitAt 0 0) (ent 4 2 0 0 0 0x80000000 0)).ctx 0).map (·.done) = some 1 ∧
    ((nx (exec (.chartWaitEnd 0 0) (prog [] { ctx5 with wait := .ready }))).ctx 0).map (·.done) = some 1 ∧
    ((nx (exec (.discard 0 0) (prog [ent 6 0 0 0 0 0 0] { ctx5 with staged := [.tinv 4], holds := true }))).ctx 0).map (·.holds) = some false := by
  decide +kernel

/-- GLB_SPLIT at 0x30 reads 0; GLB_HEARTBEAT at 0x44 lists no CS. -/
def pollE (m v : Nat) : Bytes := ent 0x33 0 0 0 9 0x30 (v + m * 2 ^ 32)
theorem test_Polls : ready (pollE 0xFF 0) ∧ ready (ent 0x33 0 0 0 9 0x44 0) ∧
    ((runIt (.poll 0 0) (pollE 0xFF 0)).ctx 0).map (·.done) = some 1 ∧
    ((runIt (.poll 0 0) (pollE 0xFF 1)).ctx 0).map (·.wait) = some (.poll 9) ∧ ((runIt (.poll 0 0) (pollE 0xFF 1)).sq 5).entries.length = 2 ∧
    (runIt (.poll 0 0) (ent 0x33 0 0 0 9 0x44 0)).fld F.CHT_ERR_STATUS 0 = 3 ∧
    (nx (exec (.pollTimeout 0 0) (prog [pollE 0xFF 1] { ctx5 with wait := .poll 0 }))).fld F.CHT_ERR_STATUS 0 = 11 ∧
    ((nx (exec (.poll 0 0) (prog [pollE 0xFF 1] { ctx5 with wait := .poll 4 }))).ctx 0).map (·.wait) = some (.poll 4) := by decide +kernel

/-- XMIT of two frames of 60 bytes to port 3, class 1. -/
def xmitE : Bytes := ent 0x38 0 0 0 2 (60 + 3 * 2 ^ 14 + 2 ^ 22) 0x1000
def xmitted : State := runIt (.xmit 0 0 .whole (body 128)) xmitE
theorem test_Xmit : ready xmitE ∧ (prog [xmitE] ctx5).fnMayIssue 0 = true ∧ xmitted.nextId = 2 ∧ (xmitted.copy 1).map (·.port) = some 3 ∧
    (xmitted.copy 1).map (·.bytes.length) = some 60 ∧ (xmitted.buf 0).claims = [(13, .copy 0), (13, .copy 1)] ∧
    (xmitted.ctx 0).map (·.wait) = some .xmit ∧ (runIt (.xmit 0 0 .timeout []) xmitE).fld F.CHT_ERR_STATUS 0 = 4 := by decide +kernel

def stagedBy (c : Instr) (e : Bytes) : List CWrite := ((runIt c e).ctx 0).elim [] (fun x => x.staged)
def operand : Bytes := leBytes 8 0x0102030405060708 ++ List.replicate 184 0
/-- DINV of two BD entries, DWR of NEXTHOP 7 on its words, HDEL on both dies, TWR with VAL of slot 0, PIVW (Table 15-3). -/
theorem test_Stages : ready (ent 0x11 0 3 0 2 9 0) ∧ stagedBy (.dinv 0 0) (ent 0x11 0 3 0 2 9 0) = [.direct 4 9 none, .direct 4 10 none] ∧
    ready (ent 0x10 0 2 0 1 7 0x1000) ∧ stagedBy (.dwr 0 0 .whole operand) (ent 0x10 0 2 0 1 7 0x1000) = [.direct 3 7 (some 0x05060708)] ∧
    ready (ent 0x10 0 8 0 1 7 0x1000) ∧ ready (ent 0x10 0 9 0 1 7 0x1000) ∧ ready (ent 0x10 0 10 3 1 7 0x1000) ∧
    stagedBy (.dwr 0 0 .whole operand) (ent 0x10 0 9 0 1 7 0x1000) = [.stat 7 0x0405060708 0] ∧
    ready (ent 0x18 0 11 0 1 0 0x1000) ∧ ready (ent 0x19 0 12 3 1 0 0x1000) := by decide +kernel
theorem test_StagesMore : (stagedBy (.hdel 0 0 .whole operand) (ent 0x19 0 12 3 1 0 0x1000)).length = 2 ∧ ready (ent 0x20 2 0 0 1 0 0x1000) ∧
    ready (ent 0x21 0 0 0 1 6 0) ∧ stagedBy (.tinv 0 0) (ent 0x21 0 0 0 1 6 0) = [.tinv 6] ∧ ready (ent 0x22 0 0 0 1 6 0) ∧
    ready (ent 0x23 0 0 0 1 6 0x1000) ∧ stagedBy (.tact 0 0 .whole operand) (ent 0x23 0 0 0 1 6 0x1000) = [.tact 6 0x0102030405060708] ∧
    ready (ent 0x25 0 0 0 1 6 0x1000) ∧ stagedBy (.pivw 0 0 .whole operand) (ent 0x25 0 0 0 1 6 0x1000) = [.pivot 6 0x0102030405060708] := by
  decide +kernel
/-- The operand of a PIVW is asked for and the program waits; or it is there already; or PF0 may not issue. -/
def pivwE : Bytes := ent 0x25 0 0 0 1 6 0x1000
def askedFor : State := nx (exec (.pivw 0 0 .later []) (prog [pivwE] ctx5))
theorem test_Operands : cutReads ((prog [pivwE] ctx5).maxRequest 0) 0 [(0x1000, 8)] = [(0, 0x1000, 8)] ∧
    (askedFor.ctx 0).map (·.wait) = some .operand ∧ askedFor.out = [.memRead 0 0 0x1000 8] ∧
    askedFor.pcie.reads = [⟨0, 0, 0, 0, [], false, false⟩] ∧ askedFor.pcie.ops.map (·.what) = [.operand 0] ∧
    ((nx (exec (.pivw 0 0 .later []) (prog [pivwE, ent 0 1 0 0 0 0 0] { ctx5 with operand := some (operand.take 8) }))).ctx 0).map (·.staged) =
      some [.pivot 6 0x0102030405060708] ∧
    (nx (exec (.pivw 0 0 .whole operand) ((prog [pivwE] ctx5).setCfg 0 1 0))).fld F.CHT_ERR_STATUS 0 = 4 := by decide +kernel
/-- The entry of a PIVW arrives, its operand is read ahead, and arrives: the instruction then executes with it (R359). -/
def fetched (e : Bytes) : State :=
  let s := prog [] ctx5
  nx (exec (.readCompletion 0x105 .ok true e) { s with chart := State.reset.chart, pcie := { s.pcie with
    reads := [⟨0x105, 0, 0, 0, [], false, false⟩], ops := [⟨0, 0, .descriptors 5 0 1, [], [none]⟩], nextOp := 1 } })
def readOn (status : CplStatus) (data : Bytes) : State := nx (exec (.readCompletion 0 status true data) (fetched pivwE))
theorem test_ReadAhead : (fetched pivwE).dma.ahead = [⟨1, 5, 0, false, none⟩] ∧ (fetched pivwE).out = [.memRead 0 0 0x1000 8] ∧
    (fetched pivwE).pcie.ops.map (·.what) = [.ahead 1] ∧ (fetched pivwE).chart.ctxs = [] ∧ (fetched (ent 0x21 0 0 0 1 6 0)).dma.ahead = [] ∧
    (readOn .ok (operand.take 8)).dma.ahead = [⟨1, 5, 0, false, some (some (operand.take 8))⟩] ∧
    (readOn .abort []).dma.ahead = [⟨1, 5, 0, false, some none⟩] := by decide +kernel
/-- The program of ring 5 runs with that record of its first entry. -/
def withRecord (r : Option (Option Bytes)) : State :=
  let s := fetched pivwE
  State.setCtx { s with dma := { s.dma with ahead := [⟨1, 5, 0, false, r⟩] } } 0 (some ctx5)
theorem test_ReadAheadUsed : ((nx (exec (.pivw 0 0 .later []) (withRecord none))).ctx 0).map (·.wait) = some .operand ∧
    (nx (exec (.pivw 0 0 .later []) (withRecord (some (some (operand.take 8)))))).fld F.CHT_ERR_STATUS 0 = 0 ∧
    (nx (exec (.pivw 0 0 .later []) (withRecord (some (some (operand.take 8)))))).reg .CHT_CNT 1 = 1 ∧
    (nx (exec (.pivw 0 0 .later []) (withRecord (some none)))).fld F.CHT_ERR_STATUS 0 = 4 := by decide +kernel
theorem test_StagingWaits : (prog [ent 0x21 0 0 0 1 6 0] ctx5 |>.setCtx 1 (some { Ctx.start 6 with holds := true })).stagingWaits 0 0 (ent 0x21 0 0 0 1 6 0) = true ∧
    (runIt (.pivw 0 0 .timeout []) (ent 0x25 0 0 0 1 6 0x1000)).fld F.CHT_ERR_STATUS 0 = 4 ∧
    (runIt (.pivw 0 0 .timeout []) (ent 0x25 0 0 0 1 6 0x1000)).reg .PCX_CNT 0 = 1 := by decide +kernel

/-- COMMIT of one write; and a waiting commit of it, due at edge 1. -/
def commitE : Bytes := ent 5 0 0 0 0 0 0
def committing (l : List CWrite) : State := prog [commitE, ent 0 1 0 0 0 0 0] { ctx5 with staged := l, holds := true }
def dueCommit (w : CWrite) : State :=
  let s := (prog [] { ctx5 with staged := [w], holds := true, wait := .commit }).setReg .TIK_COUNT 0 1
  { s with chart := { s.chart with commits := [⟨0, 0, 0, 0, [w], []⟩] } }
def appliedN (w : CWrite) : State := nx (exec .commitApply (dueCommit w))
theorem test_Commit : ready commitE ∧ ((nx (exec (.commit 0 0) (committing [.direct 4 9 (some 3)]))).chart.commits.map (fun m => m.due)) = [1] ∧
    (((nx (exec (.commit 0 0) (committing [.direct 4 9 (some 3)]))).ctx 0).map (fun x => x.wait)) = some .commit ∧
    (nx (exec (.commit 0 0) (committing [.direct 4 9 (some 3), .direct 4 9 none]))).fld F.CHT_ERR_STATUS 0 = 9 ∧
    (nx (exec (.commit 0 0) ((committing [.direct 4 9 (some 3)]).setFld F.PWR_DOM_STS_STATE 50 0))).fld F.CHT_ERR_STATUS 0 = 14 ∧
    ((nx (exec (.commit 0 0) (committing []))).ctx 0).map (·.done) = some 1 := by decide +kernel
theorem test_CommitApply : (dueCommit (.stat 4 5 6)).chart.commits.length = 1 ∧ ((dueCommit (.stat 4 5 6)).ctx 0).map (·.wait) = some .commit ∧
    (appliedN (.stat 4 5 6)).statPair 4 = (5, 6) ∧ (appliedN (.direct 4 9 (some 3))).tabs.direct? 4 9 = ⟨true, 3⟩ ∧
    SMap.get (fun _ => 0) (appliedN (.pivot 4 5)).tabs.piv 4100 = 5 ∧ ((appliedN (.tinv 0)).tval 0).cur = false ∧
    ((appliedN (.stat 4 5 6)).ctx 0).map (fun x => (x.commits, x.ctick, x.done)) = some (1, 1, 1) ∧ (appliedN (.stat 4 5 6)).reg .CHT_CNT 2 = 1 ∧
    (nx (exec .commitApply ((dueCommit (.direct 4 9 (some 3))).setFld F.PWR_DOM_STS_STATE 50 0))).fld F.CHT_ERR_STATUS 0 = 14 ∧
    (nx (exec .commitApply ({ dueCommit (.direct 4 9 (some 3)) with wrote := (4096, 0) }))).fld F.TIK_COMMIT_DEFER_COUNT 0 = 1 := by decide +kernel

/-- With a result area of 256 bytes at 0x8000. -/
def areaed : Ctx := { ctx5 with area := some (0x8000, 256, 8) }
def reads (c : Instr) (e : Bytes) (f : State → State) : List Out := (nx (exec c (f (prog [e] areaed)))).out
def bd9N (s : State) : State := s.setTabs (s.tabs.setDirect 4 9 ⟨true, 0x0807060504030201⟩)
theorem test_ReadsTables : ready (ent 0x12 0 3 0 1 9 0) ∧ (prog [] areaed).domOn (50 + directDie 4 9) = true ∧
    reads (.drd 0 0 []) (ent 0x12 0 3 0 1 9 0) bd9N = [.memWrite 0 0x8008 [1, 0, 0, 0, 9, 0, 0, 0, 1, 2, 3, 4, 5, 6, 7, 8]] ∧
    (runIt (.drd 0 0 []) (ent 0x12 0 3 0 1 9 0)).fld F.CHT_ERR_STATUS 0 = 5 ∧ ready (ent 0x26 0 0 0 1 4 0) ∧
    reads (.pivr 0 0) (ent 0x26 0 0 0 1 4 0) id = [.memWrite 0 0x8008 [0, 0, 0, 0, 0, 0, 0, 0]] ∧ ready (ent 0x24 0 0 0 1 0 0) ∧
    (prog [] areaed).panelOn 0 = true ∧ 0 % 32768 / 4096 % (prog [] areaed).panelSlots 0 = 0 ∧ ready (ent 0x30 0 0 0 1 0 0) ∧
    reads (.regr 0 0) (ent 0x30 0 0 0 1 0 0) id = [.memWrite 0 0x8008 [0xD4, 0x1F, 0x60, 0x25, 0, 0, 0, 0]] ∧
    (nx (exec (.regr 0 0) (prog [ent 0x30 0 0 0 1 0x44 0] areaed))).fld F.CHT_ERR_STATUS 0 = 3 := by decide +kernel
/-- The hash records of a key that is absent, and of the end of a scan. -/
def status (l : List Out) : List Nat := l.filterMap (fun o => match o with | .memWrite _ _ d => some (leAt d 42 1) | _ => none)
theorem test_ReadsHash : ready (ent 0x1A 0 11 0 1 0 0x1000) ∧ (prog [] areaed).tabs.findKey 0 0 (List.replicate 10 0) = none ∧
    status (reads (.hsrch 0 0 .whole (List.replicate 64 0) []) (ent 0x1A 0 11 0 1 0 0x1000) id) = [1] ∧
    status (reads (.hsrch 0 0 .whole (List.replicate 64 0) []) (ent 0x1A 0 11 0 1 0 0x1000) (fun s => s.setFld F.PWR_DOM_STS_STATE 50 0)) = [4] ∧
    ready (ent 0x1B 0 11 0 1 0 0) ∧ (prog [] areaed).entryFrom 0 0 0 = none ∧ ((prog [] areaed).learning 0).scans = [] ∧
    status (reads (.hnext 0 0) (ent 0x1B 0 11 0 1 0 0) id) = [2] := by decide +kernel
theorem test_WritesAndFlush : ready (ent 0x31 0 0 0 1 0x30 7) ∧ (prog [] areaed).takes (.cs 0) .GLB_SPLIT 0 ∧
    (runIt (.regw 0 0) (ent 0x31 0 0 0 1 0x30 7)).reg .GLB_SPLIT 0 = 7 ∧ ready (ent 0x32 0 0 0 1 0x30 (2 ^ 32 * 0x0C + 0x1F)) ∧
    (runIt (.regm 0 0) (ent 0x32 0 0 0 1 0x30 (2 ^ 32 * 0x0C + 0x1F))).reg .GLB_SPLIT 0 = 0x0C ∧ ready (ent 0x1C 4 11 0 0 3 0) ∧
    ready (ent 0x1C 0 11 0 0 3 0) ∧ (runIt (.flush 0 0) (ent 0x1C 0 11 0 0 3 0)).flushes.length = 1 ∧
    ((nx (exec (.flush 0 0) (prog [ent 0x1C 4 11 0 0 3 0] areaed))).ctx 0).map (·.wait) = some (.flush 0) ∧
    (prog [] areaed).flushBusy 0 = false := by unfold State.takes; decide +kernel

/-- Octet 9's PLL loses lock in tick 9,000 (Table 16-4): source 0 of SDS, instance 9, SHUT. -/
def pll : State := { withFld F.GLB_MODE_CUR 0 4 with flt := State.reset.flt }.setReg .TIK_COUNT 0 9000
def pllHit : State := nx (exec (.faultDetect 19 0 9 0 0 true) pll)
theorem test_FaultDetected : fltSource 19 0 = some (3, 2) ∧ bitOf (pll.fld F.FLT_STS_STS 19) 0 = false ∧ pll.cqRoom (pll.fld F.DMA_NTF_MAP_RING 9) = true ∧
    bitOf (pllHit.fld F.FLT_STS_STS 19) 0 = true ∧ pllHit.fld F.FLT_CNT_COUNT 608 = 1 ∧ pllHit.reg .FLT_INST 38 = 512 ∧
    pllHit.fld F.FLT_FIRST_SRC 19 = 0 ∧ pllHit.fld F.FLT_FIRST_INST 19 = 9 ∧ pllHit.fld F.FLT_FIRST_TICK 19 = 9000 ∧
    pllHit.flt.live = [(19, 0, 9)] ∧ pllHit.flt.react = [⟨19, 0, 9, 0, 0, 9000, false, false⟩] ∧
    bitOf (pll.fld F.FLT_EN_JRN_EN 19) 0 = true ∧ pll.jrn.queue.length < 64 ∧
    pllHit.jrn.queue.map (fun r => r.body.take 10) = [[19, 0, 0x23, 4, 9, 0, 1, 0, 0, 0]] := by decide +kernel

/-- The NOTIFY ring 0 of PF0 is bound to TYPE 9, its record enabled; the interrupt of SDS is enabled to vector 3 of PF0. -/
def toldOn : State := (((((((pll.setCfg 0 1 4 |>.setReg .FLT_EN_NTF 19 1).setReg .FLT_EN_INT 19 1).setFld F.PCX_ISRC_EN 35 1).setFld F.PCX_ISRC_VEC 35 3).setFld
  F.DMA_NTF_MAP_EN 9 1).setFld F.DMA_CQ_STS_ENABLED 0 1).setFld F.DMA_CQ_CFG_KIND 0 1).setFld F.DMA_CQ_CFG_LOG2SIZE 0 4
def told : State := nx (exec (.faultDetect 19 0 9 0 0 true) toldOn)
theorem test_FaultTold : bitOf (toldOn.fld F.FLT_EN_NTF_EN 19) 0 = true ∧ bitOf (toldOn.fld F.FLT_EN_INT_EN 19) 0 = true ∧
    toldOn.fld F.PCX_ISRC_EN 35 = 1 ∧ vectorNum (toldOn.fld F.PCX_ISRC_FUNC 35) (toldOn.fld F.PCX_ISRC_VEC 35) = some 3 ∧
    toldOn.modeRefuses 0 = false ∧ told.fld F.PCX_IMOD_PEND 3 = 1 ∧ (toldOn.cq 0).staged = [] ∧ toldOn.cqOpen 0 = true ∧
    told.reg .DMA_CNT 8 = 1 ∧ told.out = [.memWrite 0 0 ([9, 0, 19, 0, 0, 0x13, 0, 0, 1, 0, 0, 0] ++ List.replicate 16 0 ++ [0x28, 0x23, 0, 0x80])] := by
  decide +kernel

/-- The first read of a poisoned cell, an SA's memory, a store word of a needle that is gone, and an error detected again. -/
theorem test_FaultHits : fltSource 14 1 = some (2, 5) ∧ fltSource 21 0 = some (3, 2) ∧ fltSource 9 1 = some (2, 5) ∧ fltSource 18 0 = some (2, 5) ∧
    fltSource 3 9 = none ∧ fltSource 17 2 = some (2, 5) ∧ (nx (exec (.faultDetect 19 0 9 0 0 true) pllHit)).fld F.FLT_CNT_COUNT 608 = 2 ∧
    (nx (exec (.faultDetect 19 0 9 0 0 true) pllHit)).flt.react.length = 1 ∧
    (nx (exec (.faultDetect 21 0 9 5 0 false) (State.reset.setFld F.MSC_SA_CTL_EN 69 1))).fld F.MSC_SA_CTL_EN 69 = 0 ∧
    (nx (exec (.faultDetect 17 2 1 0 0 false) State.reset)).reg .HBC_CNT 13 = 1 ∧ State.reset.counts .HBC_CNT 13 ∧
    (nx (exec (.faultConditionCleared 19 0 9) pllHit)).flt.live = [] := by unfold State.counts; decide +kernel

/-- FLT_INJ of SDS source 0, instance 9: MODE 0; of SKN source 0 with MODE 1; outside SWATCH; and without GO (R390). -/
def swatch : State := withFld F.GLB_MODE_CUR 0 10
theorem test_FaultInject : swatch.takes (.mc 0) .FLT_INJ 19 ∧ swatch.takes (.mc 0) .FLT_INJ 14 ∧ State.reset.takes (.mc 0) .FLT_INJ 19 ∧
    eccSource 14 0 = true ∧ (nx (exec (.faultInject (.mc 0) 14 0x90000100) swatch)).flt.armed = [(14, 0, 1, 1)] ∧
    bitOf ((nx (exec (.faultInject (.mc 0) 19 0x80000900) State.reset)).fld F.FLT_STS_STS 0) 5 = true ∧
    (nx (exec (.faultInject (.mc 0) 19 0x80000900) swatch)).fld F.FLT_FIRST_INFO_INJ 19 = 1 ∧
    (nx (exec (.faultInject (.mc 0) 19 0x80000900) swatch)).fld F.FLT_FIRST_INST 19 = 9 ∧
    (nx (exec (.faultInject (.mc 0) 19 0x00000900) swatch)).reg .FLT_STS 19 = 0 := by
  unfold State.takes; decide +kernel

/-- At edge 9,001 the reaction of Table 16-4 is taken: the ports of octet 9 are shut. -/
def edge9001 (r : React) (s : State) : State := { s with flt := { s.flt with react := [r] } }.setReg .TIK_COUNT 0 9001
def due (k src inst : Nat) (info : BitVec 48) (hit : Nat) : React := ⟨k, src, inst, info, hit, 9000, false, false⟩
def shut : State := edge9001 (due 19 0 9 0 0) (((pll.setFld F.MAC_PORT_CFG_EN 72 1).setFld F.MAC_PORT_STS_STATE 72 2).setFld F.MAC_PORT_CFG_EN 76 1)
theorem test_ReactionShut : shut.flt.react = [] ++ due 19 0 9 0 0 :: [] ∧ (due 19 0 9 0 0).tick ≠ shut.tikCount ∧
    bitOf (shut.fld F.FLT_EN_ACT_EN 19) 0 = true ∧ shut.split 11 = false ∧ shut.fld F.MAC_PORT_CFG_EN 72 = 1 ∧ shut.portState 72 = 2 ∧
    (nx (exec (.faultReaction 19 0 9) shut)).portState 72 = 3 ∧ (nx (exec (.faultReaction 19 0 9) shut)).fld F.MAC_PORT_CFG_EN 76 = 0 ∧
    ((nx (exec (.faultReaction 19 0 9) shut)).port 72).marked = true ∧ (nx (exec (.faultReaction 19 0 9) shut)).flt.react = [] ∧
    shut.atEdge = true ∧ (nx (exec (.faultReaction 19 0 9) (shut.setFld F.TIK_CLK_CLK 0 1))).portState 72 = 2 ∧
    (nx (exec (.faultReaction 19 0 9) { shut with flt := { shut.flt with react := [{ due 19 0 9 0 0 with withheld := true }] } })).portState 72 = 2 := by decide +kernel

def reacted (k src inst : Nat) (info : BitVec 48) (s : State) : State :=
  nx (exec (.faultReaction ⟨k % 23, Nat.mod_lt _ (by decide)⟩ ⟨src % 32, Nat.mod_lt _ (by decide)⟩ ⟨inst % 65536, Nat.mod_lt _ (by decide)⟩)
    (edge9001 (due k src inst info 0) s))
def acts (k src : Nat) : Bool := bitOf (State.reset.fld F.FLT_EN_ACT_EN k) src
/-- Group 7 of die 0 is in use. -/
def grouped : State := pll.setTabs { pll.tabs with mcg := [(7, 0x1000000000000000000000005)] }
theorem test_Reactions : acts 0 1 ∧ acts 0 3 ∧ acts 0 4 ∧ acts 2 0 ∧ acts 2 2 ∧ acts 2 4 ∧ acts 6 1 ∧ acts 10 2 ∧ acts 11 1 ∧ acts 14 2 ∧ acts 16 0 ∧
    acts 16 1 ∧ acts 17 4 ∧ acts 17 6 ∧ acts 20 2 ∧ acts 21 0 ∧
    (reacted 0 1 5 0 pll).flt.modules = [5] ∧ (reacted 17 6 1 0 (pll.setFld F.SKN_SPILL_CFG_EN 0 1)).fld F.SKN_SPILL_CFG_EN 0 = 0 ∧
    acts 15 2 ∧ (reacted 15 2 0 7 grouped).tabs.mcg = [(7, 5)] ∧ (reacted 16 1 0 7 (pll.setFld F.YRN_ROUTE_V 7 1)).fld F.YRN_ROUTE_V 7 = 0 ∧
    (reacted 2 4 50 0 pll).domState 50 = 6 ∧ (reacted 2 4 50 0 pll).curMode = 5 ∧ (reacted 2 4 50 0 pll).fld F.GLB_MODE_REASON 0 = 7 ∧
    (reacted 2 0 0 0 pll).curMode = 6 ∧ (reacted 0 4 0 0 pll).curMode = 3 ∧ (reacted 0 4 0 0 pll).fld F.GLB_MODE_SEQ 0 = pll.fld F.GLB_MODE_SEQ 0 + 1 := by decide +kernel

def bound : State := { (portIn 2).setFld F.MAC_PORT_CFG_EN 0 1 with flt := { State.reset.flt with react := [due 20 2 0 0 0] } }
theorem test_ReactionBindoff : bound.split 11 = false ∧ bound.portState 0 = 2 ∧ (bound.port 0).faultRun < bound.downDeb 0 ∧
    (due 20 2 0 0 0).tick ≠ bound.tikCount ∧ (nx (exec (.faultReaction 20 2 0) bound)).portState 0 = 3 ∧
    (nx (exec (.faultReaction 20 2 0) bound)).fld F.MAC_PORT_CFG_EN 0 = 1 := by decide +kernel

/-- Two records wait; one place in the bucket, then none. BOOT is 3: the fifth record of the boot goes to slot 1,029 (R386). -/
def jr : JrnRec := ⟨1, 1, 9000, 0, 0, [19, 0]⟩
def waiting (n seq : Nat) : State :=
  { withFld F.BOOT_JRN_STS_BOOT 0 3 with jrn := { State.reset.jrn with queue := [jr, jr], bucket := n, seq := seq, ringNext := 8191 } }
theorem test_Journal : State.reset.jrn.queue = [] ∧ (waiting 1 5).jrn.queue = jr :: [jr] ∧
    ((nx (exec .journalWrite (waiting 1 5))).jrnRecord 1029).take 16 = [1, 1, 0, 0, 3, 0, 0, 0, 5, 0, 0, 0, 0, 0, 0, 0] ∧
    ((nx (exec .journalWrite (waiting 1 5))).jrnRecord 1029).length = 128 ∧
    (nx (exec .journalWrite (waiting 1 5))).fld F.BOOT_JRN_STS_NEXT 0 = 1030 ∧
    (nx (exec .journalWrite (waiting 1 1024))).fld F.BOOT_JRN_STS_NEXT 0 = 2048 ∧
    (nx (exec .journalWrite (waiting 0 5))).fld F.BOOT_JRN_STS_DROPS 0 = 1 ∧ swatch.takes (.mc 0) .BOOT_JRN_CMD 0 ∧
    ({ swatch with jrn := (nx (exec .journalWrite (waiting 1 5))).jrn } : State).takes (.mc 0) .BOOT_JRN_CMD 0 ∧
    (nx (exec (.journalErase (.mc 0) 1) { swatch with jrn := (nx (exec .journalWrite (waiting 1 5))).jrn })).jrn.mram = [] := by
  unfold State.takes; decide +kernel

/-- Range 0 names MAC_CNT of port 0 (16 counters from 0x2010080), or a STATS pair, or GLB_SPLIT, which no range may name. -/
def macAt : Nat := ((List.range 4096).find? (fun x => locate (0x2010000 + 8 * x) == some (.MAC_CNT, 0, 0))).getD 0 * 8 + 0x2010000
def rngA (first count : Nat) (en stats : Bool) : BitVec 64 :=
  BitVec.ofNat 64 (first + (if stats then 2 ^ 26 else 0) + (if en then 2 ^ 27 else 0) + count * 2 ^ 32)
def sized : State := (withFld F.GGE_COL_SIZE_PAGES 0 1).setReg .GGE_COL_RNG_B 0 8
def rangeTo (v : BitVec 64) (s : State) : State := nx (exec (.collectionRangeWrite (.mc 0) false 0 v) s)
theorem test_GaugeWrites : State.reset.takes (.mc 0) .GGE_CNT 5 ∧ State.reset.takes (.mc 0) .GGE_COL_CMD 0 ∧
    sized.takes (.mc 0) .GGE_COL_RNG_A 0 ∧ sized.takes (.mc 0) .GGE_COL_RNG_B 0 ∧
    (nx (exec (.gaugeCounterWrite (.mc 0) 5 0xFFFFFFFFFFFFFF) State.reset)).fld F.GGE_CNT_COUNT 5 = 2 ^ 48 - 1 ∧
    (nx (exec (.collectionRequest (.mc 0) 0x80000000) State.reset)).gauge.go = true ∧
    (nx (exec (.collectionRequest (.mc 0) 0x80000000) (withFld F.GGE_COL_STS_BUSY 0 1))).fld F.GGE_COL_STS_SKIPPED 0 = 1 := by
  unfold State.takes; decide +kernel

theorem test_GaugeRanges :
    (rangeTo (rngA macAt 2 true false) sized).reg .GGE_COL_RNG_A 0 = rngA macAt 2 true false ∧
    (rangeTo (rngA 0x30 1 true false) sized).fld F.GGE_COL_STS_CFG_REFUSED 0 = 1 ∧
    (rangeTo (rngA 0xFFFFF 1 true true) sized).fld F.GGE_COL_RNG_A_EN 0 = 1 ∧
    (rangeTo (rngA 0xFFFFF 2 true true) sized).fld F.GGE_COL_STS_CFG_REFUSED 0 = 1 ∧
    (rangeTo (rngA 0 253 true true) sized).fld F.GGE_COL_RNG_A_EN 0 = 1 ∧
    (rangeTo (rngA 0 254 true true) sized).fld F.GGE_COL_STS_CFG_REFUSED 0 = 1 ∧
    (rangeTo (rngA macAt 1 true false) (rangeTo (rngA macAt 2 true false) sized)).fld F.GGE_COL_STS_CFG_REFUSED 0 = 1 := by decide +kernel

/-- Range 0 collects MAC_CNT 0 and 1 of port 0, by period 4 at tick 8, as PF0 may issue; the buffer is at 0x5000. -/
def collecting : State := ((((((rangeTo (rngA macAt 2 true false) sized).setFld F.GGE_COL_CFG_EN 0 1).setFld F.GGE_COL_CFG_PERIOD 0 4).setReg
  .TIK_COUNT 0 8).setReg .MAC_CNT 0 7).setReg .GGE_COL_ADDR 0 0x5000)
def live0 : State := (rings 2).setCfg 0 1 4
def issuing : State := { collecting with pcie := live0.pcie }
def col1 : State := nx (exec .collectionDue issuing)
theorem test_Collections : issuing.atEdge = true ∧ issuing.split 12 = false ∧ issuing.gauge.decided = none ∧ issuing.fld F.GGE_COL_CFG_EN 0 = 1 ∧
    issuing.tikCount.toNat % max 1 (issuing.fld F.GGE_COL_CFG_PERIOD 0) = 0 ∧ issuing.fnMayIssue 0 = true ∧
    issuing.collectSet = [(false, Reg.MAC_CNT.key 0, 0), (false, Reg.MAC_CNT.key 1, 0)] ∧
    col1.gauge.col.map (·.values) = some [7, 0] ∧ col1.fld F.GGE_COL_STS_BUSY 0 = 1 ∧
    (nx (exec .collectionDone col1)).out = [.memWrite 0 0x5000 ([0, 0, 0, 0, 2, 0, 0, 0, 8] ++ List.replicate 23 0),
      .memWrite 0 0x5020 (7 :: List.replicate 15 0), .memWrite 0 0x5030 [0, 0, 0, 0, 2, 0, 0, 0]] ∧
    (nx (exec .collectionDone col1)).fld F.GGE_COL_STS_DONE 0 = 1 ∧ (nx (exec .collectionDue collecting)).fld F.GGE_COL_STS_SKIPPED 0 = 1 ∧
    (nx (exec .collectionDue (issuing.setFld F.GGE_COL_STS_BUSY 0 1))).fld F.TIK_OVERRUN_COUNT 6 = 1 := by decide +kernel

/-- A collection that froze MAC_CNT 0 of port 0, with 5 in its pending count. -/
def frozen : State := { (State.reset.setCfg 0 1 4).setReg .MAC_CNT 0 7 with gauge := { State.reset.gauge with
  col := some ⟨1, true, 8, 0, 0, [(false, Reg.MAC_CNT.key 0, 0)], [], 0⟩, held := [Reg.MAC_CNT.key 0], pend := [(Reg.MAC_CNT.key 0, 5)] } }
theorem test_CollectionThaws : frozen.gauge.col.map (·.freeze) = some true ∧ Reg.MAC_CNT.collectable = true ∧
    frozen.fnMayIssue 0 = true ∧ (nx (exec .collectionDone frozen)).reg .MAC_CNT 0 = 12 ∧ (nx (exec .collectionDone frozen)).gauge.held = [] := by decide +kernel

/-- A sample of die 1, dispatched in tick 9, leaves through ring 0 in tick 10. -/
def sampled : State := (((({ State.reset.setCfg 0 1 4 with gauge := { State.reset.gauge with samples := [(1, [⟨0x43, 2, [5], 9⟩])] } } : State).setReg .TIK_COUNT 0 10).setFld
  F.DMA_NTF_MAP_EN 10 1).setFld F.DMA_CQ_STS_ENABLED 0 1).setFld F.DMA_CQ_CFG_KIND 0 1
theorem test_SampleDrain : State.reset.samplesOf 0 = [] ∧ sampled.samplesOf 1 = ⟨0x43, 2, [5], 9⟩ :: [] ∧ (sampled.cq 0).staged = [] ∧
    sampled.cqOpen 0 = true ∧ (nx (exec (.sampleDrain 1) sampled)).tikCount = 10 ∧ (nx (exec (.sampleDrain 1) sampled)).out =
      [.memWrite 0 0 ([10, 2, 0x43, 0, 5] ++ List.replicate 23 0 ++ [9, 0, 2, 0x80])] := by decide +kernel

theorem test_Off : (withFld F.GLB_MODE_CUR 0 4).curMode ≠ 0 ∧ (withFld F.GLB_MODE_CUR 0 0).curMode = 0 ∧
    (nx (exec .porNAssert (withFld F.BOOT_STS_SVN_MIN 0 5))).fld F.BOOT_STS_SVN_MIN 0 = 5 ∧
    (nx (exec .porNAssert State.reset)).domState 62 = 0 ∧ (nx (exec .thermalTrip State.reset)).domState 62 = 3 ∧
    (nx (exec .thermalTrip State.reset)).pwr.trip = true ∧ (nx (exec .refclkLoss State.reset)).curMode = 0 ∧
    bitOf (State.reset.fld F.FLT_STS_STS 2) 3 = false ∧ State.reset.cqRoom (State.reset.fld F.DMA_NTF_MAP_RING 9) = true ∧
    bitOf (State.reset.fld F.FLT_EN_JRN_EN 2) 3 = true ∧ bitOf (State.reset.fld F.FLT_STS_STS 2) 1 = false ∧
    bitOf (State.reset.fld F.FLT_EN_JRN_EN 2) 1 = true ∧
    (((nx (exec (.railFault false) State.reset)).jrnRecord State.reset.jrnSlot).drop 32).take 3 = [2, 3, 0x55] := by decide +kernel

/-- From READY, unconfirmed, after a PREFER of 1 and with debug access open: RESTART with and without the guard. -/
def dbg : State := (withFld F.SEC_DBG_STS_LEVEL 0 2).setFld F.BOOT_CFG_PREFER 0 1
theorem test_Restart : dbg.takes (.mc 0) .BOOT_CTL 0 ∧ (0x0000B000 : BitVec 32) &&& 0x1D = 0 ∧ dbg.RegsCanonical ∧
    (nx (exec (.restart (.mc 0) 0xB000) dbg)).reg .GLB_MODE 0 = 0x01000131 ∧ (nx (exec (.restart (.mc 0) 0xB000) dbg)).boot.step = 0 ∧
    (nx (exec (.restart (.mc 0) 0xB000) dbg)).fld F.SEC_DBG_STS_LEVEL 0 = 0 ∧ (nx (exec (.restart (.mc 0) 0xB000) dbg)).fld F.BOOT_CFG_PREFER 0 = 1 ∧
    (nx (exec (.restart (.mc 0) 0xB100) dbg)).curMode = 3 := by unfold State.takes State.RegsCanonical; decide +kernel

def expired : State := { State.reset with boot := { State.reset.boot with wdog := 0 } }
def casting : State := { withFld F.GLB_MODE_CUR 0 1 with boot := { State.reset.boot with step := 0 } }
theorem test_Expiry : expired.curMode ≠ 0 ∧ expired.boot.wdog = 0 ∧ (nx (exec .watchdogExpire expired)).fld F.BOOT_STS_CAUSE 0 = 1 ∧
    State.reset.boot.wdog ≠ 0 ∧ casting.curMode = 1 ∧ casting.boot.step < 8 ∧ ¬ (State.reset.curMode = 1) ∧
    (nx (exec .castOnStepTimeout casting)).fld F.BOOT_STS_CAUSE 0 = 1 := by decide +kernel

/-- Starts from OFF with both slots unreadable, after three failed starts, and stopped at C1 and C2. -/
def offState : State := nx (exec .porNAssert State.reset)
def tries (n : Nat) : State := offState.setFld F.BOOT_STS_ATTEMPT 0 n
def begins (k : Fin 9) (s : State) : State := nx (exec (.start ⟨k, true, true, [], [], []⟩) s)
theorem test_Start : offState.curMode = 0 ∧ offState.boot.needPor = false ∧ offState.boot.prev < 16 ∧ State.reset.curMode = 3 ∧
    casting.curMode = 1 ∧ casting.boot.step = 0 ∧ casting.boot.prev < 16 ∧
    (begins 8 offState).reg .GLB_MODE 0 = 0x02030212 ∧ (begins 8 offState).fld F.BOOT_STS_FB_REASON 0 = 2 ∧
    (begins 8 offState).fld F.BOOT_STS_FAIL_A 0 = 7 ∧ (begins 8 (tries 3)).fld F.BOOT_STS_FB_REASON 0 = 1 ∧
    (begins 1 (tries 1)).curMode = 1 ∧ (begins 1 (tries 1)).fld F.BOOT_STS_ATTEMPT 0 = 1 ∧
    (begins 2 (tries 1)).fld F.BOOT_STS_ATTEMPT 0 = 2 ∧ (begins 2 (tries 1)).boot.step = 2 ∧ (begins 2 offState).fld F.BOOT_JRN_STS_BOOT 0 = 1 ∧
    (begins 2 offState).boot.wdog = 2400000000 := by decide +kernel

def sure : State := (withFld F.BOOT_STS_CONFIRMED 0 1).setFld F.BOOT_STS_SVN 0 9
def settled : State := { State.reset with boot := { State.reset.boot with settled := 1024 * State.reset.fld F.BOOT_CFG_SETTLE 0 } }
theorem test_BootControl : sure.takes (.mc 0) .BOOT_CTL 0 ∧ sure.fld F.BOOT_STS_CONFIRMED 0 = 1 ∧ sure.fld F.BOOT_STS_FB 0 = 0 ∧
    (nx (exec (.svnCommit (.mc 0) 0xB000) sure)).fld F.BOOT_STS_SVN_MIN 0 = 9 ∧ (nx (exec (.svnCommit (.mc 0) 0xB100) sure)).fld F.BOOT_STS_SVN_MIN 0 = 0 ∧
    (nx (exec (.revoke0 (.mc 0) 0xB000) { sure with boot := { sure.boot with kh := 1 } })).fld F.BOOT_STS_KH0_REV 0 = 1 ∧
    (nx (exec (.revoke0 (.mc 0) 0xB000) sure)).fld F.BOOT_STS_KH0_REV 0 = 0 ∧
    (nx (exec (.kick (.mc 0) 0) expired)).boot.wdog = 2400000000 ∧ (nx (exec (.confirm (.mc 0) 0) expired)).boot.confirm = true ∧
    settled.fld F.BOOT_STS_CONFIRMED 0 = 0 ∧ settled.fld F.BOOT_CFG_SETTLE 0 * 1024 ≤ settled.boot.settled ∧
    (nx (exec .startSettled settled)).fld F.BOOT_STS_CONFIRMED 0 = 1 := by unfold State.takes; decide +kernel

/-- Line 3 of slot 1 while slot 0 runs; line 229,376; a line of the running slot; and a line while one is written. -/
def lineOf (slot line : Nat) (s : State) : State := nx (exec (.slotWrite (.mc 0) (BitVec.ofNat 32 (slot + 2 * line))) s)
def worded : State := State.reset.setReg .BOOT_SLOT_DATA 0 0x01020304
theorem test_Slots : worded.takes (.mc 0) .BOOT_SLOT_CTL 0 ∧ worded.fld F.BOOT_SLOT_CTL_BUSY 0 = 0 ∧
    (lineOf 1 3 worded).boot.line = some (229379, [4, 3, 2, 1] ++ List.replicate 60 0) ∧ (lineOf 1 3 worded).fld F.BOOT_SLOT_CTL_BUSY 0 = 1 ∧
    (lineOf 1 229376 worded).fld F.BOOT_SLOT_CTL_REFUSED 0 = 1 ∧ (lineOf 0 3 worded).fld F.BOOT_SLOT_CTL_REFUSED 0 = 1 ∧
    (lineOf 1 4 (lineOf 1 3 worded)).boot.line = (lineOf 1 3 worded).boot.line ∧ State.reset.boot.line = none ∧
    (nx (exec .slotLineWritten (lineOf 1 3 worded))).fld F.BOOT_SLOT_CTL_BUSY 0 = 0 ∧
    (nx (exec .slotLineWritten (lineOf 1 3 worded))).boot.slots = [(229379, some ([4, 3, 2, 1] ++ List.replicate 60 0))] := by
  unfold State.takes; decide +kernel

def domAt (d st : Nat) : State := withFld F.PWR_DOM_STS_STATE d st
def ramped : State := { domAt 50 1 with pwr := { State.reset.pwr with ticks := [(50, 255)] } }
def woken : State := { domAt 16 5 with pwr := { State.reset.pwr with waking := [(16, 3)] } }
theorem test_Domains : ramped.domState 50 = 1 ∧ max 1 (ramped.fld F.PWR_SEQ_RAMP 0) ≤ ramped.domTicks 50 ∧
    (nx (exec (.domainRampDone 50 true) ramped)).domState 50 = 2 ∧ (nx (exec (.domainRampDone 50 false) ramped)).domState 50 = 6 ∧
    (domAt 20 4).domState 20 = 4 ∧ (domAt 20 4).unitEmpty 20 = true ∧ (domAt 20 4).unneeded 20 = true ∧ (domAt 20 4).domTarget 20 ≠ 5 ∧
    (nx (exec (.domainFenceDone 20) { domAt 20 4 with keys := [(256, ⟨[1], [2]⟩)] })).domState 20 = 0 ∧
    (nx (exec (.domainFenceDone 20) { domAt 20 4 with keys := [(256, ⟨[1], [2]⟩)] })).keys = [] ∧
    (domAt 33 4).hbcReady 1 = true ∧ (domAt 33 4).pagedIn 1 = [] ∧ ((nx (exec (.domainFenceDone 33) (domAt 33 4))).hbcAt 1).rest = true ∧
    (domAt 33 4).domTicks 33 < (domAt 33 4).fld F.PWR_SEQ_DRAIN_LIMIT 0 ∧ ramped.atEdge = true ∧
    (nx (exec (.domainRampDone 50 true) (ramped.setFld F.TIK_CLK_CLK 0 1))).domState 50 = 1 ∧
    (domAt 44 4).unneeded 44 = false ∧ ((domAt 54 4).setReg .GLB_MODE 0 0x0B).domTarget 54 = 5 ∧
    ((domAt 54 4).setReg .GLB_MODE 0 0x0B).unitEmpty 54 = true ∧ ((domAt 54 4).setReg .GLB_MODE 0 0x0B).unneeded 54 = true ∧
    woken.domState 16 = 5 ∧ 3 ≤ SMap.get (fun _ => 0) woken.pwr.waking 16 ∧ (nx (exec (.domainRetWake 16) woken)).domState 16 = 3 ∧
    (nx (exec (.domainRetWake 16) woken)).fld F.PWR_DOM_STS_UPS 16 = woken.fld F.PWR_DOM_STS_UPS 16 + 1 := by decide +kernel

theorem test_DomainRestore : (domAt 50 6).takes (.mc 0) .PWR_DOM_CMD 0 ∧ (0x72 : BitVec 32) &&& 0xC0 = 0x40 ∧ State.reset.curMode = 3 ∧
    (domAt 50 6).jrn.queue.length < 64 ∧ (nx (exec (.domainRestore (.mc 0) 0x72) (domAt 50 6))).domState 50 = 0 ∧
    (nx (exec (.domainRestore (.mc 0) 0x72) State.reset)).fld F.PWR_DOM_STS_REFUSED 50 = 1 := by unfold State.takes; decide +kernel

/-- In DRAIN for READY, requested by PF0 with TAG 0x5A; and in READY with HIBERNATE accepted. -/
def drainS (n : Nat) : State := { (State.reset.setReg .GLB_MODE 0 0x02001337) with
  mode := some ⟨false, 0x5A⟩, pwr := { State.reset.pwr with edges := 1, drain := n } }
def downS : State := { (State.reset.setReg .GLB_MODE 0 0x02001B33) with
  mode := some ⟨true, 1⟩, pwr := { State.reset.pwr with edges := 1 } }
def fullQ : SMap QSt := [(5, { QSt.empty with chain := [9], used := 1 })]
def queuedR (s : State) : State := { s with queues := fullQ }
theorem test_Drain : (drainS 1).fld F.GLB_MODE_BUSY 0 = 1 ∧ (drainS 1).fld F.GLB_MODE_TARGET 0 = 3 ∧ (drainS 1).curMode = 7 ∧
    1 ≤ (drainS 1).pwr.drain ∧ (drainS 1).allEmpty = true ∧ (drainS 1).domsThere = true ∧
    (nx (exec .drainComplete (drainS 1))).reg .GLB_MODE 0 = 0x03000373 ∧ (nx (exec .drainComplete (drainS 1))).fld F.GLB_MODE_STS_TAG 0 = 0x5A ∧
    (drainS 65535).fld F.PWR_SEQ_DRAIN_LIMIT 0 ≤ (drainS 65535).pwr.drain ∧ (drainS 65535).pwr.flushed = false ∧
    SMap.wf (fun _ => QSt.empty) fullQ = true ∧ (nx (exec .drainTimeout (queuedR (drainS 65535)))).pwr.flushed = true ∧
    ((nx (exec .drainTimeout (queuedR (drainS 65535)))).queue 5).chain = [] := by decide +kernel

def resting : State := (List.range 4).foldl (fun s h => s.setFld F.HBC_STS_STATE h 3) downS
theorem test_Hibernate : downS.fld F.GLB_MODE_BUSY 0 = 1 ∧ downS.fld F.GLB_MODE_TARGET 0 = 11 ∧ 1 ≤ downS.pwr.edges ∧ downS.pwr.hib = false ∧
    downS.chart.ctxs = [] ∧ downS.allEmpty = true ∧ downS.stacksRest = false ∧ downS.hbcReady 1 = true ∧
    (nx (exec .hibernateEntry downS)).fld F.HBC_STS_STEP 1 = 1 ∧ ((nx (exec .hibernateEntry downS)).hbcAt 1).rest = true ∧
    resting.allEmpty = true ∧ resting.stacksRest = true ∧ (nx (exec .hibernateEntry resting)).pwr.hib = true ∧
    (queuedR downS).allEmpty = false ∧ (nx (exec .hibernateEntry (queuedR downS))).pwr.hib = false ∧
    ((nx (exec .hibernateEntry (queuedR downS))).queue 5).chain = [] := by decide +kernel

/-- In FORWARD with a cap of 500 W, HYST 3, DWELL 1, level 2: 501 W raises the level, 470 W lowers it, 480 W keeps it (R428). -/
def capped : State := (((((withFld F.GLB_MODE_CUR 0 4).setFld F.PWR_CAP_CAP 0 500).setFld F.PWR_CAP_EN 0 1).setFld F.PWR_CAP_HYST 0 3).setFld
  F.PWR_CAP_DWELL 0 1).setFld F.PWR_CAP_STS_LEVEL 0 2
theorem test_PowerWindow : capped.pwr.level = none ∧ 2 ≤ capped.curMode ∧ capped.tikCount.toNat % (16 * max 1 (capped.fld F.PWR_CAP_WIN 0)) = 0 ∧
    (nx (exec (.powerWindow 501) capped)).pwr.level = some 3 ∧ (nx (exec (.powerWindow 501) capped)).fld F.PWR_CAP_STS_ALERT 0 = 1 ∧
    bitOf ((nx (exec (.powerWindow 501) capped)).fld F.FLT_STS_STS 2) 2 = true ∧
    (nx (exec (.powerWindow 470) capped)).pwr.level = some 1 ∧ (nx (exec (.powerWindow 480) capped)).pwr.level = some 2 ∧
    (nx (exec (.powerWindow 500) capped)).fld F.PWR_CAP_STS_PWR 0 = 500 ∧ capped.tj < capped.tjWarn ∧
    (capped.setFld F.PWR_TEMP_TJ 0 105).tjWarn ≤ (capped.setFld F.PWR_TEMP_TJ 0 105).tj ∧
    bitOf ((nx (exec (.powerWindow 400) (capped.setFld F.PWR_TEMP_TJ 0 105))).fld F.FLT_STS_STS 2) 0 = true ∧
    (nx (exec (.powerWindow 501) (capped.setReg .TIK_COUNT 0 1))).pwr.level = none ∧
    (nx (exec (.powerWindow 470) (nx (exec (.powerWindow 501) capped)))).pwr.level = some 3 := by decide +kernel

/-- Octet 1's staged key, and SA 65 (octet 1, SA 1). -/
def staged0 : State := State.reset.setReg .MSC_KEY 8 0x01020304
theorem test_Keys : staged0.takes (.mc 0) .MSC_SA_CTL 65 ∧ (withFld F.MSC_SA_CTL_EN 65 1).takes (.mc 0) .MSC_SA_CTL 65 ∧
    staged0.fld F.MSC_SA_CTL_EN 65 = 0 ∧
    ((SMap.get (fun _ => SaKey.zero) (nx (exec (.keyLoad (.mc 0) 65 0x81) staged0)).keys 65).key.take 5) = [1, 2, 3, 4, 0] ∧
    (nx (exec (.keyLoad (.mc 0) 65 0x81) staged0)).reg .MSC_KEY 8 = 0 ∧ (nx (exec (.keyLoad (.mc 0) 65 0x81) staged0)).fld F.MSC_SA_CTL_EN 65 = 1 ∧
    (nx (exec (.keyLoad (.mc 0) 65 1) (withFld F.MSC_SA_CTL_EN 65 1))).fld F.MSC_SA_STS_REFUSED 65 = 1 ∧
    (nx (exec (.saDisable (.mc 0) 65 0) (nx (exec (.keyLoad (.mc 0) 65 0x81) staged0)))).keys = [] := by unfold State.takes; decide +kernel

def nonced : State := withFld F.SEC_DBG_STS_NONCE 0 1
theorem test_Unlock : State.reset.takes (.mc 0) .SEC_DBG_CTL 0 ∧ nonced.takes (.fn 0) .SEC_DBG_CTL 0 ∧
    (nx (exec (.challenge (.mc 0) 0) State.reset)).fresh = 4 ∧
    (nx (exec (.unlockGo (.mc 0) 8 false) State.reset)).fld F.SEC_DBG_STS_REFUSED 0 = 1 ∧
    ((nx (exec (.unlockGo (.fn 0) 0xC false) nonced)).sec.asked).map (·.1) = some 3 ∧
    ((nx (exec (.unlockGo (.fn 0) 0xC false) nonced)).sec.asked).map (·.2) = some false ∧
    nonced.fld F.SEC_DBG_STS_BUSY 0 = 0 ∧ nonced.fld F.SEC_DBG_STS_LOCKOUT 0 = 0 ∧
    (nx (exec (.unlockGo (.mc 0) 8 false) (nonced.setFld F.SEC_DBG_STS_LOCKOUT 0 1))).sec.asked = none ∧
    (nx (exec (.lock (.mc 0) 0) nonced)).sec.level = some 0 ∧ (withFld F.GLB_MODE_CUR 0 10).takes (.mc 0) .SEC_DBG_CTL 0 ∧
    (nx (exec (.lock (.mc 0) 0) (withFld F.GLB_MODE_CUR 0 10))).fld F.SEC_DBG_STS_REFUSED 0 = 1 := by unfold State.takes; decide +kernel

def verifying (pass : Bool) (n : Nat) : State :=
  { nonced.setFld F.SEC_DBG_STS_FAILS 0 n with sec := { State.reset.sec with asked := some (2, pass) } }
def verified (pass : Bool) (n : Nat) : State := nx (exec .unlockVerifyDone (verifying pass n))
theorem test_Verify : State.reset.sec.asked = none ∧ (verifying true 0).sec.asked = some (2, true) ∧ (verified true 0).sec.level = some 2 ∧
    bitOf ((verified true 0).fld F.FLT_STS_STS 8) 0 = true ∧ (verified false 0).fld F.SEC_DBG_STS_FAILS 0 = 1 ∧
    (verified false 1).fld F.SEC_DBG_STS_LOCKOUT 0 = 0 ∧ (verified false 2).fld F.SEC_DBG_STS_LOCKOUT 0 = 1 ∧
    bitOf ((verified false 2).fld F.FLT_STS_STS 8) 1 = true ∧ (verified false 2).fld F.SEC_DBG_STS_NONCE 0 = 0 := by decide +kernel

theorem test_TapAndSensors : (nx (exec (.tapInstruction .extest) State.reset)).sec.extest = true ∧
    (nx (exec .tapReset (nx (exec (.tapInstruction .extest) State.reset)))).sec.extest = false ∧
    (nx (exec (.smbusRequest .state) State.reset)).out = [.sensor 0 3] ∧
    (nx (exec (.smbusRequest (.numeric 2)) (withFld F.PWR_CAP_STS_PWR 0 471))).out = [.sensor 2 471] ∧
    (nx (exec (.smbusRequest (.numeric 6)) (withFld F.HBC_TEMP_TEMP 3 80))).out = [.sensor 6 80] ∧
    (nx (exec (.smbusRequest .state) (withFld F.GLB_MODE_CUR 0 0))).out = [] := by decide +kernel

end Sys2Proof.Tests
end

section
/-! PROOFS. Every command, and so every step, answers a next state. -/

namespace Sys2Proof.Machine

/-- A Stitch instruction goes on whatever its effect: no needle, no clocks left, another instruction due, an undefined encoding,
and the effect itself each leave a next state (R127 to R129). -/
theorem State.issue_goesOn (s : State) (op : Nat) (mask : BitVec 64) (side : Side) (e : Fin 64) (i : Fin 96)
    (f : State → Nat → Needle → BitVec 64 → Did) : GoesOn (s.issue op mask side e i f) := by
  unfold State.issue
  extract_lets s0 k
  split
  · exact ⟨_, rfl⟩
  · split
    · exact ⟨_, rfl⟩
    · split
      · exact ⟨_, rfl⟩
      · split
        · extract_lets q nd1
          split
          · exact ⟨_, rfl⟩
          · split <;> exact ⟨_, rfl⟩
        · split <;> exact ⟨_, rfl⟩

theorem execLookupAnswer_goesOn (k : Nat) (err : Bool) (lat : Nat) (s : State) : GoesOn (execLookupAnswer k err lat s) := by
  unfold execLookupAnswer
  extract_lets s0
  split
  · exact ⟨_, rfl⟩
  · split
    · exact ⟨_, rfl⟩
    · extract_lets
      split
      · split <;> exact ⟨_, rfl⟩
      · exact ⟨_, rfl⟩

theorem execRegisterRead_goesOn (a : Agent) (q : BusReq) (s : State) : GoesOn (execRegisterRead a q s) := by
  unfold execRegisterRead
  dsimp only
  repeat' split
  all_goals exact ⟨_, rfl⟩

theorem execHalfReadLatch_goesOn (a : Agent) (addr : Nat) (s : State) : GoesOn (execHalfReadLatch a addr s) := by
  unfold execHalfReadLatch
  dsimp only
  split
  · split
    · split
      · exact execRegisterRead_goesOn _ _ _
      · exact ⟨_, rfl⟩
    · exact ⟨_, rfl⟩
  · exact ⟨_, rfl⟩

/-- Every command answers a next state. The Stitch instructions go through `State.issue`; the others either answer one state
outright, or choose between states by what they meet. -/
theorem exec_goesOn (c : Instr) (s : State) : GoesOn (exec c s) := by
  cases c with
  | nop | movi | mov | add | addi | sub | subi | and | andi | or | ori | xor | xori | shl | shr | ext | dep | cmp | cmpi |
    tsti | hash | ldh | ldm | stm | kput | kcpy | kclr | lkd | lkh | lkt | wait | ldr | fwd | drop | tohost | mirror |
    police | settc | count | resp | learn | slearn | jmp | bCc | call | ret | outer | endProg | sth | eins | edel | etpl |
    csum4 | tsmark | tstag =>
    dsimp only [exec, execNop, execMovi, execMov, execAdd, execAddi, execSub, execSubi, execAnd, execAndi, execOr,
      execOri, execXor, execXori, execShl, execShr, execExt, execDep, execCmp, execCmpi, execTsti, execHash, execLdh,
      execLdm, execStm, execKput, execKcpy, execKclr, execLkd, execLkh, execLkt, execWait, execLdr, execFwd, execDrop,
      execTohost, execMirror, execPolice, execSettc, execCount, execResp, execLearn, execSlearn, execJmp, execBCc,
      execCall, execRet, execOuter, execEndProg, execSth, execEins, execEdel, execEtpl, execCsum4, execTsmark, execTstag]
    exact State.issue_goesOn ..
  | lookupAnswer k err lat => exact execLookupAnswer_goesOn k err lat s
  | registerRead a q => exact execRegisterRead_goesOn a q s
  | halfReadLatch a addr => exact execHalfReadLatch_goesOn a addr s
  | registerWrite | tickEdge | periodChangeApply | tickHoldover | transitionComplete | rxFrame | frameTransmit |
    linkFaultDebounced | cmbScanFrame | cageInputAccepted | ingressDispatch | egressDispatch | budgetAbort | imageSwitch |
    oldSetDrained | actionMerge | responderReply | bfdTx | bfdDetectExpire | lacpTx | yarnParse | reseqArrive |
    reseqTimeout | copyLink | spillMove | spillMoveAck | spillFetch | spillFetchDone | splice | egressSelect | replication
    | learnPlan | retryReplan | tableFlushComplete | panelSearch | tcamRetry | tcamFallback | twinCopyDone |
    twinReleaseEnd | speedPolicyWindow | speedStep | speedStepTimeout | refresh | hbmTempRead | configRequest | pcieLinkUp
    | d3hotTransition | readCompletion | completionTimeout | tagHoldExpire | doorbell | doorbellFetch | descriptorFetch |
    txFrame | rxDeliver | programStart | pollTimeout | faultDetect | faultReaction | journalWrite | collectionDue |
    collectionDone | sampleDrain | slotLineWritten | domainFenceDone | drainTimeout | hibernateEntry | powerWindow |
    unlockVerifyDone | tapInstruction | smbusRequest =>
    dsimp only [exec, execRegisterWrite, execTickEdge, execPeriodChangeApply, execTickHoldover, execTransitionComplete,
      execRxFrame, execFrameTransmit, execLinkFaultDebounced, execCmbScanFrame, execCageInputAccepted,
      execIngressDispatch, execEgressDispatch, execBudgetAbort, execImageSwitch, execOldSetDrained, execActionMerge,
      execResponderReply, execBfdTx, execBfdDetectExpire, execLacpTx, execYarnParse, execReseqArrive, execReseqTimeout,
      execCopyLink, execSpillMove, execSpillMoveAck, execSpillFetch, execSpillFetchDone, execSplice, execEgressSelect,
      execReplication, execLearnPlan, execRetryReplan, execTableFlushComplete, execPanelSearch, execTcamRetry,
      execTcamFallback, execTwinCopyDone, execTwinReleaseEnd, execSpeedPolicyWindow, execSpeedStep, execSpeedStepTimeout,
      execRefresh, execHbmTempRead, execConfigRequest, execPcieLinkUp, execD3hotTransition, execReadCompletion,
      execCompletionTimeout, execTagHoldExpire, execDoorbell, execDoorbellFetch, execDescriptorFetch, execTxFrame,
      execRxDeliver, execProgramStart, execPollTimeout, execFaultDetect, execFaultReaction, execJournalWrite,
      execCollectionDue, execCollectionDone, execSampleDrain, execSlotLineWritten, execDomainFenceDone, execDrainTimeout,
      execHibernateEntry, execPowerWindow, execUnlockVerifyDone, execTapInstruction, execSmbusRequest]
    repeat' split
    all_goals exact ⟨_, rfl⟩
  | periodArm | tickInPulse | commitApply | modeRequest | heartbeatWrite | heartbeatExpired | hostlossLostClear |
    portCfgWrite | pauseTimerExpire | xoffResend | linkUp | bindoffCmd | bindoffFlushComplete | holddownExpire |
    cageCtlWrite | btnWaitExpire | cageBindoffDone | i2cGo | i2cDone | i2cTimeout | todStep | todSet | synceLos |
    reorderRelease | programStoreWrite | imageArm | bfdCtlWrite | reseqCmd | yrnIdWrite | bpmClaim | xbarMatch |
    schLeafWrite | schGrpWrite | hwWritesApply | hashSeedWrite | panelCfgWrite | speedCommand | linkDown | perstNAssert |
    flrStart | flrComplete | busMasterClear | vfEnableWrite | l1Entry | l0pWindow | msixSend | funcRingsWrite | indexWrite
    | ringEnable | ringDisable | ringDisableDone | chartNop | rbase | fence | waitTick | waitAt | chartWaitEnd | commit |
    discard | dwr | dinv | drd | hins | hdel | hsrch | hnext | flush | twr | tinv | tval | tact | trd | pivw | pivr | regr
    | regw | regm | poll | xmit | faultInject | journalErase | gaugeCounterWrite | collectionRequest |
    collectionRangeWrite | start | porNAssert | watchdogExpire | castOnStepTimeout | kick | restart | confirm |
    startSettled | svnCommit | revoke0 | slotWrite | domainRampDone | domainRetWake | domainRestore | drainComplete |
    railFault | thermalTrip | refclkLoss | keyLoad | saDisable | challenge | unlockGo | lock | linkFaultChange |
    linkTrainingDone | cdrLockRegained | l1Exit | l0pPartnerRequest | faultConditionCleared | tapReset =>
    exact ⟨_, rfl⟩

theorem step_goesOn (s : State) : GoesOn (step s) := by
  unfold step
  split
  · exact ⟨_, rfl⟩
  · exact exec_goesOn _ _

/-- Settles O2, by the cases of the command. -/
theorem noCommandStops : Obligations.NoCommandStops := by
  unfold Obligations.NoCommandStops
  exact ⟨exec_goesOn, step_goesOn⟩

end Sys2Proof.Machine
end

section
/-! PROOFS. Every step keeps the register files canonical. -/

namespace Sys2Proof.Machine

/-- No command changes the queue or the part, and all keep the register files canonical: each row by the law of its meaning. -/
theorem exec_keeps {z s : State} (hk : Keeps z s) (c : Instr) : ResKeeps z (exec c s) := by
  unfold exec
  cases c with
  | registerWrite a q v => exact keeps_execRegisterWrite hk a q v
  | halfReadLatch a addr => exact keeps_execHalfReadLatch hk a addr
  | tickEdge x => exact keeps_execTickEdge hk x
  | periodArm a v => exact keeps_execPeriodArm hk a v
  | periodChangeApply => exact keeps_execPeriodChangeApply hk
  | tickInPulse long => exact keeps_execTickInPulse hk long
  | tickHoldover => exact keeps_execTickHoldover hk
  | commitApply => exact keeps_execCommitApply hk
  | modeRequest a conflict v => exact keeps_execModeRequest hk a conflict v
  | transitionComplete => exact keeps_execTransitionComplete hk
  | heartbeatWrite a v => exact keeps_execHeartbeatWrite hk a v
  | heartbeatExpired => exact keeps_execHeartbeatExpired hk
  | hostlossLostClear a => exact keeps_execHostlossLostClear hk a
  | portCfgWrite a p v => exact keeps_execPortCfgWrite hk a p v
  | rxFrame p frame arr same => exact keeps_execRxFrame hk p frame arr same
  | pauseTimerExpire p c => exact keeps_execPauseTimerExpire hk p c
  | xoffResend p c => exact keeps_execXoffResend hk p c
  | frameTransmit p => exact keeps_execFrameTransmit hk p
  | linkUp p => exact keeps_execLinkUp hk p
  | linkFaultDebounced p => exact keeps_execLinkFaultDebounced hk p
  | bindoffCmd a p v => exact keeps_execBindoffCmd hk a p v
  | bindoffFlushComplete p => exact keeps_execBindoffFlushComplete hk p
  | holddownExpire p => exact keeps_execHolddownExpire hk p
  | cmbScanFrame inputs => exact keeps_execCmbScanFrame hk inputs
  | cageInputAccepted g which => exact keeps_execCageInputAccepted hk g which
  | cageCtlWrite a g v => exact keeps_execCageCtlWrite hk a g v
  | btnWaitExpire g => exact keeps_execBtnWaitExpire hk g
  | cageBindoffDone g => exact keeps_execCageBindoffDone hk g
  | i2cGo a m v => exact keeps_execI2cGo hk a m v
  | i2cDone m nack data => exact keeps_execI2cDone hk m nack data
  | i2cTimeout m => exact keeps_execI2cTimeout hk m
  | todStep a v => exact keeps_execTodStep hk a v
  | todSet a v => exact keeps_execTodSet hk a v
  | synceLos k => exact keeps_execSynceLos hk k
  | ingressDispatch n => exact keeps_execIngressDispatch hk n
  | egressDispatch n => exact keeps_execEgressDispatch hk n
  | budgetAbort e n => exact keeps_execBudgetAbort hk e n
  | reorderRelease n eg src late => exact keeps_execReorderRelease hk n eg src late
  | programStoreWrite a n eg r v => exact keeps_execProgramStoreWrite hk a n eg r v
  | imageArm a n v => exact keeps_execImageArm hk a n v
  | imageSwitch n eg => exact keeps_execImageSwitch hk n eg
  | oldSetDrained n eg => exact keeps_execOldSetDrained hk n eg
  | nop e n => exact keeps_execNop hk e n
  | movi e n => exact keeps_execMovi hk e n
  | mov e n => exact keeps_execMov hk e n
  | add e n => exact keeps_execAdd hk e n
  | addi e n => exact keeps_execAddi hk e n
  | sub e n => exact keeps_execSub hk e n
  | subi e n => exact keeps_execSubi hk e n
  | and e n => exact keeps_execAnd hk e n
  | andi e n => exact keeps_execAndi hk e n
  | or e n => exact keeps_execOr hk e n
  | ori e n => exact keeps_execOri hk e n
  | xor e n => exact keeps_execXor hk e n
  | xori e n => exact keeps_execXori hk e n
  | shl e n => exact keeps_execShl hk e n
  | shr e n => exact keeps_execShr hk e n
  | ext e n => exact keeps_execExt hk e n
  | dep e n => exact keeps_execDep hk e n
  | cmp e n => exact keeps_execCmp hk e n
  | cmpi e n => exact keeps_execCmpi hk e n
  | tsti e n => exact keeps_execTsti hk e n
  | hash e n => exact keeps_execHash hk e n
  | ldh e n => exact keeps_execLdh hk e n
  | ldm e n => exact keeps_execLdm hk e n
  | stm e n => exact keeps_execStm hk e n
  | kput e n => exact keeps_execKput hk e n
  | kcpy e n => exact keeps_execKcpy hk e n
  | kclr e n => exact keeps_execKclr hk e n
  | lkd e n => exact keeps_execLkd hk e n
  | lkh e n => exact keeps_execLkh hk e n
  | lkt e n => exact keeps_execLkt hk e n
  | lookupAnswer k err lat => exact keeps_execLookupAnswer hk k err lat
  | wait e n => exact keeps_execWait hk e n
  | ldr e n => exact keeps_execLdr hk e n
  | fwd e n => exact keeps_execFwd hk e n
  | drop e n => exact keeps_execDrop hk e n
  | tohost e n => exact keeps_execTohost hk e n
  | mirror e n => exact keeps_execMirror hk e n
  | police e n => exact keeps_execPolice hk e n
  | settc e n => exact keeps_execSettc hk e n
  | count e n => exact keeps_execCount hk e n
  | resp e n => exact keeps_execResp hk e n
  | learn e n => exact keeps_execLearn hk e n
  | slearn e n => exact keeps_execSlearn hk e n
  | jmp e n => exact keeps_execJmp hk e n
  | bCc e n => exact keeps_execBCc hk e n
  | call e n => exact keeps_execCall hk e n
  | ret e n => exact keeps_execRet hk e n
  | outer e n => exact keeps_execOuter hk e n
  | endProg e n => exact keeps_execEndProg hk e n
  | sth e n => exact keeps_execSth hk e n
  | eins e n => exact keeps_execEins hk e n
  | edel e n => exact keeps_execEdel hk e n
  | etpl e n => exact keeps_execEtpl hk e n
  | csum4 e n => exact keeps_execCsum4 hk e n
  | tsmark e n => exact keeps_execTsmark hk e n
  | tstag e n => exact keeps_execTstag hk e n
  | actionMerge n errs => exact keeps_execActionMerge hk n errs
  | responderReply n => exact keeps_execResponderReply hk n
  | bfdCtlWrite a n x v => exact keeps_execBfdCtlWrite hk a n x v
  | bfdTx n x => exact keeps_execBfdTx hk n x
  | bfdDetectExpire n x => exact keeps_execBfdDetectExpire hk n x
  | lacpTx n j => exact keeps_execLacpTx hk n j
  | yarnParse n => exact keeps_execYarnParse hk n
  | reseqArrive d => exact keeps_execReseqArrive hk d
  | reseqTimeout d x => exact keeps_execReseqTimeout hk d x
  | reseqCmd a v => exact keeps_execReseqCmd hk a v
  | yrnIdWrite a v => exact keeps_execYrnIdWrite hk a v
  | bpmClaim d => exact keeps_execBpmClaim hk d
  | xbarMatch d => exact keeps_execXbarMatch hk d
  | copyLink id => exact keeps_execCopyLink hk id
  | spillMove d q => exact keeps_execSpillMove hk d q
  | spillMoveAck d q => exact keeps_execSpillMoveAck hk d q
  | spillFetch d q => exact keeps_execSpillFetch hk d q
  | spillFetchDone d q corr bad => exact keeps_execSpillFetchDone hk d q corr bad
  | splice d q => exact keeps_execSplice hk d q
  | egressSelect d lp => exact keeps_execEgressSelect hk d lp
  | schLeafWrite a d q v => exact keeps_execSchLeafWrite hk a d q v
  | schGrpWrite a d g v => exact keeps_execSchGrpWrite hk a d g v
  | replication d err grpErr => exact keeps_execReplication hk d err grpErr
  | learnPlan d => exact keeps_execLearnPlan hk d
  | retryReplan d => exact keeps_execRetryReplan hk d
  | hwWritesApply => exact keeps_execHwWritesApply hk
  | tableFlushComplete => exact keeps_execTableFlushComplete hk
  | hashSeedWrite a d t sub v => exact keeps_execHashSeedWrite hk a d t sub v
  | panelSearch q err => exact keeps_execPanelSearch hk q err
  | tcamRetry k => exact keeps_execTcamRetry hk k
  | tcamFallback k => exact keeps_execTcamFallback hk k
  | panelCfgWrite a q v => exact keeps_execPanelCfgWrite hk a q v
  | twinCopyDone q => exact keeps_execTwinCopyDone hk q
  | twinReleaseEnd q => exact keeps_execTwinReleaseEnd hk q
  | speedCommand a h v => exact keeps_execSpeedCommand hk a h v
  | speedPolicyWindow d u => exact keeps_execSpeedPolicyWindow hk d u
  | speedStep h => exact keeps_execSpeedStep hk h
  | speedStepTimeout h => exact keeps_execSpeedStepTimeout hk h
  | refresh h waiting => exact keeps_execRefresh hk h waiting
  | hbmTempRead h t => exact keeps_execHbmTempRead hk h t
  | configRequest f dw wr be v => exact keeps_execConfigRequest hk f dw wr be v
  | pcieLinkUp speed log2w flit => exact keeps_execPcieLinkUp hk speed log2w flit
  | linkDown cause => exact keeps_execLinkDown hk cause
  | perstNAssert => exact keeps_execPerstNAssert hk
  | flrStart f => exact keeps_execFlrStart hk f
  | flrComplete f limit => exact keeps_execFlrComplete hk f limit
  | busMasterClear f => exact keeps_execBusMasterClear hk f
  | d3hotTransition f enter => exact keeps_execD3hotTransition hk f enter
  | vfEnableWrite on => exact keeps_execVfEnableWrite hk on
  | readCompletion tag status last data => exact keeps_execReadCompletion hk tag status last data
  | completionTimeout tag => exact keeps_execCompletionTimeout hk tag
  | tagHoldExpire tag => exact keeps_execTagHoldExpire hk tag
  | l1Entry => exact keeps_execL1Entry hk
  | l0pWindow u => exact keeps_execL0pWindow hk u
  | msixSend k => exact keeps_execMsixSend hk k
  | funcRingsWrite a f v => exact keeps_execFuncRingsWrite hk a f v
  | doorbell f off size v => exact keeps_execDoorbell hk f off size v
  | doorbellFetch f cq r => exact keeps_execDoorbellFetch hk f cq r
  | indexWrite cq g => exact keeps_execIndexWrite hk cq g
  | descriptorFetch => exact keeps_execDescriptorFetch hk
  | txFrame g rd data => exact keeps_execTxFrame hk g rd data
  | rxDeliver => exact keeps_execRxDeliver hk
  | ringEnable a cq g v => exact keeps_execRingEnable hk a cq g v
  | ringDisable a cq g v => exact keeps_execRingDisable hk a cq g v
  | ringDisableDone g => exact keeps_execRingDisableDone hk g
  | programStart q c => exact keeps_execProgramStart hk q c
  | chartNop q c => exact keeps_execChartNop hk q c
  | rbase q c => exact keeps_execRbase hk q c
  | fence q c => exact keeps_execFence hk q c
  | waitTick q c => exact keeps_execWaitTick hk q c
  | waitAt q c => exact keeps_execWaitAt hk q c
  | chartWaitEnd q c => exact keeps_execChartWaitEnd hk q c
  | commit q c => exact keeps_execCommit hk q c
  | discard q c => exact keeps_execDiscard hk q c
  | dwr q c rd data => exact keeps_execDwr hk q c rd data
  | dinv q c => exact keeps_execDinv hk q c
  | drd q c bad => exact keeps_execDrd hk q c bad
  | hins q c rd data => exact keeps_execHins hk q c rd data
  | hdel q c rd data => exact keeps_execHdel hk q c rd data
  | hsrch q c rd data bad => exact keeps_execHsrch hk q c rd data bad
  | hnext q c => exact keeps_execHnext hk q c
  | flush q c => exact keeps_execFlush hk q c
  | twr q c rd data => exact keeps_execTwr hk q c rd data
  | tinv q c => exact keeps_execTinv hk q c
  | tval q c => exact keeps_execTval hk q c
  | tact q c rd data => exact keeps_execTact hk q c rd data
  | trd q c => exact keeps_execTrd hk q c
  | pivw q c rd data => exact keeps_execPivw hk q c rd data
  | pivr q c => exact keeps_execPivr hk q c
  | regr q c => exact keeps_execRegr hk q c
  | regw q c => exact keeps_execRegw hk q c
  | regm q c => exact keeps_execRegm hk q c
  | poll q c => exact keeps_execPoll hk q c
  | pollTimeout q c => exact keeps_execPollTimeout hk q c
  | xmit q c rd data => exact keeps_execXmit hk q c rd data
  | faultDetect k src inst info hit lasting => exact keeps_execFaultDetect hk k src inst info hit lasting
  | faultReaction k src inst => exact keeps_execFaultReaction hk k src inst
  | faultInject a k v => exact keeps_execFaultInject hk a k v
  | journalWrite => exact keeps_execJournalWrite hk
  | journalErase a v => exact keeps_execJournalErase hk a v
  | gaugeCounterWrite a c v => exact keeps_execGaugeCounterWrite hk a c v
  | collectionDue => exact keeps_execCollectionDue hk
  | collectionRequest a v => exact keeps_execCollectionRequest hk a v
  | collectionRangeWrite a hi r v => exact keeps_execCollectionRangeWrite hk a hi r v
  | collectionDone => exact keeps_execCollectionDone hk
  | sampleDrain d => exact keeps_execSampleDrain hk d
  | start c => exact keeps_execStart hk c
  | porNAssert => exact keeps_execPorNAssert hk
  | watchdogExpire => exact keeps_execWatchdogExpire hk
  | castOnStepTimeout => exact keeps_execCastOnStepTimeout hk
  | kick a v => exact keeps_execKick hk a v
  | restart a v => exact keeps_execRestart hk a v
  | confirm a v => exact keeps_execConfirm hk a v
  | startSettled => exact keeps_execStartSettled hk
  | svnCommit a v => exact keeps_execSvnCommit hk a v
  | revoke0 a v => exact keeps_execRevoke0 hk a v
  | slotWrite a v => exact keeps_execSlotWrite hk a v
  | slotLineWritten => exact keeps_execSlotLineWritten hk
  | domainRampDone d good => exact keeps_execDomainRampDone hk d good
  | domainFenceDone d => exact keeps_execDomainFenceDone hk d
  | domainRetWake d => exact keeps_execDomainRetWake hk d
  | domainRestore a v => exact keeps_execDomainRestore hk a v
  | drainComplete => exact keeps_execDrainComplete hk
  | drainTimeout => exact keeps_execDrainTimeout hk
  | hibernateEntry => exact keeps_execHibernateEntry hk
  | powerWindow pwr => exact keeps_execPowerWindow hk pwr
  | railFault aon => exact keeps_execRailFault hk aon
  | thermalTrip => exact keeps_execThermalTrip hk
  | refclkLoss => exact keeps_execRefclkLoss hk
  | keyLoad a k v => exact keeps_execKeyLoad hk a k v
  | saDisable a k v => exact keeps_execSaDisable hk a k v
  | challenge a v => exact keeps_execChallenge hk a v
  | unlockGo a v tapToo => exact keeps_execUnlockGo hk a v tapToo
  | unlockVerifyDone => exact keeps_execUnlockVerifyDone hk
  | lock a v => exact keeps_execLock hk a v
  | tapInstruction k => exact keeps_execTapInstruction hk k
  | smbusRequest q => exact keeps_execSmbusRequest hk q
  | registerRead a q => exact keeps_execRegisterRead hk a q
  | linkFaultChange p aligned fecOk lfault rfault => exact keeps_execLinkFaultChange hk p aligned fecOk lfault rfault
  | linkTrainingDone l => exact keeps_execLinkTrainingDone hk l
  | cdrLockRegained k => exact keeps_execCdrLockRegained hk k
  | l1Exit => exact keeps_execL1Exit hk
  | l0pPartnerRequest log2w => exact keeps_execL0pPartnerRequest hk log2w
  | faultConditionCleared k src inst => exact keeps_execFaultConditionCleared hk k src inst
  | tapReset => exact keeps_execTapReset hk

theorem step_keeps_canonical {s t : State} (h : s.RegsCanonical) (ht : step s = .next t) : t.RegsCanonical := by
  unfold step at ht
  split at ht
  · cases ht
    exact (keeps_clock (keeps_begin (Keeps.rfl' s))).regs h
  · exact (exec_keeps (Keeps.rfl' _) _ t ht).regs h

/-- Settles O4, by the law `Keeps` of each command, and of the core clock that passes on an empty queue. -/
theorem stepsKeepRegistersCanonical : Obligations.StepsKeepRegistersCanonical := by
  unfold Obligations.StepsKeepRegistersCanonical
  exact fun _ _ => step_keeps_canonical

end Sys2Proof.Machine
end

section
/-! PROOFS. What the registers read after reset. -/

namespace Sys2Proof.Machine

/-- The list of all registers has each at the place of its code. -/
theorem Reg.all_code (r : Reg) : Reg.all[r.code]? = some r := by cases r <;> rfl

/-- An unlisted register reads as its reset value (R9). -/
@[simp] theorem Reg.resetAt_key (r : Reg) (i : Nat) : Reg.resetAt (r.key i) = r.reset i := by
  have hc : r.key i % 256 = r.code := by have := r.code_lt; unfold Reg.key; omega
  have hi : r.key i / 256 = i := by have := r.code_lt; unfold Reg.key; omega
  simp only [Reg.resetAt, hc, hi, Reg.all_code]

theorem State.reg_reset (r : Reg) (i : Nat) : State.reset.reg r i = r.reset i := Reg.resetAt_key r i

/-- Settles O5: with no entry in the register file every register reads its reset value, as the table gives it. -/
theorem resetState : Obligations.ResetState := by
  unfold Obligations.ResetState
  refine ⟨rfl, rfl, ⟨rfl, rfl⟩, fun _ _ => rfl, ?_, ?_, State.reg_reset .GLB_SPLIT 0, State.reg_reset .GLB_SPLIT_LOSS 0,
    fun k _ => State.reg_reset .FLT_STS k, fun k _ => ?_, State.reg_reset .TIK_COUNT 0⟩
  · rw [State.curMode, State.fld, State.reg_reset]; rfl
  · rw [State.fld, State.reg_reset]; rfl
  · have h : State.reset.reg F.PCX_IMOD_PEND.reg k = 0 := State.reg_reset .PCX_IMOD k
    rw [State.fld, h]
    decide

end Sys2Proof.Machine
end

section
/-! PROOFS. The masks of the registers, and the bits that a register holds after a write of all of it. -/

namespace Sys2Proof.Machine

theorem Reg.width_eq (r : Reg) : r.width = 32 ∨ r.width = 64 := by cases r <;> decide

/-- No bit of a register is written both as RW and as RW1C or RWS (R6). -/
theorem Reg.rwMask_and_w1cMask (r : Reg) : r.rwMask &&& r.w1cMask = 0 := by cases r <;> rfl

/-- No bit of a counting field is RW (R6). -/
theorem Reg.rwMask_and_countMask (r : Reg) : r.rwMask &&& r.countMask = 0 := by cases r <;> rfl

theorem Reg.countMask_and_low32 (r : Reg) (h : r.width = 32) : low32 &&& r.countMask = r.countMask := by
  revert h
  cases r <;> decide

/-- The bits that a register has. -/
def Reg.wordMask (r : Reg) : BitVec 64 := if r.width = 32 then low32 else all64

theorem getLsbD_low32 (b : Nat) : low32.getLsbD b = decide (b < 32) := by
  have h : low32 = (BitVec.allOnes 32).setWidth 64 := by decide
  rw [h, BitVec.getLsbD_setWidth, BitVec.getLsbD_allOnes]
  by_cases hb : b < 32
  · simp [hb, Nat.lt_trans hb (by decide : 32 < 64)]
  · simp [hb]

theorem getLsbD_all64 (b : Nat) : all64.getLsbD b = decide (b < 64) := by
  rw [show all64 = BitVec.allOnes 64 by decide, BitVec.getLsbD_allOnes]

theorem Reg.getLsbD_wordMask (r : Reg) (b : Nat) : r.wordMask.getLsbD b = decide (b < r.width) := by
  unfold Reg.wordMask
  rcases r.width_eq with h | h
  · rw [if_pos h, h, getLsbD_low32]
  · rw [if_neg (by omega), h, getLsbD_all64]

theorem Reg.wordMask_and_countMask (r : Reg) : r.wordMask &&& r.countMask = r.countMask := by
  unfold Reg.wordMask
  split
  · exact r.countMask_and_low32 ‹_›
  · rw [show all64 = BitVec.allOnes 64 by decide, BitVec.allOnes_and]

/-- Two masks without a common bit have none at a given place. -/
theorem getLsbD_of_and_eq_zero {x y : BitVec 64} (h : x &&& y = 0) {b : Nat} (hx : x.getLsbD b = true) : y.getLsbD b = false := by
  have hb := congrArg (fun z => BitVec.getLsbD z b) h
  simpa [hx] using hb

/-- A write looks only at the bits it covers. -/
theorem Reg.written_and (r : Reg) (old mask v : BitVec 64) : r.written old mask (v &&& mask) = r.written old mask v := by
  have h : v &&& mask &&& mask = v &&& mask := by rw [BitVec.and_assoc, BitVec.and_self]
  have h' : v &&& mask &&& r.rwMask &&& mask = v &&& r.rwMask &&& mask := by
    rw [BitVec.and_assoc v mask, BitVec.and_comm mask, ← BitVec.and_assoc, BitVec.and_assoc, BitVec.and_self]
  unfold Reg.written
  simp only [h, h']

/-- The bits of a register after a write of all of it, by their access codes (R6, R8). -/
theorem Reg.getLsbD_written (r : Reg) (old v : BitVec 64) {b : Nat} (hb : b < r.width) :
    (r.written old r.wordMask v).getLsbD b =
      if r.rwMask.getLsbD b then v.getLsbD b
      else old.getLsbD b && !(r.w1cMask.getLsbD b && v.getLsbD b) && !(r.countMask.getLsbD b && v &&& r.countMask != 0) := by
  have h64 : b < 64 := by rcases r.width_eq with h | h <;> omega
  have hm : r.wordMask.getLsbD b = true := by rw [Reg.getLsbD_wordMask]; exact decide_eq_true hb
  have hv : v &&& r.wordMask &&& r.countMask = v &&& r.countMask := by rw [BitVec.and_assoc, r.wordMask_and_countMask]
  have hkept : (old &&& ~~~ (r.rwMask &&& r.wordMask) ||| (v &&& r.rwMask &&& r.wordMask)).getLsbD b =
      if r.rwMask.getLsbD b then v.getLsbD b else old.getLsbD b := by
    simp only [BitVec.getLsbD_or, BitVec.getLsbD_and, BitVec.getLsbD_not, hm, h64, decide_true, Bool.true_and, Bool.and_true]
    cases r.rwMask.getLsbD b <;> simp
  have hcleared : ((old &&& ~~~ (r.rwMask &&& r.wordMask) ||| (v &&& r.rwMask &&& r.wordMask)) &&&
      ~~~ (v &&& r.wordMask &&& r.w1cMask)).getLsbD b =
      if r.rwMask.getLsbD b then v.getLsbD b else old.getLsbD b && !(r.w1cMask.getLsbD b && v.getLsbD b) := by
    rw [BitVec.getLsbD_and, hkept]
    simp only [BitVec.getLsbD_and, BitVec.getLsbD_not, hm, h64, decide_true, Bool.true_and, Bool.and_true]
    split
    · rw [getLsbD_of_and_eq_zero r.rwMask_and_w1cMask ‹_›]; simp
    · rw [Bool.and_comm (v.getLsbD b)]
  unfold Reg.written
  rw [hv]
  by_cases hc : v &&& r.countMask = 0
  · rw [if_pos hc, hcleared, bne_eq_false_iff_eq.mpr hc, Bool.and_false, Bool.not_false, Bool.and_true]
  · rw [if_neg hc, BitVec.getLsbD_and, hcleared, bne_iff_ne.mpr hc, Bool.and_true, BitVec.getLsbD_not, decide_eq_true h64,
      Bool.true_and]
    split
    · rw [getLsbD_of_and_eq_zero r.rwMask_and_countMask ‹_›]; simp
    · rfl

end Sys2Proof.Machine
end

section
/-! PROOFS. Naturally aligned requests to BAR0: what a write and a read of a register come to on their way through the checks
of R11 to R17. -/

namespace Sys2Proof.Machine

/-! ### What the start of a command and the shadow rule leave to see -/

theorem State.gate_begin {s : State} {a : Agent} (h : s.gate a = none) : s.begin.gate a = none := by
  unfold State.gate at h ⊢
  split at h
  · split at h
    · cases h
    · split at h
      · cases h
      · rw [if_neg, if_neg] <;> assumption
  · rfl

theorem State.busAddr_begin (s : State) (a : Agent) (addr : Nat) : s.begin.busAddr a addr = s.busAddr a addr := rfl

/-- The shadow rule changes nothing but shadows. -/
theorem State.touch_eq (s : State) (a : Agent) (k : Nat) :
    ∃ sh, s.touch a k = { s with bus := { s.bus with shadows := sh } } := by
  unfold State.touch
  split
  · split
    · exact ⟨s.bus.shadows, rfl⟩
    · exact ⟨_, rfl⟩
  · exact ⟨s.bus.shadows, rfl⟩

theorem State.view_touch (s : State) (a : Agent) (k : Nat) (r : Reg) (i : Nat) : (s.touch a k).view r i = s.view r i := by
  obtain ⟨sh, h⟩ := s.touch_eq a k
  rw [h]; rfl

theorem State.out_touch (s : State) (a : Agent) (k : Nat) : (s.touch a k).out = s.out := by
  obtain ⟨sh, h⟩ := s.touch_eq a k
  rw [h]

theorem State.gauge_touch (s : State) (a : Agent) (k : Nat) : (s.touch a k).gauge = s.gauge := by
  obtain ⟨sh, h⟩ := s.touch_eq a k
  rw [h]

theorem State.holdOf_touch (s : State) (a b : Agent) (k : Nat) : (s.touch a k).holdOf b = s.holdOf b := by
  obtain ⟨sh, h⟩ := s.touch_eq a k
  rw [h]; rfl

/-- An access to the register that the shadow is of leaves it (R14). -/
theorem State.touch_of_shadow {s : State} {a : Agent} {h : Half} (hs : s.shadowOf a = some h) : s.touch a h.key = s := by
  unfold State.shadowOf at hs
  unfold State.touch
  simp only [hs, if_true]

/-! ### Held halves and shadows -/

theorem State.holdOf_setHold (s : State) (a : Agent) (h : Option Half) : (s.setHold a h).holdOf a = h := by
  simp [State.holdOf, State.setHold, SMap.get_set]

theorem State.shadowOf_setShadow (s : State) (a : Agent) (h : Option Half) : (s.setShadow a h).shadowOf a = h := by
  simp [State.shadowOf, State.setShadow, SMap.get_set]

theorem State.reg_setHold (s : State) (a : Agent) (h : Option Half) (r : Reg) (i : Nat) :
    (s.setHold a h).reg r i = s.reg r i := rfl

theorem OnlyRegs.setHold (p) (s : State) (a : Agent) (h : Option Half) : OnlyRegs p s (s.setHold a h) := ⟨rfl, fun _ _ _ => rfl⟩

theorem OnlyRegs.setShadow (p) (s : State) (a : Agent) (h : Option Half) : OnlyRegs p s (s.setShadow a h) :=
  ⟨rfl, fun _ _ _ => rfl⟩

theorem OnlyRegs.plainWrite (s : State) (r : Reg) (i : Nat) (mask v : BitVec 64) :
    OnlyRegs (fun q j => q = r ∧ j = i) s (s.plainWrite r i mask v) := OnlyRegs.setReg s _ ⟨rfl, rfl⟩

theorem State.reg_plainWrite (s : State) (r : Reg) (i : Nat) (mask v : BitVec 64) :
    (s.plainWrite r i mask v).reg r i = r.written (s.reg r i) mask v := State.reg_setReg_self ..

/-- A register without a meaning of its own is written by the access codes of its fields. -/
theorem State.writeReg_plain {r : Reg} (h : r ∉ specialWrites) (s : State) (a : Agent) (i : Nat) (mask v : BitVec 64) :
    s.writeReg a r i mask v = s.plainWrite r i mask v := by
  unfold State.writeReg
  split
  any_goals simp [specialWrites] at h
  rfl

/-! ### Aligned requests to BAR0 -/

/-- An access of 32 or 64 bits that is naturally aligned (R11). -/
def Aligned (addr size : Nat) : Prop := (size = 4 ∨ size = 8) ∧ addr % size = 0

theorem Aligned.word {addr : Nat} (h : addr % 4 = 0) : Aligned addr 4 := ⟨.inl rfl, h⟩

theorem Aligned.dword {addr : Nat} (h : addr % 8 = 0) : Aligned addr 8 := ⟨.inr rfl, h⟩

theorem Aligned.ofReg {addr : Nat} {r : Reg} (h : addr % (r.width / 8) = 0) : Aligned addr (r.width / 8) :=
  ⟨by rcases r.width_eq with hw | hw <;> simp [hw], h⟩

theorem Aligned.reachesWord {addr size : Nat} (h : Aligned addr size) : reachesWord addr size = true := by
  obtain ⟨rfl | rfl, ha⟩ := h <;> simp [Machine.reachesWord, ha]

theorem Aligned.not_reqRefused {addr size : Nat} (h : Aligned addr size) (wr : Bool) :
    reqRefused ⟨.bar0, addr, size, true⟩ wr = false := by
  have hr := h.reachesWord
  obtain ⟨rfl | rfl, ha⟩ := h
  · have : addr % 8 + 4 ≤ 8 := by omega
    simp [reqRefused, hr, this]
  · simp [reqRefused, hr, ha]

theorem execRegisterWrite_bar0 {s : State} {a : Agent} {addr size : Nat} (hg : s.gate a = none) (h : Aligned addr size)
    (v : BitVec 64) : exec (.registerWrite a ⟨.bar0, addr, size, true⟩ v) s = .next (s.begin.busWrite a addr size v).1 := by
  show execRegisterWrite a ⟨.bar0, addr, size, true⟩ v s = _
  unfold execRegisterWrite
  simp only [State.gate_begin hg, h.not_reqRefused]
  cases agentFn a <;> rfl

theorem execRegisterRead_bar0 {s : State} {a : Agent} {addr size : Nat} (hg : s.gate a = none) (h : Aligned addr size) :
    execRegisterRead a ⟨.bar0, addr, size, true⟩ s = .next (State.answer a size (s.begin.busRead a addr size)) := by
  unfold execRegisterRead
  simp only [State.gate_begin hg, h.not_reqRefused]
  cases agentFn a <;> rfl

/-! ### What a write through the bus comes to -/

/-- A write of the upper half joins the half that the agent holds of the register (R12). -/
theorem State.writeHalf_joined {s : State} {a : Agent} {r : Reg} {i : Nat} {h : BitVec 32} (hh : s.holdOf a = some ⟨r.key i, h⟩)
    (v : BitVec 32) : s.writeHalf a r i true v = (s.setHold a none).writeReg a r i all64 (v ++ h : BitVec 64) := by
  simp only [State.writeHalf, hh, if_true]
  rfl

section BusWrite
variable {s : State} {a : Agent} {addr off i : Nat} {r : Reg}

theorem State.busWrite_word (hb : s.busAddr a addr = some addr) (h : addr % 4 = 0) (v : BitVec 64) :
    s.busWrite a addr 4 v = s.write32 a addr (v.setWidth 32) := by
  unfold State.busWrite
  simp [(Aligned.word h).reachesWord, hb]

theorem State.busWrite_dword (hb : s.busAddr a addr = some addr) (h : addr % 8 = 0) (v : BitVec 64) :
    s.busWrite a addr 8 v = s.write64 a addr v := by
  unfold State.busWrite
  simp [(Aligned.dword h).reachesWord, hb]

theorem State.write32_located (hl : locate addr = some (r, i, off)) (v : BitVec 32) : s.write32 a addr v = s.tryWrite a r i
    (fun t => if r.width = 32 then t.writeReg a r i low32 (v.setWidth 64) else t.writeHalf a r i (off == 4) v) := by
  unfold State.write32
  rw [hl]

theorem State.write64_located (hl : locate addr = some (r, i, 0)) (hw : r.width = 64) (v : BitVec 64) :
    s.write64 a addr v = s.tryWrite a r i (fun t => t.writeReg a r i all64 v) := by
  unfold State.write64
  rw [hl]
  simp only [hw, if_true]

/-- An aligned write of a register's own width writes all its bits (R11, R12). -/
theorem State.busWrite_whole (hb : s.busAddr a addr = some addr) (hl : locate addr = some (r, i, 0))
    (h : addr % (r.width / 8) = 0) (v : BitVec 64) : s.busWrite a addr (r.width / 8) v =
      s.tryWrite a r i (fun t => t.writeReg a r i r.wordMask (v &&& r.wordMask)) := by
  unfold Reg.wordMask
  rcases r.width_eq with hw | hw <;> rw [hw] at h ⊢
  · rw [State.busWrite_word hb h, State.write32_located hl]
    have hv : (v.setWidth 32).setWidth 64 = v &&& low32 := by
      refine BitVec.eq_of_getLsbD_eq fun b hb => ?_
      rw [BitVec.getLsbD_and, getLsbD_low32, BitVec.getLsbD_setWidth, BitVec.getLsbD_setWidth]
      simp [hb, Bool.and_comm]
    simp only [hw, hv, if_true]
  · rw [State.busWrite_dword hb h, State.write64_located hl hw, if_neg (by decide), show all64 = BitVec.allOnes 64 by decide,
      BitVec.and_allOnes]

theorem State.tryWrite_ok (h : s.reach a r i = .ok) (f : State → State) :
    s.tryWrite a r i f = (f (s.touch a (r.key i)), false) := by simp only [State.tryWrite, h]

theorem State.tryWrite_violation (h : s.reach a r i = .violation) (f : State → State) :
    s.tryWrite a r i f = ((s.touch a (r.key i)).accViol a, true) := by simp only [State.tryWrite, h]

/-- A write that meets a register which is off or does not exist is discarded (R15, R16). -/
theorem OnlyRegs.tryWrite_discarded (p) (h : s.reach a r i = .off ∨ s.reach a r i = .undefined) (f : State → State) :
    OnlyRegs p s (s.tryWrite a r i f).1 := by
  rcases h with h | h <;> simp only [State.tryWrite, h]
  · exact OnlyRegs.touch p s a _
  · exact OnlyRegs.refl p s

end BusWrite

/-! ### What a read through the bus comes to -/

/-- A read of a whole register: the value, the state, and whether R17 refused it. -/
def State.wholeRead (s : State) (a : Agent) (r : Reg) (i : Nat) : BitVec 64 × State × Bool :=
  match s.reach a r i with
  | .undefined => (0, s, false)
  | .violation => (0, (s.touch a (r.key i)).accViol a, true)
  | .off => (BitVec.ofNat 64 (2 ^ r.width - 1), s.touch a (r.key i), false)
  | .ok => (BitVec.ofNat 64 ((s.view r i).toNat % 2 ^ r.width), s.touch a (r.key i), false)

section BusRead
variable {s : State} {a : Agent} {addr off i : Nat} {r : Reg}

theorem bytesOfWord_whole (w : BitVec 32) : bytesOfWord w 0 4 = w.setWidth 64 := by
  refine BitVec.eq_of_toNat_eq ?_
  have := w.isLt
  simp only [bytesOfWord, BitVec.toNat_ofNat, BitVec.toNat_setWidth]
  omega

theorem State.busRead_word (hb : s.busAddr a addr = some addr) (h : addr % 4 = 0) :
    s.busRead a addr 4 = ((s.read32 a addr).1.setWidth 64, (s.read32 a addr).2) := by
  unfold State.busRead
  simp [(Aligned.word h).reachesWord, hb, h, bytesOfWord_whole]

theorem State.busRead_dword (hb : s.busAddr a addr = some addr) (h : addr % 8 = 0) :
    s.busRead a addr 8 = s.read64 a addr := by
  unfold State.busRead
  simp [(Aligned.dword h).reachesWord, hb]

theorem State.read32_ok (hl : locate addr = some (r, i, off)) (h : s.reach a r i = .ok) : s.read32 a addr =
    (((s.touch a (r.key i)).readHalf a r i (off == 4)).1, ((s.touch a (r.key i)).readHalf a r i (off == 4)).2, false) := by
  simp only [State.read32, hl, h]

theorem State.read32_off (hl : locate addr = some (r, i, off)) (h : s.reach a r i = .off) :
    s.read32 a addr = (0xFFFFFFFF, s.touch a (r.key i), false) := by simp only [State.read32, hl, h]

theorem State.read64_off (hl : locate addr = some (r, i, 0)) (hw : r.width = 64) (h : s.reach a r i = .off) :
    s.read64 a addr = (all64, s.touch a (r.key i), false) := by simp only [State.read64, hl, hw, h, if_true]

/-- All registers but the two that latch the time read as they show, and reading them changes nothing. -/
theorem State.readWhole_view (h : r ≠ .TIM_TOD_NS) (h' : r ≠ .TIM_TOD_SEC) (s : State) (i : Nat) :
    s.readWhole r i = (s.view r i, s) := by
  unfold State.readWhole
  split
  · exact absurd rfl h
  · exact absurd rfl h'
  · rfl

/-- A read of a lower half answers it and latches the upper half (R13). -/
theorem State.readHalf_lower (h : r ≠ .TIM_TOD_NS) (h' : r ≠ .TIM_TOD_SEC) : s.readHalf a r i false =
    ((s.view r i).extractLsb' 0 32,
      if r.width = 64 then s.setShadow a (some ⟨r.key i, (s.view r i).extractLsb' 32 32⟩) else s) := by
  simp only [State.readHalf, State.readWhole_view h h']

/-- A read of the upper half whose lower half was read last answers what was latched (R13). -/
theorem State.readHalf_latched {h : BitVec 32} (hs : s.shadowOf a = some ⟨r.key i, h⟩) :
    s.readHalf a r i true = (h, s.setShadow a none) := by
  simp only [State.readHalf, hs, if_true]

theorem setWidth_extractLow (v : BitVec 64) : (v.extractLsb' 0 32).setWidth 64 = BitVec.ofNat 64 (v.toNat % 2 ^ 32) := by
  refine BitVec.eq_of_toNat_eq ?_
  simp only [BitVec.toNat_setWidth, BitVec.extractLsb'_toNat, BitVec.toNat_ofNat, Nat.shiftRight_zero]

/-- An aligned read of a register's own width reads all its bits (R11, R13). -/
theorem State.busRead_whole (hb : s.busAddr a addr = some addr) (hl : locate addr = some (r, i, 0))
    (h : addr % (r.width / 8) = 0) (hns : r ≠ .TIM_TOD_NS) (hsec : r ≠ .TIM_TOD_SEC) :
    s.busRead a addr (r.width / 8) = s.wholeRead a r i := by
  unfold State.wholeRead
  rcases r.width_eq with hw | hw <;> simp only [hw] at h ⊢
  · rw [State.busRead_word hb h]
    cases hr : s.reach a r i
    case ok =>
      rw [State.read32_ok hl hr, show ((0 : Nat) == 4) = false from rfl, State.readHalf_lower hns hsec, State.view_touch, hw,
        if_neg (by decide), setWidth_extractLow]
    all_goals simp only [State.read32, hl, hr]; rfl
  · rw [State.busRead_dword hb h]
    cases hr : s.reach a r i
    case ok =>
      simp only [State.read64, hl, hw, hr, State.readWhole_view hns hsec, State.view_touch, if_true]
      rw [Nat.mod_eq_of_lt (s.view r i).isLt, BitVec.ofNat_toNat, BitVec.setWidth_eq]
    case off => exact State.read64_off hl hw hr
    all_goals simp only [State.read64, hl, hw, hr, if_true]

end BusRead

/-! ### The commands -/

section
variable {s : State} {a : Agent} {addr off i : Nat} {r : Reg}

/-- A write of a whole register. -/
theorem exec_write_whole (hg : s.gate a = none) (hl : locate addr = some (r, i, 0)) (hal : addr % (r.width / 8) = 0)
    (hb : s.busAddr a addr = some addr) (v : BitVec 64) :
    exec (.registerWrite a ⟨.bar0, addr, r.width / 8, true⟩ v) s =
      .next (s.begin.tryWrite a r i (fun t => t.writeReg a r i r.wordMask (v &&& r.wordMask))).1 := by
  rw [execRegisterWrite_bar0 hg (.ofReg hal), State.busWrite_whole (s := s.begin) hb hl hal]

/-- A taken write of a whole register without a meaning of its own. -/
theorem exec_write_taken (ht : s.takes a r i) (hl : locate addr = some (r, i, 0)) (hal : addr % (r.width / 8) = 0)
    (hb : s.busAddr a addr = some addr) (hr : r ∉ specialWrites) (v : BitVec 64) :
    exec (.registerWrite a ⟨.bar0, addr, r.width / 8, true⟩ v) s =
      .next ((s.begin.touch a (r.key i)).plainWrite r i r.wordMask v) := by
  rw [exec_write_whole ht.1 hl hal hb, State.tryWrite_ok (s := s.begin) ht.2, State.writeReg_plain hr, State.plainWrite,
    Reg.written_and]
  rfl

/-- A taken write of half of a 64-bit register. -/
theorem exec_write_half (ht : s.takes a r i) (hl : locate addr = some (r, i, off)) (hal : addr % 4 = 0)
    (hb : s.busAddr a addr = some addr) (hw : r.width = 64) (v : BitVec 64) :
    exec (.registerWrite a ⟨.bar0, addr, 4, true⟩ v) s =
      .next ((s.begin.touch a (r.key i)).writeHalf a r i (off == 4) (v.setWidth 32)) := by
  rw [execRegisterWrite_bar0 ht.1 (.word hal), State.busWrite_word (s := s.begin) hb hal, State.write32_located hl,
    State.tryWrite_ok (s := s.begin) ht.2, hw, if_neg (by decide)]

/-- A read of a whole register. -/
theorem exec_read_whole (hg : s.gate a = none) (hl : locate addr = some (r, i, 0)) (hal : addr % (r.width / 8) = 0)
    (hb : s.busAddr a addr = some addr) (hns : r ≠ .TIM_TOD_NS) (hsec : r ≠ .TIM_TOD_SEC) :
    exec (.registerRead a ⟨.bar0, addr, r.width / 8, true⟩) s =
      .next (State.answer a (r.width / 8) (s.begin.wholeRead a r i)) := by
  show execRegisterRead a ⟨.bar0, addr, r.width / 8, true⟩ s = _
  rw [execRegisterRead_bar0 hg (.ofReg hal), State.busRead_whole (s := s.begin) hb hl hal hns hsec]

/-- A taken 32-bit read. -/
theorem execRegisterRead_half (ht : s.takes a r i) (hl : locate addr = some (r, i, off)) (hal : addr % 4 = 0)
    (hb : s.busAddr a addr = some addr) {x : BitVec 32} {t : State}
    (hx : (s.begin.touch a (r.key i)).readHalf a r i (off == 4) = (x, t)) :
    execRegisterRead a ⟨.bar0, addr, 4, true⟩ s = .next (State.answer a 4 (x.setWidth 64, t, false)) := by
  rw [execRegisterRead_bar0 ht.1 (.word hal), State.busRead_word (s := s.begin) hb hal, State.read32_ok (s := s.begin) hl ht.2, hx]

/-- HALF_READ_LATCH of the lower half of a 64-bit register is a 32-bit read of it. -/
theorem exec_halfReadLatch (hl : locate addr = some (r, i, 0)) (hb : s.busAddr a addr = some addr) (hw : r.width = 64) :
    exec (.halfReadLatch a addr) s = execRegisterRead a ⟨.bar0, addr, 4, true⟩ s := by
  show execHalfReadLatch a addr s = _
  unfold execHalfReadLatch
  simp only [State.busAddr_begin, hb, hl, hw, if_true]

end

end Sys2Proof.Machine
end

section
/-! PROOFS. A report writes no counter of PCX_CNT but that of dropped interrupts, so that a refused access is counted once. -/

namespace Sys2Proof.Machine

/-- The places of the register file that a report writes: of PCX_CNT only PCX_IVEC_BAD, the count of dropped interrupts (R327). -/
def ReportInst (r : Reg) (i : Nat) : Prop := r ∈ reportRegs ∧ (r = .PCX_CNT → i = 5)

theorem ReportInst.of_ne {r : Reg} {i : Nat} (h : r ∈ reportRegs) (hne : r ≠ .PCX_CNT) : ReportInst r i :=
  ⟨h, fun e => absurd e hne⟩

theorem ReportInst.ivecBad : ReportInst .PCX_CNT 5 := ⟨by decide, fun _ => rfl⟩

theorem RegsBut.setReg {p : Reg → Nat → Prop} (s : State) {r : Reg} {i : Nat} (v : BitVec 64) (h : p r i) :
    RegsBut p s (s.setReg r i v) := (OnlyRegs.setReg s v h).2

theorem RegsBut.setFld {p : Reg → Nat → Prop} (s : State) {f : Fld} {i : Nat} (v : Nat) (h : p f.reg i) :
    RegsBut p s (s.setFld f i v) := (OnlyRegs.setFld s v h).2

theorem RegsBut.satFld {p : Reg → Nat → Prop} (s : State) {f : Fld} {i : Nat} (n : Nat) (h : p f.reg i) :
    RegsBut p s (s.satFld f i n) := RegsBut.setFld s _ h

theorem RegsBut.of_regs {p : Reg → Nat → Prop} {s t : State} (h : t.regs = s.regs) : RegsBut p s t :=
  fun r i _ => by simp only [State.reg, h]

theorem RegsBut.ite {p : Reg → Nat → Prop} {s t u : State} {c : Prop} [Decidable c] (ht : RegsBut p s t) (hu : RegsBut p s u) :
    RegsBut p s (if c then t else u) := by
  split
  · exact ht
  · exact hu

/-- An addition goes to its counter, or, while a collection holds that frozen, at most to the count of lost additions. -/
theorem RegsBut.bump {p : Reg → Nat → Prop} (s : State) {r : Reg} {i : Nat} (n : Nat) (h : p r i) (hl : p .GGE_COL_STS 0) :
    RegsBut p s (s.bump r i n) := by
  unfold State.bump
  split
  · unfold State.pend
    dsimp only
    split
    · exact RegsBut.of_regs rfl
    · unfold State.lose
      split
      · exact RegsBut.refl p s
      · exact (RegsBut.setReg s _ hl).trans (RegsBut.of_regs rfl)
  · exact RegsBut.setReg s _ h

theorem RegsBut.bump_report (s : State) {r : Reg} {i : Nat} (n : Nat) (h : ReportInst r i) : RegsBut ReportInst s (s.bump r i n) :=
  RegsBut.bump s n h (.of_ne (by decide) (by decide))

theorem RegsBut.event (s : State) (f j : Nat) : RegsBut ReportInst s (s.event f j) := by
  unfold State.event
  split
  · exact RegsBut.ite (RegsBut.bump_report s 1 .ivecBad) (RegsBut.setFld s 1 (.of_ne (by decide) (by decide)))
  · exact RegsBut.bump_report s 1 .ivecBad

theorem RegsBut.interrupt (s : State) (i : Nat) : RegsBut ReportInst s (s.interrupt i) :=
  RegsBut.ite (RegsBut.event s _ _) (RegsBut.refl _ s)

theorem RegsBut.cqRefresh (s : State) (g : Nat) : RegsBut ReportInst s (s.cqRefresh g) :=
  (RegsBut.setFld s _ (.of_ne (by decide) (by decide))).trans (RegsBut.setFld _ _ (.of_ne (by decide) (by decide)))

theorem RegsBut.sendTlp (s : State) (o : Out) : RegsBut ReportInst s (s.sendTlp o) :=
  (RegsBut.of_regs rfl : RegsBut _ s (s.emit o)).trans (RegsBut.setFld _ 0 (.of_ne (by decide) (by decide)))

theorem RegsBut.cqWrite (s : State) (g : Nat) (e : Bytes) : RegsBut ReportInst s (s.cqWrite g e) := by
  unfold State.cqWrite
  extract_lets log tail f addr s1
  have h1 : RegsBut ReportInst s s1 := (RegsBut.sendTlp s _).trans (RegsBut.setFld _ _ (.of_ne (by decide) (by decide)))
  exact (RegsBut.ite (h1.trans (RegsBut.event _ _ _)) h1).trans (RegsBut.cqRefresh _ g)

theorem RegsBut.setCq {p : Reg → Nat → Prop} (s : State) (g : Nat) (v : CqSt) : RegsBut p s (s.setCq g v) := RegsBut.of_regs rfl

theorem RegsBut.cqPush (s : State) (g : Nat) (e : Bytes) : RegsBut ReportInst s (s.cqPush g e) :=
  RegsBut.ite (RegsBut.cqWrite s g e) ((RegsBut.setCq s g _).trans (RegsBut.cqRefresh _ g))

theorem RegsBut.notifyCore (s : State) (t die a b : Nat) (body : Bytes) :
    RegsBut ReportInst s (s.notifyCore t die a b body).1 := by
  have hcnt (u : State) (i : Nat) : RegsBut ReportInst u (u.bump .DMA_CNT i 1) :=
    RegsBut.bump_report u 1 (.of_ne (by decide) (by decide))
  unfold State.notifyCore
  extract_lets g
  split
  · exact hcnt s 10
  · split
    · exact ((RegsBut.setCq s _ _).trans (RegsBut.cqPush _ _ _)).trans (hcnt _ 8)
    · exact ((RegsBut.setCq s _ _).trans (RegsBut.satFld _ 1 (.of_ne (by decide) (by decide)))).trans (hcnt _ 9)

theorem RegsBut.journal (s : State) (r : JrnRec) : RegsBut ReportInst s (s.journal r) :=
  RegsBut.ite (RegsBut.of_regs rfl) ((RegsBut.satFld s 1 (.of_ne (by decide) (by decide))).trans (RegsBut.of_regs rfl))

theorem RegsBut.journalNow (s : State) (ty fl : Nat) (b : Bytes) : RegsBut ReportInst s (s.journalNow ty fl b) :=
  RegsBut.journal s _

theorem RegsBut.fltMark (s : State) (k src inst : Nat) (info : BitVec 48) (inj : Bool) :
    RegsBut ReportInst s (s.fltMark k src inst info inj) := by
  have hset (u : State) {r : Reg} {i : Nat} (v : BitVec 64) (h : r ∈ reportRegs ∧ r ≠ .PCX_CNT) :
      RegsBut ReportInst u (u.setReg r i v) := RegsBut.setReg u v (.of_ne h.1 h.2)
  unfold State.fltMark
  extract_lets s1 s2
  have h1 : RegsBut ReportInst s s1 := (hset s _ (by decide)).trans (RegsBut.satFld _ 1 (.of_ne (by decide) (by decide)))
  have h2 : RegsBut ReportInst s s2 := RegsBut.ite (h1.trans (hset _ _ (by decide))) h1
  exact RegsBut.ite h2 ((h2.trans (hset _ _ (by decide))).trans (hset _ _ (by decide)))

theorem RegsBut.fltReport (s : State) (k src inst cls react : Nat) (info : BitVec 48) (inj : Bool) :
    RegsBut ReportInst s (s.fltReport k src inst cls react info inj).1 := by
  unfold State.fltReport
  extract_lets s1 p withheld s2
  have h1 : RegsBut ReportInst s s1 := RegsBut.ite (RegsBut.interrupt s _) (RegsBut.refl _ s)
  have hp : RegsBut ReportInst s p.1 := by
    show RegsBut _ s (if _ then _ else _ : State × Option Nat).1
    split
    · exact h1.trans (RegsBut.notifyCore _ _ _ _ _ _)
    · exact h1
  have h2 : RegsBut ReportInst s s2 := RegsBut.ite (hp.trans (RegsBut.journalNow _ _ _ _)) hp
  exact RegsBut.ite h2 (h2.trans (RegsBut.of_regs rfl))

theorem RegsBut.fltCore (s : State) (k src inst : Nat) (info : BitVec 48) (lasting inj : Bool) :
    RegsBut ReportInst s (s.fltCore k src inst info lasting inj).1 := by
  unfold State.fltCore
  split
  · exact RegsBut.refl _ s
  · extract_lets armed flt s0 s1
    have h1 : RegsBut ReportInst s s1 := (RegsBut.of_regs rfl : RegsBut _ s s0).trans (RegsBut.fltMark _ _ _ _ _ _)
    split
    · exact h1
    · exact h1.trans (RegsBut.fltReport _ _ _ _ _ _ _ _)

theorem RegsBut.faultWith (s : State) (k src inst : Nat) (info : BitVec 48) (lasting inj : Bool) :
    RegsBut ReportInst s (s.faultWith k src inst info lasting inj) := by
  have hcore {u v : State} {k src inst : Nat} {info : BitVec 48} {lasting inj : Bool} {g : Option Nat}
      (e : u.fltCore k src inst info lasting inj = (v, g)) : RegsBut ReportInst u v := by
    have h := RegsBut.fltCore u k src inst info lasting inj
    rw [e] at h
    exact h
  unfold State.faultWith
  split
  · exact hcore ‹_›
  · rename_i e
    split
    · exact (hcore e).trans (hcore ‹_›)
    · exact ((hcore e).trans (hcore ‹_›)).trans (RegsBut.fltCore _ _ _ _ _ _ _)

/-- A refused access is counted once in PCX_ACC_VIOL, whatever its fault reports (R17). -/
theorem State.accViol_counted {s : State} (h : s.counts .PCX_CNT 11) (a : Agent) :
    (s.accViol a).reg .PCX_CNT 11 = s.reg .PCX_CNT 11 + 1 := by
  have hbump : (s.bump .PCX_CNT 11 1).reg .PCX_CNT 11 = s.reg .PCX_CNT 11 + 1 := by
    unfold State.bump
    rw [if_neg (by rw [h]; decide), State.reg_setReg_self]
    rfl
  have hfault := RegsBut.faultWith (s.bump .PCX_CNT 11 1) 4 3 (agentNum a) (BitVec.ofNat 48 0) false false .PCX_CNT 11
    (fun h => absurd (h.2 rfl) (by decide))
  exact hfault.trans hbump

end Sys2Proof.Machine
end

section
/-! PROOFS. Reads and writes of registers through the bus: access codes, refusals, halves, and registers that are off. -/

namespace Sys2Proof.Machine

theorem OnlyRegs.begin_touch (p) (s : State) (a : Agent) (k : Nat) : OnlyRegs p s (s.begin.touch a k) :=
  (OnlyRegs.begin p s).trans (OnlyRegs.touch p _ a k)

theorem OnlyReports.refused (s : State) (a : Agent) (k : Nat) :
    OnlyReports (fun _ _ => False) s ((s.begin.touch a k).accViol a) :=
  (OnlyRegs.begin_touch _ s a k).reports.trans (OnlyReports.accViol _ _ a)

theorem accViol_begin_touch {s : State} (h : s.counts .PCX_CNT 11) (a : Agent) (k : Nat) :
    ((s.begin.touch a k).accViol a).reg .PCX_CNT 11 = s.reg .PCX_CNT 11 + 1 := by
  have hc : (s.begin.touch a k).counts .PCX_CNT 11 := by
    show (s.begin.touch a k).gauge.held.contains _ = false
    rw [State.gauge_touch]
    exact h
  rw [State.accViol_counted hc, touch_reg]
  rfl

theorem State.out_begin_touch (s : State) (a : Agent) (k : Nat) : (s.begin.touch a k).out = [] := State.out_touch _ a k

theorem State.out_answer (a : Agent) (n : Nat) (p : BitVec 64 × State × Bool) :
    (State.answer a n p).out = p.2.1.out ++ [.readData a p.1 n] := rfl

theorem OnlyRegs.answer {p : Reg → Nat → Prop} {s : State} {x : BitVec 64 × State × Bool} (h : OnlyRegs p s x.2.1) (a : Agent)
    (n : Nat) : OnlyRegs p s (State.answer a n x) := h.trans (OnlyRegs.emit p _ _)

/-- An answered read whose state changes only in the agent's shadow. -/
theorem answered_by {s t : State} {a : Agent} {n k : Nat} {v : BitVec 64}
    (h : t = State.answer a n (v, s.begin.touch a k, false)) :
    t.out = [.readData a v n] ∧ OnlyRegs (fun _ _ => False) s t := by
  subst h
  exact ⟨by rw [State.out_answer, State.out_begin_touch]; rfl, (OnlyRegs.begin_touch _ s a k).answer a n⟩

/-- Settles O6: by the bits of `Reg.written`, and by what `State.tryWrite` does with a write that does not reach its register. -/
theorem writeFollowsAccessCodes : Obligations.WriteFollowsAccessCodes := by
  unfold Obligations.WriteFollowsAccessCodes
  refine ⟨?taken, ?discarded, ?refused⟩
  case taken =>
    intro a addr v r i s ht hl hal hb hr
    refine ⟨_, exec_write_taken ht hl hal hb hr v, State.out_begin_touch .., ?_, ?_⟩
    · exact (OnlyRegs.begin_touch _ s a _).trans (OnlyRegs.plainWrite ..)
    · intro b hlt
      rw [State.reg_plainWrite, touch_reg]
      exact Reg.getLsbD_written r _ v hlt
  case discarded =>
    intro a addr v r i s hg hreach hl hal hb
    exact ⟨_, exec_write_whole hg hl hal hb v, (OnlyRegs.begin _ s).trans (OnlyRegs.tryWrite_discarded (s := s.begin) _ hreach _)⟩
  case refused =>
    intro a addr v r i s hg hreach hl hal hb hheld
    refine ⟨_, exec_write_whole hg hl hal hb v, ?_⟩
    rw [State.tryWrite_violation (s := s.begin) hreach]
    exact ⟨accViol_begin_touch hheld a _, OnlyReports.refused s a _⟩

/-- Settles O7: an aligned read of a whole register is `State.wholeRead`, and its four cases are those of the statement. -/
theorem readAnswersTheRegister : Obligations.ReadAnswersTheRegister := by
  unfold Obligations.ReadAnswersTheRegister
  intro a addr r i s hg hl hal hb hns hsec
  have hx := exec_read_whole hg hl hal hb hns hsec
  have hw (q : Reach) (hq : s.reach a r i = q) : s.begin.reach a r i = q := hq
  refine ⟨fun hr => ⟨_, hx, ?_⟩, fun hr hheld => ⟨_, hx, ?_⟩, fun hr => ⟨_, hx, ?_⟩, fun hr => ⟨_, hx, ?_⟩⟩
  all_goals simp only [State.wholeRead, hw _ hr]
  · exact answered_by rfl
  · exact ⟨by rw [State.out_answer, List.getLast?_concat], accViol_begin_touch hheld a _,
      (OnlyReports.refused s a _).trans (OnlyReports.emit _ _)⟩
  · exact answered_by rfl
  · exact ⟨rfl, (OnlyRegs.begin _ s).answer a _⟩

/-- Settles O12: a register that is off answers ones at every width, and a write of it ends at the shadow rule. -/
theorem offRegistersReadOnes : Obligations.OffRegistersReadOnes := by
  unfold Obligations.OffRegistersReadOnes
  intro a addr off v r i s hg hoff hb hl
  have hreach : s.begin.reach a r i = .off := hoff
  refine ⟨fun h4 => ⟨⟨_, execRegisterRead_bar0 hg (.word h4), ?_⟩, ⟨_, execRegisterWrite_bar0 hg (.word h4) v, ?_⟩⟩,
    fun h8 hz hw => ⟨⟨_, execRegisterRead_bar0 hg (.dword h8), ?_⟩, ⟨_, execRegisterWrite_bar0 hg (.dword h8) v, ?_⟩⟩⟩
  · rw [State.busRead_word (s := s.begin) hb h4, State.read32_off hl hreach]
    exact answered_by rfl
  · rw [State.busWrite_word (s := s.begin) hb h4, State.write32_located hl]
    exact (OnlyRegs.begin _ s).trans (OnlyRegs.tryWrite_discarded _ (.inl hreach) _)
  · rw [State.busRead_dword (s := s.begin) hb h8, State.read64_off (hz ▸ hl) hw hreach]
    exact answered_by rfl
  · rw [State.busWrite_dword (s := s.begin) hb h8, State.write64_located (hz ▸ hl) hw]
    exact (OnlyRegs.begin _ s).trans (OnlyRegs.tryWrite_discarded _ (.inl hreach) _)

/-- Settles O8: by what a half's write holds or joins, and what a half's read latches or takes. -/
theorem halvesOfARegister : Obligations.HalvesOfARegister := by
  unfold Obligations.HalvesOfARegister
  refine ⟨?held, ?joined, ?latched, ?answered⟩
  case held =>
    intro a addr v r i s ht hw hl hal hb
    exact ⟨_, exec_write_half ht hl (by omega) hb hw v, State.holdOf_setHold ..,
      (OnlyRegs.begin_touch _ s a _).trans (OnlyRegs.setHold ..)⟩
  case joined =>
    intro a addr v h r i s ht hw hr hl hal hb hh
    have hhold : (s.begin.touch a (r.key i)).holdOf a = some ⟨r.key i, h⟩ := by rw [State.holdOf_touch]; exact hh
    refine ⟨_, exec_write_half ht hl (by omega) hb hw v, ?_⟩
    rw [show ((4 : Nat) == 4) = true from rfl, State.writeHalf_joined hhold, State.writeReg_plain hr]
    refine ⟨State.holdOf_setHold .., ?_, ?_⟩
    · rw [State.reg_plainWrite, State.reg_setHold, touch_reg]
      rfl
    · exact ((OnlyRegs.begin_touch _ s a _).trans (OnlyRegs.setHold ..)).trans (OnlyRegs.plainWrite ..)
  case latched =>
    intro a addr r i s ht hw hsec hl hal hb
    have hns : r ≠ .TIM_TOD_NS := by rintro rfl; cases hw
    have hx := State.readHalf_lower (s := s.begin.touch a (r.key i)) (a := a) (i := i) hns hsec
    rw [hw, if_pos rfl, State.view_touch] at hx
    refine ⟨_, (exec_halfReadLatch hl hb hw).trans (execRegisterRead_half ht hl (by omega) hb hx), ?_, ?_, ?_⟩
    · rw [State.out_answer, setWidth_extractLow]
      exact congrArg (· ++ _) (State.out_begin_touch s a _)
    · exact State.shadowOf_setShadow ..
    · exact ((OnlyRegs.begin_touch _ s a _).trans (OnlyRegs.setShadow ..)).answer a 4
  case answered =>
    intro a addr h r i s ht hl hal hb hs
    have hx := State.readHalf_latched (s := s.begin.touch a (r.key i)) (a := a) (r := r) (i := i) (h := h)
      (by rw [State.touch_of_shadow (s := s.begin) hs]; exact hs)
    refine ⟨_, execRegisterRead_half ht hl (by omega) hb hx, ?_, ?_, ?_⟩
    · exact congrArg (· ++ _) (State.out_begin_touch s a _)
    · exact State.shadowOf_setShadow ..
    · exact ((OnlyRegs.begin_touch _ s a _).trans (OnlyRegs.setShadow ..)).answer a 4

end Sys2Proof.Machine
end

section
/-! PROOFS. Mode requests, the end of a mode transition, the heartbeat and host loss: spec/01, R25 to R38. -/

namespace Sys2Proof.Machine

/-! ### Fields of a register after a write of all of it -/

/-- A field that is RW throughout reads what was written (R6). -/
theorem Reg.getField_written_rw {r : Reg} {lsb w : Nat} (old v : BitVec 64)
    (h : ∀ b, b < w → lsb + b < r.width ∧ r.rwMask.getLsbD (lsb + b) = true) :
    getField (r.written old r.wordMask v) lsb w = getField v lsb w := by
  refine Nat.eq_of_testBit_eq fun b => ?_
  rw [testBit_getField, testBit_getField]
  by_cases hb : b < w
  · rw [Reg.getLsbD_written r old v (h b hb).1, (h b hb).2, if_pos rfl]
  · simp [hb]

/-- The low 32 bits of a 64-bit value made of a 32-bit word, read as a field. -/
theorem getField_setWidth (v : BitVec 32) (lsb w : Nat) :
    getField (v.setWidth 64) lsb w = v.toNat / 2 ^ lsb % 2 ^ w := by
  rw [getField, BitVec.extractLsb'_toNat, BitVec.toNat_setWidth, Nat.shiftRight_eq_div_pow,
    Nat.mod_eq_of_lt (Nat.lt_of_lt_of_le v.isLt (Nat.pow_le_pow_right (by decide) (by decide)))]

/-! ### What changes of registers leave of the other parts of the state -/

theorem OnlyRegs.tick {p} {s t : State} (h : OnlyRegs p s t) : t.tick = s.tick :=
  (congrArg State.tick h.1 :)

theorem OnlyRegs.part {p} {s t : State} (h : OnlyRegs p s t) : t.part = s.part :=
  (congrArg State.part h.1 :)

theorem OnlyRegs.fld {p : Reg → Nat → Prop} {s t : State} (h : OnlyRegs p s t) {f : Fld} {i : Nat} (hp : ¬ p f.reg i) :
    t.fld f i = s.fld f i := by
  unfold State.fld
  rw [h.2 _ _ hp]

theorem OnlyRegs.bit {p : Reg → Nat → Prop} {s t : State} (h : OnlyRegs p s t) {f : Fld} {i : Nat} (hp : ¬ p f.reg i) :
    t.bit f i = s.bit f i := by
  unfold State.bit
  rw [h.fld hp]

theorem OnlyReports.tick {p} {s t : State} (h : OnlyReports p s t) : t.tick = s.tick :=
  (congrArg State.tick h.1 :)

/-! ### Mode requests (R28, R29) -/

/-- The state that a mode request is judged in: MODE and TAG are stored. -/
abbrev State.modeAsked (s : State) (a : Agent) (v : BitVec 32) : State :=
  (s.begin.touch a (Reg.key .GLB_MODE_REQ 0)).plainWrite .GLB_MODE_REQ 0 low32 ((v ||| 0x80000000).setWidth 64)

theorem State.onlyRegs_modeAsked (s : State) (a : Agent) (v : BitVec 32) :
    OnlyRegs (fun r _ => r = .GLB_MODE_REQ) s (s.modeAsked a v) :=
  (OnlyRegs.begin_touch _ s a _).trans (OnlyRegs.setReg _ _ rfl)

/-- The field of a stored request is that of the written word: GO, which the command adds, is bit 31 and not stored. -/
theorem State.getField_modeAsked (s : State) (a : Agent) (v : BitVec 32) {lsb w : Nat} (hw : lsb + w ≤ 31)
    (h : ∀ b, b < w → (Reg.rwMask .GLB_MODE_REQ).getLsbD (lsb + b) = true) :
    getField ((s.modeAsked a v).reg .GLB_MODE_REQ 0) lsb w = v.toNat / 2 ^ lsb % 2 ^ w := by
  have hor : getField ((v ||| 0x80000000).setWidth 64) lsb w = getField (v.setWidth 64) lsb w := by
    refine Nat.eq_of_testBit_eq fun b => ?_
    rw [testBit_getField, testBit_getField]
    by_cases hb : b < w
    · have hbit : (0x80000000 : BitVec 32).getLsbD (lsb + b) = false := by
        rw [show (0x80000000 : BitVec 32) = BitVec.twoPow 32 31 by decide, BitVec.getLsbD_twoPow]
        simp only [Bool.and_eq_false_imp, decide_eq_true_eq, decide_eq_false_iff_not]
        omega
      rw [BitVec.getLsbD_setWidth, BitVec.getLsbD_setWidth, BitVec.getLsbD_or, hbit, Bool.or_false]
    · simp [hb]
  rw [State.reg_plainWrite, show low32 = Reg.wordMask .GLB_MODE_REQ from rfl,
    Reg.getField_written_rw _ _ fun b hb => ⟨?_, h b hb⟩, hor, getField_setWidth]
  show lsb + b < 32
  omega

theorem State.mode_modeAsked (s : State) (a : Agent) (v : BitVec 32) :
    (s.modeAsked a v).fld F.GLB_MODE_REQ_MODE 0 = v.toNat % 16 := by
  have h := s.getField_modeAsked a v (lsb := 0) (w := 4) (by decide) (by decide)
  rw [State.fld, h, Nat.pow_zero, Nat.div_one]
  rfl

theorem State.tag_modeAsked (s : State) (a : Agent) (v : BitVec 32) :
    (s.modeAsked a v).fld F.GLB_MODE_REQ_TAG 0 = v.toNat / 256 % 256 :=
  s.getField_modeAsked a v (lsb := 8) (w := 8) (by decide) (by decide)

/-- Which transitions Table 18-8 allows depends on GLB_MODE and on the power domains alone. -/
theorem OnlyRegs.modeAllowed {p : Reg → Nat → Prop} {s t : State} (h : OnlyRegs p s t) (hm : ∀ i, ¬ p .GLB_MODE i)
    (hd : ∀ i, ¬ p .PWR_DOM_STS i) (m : Nat) : t.modeAllowed m = s.modeAllowed m := by
  have hcur : t.curMode = s.curMode := h.fld (hm 0)
  have hreason : t.fld F.GLB_MODE_REASON 0 = s.fld F.GLB_MODE_REASON 0 := h.fld (hm 0)
  have hdom (d : Nat) : t.domState d = s.domState d := by
    unfold State.domState
    rw [h.part, h.fld (hd d)]
  simp only [State.modeAllowed, State.anyRemoved, hcur, hreason, hdom]

/-- No transition of Table 18-8 leads from a mode to itself (log entry 18). -/
theorem State.modeAllowed_ne {s : State} {m : Nat} (h : s.modeAllowed m = true) : m ≠ s.curMode := by
  rintro rfl
  unfold State.modeAllowed at h
  split at h <;> simp_all

/-- The conditions under which a request for mode `m` is accepted (R28). -/
def State.modeGranted (s : State) (conflict : Bool) (m : Nat) : Prop :=
  conflict = false ∧ s.fld F.GLB_MODE_BUSY 0 = 0 ∧ 2 ≤ m ∧ m ≤ 11 ∧ (m = 10 → s.fld F.SEC_DBG_STS_LEVEL 0 = 2) ∧
    m ≠ s.curMode ∧ s.modeAllowed m = true

/-- BUSY is one bit. -/
theorem State.busy_cases (s : State) : s.fld F.GLB_MODE_BUSY 0 = 0 ∨ s.fld F.GLB_MODE_BUSY 0 = 1 := by
  have : s.fld F.GLB_MODE_BUSY 0 < 2 := s.fld_lt F.GLB_MODE_BUSY 0
  omega

/-- The code of a request is one that no mode has, or SWATCH while it is not enabled (Table 1-6, cause 3). -/
theorem State.badCode_iff (s : State) (m : Nat) :
    (m ≤ 1 || 12 ≤ m || (m == 10 && s.fld F.SEC_DBG_STS_LEVEL 0 != 2)) = true ↔
      m < 2 ∨ 11 < m ∨ (m = 10 ∧ s.fld F.SEC_DBG_STS_LEVEL 0 ≠ 2) := by
  simp only [Bool.or_eq_true, Bool.and_eq_true, decide_eq_true_eq, beq_iff_eq, bne_iff_ne]
  omega

theorem State.modeRefusal_granted {s : State} {conflict : Bool} {m : Nat} (h : s.modeGranted conflict m) :
    s.modeRefusal conflict m = 0 := by
  obtain ⟨hc, hb, h2, h11, h10, hne, hal⟩ := h
  have hcode : ¬ (m < 2 ∨ 11 < m ∨ (m = 10 ∧ s.fld F.SEC_DBG_STS_LEVEL 0 ≠ 2)) := by omega
  rw [← s.badCode_iff] at hcode
  simp [State.modeRefusal, State.bit, hc, hb, hcode, hal, hne]

/-- A refused request has the lowest cause of Table 1-6 that applies; a request for the present mode has cause 4 (log entry
18). -/
theorem State.modeRefusal_refused {s : State} {conflict : Bool} {m : Nat} (h : ¬ s.modeGranted conflict m) :
    s.modeRefusal conflict m = if conflict then 1 else if s.fld F.GLB_MODE_BUSY 0 = 1 then 2
      else if m < 2 ∨ 11 < m ∨ (m = 10 ∧ s.fld F.SEC_DBG_STS_LEVEL 0 ≠ 2) then 3 else 4 := by
  unfold State.modeRefusal State.bit
  simp only [s.badCode_iff, beq_iff_eq]
  split
  · rfl
  · split
    · rfl
    · split
      · rfl
      · rename_i hc hb hcode
        have hal : s.modeAllowed m = false := by
          by_contra hal
          rw [Bool.not_eq_false] at hal
          have := s.busy_cases
          exact h ⟨by simpa using hc, by omega, by omega, by omega, by omega, State.modeAllowed_ne hal, hal⟩
        simp [hal]

theorem exec_modeRequest {a : Agent} {s : State} (h : s.takes a .GLB_MODE_REQ 0) (conflict : Bool) (v : BitVec 32) :
    exec (.modeRequest a conflict v) s =
      .next ((s.begin.touch a (Reg.key .GLB_MODE_REQ 0)).writeModeReq a conflict low32 ((v ||| 0x80000000).setWidth 64)) :=
  congrArg Host.Outcome.next (writeBy_takes h _)

/-- The command writes GO. -/
theorem wbit_go (v : BitVec 32) : wbit low32 ((v ||| 0x80000000).setWidth 64) 31 = true := by
  unfold wbit
  rw [BitVec.getLsbD_and, getLsbD_low32, BitVec.getLsbD_setWidth, BitVec.getLsbD_or]
  simp

/-- The causes for which a request is refused do not look at GLB_MODE_REQ. -/
theorem State.modeRefusal_modeAsked (s : State) (a : Agent) (v : BitVec 32) (conflict : Bool) (m : Nat) :
    (s.modeAsked a v).modeRefusal conflict m = s.modeRefusal conflict m := by
  have h := s.onlyRegs_modeAsked a v
  have hcur : (s.modeAsked a v).curMode = s.curMode := h.fld (by decide)
  unfold State.modeRefusal
  rw [h.bit (by decide), h.fld (f := F.SEC_DBG_STS_LEVEL) (by decide), h.modeAllowed (fun _ => by decide) (fun _ => by decide), hcur]

/-- What GO comes to: the request, judged by Table 1-6, is accepted or refused. -/
theorem State.writeModeReq_go (s : State) (a : Agent) (conflict : Bool) (v : BitVec 32) :
    (s.begin.touch a (Reg.key .GLB_MODE_REQ 0)).writeModeReq a conflict low32 ((v ||| 0x80000000).setWidth 64) =
      if s.modeRefusal conflict (v.toNat % 16) ≠ 0 then
        (s.modeAsked a v).rejectMode (s.modeRefusal conflict (v.toNat % 16)) (v.toNat / 256 % 256)
      else { (((s.modeAsked a v).setFld F.GLB_MODE_TARGET 0 (v.toNat % 16)).setFld F.GLB_MODE_BUSY 0 1).freshTransition with
        mode := some ⟨isMc a, v.toNat / 256 % 256⟩ } := by
  unfold State.writeModeReq
  simp only [wbit_go, Bool.not_true, Bool.false_eq_true, if_false]
  rw [show (s.begin.touch a (Reg.key .GLB_MODE_REQ 0)).plainWrite .GLB_MODE_REQ 0 low32 ((v ||| 0x80000000).setWidth 64) =
    s.modeAsked a v from rfl, s.mode_modeAsked, s.tag_modeAsked, s.modeRefusal_modeAsked]

/-- A refusal writes REJECT, its cause and its tag, and raises the mode interrupt. -/
theorem OnlyReports.rejectMode (s : State) (cause tag : Nat) :
    OnlyReports (fun r _ => r = .GLB_MODE_STS) s (s.rejectMode cause tag) :=
  (((OnlyReports.setFld s _ (.inr rfl)).trans (OnlyReports.setFld _ _ (.inr rfl))).trans (OnlyReports.setFld _ _ (.inr rfl))).trans
    (OnlyReports.interrupt _ _ _)

theorem State.fld_rejectMode (s : State) (cause tag : Nat) :
    (s.rejectMode cause tag).fld F.GLB_MODE_STS_REJECT 0 = 1 ∧
      (s.rejectMode cause tag).fld F.GLB_MODE_STS_REJ_CAUSE 0 = cause % 8 ∧
      (s.rejectMode cause tag).fld F.GLB_MODE_STS_TAG 0 = tag % 256 := by
  have hi (u : State) (f : Fld) (hf : f.reg = .GLB_MODE_STS) : (u.interrupt 0).fld f 0 = u.fld f 0 :=
    (OnlyReports.interrupt (fun _ _ => False) u 0).fld (by rw [hf]; decide) id
  unfold State.rejectMode
  refine ⟨(hi _ _ rfl).trans ?_, (hi _ _ rfl).trans ?_, (hi _ _ rfl).trans ?_⟩
  · rw [State.fld_setFld_ne _ _ _ _ _ _ (by decide), State.fld_setFld_ne _ _ _ _ _ _ (by decide),
      State.fld_setFld_self _ _ _ _ (by decide)]
    rfl
  · rw [State.fld_setFld_ne _ _ _ _ _ _ (by decide), State.fld_setFld_self _ _ _ _ (by decide)]
    rfl
  · rw [State.fld_setFld_self _ _ _ _ (by decide)]
    rfl

/-- The state in which a request for mode `m` with tag `tag` has been accepted. -/
abbrev State.modePending (s : State) (a : Agent) (m tag : Nat) : State :=
  { ((s.setFld F.GLB_MODE_TARGET 0 m).setFld F.GLB_MODE_BUSY 0 1).freshTransition with mode := some ⟨isMc a, tag⟩ }

theorem State.reg_modePending (s : State) (a : Agent) (m tag : Nat) (r : Reg) (i : Nat) :
    (s.modePending a m tag).reg r i = ((s.setFld F.GLB_MODE_TARGET 0 m).setFld F.GLB_MODE_BUSY 0 1).reg r i := rfl

theorem State.fld_modePending (s : State) (a : Agent) (m tag : Nat) :
    (s.modePending a m tag).fld F.GLB_MODE_TARGET 0 = m % 16 ∧ (s.modePending a m tag).fld F.GLB_MODE_BUSY 0 = 1 ∧
      (s.modePending a m tag).curMode = s.curMode := by
  have h (f : Fld) : (s.modePending a m tag).fld f 0 = ((s.setFld F.GLB_MODE_TARGET 0 m).setFld F.GLB_MODE_BUSY 0 1).fld f 0 := rfl
  refine ⟨?_, ?_, ?_⟩
  · rw [h, State.fld_setFld_ne _ _ _ _ _ _ (by decide), State.fld_setFld_self _ _ _ _ (by decide)]
    rfl
  · rw [h, State.fld_setFld_self _ _ _ _ (by decide)]
    rfl
  · rw [State.curMode, h, State.fld_setFld_ne _ _ _ _ _ _ (by decide), State.fld_setFld_ne _ _ _ _ _ _ (by decide)]
    rfl

theorem State.regsBut_modePending (s : State) (a : Agent) (m tag : Nat) :
    RegsBut (fun r _ => r = .GLB_MODE) s (s.modePending a m tag) := by
  have h : OnlyRegs (fun r _ => r = .GLB_MODE) s ((s.setFld F.GLB_MODE_TARGET 0 m).setFld F.GLB_MODE_BUSY 0 1) :=
    (OnlyRegs.setFld _ _ rfl).trans (OnlyRegs.setFld _ _ rfl)
  exact h.2

theorem State.modePending_frame {p} {s u : State} (h : OnlyRegs p s u) (a : Agent) (m tag : Nat) :
    { u.modePending a m tag with mode := s.mode, pwr := s.pwr, regs := s.regs, bus := s.bus, out := s.out } = s :=
  calc ({ u.modePending a m tag with mode := s.mode, pwr := s.pwr, regs := s.regs, bus := s.bus, out := s.out } : State)
    _ = { ({ u with out := s.out, bus := s.bus, regs := s.regs } : State) with mode := s.mode, pwr := s.pwr } := rfl
    _ = s := by rw [h.1]

/-- Settles O9: the causes of Table 1-6 in their order, on the state with MODE and TAG stored. -/
theorem modeRequestDecided : Obligations.ModeRequestDecided := by
  unfold Obligations.ModeRequestDecided
  intro a conflict v s ht m ok
  have hask := s.onlyRegs_modeAsked a v
  rw [exec_modeRequest ht, State.writeModeReq_go]
  refine ⟨fun hok => ?accepted, fun hno => ?refused⟩
  case accepted =>
    rw [State.modeRefusal_granted hok, if_neg (by decide)]
    obtain ⟨htarget, hbusy, hcur⟩ := (s.modeAsked a v).fld_modePending a m (v.toNat / 256 % 256)
    have hregs := (s.modeAsked a v).regsBut_modePending a m (v.toNat / 256 % 256)
    refine ⟨_, rfl, htarget.trans (Nat.mod_mod _ _), hbusy, hcur.trans (hask.fld (by decide)), ?_, rfl, ?_, ?_⟩
    · exact (hregs _ _ (by decide)).trans (hask.2 _ _ (by decide))
    · exact (hask.2.mono fun _ _ => Or.inl).trans (hregs.mono fun _ _ => Or.inr)
    · exact State.modePending_frame hask a m (v.toNat / 256 % 256)
  case refused =>
    have hcause := State.modeRefusal_refused hno
    have hrange : s.modeRefusal conflict m ≠ 0 ∧ s.modeRefusal conflict m < 8 := by rw [hcause]; split_ifs <;> decide
    obtain ⟨hne, hlt⟩ := hrange
    rw [if_pos hne]
    obtain ⟨hrej, hcau, htag⟩ := (s.modeAsked a v).fld_rejectMode (s.modeRefusal conflict m) (v.toNat / 256 % 256)
    have hr := OnlyReports.rejectMode (s.modeAsked a v) (s.modeRefusal conflict m) (v.toNat / 256 % 256)
    refine ⟨_, rfl, hrej, htag.trans (Nat.mod_mod _ _), ?_, ?_, ?_⟩
    · exact (hr.reg (by decide) (by decide)).trans (hask.2 _ _ (by decide))
    · rw [hcau, Nat.mod_eq_of_lt hlt, hcause]
    · exact (hask.reports.mono fun _ _ => Or.inl).trans (hr.mono fun _ _ => Or.inr)

/-! ### The heartbeat and host loss (R33, R35, R38) -/

theorem State.lost_cases (s : State) : s.fld F.GLB_HOSTLOSS_LOST 0 = 0 ∨ s.fld F.GLB_HOSTLOSS_LOST 0 = 1 := by
  have : s.fld F.GLB_HOSTLOSS_LOST 0 < 2 := s.fld_lt F.GLB_HOSTLOSS_LOST 0
  omega

theorem OnlyRegs.hostLoss (s : State) (c : Nat) : OnlyRegs (fun r _ => r = .GLB_HOSTLOSS) s (s.hostLoss c) := by
  unfold State.hostLoss
  split
  · exact OnlyRegs.refl _ s
  · exact (OnlyRegs.setFld _ _ rfl).trans (OnlyRegs.setFld _ _ rfl)

/-- Declaring host loss sets LOST, and CAUSE where LOST was clear (R33). -/
theorem State.fld_hostLoss (s : State) (c : Nat) :
    (s.hostLoss c).fld F.GLB_HOSTLOSS_LOST 0 = 1 ∧
      (s.hostLoss c).fld F.GLB_HOSTLOSS_CAUSE 0 =
        (if s.fld F.GLB_HOSTLOSS_LOST 0 = 0 then c % 4 else s.fld F.GLB_HOSTLOSS_CAUSE 0) ∧
      (s.hostLoss c).fld F.GLB_HOSTLOSS_HB_LIMIT 0 = s.fld F.GLB_HOSTLOSS_HB_LIMIT 0 := by
  unfold State.hostLoss State.bit
  rcases s.lost_cases with h | h
  · simp only [h, if_true]
    refine ⟨?_, ?_, ?_⟩
    · exact (State.fld_setFld_ne _ _ _ _ _ _ (by decide)).trans (State.fld_setFld_self _ _ _ _ (by decide))
    · exact State.fld_setFld_self _ F.GLB_HOSTLOSS_CAUSE _ _ (by decide)
    · exact (State.fld_setFld_ne _ _ _ _ _ _ (by decide)).trans (State.fld_setFld_ne _ _ _ _ _ _ (by decide))
  · simp [h]

/-- What the register holds after LOST is written 1 with HB_LIMIT as it stands: LOST is RW1C, HB_LIMIT is RW (R6). -/
theorem getField_hostloss_cleared (old : BitVec 64) :
    getField (Reg.written .GLB_HOSTLOSS old low32 (old ||| 0x1000000)) 24 1 = 0 ∧
      getField (Reg.written .GLB_HOSTLOSS old low32 (old ||| 0x1000000)) 0 24 = getField old 0 24 := by
  have hor (b : Nat) : (old ||| 0x1000000).getLsbD b = (old.getLsbD b || decide (b = 24)) := by
    rw [BitVec.getLsbD_or, show (0x1000000 : BitVec 64) = BitVec.twoPow 64 24 by decide, BitVec.getLsbD_twoPow]
    by_cases hb : b = 24
    · subst hb; simp
    · simp [hb, Ne.symm hb]
  have hmask : low32 = Reg.wordMask .GLB_HOSTLOSS := rfl
  have hlost : (Reg.written .GLB_HOSTLOSS old low32 (old ||| 0x1000000)).getLsbD 24 = false := by
    have hrw : (Reg.rwMask .GLB_HOSTLOSS).getLsbD 24 = false := by decide
    have hw1c : (Reg.w1cMask .GLB_HOSTLOSS).getLsbD 24 = true := by decide
    rw [hmask, Reg.getLsbD_written .GLB_HOSTLOSS old _ (b := 24) (by decide), hrw, hw1c, hor]
    simp
  constructor <;> refine Nat.eq_of_testBit_eq fun b => ?_
  · rw [testBit_getField, Nat.zero_testBit]
    by_cases hb : b = 0
    · rw [hb, hlost, Bool.and_false]
    · rw [decide_eq_false (by omega), Bool.false_and]
  · rw [hmask, Reg.getField_written_rw _ _ (by decide), testBit_getField, testBit_getField, hor]
    by_cases hb : b < 24
    · rw [decide_eq_false (by omega : ¬ 0 + b = 24), Bool.or_false]
    · rw [decide_eq_false hb, Bool.false_and, Bool.false_and]

/-- The write of HOSTLOSS_LOST_CLEAR: CAUSE goes with LOST (log entry 17), and HB_LIMIT, which stays, restarts no count. -/
theorem State.writeHostLoss_clear (s : State) :
    s.writeHostLoss low32 (s.reg .GLB_HOSTLOSS 0 ||| 0x1000000) =
      (s.plainWrite .GLB_HOSTLOSS 0 low32 (s.reg .GLB_HOSTLOSS 0 ||| 0x1000000)).setFld F.GLB_HOSTLOSS_CAUSE 0 0 := by
  have hlim : (s.plainWrite .GLB_HOSTLOSS 0 low32 (s.reg .GLB_HOSTLOSS 0 ||| 0x1000000)).fld F.GLB_HOSTLOSS_HB_LIMIT 0 =
      s.fld F.GLB_HOSTLOSS_HB_LIMIT 0 := by
    rw [State.fld, State.reg_plainWrite]
    exact (getField_hostloss_cleared _).2
  have hbit : wbit low32 (s.reg .GLB_HOSTLOSS 0 ||| 0x1000000) 24 = true := by
    unfold wbit
    rw [BitVec.getLsbD_and, getLsbD_low32, BitVec.getLsbD_or]
    simp
  unfold State.writeHostLoss
  dsimp only
  rw [if_pos hlim, if_pos hbit]

theorem exec_hostlossLostClear {a : Agent} {s : State} (h : s.takes a .GLB_HOSTLOSS 0) :
    exec (.hostlossLostClear a) s = .next (((s.begin.touch a (Reg.key .GLB_HOSTLOSS 0)).plainWrite .GLB_HOSTLOSS 0 low32
      ((s.begin.touch a (Reg.key .GLB_HOSTLOSS 0)).reg .GLB_HOSTLOSS 0 ||| 0x1000000)).setFld F.GLB_HOSTLOSS_CAUSE 0 0) :=
  congrArg Host.Outcome.next ((writeBy_takes h _).trans (State.writeHostLoss_clear _))

/-- Settles O11: the write of the heartbeat, the declaration of host loss, and the write of LOST, each by its own law. -/
theorem heartbeatAndHostLoss : Obligations.HeartbeatAndHostLoss := by
  unfold Obligations.HeartbeatAndHostLoss
  refine ⟨?beat, ?expired, ?clear⟩
  case beat =>
    intro a v s ht
    have h := OnlyRegs.begin_touch (fun _ _ => False) s a (Reg.key .GLB_HEARTBEAT 0)
    refine ⟨_, congrArg Host.Outcome.next (writeBy_takes ht _), ?_, ?_⟩
    · rw [State.writeHeartbeat, h.tick]
    · rw [State.writeHeartbeat, ← h.tick]
      exact h
  case expired =>
    intro s hl
    refine ⟨s.begin.hostLoss 3, ?_, ?_⟩
    · show Host.Outcome.next (if s.tick.beatLost = true then _ else _) = _
      rw [if_pos hl]
    · obtain ⟨hlost, hcause, hlim⟩ := s.begin.fld_hostLoss 3
      exact ⟨hlost, hcause, hlim, (OnlyRegs.begin _ s).trans (OnlyRegs.hostLoss _ 3)⟩
  case clear =>
    intro a s ht
    have hwritten := (OnlyRegs.begin_touch _ s a _).trans
      ((OnlyRegs.plainWrite (s.begin.touch a (Reg.key .GLB_HOSTLOSS 0)) .GLB_HOSTLOSS 0 low32
        ((s.begin.touch a (Reg.key .GLB_HOSTLOSS 0)).reg .GLB_HOSTLOSS 0 ||| 0x1000000)).mono fun _ _ h => h.1)
    refine ⟨_, exec_hostlossLostClear ht, ?_, State.fld_setFld_self _ F.GLB_HOSTLOSS_CAUSE 0 0 (by decide), ?_,
      hwritten.trans (OnlyRegs.setFld _ _ rfl)⟩
    · rw [State.fld_setFld_ne _ _ _ _ _ _ (by decide), State.fld, State.reg_plainWrite]
      exact (getField_hostloss_cleared _).1
    · rw [State.fld_setFld_ne _ _ _ _ _ _ (by decide), State.fld, State.reg_plainWrite]
      refine (getField_hostloss_cleared _).2.trans ?_
      rw [State.fld, touch_reg]
      rfl

/-! ### Changes of mode (R27, R30, R31) -/

/-- What one element's change keeps, a walk over a list keeps. -/
theorem State.each_induction {P : State → Prop} {s : State} (l : List Nat) {f : State → Nat → State} (h : P s)
    (hf : ∀ t a, P t → P (f t a)) : P (s.each l f) := List.foldlRecOn l f h fun t ht a _ => hf t a ht

theorem OnlyReports.jrnPower (p) (s : State) (kind dom old new : Nat) : OnlyReports p s (s.jrnPower kind dom old new) :=
  OnlyReports.journalNow p s _ _ _

/-- The registers that a new throttle level sets beside reports (R428, Table 18-13). -/
def levelRegs : List Reg := [.PWR_CAP_STS, .HBC_SPD_CFG2]

theorem OnlyReports.capStacks (s : State) (level : Nat) : OnlyReports (fun r _ => r ∈ levelRegs) s (s.capStacks level) :=
  State.each_induction _ (OnlyReports.refl _ s) fun _ _ h => h.trans (OnlyReports.setFld _ _ (.inr (by decide)))

theorem OnlyReports.applyLevel (s : State) (new : Nat) : OnlyReports (fun r _ => r ∈ levelRegs) s (s.applyLevel new) := by
  unfold State.applyLevel
  dsimp only
  split
  · exact OnlyReports.capStacks s new
  · exact ((OnlyReports.setFld s _ (.inr (by decide))).trans (OnlyReports.jrnPower _ _ _ _ _ _)).trans (OnlyReports.capStacks _ new)

/-- GLB_MODE takes mode `m`: CUR, PREV, SEQ and REASON. -/
def State.modeFields (s : State) (m reason : Nat) : State :=
  (((s.setFld F.GLB_MODE_CUR 0 m).setFld F.GLB_MODE_PREV 0 s.curMode).setFld F.GLB_MODE_SEQ 0
    (s.fld F.GLB_MODE_SEQ 0 + 1)).setFld F.GLB_MODE_REASON 0 reason

theorem State.fld_modeFields (s : State) (m reason : Nat) :
    (s.modeFields m reason).fld F.GLB_MODE_CUR 0 = m % 16 ∧ (s.modeFields m reason).fld F.GLB_MODE_PREV 0 = s.curMode ∧
      (s.modeFields m reason).fld F.GLB_MODE_SEQ 0 = (s.fld F.GLB_MODE_SEQ 0 + 1) % 256 ∧
      (s.modeFields m reason).fld F.GLB_MODE_REASON 0 = reason % 256 := by
  have hcur : s.curMode < 16 := s.fld_lt F.GLB_MODE_CUR 0
  unfold State.modeFields
  refine ⟨?_, ?_, ?_, ?_⟩
  · rw [State.fld_setFld_ne _ _ _ _ _ _ (by decide), State.fld_setFld_ne _ _ _ _ _ _ (by decide),
      State.fld_setFld_ne _ _ _ _ _ _ (by decide), State.fld_setFld_self _ _ _ _ (by decide)]
    rfl
  · rw [State.fld_setFld_ne _ _ _ _ _ _ (by decide), State.fld_setFld_ne _ _ _ _ _ _ (by decide),
      State.fld_setFld_self _ _ _ _ (by decide)]
    exact Nat.mod_eq_of_lt hcur
  · rw [State.fld_setFld_ne _ _ _ _ _ _ (by decide), State.fld_setFld_self _ _ _ _ (by decide)]
    rfl
  · exact State.fld_setFld_self _ F.GLB_MODE_REASON _ _ (by decide)

theorem OnlyReports.modeFields (s : State) (m reason : Nat) :
    OnlyReports (fun r _ => r = .GLB_MODE) s (s.modeFields m reason) :=
  (((OnlyReports.setFld s _ (.inr rfl)).trans (OnlyReports.setFld _ _ (.inr rfl))).trans
    (OnlyReports.setFld _ _ (.inr rfl))).trans (OnlyReports.setFld _ _ (.inr rfl))

/-- Beyond GLB_MODE a change of mode writes its journal record and the throttle level. -/
theorem OnlyReports.setMode_modeFields (s : State) (m reason tag : Nat) :
    OnlyReports (fun r _ => r ∈ levelRegs) (s.modeFields m reason) (s.setMode m reason tag) :=
  (OnlyReports.journalNow _ _ _ _ _).trans (OnlyReports.applyLevel _ _)

theorem OnlyReports.setMode (s : State) (m reason tag : Nat) :
    OnlyReports (fun r _ => r = .GLB_MODE ∨ r ∈ levelRegs) s (s.setMode m reason tag) :=
  ((OnlyReports.modeFields s m reason).mono fun _ _ => Or.inl).trans
    ((OnlyReports.setMode_modeFields s m reason tag).mono fun _ _ => Or.inr)

/-- GLB_MODE after a change of mode (R30). -/
theorem State.fld_setMode (s : State) (m reason tag : Nat) :
    (s.setMode m reason tag).fld F.GLB_MODE_CUR 0 = m % 16 ∧ (s.setMode m reason tag).fld F.GLB_MODE_PREV 0 = s.curMode ∧
      (s.setMode m reason tag).fld F.GLB_MODE_SEQ 0 = (s.fld F.GLB_MODE_SEQ 0 + 1) % 256 ∧
      (s.setMode m reason tag).fld F.GLB_MODE_REASON 0 = reason % 256 := by
  have h (f : Fld) (hf : f.reg = .GLB_MODE) : (s.setMode m reason tag).fld f 0 = (s.modeFields m reason).fld f 0 :=
    (OnlyReports.setMode_modeFields s m reason tag).fld (by rw [hf]; decide) (by rw [hf]; decide)
  rw [h _ rfl, h _ rfl, h _ rfl, h _ rfl]
  exact s.fld_modeFields m reason

/-! ### TRANSITION_COMPLETE (R30) -/

/-- What loading the images of step C6 leaves: every register but those of the images and the identifications, and the
pending request (R119, R290). -/
def KeepsMode (s t : State) : Prop :=
  t.mode = s.mode ∧ RegsBut (fun r _ => r ∈ [Reg.STE_STORE, .STE_ENTRY, .STE_SRC_MAP, .STE_PAGES, .GLB_FWVER, .YRN_ID]) s t

theorem KeepsMode.refl (s : State) : KeepsMode s s := ⟨rfl, RegsBut.refl _ s⟩

theorem KeepsMode.trans {s t u : State} (h : KeepsMode s t) (k : KeepsMode t u) : KeepsMode s u :=
  ⟨k.1.trans h.1, h.2.trans k.2⟩

theorem KeepsMode.setReg (s : State) {r : Reg} (i : Nat) (v : BitVec 64)
    (h : r ∈ [Reg.STE_STORE, .STE_ENTRY, .STE_SRC_MAP, .STE_PAGES, .GLB_FWVER, .YRN_ID]) : KeepsMode s (s.setReg r i v) :=
  ⟨rfl, RegsBut.setReg s v h⟩

theorem KeepsMode.loadStitch (s : State) (n dir : Nat) (b : Bytes) : KeepsMode s (s.loadStitch n dir b) := by
  unfold State.loadStitch
  refine List.foldlRecOn _ _ (List.foldlRecOn _ _ (KeepsMode.refl s) fun t h e _ => ?_) fun t h e _ => ?_
  · exact h.trans (KeepsMode.setReg t _ _ (by decide))
  · split
    · exact h.trans (KeepsMode.setReg t _ _ (by decide))
    · split
      · exact h.trans (KeepsMode.setReg t _ _ (by decide))
      · exact h.trans (KeepsMode.setReg t _ _ (by decide))

theorem KeepsMode.loadCaston (s : State) (d : Nat) (e : Bytes × List Word × Word) : KeepsMode s (s.loadCaston d e) := by
  unfold State.loadCaston
  split
  · exact ⟨rfl, RegsBut.of_regs rfl⟩
  · exact KeepsMode.refl s

theorem KeepsMode.loadSection (s : State) (slot : Nat) (bad : List (Fin 16 × Bool)) (i : Nat) :
    KeepsMode s (s.loadSection slot bad i) := by
  unfold State.loadSection
  dsimp only
  split
  case h_1 | h_2 => exact State.each_induction _ (KeepsMode.refl s) fun t _ h => h.trans (KeepsMode.loadStitch t _ _ _)
  case h_3 => exact List.foldlRecOn _ _ (KeepsMode.refl s) fun t h x _ =>
    (h.trans (KeepsMode.loadCaston t 0 x)).trans (KeepsMode.loadCaston _ 1 x)
  case h_4 => exact KeepsMode.refl s

theorem KeepsMode.castC6 (s : State) (bad : List (Fin 16 × Bool)) : KeepsMode s (s.castC6 bad) := by
  unfold State.castC6
  extract_lets slot s1 ep s2
  have h1 : KeepsMode s s1 := State.each_induction _ (KeepsMode.refl s) fun t _ h => h.trans (KeepsMode.loadSection t _ _ _)
  have h2 : KeepsMode s1 s2 := ⟨rfl, (RegsBut.of_regs rfl).trans (KeepsMode.setReg s1.drawn _ _ (by decide)).2⟩
  have h3 : KeepsMode s2 (s2.setFld F.YRN_ID_EPOCH 0 ep) := KeepsMode.setReg s2 _ _ (by decide)
  exact (h1.trans h2).trans ⟨h3.1, h3.2.trans (RegsBut.of_regs rfl)⟩

/-- The request that a completed transition ends, and the interrupt it raises. -/
abbrev State.modeDone (s : State) (tag : Nat) : State :=
  ((s.setFld F.GLB_MODE_STS_DONE 0 1).setFld F.GLB_MODE_STS_TAG 0 tag).interrupt 0

theorem OnlyReports.modeDone (s : State) (tag : Nat) : OnlyReports (fun r _ => r = .GLB_MODE_STS) s (s.modeDone tag) :=
  ((OnlyReports.setFld s _ (.inr rfl)).trans (OnlyReports.setFld _ _ (.inr rfl))).trans (OnlyReports.interrupt _ _ _)

theorem State.fld_modeDone (s : State) (tag : Nat) :
    (s.modeDone tag).fld F.GLB_MODE_STS_DONE 0 = 1 ∧ (s.modeDone tag).fld F.GLB_MODE_STS_TAG 0 = tag % 256 := by
  have hi (u : State) (f : Fld) (hf : f.reg = .GLB_MODE_STS) : (u.interrupt 0).fld f 0 = u.fld f 0 :=
    (OnlyReports.interrupt (fun _ _ => False) u 0).fld (by rw [hf]; decide) id
  refine ⟨(hi _ _ rfl).trans ?_, (hi _ _ rfl).trans ?_⟩
  · rw [State.fld_setFld_ne _ _ _ _ _ _ (by decide), State.fld_setFld_self _ _ _ _ (by decide)]
    rfl
  · rw [State.fld_setFld_self _ _ _ _ (by decide)]
    rfl

/-- The state in which a requested change has taken effect. -/
theorem State.completeMode_eq (s : State) :
    s.completeMode = { ((((s.setMode (s.fld F.GLB_MODE_TARGET 0) s.reqReason s.reqTag).setFld F.GLB_MODE_BUSY 0 0).modeDone
      s.reqTag).freshTransition) with mode := none } := rfl

/-- A requested change takes effect: GLB_MODE, DONE with the request's TAG, and no request any more (R30). -/
theorem State.fld_completeMode (s : State) :
    s.completeMode.fld F.GLB_MODE_CUR 0 = s.fld F.GLB_MODE_TARGET 0 ∧ s.completeMode.fld F.GLB_MODE_PREV 0 = s.fld F.GLB_MODE_CUR 0 ∧
      s.completeMode.fld F.GLB_MODE_SEQ 0 = (s.fld F.GLB_MODE_SEQ 0 + 1) % 256 ∧ s.completeMode.fld F.GLB_MODE_BUSY 0 = 0 ∧
      s.completeMode.fld F.GLB_MODE_REASON 0 = s.reqReason % 256 ∧ s.completeMode.fld F.GLB_MODE_STS_DONE 0 = 1 ∧
      s.completeMode.fld F.GLB_MODE_STS_TAG 0 = s.reqTag % 256 := by
  have htarget : s.fld F.GLB_MODE_TARGET 0 < 16 := s.fld_lt F.GLB_MODE_TARGET 0
  have hstep (f : Fld) : s.completeMode.fld f 0 =
      (((s.setMode (s.fld F.GLB_MODE_TARGET 0) s.reqReason s.reqTag).setFld F.GLB_MODE_BUSY 0 0).modeDone s.reqTag).fld f 0 := rfl
  have hmode (f : Fld) (hf : f.reg = .GLB_MODE) : s.completeMode.fld f 0 =
      ((s.setMode (s.fld F.GLB_MODE_TARGET 0) s.reqReason s.reqTag).setFld F.GLB_MODE_BUSY 0 0).fld f 0 :=
    (hstep f).trans ((OnlyReports.modeDone _ _).fld (by rw [hf]; decide) (by rw [hf]; decide))
  obtain ⟨hcur, hprev, hseq, hreason⟩ := s.fld_setMode (s.fld F.GLB_MODE_TARGET 0) s.reqReason s.reqTag
  obtain ⟨hdone, htag⟩ :=
    ((s.setMode (s.fld F.GLB_MODE_TARGET 0) s.reqReason s.reqTag).setFld F.GLB_MODE_BUSY 0 0).fld_modeDone s.reqTag
  rw [hmode _ rfl, hmode _ rfl, hmode _ rfl, hmode _ rfl, hmode _ rfl, hstep, hstep]
  refine ⟨?_, ?_, ?_, State.fld_setFld_self _ F.GLB_MODE_BUSY 0 0 (by decide), ?_, hdone, htag⟩
  · rw [State.fld_setFld_ne _ _ _ _ _ _ (by decide), hcur, Nat.mod_eq_of_lt htarget]
  · rw [State.fld_setFld_ne _ _ _ _ _ _ (by decide), hprev, State.curMode]
  · rw [State.fld_setFld_ne _ _ _ _ _ _ (by decide), hseq]
  · rw [State.fld_setFld_ne _ _ _ _ _ _ (by decide), hreason]

theorem OnlyReports.completeMode (s : State) :
    OnlyReports (fun r _ => r ∈ [Reg.GLB_MODE, .GLB_MODE_STS, .PWR_CAP_STS, .HBC_SPD_CFG2]) s
      { s.completeMode with mode := s.mode, pwr := s.pwr } := by
  have hset := (OnlyReports.setMode s (s.fld F.GLB_MODE_TARGET 0) s.reqReason s.reqTag).mono
    (q := fun r _ => r ∈ [Reg.GLB_MODE, .GLB_MODE_STS, .PWR_CAP_STS, .HBC_SPD_CFG2]) fun r _ h => by
      rcases h with rfl | h
      · decide
      · exact List.mem_of_mem_drop (i := 2) h
  have hdone := (OnlyReports.modeDone ((s.setMode (s.fld F.GLB_MODE_TARGET 0) s.reqReason s.reqTag).setFld F.GLB_MODE_BUSY 0 0)
    s.reqTag).mono (q := fun r _ => r ∈ [Reg.GLB_MODE, .GLB_MODE_STS, .PWR_CAP_STS, .HBC_SPD_CFG2]) fun r _ h => by
      rw [h]; decide
  have h := (hset.trans (OnlyReports.setFld _ _ (.inr (by decide)))).trans hdone
  have hmode : _ = s.mode := (congrArg State.mode h.1 :)
  have hpwr : _ = s.pwr := (congrArg State.pwr h.1 :)
  rw [State.completeMode_eq, ← hmode, ← hpwr]
  exact h

/-- Which domains PWR_SEL selects does not look at what the last command sent out. -/
theorem State.domSelected_begin (s : State) (m n d : Nat) : s.begin.domSelected m n d = s.domSelected m n d := by
  have hzero (d : Nat) : s.begin.domSelected m 0 d = s.domSelected m 0 d := by
    rw [State.domSelected, State.domSelected]
    rfl
  induction n generalizing d with
  | zero => exact hzero d
  | succ n ih =>
    have hstate (e : Nat) : s.begin.domState e = s.domState e := rfl
    have habsent (e : Nat) : s.begin.domAbsent e = s.domAbsent e := rfl
    rw [State.domSelected.eq_2, State.domSelected.eq_2, hzero]
    simp only [ih, hstate, habsent]

theorem State.transitionDone_begin (s : State) : s.begin.transitionDone = s.transitionDone := by
  have htarget (d : Nat) : s.begin.domTarget d = s.domTarget d := by
    have hmode : s.begin.targetMode = s.targetMode := rfl
    simp only [State.domTarget, State.domTargetIn, hmode, s.domSelected_begin]
  have hthere : s.begin.domsThere = s.domsThere := by
    have hstate (d : Nat) : s.begin.domState d = s.domState d := rfl
    simp only [State.domsThere, htarget, hstate]
  simp only [State.transitionDone, hthere]
  rfl

/-- A transition whose work is finished completes; from MINIMAL the images are loaded first (Table 18-8). -/
theorem exec_transitionComplete {s : State} (h : s.transitionDone = true) :
    exec .transitionComplete s = .next (if s.curMode = 2 then s.begin.castC6 [] else s.begin).completeMode := by
  show execTransitionComplete s = _
  unfold execTransitionComplete
  have h' : s.begin.transitionDone = true := s.transitionDone_begin.trans h
  simp only [h', Bool.not_true, Bool.false_eq_true, if_false]
  rfl

/-- Settles O10: what the change of mode writes, after the images of step C6 where the device leaves MINIMAL. -/
theorem transitionCompletes : Obligations.TransitionCompletes := by
  unfold Obligations.TransitionCompletes
  refine ⟨fun q s hq hd htag => ?_, fun s hd => ?_⟩
  · have hk : KeepsMode s (if s.curMode = 2 then s.begin.castC6 [] else s.begin) := by
      have hb : KeepsMode s s.begin := ⟨rfl, RegsBut.of_regs rfl⟩
      split
      · exact hb.trans (KeepsMode.castC6 _ _)
      · exact hb
    have hframe (h : s.curMode ≠ 2) : (if s.curMode = 2 then s.begin.castC6 [] else s.begin) = s.begin := if_neg h
    rw [exec_transitionComplete hd]
    generalize (if s.curMode = 2 then s.begin.castC6 [] else s.begin) = u at hk hframe
    obtain ⟨hmode, hregs⟩ := hk
    have hfld (f : Fld) (hf : f.reg = .GLB_MODE) : u.fld f 0 = s.fld f 0 := by
      rw [State.fld, hregs _ _ (by rw [hf]; decide), State.fld]
    have hreason : u.reqReason = boolNat q.byMc := by rw [State.reqReason, hmode, hq]; rfl
    have hreqTag : u.reqTag = q.tag := by rw [State.reqTag, hmode, hq]; rfl
    obtain ⟨hcur, hprev, hseq, hbusy, hwhy, hdone, htag'⟩ := u.fld_completeMode
    refine ⟨_, rfl, hcur.trans (hfld _ rfl), hprev.trans (hfld _ rfl), ?_, hbusy, ?_, hdone, ?_, rfl, fun h2 _ => ?_⟩
    · rw [hseq, hfld _ rfl]
    · rw [hwhy, hreason]
      cases q.byMc <;> rfl
    · rw [htag', hreqTag, Nat.mod_eq_of_lt htag]
    · rw [hframe h2]
      exact (OnlyReports.begin _ s).trans (OnlyReports.completeMode s.begin)
  · show execTransitionComplete s = _
    unfold execTransitionComplete
    have h' : s.begin.transitionDone = false := s.transitionDone_begin.trans hd
    simp only [h', Bool.not_false, if_true]
    rfl

end Sys2Proof.Machine
end

section
/-! PROOFS. What an operation leaves of the clock, the mode, the power domains, the link, the tables and the ports.

Most operations of an edge or of a fault's reaction work on state of their own. `Steady c z t` says that from `z` to `t` the tick
and the registers of the duty split have stayed, and of the rest what the scope `c` lists. One lemma for each operation, in the
form "if it was steady from `z` to `s`, it is to what the operation makes of `s`", so that an operation's lemma is read off its
definition. -/
namespace Sys2Proof.Machine

/-- What is left beside the tick length and the registers of the duty split. -/
structure Scope where
  /-- The tick generator's own state. -/
  tick : Bool
  /-- GLB_MODE, GLB_MODE_STS and the request in progress. -/
  mode : Bool
  /-- PWR_DOM_STS. -/
  doms : Bool
  /-- PCX_LINK_STS.DL_UP. -/
  link : Bool
  /-- The tables and the needles. -/
  tables : Bool
  /-- The ports whose state and mark are left. -/
  ports : Nat → Bool
  /-- The ports whose configuration is left. -/
  cfgs : Nat → Bool

/-- The registers of the tick generator's count and of the duty split (R34, R35, R40). -/
def clockRegs : List Reg :=
  [.GLB_SPLIT, .GLB_SPLIT_LOSS, .GLB_SPLIT_EFF, .GLB_HOSTLOSS, .TIK_COUNT, .TIK_CLK, .TIK_PERIOD, .TIK_SYNC]

/-- The registers of the mode. -/
def modeRegs : List Reg := [.GLB_MODE, .GLB_MODE_STS]

/-- The registers that some scope leaves as a whole. -/
def scopeRegs : List Reg := clockRegs ++ modeRegs ++ [.PWR_DOM_STS, .MAC_PORT_STS, .MAC_PORT_CFG]

/-- The registers that some scope leaves in a field or as a whole. -/
def heldRegs : List Reg := .PCX_LINK_STS :: scopeRegs

/-- The scope leaves register `r` at number `i`. -/
def Scope.leaves (c : Scope) (r : Reg) (i : Nat) : Prop :=
  r ∈ clockRegs ∨ c.mode = true ∧ r ∈ modeRegs ∨ c.doms = true ∧ r = .PWR_DOM_STS ∨
    c.ports i = true ∧ r = .MAC_PORT_STS ∨ c.cfgs i = true ∧ r = .MAC_PORT_CFG

theorem Scope.mem_of_leaves {c : Scope} {r : Reg} {i : Nat} (h : c.leaves r i) : r ∈ scopeRegs := by
  unfold Scope.leaves at h
  simp only [scopeRegs, List.mem_append]
  rcases h with h | ⟨-, h⟩ | ⟨-, rfl⟩ | ⟨-, rfl⟩ | ⟨-, rfl⟩
  · exact .inl (.inl h)
  · exact .inl (.inr h)
  all_goals exact .inr (by decide)

/-- Everything that a scope can leave. -/
def Scope.full : Scope := ⟨true, true, true, true, true, fun _ => true, fun _ => true⟩

/-- From `z` to `t` what the scope `c` leaves has stayed; a reaction that was not queued in `z` is of `z`'s tick. -/
structure Steady (c : Scope) (z t : State) : Prop where
  len : t.tick.len = z.tick.len
  regs : ∀ r i, c.leaves r i → t.reg r i = z.reg r i
  react : ∀ x, x ∈ t.flt.react → x ∈ z.flt.react ∨ x.tick = z.tikCount
  part : t.part = z.part
  tick : c.tick = true → t.tick = z.tick
  mode : c.mode = true → t.mode = z.mode
  link : c.link = true → t.fld F.PCX_LINK_STS_DL_UP 0 = z.fld F.PCX_LINK_STS_DL_UP 0
  tabs : c.tables = true → t.tabs = z.tabs
  needles : c.tables = true → t.needles = z.needles
  marked : ∀ p, c.ports p = true → (t.port p).marked = (z.port p).marked

namespace Steady
variable {c : Scope} {z s t : State}

theorem refl (c : Scope) (z : State) : Steady c z z :=
  ⟨rfl, fun _ _ _ => rfl, fun _ h => .inl h, rfl, fun _ => rfl, fun _ => rfl, fun _ => rfl, fun _ => rfl, fun _ => rfl, fun _ _ => rfl⟩

theorem clockReg (h : Steady c z t) {r : Reg} (hr : r ∈ clockRegs) (i : Nat) : t.reg r i = z.reg r i := h.regs r i (.inl hr)

theorem tikCount (h : Steady c z t) : t.tikCount = z.tikCount := h.clockReg (by decide) 0

theorem trans (h : Steady c z s) (k : Steady c s t) : Steady c z t where
  len := k.len.trans h.len
  regs r i hr := (k.regs r i hr).trans (h.regs r i hr)
  react x hx := (k.react x hx).elim (h.react x) fun e => .inr (e.trans h.tikCount)
  part := k.part.trans h.part
  tick e := (k.tick e).trans (h.tick e)
  mode e := (k.mode e).trans (h.mode e)
  link e := (k.link e).trans (h.link e)
  tabs e := (k.tabs e).trans (h.tabs e)
  needles e := (k.needles e).trans (h.needles e)
  marked p e := (k.marked p e).trans (h.marked p e)

/-- What a `Steady` speaks of, but for registers. -/
abbrev view (t : State) := (t.tick, t.part, t.mode, t.flt.react, t.tabs, t.needles, t.ports)

/-- A step that changes registers only, and of those what the scope leaves free. -/
theorem regsOnly (h : Steady c z s) (hv : view t = view s) (hr : ∀ r i, c.leaves r i → t.reg r i = s.reg r i)
    (hl : c.link = true → t.fld F.PCX_LINK_STS_DL_UP 0 = s.fld F.PCX_LINK_STS_DL_UP 0) : Steady c z t := by
  simp only [view, Prod.mk.injEq] at hv
  obtain ⟨htick, hpart, hmode, hreact, htabs, hneedles, hports⟩ := hv
  have hport (p : Nat) : t.port p = s.port p := by rw [State.port, State.port, hports]
  exact h.trans ⟨by rw [htick], hr, fun x hx => .inl (hreact ▸ hx), hpart, fun _ => htick, fun _ => hmode, hl, fun _ => htabs,
    fun _ => hneedles, fun p _ => by rw [hport]⟩

/-- An update of parts that no scope speaks of. -/
theorem upd (h : Steady c z s) (hr : t.regs = s.regs) (hv : view t = view s) : Steady c z t :=
  h.regsOnly hv (fun r i _ => by rw [State.reg, State.reg, hr]) fun _ => by rw [State.fld, State.fld, State.reg, State.reg, hr]

/-- A write of a register that the scope does not leave. -/
theorem setReg' (h : Steady c z s) {r : Reg} {i : Nat} {v : BitVec 64} (hr : ¬ c.leaves r i) (hl : r ≠ .PCX_LINK_STS) :
    Steady c z (s.setReg r i v) :=
  h.regsOnly rfl (fun q j hq => State.reg_setReg_ne fun e => hr (e.1 ▸ e.2 ▸ hq)) fun _ => by
    rw [State.fld, State.fld, State.reg_setReg_ne fun e => hl e.1]

/-- A write of a register that no scope leaves. -/
theorem setReg (h : Steady c z s) {r : Reg} {i : Nat} {v : BitVec 64} (hr : r ∉ heldRegs) : Steady c z (s.setReg r i v) :=
  h.setReg' (fun e => hr (.tail _ (Scope.mem_of_leaves e))) fun e => hr (e ▸ .head _)

theorem setFld (h : Steady c z s) {f : Fld} {i v : Nat} (hr : f.reg ∉ heldRegs) : Steady c z (s.setFld f i v) :=
  h.setReg hr

theorem satFld (h : Steady c z s) {f : Fld} {i n : Nat} (hr : f.reg ∉ heldRegs) : Steady c z (s.satFld f i n) :=
  h.setReg hr

theorem setBit (h : Steady c z s) {r : Reg} {i b : Nat} (hr : r ∉ heldRegs) : Steady c z (s.setBit r i b) :=
  h.setReg hr

theorem ite {p : Prop} [Decidable p] {a b : State} (ha : p → Steady c z a) (hb : ¬ p → Steady c z b) :
    Steady c z (if p then a else b) := by
  split
  · exact ha ‹_›
  · exact hb ‹_›

theorem whenever (h : Steady c z s) {b : Bool} {f : State → State} (hf : b = true → Steady c z (f s)) : Steady c z (s.when b f) :=
  ite hf fun _ => h

theorem foldl (h : Steady c z s) {α : Type} (l : List α) {f : State → α → State}
    (hf : ∀ u a, a ∈ l → Steady c z u → Steady c z (f u a)) : Steady c z (l.foldl f s) :=
  List.foldlRecOn l f h fun u hu a ha => hf u a ha hu

theorem each (h : Steady c z s) (l : List Nat) {f : State → Nat → State} (hf : ∀ u a, Steady c z u → Steady c z (f u a)) :
    Steady c z (s.each l f) := h.foldl l fun u a _ => hf u a

/-! Reports. -/

theorem begin (h : Steady c z s) : Steady c z s.begin := h.upd rfl rfl
theorem emit (h : Steady c z s) {o : Out} : Steady c z (s.emit o) := h.upd rfl rfl

theorem lose (h : Steady c z s) {k : Nat} : Steady c z (s.lose k) := by
  unfold State.lose
  have h1 (v : BitVec 64) : Steady c z (s.setReg .GGE_COL_STS 0 v) := h.setReg (by decide)
  exact ite (fun _ => h) fun _ => (h1 _).upd rfl rfl

theorem pend (h : Steady c z s) {k n : Nat} : Steady c z (s.pend k n) := by
  unfold State.pend
  exact ite (fun _ => h.upd rfl rfl) fun _ => h.lose

theorem bump (h : Steady c z s) {r : Reg} {i n : Nat} (hr : r ∉ heldRegs) : Steady c z (s.bump r i n) := by
  unfold State.bump
  exact ite (fun _ => h.pend) fun _ => h.setReg hr

theorem event (h : Steady c z s) {f j : Nat} : Steady c z (s.event f j) := by
  unfold State.event
  split
  · exact ite (fun _ => h.bump (by decide)) fun _ => h.setFld (by decide)
  · exact h.bump (by decide)

theorem interrupt (h : Steady c z s) {i : Nat} : Steady c z (s.interrupt i) := ite (fun _ => h.event) fun _ => h

/-- A request on the link wakes it, which leaves DL_UP. -/
theorem sendTlp (h : Steady c z s) {o : Out} : Steady c z (s.sendTlp o) :=
  h.emit.regsOnly rfl (fun _ _ hq => State.reg_setReg_ne fun e => absurd (e.1 ▸ Scope.mem_of_leaves hq) (by decide))
    fun _ => State.fld_setFld_ne _ _ _ _ _ _ (by decide)

theorem setCq (h : Steady c z s) {g : Nat} {v : CqSt} : Steady c z (s.setCq g v) := h.upd rfl rfl
theorem setSq (h : Steady c z s) {g : Nat} {v : SqSt} : Steady c z (s.setSq g v) := h.upd rfl rfl
theorem setCtx (h : Steady c z s) {k : Nat} {v : Option Ctx} : Steady c z (s.setCtx k v) := h.upd rfl rfl

theorem cqRefresh (h : Steady c z s) {g : Nat} : Steady c z (s.cqRefresh g) := (h.setFld (by decide)).setFld (by decide)

theorem cqWrite (h : Steady c z s) {g : Nat} {e : Bytes} : Steady c z (s.cqWrite g e) :=
  (ite (fun _ => (h.sendTlp.setFld (by decide)).event) fun _ => h.sendTlp.setFld (by decide)).cqRefresh

theorem cqPush (h : Steady c z s) {g : Nat} {e : Bytes} : Steady c z (s.cqPush g e) :=
  ite (fun _ => h.cqWrite) fun _ => h.setCq.cqRefresh

theorem notifyCore (h : Steady c z s) {k die a b : Nat} {body : Bytes} : Steady c z (s.notifyCore k die a b body).1 := by
  unfold State.notifyCore
  dsimp only
  split_ifs
  · exact h.bump (by decide)
  · exact h.setCq.cqPush.bump (by decide)
  · exact (h.setCq.satFld (by decide)).bump (by decide)

theorem journal (h : Steady c z s) {r : JrnRec} : Steady c z (s.journal r) := by
  have h1 : Steady c z (s.satFld F.BOOT_JRN_STS_DROPS 0 1) := h.satFld (by decide)
  exact ite (fun _ => h.upd rfl rfl) fun _ => h1.upd rfl rfl

theorem journalNow (h : Steady c z s) {k flags : Nat} {body : Bytes} : Steady c z (s.journalNow k flags body) := h.journal

/-- A reaction of the present tick is queued. -/
theorem queueReact (h : Steady c z s) {r : React} (hr : r.tick = z.tikCount) :
    Steady c z { s with flt := { s.flt with react := s.flt.react ++ [r] } } where
  len := h.len
  regs := h.regs
  react x hx := by
    rcases List.mem_append.1 hx with hx | hx
    · exact h.react x hx
    · exact .inr (List.mem_singleton.1 hx ▸ hr)
  part := h.part
  tick := h.tick
  mode := h.mode
  link := h.link
  tabs := h.tabs
  needles := h.needles
  marked := h.marked

theorem fltMark (h : Steady c z s) {k src inst : Nat} {info : BitVec 48} {inj : Bool} :
    Steady c z (s.fltMark k src inst info inj) := by
  unfold State.fltMark
  extract_lets s1 s2
  have h1 : Steady c z s1 := (h.setBit (by decide)).satFld (by decide)
  have h2 : Steady c z s2 := ite (fun _ => h1.setBit (by decide)) fun _ => h1
  exact ite (fun _ => h2) fun _ => (h2.setReg (by decide)).setReg (by decide)

theorem fltReport (h : Steady c z s) {k src inst cls react : Nat} {info : BitVec 48} {inj : Bool} :
    Steady c z (s.fltReport k src inst cls react info inj).1 := by
  unfold State.fltReport
  extract_lets s1 p withheld s2
  have h1 : Steady c z s1 := ite (fun _ => h.interrupt) fun _ => h
  have hp : Steady c z p.1 := by
    unfold p
    split
    · exact h1.notifyCore
    · exact h1
  have h2 : Steady c z s2 := ite (fun _ => hp.journalNow) fun _ => hp
  exact ite (fun _ => h2) fun _ => h2.queueReact h.tikCount

theorem fltCore (h : Steady c z s) {k src inst : Nat} {info : BitVec 48} {lasting inj : Bool} :
    Steady c z (s.fltCore k src inst info lasting inj).1 := by
  unfold State.fltCore
  split
  · exact h
  · dsimp only
    split
    · refine fltMark ?_
      exact h.upd rfl rfl
    · refine fltReport (fltMark ?_)
      exact h.upd rfl rfl

theorem faultWith (h : Steady c z s) {k src inst : Nat} {info : BitVec 48} {lasting inj : Bool} :
    Steady c z (s.faultWith k src inst info lasting inj) := by
  unfold State.faultWith
  have h1 := h.fltCore (k := k) (src := src) (inst := inst) (info := info) (lasting := lasting) (inj := inj)
  split
  all_goals rw [‹s.fltCore _ _ _ _ _ _ = _›] at h1
  next => exact h1
  next s1 g e =>
    have h2 := fltCore h1 (k := 5) (src := 2) (inst := g) (info := BitVec.ofNat 48 g) (lasting := false) (inj := false)
    dsimp only at h2
    split
    all_goals rw [‹s1.fltCore _ _ _ _ _ _ = _›] at h2
    · exact h2
    · exact fltCore h2

theorem fault (h : Steady c z s) {k src inst info : Nat} : Steady c z (s.fault k src inst info) := h.faultWith
theorem faultLasting (h : Steady c z s) {k src inst info : Nat} : Steady c z (s.faultLasting k src inst info) := h.faultWith

theorem notify (h : Steady c z s) {k die a b : Nat} {body : Bytes} : Steady c z (s.notify k die a b body) := by
  unfold State.notify
  have h1 := h.notifyCore (k := k) (die := die) (a := a) (b := b) (body := body)
  split
  all_goals rw [‹s.notifyCore _ _ _ _ _ = _›] at h1
  · exact h1
  · exact Steady.fault h1

/-! Counters, time and gauges. -/

theorem lkpCount (h : Steady c z s) {d i n : Nat} : Steady c z (s.lkpCount d i n) := h.bump (by decide)
theorem tcmCount (h : Steady c z s) {d i n : Nat} : Steady c z (s.tcmCount d i n) := h.bump (by decide)
theorem sknCount (h : Steady c z s) {d i n : Nat} : Steady c z (s.sknCount d i n) := h.bump (by decide)
theorem yrnCount (h : Steady c z s) {d i n : Nat} : Steady c z (s.yrnCount d i n) := h.bump (by decide)
theorem bpmCount (h : Steady c z s) {d i n : Nat} : Steady c z (s.bpmCount d i n) := h.bump (by decide)
theorem macCount (h : Steady c z s) {p i n : Nat} : Steady c z (s.macCount p i n) := h.bump (by decide)
theorem secyCount (h : Steady c z s) {p i : Nat} : Steady c z (s.secyCount p i) := h.bump (by decide)

theorem lkpNotify (h : Steady c z s) {k d a : Nat} {body : Bytes} : Steady c z (s.lkpNotify k d a body) := h.notify.lkpCount

theorem syncStatus (h : Steady c z s) {f : Fld} {src : Nat} (hr : f.reg ∉ heldRegs) : Steady c z (s.syncStatus f src) :=
  ((h.setFld hr).interrupt).fault

theorem gaugeOverflow (h : Steady c z s) {n : Nat} : Steady c z (s.gaugeOverflow n) := by
  unfold State.gaugeOverflow
  extract_lets s1 s2 s3
  have h2 : Steady c z s2 := ite (fun _ => (h.setBit (by decide)).interrupt) fun _ => h.setBit (by decide)
  have h3 : Steady c z s3 := (h2.setFld (by decide)).setFld (by decide)
  exact ite (fun _ => ite (fun _ => h3) fun _ => h3.interrupt) fun _ => h2

theorem gaugeAdd (h : Steady c z s) {k n : Nat} : Steady c z (s.gaugeAdd k n) :=
  ite (fun _ => h) fun _ => ite (fun _ => h.pend) fun _ =>
    ite (fun _ => h.setFld (by decide)) fun _ => (h.setFld (by decide)).gaugeOverflow

theorem gauge! (h : Steady c z s) {b code v : Nat} {q : Option Nat} : Steady c z (s.gauge! b code v q) :=
  h.each _ fun _ _ hu => ite (fun _ => ite (fun _ => hu.gaugeAdd) fun _ => hu.upd rfl rfl) fun _ => hu

/-! Copies, queues and buffers. -/

theorem setBuf (h : Steady c z s) {d : Nat} {b : BufSt} : Steady c z (s.setBuf d b) := h.upd rfl rfl
theorem setCopy (h : Steady c z s) {d : Nat} {b : Option Copy} : Steady c z (s.setCopy d b) := h.upd rfl rfl
theorem setQueue (h : Steady c z s) {k : Nat} {q : QSt} : Steady c z (s.setQueue k q) := h.upd rfl rfl
theorem setPipe (h : Steady c z s) {k : Nat} {q : PipeSt} : Steady c z (s.setPipe k q) := h.upd rfl rfl
theorem setStaged (h : Steady c z s) {k : Nat} {q : Staged} : Steady c z (s.setStaged k q) := h.upd rfl rfl

/-- A port's own state changes, but its mark where the scope leaves it. -/
theorem setPort (h : Steady c z s) {p : Nat} {v : PortSt} (hv : c.ports p = true → v.marked = (s.port p).marked) :
    Steady c z (s.setPort p v) :=
  h.trans ⟨rfl, fun _ _ _ => rfl, fun _ hx => .inl hx, rfl, fun _ => rfl, fun _ => rfl, fun _ => rfl, fun _ => rfl, fun _ => rfl,
    fun q hq => by
      rw [State.port_setPort]
      split
      next e => subst e; exact hv hq
      next => rfl⟩

theorem sendCtrl (h : Steady c z s) {p cls : Nat} {off : Bool} : Steady c z (s.sendCtrl p cls off) := h.setPort fun _ => rfl

theorem fixGroup (h : Steady c z s) {p tc : Nat} : Steady c z (s.fixGroup p tc) := by
  have hx (l : List Nat) : Steady c z { s with xoff := l } := h.upd rfl rfl
  unfold State.fixGroup
  exact ite (fun _ => ite (fun _ => ite (fun _ => (hx _).sendCtrl) fun _ => h) fun _ =>
    ite (fun _ => (hx _).bpmCount.sendCtrl) fun _ => h) fun _ => hx _

theorem groupMove (h : Steady c z s) {g : Option (Nat × Nat)} {n : Int} : Steady c z (s.groupMove g n) := by
  unfold State.groupMove
  split
  · exact h
  · refine fixGroup ?_
    exact h.upd rfl rfl

theorem account (h : Steady c z s) {x : Copy} {dn dh ds : Int} : Steady c z (s.account x dn dh ds) := by
  unfold State.account
  dsimp only
  split
  · exact h.setQueue.setBuf
  · exact h.setQueue.setBuf
  · exact h.setQueue

theorem freeBanks (h : Steady c z s) {d : Nat} {l : List Nat} : Steady c z (s.freeBanks d l) := h.setBuf

theorem spillStart (h : Steady c z s) {k : Nat} : Steady c z (s.spillStart k) := by
  unfold State.spillStart
  refine ite (fun _ => h) fun _ => ?_
  split
  · exact h.setQueue.sknCount
  · exact h.sknCount.fault

theorem linkTo (h : Steady c z s) {k : Nat} {ids : List Nat} : Steady c z (s.linkTo k ids) := by
  have h1 := h.each ids (f := fun t id => match t.copy id with
    | some c => t.setCopy id (some { c with linked := true })
    | none => t) fun u a hu => by
      split
      · exact hu.setCopy
      · exact hu
  exact h1.setQueue.sknCount.spillStart

theorem linkWaiting (h : Steady c z s) {k : Nat} : Steady c z (s.linkWaiting k) := h.setQueue.linkTo

theorem leaveStaging (h : Steady c z s) {k : Nat} : Steady c z (s.leaveStaging k) := by
  unfold State.leaveStaging
  split
  · exact h.setStaged
  · exact h

theorem release (h : Steady c z s) {id : Nat} {x : Copy} : Steady c z (s.release id x) := by
  unfold State.release
  extract_lets s1 q s2 s3 s4
  have h3 : Steady c z s3 := h.account.groupMove.setQueue.freeBanks.setCopy
  have h4 : Steady c z s4 := ite (fun _ => h3.linkWaiting) fun _ => h3
  split
  · exact h4.leaveStaging
  · exact h4

theorem flushCopies (h : Steady c z s) {d : Nat} {ids : List Nat} : Steady c z (s.flushCopies d ids) :=
  h.each ids fun _ _ hu => by
    split
    · exact hu.sknCount.release
    · exact hu

theorem flushQueue (h : Steady c z s) {k : Nat} : Steady c z (s.flushQueue k) := by
  unfold State.flushQueue
  extract_lets d q s1 q1
  have h1 : Steady c z s1 := h.flushCopies
  split
  · exact h1.setQueue
  · extract_lets waiting p1 s2 b s3
    have h3 : Steady c z s3 := ite (fun _ => h1.sknCount) fun _ => h1.sknCount.setBuf
    exact h3.setQueue

theorem flushPort (h : Steady c z s) {p : Nat} : Steady c z (s.flushPort p) := by
  unfold State.flushPort
  extract_lets s1 s2
  have h2 : Steady c z s2 := h.flushCopies.upd rfl rfl
  exact h2.each _ fun _ _ hu => hu.flushQueue

theorem flushAll (h : Steady c z s) : Steady c z s.flushAll := by
  unfold State.flushAll
  extract_lets sel s1 keys
  have h1 : Steady c z s1 := h.each _ fun _ _ hu => by
    split
    · exact hu.sknCount.release
    · exact hu
  have h2 : Steady c z { s1 with txq := [] } := h1.upd rfl rfl
  exact h2.each _ fun _ _ hu => hu.flushQueue

end Steady
end Sys2Proof.Machine

/-! PROOFS. What an operation leaves: ports and bind-off, programs, and the MACsec staging. -/
namespace Sys2Proof.Machine

namespace Steady
variable {c : Scope} {z s t : State}

/-! Ports and bind-off. -/

theorem usePn (h : Steady c z s) {p i : Nat} : Steady c z (s.usePn p i) := by
  unfold State.usePn
  extract_lets x pn warn s1 s2
  have h1 : Steady c z s1 := h.setReg (by decide)
  have h2 : Steady c z s2 := ite (fun _ => h1.setFld (by decide)) fun _ => h1
  exact ite (fun _ => (h2.setFld (by decide)).fault) fun _ => h2

theorem secySend (h : Steady c z s) {p : Nat} {b : Bytes} : Steady c z (s.secySend p b).2 := by
  unfold State.secySend
  split
  · exact h
  · split
    · exact h.secyCount
    · split
      · exact h.secyCount
      · exact h.usePn.secyCount

theorem macStomp (h : Steady c z s) {p : Nat} {b : Bytes} : Steady c z (s.macStomp p b) := h.emit.macCount

theorem macSent (h : Steady c z s) {p : Nat} {b : Bytes} : Steady c z (s.macSent p b) := by
  unfold State.macSent
  extract_lets f s1
  have h1 : Steady c z s1 := h.emit.macCount.macCount
  exact ite (fun _ => h1) fun _ => h1.gauge!

theorem twoStepRecord (h : Steady c z s) {p : Nat} {md : Bytes} {now : Nat} : Steady c z (s.twoStepRecord p md now) := h.notify

theorem sendCopy (h : Steady c z s) {p : Nat} {x : Copy} {n : Nat} {stomp : Bool} : Steady c z (s.sendCopy p x n stomp) := by
  unfold State.sendCopy
  extract_lets now b r
  have hr : Steady c z r.2 := by
    unfold r
    split
    · exact h
    · exact h.secySend
  clear_value r
  split
  · exact hr
  · extract_lets y t u
    have ht : Steady c z t := ite (fun _ => hr.macStomp) fun _ => hr.macSent
    have hu : Steady c z u := ite (fun _ => ht.yrnCount) fun _ => ht
    exact ite (fun _ => hu.twoStepRecord) fun _ => hu

theorem endTransmission (h : Steady c z s) {p : Nat} : Steady c z (s.endTransmission p) := by
  unfold State.endTransmission
  refine ite (fun _ => ?_) fun _ => h
  split
  · exact h
  · split
    · exact h
    · have h1 : Steady c z s.drawn.drawn := h.upd rfl rfl
      exact ite (fun _ => h1.sendCopy) fun _ => h1

theorem bindoffFlush (h : Steady c z s) {p : Nat} : Steady c z (s.bindoffFlush p) := ite (fun _ => h.upd rfl rfl) fun _ => h

/-- A write of a field of a port's state, which the scope does not leave. -/
theorem setPortFld (h : Steady c z s) {f : Fld} {p v : Nat} (hp : c.ports p = false) (hf : f.reg = .MAC_PORT_STS) :
    Steady c z (s.setFld f p v) := by
  refine h.setReg' ?_ (by rw [hf]; decide)
  rw [hf]
  rintro (hl | ⟨-, hl⟩ | ⟨-, hl⟩ | ⟨hl, -⟩ | ⟨-, hl⟩)
  · exact absurd hl (by decide)
  · exact absurd hl (by decide)
  · cases hl
  · rw [hp] at hl; cases hl
  · cases hl

/-- A write of a field of a port's configuration, which the scope does not leave. -/
theorem setCfgFld (h : Steady c z s) {f : Fld} {p v : Nat} (hp : c.cfgs p = false) (hf : f.reg = .MAC_PORT_CFG) :
    Steady c z (s.setFld f p v) := by
  refine h.setReg' ?_ (by rw [hf]; decide)
  rw [hf]
  rintro (hl | ⟨-, hl⟩ | ⟨-, hl⟩ | ⟨-, hl⟩ | ⟨hl, -⟩)
  · exact absurd hl (by decide)
  · exact absurd hl (by decide)
  · cases hl
  · cases hl
  · rw [hp] at hl; cases hl

/-- A port that the scope does not leave gets another state of its own. -/
theorem setFreePort (h : Steady c z s) {p : Nat} {v : PortSt} (hp : c.ports p = false) : Steady c z (s.setPort p v) :=
  h.setPort fun e => absurd e (by rw [hp]; decide)

theorem enterState (h : Steady c z s) {p st : Nat} (hp : c.ports p = false) : Steady c z (s.enterState p st) :=
  (h.setPortFld hp (by rfl)).setFreePort hp

theorem enterBindoff (h : Steady c z s) {p : Nat} {marked : Bool} (hp : c.ports p = false) : Steady c z (s.enterBindoff p marked) :=
  (((h.endTransmission.setPortFld hp (by rfl)).setPortFld hp (by rfl)).setFreePort hp).flushPort.bindoffFlush

theorem portEval (h : Steady c z s) {p : Nat} {en : Bool} (hp : c.ports p = false) : Steady c z (s.portEval p en) := by
  unfold State.portEval
  extract_lets q
  split
  · exact ite (fun _ => h.enterState hp) fun _ => h
  · exact ite (fun _ => h.setFreePort hp) fun _ => h.enterState hp
  · exact ite (fun _ => h.enterBindoff hp) fun _ => ite (fun _ => h) fun _ => ite (fun _ => h.enterBindoff hp) fun _ => h
  · exact ite (fun _ => h.enterBindoff hp) fun _ => ite (fun _ => h.enterBindoff hp) fun _ =>
      ite (fun _ => h.enterState hp) fun _ => h
  · exact ite (fun _ => ite (fun _ => h.enterState hp) fun _ => h) fun _ => ite (fun _ => h.setFreePort hp) fun _ => h
  · exact h

/-! Programs and the reads of the host side. -/

theorem consume (h : Steady c z s) {g : Nat} (l : List (Nat × Nat × Option (Option Bytes))) : Steady c z (s.consume g l) := by
  induction l generalizing s with
  | nil => exact h.setSq
  | cons x l ih =>
    obtain ⟨k, n, e⟩ := x
    cases e with
    | none => exact h.setSq
    | some e =>
      refine ih ?_
      split
      · exact ite (fun _ => (h.setFld (by decide)).setCq.cqPush) fun _ => (h.setFld (by decide)).setCq
      · exact (h.setFld (by decide)).setCq

theorem finishEntries (h : Steady c z s) {g last : Nat} {e : Option Bytes} : Steady c z (s.finishEntries g last e) := h.consume _

theorem chartEnd (h : Steady c z s) {k : Nat} {x : Ctx} : Steady c z (s.chartEnd k x) :=
  ite (fun _ => h.setCtx) fun _ => ite (fun _ => h.setCtx.setSq) fun _ => (h.setCtx.setSq.bump (by decide)).finishEntries

theorem forgetAhead (h : Steady c z s) {x : Ctx} {i : Nat} : Steady c z (s.forgetAhead x i) := h.upd rfl rfl

theorem takeEntry (h : Steady c z s) {k : Nat} {x : Ctx} {i : Nat} {e : Bytes} {x' : Ctx} (ht : s.takeEntry k x = some (i, e, x', t)) :
    Steady c z t := by
  unfold State.takeEntry at ht
  split at ht
  · contradiction
  · cases ht
    exact Steady.setCtx (forgetAhead (ite (fun _ => h) fun _ => h.setSq))

theorem chartDrain (h : Steady c z s) {k : Nat} (n : Nat) : Steady c z (s.chartDrain k n) := by
  induction n generalizing s with
  | zero => exact h
  | succ n ih =>
    unfold State.chartDrain
    split
    · exact h
    · refine ite (fun _ => h.chartEnd) fun _ => ?_
      split
      next ht => exact ih (h.takeEntry ht)
      next => exact ite (fun _ => h.chartEnd) fun _ => h

theorem drainAll (h : Steady c z s) {k : Nat} : Steady c z (s.drainAll k) := by
  unfold State.drainAll
  split
  · exact h
  · exact h.chartDrain _

theorem chartFail (h : Steady c z s) {k st : Nat} : Steady c z (s.chartFail k st) := by
  unfold State.chartFail
  split
  · exact h
  · extract_lets q s1 s2
    have h2 : Steady c z s2 := ite (fun _ => h.bump (by decide)) fun _ => (h.bump (by decide)).setReg (by decide)
    exact h2.setCtx.drainAll

theorem zeroStaging (h : Steady c z s) {o : Nat} : Steady c z (s.zeroStaging o) :=
  (h.each _ fun _ _ hu => hu.setReg (by decide)).each _ fun _ _ hu => hu.setReg (by decide)

theorem zeroKey (h : Steady c z s) {i : Nat} : Steady c z (s.zeroKey i) :=
  (h.setFld (f := F.MSC_SA_STS_KEYED) (by decide)).upd rfl rfl

theorem zeroOctet (h : Steady c z s) {o : Nat} {dis : Bool} : Steady c z (s.zeroOctet o dis) :=
  (h.each _ fun _ _ hu => ite (fun _ => (hu.setFld (by decide)).zeroKey) fun _ => hu.zeroKey).zeroStaging

end Steady
end Sys2Proof.Machine

/-! PROOFS. What the loss of a unit leaves. -/
namespace Sys2Proof.Machine

theorem SMap.get_filter {α : Type} {d : Nat → α} {m : SMap α} {p : Nat × α → Bool} {k : Nat} (h : ∀ v, p (k, v) = true) :
    SMap.get d (m.filter p) k = SMap.get d m k := by
  induction m with
  | nil => rfl
  | cons e m ih =>
    obtain ⟨j, v⟩ := e
    rw [List.filter_cons]
    by_cases hj : j = k
    · subst hj
      rw [if_pos (h v), SMap.get, SMap.get, if_pos rfl, if_pos rfl]
    · rw [SMap.get, if_neg hj]
      split
      · rw [SMap.get, if_neg hj, ih]
      · exact ih

@[simp] theorem Reg.key_mod (r : Reg) (i : Nat) : r.key i % 256 = r.code := by
  have := r.code_lt
  unfold Reg.key
  omega

@[simp] theorem Reg.key_div (r : Reg) (i : Nat) : r.key i / 256 = i := by
  have := r.code_lt
  unfold Reg.key
  omega

theorem State.keyLost_key (s : State) (r : Reg) (i : Nat) : s.keyLost (r.key i) = s.supplyLost r i := by
  simp only [State.keyLost, Reg.key_mod, Reg.key_div, Reg.all_code]

/-- The tick generator and the split of duties have no power domain to lose. -/
theorem clockRegs_aon : ∀ r, r ∈ clockRegs → r.power = .aon := by
  intro r hr
  fin_cases hr <;> rfl

/-- A scope that does not leave what the loss of a unit may take: the link, the tables and the ports. -/
structure Scope.Lossy (c : Scope) : Prop where
  link : c.link = false
  tables : c.tables = false
  ports : ∀ p, c.ports p = false
  cfgs : ∀ p, c.cfgs p = false

/-- The registers that a reset of the host side clears are no registers of a scope. -/
theorem scopeRegs_not_hostFacing : ∀ r, r ∈ scopeRegs → r ∉ hostFacing := by
  intro r hr
  fin_cases hr <;> decide

namespace Steady
variable {c : Scope} {z s t : State}

/-! Loss of a unit (R22, R425): its state goes, the link may go down, and its ports are not left. -/

/-- A change of the tables, which the scope does not leave. -/
theorem setTabs (h : Steady c z s) {v : Tables} (hT : c.tables = false) : Steady c z (s.setTabs v) :=
  h.trans ⟨rfl, fun _ _ _ => rfl, fun _ hx => .inl hx, rfl, fun _ => rfl, fun _ => rfl, fun _ => rfl,
    fun e => absurd e (by rw [hT]; decide), fun _ => rfl, fun _ _ => rfl⟩

/-- A change of the needles, which the scope does not leave. -/
theorem setNeedles (h : Steady c z s) (hv : t = { s with needles := t.needles }) (hT : c.tables = false) : Steady c z t := by
  rw [hv]
  exact h.trans ⟨rfl, fun _ _ _ => rfl, fun _ hx => .inl hx, rfl, fun _ => rfl, fun _ => rfl, fun _ => rfl, fun _ => rfl,
    fun e => absurd e (by rw [hT]; decide), fun _ _ => rfl⟩

/-- A change of the ports' own states, which the scope does not leave. -/
theorem setPorts (h : Steady c z s) (hv : t = { s with ports := t.ports }) (hp : ∀ p, c.ports p = false) : Steady c z t := by
  rw [hv]
  exact h.trans ⟨rfl, fun _ _ _ => rfl, fun _ hx => .inl hx, rfl, fun _ => rfl, fun _ => rfl, fun _ => rfl, fun _ => rfl,
    fun _ => rfl, fun p e => absurd e (by rw [hp]; decide)⟩

theorem dropPipe (h : Steady c z s) {n : Nat} (hT : c.tables = false) : Steady c z (s.dropPipe n) := by
  unfold State.dropPipe
  extract_lets eg s1
  have h1 : Steady c z s1 := h.each _ fun _ _ hu => by
    split
    · exact hu.release
    · exact hu
  have h2 : Steady c z { s1 with needles := s1.needles.filter (fun e => enginePipe (e.1 / 96) != n) } := h1.setNeedles rfl hT
  exact h2.upd rfl rfl

theorem loseCopies (h : Steady c z s) {p : Copy → Bool} : Steady c z (s.loseCopies p) :=
  h.each _ fun _ _ hu => by
    split
    · exact hu.release
    · exact hu

theorem dropOctet (h : Steady c z s) {k : Nat} (hp : ∀ p, c.ports p = false) : Steady c z (s.dropOctet k) := by
  unfold State.dropOctet
  extract_lets s1 s2
  have h2 : Steady c z s2 := h.loseCopies.zeroOctet
  have h3 : Steady c z { s2 with ports := s2.ports.filter (fun e => e.1 / 8 != k) } := h2.setPorts rfl hp
  exact h3.upd rfl rfl

theorem dropSpilled (h : Steady c z s) {k : Nat} : Steady c z (s.dropSpilled k) := by
  unfold State.dropSpilled
  extract_lets q
  split
  · exact h
  · exact h.flushCopies.sknCount.setBuf.setQueue

theorem dropStack (h : Steady c z s) {k : Nat} : Steady c z (s.dropStack k) := by
  unfold State.dropStack
  extract_lets hit s1
  have h1 : Steady c z s1 := h.each _ fun _ _ hu => hu.dropSpilled
  exact h1.upd rfl rfl

theorem setTwin (h : Steady c z s) {q : Nat} {v : Twin} : Steady c z (s.setTwin q v) := h.upd rfl rfl

theorem dropPanel (h : Steady c z s) {q : Nat} (hT : c.tables = false) : Steady c z (s.dropPanel q) := by
  unfold State.dropPanel
  extract_lets s1 s2 keep cut
  have h1 : Steady c z s1 := h.each _ fun u _ hu => by
    split
    · exact hu.upd rfl rfl
    · exact hu
  have h2 : Steady c z s2 := h1.upd rfl rfl
  have h3 : Steady c z (s2.setTabs (cut s2.tabs)) := h2.setTabs hT
  exact h3.upd rfl rfl

theorem dropQuarter (h : Steady c z s) {d k : Nat} : Steady c z (s.dropQuarter d k) :=
  h.each _ fun _ _ hu => by
    split
    · exact hu.setCopy
    · exact hu

theorem dropTables (h : Steady c z s) {p k g : Nat → Bool} (hT : c.tables = false) : Steady c z (s.dropTables p k g) :=
  (h.setTabs (v := s.tabs.without p k g) hT).upd rfl rfl

theorem dropStore (h : Steady c z s) {d : Nat} {sess : Bool} (hT : c.tables = false) : Steady c z (s.dropStore d sess) := by
  unfold State.dropStore
  extract_lets no s1
  have h1 : Steady c z s1 := h.dropTables hT
  exact ite (fun _ => h.dropTables hT) fun _ => h1.upd rfl rfl

theorem dropRepl (h : Steady c z s) {d : Nat} (hT : c.tables = false) : Steady c z (s.dropRepl d) := by
  unfold State.dropRepl
  extract_lets s1 s2
  have h2 : Steady c z s2 := (h.dropTables hT).loseCopies
  exact (h2.setBuf (d := d) (b := { s2.buf d with repl := [] })).upd rfl rfl

theorem operandFails (h : Steady c z s) {k : Nat} : Steady c z (s.operandFails k) := by
  unfold State.operandFails
  split
  · exact h
  · refine ite (fun _ => ?_) fun _ => h
    split
    next ht => exact (h.takeEntry ht).chartFail
    next => exact h

theorem operandArrives (h : Steady c z s) {k : Nat} {b : Bytes} : Steady c z (s.operandArrives k b) := by
  unfold State.operandArrives
  split
  · exact h
  · exact ite (fun _ => h.setCtx) fun _ => h

theorem aheadEnds (h : Steady c z s) {n : Nat} {got : Option Bytes} : Steady c z (s.aheadEnds n got) := by
  unfold State.aheadEnds
  split
  · exact h
  · extract_lets dma s1
    have h1 : Steady c z s1 := h.upd rfl rfl
    refine h1.each _ fun u k hu => ite (fun _ => ?_) fun _ => hu
    split
    · exact hu.operandArrives
    · exact hu.operandFails

theorem readLost (h : Steady c z s) {w : ReadFor} : Steady c z (s.readLost w) := by
  unfold State.readLost
  split
  · exact h.setCq
  · exact h.setSq
  · exact h.operandFails
  · exact h.aheadEnds
  · exact h

theorem dropOps (h : Steady c z s) {p : ReadOp → Bool} : Steady c z (s.dropOps p) := by
  unfold State.dropOps
  extract_lets gone pcie s1
  have h1 : Steady c z s1 := h.upd rfl rfl
  exact h1.foldl _ fun _ _ _ hu => hu.readLost

theorem abandonFrames (h : Steady c z s) {g : Nat} : Steady c z (s.abandonFrames g) := h.upd rfl rfl

theorem chartCut (h : Steady c z s) {g : Nat} {w : Bool} : Steady c z (s.chartCut g w) :=
  h.each _ fun _ _ hu => by
    split
    · exact hu
    · exact ite (fun _ => hu.setCtx.drainAll) fun _ => ite (fun _ => hu.setCtx.chartFail) fun _ => hu.setCtx

/-- A reset of registers that the scope does not leave. -/
theorem resetRegs (h : Steady c z s) {l : List Reg} (hl : ∀ r, r ∈ scopeRegs → r ∉ l) (hc : c.link = false) :
    Steady c z (s.resetRegs l) := by
  refine h.regsOnly rfl (fun r i hr => SMap.get_filter fun v => ?_) fun e => absurd e (by rw [hc]; decide)
  have hne : ¬ ∃ q, q ∈ l ∧ q.code = r.code := fun ⟨q, hq, e⟩ =>
    hl r (Scope.mem_of_leaves hr) (Reg.code_inj e ▸ hq)
  simpa [Reg.key_mod] using hne

/-- A register without a power domain keeps its value. -/
theorem dropRegs (h : Steady c z s) (hc : c.Lossy) : Steady c z s.dropRegs := by
  refine h.regsOnly rfl (fun r i hr => SMap.get_filter fun v => ?_) fun e => absurd e (by rw [hc.link]; decide)
  have haon : r.power = .aon := by
    rcases hr with hr | ⟨-, hr⟩ | ⟨-, rfl⟩ | ⟨e, -⟩ | ⟨e, -⟩
    · exact clockRegs_aon r hr
    · fin_cases hr <;> rfl
    · rfl
    · exact absurd e (by rw [hc.ports]; decide)
    · exact absurd e (by rw [hc.cfgs]; decide)
  simp [State.keyLost_key, State.supplyLost, Reg.domains, haon]

theorem hostFacingReset (h : Steady c z s) (hc : c.link = false) : Steady c z s.hostFacingReset := by
  unfold State.hostFacingReset
  extract_lets sqOn cqOn s0 s1 pcie s2 s3
  have h0 : Steady c z s0 := (h.each _ fun _ _ hu => hu.chartCut.abandonFrames).dropOps
  have h1 : Steady c z s1 := (h0.bump (by decide)).resetRegs scopeRegs_not_hostFacing hc
  clear_value s1
  have h2 : Steady c z s2 := h1.upd rfl rfl
  have h3 : Steady c z s3 := h2.each _ fun _ _ hu => hu.setFld (by decide)
  exact h3.each _ fun _ _ hu => hu.setFld (by decide)

theorem dropUnit (h : Steady c z s) {d : Nat} (hc : c.Lossy) : Steady c z (s.dropUnit d) :=
  ite (fun _ => h.dropPipe hc.tables) fun _ =>
  ite (fun _ => h.dropOctet hc.ports) fun _ =>
  ite (fun _ => h.dropStack) fun _ =>
  ite (fun _ => h.each _ fun _ _ hu => hu.dropPanel hc.tables) fun _ =>
  ite (fun _ => h.dropQuarter) fun _ =>
  ite (fun _ => h.dropStore hc.tables) fun _ =>
  ite (fun _ => h.dropStore hc.tables) fun _ =>
  ite (fun _ => h.dropRepl hc.tables) fun _ =>
  ite (fun _ => h.upd rfl rfl) fun _ =>
  ite (fun _ => h.hostFacingReset hc.link) fun _ =>
  ite (fun _ => h.upd rfl rfl) fun _ =>
  ite (fun _ => h.upd rfl rfl) fun _ => h

/-- A power domain's state changes where the scope does not leave the domains. -/
theorem setDom (h : Steady c z s) {d st : Nat} (hd : c.doms = false) : Steady c z (s.setDom d st) := by
  have hfree (r : Reg) (hr : r = .PWR_DOM_STS) (i : Nat) : ¬ c.leaves r i := by
    subst hr
    rintro (hl | ⟨-, hl⟩ | ⟨hl, -⟩ | ⟨-, hl⟩ | ⟨-, hl⟩)
    · exact absurd hl (by decide)
    · exact absurd hl (by decide)
    · rw [hd] at hl; cases hl
    · cases hl
    · cases hl
  unfold State.setDom
  extract_lets s1 pwr s2
  have h1 : Steady c z s1 := h.setReg' (hfree _ rfl _) (by decide)
  have h2 : Steady c z s2 := h1.upd rfl rfl
  exact ite (fun _ => h2.setReg' (hfree _ rfl _) (by decide)) fun _ => h2

theorem jrnPower (h : Steady c z s) {kind dom old new : Nat} : Steady c z (s.jrnPower kind dom old new) := h.journalNow

theorem removeDomain (h : Steady c z s) {d : Nat} (hc : c.Lossy) (hd : c.doms = false) : Steady c z (s.removeDomain d) := by
  unfold State.removeDomain
  have hdown : Steady c z (s.domDown d 6) := ((h.setDom hd).dropUnit hc).dropRegs hc
  exact ite (fun _ => h) fun _ => hdown.jrnPower

end Steady
end Sys2Proof.Machine
end

section
/-! PROOFS. The device's own changes of mode (R27, R31), and the head of FAULT_REACTION. -/
namespace Sys2Proof.Machine

namespace Steady
variable {c : Scope} {z s t : State}

/-- A write of the mode's registers where the scope does not leave the mode. -/
theorem setModeFld (h : Steady c z s) {f : Fld} {i v : Nat} (hm : c.mode = false) (hf : f.reg ∈ modeRegs) :
    Steady c z (s.setFld f i v) := by
  have hr : f.reg ∉ clockRegs ∧ f.reg ∉ [Reg.PWR_DOM_STS, .MAC_PORT_STS, .MAC_PORT_CFG, .PCX_LINK_STS] := by
    revert hf
    generalize f.reg = r
    intro hf
    fin_cases hf <;> decide
  obtain ⟨hclock, hother⟩ := hr
  refine h.setReg' ?_ fun e => hother (by rw [e]; decide)
  rintro (hl | ⟨hl, -⟩ | ⟨-, hl⟩ | ⟨-, hl⟩ | ⟨-, hl⟩)
  · exact hclock hl
  · rw [hm] at hl; cases hl
  all_goals exact hother (by rw [hl]; decide)

/-- A change of the request in progress where the scope does not leave the mode. -/
theorem setRequest (h : Steady c z s) {m : Option ModeReq} (hm : c.mode = false) : Steady c z { s with mode := m } :=
  h.trans ⟨rfl, fun _ _ _ => rfl, fun _ hx => .inl hx, rfl, fun _ => rfl, fun e => absurd e (by rw [hm]; decide), fun _ => rfl,
    fun _ => rfl, fun _ => rfl, fun _ _ => rfl⟩

theorem capStacks (h : Steady c z s) {n : Nat} : Steady c z (s.capStacks n) := h.each _ fun _ _ hu => hu.setFld (by decide)

theorem applyLevel (h : Steady c z s) {n : Nat} : Steady c z (s.applyLevel n) :=
  ite (fun _ => h.capStacks) fun _ => (h.setFld (by decide)).jrnPower.capStacks

theorem setMode (h : Steady c z s) {m reason tag : Nat} (hm : c.mode = false) : Steady c z (s.setMode m reason tag) :=
  ((((h.setModeFld hm (by decide)).setModeFld hm (by decide)).setModeFld hm (by decide)).setModeFld hm (by decide)).journalNow.applyLevel

theorem rejectMode (h : Steady c z s) {cause tag : Nat} (hm : c.mode = false) : Steady c z (s.rejectMode cause tag) :=
  (((h.setModeFld hm (by decide)).setModeFld hm (by decide)).setModeFld hm (by decide)).interrupt

end Steady

/-- The pending request, if any, ends as refused with cause 2. -/
def State.endRequest (s : State) : State :=
  match s.mode with
  | some r => { (s.rejectMode 2 r.tag).setFld F.GLB_MODE_BUSY 0 0 with mode := none }
  | none => s

theorem State.endRequest_mode (s : State) : s.endRequest.mode = none := by
  unfold State.endRequest
  split
  · rfl
  · assumption

theorem State.fld_endRequest (s : State) {f : Fld} (hf : f = F.GLB_MODE_CUR ∨ f = F.GLB_MODE_SEQ) :
    s.endRequest.fld f 0 = s.fld f 0 := by
  unfold State.endRequest
  split
  next r _ =>
    have hrej : (s.rejectMode 2 r.tag).fld f 0 = s.fld f 0 := by
      rcases hf with rfl | rfl <;> exact (OnlyReports.rejectMode s 2 r.tag).fld (by decide) (by decide)
    rw [← hrej]
    generalize s.rejectMode 2 r.tag = v
    show (v.setFld F.GLB_MODE_BUSY 0 0).fld f 0 = v.fld f 0
    rcases hf with rfl | rfl <;> exact State.fld_setFld_ne _ _ _ _ _ _ (by decide)
  next => rfl

theorem Steady.endRequest {c : Scope} {z s : State} (h : Steady c z s) (hm : c.mode = false) : Steady c z s.endRequest := by
  unfold State.endRequest
  split
  · exact ((h.rejectMode hm).setModeFld hm (by decide)).setRequest hm
  · exact h

/-- GLB_MODE and GLB_MODE_STS of a change that the device makes by itself. -/
def State.autoFields (s : State) (m reason : Nat) : State :=
  ((s.endRequest.setMode m reason 0).setFld F.GLB_MODE_TARGET 0 m).setFld F.GLB_MODE_STS_AUTO 0 1

theorem State.autoMode_eq (s : State) (m reason : Nat) :
    s.autoMode m reason = (((s.autoFields m reason).interrupt 0).freshTransition.when (reason == 6) State.flushAll) := rfl

theorem Steady.freshTransition {c : Scope} {z s : State} (h : Steady c z s) : Steady c z s.freshTransition := h.upd rfl rfl

/-- What follows the change itself, the interrupt and the flush, leaves the mode. -/
theorem Steady.autoMode_autoFields (c : Scope) (s : State) (m reason : Nat) :
    Steady c (s.autoFields m reason) (s.autoMode m reason) :=
  (Steady.refl c _).interrupt.freshTransition.whenever fun _ => (Steady.refl c _).interrupt.freshTransition.flushAll

theorem Steady.autoMode {c : Scope} {z s : State} (h : Steady c z s) (m reason : Nat) (hm : c.mode = false) :
    Steady c z (s.autoMode m reason) :=
  ((((h.endRequest hm).setMode hm).setModeFld hm (by decide)).setModeFld hm (by decide)).trans (Steady.autoMode_autoFields c s m reason)

/-- The mode after a change that the device makes by itself (R27, R31). -/
theorem State.fld_autoMode (s : State) (m reason : Nat) :
    (s.autoMode m reason).curMode = m % 16 ∧ (s.autoMode m reason).fld F.GLB_MODE_PREV 0 = s.curMode ∧
      (s.autoMode m reason).fld F.GLB_MODE_SEQ 0 = (s.fld F.GLB_MODE_SEQ 0 + 1) % 256 ∧
      (s.autoMode m reason).fld F.GLB_MODE_REASON 0 = reason % 256 ∧
      (s.autoMode m reason).fld F.GLB_MODE_STS_AUTO 0 = 1 ∧ (s.autoMode m reason).mode = none := by
  have hend := Steady.autoMode_autoFields .full s m reason
  have hfld (f : Fld) (hf : f.reg ∈ modeRegs) : (s.autoMode m reason).fld f 0 = (s.autoFields m reason).fld f 0 := by
    rw [State.fld, State.fld, hend.regs _ _ (.inr (.inl ⟨rfl, hf⟩))]
  obtain ⟨hcur, hprev, hseq, hreason⟩ := s.endRequest.fld_setMode m reason 0
  have hmode (f : Fld) (hf : f.reg = .GLB_MODE) (ht : f.lsb + f.width ≤ F.GLB_MODE_TARGET.lsb ∨
      F.GLB_MODE_TARGET.lsb + F.GLB_MODE_TARGET.width ≤ f.lsb) :
      (s.autoFields m reason).fld f 0 = (s.endRequest.setMode m reason 0).fld f 0 := by
    rw [State.autoFields, State.fld_setFld_ne _ _ _ _ _ _ (.inl (by rw [hf]; decide)),
      State.fld_setFld_ne _ _ _ _ _ _ (.inr (.inr ht))]
  refine ⟨?_, ?_, ?_, ?_, ?_, ?_⟩
  · exact (hfld _ (by decide)).trans ((hmode _ rfl (by decide)).trans hcur)
  · rw [hfld _ (by decide), hmode _ rfl (by decide), hprev]
    exact s.fld_endRequest (.inl rfl)
  · rw [hfld _ (by decide), hmode _ rfl (by decide), hseq, s.fld_endRequest (.inr rfl)]
  · rw [hfld _ (by decide), hmode _ rfl (by decide), hreason]
  · exact (hfld _ (by decide)).trans (State.fld_setFld_self _ F.GLB_MODE_STS_AUTO 0 1 (by decide))
  · have hset := (congrArg State.mode (OnlyReports.setMode s.endRequest m reason 0).1 :)
    exact (hend.mode rfl).trans (hset.trans s.endRequest_mode)

end Sys2Proof.Machine

/-! PROOFS. FAULT_REACTION: which reaction is taken, and the reactions that change state of their own (Table 16-3). -/
namespace Sys2Proof.Machine

theorem removeFirst_append {α : Type} {p : α → Bool} {l1 l2 : List α} {r : α} (h : ∀ x, x ∈ l1 → p x = false) (hr : p r = true) :
    removeFirst p (l1 ++ r :: l2) = l1 ++ l2 := by
  induction l1 with
  | nil => simp [removeFirst, hr]
  | cons x l ih =>
    rw [List.cons_append, removeFirst, h x (.head _), List.cons_append]
    exact congrArg (x :: ·) (ih fun y hy => h y (.tail _ hy))

/-- Reaction `r` is due at FAULT_REACTION of block `k`, source `src` and number `inst` (R382). -/
def State.reactsAs (s : State) (k : Fin 23) (src : Fin 32) (inst : Fin 65536) (r : React) : Prop :=
  r.block = k.val ∧ r.src = src.val ∧ r.inst = inst.val ∧ s.atEdge = true ∧ r.tick ≠ s.tikCount

/-- The state with the queue of reactions replaced, before one of them is carried out. -/
abbrev State.withReacts (s : State) (l : List React) : State := { s with out := [], flt := { s.flt with react := l } }

@[simp] theorem State.atEdge_begin (s : State) : s.begin.atEdge = s.atEdge := rfl

@[simp] theorem State.tikCount_begin (s : State) : s.begin.tikCount = s.tikCount := rfl

/-- The test by which FAULT_REACTION looks for its reaction. -/
def State.reactTest (s : State) (k : Fin 23) (src : Fin 32) (inst : Fin 65536) (r : React) : Bool :=
  r.block == k.val && r.src == src.val && r.inst == inst.val && s.atEdge && r.tick != s.tikCount

theorem State.reactTest_iff {s : State} {k : Fin 23} {src : Fin 32} {inst : Fin 65536} {r : React} :
    s.reactTest k src inst r = true ↔ s.reactsAs k src inst r := by
  simp [State.reactTest, State.reactsAs, and_assoc]

theorem State.reactTest_false {s : State} {k : Fin 23} {src : Fin 32} {inst : Fin 65536} {l : List React}
    (h : ∀ x, x ∈ l → ¬ s.reactsAs k src inst x) : ∀ x, x ∈ l → s.reactTest k src inst x = false :=
  fun x hx => Bool.eq_false_iff.2 fun he => h x hx (State.reactTest_iff.1 he)

theorem execFaultReaction_eq (k : Fin 23) (src : Fin 32) (inst : Fin 65536) (s : State) :
    execFaultReaction k src inst s = (s.begin.flt.react.find? (s.begin.reactTest k src inst)).elim (.next s.begin) fun r =>
      .next (if s.begin.reactDue r = true
        then (s.begin.withReacts (removeFirst (s.begin.reactTest k src inst) s.begin.flt.react)).react r
        else s.begin.withReacts (removeFirst (s.begin.reactTest k src inst) s.begin.flt.react)) := by
  unfold execFaultReaction
  dsimp only
  split
  next h => rw [show s.begin.flt.react.find? (s.begin.reactTest k src inst) = none from h]; rfl
  next r h => rw [show s.begin.flt.react.find? (s.begin.reactTest k src inst) = some r from h]; rfl

theorem exec_faultReaction_none {k : Fin 23} {src : Fin 32} {inst : Fin 65536} {s : State}
    (h : ∀ r, r ∈ s.flt.react → ¬ s.reactsAs k src inst r) : exec (.faultReaction k src inst) s = .next { s with out := [] } := by
  have hnone : s.begin.flt.react.find? (s.begin.reactTest k src inst) = none :=
    List.find?_eq_none.2 fun r hr he => h r hr (State.reactTest_iff.1 he)
  exact (execFaultReaction_eq k src inst s).trans (by rw [hnone]; rfl)

theorem exec_faultReaction_due {k : Fin 23} {src : Fin 32} {inst : Fin 65536} {s : State} {l1 l2 : List React} {r : React}
    (hs : s.flt.react = l1 ++ r :: l2) (h1 : ∀ x, x ∈ l1 → ¬ s.reactsAs k src inst x) (hr : s.reactsAs k src inst r) :
    exec (.faultReaction k src inst) s = .next (if bitOf (s.fld F.FLT_EN_ACT_EN k.val) src.val = true
      then (s.withReacts (l1 ++ l2)).react r else s.withReacts (l1 ++ l2)) := by
  have hfirst := State.reactTest_false h1
  have hhere := State.reactTest_iff.2 hr
  have hfind : s.begin.flt.react.find? (s.begin.reactTest k src inst) = some r := by
    show s.flt.react.find? (s.reactTest k src inst) = some r
    rw [hs, List.find?_append, List.find?_eq_none.2 fun x hx => by rw [hfirst x hx]; decide]
    simp [hhere]
  have hrest : removeFirst (s.begin.reactTest k src inst) s.begin.flt.react = l1 ++ l2 :=
    (congrArg _ hs).trans (removeFirst_append hfirst hhere)
  have hdue : s.begin.reactDue r = bitOf (s.fld F.FLT_EN_ACT_EN k.val) src.val := by
    obtain ⟨hblock, hsrc, -, hedge, htick⟩ := hr
    simp only [State.reactDue, State.atEdge_begin, State.tikCount_begin, hedge, bne_iff_ne.2 htick, hblock, hsrc, Bool.true_and]
    rfl
  refine (execFaultReaction_eq k src inst s).trans ?_
  rw [hfind, Option.elim_some, hdue, hrest]
  rfl

/-- The blocks and sources that have a reaction of their own (Table 16-3). -/
def reactArms : List (Nat × Nat) :=
  [(0, 1), (0, 3), (0, 4), (2, 0), (2, 2), (2, 4), (6, 1), (10, 2), (11, 1), (14, 2), (15, 2), (16, 0), (16, 1), (17, 4),
    (17, 6), (19, 0), (19, 1), (20, 2), (21, 0)]

theorem State.react_other (s : State) {r : React} (h : (r.block, r.src) ∉ reactArms) : s.react r = s := by
  unfold State.react
  dsimp only
  split
  case h_20 => rfl
  all_goals exact absurd (by simp [reactArms, *]) h

end Sys2Proof.Machine

/-! PROOFS. The reactions of Table 16-3 that change an entry, a register, a queue or a program. -/
namespace Sys2Proof.Machine

/-- A die-to-die module that failed is out of service (R22). -/
theorem State.react_module (u : State) {r : React} (hb : r.block = 0) (hs : r.src = 1) :
    (∀ m, m ∈ (u.react r).flt.modules ↔ m ∈ u.flt.modules ∨ m = r.inst) ∧ { u.react r with flt := u.flt } = u := by
  simp only [State.react, hb, hs]
  refine ⟨fun m => ?_, trivial⟩
  split
  next h =>
    have hmem : r.inst ∈ u.flt.modules := by simpa using h
    exact ⟨.inl, fun hm => hm.elim id fun e => e ▸ hmem⟩
  next => simp

/-- A table slot with an error that cannot be corrected is cleared. -/
theorem State.react_slot (u : State) {r : React} (hb : r.block = 11) (hs : r.src = 1) :
    (u.react r).tabs.slotAt r.inst (r.hit % 3) (r.info.toNat % 2 ^ 32) = none ∧ { u.react r with tabs := u.tabs } = u := by
  simp only [State.react, hb, hs]
  refine ⟨?_, rfl⟩
  rw [State.setTabs, Tables.slotAt, Tables.setSlot, SMap.get_set, if_pos rfl]

/-- A group that reads as having no ports. -/
theorem Tables.mcg_groupOff (t : Tables) (d g : Nat) :
    (SMap.get (fun _ => 0) (t.groupOff d g).mcg (d * 65536 + g)).getLsbD 96 = false := by
  rw [Tables.groupOff, SMap.get_set, if_pos rfl]
  simp

/-- A replication group with an error that cannot be corrected is invalid. -/
theorem State.react_group (u : State) {r : React} (hb : r.block = 15) (hs : r.src = 2) :
    ((u.react r).readGroup (u.react r).tabs r.inst (r.info.toNat % 2 ^ 32)).getLsbD 96 = false ∧
      { u.react r with tabs := u.tabs, prev1 := u.prev1, prev2 := u.prev2 } = u := by
  simp only [State.react, hb, hs]
  refine ⟨?_, trivial⟩
  unfold State.readGroup
  split
  · exact u.tabs.mcg_groupOff _ _
  · rfl

/-- A sequence counter that was lost starts again. -/
theorem State.react_seq (u : State) {r : React} (hb : r.block = 16) (hs : r.src = 0) :
    SMap.get (fun _ => 0) (u.react r).seqs (r.info.toNat % 2 ^ 32) = 0 ∧
      (∀ j, j ≠ r.info.toNat % 2 ^ 32 → SMap.get (fun _ => 0) (u.react r).seqs j = SMap.get (fun _ => 0) u.seqs j) ∧
      { u.react r with seqs := u.seqs } = u := by
  simp only [State.react, hb, hs]
  refine ⟨?_, fun j hj => ?_, trivial⟩
  · rw [SMap.get_set, if_pos rfl]
  · rw [SMap.get_set, if_neg hj.symm]

/-- A route or a set that was lost is cleared. -/
theorem State.react_route (u : State) {r : React} (hb : r.block = 16) (hs : r.src = 1) :
    OnlyRegs (fun q j => j = r.info.toNat % 2 ^ 32 ∧ q = if r.hit = 0 then .YRN_ROUTE else .YRN_SET) u (u.react r) ∧
      if r.hit = 0 then (u.react r).fld F.YRN_ROUTE_V (r.info.toNat % 2 ^ 32) = 0
      else (u.react r).reg .YRN_SET (r.info.toNat % 2 ^ 32) = 0 := by
  simp only [State.react, hb, hs]
  split
  · exact ⟨OnlyRegs.setFld _ _ ⟨rfl, rfl⟩, State.fld_setFld_self _ _ _ _ (by decide)⟩
  · exact ⟨OnlyRegs.setReg _ _ ⟨rfl, rfl⟩, State.reg_setReg_self _ _ _ _⟩

/-- Spilling of the die stops. -/
theorem State.react_spill (u : State) {r : React} (hb : r.block = 17) (hs : r.src = 6) :
    (u.react r).fld F.SKN_SPILL_CFG_EN (r.inst / 2) = 0 ∧
      OnlyRegs (fun q j => q = .SKN_SPILL_CFG ∧ j = r.inst / 2) u (u.react r) := by
  simp only [State.react, hb, hs]
  exact ⟨State.fld_setFld_self _ _ _ _ (by decide), OnlyRegs.setFld _ _ ⟨rfl, rfl⟩⟩

/-- A walk that clears instances of one register. -/
theorem State.reg_each_clear (s : State) (l : List Nat) (q : Reg) (at' : Nat → Nat) {j : Nat} (hj : j ∈ l ∨ s.reg q (at' j) = 0) :
    (s.each l fun t k => t.setReg q (at' k) 0).reg q (at' j) = 0 := by
  induction l generalizing s with
  | nil => exact hj.elim (by simp) id
  | cons k l ih =>
    refine ih _ ?_
    rw [State.reg_setReg]
    rcases hj with hj | hj
    · rcases List.mem_cons.1 hj with rfl | hj
      · exact .inr (if_pos ⟨rfl, rfl⟩)
      · exact .inl hj
    · exact .inr (by split <;> trivial)

/-- A LAG group that was lost is cleared with its members. -/
theorem State.react_lag (u : State) {r : React} (hb : r.block = 10) (hs : r.src = 2) (hh : r.hit = 0) :
    (u.react r).reg .ACT_LAG (r.inst * 128 + r.info.toNat % 2 ^ 32 % 128) = 0 ∧
      (∀ j, j < 16 → (u.react r).reg .ACT_LAG_MEM ((r.inst * 128 + r.info.toNat % 2 ^ 32 % 128) * 16 + j) = 0) ∧
      OnlyRegs (fun q _ => q = .ACT_LAG ∨ q = .ACT_LAG_MEM) u (u.react r) := by
  simp only [State.react, hb, hs, State.actZero, hh]
  generalize r.inst * 128 + r.info.toNat % 2 ^ 32 % 128 = g
  refine ⟨?_, fun j hj => ?_, ?_⟩
  · refine State.each_induction (P := fun t => t.reg .ACT_LAG g = 0) _ (State.reg_setReg_self _ _ _ _) fun t a ht => ?_
    rw [State.reg_setReg_ne (fun e => absurd e.1 (by decide)), ht]
  · exact State.reg_each_clear _ _ .ACT_LAG_MEM (g * 16 + ·) (.inl (List.mem_range.2 hj))
  · exact State.each_induction _ (OnlyRegs.setReg _ _ (.inl rfl)) fun _ _ h => h.trans (OnlyRegs.setReg _ _ (.inr rfl))

/-- A flushed queue holds no copy. -/
theorem State.queue_flushQueue (s : State) (k : Nat) :
    ((s.flushQueue k).queue k).chain = [] ∧ ((s.flushQueue k).queue k).wait = [] := by
  unfold State.flushQueue
  dsimp only
  split
  · simp [State.queue_setQueue]
  · simp [State.queue_setQueue]

end Sys2Proof.Machine

/-! PROOFS. The reaction to a lost commit staging: the program that holds it fails, the other programs of the sequencer run on. -/
namespace Sys2Proof.Machine

/-- In a walk whose steps each change the view of one element only, the last word on an element is that of its own step. -/
theorem State.each_local {α : Type} (V : State → Nat → α) {f : State → Nat → State} (hf : ∀ t a b, b ≠ a → V (f t a) b = V t b)
    {l : List Nat} (hl : l.Nodup) (s : State) {k : Nat} (hk : k ∈ l) : ∃ t, V t k = V s k ∧ V (s.each l f) k = V (f t k) k := by
  have hrest (l : List Nat) (s : State) (hk : k ∉ l) : V (s.each l f) k = V s k :=
    List.foldlRecOn (motive := fun t => V t k = V s k) l f rfl fun t ht a ha => (hf t a k fun e => hk (e ▸ ha)).trans ht
  induction l generalizing s with
  | nil => cases hk
  | cons a l ih =>
    obtain ⟨ha, hl⟩ := List.nodup_cons.1 hl
    rcases List.mem_cons.1 hk with rfl | hk
    · exact ⟨s, rfl, hrest l _ ha⟩
    · obtain ⟨t, ht, he⟩ := ih hl (f s a) hk
      exact ⟨t, ht.trans (hf s a k fun e => ha (e ▸ hk)), he⟩

theorem State.bump_chart (s : State) (r : Reg) (i n : Nat) : (s.bump r i n).chart = s.chart :=
  (congrArg State.chart (OnlyReports.bump (p := fun _ _ => True) s (r := r) (i := i) n (.inr trivial)).1 :)

theorem State.consume_chart (s : State) (g : Nat) (l : List (Nat × Nat × Option (Option Bytes))) : (s.consume g l).chart = s.chart := by
  induction l generalizing s with
  | nil => rfl
  | cons x l ih =>
    obtain ⟨k, n, e⟩ := x
    cases e with
    | none => rfl
    | some e =>
      refine (ih _).trans ?_
      cases e with
      | none => rfl
      | some b =>
        dsimp only
        split
        · exact (congrArg State.chart (OnlyReports.cqPush (fun _ _ => False) _ _ b).1 :)
        · rfl

/-- The end of a program touches no other program. -/
theorem State.ctx_chartEnd (s : State) (k : Nat) (x : Ctx) (j : Nat) : (s.chartEnd k x).ctx j = if k = j then none else s.ctx j := by
  rw [← State.ctx_setCtx]
  unfold State.chartEnd
  extract_lets s1
  split
  · rfl
  · split
    · rfl
    · exact congrArg (fun h : ChartSt => SMap.get (fun _ => none) h.ctxs j) ((State.consume_chart ..).trans (State.bump_chart ..))

/-- What a failed program leaves: nothing, or its context with the status, without staging. -/
def CtxFailed (st : Nat) (x : Option Ctx) : Prop :=
  x = none ∨ ∃ z, x = some z ∧ z.status = st ∧ z.staged = [] ∧ z.holds = false

theorem State.takeEntry_ctx {s t : State} {k i : Nat} {x x' : Ctx} {e : Bytes} (h : s.takeEntry k x = some (i, e, x', t)) :
    x'.status = x.status ∧ x'.staged = x.staged ∧ x'.holds = x.holds ∧ ∀ j, t.ctx j = if k = j then some x' else s.ctx j := by
  unfold State.takeEntry at h
  split at h
  · contradiction
  · cases h
    refine ⟨rfl, rfl, rfl, fun j => ?_⟩
    rw [State.ctx_setCtx]
    split
    · rfl
    · split <;> rfl

/-- Taking the rest of a failed program's entries keeps it failed, and touches no other program. -/
theorem State.ctx_chartDrain (s : State) (k n st : Nat) (h : CtxFailed st (s.ctx k)) :
    CtxFailed st ((s.chartDrain k n).ctx k) ∧ ∀ j, j ≠ k → (s.chartDrain k n).ctx j = s.ctx j := by
  have hend (s : State) (x : Ctx) : CtxFailed st ((s.chartEnd k x).ctx k) ∧ ∀ j, j ≠ k → (s.chartEnd k x).ctx j = s.ctx j :=
    ⟨.inl (by rw [State.ctx_chartEnd, if_pos rfl]), fun j hj => by rw [State.ctx_chartEnd, if_neg hj.symm]⟩
  induction n generalizing s with
  | zero => exact ⟨h, fun _ _ => rfl⟩
  | succ n ih =>
    unfold State.chartDrain
    split
    · exact ⟨h, fun _ _ => rfl⟩
    next x hx =>
      split
      · exact hend s x
      · split
        next i e x' t ht =>
          obtain ⟨hst, hstaged, hholds, hctx⟩ := State.takeEntry_ctx ht
          have hfail : CtxFailed st (t.ctx k) := by
            rw [hctx, if_pos rfl]
            rcases h with h | ⟨z, hz, h1, h2, h3⟩
            · rw [h] at hx; cases hx
            · rw [hz] at hx
              cases hx
              exact .inr ⟨x', rfl, hst.trans h1, hstaged.trans h2, hholds.trans h3⟩
          obtain ⟨hk, hj⟩ := ih t hfail
          exact ⟨hk, fun j hne => by rw [hj j hne, hctx, if_neg hne.symm]⟩
        next =>
          split
          · exact hend s x
          · exact ⟨h, fun _ _ => rfl⟩

/-- The context of a program that fails with status `st`. -/
def Ctx.failed (x : Ctx) (st : Nat) : Ctx :=
  { x with
    status := st
    dropped := x.dropped || !x.staged.isEmpty
    staged := []
    holds := false
    wait := .none
    operand := none }

/-- A program that fails ends with its status, without staging, and touches no other program. -/
theorem State.ctx_chartFail (s : State) (k st : Nat) :
    (∀ x, s.ctx k = some x → CtxFailed st ((s.chartFail k st).ctx k)) ∧ ∀ j, j ≠ k → (s.chartFail k st).ctx j = s.ctx j := by
  unfold State.chartFail
  split
  next h => exact ⟨fun x hx => absurd (h.symm.trans hx) (by simp), fun _ _ => rfl⟩
  next x hx =>
    extract_lets q s1 s2
    have h1 : s1.chart = s.chart := State.bump_chart _ _ _ _
    have h2 : s2.chart = s.chart := by
      unfold s2
      clear_value s1
      split
      · exact h1
      · simpa only [State.setReg_others] using h1
    clear_value s2
    have hctx (j : Nat) : s2.ctx j = s.ctx j := by rw [State.ctx, State.ctx, h2]
    have hfail : CtxFailed st ((s2.setCtx k (some (x.failed st))).ctx k) :=
      .inr ⟨x.failed st, by rw [State.ctx_setCtx, if_pos rfl], rfl, rfl, rfl⟩
    have hset (j : Nat) (hj : j ≠ k) : (s2.setCtx k (some (x.failed st))).ctx j = s.ctx j := by
      rw [State.ctx_setCtx, if_neg hj.symm, hctx]
    change (∀ y, _ → CtxFailed st (((s2.setCtx k (some (x.failed st))).drainAll k).ctx k)) ∧
      ∀ j, j ≠ k → ((s2.setCtx k (some (x.failed st))).drainAll k).ctx j = s.ctx j
    unfold State.drainAll
    split
    next h => exact ⟨fun _ _ => .inl h, hset⟩
    next y _ =>
      obtain ⟨hk, hj⟩ := State.ctx_chartDrain _ k (((s2.setCtx k (some (x.failed st))).ctxEntries y).length + 2) st hfail
      exact ⟨fun _ _ => hk, fun j hne => (hj j hne).trans (hset j hne)⟩

/-- The reaction to a lost staging, for one context. -/
def State.failHolder (t : State) (k : Nat) : State :=
  if (t.ctx k).elim false (fun c => c.holds) then
    ({ t with chart := { t.chart with commits := t.chart.commits.filter (fun x => x.ctx != k) } }).chartFail k 4
  else t

theorem State.ctx_failHolder (t : State) (k : Nat) :
    (∀ y, t.ctx k = some y → y.holds = true → CtxFailed 4 ((t.failHolder k).ctx k)) ∧
      ∀ j, j ≠ k → (t.failHolder k).ctx j = t.ctx j := by
  obtain ⟨hk, hj⟩ := State.ctx_chartFail
    { t with chart := { t.chart with commits := t.chart.commits.filter (fun x => x.ctx != k) } } k 4
  unfold State.failHolder
  refine ⟨fun y hy hold => ?_, fun j hne => ?_⟩
  · rw [hy, Option.elim_some, if_pos hold]
    exact hk y hy
  · split
    · exact hj j hne
    · rfl

/-- The program that holds the commit staging of a sequencer fails with CHT_E_OPREAD (R384). -/
theorem State.react_staging (u : State) {r : React} (hb : r.block = 6) (hs : r.src = 1) {k : Nat} {y : Ctx} (hk : k < 8)
    (hy : u.ctx (8 * r.inst + k) = some y) (hold : y.holds = true) : CtxFailed 4 ((u.react r).ctx (8 * r.inst + k)) := by
  simp only [State.react, hb, hs]
  obtain ⟨t, ht, he⟩ := State.each_local State.ctx (fun t a => (t.ctx_failHolder a).2)
    (l := (List.range 8).map (8 * r.inst + ·)) (List.nodup_range.map fun a b h => by simpa using h) u
    (List.mem_map.2 ⟨k, List.mem_range.2 hk, rfl⟩)
  change CtxFailed 4 ((u.each ((List.range 8).map (8 * r.inst + ·)) State.failHolder).ctx (8 * r.inst + k))
  rw [he]
  exact (t.ctx_failHolder _).1 y (ht.trans hy) hold

end Sys2Proof.Machine

/-! PROOFS. The reactions that shut a port or take it to BINDOFF (Table 16-3). -/
namespace Sys2Proof.Machine

/-- Everything but port `p`'s own state. -/
def Scope.butPort (p : Nat) : Scope := { Scope.full with ports := fun q => q != p }

/-- Everything but port `p`. -/
def Scope.butShut (p : Nat) : Scope := { Scope.butPort p with cfgs := fun q => q != p }

@[simp] theorem Scope.ports_butPort (p : Nat) : (Scope.butPort p).ports p = false := bne_self_eq_false p

@[simp] theorem Scope.ports_butShut (p : Nat) : (Scope.butShut p).ports p = false := bne_self_eq_false p

@[simp] theorem Scope.cfgs_butShut (p : Nat) : (Scope.butShut p).cfgs p = false := bne_self_eq_false p

namespace Steady
variable {c : Scope} {z t : State}

theorem portSts (h : Steady c z t) {p : Nat} (hp : c.ports p = true) : t.reg .MAC_PORT_STS p = z.reg .MAC_PORT_STS p :=
  h.regs _ _ (.inr (.inr (.inr (.inl ⟨hp, rfl⟩))))

theorem portCfg (h : Steady c z t) {p : Nat} (hp : c.cfgs p = true) : t.reg .MAC_PORT_CFG p = z.reg .MAC_PORT_CFG p :=
  h.regs _ _ (.inr (.inr (.inr (.inr ⟨hp, rfl⟩))))

theorem portState (h : Steady c z t) {p : Nat} (hp : c.ports p = true) : t.portState p = z.portState p := by
  unfold State.portState State.fld
  exact congrArg (getField · _ _) (h.portSts hp)

theorem portEn (h : Steady c z t) {p : Nat} (hp : c.cfgs p = true) : t.fld F.MAC_PORT_CFG_EN p = z.fld F.MAC_PORT_CFG_EN p := by
  unfold State.fld
  exact congrArg (getField · _ _) (h.portCfg hp)

theorem inForce (h : Steady c z t) {m : SMap (BitVec 64)} : Steady c z { t with inForce := m } := h.upd rfl rfl

theorem shutEn (h : Steady c z t) {p : Nat} (hg : c.cfgs p = false) : Steady c z (t.shutEn p) := (h.setCfgFld hg (by rfl)).inForce

theorem shutPort (h : Steady c z t) {p : Nat} (hp : c.ports p = false) (hg : c.cfgs p = false) : Steady c z (t.shutPort p) :=
  ite (fun _ => (h.shutEn hg).portEval hp) fun _ => h

end Steady

/-- A port's state once it has entered BINDOFF. -/
theorem State.enterBindoff_port (s : State) (p : Nat) (marked : Bool) :
    (s.enterBindoff p marked).portState p = 3 ∧ ((s.enterBindoff p marked).port p).marked = marked := by
  unfold State.enterBindoff
  extract_lets s0 s1 q s2
  have hend : Steady Scope.full s2 ((s2.flushPort p).bindoffFlush p) := (Steady.refl _ _).flushPort.bindoffFlush
  rw [hend.portState rfl, hend.marked p rfl]
  constructor
  · show s1.fld F.MAC_PORT_STS_STATE p = 3
    rw [State.fld_setFld_ne _ _ _ _ _ _ (.inr (.inr (by decide))), State.fld_setFld_self _ _ _ _ (by decide)]
    rfl
  · rw [State.port_setPort, if_pos rfl]

/-- A port's state once it has entered another state. -/
theorem State.enterState_port (s : State) (p st : Nat) : (s.enterState p st).portState p = st % 8 :=
  State.fld_setFld_self s F.MAC_PORT_STS_STATE p st (by decide)

/-- A port that loses EN in UP or HELD is taken to BINDOFF, marked; one in TRAINING to DISABLED (R71). -/
theorem State.portEval_disabled (s : State) (p : Nat) :
    (s.portState p = 2 ∨ s.portState p = 4 → (s.portEval p false).portState p = 3 ∧ ((s.portEval p false).port p).marked = true) ∧
      (s.portState p = 1 → (s.portEval p false).portState p = 0) := by
  refine ⟨fun h => ?_, fun h => ?_⟩
  · have heq : s.portEval p false = s.enterBindoff p true := by
      unfold State.portEval
      rcases h with h | h <;> simp [h]
    rw [heq]
    exact s.enterBindoff_port p true
  · have heq : s.portEval p false = s.enterState p 0 := by
      unfold State.portEval
      simp [h]
    rw [heq]
    exact s.enterState_port p 0

/-- Nothing of a port's configuration changes as its state is judged. -/
theorem State.portEn_portEval (s : State) (p : Nat) (en : Bool) :
    (s.portEval p en).fld F.MAC_PORT_CFG_EN p = s.fld F.MAC_PORT_CFG_EN p :=
  ((Steady.refl (Scope.butPort p) s).portEval (Scope.ports_butPort p)).portEn rfl

theorem State.bit_iff (s : State) (f : Fld) (i : Nat) : s.bit f i = true ↔ s.fld f i = 1 := beq_iff_eq

/-- SHUT of one port (Table 16-3). -/
theorem State.shutPort_effect (s : State) (p : Nat) :
    (s.shutPort p).fld F.MAC_PORT_CFG_EN p = 0 ∧ (s.fld F.MAC_PORT_CFG_EN p = 1 →
      (s.portState p = 2 ∨ s.portState p = 4 → (s.shutPort p).portState p = 3 ∧ ((s.shutPort p).port p).marked = true) ∧
        (s.portState p = 1 → (s.shutPort p).portState p = 0)) := by
  have hstate : (s.shutEn p).portState p = s.portState p :=
    ((Steady.refl { Scope.full with cfgs := fun _ => false } s).shutEn rfl).portState rfl
  unfold State.shutPort
  split
  next h =>
    have hev := (s.shutEn p).portEval_disabled p
    rw [hstate] at hev
    refine ⟨?_, fun _ => hev⟩
    rw [State.portEn_portEval]
    exact (Steady.refl Scope.full (s.setFld F.MAC_PORT_CFG_EN p 0)).inForce.portEn rfl |>.trans
      (State.fld_setFld_self s F.MAC_PORT_CFG_EN p 0 (by decide))
  next h =>
    have hlt : s.fld F.MAC_PORT_CFG_EN p < 2 := s.fld_lt F.MAC_PORT_CFG_EN p
    have hne : s.fld F.MAC_PORT_CFG_EN p ≠ 1 := fun e => h ((s.bit_iff _ _).2 e)
    exact ⟨by omega, fun e => absurd e hne⟩

/-- What SHUT reads and writes of one port. -/
def State.portView (s : State) (p : Nat) : BitVec 64 × BitVec 64 × Bool :=
  (s.reg .MAC_PORT_CFG p, s.reg .MAC_PORT_STS p, (s.port p).marked)

theorem State.portView_shutPort (s : State) (p q : Nat) (h : q ≠ p) : (s.shutPort p).portView q = s.portView q := by
  have hs := (Steady.refl (Scope.butShut p) s).shutPort (Scope.ports_butShut p) (Scope.cfgs_butShut p)
  have hq : (Scope.butShut p).ports q = true := bne_iff_ne.2 h
  have hg : (Scope.butShut p).cfgs q = true := bne_iff_ne.2 h
  rw [State.portView, hs.portCfg hg, hs.portSts hq, hs.marked q hq, State.portView]

/-- Ports with one view have the same enable, state and mark. -/
theorem State.portView_eq {s t : State} {p : Nat} (h : s.portView p = t.portView p) :
    s.fld F.MAC_PORT_CFG_EN p = t.fld F.MAC_PORT_CFG_EN p ∧ s.portState p = t.portState p ∧ (s.port p).marked = (t.port p).marked := by
  simp only [State.portView, Prod.mk.injEq] at h
  obtain ⟨hcfg, hsts, hmark⟩ := h
  exact ⟨congrArg (getField · F.MAC_PORT_CFG_EN.lsb F.MAC_PORT_CFG_EN.width) hcfg,
    congrArg (getField · F.MAC_PORT_STS_STATE.lsb F.MAC_PORT_STS_STATE.width) hsts, hmark⟩

/-- SHUT of the ports of a list. -/
theorem State.shutPorts_effect (s : State) {ports : List Nat} (hn : ports.Nodup) {p : Nat} (hp : p ∈ ports) :
    (s.each ports State.shutPort).fld F.MAC_PORT_CFG_EN p = 0 ∧ (s.fld F.MAC_PORT_CFG_EN p = 1 →
      (s.portState p = 2 ∨ s.portState p = 4 →
        (s.each ports State.shutPort).portState p = 3 ∧ ((s.each ports State.shutPort).port p).marked = true) ∧
        (s.portState p = 1 → (s.each ports State.shutPort).portState p = 0)) := by
  obtain ⟨t, ht, he⟩ := State.each_local State.portView State.portView_shutPort hn s hp
  obtain ⟨hen, hst, -⟩ := State.portView_eq ht
  obtain ⟨hen', hst', hmark'⟩ := State.portView_eq he
  rw [hen', hst', hmark', ← hen, ← hst]
  exact t.shutPort_effect p

theorem State.shutPorts_tabs (s : State) (ports : List Nat) : (s.each ports State.shutPort).tabs = s.tabs := by
  refine State.each_induction (P := fun t => t.tabs = s.tabs) ports rfl fun t p ht => ?_
  have hs := (Steady.refl (Scope.butShut p) t).shutPort (Scope.ports_butShut p) (Scope.cfgs_butShut p)
  exact (hs.tabs rfl).trans ht

/-- BINDOFF of a port that is enabled and UP without a fault to take it down first (R71, Table 16-3). -/
theorem State.bindoff_effect (s : State) (p : Nat) (hen : s.fld F.MAC_PORT_CFG_EN p = 1) (hup : s.portState p = 2)
    (hrun : (s.port p).faultRun < s.downDeb p) :
    ((s.requestBindoff p).portEval p true).portState p = 3 ∧ (((s.requestBindoff p).portEval p true).port p).marked = false ∧
      ((s.requestBindoff p).portEval p true).fld F.MAC_PORT_CFG_EN p = 1 := by
  have hreq : s.requestBindoff p = s.setPort p { s.port p with bindoff := true } := if_pos (.inl hup)
  rw [hreq]
  set t := s.setPort p { s.port p with bindoff := true } with ht
  have hport : t.port p = { s.port p with bindoff := true } := by rw [ht, State.port_setPort, if_pos rfl]
  have hdeb : t.downDeb p = s.downDeb p := rfl
  have hstate : t.portState p = 2 := hup
  have heval : t.portEval p true = t.enterBindoff p false := by
    unfold State.portEval
    simp [hstate, hport, hdeb, Nat.not_le.2 hrun]
  refine ⟨?_, ?_, ?_⟩
  · rw [heval]; exact (t.enterBindoff_port p false).1
  · rw [heval]; exact (t.enterBindoff_port p false).2
  · rw [State.portEn_portEval]; exact hen

end Sys2Proof.Machine

/-! PROOFS. The reactions that remove a unit or change the mode (R22, R27, R425, Table 16-3), and FAULT_REACTION as a whole. -/
namespace Sys2Proof.Machine

/-- What the loss of a unit leaves once its power domain has its new state. -/
def Scope.unit : Scope := ⟨true, true, true, false, false, fun _ => false, fun _ => false⟩

/-- What the loss of a unit leaves, its power domain's state included. -/
def Scope.loss : Scope := { Scope.unit with doms := false }

theorem Scope.unit_lossy : Scope.unit.Lossy := ⟨rfl, rfl, fun _ => rfl, fun _ => rfl⟩

theorem Scope.loss_lossy : Scope.loss.Lossy := ⟨rfl, rfl, fun _ => rfl, fun _ => rfl⟩

namespace Steady
variable {c : Scope} {z s t : State}

theorem domState (h : Steady c z t) (hd : c.doms = true) (d : Nat) : t.domState d = z.domState d := by
  unfold State.domState State.fld
  rw [h.part, h.regs .PWR_DOM_STS d (.inr (.inr (.inl ⟨hd, rfl⟩)))]

theorem modeFld (h : Steady c z t) (hm : c.mode = true) {f : Fld} (hf : f.reg ∈ modeRegs) : t.fld f 0 = z.fld f 0 := by
  unfold State.fld
  rw [h.regs f.reg 0 (.inr (.inl ⟨hm, hf⟩))]

end Steady

theorem State.domState_setDom (s : State) (d b : Nat) :
    (s.setDom d 6).domState b = if (absentDomains s.part).contains b then 7 else if b = d then 6 else s.fld F.PWR_DOM_STS_STATE b := by
  show (if (absentDomains s.part).contains b then 7 else (s.setFld F.PWR_DOM_STS_STATE d 6).fld F.PWR_DOM_STS_STATE b) = _
  by_cases hb : b = d
  · subst hb
    rw [if_pos rfl, State.fld_setFld_self _ _ _ _ (by decide)]
    rfl
  · rw [if_neg hb, State.fld_setFld_ne _ _ _ _ _ _ (.inr (.inl (Ne.symm hb)))]

/-- The states of the power domains after one is removed. -/
theorem State.domState_removeDomain (s : State) (d : Nat) :
    (d < 64 → (s.removeDomain d).domState d = if s.domState d = 7 then 7 else 6) ∧
      ∀ b, b ≠ d → (s.removeDomain d).domState b = s.domState b := by
  have hdown (kind dom old new b : Nat) : ((s.domDown d 6).jrnPower kind dom old new).domState b = (s.setDom d 6).domState b :=
    (((Steady.refl _ _).dropUnit Scope.unit_lossy).dropRegs Scope.unit_lossy).jrnPower.domState rfl b
  unfold State.removeDomain
  refine ⟨fun hd => ?_, fun b hb => ?_⟩
  · simp only [Bool.or_eq_true, decide_eq_true_eq]
    split
    next h =>
      rcases h with (h | h) | h
      · rw [h]; rfl
      · rw [h]; rfl
      · omega
    next h =>
      have h7 : s.domState d ≠ 7 := fun e => h (.inl (.inr e))
      rw [hdown, State.domState_setDom, if_pos rfl, if_neg h7]
      have habs : ¬ (absentDomains s.part).contains d := fun e => h7 (if_pos e)
      rw [if_neg habs]
  · dsimp only
    split
    · rfl
    · rw [hdown, State.domState_setDom, if_neg hb]
      rfl

theorem Steady.eachRemoved (s : State) (doms : List Nat) : Steady Scope.loss s (s.each doms State.removeDomain) :=
  (Steady.refl _ s).each doms fun _ _ hu => hu.removeDomain Scope.loss_lossy rfl

/-- Removed units are REMOVED or were absent. -/
theorem State.domState_eachRemoved (s : State) {doms : List Nat} (hn : doms.Nodup) {d : Nat} (hd : d ∈ doms) (hlt : d < 64) :
    (s.each doms State.removeDomain).domState d = if s.domState d = 7 then 7 else 6 := by
  obtain ⟨t, ht, he⟩ := State.each_local State.domState (fun t a => (t.domState_removeDomain a).2) hn s hd
  rw [he, ← ht]
  exact (t.domState_removeDomain d).1 hlt

/-- The device's own change of mode leaves the power domains. -/
theorem State.domState_autoMode (s : State) (m reason d : Nat) : (s.autoMode m reason).domState d = s.domState d :=
  ((Steady.refl { Scope.full with mode := false } s).autoMode m reason rfl).domState rfl d

theorem State.domState_fatalUnit (s : State) (d : Nat) : s.fatalUnit.domState d = s.domState d := by
  unfold State.fatalUnit
  split
  · exact s.domState_autoMode 5 7 d
  · rfl

/-- Loss of units: their domains go, and without a reaction to DEVICE_FATAL due the device goes on in FORWARD-REDUCED (R22, R425). -/
theorem State.loseUnits_effect (u : State) {doms : List Nat} (hn : doms.Nodup) (inj : Bool) :
    (∀ d, d ∈ doms → d < 64 → (u.loseUnits doms inj).domState d = if u.domState d = 7 then 7 else 6) ∧
      (inj = true → (u.loseUnits doms inj).curMode = u.curMode) ∧
      (inj = false → u.curMode = 4 ∨ u.curMode = 6 → (∀ y, y ∈ u.flt.react → ¬ (y.block = 0 ∧ y.src = 4)) →
        (u.loseUnits doms inj).curMode = 5 ∧ (u.loseUnits doms inj).fld F.GLB_MODE_PREV 0 = u.curMode ∧
          (u.loseUnits doms inj).fld F.GLB_MODE_REASON 0 = 7) := by
  have hrem := Steady.eachRemoved u doms
  have hmode : (u.each doms State.removeDomain).curMode = u.curMode := hrem.modeFld rfl (by decide)
  unfold State.loseUnits State.when
  refine ⟨fun d hd hlt => ?_, fun hi => ?_, fun hi hcur hno => ?_⟩
  · split
    · rw [State.domState_fatalUnit, u.domState_eachRemoved hn hd hlt]
    · exact u.domState_eachRemoved hn hd hlt
  · rw [hi, if_neg (by decide)]
    exact hmode
  · have hnone : (u.each doms State.removeDomain).flt.react.any (fun r => r.block == 0 && r.src == 4 && !r.injected &&
        (u.each doms State.removeDomain).reactDue r) = false := by
      refine List.any_eq_false.2 fun x hx he => ?_
      simp only [Bool.and_eq_true, beq_iff_eq, State.reactDue, bne_iff_ne] at he
      obtain ⟨⟨hid, -⟩, ⟨-, htick⟩, -⟩ := he
      rcases hrem.react x hx with h | h
      · exact hno x h hid
      · exact htick (h.trans hrem.tikCount.symm)
    have hauto : (u.each doms State.removeDomain).fatalUnit = (u.each doms State.removeDomain).autoMode 5 7 := by
      unfold State.fatalUnit
      rw [hnone, hmode, if_pos ⟨hcur, rfl⟩]
    obtain ⟨hc, hprev, -, hreason, -, -⟩ := (u.each doms State.removeDomain).fld_autoMode 5 7
    rw [hi, if_pos (by decide), hauto]
    exact ⟨hc, hprev.trans hmode, hreason⟩

end Sys2Proof.Machine

/-! PROOFS. FAULT_REACTION (R382 to R384, Table 16-3). -/
namespace Sys2Proof.Machine

theorem State.react_flush (u : State) {r : React} (hb : r.block = 14) (hs : r.src = 2) :
    u.react r = u.flushQueue (r.inst * 65536 + r.info.toNat % 2 ^ 32) := by simp only [State.react, hb, hs]

/-- The ports that a reaction names: the one it is about, or those of its octet. -/
def React.ports (r : React) : List Nat :=
  if r.src = 2 ∨ r.block = 21 then [r.inst] else (List.range 8).map (8 * r.inst + ·)

theorem React.nodup_ports (r : React) : r.ports.Nodup := by
  unfold React.ports
  split
  · exact List.nodup_singleton _
  · exact List.nodup_range.map fun a b h => by simpa using h

/-- SHUT, of the blocks that have it. -/
theorem State.react_shut (u : State) {r : React} (h : (r.block, r.src) ∈ [(19, 0), (19, 1), (21, 0)]) :
    u.react r = u.portReact r.withheld r.ports true := by
  simp only [List.mem_cons, Prod.mk.injEq, List.not_mem_nil, or_false] at h
  rcases h with ⟨hb, hs⟩ | ⟨hb, hs⟩ | ⟨hb, hs⟩ <;> simp [State.react, React.ports, hb, hs]

theorem State.react_bindoff (u : State) {r : React} (hb : r.block = 20) (hs : r.src = 2) :
    u.react r = u.portReact r.withheld [r.inst] false := by simp only [State.react, hb, hs]

/-- A reaction of a port that was withheld does nothing (R32, R382). -/
theorem State.react_withheld (u : State) {r : React} (h : (r.block, r.src) ∈ [(19, 0), (19, 1), (20, 2), (21, 0)])
    (hw : r.withheld = true) : u.react r = u := by
  have hport (ports : List Nat) (shut : Bool) : u.portReact r.withheld ports shut = u := if_pos hw
  simp only [List.mem_cons, Prod.mk.injEq, List.not_mem_nil, or_false] at h
  rcases h with ⟨hb, hs⟩ | ⟨hb, hs⟩ | ⟨hb, hs⟩ | ⟨hb, hs⟩ <;> simp only [State.react, hb, hs, hport]

/-- The reactions that remove units. -/
theorem State.react_units (u : State) {r : React} {doms : List Nat}
    (h : (r.block = 0 ∧ r.src = 3 ∧ doms = (List.range 4).map (fun j => 16 + (r.inst - 16) / 4 * 4 + j)) ∨
      (r.block = 2 ∧ r.src = 4 ∧ doms = [r.inst]) ∨ (r.block = 17 ∧ r.src = 4 ∧ doms = [32 + r.inst])) :
    u.react r = u.loseUnits doms r.injected ∧ doms.Nodup := by
  rcases h with ⟨hb, hs, rfl⟩ | ⟨hb, hs, rfl⟩ | ⟨hb, hs, rfl⟩
  · exact ⟨by simp only [State.react, hb, hs], List.nodup_range.map fun a b h => by simpa using h⟩
  · exact ⟨by simp only [State.react, hb, hs], List.nodup_singleton _⟩
  · exact ⟨by simp only [State.react, hb, hs], List.nodup_singleton _⟩

/-- The reactions that change the mode only: heat, the power cap and DEVICE_FATAL (R22, R425). -/
theorem State.react_mode (u : State) {r : React} {m why : Nat} (h : (r.block = 2 ∧ r.src = 0 ∧ m = 6 ∧ why = 5) ∨
      (r.block = 2 ∧ r.src = 2 ∧ m = 6 ∧ why = 4) ∨ (r.block = 0 ∧ r.src = 4 ∧ m = 3 ∧ why = 6)) :
    (r.injected = true → u.react r = u) ∧
      (r.injected = false → (if m = 6 then u.curMode = 4 ∨ u.curMode = 5 else 4 ≤ u.curMode ∧ u.curMode ≤ 11) →
        u.react r = u.autoMode m why) := by
  rcases h with ⟨hb, hs, rfl, rfl⟩ | ⟨hb, hs, rfl, rfl⟩ | ⟨hb, hs, rfl, rfl⟩ <;>
    refine ⟨fun hi => by simp [State.react, hb, hs, hi, State.when], fun hi hc => ?_⟩
  · have he : u.toEconomy 5 = u.autoMode 6 5 := if_pos (by simpa using hc)
    simp [State.react, hb, hs, hi, State.when, he]
  · have he : u.toEconomy 4 = u.autoMode 6 4 := if_pos (by simpa using hc)
    simp [State.react, hb, hs, hi, State.when, he]
  · have he : u.fatalDevice = u.autoMode 3 6 := if_pos (by simpa using hc)
    simp [State.react, hb, hs, hi, State.when, he]

/-- Settles O54: the reaction is the first one due of its kind, and each row of Table 16-3 has its own law. -/
theorem reactionsFollowAtTheNextEdge : Obligations.ReactionsFollowAtTheNextEdge := by
  unfold Obligations.ReactionsFollowAtTheNextEdge
  intro k src inst s
  refine ⟨exec_faultReaction_none, ?_⟩
  intro l1 l2 r hs h1 hr u i x act ports
  have hact := exec_faultReaction_due hs h1 hr
  obtain ⟨hblock, hsrc, hinst, -, -⟩ := hr
  refine ⟨fun hen => hact.trans (by rw [hen]; rfl), fun hen => ?_⟩
  have hrun : act = .next (u.react r) := hact.trans (by rw [if_pos hen])
  have hi : i = r.inst := hinst.symm
  have hports : ports = r.ports := by
    show (if src.val = 2 ∨ k.val = 21 then [inst.val] else (List.range 8).map (8 * inst.val + ·)) = _
    rw [React.ports, hblock, hsrc, hinst]
  have hmodes : u.curMode = s.curMode := rfl
  have hdoms (d : Nat) : u.domState d = s.domState d := rfl
  clear_value act i ports
  subst hi hports
  refine ⟨⟨_, hrun⟩, ?other, ?module, ?slot, ?flush, ?group, ?seq, ?route, ?spill, ?lag, ?staging, ?withheld, ?shut, ?bindoff,
    ?units, ?mode⟩
  case other => exact fun hn => hrun.trans (congrArg _ (u.react_other (by rw [hblock, hsrc]; exact hn)))
  case module => exact fun hb hs => ⟨_, hrun, u.react_module (hblock.trans hb) (hsrc.trans hs)⟩
  case slot => exact fun hb hs => ⟨_, hrun, u.react_slot (hblock.trans hb) (hsrc.trans hs)⟩
  case flush =>
    intro hb hs
    have hk := u.react_flush (hblock.trans hb) (hsrc.trans hs)
    have hst := (Steady.refl Scope.full u).flushQueue (k := r.inst * 65536 + x)
    obtain ⟨hchain, hwait⟩ := u.queue_flushQueue (r.inst * 65536 + x)
    exact ⟨_, hrun.trans (congrArg _ hk), hchain, hwait, hst.tabs rfl, hst.needles rfl⟩
  case group => exact fun hb hs => ⟨_, hrun, u.react_group (hblock.trans hb) (hsrc.trans hs)⟩
  case seq => exact fun hb hs => ⟨_, hrun, u.react_seq (hblock.trans hb) (hsrc.trans hs)⟩
  case route => exact fun hb hs => ⟨_, hrun, u.react_route (hblock.trans hb) (hsrc.trans hs)⟩
  case spill => exact fun hb hs => ⟨_, hrun, u.react_spill (hblock.trans hb) (hsrc.trans hs)⟩
  case lag => exact fun hb hs hh => ⟨_, hrun, u.react_lag (hblock.trans hb) (hsrc.trans hs) hh⟩
  case staging => exact fun hb hs => ⟨_, hrun, fun c y hc hy => u.react_staging (hblock.trans hb) (hsrc.trans hs) hc hy⟩
  case withheld =>
    exact fun hk hw => hrun.trans (congrArg _ (u.react_withheld (by rw [hblock, hsrc]; exact hk) hw))
  case shut =>
    intro hk hw
    have he : u.react r = u.each r.ports State.shutPort := by
      rw [u.react_shut (by rw [hblock, hsrc]; exact hk), hw]
      rfl
    exact ⟨_, hrun.trans (congrArg _ he), u.shutPorts_tabs _, fun p hp => u.shutPorts_effect r.nodup_ports hp⟩
  case bindoff =>
    intro hb hs hw hen hup hfault
    have he : u.react r = (u.requestBindoff r.inst).portEval r.inst true := by
      rw [u.react_bindoff (hblock.trans hb) (hsrc.trans hs), hw]
      exact if_pos ((u.bit_iff _ _).2 hen)
    exact ⟨_, hrun.trans (congrArg _ he), u.bindoff_effect r.inst hen hup hfault⟩
  case units =>
    intro doms hd
    obtain ⟨he, hn⟩ := u.react_units (by rw [hblock, hsrc]; exact hd)
    obtain ⟨hdom, hinj, hmode⟩ := u.loseUnits_effect hn r.injected
    exact ⟨_, hrun.trans (congrArg _ he), hdom, hinj, hmode⟩
  case mode =>
    intro m why hk
    obtain ⟨hinj, hmode⟩ := u.react_mode (by rw [hblock, hsrc]; exact hk)
    refine ⟨fun hi => hrun.trans (congrArg _ (hinj hi)), fun hi hc => ?_⟩
    obtain ⟨hcur, hprev, hseq, hreason, hauto, hnone⟩ := u.fld_autoMode m why
    have hm : m % 16 = m ∧ why % 256 = why := by omega
    exact ⟨_, hrun.trans (congrArg _ (hmode hi hc)), hcur.trans hm.1, hprev, hreason.trans hm.2, hseq, hauto, hnone⟩

end Sys2Proof.Machine
end

section
/-! PROOFS. What the table work of a tick edge leaves: aging, learning, flushes, commits and the TCAM. -/
namespace Sys2Proof.Machine

/-- What an edge leaves up to the split of duties: everything but tables and ports. -/
def Scope.early : Scope := ⟨true, true, true, true, false, fun _ => false, fun _ => false⟩

namespace Steady
variable {z s t : State}

/-! Time and gauges up to the edge. -/

theorem setTod {c : Scope} (h : Steady c z s) {u : Nat} : Steady c z (s.setTod u) := by
  unfold State.setTod
  extract_lets ns s1
  have h1 : Steady c z s1 := (h.setFld (by decide)).setFld (by decide)
  exact h1.upd rfl rfl

theorem todClocks (h : Steady .early z s) {n : Nat} : Steady .early z (s.todClocks n) := ite (fun _ => h.setTod) fun _ => h

theorem gaugePass (h : Steady .early z s) {n k : Nat} {level : Option Nat} : Steady .early z (s.gaugePass n k level) := by
  unfold State.gaugePass
  extract_lets v w u
  have hu : Steady .early z u := h.gaugeAdd
  exact hu.upd rfl rfl

theorem passClocks (h : Steady .early z s) {n : Nat} : Steady .early z (s.passClocks n) := by
  unfold State.passClocks
  refine ite (fun _ => h) fun _ => ?_
  extract_lets s1
  have h1 : Steady .early z s1 := h.todClocks.each _ fun _ _ hu => hu.gaugePass
  exact h1.upd rfl rfl

/-! Learning. -/

theorem setLearning (h : Steady .early z s) {d : Nat} {v : LearnSt} : Steady .early z (s.setLearning d v) := by
  unfold State.setLearning
  extract_lets s1
  have h1 : Steady .early z s1 := h.upd rfl rfl
  exact (h1.setFld (by decide)).setFld (by decide)

theorem judge (h : Steady .early z s) {d tb loc : Nat} : Steady .early z (s.judge d tb loc) := by
  unfold State.judge
  split
  · exact h
  · refine ite (fun _ => h) fun _ => ite (fun _ => h) fun _ => ite (fun _ => ite (fun _ => h) fun _ => ?_) fun _ => ?_
    · exact (h.setTabs rfl).lkpNotify.lkpCount
    · exact ite (fun _ => h) fun _ => h.setLearning

theorem ageSlice (h : Steady .early z s) {d tb : Nat} : Steady .early z (s.ageSlice d tb) := by
  unfold State.ageSlice
  exact ite (fun _ => (h.foldl _ fun _ _ _ hu => hu.judge).setLearning) fun _ => h

theorem flushSlice (h : Steady .early z s) {d : Nat} : Steady .early z (s.flushSlice d) := by
  unfold State.flushSlice
  extract_lets l
  split
  · exact h
  · exact h.setLearning

theorem queueFlush (h : Steady .early z s) {f : Flush} {auto : Bool} {d : Nat} : Steady .early z (s.queueFlush f auto d).1 := by
  unfold State.queueFlush
  dsimp only
  split_ifs
  · exact h.setLearning
  · exact h
  · exact h.setLearning

theorem startFlush (h : Steady .early z s) {table port : Nat} {static : Bool} {dies : Nat} {chart : Option Nat} {auto : Bool} :
    Steady .early z (s.startFlush table port static dies chart auto) := by
  unfold State.startFlush
  extract_lets f s0 step r
  have hstep (a : State × Nat) (d : Nat) (ha : Steady .early z a.1) : Steady .early z (step a d).1 := by
    unfold step
    split
    · exact ha.queueFlush
    · exact ha
  have h0 : Steady .early z s0 := h.upd rfl rfl
  have hr : Steady .early z r.1 := hstep _ 1 (hstep _ 0 h0)
  clear_value r
  exact hr.upd rfl rfl

theorem flushStart (h : Steady .early z s) {d : Nat} : Steady .early z (s.flushStart d) := h.setLearning

theorem edgeLearn (h : Steady .early z s) {late : Bool} : Steady .early z (s.edgeLearn late) := by
  unfold State.edgeLearn
  extract_lets s1 s2 s3
  have h1 : Steady .early z s1 := ite (fun _ => h) fun _ => h.ageSlice.ageSlice.ageSlice.ageSlice
  have h2 : Steady .early z s2 := h1.flushSlice.flushSlice
  have h3 : Steady .early z s3 := by
    refine Steady.each ?_ _ fun _ _ hu => hu.startFlush
    exact h2.upd rfl rfl
  exact h3.each _ fun _ _ hu => hu.setLearning.flushStart

theorem agerLate (h : Steady .early z s) : Steady .early z s.agerLate := ((h.satFld (by decide)).setBit (by decide)).interrupt.fault

/-- Before the edge the clocks of the tick pass, and aging and learning take their slices. -/
theorem edgeBefore (h : Steady .early z s) {x : EdgeIn} : Steady .early z (s.edgeBefore x) :=
  (h.passClocks.whenever fun _ => h.passClocks.agerLate).edgeLearn

/-! Hardware table writes (R162). -/

theorem sessionEnd (h : Steady .early z s) {d : Nat} {e : HEnt} : Steady .early z (s.sessionEnd d e) := by
  unfold State.sessionEnd
  refine ite (fun _ => h) fun _ => ?_
  extract_lets l s1
  have h1 : Steady .early z s1 := ite (fun _ => h.setLearning) fun _ => h
  exact ite (fun _ => h1.lkpNotify) fun _ => h1

theorem deleteEntry (h : Steady .early z s) {d tb loc : Nat} : Steady .early z (s.deleteEntry d tb loc) := by
  unfold State.deleteEntry
  split
  · exact h
  · have h1 := h.setTabs (v := s.tabs.setSlot d tb loc none) rfl
    exact ite (fun _ => h1.setLearning) fun _ => ite (fun _ => h1.sessionEnd) fun _ => h1

theorem roomFlush (d n : Nat) {r : Room} (h : Steady .early z r.1) : Steady .early z (Room.flush d n r).1 := by
  induction n generalizing r with
  | zero => exact h
  | succ n ih =>
    unfold Room.flush
    extract_lets l
    split
    · extract_lets f pop
      have hpop {u : State} (hu : Steady .early z u) : Steady .early z (pop u) := hu.setLearning
      split
      · exact ih (hpop h)
      · split
        · split
          · exact h
          · exact ih (hpop h).deleteEntry.lkpCount.setLearning
        · exact ih (hpop h)
    · exact h

theorem roomAge (d n : Nat) {r : Room} (h : Steady .early z r.1) : Steady .early z (Room.age d n r).1 := by
  induction n generalizing r with
  | zero => exact h
  | succ n ih =>
    unfold Room.age
    extract_lets l
    split
    · exact h
    · extract_lets s1 s2
      have h1 : Steady .early z s1 := h.setLearning
      split
      · split
        · extract_lets other
          split
          · exact h
          · have h2 : Steady .early z s2 := h1.deleteEntry.lkpCount
            clear_value other
            split
            · exact ih h2
            · exact ih h2.deleteEntry.lkpCount
        · exact ih h1.lkpCount
      · exact ih h1.lkpCount

theorem retryDone (h : Steady .early z s) {d : Nat} {e : LEvent} {b : Bool} : Steady .early z (s.retryDone d e b) :=
  h.whenever fun _ => h.setLearning

theorem learnFail (h : Steady .early z s) {d : Nat} {e : LEvent} {b : Bool} : Steady .early z (s.learnFail d e b) := by
  unfold State.learnFail
  extract_lets s1 s2
  have h2 : Steady .early z s2 := ite (fun _ => h.lkpCount.lkpNotify) fun _ => h.lkpCount
  exact ite (fun _ => ite (fun _ => h2.setLearning.lkpCount) fun _ => h2.setLearning) fun _ => h2

theorem noteMove (h : Steady .early z s) {d tb src dst : Nat} {key : Bytes} : Steady .early z (s.noteMove d tb src dst key) :=
  h.setLearning

theorem runPath (h : Steady .early z s) {d tb : Nat} {path : List Nat} {new : HEnt} : Steady .early z (s.runPath d tb path new) := by
  unfold State.runPath
  extract_lets s1 l s2
  have h1 : Steady .early z s1 := h.foldl _ fun _ _ _ hu => by
    split
    · exact hu.noteMove
    · exact hu
  have h2 : Steady .early z s2 := h1.setLearning
  exact (h2.setTabs rfl).lkpCount

theorem setStat (h : Steady .early z s) {i : Nat} {v : Nat × Nat} : Steady .early z (s.setStat i v) := h.upd rfl rfl

theorem applyPlan (h : Steady .early z s) {d sid : Nat} {p : LPlan} : Steady .early z (s.applyPlan d p sid) := by
  unfold State.applyPlan
  extract_lets tb stamp idx src new s1
  refine ite (fun _ => ?_) fun _ => ite (fun _ => h.runPath.lkpCount) fun _ => ?_
  · split
    · exact h.runPath.lkpCount
    · exact h
  · have h1 : Steady .early z s1 := h.runPath.setStat
    exact h1.setLearning.lkpCount

theorem roomLearn (d n : Nat) {r : Room} (h : Steady .early z r.1) : Steady .early z (Room.learn d n r).1 := by
  induction n generalizing r with
  | zero => exact h
  | succ n ih =>
    unfold Room.learn
    extract_lets l
    split
    · exact h
    · extract_lets popped stands s1
      have h1 : Steady .early z s1 := ite (fun _ => h.setLearning) fun _ => h.setLearning.lkpCount
      clear_value s1
      split
      · exact ih h1.lkpCount.retryDone
      · exact ih (Steady.upd (s := s1.retryDone d _ _) h1.retryDone rfl rfl)
      · exact ih h1.learnFail
      · split
        · exact h1.setLearning
        · split
          · split
            · exact ih h1.lkpCount.learnFail
            · exact ih h1.applyPlan
          · exact ih h1.applyPlan.retryDone

theorem sweepEnd (h : Steady .early z s) {d : Nat} : Steady .early z (s.sweepEnd d) := by
  unfold State.sweepEnd
  extract_lets l s1
  have h1 : Steady .early z s1 := h.setLearning
  split
  · exact h
  · exact ite (fun _ => h1.upd rfl rfl) fun _ => h

end Steady
end Sys2Proof.Machine

/-! PROOFS. What a tick edge's commits and its care of the TCAM leave. -/
namespace Sys2Proof.Machine
namespace Steady
variable {z s t : State}

/-- The hardware table writes, but for the mark that they have been made. -/
theorem hwWrites (h : Steady .early z s) :
    ∃ t, Steady .early z t ∧ s.hwWrites = { t with tick := { t.tick with hwDone := true } } := by
  unfold State.hwWrites
  extract_lets n r0 r1 r2 r3 g s1
  have hg (t : State) (d : Nat) (ht : Steady .early z t) : Steady .early z (g t d) := ht.gauge!
  have h3 : Steady .early z r3.1 := roomLearn _ _ (roomLearn _ _ (roomAge _ _ (roomAge _ _ (roomFlush _ _ (roomFlush _ _ h)))))
  have h1 : Steady .early z s1 := (hg _ 1 (hg _ 0 h3)).sweepEnd.sweepEnd
  exact ⟨s1, h1, rfl⟩

/-! Commits (R49 to R55). -/

theorem commitRefuse (h : Steady .early z s) {k st : Nat} {x : Ctx} : Steady .early z (s.commitRefuse k x st) :=
  (h.setCtx.bump (by decide)).chartFail

theorem setMeter (h : Steady .early z s) {i : Nat} {m : Meter} : Steady .early z (s.setMeter i m) := h.upd rfl rfl
theorem setTslot (h : Steady .early z s) {i : Nat} {m : TSlot} : Steady .early z (s.setTslot i m) := h.upd rfl rfl
theorem setTval (h : Steady .early z s) {i : Nat} {m : TVal} : Steady .early z (s.setTval i m) := h.upd rfl rfl
theorem setAction (h : Steady .early z s) {i : Nat} {m : BitVec 64} : Steady .early z (s.setAction i m) := h.setTabs rfl
theorem setValid (h : Steady .early z s) {i : Nat} {b : Bool} : Steady .early z (s.setValid i b) := h.setTval

theorem writeEntry (h : Steady .early z s) {i : Nat} {value care : Bytes} {action : BitVec 64} {val : Bool} :
    Steady .early z (s.writeEntry i value care action val) := by
  unfold State.writeEntry
  extract_lets s1 s2
  have h1 : Steady .early z s1 := h.each _ fun _ _ hu => hu.setTslot
  exact ite (fun _ => h1.setAction.setValid) fun _ => h1.setAction

theorem applyWrite (h : Steady .early z s) {w : CWrite} {plans : List CPlan} : Steady .early z (s.applyWrite w plans).1 := by
  cases w with
  | direct k i d => exact ite (fun _ => (h.setTabs rfl).each _ fun _ _ hu => hu.setPipe) fun _ => h.setTabs rfl
  | meter i v => exact h.setMeter
  | stat i p b => exact h.setStat
  | group d i v => exact h.setTabs rfl
  | insert d tb key words hw =>
    cases plans with
    | nil => exact h
    | cons p r => exact h.runPath
  | delete d tb key =>
    simp only [State.applyWrite]
    split
    · exact h.deleteEntry
    · exact h
  | twr i v k a val => exact h.each _ fun _ _ hu => hu.writeEntry
  | tinv i => exact h.each _ fun _ _ hu => hu.setValid
  | tval i => exact h.each _ fun _ _ hu => hu.setValid
  | tact i a => exact h.each _ fun _ _ hu => hu.setAction
  | pivot i v => exact h.setTabs rfl

theorem applyWrites (h : Steady .early z s) (l : List CWrite) (plans : List CPlan) : Steady .early z (s.applyWrites l plans) := by
  induction l generalizing s plans with
  | nil => exact h
  | cons w l ih => exact ih h.applyWrite _

theorem chartDone (h : Steady .early z s) {k : Nat} : Steady .early z (s.chartDone k) := by
  unfold State.chartDone
  split
  · exact h
  · extract_lets x s1
    have h1 : Steady .early z s1 := (h.bump (by decide)).setCtx
    exact ite (fun _ => h1.chartEnd) fun _ => ite (fun _ => h1.chartFail) fun _ => h1

theorem commitApplied (h : Steady .early z s) {x : Commit} {plans : List CPlan} {n : Nat × Nat} :
    Steady .early z (s.commitApplied x plans n) := by
  unfold State.commitApplied
  extract_lets s1 w s2 s3 s4
  have h1 : Steady .early z s1 := h.applyWrites _ _
  have h2 : Steady .early z s2 := Steady.setReg (h1.upd (t := { s1 with wrote := w }) rfl rfl) (by decide)
  have h4 : Steady .early z s4 := (h2.gauge!.gauge!.bump (by decide)).bump (by decide)
  split
  · exact h4
  · exact h4.setCtx.chartDone

theorem takeCommits (h : Steady .early z s) (stop : Bool) (l : List Commit) : Steady .early z (s.takeCommits stop l).1 := by
  induction l generalizing s stop with
  | nil => exact h
  | cons x l ih =>
    unfold State.takeCommits
    extract_lets later deferred
    have hdef {t : State} (ht : Steady .early z t) : Steady .early z (deferred t).1 := ih (ht.satFld (by decide)) true
    split
    · exact hdef h
    · split
      · refine ih ?_ false
        split
        · exact h.commitRefuse
        · exact h
      · exact hdef ((h.whenever fun _ => h.tcmCount).whenever fun _ => (h.whenever fun _ => h.tcmCount).tcmCount)
      · exact ih h.commitApplied false

theorem edgeCommits (h : Steady .early z s) : Steady .early z s.edgeCommits := by
  unfold State.edgeCommits
  extract_lets due rest chart r
  have h0 : Steady .early z { s with chart := { s.chart with commits := [] } } := h.upd rfl rfl
  have hr : Steady .early z r.1 := h0.takeCommits false due
  clear_value r
  exact hr.upd rfl rfl

/-! The TCAM (R185 to R206). -/

theorem scrubFound (h : Steady .early z s) {d i : Nat} {f : ScrubFind} : Steady .early z (s.scrubFound d i f) := by
  cases f with
  | fixed => exact h.tcmCount.fault
  | lost => exact (h.setValid.setFld (by decide)).tcmCount.fault

theorem edgeScrub (h : Steady .early z s) {x : EdgeIn} {d : Nat} : Steady .early z (s.edgeScrub x d) := by
  unfold State.edgeScrub
  extract_lets n k in_ s0 s1
  refine ite (fun _ => h) fun _ => ?_
  have h0 : Steady .early z s0 := h.upd rfl rfl
  have h1 : Steady .early z s1 := h0.foldl _ fun _ _ _ hu => ite (fun _ => hu.scrubFound) fun _ => hu
  exact (h1.setFld (by decide)).whenever fun _ => (h1.setFld (by decide)).setFld (by decide)

theorem setTwinState (h : Steady .early z s) {q v : Nat} : Steady .early z (s.setTwinState q v) :=
  (h.setFld (by decide)).setFld (by decide)

theorem copyRow (h : Steady .early z s) {q k r : Nat} : Steady .early z (s.copyRow q k r) :=
  h.each _ fun _ _ hu => hu.setTslot.setTval.setTabs rfl

theorem edgeTwin (h : Steady .early z s) {q : Nat} : Steady .early z (s.edgeTwin q) := by
  unfold State.edgeTwin
  extract_lets en w
  refine ite (fun _ => h) fun _ => ?_
  split
  · exact ite (fun _ => h.setTwinState.setTwin) fun _ => h
  · exact ite (fun _ => (h.foldl _ fun _ _ _ hu => hu.copyRow).setTwin) fun _ => h.setTwinState.setTwin
  · exact ite (fun _ => h) fun _ => h.setTwinState.setTwin
  · exact h.setTwin

theorem edgeTables (h : Steady .early z s) {x : EdgeIn} : Steady .early z (s.edgeTables x) := by
  have hseeds : Steady .early z s.edgeSeeds := h.setTabs rfl
  have hval : Steady .early z s.edgeSeeds.edgeTcamValidity := hseeds.upd rfl rfl
  exact (hval.each _ fun _ _ hu => hu.edgeTwin).edgeScrub.edgeScrub

theorem edgeForce {c : Scope} (h : Steady c z s) : Steady c z s.edgeForce := h.upd rfl rfl

/-! The edge itself: stamps and the follower. -/

theorem edgeStamps (h : Steady .early z s) {k : BitVec 64} : Steady .early z (s.edgeStamps k) := by
  unfold State.edgeStamps
  extract_lets s1
  have h1 : Steady .early z s1 := h.foldl _ fun _ _ _ hu => by
    dsimp only
    split
    · exact hu
    · split
      · exact hu
      · exact hu.setTabs rfl
  exact h1.upd rfl rfl

theorem lockStatus (h : Steady .early z s) {err : Int} : Steady .early z (s.lockStatus err) := by
  unfold State.lockStatus
  extract_lets n step s1
  have h1 : Steady .early z s1 := (h.setFld (by decide)).whenever fun _ => (h.setFld (by decide)).syncStatus (by decide)
  exact ite (fun _ => h.setFld (by decide)) fun _ => h1.whenever fun _ => h1.syncStatus (by decide)

theorem edgeFollow (h : Steady .early z s) : Steady .early z s.edgeFollow := by
  unfold State.edgeFollow
  extract_lets s1
  have h1 : Steady .early z s1 := by
    unfold s1
    split
    · exact h.lockStatus
    · exact h
  exact ite (fun _ => h1.whenever fun _ => h1.syncStatus (by decide)) fun _ => h

end Steady
end Sys2Proof.Machine

/-! PROOFS. What the rest of a tick edge leaves, after the split of duties: the tick's length and the registers of the split. -/
namespace Sys2Proof.Machine

/-- What every part of an edge leaves. -/
def Scope.late : Scope := ⟨false, false, false, false, false, fun _ => false, fun _ => false⟩

theorem Scope.late_lossy : Scope.late.Lossy := ⟨rfl, rfl, fun _ => rfl, fun _ => rfl⟩

namespace Steady
variable {z s t : State}

/-! The mode, the power domains and the throttle level. -/

theorem edgeGo (h : Steady .late z s) : Steady .late z s.edgeGo := h.upd rfl rfl

theorem edgeMode (h : Steady .late z s) : Steady .late z s.edgeMode := by
  unfold State.edgeMode
  extract_lets pwr s1 u
  have h1 : Steady .late z s1 := h.upd rfl rfl
  have hu : Steady .late z u := h1.flushAll
  clear_value s1
  refine ite (fun _ => h1) fun _ => ite (fun _ => h1.setMode rfl) fun _ => ite (fun _ => ?_) fun _ => ite (fun _ => ?_) fun _ => h1
  · exact hu.upd rfl rfl
  · exact h1.upd rfl rfl

theorem stepDomain (h : Steady .late z s) {bad : List Nat} {d : Nat} : Steady .late z (s.stepDomain bad d) := by
  unfold State.stepDomain
  extract_lets count tgt
  have hcount : Steady .late z (count s) := h.upd rfl rfl
  split
  · exact hcount
  · exact ite (fun _ => (h.removeDomain Scope.late_lossy rfl).fault) fun _ => h.setDom rfl
  · exact ite (fun _ => h) fun _ => (h.whenever fun _ => h.zeroOctet).setDom rfl
  · exact hcount
  · exact ite (fun _ => h.upd rfl rfl) fun _ => h
  · exact h

theorem edgeDomains (h : Steady .late z s) {bad : List Nat} : Steady .late z (s.edgeDomains bad) :=
  (h.each _ fun _ _ hu => hu.stepDomain).each _ fun _ _ hu => hu.setDom rfl

theorem copyLag (h : Steady .late z s) {m n : Nat} : Steady .late z (s.copyLag m n) :=
  (h.each _ fun _ _ hu => hu.setReg (by decide)).each _ fun _ _ hu => hu.setReg (by decide)

theorem edgePower (h : Steady .late z s) {bad : List Nat} : Steady .late z (s.edgePower bad) := by
  unfold State.edgePower
  extract_lets was s1
  have h1 : Steady .late z s1 := h.edgeDomains
  clear_value was
  split
  · exact h1
  · exact h1.each _ fun _ _ hu => hu.copyLag

theorem edgeLevel (h : Steady .late z s) : Steady .late z s.edgeLevel := by
  unfold State.edgeLevel
  refine Steady.applyLevel ?_
  exact h.upd rfl rfl

theorem edgeLag (h : Steady .late z s) : Steady .late z s.edgeLag := by
  unfold State.edgeLag
  extract_lets s1
  have h1 : Steady .late z s1 := h.foldl _ fun _ _ _ hu => hu.each _ fun _ _ hv =>
    ite (fun _ => hv.setReg (by decide)) fun _ => hv.setReg (by decide)
  exact h1.upd rfl rfl

/-! Refills, timers and SyncE. -/

theorem refillRegs (h : Steady .late z s) {shp tok : Reg} (ht : tok ∉ heldRegs) : Steady .late z (s.refillRegs shp tok) :=
  h.each _ fun _ _ hu => hu.setReg ht

theorem refillLeaves (h : Steady .late z s) {d : Nat} : Steady .late z (s.refillLeaves d) := by
  unfold State.refillLeaves
  extract_lets b0 buf s1
  have h1 : Steady .late z s1 := ite (fun _ => h) fun _ => h.setBuf
  exact h1.each _ fun _ _ hu => hu.setQueue

theorem edgeShapers (h : Steady .late z s) : Steady .late z s.edgeShapers :=
  (((h.refillRegs (by decide)).refillRegs (by decide)).refillRegs (by decide)).each _ fun _ _ hu => hu.refillLeaves

theorem edgeResponders (h : Steady .late z s) : Steady .late z s.edgeResponders := h.each _ fun _ _ hu => hu.setPipe

theorem losFld_free (i : Nat) : (losFld i).reg ∉ heldRegs := by unfold losFld; split_ifs <;> decide

theorem losStFld_free (i : Nat) : (losStFld i).reg ∉ heldRegs := by unfold losStFld; split_ifs <;> decide

theorem synceBack (h : Steady .late z s) {i : Nat} : Steady .late z (s.synceBack i) := (h.setFld (losFld_free i)).upd rfl rfl

theorem synceLost (h : Steady .late z s) {i : Nat} : Steady .late z (s.synceLost i) :=
  ite (fun _ => h) fun _ => ((h.setFld (losFld_free i)).setFld (losStFld_free i)).faultLasting

theorem edgeSynceOne (h : Steady .late z s) {i : Fin 2} : Steady .late z (s.edgeSynceOne i) := by
  unfold State.edgeSynceOne
  extract_lets lane moved s1
  have h1 : Steady .late z s1 := ite (fun _ => h) fun _ => ite (fun _ => h.synceBack) fun _ => h.synceLost
  exact ite (fun _ => h1.emit.emit) fun _ => h1

theorem setBfd (h : Steady .late z s) {k : Nat} {b : BfdSt} : Steady .late z (s.setBfd k b) := by
  unfold State.setBfd
  refine Steady.setFld ?_ (by decide)
  exact h.upd rfl rfl

theorem edgeBfd (h : Steady .late z s) {fresh : Bool} {k : Nat} : Steady .late z (s.edgeBfd fresh k) := by
  unfold State.edgeBfd
  exact ite (fun _ => ite (fun _ => h) fun _ => (h.setFld (by decide)).setBfd) fun _ =>
    ite (fun _ => (h.setFld (by decide)).setBfd) fun _ =>
    ite (fun _ => h.setBfd) fun _ => ite (fun _ => h) fun _ => h.setBfd

theorem edgeTimers (h : Steady .late z s) {was : Nat} : Steady .late z (s.edgeTimers was) := by
  unfold State.edgeTimers
  extract_lets listed run s1
  have h1 : Steady .late z s1 := h.each _ fun _ _ hu => hu.edgeBfd
  exact h1.each _ fun _ _ hu => ite (fun _ => hu.upd rfl rfl) fun _ => hu.upd rfl rfl

theorem edgeRefill (h : Steady .late z s) {was : Nat} {old : SMap (BitVec 64)} : Steady .late z (s.edgeRefill was old) := by
  have hm : Steady .late z (s.withForce old).edgeMeters := h.upd rfl rfl
  exact hm.edgeShapers.edgeResponders.edgeSynceOne.edgeSynceOne.edgeTimers.edgeForce

/-! HBM stacks and resequencing. -/

theorem setHbc (h : Steady .late z s) {k : Nat} {v : HbcSt} : Steady .late z (s.setHbc k v) := h.upd rfl rfl

theorem quiesce (h : Steady .late z s) {k : Nat} : Steady .late z (s.quiesce k) := (h.setFld (by decide)).setFld (by decide)

theorem startChange (h : Steady .late z s) {k u : Nat} : Steady .late z (s.startChange k u) := (h.quiesce.setFld (by decide)).setHbc

theorem decideSpeed (h : Steady .late z s) {k u : Nat} : Steady .late z (s.decideSpeed k u) :=
  ite (fun _ => h.startChange) fun _ => (h.setFld (by decide)).setFld (by decide)

theorem startWake (h : Steady .late z s) {k : Nat} : Steady .late z (s.startWake k) :=
  ((h.setFld (by decide)).setFld (by decide)).emit.setHbc

theorem edgeStack (h : Steady .late z s) {k : Nat} : Steady .late z (s.edgeStack k) := by
  unfold State.edgeStack
  extract_lets x s1 s2
  have h1 : Steady .late z s1 := h.setHbc
  have h2 : Steady .late z s2 := by
    unfold s2
    split
    · exact h1.decideSpeed
    · exact h1
  exact ite (fun _ => h2.startWake) fun _ => ite (fun _ => h2.startChange) fun _ => h2

theorem edgeHbc (h : Steady .late z s) : Steady .late z s.edgeHbc :=
  (h.each _ fun _ _ hu => hu.setHbc).each _ fun _ _ hu => hu.edgeStack

theorem releaseSeq (h : Steady .late z s) {k id : Nat} : Steady .late z (s.releaseSeq k id) := by
  unfold State.releaseSeq
  split
  · exact h.setCopy.setBuf
  · exact h

theorem setHeld (h : Steady .late z s) {k : Nat} {l : List Held} : Steady .late z (s.setHeld k l) := by
  unfold State.setHeld
  refine Steady.setFld ?_ (by decide)
  exact h.upd rfl rfl

theorem unmarkSeq (h : Steady .late z s) {k : Nat} : Steady .late z (s.unmarkSeq k) := h.setFld (by decide)

theorem runSeq (h : Steady .late z s) {k : Nat} (n : Nat) : Steady .late z (s.runSeq k n) := by
  induction n generalizing s with
  | zero => exact h
  | succ n ih =>
    unfold State.runSeq
    extract_lets next
    split
    · exact h
    · exact ih (h.setHeld.unmarkSeq.setFld (by decide)).releaseSeq

theorem skipTo (h : Steady .late z s) {k lim : Nat} : Steady .late z (s.skipTo k lim) := by
  unfold State.skipTo
  extract_lets next near order s1 s2
  have h1 : Steady .late z s1 := h.setHeld.whenever fun _ => h.setHeld.unmarkSeq
  have h2 : Steady .late z s2 := h1.foldl _ fun _ _ _ hu => hu.releaseSeq
  exact (h2.setFld (by decide)).yrnCount

theorem closeGap (h : Steady .late z s) {k : Nat} : Steady .late z (s.closeGap k) :=
  ite (fun _ => h) fun _ => (h.skipTo.runSeq _).yrnCount.unmarkSeq

theorem edgeReseq (h : Steady .late z s) : Steady .late z s.edgeReseq := by
  unfold State.edgeReseq
  extract_lets s1
  have h1 : Steady .late z s1 := by
    refine Steady.foldl ?_ _ fun _ _ _ hu => ite (fun _ => hu.closeGap) fun _ => hu
    exact h.upd rfl rfl
  exact h1.upd rfl rfl

/-! Ports, counts and timers. -/

theorem edgeLink (h : Steady .late z s) {p : Nat} : Steady .late z (s.edgeLink p) := by
  unfold State.edgeLink
  extract_lets q ok off s1
  have h1 : Steady .late z s1 := h.setFreePort rfl
  exact ite (fun _ => h1.setPortFld rfl (by rfl)) fun _ => h1

theorem laneRates (h : Steady .late z s) {p : Nat} : Steady .late z (s.laneRates p) := h.each _ fun _ _ hu => hu.setFld (by decide)

theorem edgePorts (h : Steady .late z s) : Steady .late z s.edgePorts :=
  ((h.each _ fun _ _ hu => hu.edgeLink.portEval rfl).each _ fun _ _ hu => hu.laneRates).each _ fun _ _ hu => hu.laneRates

theorem thawCounter (h : Steady .late z s) {i : Nat} : Steady .late z (s.thaw .GGE_CNT i) := by
  unfold State.thaw
  extract_lets k p gauge s1
  have h1 : Steady .late z s1 := h.upd rfl rfl
  rw [if_pos rfl]
  exact ite (fun _ => h1.pend) fun _ => h1.gaugeAdd

theorem edgeFreeze (h : Steady .late z s) : Steady .late z s.edgeFreeze :=
  ite (fun _ => (h.setFld (by decide)).each _ fun _ _ hu => ite (fun _ => hu) fun _ => hu.thawCounter) fun _ => h.setFld (by decide)

theorem edgeJournal (h : Steady .late z s) : Steady .late z s.edgeJournal := by
  unfold State.edgeJournal
  exact ite (fun _ => h.upd rfl rfl) fun _ => h.upd rfl rfl

theorem edgeTod (h : Steady .late z s) : Steady .late z s.edgeTod := by
  unfold State.edgeTod
  extract_lets tim s1 s2 s3
  have h1 : Steady .late z s1 := h.upd rfl rfl
  have h2 : Steady .late z s2 := ite (fun _ => h1.setTod) fun _ => h1
  have h3 : Steady .late z s3 := ite (fun _ => h2.setTod) fun _ => h2
  clear_value s3
  exact h3.upd rfl rfl

theorem edgeScan (h : Steady .late z s) : Steady .late z s.edgeScan := by
  unfold State.edgeScan
  extract_lets s1 cmb s2
  have h1 : Steady .late z s1 := ite (fun _ => h.setFld (by decide)) fun _ => h
  clear_value s1
  have h2 : Steady .late z s2 := h1.upd rfl rfl
  exact ite (fun _ => h1.upd rfl rfl) fun _ => ite (fun _ => h1) fun _ => h2.whenever fun _ => (h2.setFld (by decide)).fault

theorem edgeCages (h : Steady .late z s) {n : Nat} : Steady .late z (s.edgeCages n) := by
  unfold State.edgeCages
  refine Steady.edgeScan ?_
  exact h.upd rfl rfl

/-- The heartbeat count, of which the tick's length is no part. -/
theorem edgeBeat (h : Steady .late z s) : Steady .late z s.edgeBeat :=
  h.trans ⟨rfl, fun _ _ _ => rfl, fun _ hx => .inl hx, rfl, nofun, fun _ => rfl, fun _ => rfl, fun _ => rfl, fun _ => rfl,
    fun _ _ => rfl⟩

theorem edgeHold (h : Steady .late z s) : Steady .late z s.edgeHold := h.each _ fun _ _ hu => hu.setFld (by decide)

theorem edgeLanes (h : Steady .late z s) {x : EdgeIn} : Steady .late z (s.edgeLanes x) :=
  h.foldl _ fun u _ _ hu => by
    extract_lets l prbs t1 t2
    have h2 : Steady .late z t2 := ite (fun _ => hu.setFld (by decide)) fun _ => (hu.setFld (by decide)).setFld (by decide)
    exact h2.whenever fun _ => h2.satFld (by decide)

theorem edgeFec (h : Steady .late z s) {x : EdgeIn} : Steady .late z (s.edgeFec x) :=
  h.foldl _ fun _ _ _ hu => ite (fun _ => hu.macCount.macCount.each _ fun _ _ hv => hv.fault) fun _ => hu

theorem edgeAvs (h : Steady .late z s) {b : Bool} : Steady .late z (s.edgeAvs b) := by
  unfold State.edgeAvs
  exact ite (fun _ => h) fun _ => h.upd rfl rfl

theorem edgeTemp (h : Steady .late z s) {tj : BitVec 8} : Steady .late z (s.edgeTemp tj) :=
  ite (fun _ => (h.setFld (by decide)).setFld (by decide)) fun _ => h.setFld (by decide)

theorem edgeBoot (h : Steady .late z s) : Steady .late z s.edgeBoot := by
  unfold State.edgeBoot
  extract_lets s1
  have h1 : Steady .late z s1 := ite (fun _ => (h.setFld (by decide)).setFld (by decide)) fun _ => h
  clear_value s1
  exact h1.upd rfl rfl

theorem edgeDebug (h : Steady .late z s) : Steady .late z s.edgeDebug := by
  unfold State.edgeDebug
  split
  next => exact h
  next l _ =>
    extract_lets s1
    have h1 : Steady .late z s1 := h.whenever fun _ => h.each _ fun _ _ hu => hu.zeroOctet
    clear_value s1
    exact (h1.setFld (f := F.SEC_DBG_STS_LEVEL) (i := 0) (v := l) (by decide)).upd rfl rfl

theorem edgeChart (h : Steady .late z s) : Steady .late z s.edgeChart := h.upd rfl rfl

theorem edgeCounts (h : Steady .late z s) {x : EdgeIn} {n : Nat} : Steady .late z (s.edgeCounts x n) :=
  h.edgeFreeze.edgePorts.edgeReseq.edgeHbc.edgeHold.edgeBeat.edgeCages.edgeTod.edgeJournal.edgeChart.edgeDebug.edgeBoot.edgeTemp
    |>.edgeAvs.edgeFec.edgeLanes

/-! The host side. -/

theorem writeIndex (h : Steady .late z s) {cq : Bool} {g : Nat} : Steady .late z (s.writeIndex cq g) := by
  unfold State.writeIndex
  exact ite (fun _ => h) fun _ => ite (fun _ => h.sendTlp.setCq) fun _ => h.sendTlp.setSq

theorem publish (h : Steady .late z s) {n : Nat} {cq : Bool} {g : Nat} : Steady .late z (s.publish n cq g) :=
  ite (fun _ => h.writeIndex) fun _ => h

theorem cqDrain (h : Steady .late z s) {g : Nat} (n : Nat) : Steady .late z (s.cqDrain g n) := by
  induction n generalizing s with
  | zero => exact h
  | succ n ih =>
    unfold State.cqDrain
    split
    · exact h
    · exact ite (fun _ => h) fun _ => ih h.setCq.cqWrite

theorem issueNext (h : Steady .late z s) : Steady .late z s.issueNext := by
  unfold State.issueNext
  split
  · exact Steady.upd (s := s.sendTlp _) h.sendTlp rfl rfl
  · exact h

theorem issueReads (h : Steady .late z s) (n : Nat) : Steady .late z (s.issueReads n) := by
  induction n generalizing s with
  | zero => exact h
  | succ n ih => exact ih h.issueNext

theorem edgeRings (h : Steady .late z s) : Steady .late z s.edgeRings := by
  unfold State.edgeRings
  extract_lets s1
  have h1 : Steady .late z s1 := h.each _ fun _ _ hu => (hu.cqDrain _).publish
  exact (h1.each _ fun _ _ hu => hu.publish).issueReads _

theorem edgeL0p (h : Steady .late z s) : Steady .late z s.edgeL0p := h.upd rfl rfl

theorem edgeClkreq (h : Steady .late z s) {on : Bool} : Steady .late z (s.edgeClkreq on) := h.upd rfl rfl

/-- An edge after the split of duties. -/
theorem edgeRest (h : Steady .late z s) {x : EdgeIn} {was n : Nat} {old : SMap (BitVec 64)} :
    Steady .late z ((((s.edgeRefill was old).edgeCounts x n).edgeL0p.edgeRings).edgeClkreq x.clkreq) :=
  h.edgeRefill.edgeCounts.edgeL0p.edgeRings.edgeClkreq

end Steady
end Sys2Proof.Machine

/-! PROOFS. TICK_EDGE: the count, the clock, the length of the new tick and the split of duties (R34, R35, R40, R45, R47). -/
namespace Sys2Proof.Machine

namespace Steady
variable {c : Scope} {z t : State}

theorem clockFld (h : Steady c z t) {f : Fld} (hf : f.reg ∈ clockRegs) : t.fld f 0 = z.fld f 0 := by
  unfold State.fld
  rw [h.clockReg hf]

theorem tickRole (h : Steady c z t) : t.tickRole = z.tickRole := by
  unfold State.tickRole
  rw [h.clockFld (f := F.TIK_SYNC_ROLE) (by decide)]

theorem correction (h : Steady c z t) (err : Int) : t.correction err = z.correction err := by
  unfold State.correction
  rw [h.clockFld (f := F.TIK_SYNC_LOCK_WIN) (by decide), h.clockFld (f := F.TIK_SYNC_STEP_LIMIT) (by decide),
    h.clockFld (f := F.TIK_SYNC_SLEW) (by decide)]

theorem nextAdjust (h : Steady c z t) (hc : c.tick = true) : t.nextAdjust = z.nextAdjust := by
  unfold State.nextAdjust
  rw [h.tickRole, h.tick hc]
  simp only [h.correction]

theorem nextCount (h : Steady c z t) (hc : c.tick = true) : t.nextCount = z.nextCount := by
  unfold State.nextCount
  rw [h.tickRole, h.tick hc, h.tikCount]

theorem nextTickLen (h : Steady c z t) (hc : c.tick = true) : t.nextTickLen = z.nextTickLen := by
  unfold State.nextTickLen
  rw [h.nextAdjust hc, h.clockFld (f := F.TIK_PERIOD_CLOCKS) (by decide)]

end Steady

/-- Without a correction a tick has its period. -/
theorem tickOf_zero {n : Nat} {step : Bool} (h : 600 ≤ n) : tickOf n 0 step = (n, 0) := by
  have hn : ¬ n < 600 := by omega
  simp [tickOf, hn]

/-- The registers from which the split of duties is computed. -/
def splitRegs : List Reg := [.GLB_SPLIT, .GLB_SPLIT_LOSS, .GLB_HOSTLOSS]

/-- From `z` to `t` the causes of host loss and the registers from which the split of duties is computed have stayed. -/
structure SameSplit (z t : State) : Prop where
  live : t.lossLive = z.lossLive
  regs : ∀ r, r ∈ splitRegs → t.reg r 0 = z.reg r 0

theorem SameSplit.trans {a b c : State} (h : SameSplit a b) (k : SameSplit b c) : SameSplit a c :=
  ⟨k.live.trans h.live, fun r hr => (k.regs r hr).trans (h.regs r hr)⟩

theorem State.lossLive_congr {z t : State} (hlink : t.fld F.PCX_LINK_STS_DL_UP 0 = z.fld F.PCX_LINK_STS_DL_UP 0)
    (hseen : t.tick.linkSeen = z.tick.linkSeen) (hlost : t.tick.pf1Lost = z.tick.pf1Lost)
    (hbeat : t.tick.beatLost = z.tick.beatLost) : t.lossLive = z.lossLive := by
  simp only [State.lossLive, State.lossCause1, State.lossCause3, State.bit, hlink, hseen, hlost, hbeat]

theorem Steady.sameSplit {c : Scope} {z t : State} (h : Steady c z t) (ht : c.tick = true) (hl : c.link = true) : SameSplit z t where
  live := State.lossLive_congr (h.link hl) (by rw [h.tick ht]) (by rw [h.tick ht]) (by rw [h.tick ht])
  regs r hr := h.clockReg (by revert r; decide) 0

/-- The count, the clock and the tick's length after an edge. -/
structure EdgeTaken (z t : State) : Prop where
  count : t.tikCount = z.nextCount
  clock : t.fld F.TIK_CLK_CLK 0 = 0
  len : t.tick.len = z.nextTickLen.1

theorem EdgeTaken.steady {c : Scope} {z s t : State} (h : EdgeTaken z s) (k : Steady c s t) : EdgeTaken z t :=
  ⟨k.tikCount.trans h.count, (k.clockFld (by decide)).trans h.clock, k.len.trans h.len⟩

/-- The count moves on, the clock restarts, and the new tick has its length (R40, R45, R47). -/
theorem State.edgeCount_effect (s : State) : EdgeTaken s s.edgeCount ∧ SameSplit s s.edgeCount := by
  have hfollow := (Steady.refl .early s).edgeFollow
  unfold State.edgeCount
  extract_lets a l s1 tick s2
  have h1 : SameSplit s s1 := by
    refine (hfollow.sameSplit rfl rfl).trans ⟨State.lossLive_congr ?_ rfl rfl rfl, fun r hr => ?_⟩
    · rw [State.fld_setReg, if_neg (by decide), State.fld_setReg, if_neg (by decide)]
    · rw [State.reg_setReg_ne fun e => absurd (e.1 ▸ hr) (by decide), State.reg_setReg_ne fun e => absurd (e.1 ▸ hr) (by decide)]
  have hcount : s1.tikCount = s.nextCount := (State.reg_setReg_ne (by decide)).trans (State.reg_setReg_self _ _ _ _)
  have hclock : s1.fld F.TIK_CLK_CLK 0 = 0 := by
    rw [State.fld, State.reg_setReg_self]
    rfl
  clear_value s1
  have h2 : EdgeTaken s s2 ∧ SameSplit s s2 :=
    ⟨⟨hcount, hclock, rfl⟩, h1.trans ⟨State.lossLive_congr rfl rfl rfl rfl, fun _ _ => rfl⟩⟩
  clear_value s2
  split
  · exact ⟨⟨h2.1.count, h2.1.clock, h2.1.len⟩, h2.2.trans ⟨State.lossLive_congr rfl rfl rfl rfl, fun _ _ => rfl⟩⟩
  · exact h2

/-- The whole of the edge's instant: the stamps, the count, the tags and the commits that come nearer. -/
theorem State.edgeTime_effect (s : State) : EdgeTaken s s.edgeTime ∧ SameSplit s s.edgeTime := by
  have hstamps := (Steady.refl .early s).edgeStamps (k := s.tikCount)
  obtain ⟨htaken, hsame⟩ := (s.edgeStamps s.tikCount).edgeCount_effect
  unfold State.edgeTime
  extract_lets s1 tick chart s2
  have h1 : EdgeTaken s s1 :=
    ⟨htaken.count.trans (hstamps.nextCount rfl), htaken.clock, htaken.len.trans (congrArg Prod.fst (hstamps.nextTickLen rfl))⟩
  have h1' : SameSplit s s1 := (hstamps.sameSplit rfl rfl).trans hsame
  clear_value s1
  have h2 : EdgeTaken s s2 := ⟨h1.count, h1.clock, h1.len⟩
  have h2' : SameSplit s s2 := h1'.trans ⟨State.lossLive_congr rfl rfl rfl rfl, fun _ _ => rfl⟩
  clear_value s2
  have h3 : Steady .early s2 (s2.setReg .TIK_COMMIT_STS 0 0) := (Steady.refl .early s2).setReg (by decide)
  exact ⟨h2.steady h3, h2'.trans (h3.sameSplit rfl rfl)⟩

/-- A host-loss cause that is still present sets LOST again (R35). -/
def State.markLoss (s : State) : State :=
  if s.lossLive && !s.bit F.GLB_HOSTLOSS_LOST 0 then s.hostLoss s.firstCause else s

theorem OnlyRegs.markLoss (s : State) : OnlyRegs (fun r _ => r = .GLB_HOSTLOSS) s s.markLoss := by
  unfold State.markLoss
  split
  · exact OnlyRegs.hostLoss s _
  · exact OnlyRegs.refl _ s

theorem State.lost_markLoss (s : State) :
    s.markLoss.fld F.GLB_HOSTLOSS_LOST 0 = 1 ↔ s.fld F.GLB_HOSTLOSS_LOST 0 = 1 ∨ s.lossLive = true := by
  unfold State.markLoss
  split
  next h =>
    obtain ⟨hlive, -⟩ := Bool.and_eq_true_iff.1 h
    exact iff_of_true (s.fld_hostLoss _).1 (.inr hlive)
  next h =>
    refine ⟨.inl, fun hor => hor.elim id fun hlive => ?_⟩
    by_contra hne
    exact h (Bool.and_eq_true_iff.2 ⟨hlive, Bool.not_eq_true' _ ▸ beq_false_of_ne hne⟩)

/-- The split of duties is computed with host loss as it is after the edge (R34, R35). -/
theorem State.edgeSplit_effect (s : State) :
    (s.edgeSplit.fld F.GLB_HOSTLOSS_LOST 0 = 1 ↔ s.fld F.GLB_HOSTLOSS_LOST 0 = 1 ∨ s.lossLive = true) ∧
      s.edgeSplit.reg .GLB_SPLIT_EFF 0 = (if s.edgeSplit.fld F.GLB_HOSTLOSS_LOST 0 = 1
        then s.reg .GLB_SPLIT 0 &&& ~~~ s.reg .GLB_SPLIT_LOSS 0 else s.reg .GLB_SPLIT 0) ∧
      OnlyRegs (fun r _ => r ∈ [Reg.GLB_HOSTLOSS, .GLB_SPLIT_EFF]) s s.edgeSplit := by
  have heq : s.edgeSplit = s.markLoss.setReg .GLB_SPLIT_EFF 0
      (if s.markLoss.bit F.GLB_HOSTLOSS_LOST 0 then s.markLoss.reg .GLB_SPLIT 0 &&& ~~~ s.markLoss.reg .GLB_SPLIT_LOSS 0
        else s.markLoss.reg .GLB_SPLIT 0) := rfl
  have honly := OnlyRegs.markLoss s
  have hlost : s.edgeSplit.fld F.GLB_HOSTLOSS_LOST 0 = s.markLoss.fld F.GLB_HOSTLOSS_LOST 0 := by
    rw [heq, State.fld, State.fld, State.reg_setReg_ne (by decide)]
  refine ⟨hlost ▸ s.lost_markLoss, ?_, ?_⟩
  · rw [hlost, heq, State.reg_setReg_self, honly.2 .GLB_SPLIT 0 (by decide), honly.2 .GLB_SPLIT_LOSS 0 (by decide)]
    simp only [State.bit, beq_iff_eq]
  · rw [heq]
    exact (honly.mono fun _ _ h => h ▸ .head _).trans (OnlyRegs.setReg _ _ (by decide))

/-- The mark that the hardware writes have been made is no part of what the split is computed from. -/
theorem State.hwWrites_effect {z s : State} (h : Steady .early z s) :
    Steady .late z s.hwWrites ∧ SameSplit z s.hwWrites := by
  obtain ⟨t, ht, he⟩ := h.hwWrites
  rw [he]
  refine ⟨?_, (ht.sameSplit rfl rfl).trans ⟨State.lossLive_congr rfl rfl rfl rfl, fun _ _ => rfl⟩⟩
  exact ⟨ht.len, fun r i hr => ht.regs r i (hr.imp_right fun h => by revert h; simp [Scope.late]), ht.react, ht.part, nofun, nofun,
    nofun, nofun, nofun, nofun⟩

/-- What follows the split of duties in an edge. -/
theorem Steady.edgeModes (s : State) (x : EdgeIn) : Steady .late s.edgeSplit (s.edgeModes x) :=
  (Steady.refl .late _).edgeGo.edgeMode.edgePower.edgeLevel.edgeLag

/-- The state at a tick edge as the split of duties is computed. -/
def State.edgeWork (s : State) (x : EdgeIn) : State :=
  ((((((s.edgeBefore x).edgeTime).edgeForce).edgeTables x).edgeCommits).hwWrites)

theorem State.edgeWork_effect (s : State) (x : EdgeIn) : EdgeTaken s (s.edgeWork x) ∧ SameSplit s (s.edgeWork x) := by
  have hbefore := (Steady.refl .early s).edgeBefore (x := x)
  obtain ⟨htaken, hsame⟩ := (s.edgeBefore x).edgeTime_effect
  have hrest := ((Steady.refl .early (s.edgeBefore x).edgeTime).edgeForce.edgeTables (x := x)).edgeCommits
  obtain ⟨hhw, hhw'⟩ := State.hwWrites_effect hrest
  have h1 : EdgeTaken s (s.edgeBefore x).edgeTime :=
    ⟨htaken.count.trans (hbefore.nextCount rfl), htaken.clock, htaken.len.trans (congrArg Prod.fst (hbefore.nextTickLen rfl))⟩
  exact ⟨h1.steady hhw, ((hbefore.sameSplit rfl rfl).trans hsame).trans hhw'⟩

theorem State.clockOn_iff (s : State) : s.clockOn = true ↔ s.curMode ≠ 0 ∧ 4 ≤ s.boot.step := by
  simp [State.clockOn]

/-- TICK_EDGE while the tick generator runs: the work of the edge, the split of duties, and the rest (R40). -/
theorem exec_tickEdge {x : EdgeIn} {s : State} (h : s.clockOn = true) :
    ∃ t, exec (.tickEdge x) s = .next t ∧ Steady .late (s.begin.edgeWork x).edgeSplit t := by
  refine ⟨_, ?_, ((Steady.edgeModes (s.begin.edgeWork x) x).edgeRest (x := x) (was := s.begin.fld F.GLB_SPLIT_EFF_ALL 0)
    (n := s.begin.tick.len) (old := ((s.begin.edgeBefore x).edgeTime).inForce))⟩
  show execTickEdge x s = _
  unfold execTickEdge
  exact if_neg (by rw [show s.begin.clockOn = true from h]; decide)

/-- Settles O15: the edge takes the count on, and the split of duties is computed last of what it reads. -/
theorem tickEdgeCountsAndSplits : Obligations.TickEdgeCountsAndSplits := by
  unfold Obligations.TickEdgeCountsAndSplits
  refine ⟨fun x s hmode hboot => ?on, fun x s hoff => ?off⟩
  case on =>
    obtain ⟨t, hexec, hrest⟩ := exec_tickEdge (x := x) (s.clockOn_iff.2 ⟨hmode, hboot⟩)
    obtain ⟨htaken, hsame⟩ := s.begin.edgeWork_effect x
    obtain ⟨hlost, heff, honly⟩ := (s.begin.edgeWork x).edgeSplit_effect
    have hsplit (r : Reg) (hr : r ∈ splitRegs) : (s.begin.edgeWork x).reg r 0 = s.reg r 0 := hsame.regs r hr
    have hlive : (s.begin.edgeWork x).lossLive = s.lossLive := hsame.live
    have hcount : (s.begin.edgeWork x).edgeSplit.tikCount = s.nextCount := (honly.2 .TIK_COUNT 0 (by decide)).trans htaken.count
    have hclock : (s.begin.edgeWork x).edgeSplit.fld F.TIK_CLK_CLK 0 = 0 := (honly.fld (by decide)).trans htaken.clock
    have hlen : (s.begin.edgeWork x).edgeSplit.tick.len = s.nextTickLen.1 := (congrArg TickSt.len honly.tick).trans htaken.len
    have hlost' : t.fld F.GLB_HOSTLOSS_LOST 0 = (s.begin.edgeWork x).edgeSplit.fld F.GLB_HOSTLOSS_LOST 0 := hrest.clockFld (by decide)
    refine ⟨t, hexec, ?_, (hrest.clockFld (by decide)).trans hclock, fun hadj hper => ?_, ?_, ?_, ?_⟩
    · rw [hrest.tikCount, hcount]
      simp [State.nextCount]
    · rw [hrest.len, hlen, State.nextTickLen, hadj, tickOf_zero hper]
    · rw [hrest.clockReg (by decide), honly.2 .GLB_SPLIT 0 (by decide), hsplit _ (by decide)]
    · rw [hrest.clockReg (by decide), hlost', heff, hsplit _ (by decide), hsplit _ (by decide)]
    · rw [hlost', hlost, hlive, State.fld, State.fld, hsplit _ (by decide)]
  case off =>
    have h : s.begin.clockOn = false := Bool.eq_false_iff.2 fun h => by
      obtain ⟨hmode, hboot⟩ := s.clockOn_iff.1 h
      exact hoff.elim hmode fun e => absurd hboot (by omega)
    show execTickEdge x s = _
    unfold execTickEdge
    exact if_pos (by rw [h]; decide)

end Sys2Proof.Machine
end


section
/-! PROOFS. Chart programs: how an instruction takes its entry, and what the end and the failure of one leave (R358 to R361,
R375). -/
namespace Sys2Proof.Machine

/-! ### The frozen counters, which no report thaws or freezes -/

@[simp] theorem State.held_bump (s : State) (r : Reg) (i n : Nat) : (s.bump r i n).gauge.held = s.gauge.held := by
  unfold State.bump State.pend State.lose
  split
  · dsimp only
    split
    · rfl
    · split <;> rfl
  · rfl

@[simp] theorem State.held_setFld (s : State) (f : Fld) (i v : Nat) : (s.setFld f i v).gauge.held = s.gauge.held := rfl

@[simp] theorem State.held_event (s : State) (f j : Nat) : (s.event f j).gauge.held = s.gauge.held := by
  unfold State.event
  split
  · split
    · exact s.held_bump _ _ _
    · rfl
  · exact s.held_bump _ _ _

theorem State.held_cqWrite (s : State) (g : Nat) (e : Bytes) : (s.cqWrite g e).gauge.held = s.gauge.held := by
  unfold State.cqWrite
  extract_lets log tail f addr s1
  show (if _ then _ else _ : State).gauge.held = _
  split
  · exact s1.held_event _ _
  · rfl

theorem State.held_cqPush (s : State) (g : Nat) (e : Bytes) : (s.cqPush g e).gauge.held = s.gauge.held := by
  unfold State.cqPush
  split
  · exact s.held_cqWrite g e
  · rfl

/-- A counter that no collection holds frozen counts at once (R396). -/
theorem State.reg_bump_counts {s : State} {r : Reg} {i : Nat} (h : s.counts r i) (n : Nat) :
    (s.bump r i n).reg r i = s.reg r i + BitVec.ofNat 64 n := by
  unfold State.bump
  rw [if_neg (by rw [h]; decide), State.reg_setReg_self]

/-! ### What the operations of a program leave -/

/-- The registers that the end of a program writes: those of reports, and the head of its ring. -/
def EndInst (r : Reg) (i : Nat) : Prop := ReportInst r i ∨ r = .DMA_SQ_STS

/-- From `s` to `t` nothing changes but the program of context `k`, rings, reports, and the registers of `p`. -/
structure ChartStep (p : Reg → Nat → Prop) (k : Nat) (s t : State) : Prop where
  rest : { t with out := s.out, bus := s.bus, regs := s.regs, dma := s.dma, flt := s.flt, jrn := s.jrn, gauge := s.gauge,
                  chart := s.chart } = s
  regs : RegsBut p s t
  held : t.gauge.held = s.gauge.held
  others : ∀ j, j ≠ k → t.ctx j = s.ctx j
  commits : t.chart.commits = s.chart.commits

namespace ChartStep
variable {p : Reg → Nat → Prop} {k : Nat} {s t u : State}

theorem refl (p : Reg → Nat → Prop) (k : Nat) (s : State) : ChartStep p k s s :=
  ⟨rfl, RegsBut.refl p s, rfl, fun _ _ => rfl, rfl⟩

theorem trans (h : ChartStep p k s t) (h' : ChartStep p k t u) : ChartStep p k s u where
  rest := by
    have h1 := h.rest
    have h2 := h'.rest
    rw [← h1]
    conv => rhs; rw [← h2]
  regs := h.regs.trans h'.regs
  held := h'.held.trans h.held
  others j hj := (h'.others j hj).trans (h.others j hj)
  commits := h'.commits.trans h.commits

theorem mono {q : Reg → Nat → Prop} (h : ChartStep p k s t) (hpq : ∀ r i, p r i → q r i) : ChartStep q k s t :=
  { h with regs := h.regs.mono hpq }

/-- A report, and what else leaves the programs alone. -/
theorem of_reports {q : Reg → Nat → Prop} (h : OnlyReports q s t) (hr : RegsBut p s t) (hh : t.gauge.held = s.gauge.held) :
    ChartStep p k s t := by
  have hc : t.chart = s.chart := (congrArg State.chart h.1 :)
  exact ⟨(congrArg (fun x : State => { x with chart := s.chart }) h.1 :), hr, hh, fun j _ => by rw [State.ctx, State.ctx, hc], by rw [hc]⟩

theorem setSq (s : State) (g : Nat) (v : SqSt) : ChartStep p k s (s.setSq g v) :=
  ⟨rfl, RegsBut.of_regs rfl, rfl, fun _ _ => rfl, rfl⟩

theorem setCtx (s : State) (v : Option Ctx) : ChartStep p k s (s.setCtx k v) :=
  ⟨rfl, RegsBut.of_regs rfl, rfl, fun j hj => by rw [State.ctx_setCtx, if_neg hj.symm], rfl⟩

theorem setReg (s : State) {r : Reg} {i : Nat} (v : BitVec 64) (h : p r i) : ChartStep p k s (s.setReg r i v) :=
  of_reports (OnlyReports.setReg (p := fun _ _ => True) s v (.inr trivial)) (RegsBut.setReg s v h) rfl

theorem bump (s : State) {r : Reg} {i : Nat} (n : Nat) (h : p r i) (hl : p .GGE_COL_STS 0) : ChartStep p k s (s.bump r i n) :=
  of_reports (OnlyReports.bump (p := fun _ _ => True) s n (.inr trivial)) (RegsBut.bump s n h hl) (s.held_bump r i n)

end ChartStep

theorem EndInst.lost : EndInst .GGE_COL_STS 0 := .inl (.of_ne (by decide) (by decide))

/-- Finished entries are consumed: HEAD advances, and completions are written (R348). -/
theorem ChartStep.consume (k : Nat) (s : State) (g : Nat) (l : List (Nat × Nat × Option (Option Bytes))) :
    ChartStep EndInst k s (s.consume g l) := by
  induction l generalizing s with
  | nil => exact ChartStep.setSq s g _
  | cons x l ih =>
    obtain ⟨last, n, e⟩ := x
    cases e with
    | none => exact ChartStep.setSq s g _
    | some e =>
      have hset : ChartStep EndInst k s ((s.setFld F.DMA_SQ_STS_HEAD g (s.fld F.DMA_SQ_STS_HEAD g + n)).setCq (s.boundCq g)
          { s.cq (s.boundCq g) with promised := (s.cq (s.boundCq g)).promised - 1 }) :=
        (ChartStep.setReg s _ (.inr rfl)).trans
          (.of_reports (OnlyReports.setCq (fun _ _ => True) _ _ _) (RegsBut.setCq _ _ _) rfl)
      refine ChartStep.trans ?_ (ih _)
      cases e with
      | none => exact hset
      | some b =>
        dsimp only
        split
        · exact hset.trans (.of_reports (OnlyReports.cqPush (fun _ _ => True) _ _ b)
            ((RegsBut.cqPush _ _ _).mono fun _ _ h => .inl h) (State.held_cqPush _ _ _))
        · exact hset

theorem ChartStep.chartEnd (s : State) (k : Nat) (x : Ctx) : ChartStep EndInst k s (s.chartEnd k x) := by
  unfold State.chartEnd
  extract_lets s1
  have h1 : ChartStep EndInst k s s1 := .setCtx s none
  split
  · exact h1
  · split
    · exact h1.trans (.setSq _ _ _)
    · exact ((h1.trans (.setSq _ _ _)).trans (.bump _ _ (.inl (.of_ne (by decide) (by decide))) .lost)).trans
        (.consume k _ _ _)

/-- What a context keeps for the entries of its ring after one has been taken, and what was read ahead for it (R359). -/
def State.dmaAfter (s : State) (x : Ctx) (i : Nat) : DmaSt :=
  let d := (if x.cut then s else s.setSq x.ring { s.sq x.ring with entries := (s.sq x.ring).entries.drop 1 }).dma
  { d with ahead := d.ahead.filter (fun a => !a.isOf x i) }

/-- The state after context `k`, which runs `x`, has taken entry `e`, numbered `i`, and forgotten what was read ahead for it. -/
def State.tookEntry (s : State) (k : Nat) (x : Ctx) (i : Nat) (e : Bytes) : State :=
  { s with dma := s.dmaAfter x i
           chart := { s.chart with ctxs := SMap.set (fun _ => none) s.chart.ctxs k (some (x.took i e)) } }

theorem State.takeEntry_eq {s : State} {k : Nat} {x : Ctx} {i : Nat} {e : Bytes} (h : (s.ctxEntries x).head? = some (i, e)) :
    s.takeEntry k x = some (i, e, x.took i e, s.tookEntry k x i e) := by
  obtain ⟨r, hr⟩ := List.head?_eq_some_iff.1 h
  have htail : r = if x.cut then x.entries.drop 1 else (s.sq x.ring).entries.drop 1 := by
    unfold State.ctxEntries at hr
    split at hr <;> rw [hr] <;> simp [*]
  unfold State.takeEntry
  rw [hr]
  unfold State.tookEntry State.dmaAfter Ctx.took
  subst htail
  cases hc : x.cut <;> simp [State.forgetAhead, State.setCtx]

theorem State.takeEntry_nil {s : State} {k : Nat} {x : Ctx} (h : s.ctxEntries x = []) : s.takeEntry k x = none := by
  unfold State.takeEntry
  rw [h]

theorem ChartStep.tookEntry (p : Reg → Nat → Prop) (s : State) (k : Nat) (x : Ctx) (i : Nat) (e : Bytes) :
    ChartStep p k s (s.tookEntry k x i e) :=
  ⟨rfl, RegsBut.of_regs rfl, rfl, fun j hj => by simp [State.ctx, State.tookEntry, SMap.get_set, hj.symm], rfl⟩

theorem State.ctx_tookEntry (s : State) (k : Nat) (x : Ctx) (i : Nat) (e : Bytes) :
    (s.tookEntry k x i e).ctx k = some (x.took i e) := by
  simp [State.ctx, State.tookEntry, SMap.get_set]

/-- Entry `i` leaves its ring, or the entries left to a program whose ring is disabled (R361). -/
theorem State.entries_tookEntry (s : State) (k : Nat) (x : Ctx) (i : Nat) (e : Bytes) :
    ((s.tookEntry k x i e).sq x.ring).entries = (s.sq x.ring).entries.drop (if x.cut then 0 else 1) := by
  simp only [State.sq, State.tookEntry, State.dmaAfter]
  split
  · rfl
  · simp [State.setSq, SMap.get_set]

theorem ChartStep.chartDrain (s : State) (k n : Nat) : ChartStep EndInst k s (s.chartDrain k n) := by
  induction n generalizing s with
  | zero => exact .refl _ _ _
  | succ n ih =>
    unfold State.chartDrain
    split
    · exact .refl _ _ _
    next x hx =>
      split
      · exact .chartEnd s k x
      · cases hl : s.ctxEntries x with
        | nil =>
          rw [State.takeEntry_nil hl]
          dsimp only
          split
          · exact .chartEnd s k x
          · exact .refl _ _ _
        | cons e l =>
          rw [State.takeEntry_eq (by rw [hl]; rfl)]
          exact (ChartStep.tookEntry _ s k x e.1 e.2).trans (ih _)

/-- A drained program waits for nothing if it did not before. -/
theorem State.wait_chartDrain (s : State) (k n : Nat) (h : ∀ y, s.ctx k = some y → y.wait = .none) :
    ∀ y, (s.chartDrain k n).ctx k = some y → y.wait = .none := by
  induction n generalizing s with
  | zero => exact h
  | succ n ih =>
    unfold State.chartDrain
    split
    · exact h
    next x hx =>
      have hend : ∀ y, (s.chartEnd k x).ctx k = some y → y.wait = .none := fun y hy => by
        rw [State.ctx_chartEnd, if_pos rfl] at hy
        cases hy
      split
      · exact hend
      · cases hl : s.ctxEntries x with
        | nil =>
          rw [State.takeEntry_nil hl]
          dsimp only
          split
          · exact hend
          · exact h
        | cons e l =>
          rw [State.takeEntry_eq (by rw [hl]; rfl)]
          refine ih _ fun y hy => ?_
          rw [State.ctx_tookEntry] at hy
          cases hy
          exact h x hx

theorem ChartStep.drainAll (s : State) (k : Nat) : ChartStep EndInst k s (s.drainAll k) := by
  unfold State.drainAll
  split
  · exact .refl _ _ _
  · exact .chartDrain s k _

theorem State.wait_drainAll (s : State) (k : Nat) (h : ∀ y, s.ctx k = some y → y.wait = .none) :
    ∀ y, (s.drainAll k).ctx k = some y → y.wait = .none := by
  unfold State.drainAll
  split
  · exact h
  · exact s.wait_chartDrain k _ h

/-! ### Failure -/

/-- The registers that the failure of a program writes (R375). -/
def FailInst (r : Reg) (i : Nat) : Prop := EndInst r i ∨ r = .CHT_CNT ∧ i = 5 ∨ r = .CHT_ERR

/-- From `u` to `t` the program `x` of context `k` fails with status `st` (R364, R375). -/
structure Fails (k : Nat) (x : Ctx) (st : Nat) (u t : State) : Prop where
  step : ChartStep FailInst k u t
  ctx : t.ctx k = none ∨ ∃ y, t.ctx k = some y ∧ y.status = st ∧ y.staged = [] ∧ y.holds = false ∧ y.wait = .none
  count : u.counts .CHT_CNT 5 → t.reg .CHT_CNT 5 = u.reg .CHT_CNT 5 + 1
  err : u.fld F.CHT_ERR_VALID (k / 8) = 0 →
    t.reg .CHT_ERR (k / 8) = BitVec.ofNat 64 (st + x.ring * 2 ^ 8 + x.last * 2 ^ 20 + 2 ^ 36)

theorem EndInst.not_count {i : Nat} : ¬ EndInst .CHT_CNT i := by
  rintro (⟨h, -⟩ | h)
  · exact absurd h (by decide)
  · cases h

theorem EndInst.not_err {i : Nat} : ¬ EndInst .CHT_ERR i := by
  rintro (⟨h, -⟩ | h)
  · exact absurd h (by decide)
  · cases h

/-- The failure is logged where CHT_ERR is clear (R375). -/
def State.logFail (s : State) (k st : Nat) (x : Ctx) : State :=
  if s.bit F.CHT_ERR_VALID (k / 8) then s
  else s.setReg .CHT_ERR (k / 8) (BitVec.ofNat 64 (st + x.ring * 2 ^ 8 + x.last * 2 ^ 20 + 2 ^ 36))

theorem State.chartFail_eq {u : State} {k : Nat} {x : Ctx} (st : Nat) (hx : u.ctx k = some x) :
    u.chartFail k st = (((u.bump .CHT_CNT 5 1).logFail k st x).setCtx k (some (x.failed st))).drainAll k := by
  unfold State.chartFail
  rw [hx]
  rfl

theorem State.chartFail_fails {u : State} {k : Nat} {x : Ctx} (st : Nat) (hx : u.ctx k = some x) :
    Fails k x st u (u.chartFail k st) := by
  have hbump : ChartStep FailInst k u (u.bump .CHT_CNT 5 1) := .bump u 1 (.inr (.inl ⟨rfl, rfl⟩)) (.inl .lost)
  have hlog : ChartStep FailInst k (u.bump .CHT_CNT 5 1) ((u.bump .CHT_CNT 5 1).logFail k st x) := by
    unfold State.logFail
    split
    · exact .refl _ _ _
    · exact .setReg _ _ (.inr (.inr rfl))
  have hdrain := (ChartStep.setCtx (p := EndInst) ((u.bump .CHT_CNT 5 1).logFail k st x) (some (x.failed st))).trans
    (ChartStep.drainAll _ k)
  have hctx := ((u.ctx_chartFail k st).1 x hx)
  rw [State.chartFail_eq st hx] at hctx ⊢
  refine ⟨(hbump.trans hlog).trans (hdrain.mono fun _ _ h => .inl h), hctx.imp_right ?_, fun hc => ?_, fun hv => ?_⟩
  · rintro ⟨y, hy, hst, hstaged, hholds⟩
    refine ⟨y, hy, hst, hstaged, hholds, State.wait_drainAll _ k (fun z hz => ?_) y hy⟩
    rw [State.ctx_setCtx, if_pos rfl] at hz
    cases hz
    rfl
  · rw [hdrain.regs _ _ EndInst.not_count]
    refine Eq.trans ?_ (State.reg_bump_counts hc 1)
    unfold State.logFail
    split
    · rfl
    · exact State.reg_setReg_ne fun h => absurd h.1 (by decide)
  · have hvalid : (u.bump .CHT_CNT 5 1).bit F.CHT_ERR_VALID (k / 8) = false := by
      have hne : (u.bump .CHT_CNT 5 1).reg .CHT_ERR (k / 8) = u.reg .CHT_ERR (k / 8) :=
        (RegsBut.bump (p := fun r _ => r ≠ .CHT_ERR) u 1 (by simp) (by simp)) _ _ (not_not_intro rfl)
      have hfld : (u.bump .CHT_CNT 5 1).fld F.CHT_ERR_VALID (k / 8) = 0 := (congrArg (getField · _ _) hne).trans hv
      rw [State.bit, hfld]
      rfl
    rw [hdrain.regs _ _ EndInst.not_err, State.logFail, hvalid]
    exact State.reg_setReg_self ..

end Sys2Proof.Machine
end

section
/-! PROOFS. What the end of an instruction leaves, and how a program's command runs (R358, R359, R361). -/
namespace Sys2Proof.Machine

/-! ### Entries waiting in submission rings -/

theorem State.dma_bump (s : State) (r : Reg) (i n : Nat) : (s.bump r i n).dma = s.dma := by
  unfold State.bump State.pend State.lose
  split
  · dsimp only
    split
    · rfl
    · split <;> rfl
  · rfl

theorem State.dma_event (s : State) (f j : Nat) : (s.event f j).dma = s.dma := by
  unfold State.event
  split
  · split
    · exact s.dma_bump _ _ _
    · rfl
  · exact s.dma_bump _ _ _

/-- An entry written to a completion ring touches no submission ring. -/
theorem State.sqs_cqPush (s : State) (g : Nat) (e : Bytes) : (s.cqPush g e).dma.sq = s.dma.sq := by
  unfold State.cqPush
  split
  · unfold State.cqWrite
    extract_lets log tail f addr s1
    have h : (if s.bit F.DMA_CQ_CFG_INT_EN g then s1.event f (s.fld F.DMA_CQ_CFG_VEC g) else s1).dma = s1.dma := by
      split
      · exact s1.dma_event _ _
      · rfl
    exact congrArg DmaSt.sq h
  · rfl

theorem State.entries_setBegun (s : State) (g : Nat) (b : List (Nat × Nat × Option (Option Bytes))) (h : Nat) :
    ((s.setSq g { s.sq g with begun := b }).sq h).entries = (s.sq h).entries := by
  rw [State.sq_setSq]
  split
  next e => rw [e]
  next => rfl

/-- Finished entries are consumed; those that wait to begin stay (R348). -/
theorem State.entries_consume (s : State) (g : Nat) (l : List (Nat × Nat × Option (Option Bytes))) (h : Nat) :
    ((s.consume g l).sq h).entries = (s.sq h).entries := by
  induction l generalizing s with
  | nil => exact s.entries_setBegun g _ h
  | cons x l ih =>
    obtain ⟨last, n, e⟩ := x
    cases e with
    | none => exact s.entries_setBegun g _ h
    | some e =>
      refine (ih _).trans ?_
      cases e with
      | none => rfl
      | some b =>
        dsimp only
        split
        · exact congrArg (fun m => (SMap.get (fun _ => SqSt.idle) m h).entries) (State.sqs_cqPush _ _ b)
        · rfl

theorem State.entries_chartEnd (s : State) (k : Nat) (x : Ctx) (h : Nat) :
    ((s.chartEnd k x).sq h).entries = (s.sq h).entries := by
  unfold State.chartEnd
  extract_lets s1
  split
  · rfl
  · split
    · exact s1.entries_setBegun x.ring _ h
    · refine (State.entries_consume _ _ _ h).trans ?_
      refine Eq.trans ?_ (s1.entries_setBegun x.ring [(x.last, x.taken, none)] h)
      rw [State.sq, State.dma_bump, State.sq]

/-! ### The end of an instruction -/

/-- The registers that the end of an instruction writes: it counts, and may end its program, or cut it off (R359, R361). -/
def DoneInst (r : Reg) (i : Nat) : Prop := FailInst r i ∨ r = .CHT_CNT ∧ i = 1

/-- From `u` to `t` the instruction of context `k`, whose program is then `y`, ends without error (R359, R361). -/
structure Ends (k : Nat) (y : Ctx) (u t : State) : Prop where
  step : ChartStep DoneInst k u t
  goesOn : y.tail = false → y.cut = false ∨ y.entries ≠ [] → t.ctx k = some { y with done := y.done + 1, wait := .none }
  last : y.tail = true → t.ctx k = none
  entries : ∀ g, (t.sq g).entries = (u.sq g).entries
  count : u.counts .CHT_CNT 1 → t.reg .CHT_CNT 1 = u.reg .CHT_CNT 1 + 1

theorem FailInst.not_done : ¬ FailInst .CHT_CNT 1 := by
  rintro (h | ⟨-, h⟩ | h)
  · exact EndInst.not_count h
  · exact absurd h (by decide)
  · cases h

/-- A program that is cut off and has no entry left ends as it fails. -/
theorem State.chartFail_cut {u : State} {k : Nat} {x : Ctx} (st : Nat) (hx : u.ctx k = some x) (ht : x.tail = false)
    (hc : x.cut = true) (he : x.entries = []) (g : Nat) : ((u.chartFail k st).sq g).entries = (u.sq g).entries := by
  rw [State.chartFail_eq st hx]
  have hlog : (((u.bump .CHT_CNT 5 1).logFail k st x).dma) = u.dma := by
    unfold State.logFail
    split
    · exact u.dma_bump .CHT_CNT 5 1
    · rw [← u.dma_bump .CHT_CNT 5 1]
      simp only [State.setReg_others]
  have hnil : ((((u.bump .CHT_CNT 5 1).logFail k st x).setCtx k (some (x.failed st))).ctxEntries (x.failed st)) = [] := by
    simp only [State.ctxEntries, Ctx.failed, hc, if_true, he]
  unfold State.drainAll
  rw [State.ctx_setCtx, if_pos rfl]
  dsimp only
  rw [hnil]
  unfold State.chartDrain
  rw [State.ctx_setCtx, if_pos rfl]
  dsimp only
  rw [State.takeEntry_nil hnil, if_neg (by rw [Ctx.failed, ht]; decide)]
  dsimp only
  rw [if_pos (show (x.failed st).cut = true from hc), State.entries_chartEnd]
  exact congrArg (fun d : DmaSt => (SMap.get (fun _ => SqSt.idle) d.sq g).entries) hlog

/-- The program of a context whose instruction has ended. -/
def Ctx.finished (x : Ctx) : Ctx := { x with done := x.done + 1, wait := .none }

theorem State.chartDone_eq {u : State} {k : Nat} {y : Ctx} (hy : u.ctx k = some y) :
    u.chartDone k =
      let s1 := (u.bump .CHT_CNT 1 1).setCtx k (some y.finished)
      if y.tail then s1.chartEnd k y.finished
      else if y.cut && y.entries.isEmpty then s1.chartFail k 13
      else s1 := by
  unfold State.chartDone
  rw [hy]
  rfl

theorem State.chartDone_ends {u : State} {k : Nat} {y : Ctx} (hy : u.ctx k = some y) : Ends k y u (u.chartDone k) := by
  rw [State.chartDone_eq hy]
  extract_lets s1
  have hctx : s1.ctx k = some y.finished := by rw [State.ctx_setCtx, if_pos rfl]
  have h1 : ChartStep DoneInst k u s1 :=
    (ChartStep.bump u 1 (.inr ⟨rfl, rfl⟩) (.inl (.inl .lost))).trans (.setCtx _ _)
  have hent (g : Nat) : (s1.sq g).entries = (u.sq g).entries := by
    rw [State.sq, State.sq, ← u.dma_bump .CHT_CNT 1 1]
    rfl
  have hcount (h : u.counts .CHT_CNT 1) : s1.reg .CHT_CNT 1 = u.reg .CHT_CNT 1 + 1 := State.reg_bump_counts h 1
  clear_value s1
  split
  next ht =>
    have hend := ChartStep.chartEnd s1 k y.finished
    exact ⟨h1.trans (hend.mono fun _ _ h => .inl (.inl h)), fun hf => absurd ht (by rw [hf]; decide),
      fun _ => by rw [State.ctx_chartEnd, if_pos rfl],
      fun g => (s1.entries_chartEnd k y.finished g).trans (hent g), fun h => (hend.regs _ _ EndInst.not_count).trans (hcount h)⟩
  next ht =>
    split
    next hc =>
      rw [Bool.and_eq_true] at hc
      obtain ⟨hcut, hnil⟩ := hc
      have hfail := State.chartFail_fails 13 hctx
      have hnone : y.entries = [] := List.isEmpty_iff.1 hnil
      refine ⟨h1.trans (hfail.step.mono fun _ _ h => .inl h), fun _ h => ?_, fun h => absurd h ht,
        fun g => (State.chartFail_cut 13 hctx (Bool.eq_false_iff.2 ht) hcut hnone g).trans (hent g),
        fun h => (hfail.step.regs _ _ FailInst.not_done).trans (hcount h)⟩
      rcases h with h | h
      · exact absurd hcut (by rw [h]; decide)
      · exact absurd hnone h
    next => exact ⟨h1, fun _ _ => hctx, fun h => absurd h ht, hent, hcount⟩

/-! ### A command of a program -/

/-- A command executes the instruction that its context takes next (R359). -/
theorem State.chartRun_runs {s : State} {q c : Fin 8} {x : Ctx} {i : Nat} {e : Bytes} {op : Nat} (h : s.runs q c x i e op)
    (f : State → Nat → Ctx → Bytes → State) :
    s.begin.chartRun q.val c.val (opIs op) f =
      f (s.begin.tookEntry (8 * q.val + c.val) x i e) (8 * q.val + c.val) (x.took i e) e := by
  obtain ⟨⟨hctx, hon, hwait, hst, hhead⟩, hop, hstage, hcheck, hidle⟩ := h
  have hgo : (!s.begin.chartOn || x.wait != CWait.none || x.status != 0) = false := by
    rw [show s.begin.chartOn = s.chartOn from rfl, hon, hwait, hst]
    rfl
  have htake := State.takeEntry_eq (s := s.begin) (k := 8 * q.val + c.val) (x := x) hhead
  have hmine : (!opIs op e || s.begin.stagingWaits q.val c.val e) = false := by
    rw [show s.begin.stagingWaits q.val c.val e = s.stagingWaits q.val c.val e from rfl, hstage, opIs, hop]
    simp
  unfold State.chartRun
  simp only [show s.begin.ctx (8 * q.val + c.val) = some x from hctx, hgo, htake, hmine,
    show (s.begin.tookEntry (8 * q.val + c.val) x i e).chartCheck (x.took i e) e = 0 from hcheck, hidle, Bool.false_eq_true,
    if_false]

theorem DoneInst.report {r : Reg} {i : Nat} (h : DoneInst r i) : r ∈ reportRegs ∨ r ∈ [.CHT_CNT, .CHT_ERR, .DMA_SQ_STS] := by
  rcases h with ((⟨h, -⟩ | rfl) | ⟨rfl, -⟩ | rfl) | ⟨rfl, -⟩
  · exact .inl h
  all_goals exact .inr (by decide)

/-- What a program's instruction may change, as the statements say it. -/
theorem ChartStep.onlyChart {p : Reg → Nat → Prop} {k : Nat} {s t : State} (h : ChartStep p k s t)
    (hp : ∀ r i, p r i → r ∈ reportRegs ∨ r ∈ [Reg.CHT_CNT, .CHT_ERR, .DMA_SQ_STS]) : OnlyChart k s t :=
  ⟨h.others, h.rest, h.regs.mono hp⟩

theorem ChartStep.begin (p : Reg → Nat → Prop) (k : Nat) (s : State) : ChartStep p k s s.begin :=
  ⟨rfl, RegsBut.of_regs rfl, rfl, fun _ _ => rfl, rfl⟩

/-- An instruction that ends leaves what the statements ask: `u` is the state as it ends, the program then `y`. -/
theorem State.endsInstr_of {s u t : State} {cmd : Instr} {k : Nat} {y : Ctx} {frame : State → State → Prop}
    (ht : exec cmd s = .next t) (h : Ends k y u t) (hf : frame s t)
    (hent : (u.sq y.ring).entries = (s.sq y.ring).entries.drop (if y.cut then 0 else 1))
    (hreg : ∀ r i, u.reg r i = s.reg r i) (hheld : u.gauge.held = s.gauge.held) : s.endsInstr cmd k y frame := by
  refine ⟨t, ht, hf, h.goesOn, h.last, (h.entries _).trans hent, fun hc => ?_⟩
  rw [h.count (by rw [State.counts, hheld]; exact hc), hreg]

/-- An instruction that fails leaves what the statements ask: `u` is the state as its program `x` fails. -/
theorem State.failsWith_of {s u t : State} {cmd : Instr} {k i st : Nat} {x y : Ctx} {frame : State → State → Prop}
    (ht : exec cmd s = .next t) (h : Fails k y st u t) (hf : frame s t) (hring : y.ring = x.ring) (hlast : y.last = i)
    (hcnt : u.reg .CHT_CNT 5 = s.reg .CHT_CNT 5) (herr : u.reg .CHT_ERR (k / 8) = s.reg .CHT_ERR (k / 8))
    (hheld : u.gauge.held = s.gauge.held) : s.failsWith cmd k x i st frame := by
  refine ⟨t, ht, hf, h.ctx, fun hc => ?_, fun hv => ?_⟩
  · rw [h.count (by rw [State.counts, hheld]; exact hc), hcnt]
  · rw [h.err ((congrArg (getField · _ _) herr).trans hv), hring, hlast]

end Sys2Proof.Machine
end

section
/-! PROOFS. COMMIT, its refusal, and its wait for an edge (R53, R54, R364, R365). -/
namespace Sys2Proof.Machine

theorem OnlyChart.trans {k : Nat} {s t u : State} (h : OnlyChart k s t) (h' : OnlyChart k t u) : OnlyChart k s u := by
  obtain ⟨ho, hr, hg⟩ := h
  obtain ⟨ho', hr', hg'⟩ := h'
  refine ⟨fun j hj => (ho' j hj).trans (ho j hj), ?_, fun r i hp => (hg' r i hp).trans (hg r i hp)⟩
  have h2 := congrArg (fun v : State => { v with chart := s.chart }) hr'
  rw [← hr]
  conv => rhs; rw [← hr]
  exact congrArg (fun v : State => { v with out := s.out, bus := s.bus, regs := s.regs, dma := s.dma, flt := s.flt, jrn := s.jrn,
                                            gauge := s.gauge }) h2

theorem OnlyChart.tookEntry (s : State) (k : Nat) (x : Ctx) (i : Nat) (e : Bytes) : OnlyChart k s (s.begin.tookEntry k x i e) :=
  ((ChartStep.begin (fun _ _ => False) k s).trans (.tookEntry _ _ k x i e)).onlyChart fun _ _ h => h.elim

/-- The program after its commit has been refused, its writes dropped and its staging released (R364). -/
def Ctx.unstaged (x : Ctx) : Ctx := { x with staged := [], holds := false }

/-- The registers that a refusal writes: it counts, and its program fails (R365). -/
def RefuseInst (r : Reg) (i : Nat) : Prop := FailInst r i ∨ r = .CHT_CNT ∧ i = 4

theorem RefuseInst.report {r : Reg} {i : Nat} (h : RefuseInst r i) : r ∈ reportRegs ∨ r ∈ [.CHT_CNT, .CHT_ERR, .DMA_SQ_STS] := by
  rcases h with h | ⟨rfl, -⟩
  · exact DoneInst.report (.inl h)
  · exact .inr (by decide)

theorem FailInst.not_refusal : ¬ FailInst .CHT_CNT 4 := by
  rintro (h | ⟨-, h⟩ | h)
  · exact EndInst.not_count h
  · exact absurd h (by decide)
  · cases h

/-- The state in which the program of a refused commit fails: the refusal is counted. -/
def State.refusalCounted (s : State) (k : Nat) (y : Ctx) : State := (s.setCtx k (some y.unstaged)).bump .CHT_CNT 4 1

theorem State.ctx_refusalCounted (s : State) (k : Nat) (y : Ctx) : (s.refusalCounted k y).ctx k = some y.unstaged := by
  rw [State.ctx, State.refusalCounted, State.bump_chart]
  exact (State.ctx_setCtx ..).trans (if_pos rfl)

theorem ChartStep.commitRefuse (s : State) (k : Nat) (y : Ctx) (st : Nat) : ChartStep RefuseInst k s (s.commitRefuse k y st) :=
  ((ChartStep.setCtx s _).trans (.bump _ 1 (.inr ⟨rfl, rfl⟩) (.inl (.inl .lost)))).trans
    ((State.chartFail_fails st (s.ctx_refusalCounted k y)).step.mono fun _ _ h => .inl h)

/-- A refused commit is counted, and ends its program with the status (R364, R365): `u` is the state in which it is refused. -/
theorem State.failsWith_commitRefuse {s u : State} {cmd : Instr} {k i st : Nat} {x y : Ctx} {frame : State → State → Prop}
    (ht : exec cmd s = .next (u.commitRefuse k y st)) (hring : y.ring = x.ring) (hlast : y.last = i)
    (hregs : u.regs = s.regs) (hgauge : u.gauge = s.gauge)
    (hf : (s.counts .CHT_CNT 4 → (u.commitRefuse k y st).reg .CHT_CNT 4 = s.reg .CHT_CNT 4 + 1) →
      frame s (u.commitRefuse k y st)) :
    s.failsWith cmd k x i st frame := by
  let v := u.setCtx k (some y.unstaged)
  have hreg (r : Reg) (j : Nat) : v.reg r j = s.reg r j := congrArg (SMap.get Reg.resetAt · (r.key j)) hregs
  have hfail := State.chartFail_fails st (u.ctx_refusalCounted k y)
  have hheld : (u.refusalCounted k y).gauge.held = s.gauge.held := (v.held_bump _ _ _).trans (congrArg GaugeSt.held hgauge)
  have hkeep : RegsBut (fun r i => r = .CHT_CNT ∧ i = 4 ∨ r = .GGE_COL_STS) v (u.refusalCounted k y) :=
    RegsBut.bump v 1 (.inl ⟨rfl, rfl⟩) (.inr rfl)
  refine State.failsWith_of ht hfail (hf fun hc => ?_) hring hlast ((hkeep _ _ (by simp)).trans (hreg _ _))
    ((hkeep _ _ (by simp)).trans (hreg _ _)) hheld
  have hv : v.counts .CHT_CNT 4 := by
    rw [State.counts, show v.gauge = s.gauge from hgauge]
    exact hc
  rw [← hreg]
  exact (hfail.step.regs _ _ FailInst.not_refusal).trans (State.reg_bump_counts hv 1)

/-- Plans depend on the tables and on the depth allowed to a path (R160, R161). -/
theorem State.planInserts_congr {s u : State} (hdepth : ∀ d, u.maxDepth d = s.maxDepth d) (htabs : u.tabs = s.tabs) (t : Tables)
    (l : List CWrite) : u.planInserts t l = s.planInserts t l := by
  induction l generalizing t with
  | nil => rfl
  | cons w l ih =>
    cases w with
    | insert d tb key words hw => simp only [State.planInserts, ih, hdepth, htabs]
    | _ => exact ih t

/-- The program while its commit of the writes `l` waits for its edge (R53). -/
def Ctx.awaiting (x : Ctx) (l : List CWrite) : Ctx := { x with staged := l, wait := .commit }

/-- A commit takes its place among those that wait (R55). -/
def State.place (s : State) (m : Commit) : State :=
  { s with chart := { s.chart with commits := placeCommit m s.chart.commits } }

theorem State.ctx_place (s : State) (m : Commit) (k : Nat) : (s.place m).ctx k = s.ctx k := rfl

/-- COMMIT (R53, R365): the state in which it executes, and its program then, are those of its entry taken. -/
theorem exec_commit {s : State} {q c : Fin 8} {x : Ctx} {i : Nat} {e : Bytes} (h : s.runs q c x i e 0x05) :
    let k := 8 * q.val + c.val
    let u := s.begin.tookEntry k x i e
    let y := x.took i e
    let l := x.staged.filter (fun w => !s.stagesNothing w)
    exec (.commit q c) s = .next (if l = [] then (u.setCtx k (some y.unstaged)).chartDone k
      else if s.commitCheck l (s.planInserts s.tabs l) = 0 then
        (u.setCtx k (some (y.awaiting l))).place ⟨k, s.tikCount, s.fld F.TIK_CLK_CLK 0, s.commitDue, l, (s.planInserts s.tabs l).1⟩
      else u.commitRefuse k y (s.commitCheck l (s.planInserts s.tabs l))) := by
  intro k u y l
  show Host.Outcome.next _ = _
  rw [State.chartRun_runs h]
  congr 1
  show (if l.isEmpty then _ else _) = _
  by_cases hl : l = []
  · rw [if_pos hl, if_pos (by rw [hl]; rfl)]
    rfl
  · rw [if_neg hl, if_neg (by rwa [List.isEmpty_iff])]
    rw [State.planInserts_congr (u := s.begin.tookEntry (8 * q.val + c.val) x i e) (s := s) (fun _ => rfl) rfl]
    show (match s.commitCheck l (s.planInserts s.tabs l) with | 0 => _ | st => _) = _
    split
    next hc => rw [if_pos hc]; rfl
    next st hc => rw [if_neg hc]

theorem execCommit_effect {q c : Fin 8} {x : Ctx} {i : Nat} {e : Bytes} {s : State} (h : s.runs q c x i e 0x05) :
    let k := 8 * q.val + c.val
    let y := x.took i e
    let l := x.staged.filter (fun w => !s.stagesNothing w)
    let p := s.planInserts s.tabs l
    (l = [] → s.endsInstr (.commit q c) k y.unstaged (OnlyChart k)) ∧
    (l ≠ [] → s.commitCheck l p ≠ 0 → s.failsWith (.commit q c) k x i (s.commitCheck l p) (fun s t => OnlyChart k s t ∧
      (s.counts .CHT_CNT 4 → t.reg .CHT_CNT 4 = s.reg .CHT_CNT 4 + 1))) ∧
    (l ≠ [] → s.commitCheck l p = 0 → ∃ t m, exec (.commit q c) s = .next t ∧ t.ctx k = some { y with staged := l, wait := .commit } ∧
      m = ⟨k, s.tikCount, s.fld F.TIK_CLK_CLK 0, s.commitDue, l, p.1⟩ ∧ t.chart.commits = placeCommit m s.chart.commits ∧
      (∀ j, j ≠ k → t.ctx j = s.ctx j) ∧ OnlyRegs (fun _ _ => False) s { t with chart := s.chart, dma := s.dma }) := by
  intro k y l p
  have hexec := exec_commit h
  let u := s.begin.tookEntry k x i e
  have hu : OnlyChart k s u := .tookEntry s k x i e
  refine ⟨fun hl => ?_, fun hl hst => ?_, fun hl hst => ?_⟩
  · have ht := hexec.trans (congrArg Host.Outcome.next (if_pos hl))
    have hends := State.chartDone_ends (u := u.setCtx k (some y.unstaged)) (k := k) (y := y.unstaged)
      (by rw [State.ctx_setCtx, if_pos rfl])
    refine State.endsInstr_of ht hends (hu.trans (((ChartStep.setCtx u _).trans hends.step).onlyChart fun _ _ h => h.report))
      (s.begin.entries_tookEntry k x i e) (fun _ _ => rfl) rfl
  · have ht := hexec.trans (congrArg Host.Outcome.next ((if_neg hl).trans (if_neg hst)))
    exact State.failsWith_commitRefuse ht rfl rfl rfl rfl fun hcnt =>
      ⟨hu.trans ((ChartStep.commitRefuse u k y _).onlyChart fun _ _ h => h.report), hcnt⟩
  · have ht := hexec.trans (congrArg Host.Outcome.next ((if_neg hl).trans (if_pos hst)))
    have hctx (j : Nat) : ((u.setCtx k (some (y.awaiting l))).place ⟨k, s.tikCount, s.fld F.TIK_CLK_CLK 0, s.commitDue, l, p.1⟩).ctx j =
        if k = j then some (y.awaiting l) else u.ctx j := by
      rw [State.ctx_place, State.ctx_setCtx]
    exact ⟨_, _, ht, (hctx k).trans (if_pos rfl), rfl, rfl, fun j hj => ((hctx j).trans (if_neg hj.symm)).trans (hu.1 j hj), rfl,
      fun _ _ _ => rfl⟩

end Sys2Proof.Machine
end

section
/-! PROOFS. What the writes of a commit leave when they apply (R150, R154, R188, R366): tables, and the records that end with
sessions. -/
namespace Sys2Proof.Machine

/-! ### Records and faults hold no counter frozen -/

theorem State.held_interrupt (s : State) (i : Nat) : (s.interrupt i).gauge.held = s.gauge.held := by
  unfold State.interrupt
  split
  · exact s.held_event _ _
  · rfl

theorem State.held_notifyCore (s : State) (k die a b : Nat) (body : Bytes) :
    (s.notifyCore k die a b body).1.gauge.held = s.gauge.held := by
  unfold State.notifyCore
  extract_lets g e
  split
  · exact s.held_bump _ _ _
  · split
    · exact (State.held_bump _ _ _ _).trans (State.held_cqPush _ _ _)
    · exact (State.held_bump _ _ _ _).trans (State.held_setFld _ _ _ _)

theorem State.held_journal (s : State) (r : JrnRec) : (s.journal r).gauge.held = s.gauge.held := by
  unfold State.journal
  split <;> rfl

@[simp] theorem State.held_setReg (s : State) (r : Reg) (i : Nat) (v : BitVec 64) : (s.setReg r i v).gauge.held = s.gauge.held := rfl

@[simp] theorem State.held_setBit (s : State) (r : Reg) (i b : Nat) : (s.setBit r i b).gauge.held = s.gauge.held := rfl

@[simp] theorem State.held_satFld (s : State) (f : Fld) (i n : Nat) : (s.satFld f i n).gauge.held = s.gauge.held := rfl

theorem State.held_fltMark (s : State) (k src inst : Nat) (info : BitVec 48) (inj : Bool) :
    (s.fltMark k src inst info inj).gauge.held = s.gauge.held := by
  unfold State.fltMark
  extract_lets s1 s2
  have h2 : s2.gauge.held = s.gauge.held := by
    unfold s2
    split <;> simp [s1]
  clear_value s2
  split
  · exact h2
  · simpa using h2

theorem State.held_fltReport (s : State) (k src inst cls react : Nat) (info : BitVec 48) (inj : Bool) :
    (s.fltReport k src inst cls react info inj).1.gauge.held = s.gauge.held := by
  unfold State.fltReport
  extract_lets s1 p withheld s2
  have h1 : s1.gauge.held = s.gauge.held := by
    unfold s1
    split
    · exact s.held_interrupt _
    · rfl
  have hp : p.1.gauge.held = s.gauge.held := by
    unfold p
    split
    · exact (s1.held_notifyCore _ _ _ _ _).trans h1
    · exact h1
  have h2 : s2.gauge.held = s.gauge.held := by
    unfold s2
    split
    · exact (State.held_journal _ _).trans hp
    · exact hp
  dsimp only
  split
  · exact h2
  · exact h2

theorem State.held_fltCore (s : State) (k src inst : Nat) (info : BitVec 48) (lasting inj : Bool) :
    (s.fltCore k src inst info lasting inj).1.gauge.held = s.gauge.held := by
  unfold State.fltCore
  split
  · rfl
  · dsimp only
    split
    · exact State.held_fltMark _ _ _ _ _ _
    · exact (State.held_fltReport _ _ _ _ _ _ _ _).trans (State.held_fltMark _ _ _ _ _ _)

theorem State.held_faultWith (s : State) (k src inst : Nat) (info : BitVec 48) (lasting inj : Bool) :
    (s.faultWith k src inst info lasting inj).gauge.held = s.gauge.held := by
  have h1 := s.held_fltCore k src inst info lasting inj
  unfold State.faultWith
  split
  all_goals rw [‹s.fltCore _ _ _ _ _ _ = _›] at h1
  next => exact h1
  next s1 g _ =>
    have h2 := (s1.held_fltCore 5 2 g (BitVec.ofNat 48 g) false false).trans h1
    split
    all_goals rw [‹s1.fltCore _ _ _ _ _ _ = _›] at h2
    · exact h2
    · exact (State.held_fltCore _ _ _ _ _ _ _).trans h2

theorem State.held_notify (s : State) (k die a b : Nat) (body : Bytes) : (s.notify k die a b body).gauge.held = s.gauge.held := by
  have h1 := s.held_notifyCore k die a b body
  unfold State.notify
  split
  all_goals rw [‹s.notifyCore _ _ _ _ _ = _›] at h1
  · exact h1
  · exact (State.held_faultWith _ _ _ _ _ _ _).trans h1

/-! ### Events counted by gauges -/

/-- The registers that a counted event writes (R393, R395). -/
def gaugeRegs : List Reg := [.GGE_CNT, .GGE_OVF, .GGE_FRZ]

/-- From `s` to `t` nothing changes but gauges and reports, and no counter comes to be held frozen. -/
structure Gauged (s t : State) : Prop where
  reports : OnlyReports (fun r _ => r ∈ gaugeRegs) s t
  held : t.gauge.held = s.gauge.held

namespace Gauged
variable {z s t u : State}

theorem refl (s : State) : Gauged s s := ⟨OnlyReports.refl _ s, rfl⟩

theorem trans (h : Gauged s t) (h' : Gauged t u) : Gauged s u := ⟨h.reports.trans h'.reports, h'.held.trans h.held⟩

theorem ite {p : Prop} [Decidable p] {a b : State} (ha : Gauged z a) (hb : Gauged z b) : Gauged z (if p then a else b) := by
  split
  · exact ha
  · exact hb

theorem setReg (h : Gauged z s) {r : Reg} {i : Nat} {v : BitVec 64} (hr : r ∈ gaugeRegs) : Gauged z (s.setReg r i v) :=
  h.trans ⟨OnlyReports.setReg s v (.inr hr), rfl⟩

theorem setFld (h : Gauged z s) {f : Fld} {i v : Nat} (hf : f.reg ∈ gaugeRegs) : Gauged z (s.setFld f i v) := h.setReg hf

theorem interrupt (h : Gauged z s) {i : Nat} : Gauged z (s.interrupt i) :=
  h.trans ⟨OnlyReports.interrupt _ s i, s.held_interrupt i⟩

theorem gaugeOverflow (h : Gauged z s) {c : Nat} : Gauged z (s.gaugeOverflow c) := by
  unfold State.gaugeOverflow
  extract_lets s1 s2 s3
  have h1 : Gauged z s1 := h.setReg (by decide)
  have h2 : Gauged z s2 := ite h1.interrupt h1
  have h3 : Gauged z s3 := (h2.setFld (by decide)).setFld (by decide)
  exact ite (ite h3 h3.interrupt) h2

theorem gaugeAdd (h : Gauged z s) {c n : Nat} : Gauged z (s.gaugeAdd c n) := by
  have hpend : Gauged z (s.pend (Reg.key .GGE_CNT c) n) := by
    unfold State.pend State.lose
    refine ite (h.trans ⟨OnlyReports.of_eq rfl rfl, rfl⟩) (ite h (h.trans ?_))
    exact ⟨(OnlyReports.setReg s _ (.inl (by decide))).trans (OnlyReports.of_eq rfl rfl), rfl⟩
  have hset : Gauged z (s.setFld F.GGE_CNT_COUNT c (s.fld F.GGE_CNT_COUNT c + n)) := h.setFld (by decide)
  exact ite h (ite hpend (ite hset hset.gaugeOverflow))

/-- An event is counted (R393). -/
theorem gauge! (h : Gauged z s) {b code v : Nat} {q : Option Nat} : Gauged z (s.gauge! b code v q) :=
  List.foldlRecOn _ _ h fun _ hu _ _ => ite (ite hu.gaugeAdd (hu.trans ⟨OnlyReports.of_eq rfl rfl, rfl⟩)) hu

end Gauged

/-! ### The writes of a commit -/

/-- The registers that applied writes touch beside those of reports. -/
def tableRegs : List Reg := [.LKP_CNT, .LKP_EVQ_STS]

/-- From `s` to `t` nothing changes but tables, what learning keeps of them, and reports. -/
structure TableStep (s t : State) : Prop where
  rest : { t with out := s.out, bus := s.bus, regs := s.regs, dma := s.dma, flt := s.flt, jrn := s.jrn, gauge := s.gauge,
                  tabs := s.tabs, tvals := s.tvals, tslots := s.tslots, stats := s.stats, meters := s.meters, learn := s.learn,
                  pipes := s.pipes } = s
  regs : RegsBut (fun r _ => r ∈ reportRegs ∨ r ∈ tableRegs) s t
  held : t.gauge.held = s.gauge.held

namespace TableStep
variable {z s t u : State}

theorem refl (s : State) : TableStep s s := ⟨rfl, RegsBut.refl _ s, rfl⟩

theorem trans (h : TableStep s t) (h' : TableStep t u) : TableStep s u where
  rest := by
    have h1 := h.rest
    have h2 := h'.rest
    rw [← h1]
    conv => rhs; rw [← h2]
  regs := h.regs.trans h'.regs
  held := h'.held.trans h.held

/-- A report, or a count of the lookup block. -/
theorem of_reports (h : TableStep z s) (hr : OnlyReports (fun r _ => r ∈ tableRegs) s t) (hh : t.gauge.held = s.gauge.held) :
    TableStep z t :=
  h.trans ⟨(congrArg (fun x : State => { x with tabs := s.tabs, tvals := s.tvals, tslots := s.tslots, stats := s.stats,
                                                meters := s.meters, learn := s.learn, pipes := s.pipes }) hr.1 :), hr.2, hh⟩

theorem setFld (h : TableStep z s) {f : Fld} {i v : Nat} (hf : f.reg ∈ tableRegs) : TableStep z (s.setFld f i v) :=
  h.of_reports (OnlyReports.setFld s v (.inr hf)) rfl

theorem setTabs (h : TableStep z s) {v : Tables} : TableStep z (s.setTabs v) := h.trans ⟨rfl, RegsBut.of_regs rfl, rfl⟩
theorem setTslot (h : TableStep z s) {i : Nat} {v : TSlot} : TableStep z (s.setTslot i v) := h.trans ⟨rfl, RegsBut.of_regs rfl, rfl⟩
theorem setTval (h : TableStep z s) {i : Nat} {v : TVal} : TableStep z (s.setTval i v) := h.trans ⟨rfl, RegsBut.of_regs rfl, rfl⟩
theorem setMeter (h : TableStep z s) {i : Nat} {v : Meter} : TableStep z (s.setMeter i v) := h.trans ⟨rfl, RegsBut.of_regs rfl, rfl⟩
theorem setStat (h : TableStep z s) {i : Nat} {v : Nat × Nat} : TableStep z (s.setStat i v) := h.trans ⟨rfl, RegsBut.of_regs rfl, rfl⟩
theorem setPipe (h : TableStep z s) {i : Nat} {v : PipeSt} : TableStep z (s.setPipe i v) := h.trans ⟨rfl, RegsBut.of_regs rfl, rfl⟩
theorem setAction (h : TableStep z s) {i : Nat} {v : BitVec 64} : TableStep z (s.setAction i v) := h.setTabs
theorem setValid (h : TableStep z s) {i : Nat} {b : Bool} : TableStep z (s.setValid i b) := h.setTval

theorem setLearning (h : TableStep z s) {d : Nat} {v : LearnSt} : TableStep z (s.setLearning d v) := by
  unfold State.setLearning
  extract_lets s1
  have h1 : TableStep z s1 := h.trans ⟨rfl, RegsBut.of_regs rfl, rfl⟩
  exact (h1.setFld (by decide)).setFld (by decide)

theorem lkpCount (h : TableStep z s) {d i n : Nat} : TableStep z (s.lkpCount d i n) :=
  h.of_reports (OnlyReports.bump s n (.inr (by decide))) (s.held_bump _ _ _)

theorem lkpNotify (h : TableStep z s) {k d a : Nat} {body : Bytes} : TableStep z (s.lkpNotify k d a body) :=
  (h.of_reports (OnlyReports.notify _ s k d a 0 body) (s.held_notify _ _ _ _ _)).lkpCount

theorem ite {p : Prop} [Decidable p] {a b : State} (ha : TableStep z a) (hb : TableStep z b) : TableStep z (if p then a else b) := by
  split
  · exact ha
  · exact hb

theorem foldl (h : TableStep z s) {α : Type} (l : List α) {f : State → α → State} (hf : ∀ u a, TableStep z u → TableStep z (f u a)) :
    TableStep z (l.foldl f s) := List.foldlRecOn l f h fun u hu a _ => hf u a hu

theorem each (h : TableStep z s) (l : List Nat) {f : State → Nat → State} (hf : ∀ u a, TableStep z u → TableStep z (f u a)) :
    TableStep z (s.each l f) := h.foldl l hf

theorem noteMove (h : TableStep z s) {d tb src dst : Nat} {key : Bytes} : TableStep z (s.noteMove d tb src dst key) := h.setLearning

theorem runPath (h : TableStep z s) {d tb : Nat} {path : List Nat} {new : HEnt} : TableStep z (s.runPath d tb path new) := by
  unfold State.runPath
  extract_lets s1 l s2
  have h1 : TableStep z s1 := h.foldl _ fun _ _ hu => by
    split
    · exact hu.noteMove
    · exact hu
  have h2 : TableStep z s2 := h1.setLearning
  exact h2.setTabs.lkpCount

theorem sessionEnd (h : TableStep z s) {d : Nat} {e : HEnt} : TableStep z (s.sessionEnd d e) := by
  unfold State.sessionEnd
  refine ite h ?_
  extract_lets l s1
  have h1 : TableStep z s1 := ite h.setLearning h
  exact ite h1.lkpNotify h1

theorem deleteEntry (h : TableStep z s) {d tb loc : Nat} : TableStep z (s.deleteEntry d tb loc) := by
  unfold State.deleteEntry
  split
  · exact h
  · exact ite h.setTabs.setLearning (ite h.setTabs.sessionEnd h.setTabs)

theorem writeEntry (h : TableStep z s) {i : Nat} {value care : Bytes} {action : BitVec 64} {val : Bool} :
    TableStep z (s.writeEntry i value care action val) := by
  unfold State.writeEntry
  extract_lets s1 s2
  have h1 : TableStep z s1 := h.each _ fun _ _ hu => hu.setTslot
  exact ite h1.setAction.setValid h1.setAction

theorem applyWrite (h : TableStep z s) {w : CWrite} {plans : List CPlan} : TableStep z (s.applyWrite w plans).1 := by
  cases w with
  | direct k i d => exact ite (h.setTabs.each _ fun _ _ hu => hu.setPipe) h.setTabs
  | meter i v => exact h.setMeter
  | stat i p b => exact h.setStat
  | group d i v => exact h.setTabs
  | insert d tb key words hw =>
    cases plans with
    | nil => exact h
    | cons p r => exact h.runPath
  | delete d tb key =>
    simp only [State.applyWrite]
    split
    · exact h.deleteEntry
    · exact h
  | twr i v k a val => exact h.each _ fun _ _ hu => hu.writeEntry
  | tinv i => exact h.each _ fun _ _ hu => hu.setValid
  | tval i => exact h.each _ fun _ _ hu => hu.setValid
  | tact i a => exact h.each _ fun _ _ hu => hu.setAction
  | pivot i v => exact h.setTabs

/-- The writes of a commit change tables, and what goes with their entries (R366). -/
theorem applyWrites (h : TableStep z s) (l : List CWrite) (plans : List CPlan) : TableStep z (s.applyWrites l plans) := by
  induction l generalizing s plans with
  | nil => exact h
  | cons w l ih => exact ih h.applyWrite _

end TableStep

end Sys2Proof.Machine
end

section
/-! PROOFS. COMMIT_APPLY: the commit that is due is refused, deferred or applied (R366, R463). -/
namespace Sys2Proof.Machine

/-- The state with other commits waiting. -/
def State.withCommits (s : State) (l : List Commit) : State := { s with chart := { s.chart with commits := l } }

theorem State.ctx_withCommits (s : State) (l : List Commit) (k : Nat) : (s.withCommits l).ctx k = s.ctx k := rfl

theorem State.withCommits_self {s : State} {l : List Commit} (h : s.chart.commits = l) : s.withCommits l = s := by
  subst h
  rfl

theorem State.edgeCommits_eq (s : State) :
    s.edgeCommits =
      let r := (s.withCommits []).takeCommits false (s.chart.commits.filter (fun c => c.due == 0))
      r.1.withCommits (r.2 ++ s.chart.commits.filter (fun c => c.due != 0)) := rfl

theorem commitApply_notDue {s : State} {m : Commit} (hm : s.chart.commits = [m]) (hdue : m.due ≠ 0) :
    exec .commitApply s = .next s.begin := by
  show Host.Outcome.next s.begin.edgeCommits = _
  have hwait : s.begin.chart.commits.filter (fun c => c.due != 0) = [m] := by simp [hm, hdue]
  have hnone : s.begin.chart.commits.filter (fun c => c.due == 0) = [] := by simp [hm, hdue]
  rw [State.edgeCommits_eq, hnone, hwait]
  exact congrArg _ (State.withCommits_self (s := s.begin) hm)

/-- The one commit that waits is due: what taking it comes to (R463). -/
theorem commitApply_due {s : State} {m : Commit} (hm : s.chart.commits = [m]) (hdue : m.due = 0) :
    exec .commitApply s = .next (let r := (s.begin.withCommits []).takeCommits false [m]; r.1.withCommits r.2) := by
  show Host.Outcome.next s.begin.edgeCommits = _
  have hnone : s.begin.chart.commits.filter (fun c => c.due != 0) = [] := by simp [hm, hdue]
  have hall : s.begin.chart.commits.filter (fun c => c.due == 0) = [m] := by simp [hm, hdue]
  rw [State.edgeCommits_eq, hall, hnone]
  simp only [List.append_nil]

theorem State.commitEnd_withCommits (s : State) (l : List Commit) (m : Commit) : (s.begin.withCommits l).commitEnd m = s.commitEnd m := by
  have hedge : (s.begin.withCommits l).edgePlans m = s.edgePlans m := by
    unfold State.edgePlans
    rw [State.planInserts_congr (u := s.begin.withCommits l) (s := s) (fun _ => rfl) rfl]
    rfl
  unfold State.commitEnd
  rw [hedge]
  rfl

/-! ### A commit that applies -/

/-- The counts of a commit that has applied `n` writes by die (R366). -/
def State.countApplied (s : State) (n : Nat × Nat) : State :=
  let w := addPair s.wrote n
  let s1 := ({ s with wrote := w }).setReg .TIK_COMMIT_STS 0 (BitVec.ofNat 64 (w.1 + w.2 * 2 ^ 16))
  (((s1.gauge! 16 0x4D n.1 (some 0)).gauge! 17 0x4D n.2 (some 0)).bump .CHT_CNT 2 1).bump .CHT_CNT 3 (n.1 + n.2)

/-- The registers that these counts write, beside those of reports. -/
def CountInst (r : Reg) (i : Nat) : Prop := r ∈ gaugeRegs ∨ r = .TIK_COMMIT_STS ∨ r = .CHT_CNT ∧ (i = 2 ∨ i = 3)

/-- From `s` to `t` a commit of `n` writes by die is counted (R366). -/
structure AppliedCounted (n : Nat × Nat) (s t : State) : Prop where
  reports : OnlyReports CountInst { s with wrote := addPair s.wrote n } t
  held : t.gauge.held = s.gauge.held
  commits : s.counts .CHT_CNT 2 → t.reg .CHT_CNT 2 = s.reg .CHT_CNT 2 + 1
  writes : s.counts .CHT_CNT 3 → t.reg .CHT_CNT 3 = s.reg .CHT_CNT 3 + BitVec.ofNat 64 (n.1 + n.2)

theorem State.countApplied_counted (s : State) (n : Nat × Nat) : AppliedCounted n s (s.countApplied n) := by
  let s0 : State := { s with wrote := addPair s.wrote n }
  let s1 := s0.setReg .TIK_COMMIT_STS 0 (BitVec.ofNat 64 ((addPair s.wrote n).1 + (addPair s.wrote n).2 * 2 ^ 16))
  let s2 := (s1.gauge! 16 0x4D n.1 (some 0)).gauge! 17 0x4D n.2 (some 0)
  have hset : OnlyReports (fun r _ => r = .TIK_COMMIT_STS) s0 s1 := OnlyReports.setReg s0 _ (.inr rfl)
  have hgauge : Gauged s1 s2 := (Gauged.refl s1).gauge!.gauge!
  have hkeep (i : Nat) : s2.reg .CHT_CNT i = s.reg .CHT_CNT i :=
    (hgauge.reports.reg (by decide) (show Reg.CHT_CNT ∉ gaugeRegs by decide)).trans
      (hset.reg (by decide) (show Reg.CHT_CNT ≠ .TIK_COMMIT_STS by decide))
  have hheld (t : State) (h : t.gauge.held = s2.gauge.held) {i : Nat} (hc : s.counts .CHT_CNT i) : t.counts .CHT_CNT i := by
    rw [State.counts, h, hgauge.held]
    exact hc
  have hbump : OnlyReports (fun r i => r = .CHT_CNT ∧ i = 2) s2 (s2.bump .CHT_CNT 2 1) := OnlyReports.bump s2 1 (.inr ⟨rfl, rfl⟩)
  have hbump' : OnlyReports (fun r i => r = .CHT_CNT ∧ i = 3) (s2.bump .CHT_CNT 2 1) (s.countApplied n) :=
    OnlyReports.bump _ _ (.inr ⟨rfl, rfl⟩)
  refine ⟨?_, ((State.held_bump _ _ _ _).trans (State.held_bump _ _ _ _)).trans hgauge.held, fun hc => ?_, fun hc => ?_⟩
  · exact (((hset.mono fun _ _ h => .inr (.inl h)).trans (hgauge.reports.mono fun _ _ h => .inl h)).trans
      (hbump.mono fun _ _ h => .inr (.inr ⟨h.1, .inl h.2⟩))).trans (hbump'.mono fun _ _ h => .inr (.inr ⟨h.1, .inr h.2⟩))
  · rw [hbump'.2 _ _ (by decide), ← hkeep]
    exact State.reg_bump_counts (hheld s2 rfl hc) 1
  · rw [← hkeep, ← hbump.2 .CHT_CNT 3 (by decide)]
    exact State.reg_bump_counts (hheld _ (State.held_bump _ _ _ _) hc) (n.1 + n.2)

/-- The program whose commit has applied at edge `tick` (R366, Table 15-6). -/
def Ctx.committed (x : Ctx) (tick : BitVec 64) : Ctx :=
  { x with staged := [], holds := false, commits := x.commits + 1, ctick := tick.toNat % 65536 }

theorem TableStep.chart {s t : State} (h : TableStep s t) : t.chart = s.chart := (congrArg State.chart h.rest :)

theorem State.commitApplied_eq {s : State} {m : Commit} {y : Ctx} (hy : s.ctx m.ctx = some y) (plans : List CPlan) (n : Nat × Nat) :
    s.commitApplied m plans n = ((((s.applyWrites m.writes plans).countApplied n).setCtx m.ctx
      (some (y.committed ((s.applyWrites m.writes plans).countApplied n).tikCount))).chartDone m.ctx) := by
  have hcount := (s.applyWrites m.writes plans).countApplied_counted n
  have hchart : ((s.applyWrites m.writes plans).countApplied n).chart = s.chart :=
    (congrArg State.chart hcount.reports.1 : _).trans ((TableStep.refl s).applyWrites m.writes plans).chart
  have hctx : ((s.applyWrites m.writes plans).countApplied n).ctx m.ctx = some y := by rw [State.ctx, hchart]; exact hy
  show (match ((s.applyWrites m.writes plans).countApplied n).ctx m.ctx with | none => _ | some x => _) = _
  rw [hctx]
  rfl

/-- What a commit of `n` writes by die leaves that has applied from `s`, its writes with the tables of `w` (R366). -/
structure Committed (m : Commit) (y : Ctx) (n : Nat × Nat) (s w t : State) : Prop where
  commits : t.chart.commits = s.chart.commits
  goesOn : y.tail = false → y.cut = false → t.ctx m.ctx = some (y.committed s.tikCount).finished
  last : y.tail = true → t.ctx m.ctx = none
  others : ∀ j, j ≠ m.ctx → t.ctx j = s.ctx j
  wrote : t.wrote = addPair s.wrote n
  queues : t.queues = s.queues
  ports : t.ports = s.ports
  tabs : t.tabs = w.tabs
  tvals : t.tvals = w.tvals
  tslots : t.tslots = w.tslots
  stats : t.stats = w.stats
  count : s.counts .CHT_CNT 2 → t.reg .CHT_CNT 2 = s.reg .CHT_CNT 2 + 1
  writes : s.counts .CHT_CNT 3 → t.reg .CHT_CNT 3 = s.reg .CHT_CNT 3 + BitVec.ofNat 64 (n.1 + n.2)

theorem DoneInst.not_applied {i : Nat} (hi : i = 2 ∨ i = 3) : ¬ DoneInst .CHT_CNT i := by
  rintro ((h | ⟨-, h⟩ | h) | ⟨-, h⟩)
  · exact EndInst.not_count h
  · omega
  · cases h
  · omega

theorem State.commitApplied_committed {s : State} {m : Commit} {y : Ctx} (hy : s.ctx m.ctx = some y) (plans : List CPlan)
    (n : Nat × Nat) : Committed m y n s (s.applyWrites m.writes plans) (s.commitApplied m plans n) := by
  rw [State.commitApplied_eq hy]
  have hw : TableStep s (s.applyWrites m.writes plans) := (TableStep.refl s).applyWrites _ _
  generalize s.applyWrites m.writes plans = w at hw
  have hc := w.countApplied_counted n
  generalize w.countApplied n = u at hc
  have hrest := hw.rest
  have hreps := hc.reports.1
  have hchart : u.chart = s.chart := (congrArg State.chart hreps : _).trans hw.chart
  have htik : u.tikCount = s.tikCount := (hc.reports.reg (r := .TIK_COUNT) (by decide) (by simp [CountInst, gaugeRegs])).trans (hw.regs .TIK_COUNT 0 (by decide))
  have hcnt (i : Nat) : w.reg .CHT_CNT i = s.reg .CHT_CNT i := hw.regs .CHT_CNT i (show ¬ (Reg.CHT_CNT ∈ reportRegs ∨ Reg.CHT_CNT ∈ tableRegs) by decide)
  have hcounts {i : Nat} (h : s.counts .CHT_CNT i) : w.counts .CHT_CNT i := by
    rw [State.counts, hw.held]
    exact h
  have hdone := State.chartDone_ends (u := u.setCtx m.ctx (some (y.committed u.tikCount))) (k := m.ctx) (y := y.committed u.tikCount)
    (by rw [State.ctx_setCtx, if_pos rfl])
  have hstep := (ChartStep.setCtx (p := DoneInst) (k := m.ctx) u (some (y.committed u.tikCount))).trans hdone.step
  have hset (i : Nat) (hi : i = 2 ∨ i = 3) := hstep.regs .CHT_CNT i (DoneInst.not_applied hi)
  rw [htik] at hdone hstep hset ⊢
  have hfin := hstep.rest
  exact {
    commits := hstep.commits.trans (congrArg ChartSt.commits hchart)
    goesOn := fun ht hcut => hdone.goesOn ht (.inl hcut)
    last := hdone.last
    others := fun j hj => (hstep.others j hj).trans (congrArg (fun c : ChartSt => SMap.get (fun _ => none) c.ctxs j) hchart)
    wrote := ((congrArg State.wrote hfin : _).trans (congrArg State.wrote hreps : _)).trans
      (congrArg (fun v : State => addPair v.wrote n) hrest : _)
    queues := ((congrArg State.queues hfin : _).trans (congrArg State.queues hreps : _)).trans (congrArg State.queues hrest : _)
    ports := ((congrArg State.ports hfin : _).trans (congrArg State.ports hreps : _)).trans (congrArg State.ports hrest : _)
    tabs := (congrArg State.tabs hfin : _).trans (congrArg State.tabs hreps : _)
    tvals := (congrArg State.tvals hfin : _).trans (congrArg State.tvals hreps : _)
    tslots := (congrArg State.tslots hfin : _).trans (congrArg State.tslots hreps : _)
    stats := (congrArg State.stats hfin : _).trans (congrArg State.stats hreps : _)
    count := fun h => by rw [hset 2 (.inl rfl), hc.commits (hcounts h), hcnt]
    writes := fun h => by rw [hset 3 (.inr rfl), hc.writes (hcounts h), hcnt] }

end Sys2Proof.Machine
end

section
/-! PROOFS. O51: commits are checked, wait for their edge, and apply, are deferred or are refused there. -/
namespace Sys2Proof.Machine

/-! ### COMMIT_APPLY of the one commit that waits -/

section
variable {s : State} {m : Commit} {y : Ctx}

theorem OnlyChart.withCommits (s : State) (k : Nat) (l : List Commit) : OnlyChart k s (s.begin.withCommits l) :=
  ⟨fun _ _ => rfl, rfl, fun _ _ _ => rfl⟩

theorem commitApply_refused (hm : s.chart.commits = [m]) (hdue : m.due = 0) (hy : s.ctx m.ctx = some y) {st : Nat}
    (hend : s.commitEnd m = .refused st) :
    s.failsWith .commitApply m.ctx y y.last st (fun s t => OnlyChart m.ctx s t ∧ t.chart.commits = []) := by
  let u := s.begin.withCommits []
  have hstep : ChartStep RefuseInst m.ctx u (u.commitRefuse m.ctx y st) := .commitRefuse u m.ctx y st
  have ht : exec .commitApply s = .next (u.commitRefuse m.ctx y st) := by
    rw [commitApply_due hm hdue]
    unfold State.takeCommits
    rw [if_neg (by decide), s.commitEnd_withCommits, hend]
    dsimp only
    rw [State.ctx_withCommits, show s.begin.ctx m.ctx = some y from hy]
    exact congrArg _ (State.withCommits_self hstep.commits)
  exact State.failsWith_commitRefuse ht rfl rfl rfl rfl fun _ =>
    ⟨(OnlyChart.withCommits s m.ctx []).trans (hstep.onlyChart fun _ _ h => h.report), hstep.commits⟩

/-- The registers that a deferral writes, beside those of reports. -/
def deferRegs : List Reg := [.TIK_COMMIT_DEFER, .TCM_CNT]

/-- The state after the deferral of the commit that is due, for slots on C0 and on C1 (R200, R463). -/
def State.deferred (s : State) (c0 c1 : Bool) : State :=
  ((s.when c0 (fun t => t.tcmCount 0 8 1)).when c1 (fun t => t.tcmCount 1 8 1)).satFld F.TIK_COMMIT_DEFER_COUNT 0 1

theorem State.deferred_effect (s : State) (c0 c1 : Bool) (h : s.fld F.TIK_COMMIT_DEFER_COUNT 0 < 65535) :
    OnlyReports (fun r _ => r ∈ deferRegs) s (s.deferred c0 c1) ∧
      (s.deferred c0 c1).fld F.TIK_COMMIT_DEFER_COUNT 0 = s.fld F.TIK_COMMIT_DEFER_COUNT 0 + 1 := by
  have hwhen (t : State) (b : Bool) (d : Nat) : OnlyReports (fun r _ => r = .TCM_CNT) t (t.when b (fun v => v.tcmCount d 8 1)) := by
    unfold State.when
    split
    · exact OnlyReports.bump t 1 (.inr rfl)
    · exact OnlyReports.refl _ t
  have h2 := (hwhen s c0 0).trans (hwhen _ c1 1)
  have hfld := h2.fld (f := F.TIK_COMMIT_DEFER_COUNT) (i := 0) (by decide) (by decide)
  refine ⟨(h2.mono fun _ _ e => e ▸ by decide).trans (OnlyReports.satFld _ 1 (.inr (by decide))), ?_⟩
  unfold State.deferred State.satFld
  rw [State.fld_setFld_self _ _ _ _ (by decide), hfld]
  show min 65535 _ % 65536 = _
  omega

theorem commitApply_deferred (hm : s.chart.commits = [m]) (hdue : m.due = 0) {c0 c1 : Bool} (hend : s.commitEnd m = .deferred c0 c1) :
    exec .commitApply s = .next (((s.begin.withCommits []).deferred c0 c1).withCommits [{ m with due := 1 }]) := by
  rw [commitApply_due hm hdue]
  unfold State.takeCommits
  rw [if_neg (by decide), s.commitEnd_withCommits, hend]
  rfl

theorem commitApply_applied (hm : s.chart.commits = [m]) (hdue : m.due = 0) (hy : s.ctx m.ctx = some y) {plans : List CPlan}
    {n : Nat × Nat} (hend : s.commitEnd m = .applied plans n) :
    ∃ t, exec .commitApply s = .next t ∧ t.chart.commits = [] ∧
      Committed m y n (s.begin.withCommits []) ((s.begin.withCommits []).applyWrites m.writes plans) t := by
  have hdone := State.commitApplied_committed (s := s.begin.withCommits []) (m := m) hy plans n
  refine ⟨_, ?_, hdone.commits, hdone⟩
  rw [commitApply_due hm hdue]
  unfold State.takeCommits
  rw [if_neg (by decide), s.commitEnd_withCommits, hend]
  exact congrArg _ (State.withCommits_self hdone.commits)

end

/-! ### What single writes leave (R150, R154, R188) -/

theorem State.each_setPipe_tables (s : State) (l : List Nat) (g : State → Nat → PipeSt) :
    let t := s.each l (fun u n => u.setPipe n (g u n))
    t.tabs = s.tabs ∧ t.tvals = s.tvals ∧ t.stats = s.stats :=
  List.foldlRecOn (motive := fun t : State => t.tabs = s.tabs ∧ t.tvals = s.tvals ∧ t.stats = s.stats) l _ ⟨rfl, rfl, rfl⟩
    fun _ h _ _ => h

/-- The data of a direct-indexed entry with its validity. -/
theorem State.applyWrites_direct (s : State) (tid idx v : Nat) (plans : List CPlan) :
    let w := s.applyWrites [.direct tid idx (some v)] plans
    w.tabs = s.tabs.setDirect tid idx ⟨true, v⟩ ∧ w.tvals = s.tvals ∧ w.stats = s.stats := by
  simp only [State.applyWrites, State.applyWrite]
  split
  · exact State.each_setPipe_tables _ _ _
  · exact ⟨rfl, rfl, rfl⟩

/-- Entries of direct-indexed tables have places of their own: 2^20 to a table. -/
theorem Tables.direct?_setDirect (t : Tables) {tid idx a b : Nat} (hi : idx < 2 ^ 20) (hb : b < 2 ^ 20) (e : DEnt) :
    (t.setDirect tid idx e).direct? a b = if a = tid ∧ b = idx then e else t.direct? a b := by
  unfold Tables.setDirect Tables.direct?
  rw [SMap.get_set]
  have hplace : tid * 2 ^ 20 + idx = a * 2 ^ 20 + b ↔ a = tid ∧ b = idx := by omega
  simp only [hplace]

theorem State.cur_setValid (s : State) (i j : Nat) (h : i = j ∨ (s.tval j).cur = false) : ((s.setValid i false).tval j).cur = false := by
  unfold State.setValid State.setTval State.tval
  rw [SMap.get_set]
  split
  · rfl
  next hne => exact h.resolve_left hne

/-- An invalidated entry is not valid, nor its twin's (R188, R197). -/
theorem State.applyWrites_tinv (s : State) (j : Nat) (plans : List CPlan) :
    let w := s.applyWrites [.tinv j] plans
    (w.tval j).cur = false ∧ w.tabs = s.tabs ∧ w.tslots = s.tslots := by
  simp only [State.applyWrites, State.applyWrite, State.entryAndTwin]
  split
  · exact ⟨State.cur_setValid _ _ j (.inr (s.cur_setValid j j (.inl rfl))), rfl, rfl⟩
  · exact ⟨s.cur_setValid j j (.inl rfl), rfl, rfl⟩

/-- A pivot holds the value on both dies (R188). -/
theorem State.applyWrites_pivot (s : State) (j v : Nat) (plans : List CPlan) {d : Nat} (hd : d < 2) :
    SMap.get (fun _ => 0) (s.applyWrites [.pivot j v] plans).tabs.piv (d * 4096 + j) = BitVec.ofNat 49 v := by
  show SMap.get (fun _ => 0) (SMap.set (fun _ => 0) (SMap.set (fun _ => 0) s.tabs.piv j _) (4096 + j) _) (d * 4096 + j) = _
  rw [SMap.get_set, SMap.get_set]
  split
  · rfl
  next h => exact if_pos (by omega)

/-- Settles O51: the checks of COMMIT are those of `exec_commit`; a commit that is due is taken alone, and `Committed` says
what it leaves when it applies. -/
theorem commitsAreCheckedAndApply : Obligations.CommitsAreCheckedAndApply := by
  refine ⟨fun q c x i e s h => execCommit_effect h, fun m y s hm hy hwait hst => ⟨commitApply_notDue hm, fun hdue => ⟨?_, ?_, ?_⟩⟩⟩
  case refine_1 => exact fun st hend => commitApply_refused hm hdue hy hend
  case refine_2 =>
    intro c0 c1 hend hlt
    obtain ⟨hreps, hcount⟩ := (s.begin.withCommits []).deferred_effect c0 c1 hlt
    have hctx : ((s.begin.withCommits []).deferred c0 c1).ctx m.ctx = some y :=
      (congrArg (fun v : State => v.ctx m.ctx) hreps.1 : _).trans hy
    refine ⟨_, commitApply_deferred hm hdue hend, hctx, rfl, (congrArg State.tabs hreps.1 :), (congrArg State.tvals hreps.1 :),
      (congrArg State.tslots hreps.1 :), hcount, fun r i hr => hreps.2 r i fun h => hr ?_⟩
    rcases h with h | h
    · exact List.mem_append.2 (.inl h)
    · refine List.mem_append.2 (.inr ?_)
      rcases List.mem_cons.1 h with rfl | h
      · decide
      · rw [List.mem_singleton.1 h]; decide
  case refine_3 =>
    intro plans n hend applies
    obtain ⟨t, ht, hnone, hdone⟩ := commitApply_applied hm hdue hy hend
    have happlies (p : State → Prop) (hp : p t) : applies p :=
      ⟨t, ht, hnone, hp, hdone.goesOn, hdone.last, hdone.others, hdone.wrote, hdone.queues, hdone.ports, hdone.count, hdone.writes⟩
    refine ⟨happlies _ trivial, fun tid idx v hw hidx => ?_, fun j hw => ?_, fun j a b hw => ?_, fun j v hw hj => ?_⟩
    all_goals rw [hw] at hdone; refine happlies _ ?_
    · obtain ⟨htabs, htvals, hstats⟩ := (s.begin.withCommits []).applyWrites_direct tid idx v plans
      have hread (a b : Nat) (hb : b < 2 ^ 20) : t.tabs.direct? a b = if a = tid ∧ b = idx then ⟨true, v⟩ else s.tabs.direct? a b := by
        rw [hdone.tabs, htabs]
        exact s.tabs.direct?_setDirect hidx hb _
      exact ⟨(hread tid idx hidx).trans (if_pos ⟨rfl, rfl⟩),
        fun a b hb hne => (hread a b hb).trans (if_neg fun h => hne.elim (fun g => g h.1) fun g => g h.2),
        hdone.tvals.trans htvals, hdone.stats.trans hstats⟩
    · obtain ⟨hcur, htabs, hslots⟩ := (s.begin.withCommits []).applyWrites_tinv j plans
      refine ⟨?_, hdone.tabs.trans htabs, hdone.tslots.trans hslots⟩
      rw [State.tval, hdone.tvals]
      exact hcur
    · have hpair (o : Nat) : t.statPair o = if j = o then (a % 2 ^ 40, b % 2 ^ 56) else s.statPair o := by
        rw [State.statPair, hdone.stats]
        exact State.statPair_setStat (s.begin.withCommits []) j o (a, b)
      exact ⟨(hpair j).trans (if_pos rfl), fun o ho => (hpair o).trans (if_neg ho.symm), hdone.tabs⟩
    · intro d hd
      rw [hdone.tabs]
      exact State.applyWrites_pivot _ j v plans hd

end Sys2Proof.Machine
end

section
/-! PROOFS. O50 fails: an operand read that a completer ends in error logs its header in AER (R305, R325), which the statement
gives no room for. -/
namespace Sys2Proof.Machine

/-- PIVW of pivot 6, its operand at 0x1000 (Table 15-1). -/
def pivotWrite : Bytes := leBytes 8 (0x25 + 2 ^ 18 + 6 * 2 ^ 32) ++ leBytes 8 0x1000

/-- PF0 is a bus master, and its submission ring 5, a CHART ring, holds a PIVW that context 0 of sequencer 0 runs next. -/
def pivotWriter : State :=
  let s := ((State.reset.setCfg 0 1 4).setFld F.DMA_SQ_STS_ENABLED 5 1).setFld F.DMA_SQ_CFG_KIND 5 2
  (s.setSq 5 { SqSt.idle with entries := [(0, pivotWrite)], begun := [(0, 0, none)] }).setCtx 0 (some (Ctx.start 5))

theorem pivotWriter_runs : pivotWriter.runs 0 0 (Ctx.start 5) 0 pivotWrite 0x25 := by
  unfold State.runs State.atEntry
  decide +kernel

theorem pivotWriter_reads : pivotWriter.unread (Ctx.start 5) 0 ∧ pivotWriter.fnMayIssue (pivotWriter.ownerOf false 5) = true ∧
    pivotWriter.readsAtOnce (pivotWriter.ownerOf false 5) [(cB pivotWrite, 8 * cCount pivotWrite)] := by
  unfold State.unread State.readsAtOnce
  decide +kernel

/-- Four free values stand for the header that AER logs: the first uncorrectable error of the function. -/
theorem pivotWriter_aborted : ∀ t, exec (.pivw 0 0 (.error .abort) []) pivotWriter = .next t → t.fresh = pivotWriter.fresh + 4 := by
  have h : (match exec (.pivw 0 0 (.error .abort) []) pivotWriter with
      | .next t => t.fresh == pivotWriter.fresh + 4
      | _ => true) = true := by decide +kernel
  intro t ht
  rw [ht] at h
  exact beq_iff_eq.1 h

/-- Refutes O50: a completer's abort ends the operand read, and the header that AER logs draws four free values, so that more
changes than the program, the ring, reports and the function's configuration. -/
theorem not_chartStagesWrites : ¬ Obligations.ChartStagesWrites := by
  intro h
  obtain ⟨-, -, -, -, hreads⟩ := h 0 0 (Ctx.start 5) 0 pivotWrite (.error .abort) [] [] pivotWriter
  obtain ⟨-, -, -, hfail, -⟩ := hreads 0x25 (8 * cCount pivotWrite) (.pivw 0 0 (.error .abort) []) (by simp only [List.mem_cons, true_or, or_true]) pivotWriter_runs
  obtain ⟨hunread, hmay, honce⟩ := pivotWriter_reads
  obtain ⟨t, ht, ⟨-, honly, -⟩, -⟩ := hfail hunread hmay honce ⟨.abort, .inl rfl⟩
  have hfresh : t.fresh = pivotWriter.fresh := (congrArg State.fresh honly :)
  rw [pivotWriter_aborted t ht] at hfresh
  omega

end Sys2Proof.Machine
end

section
/-! PROOFS. The tick period: arming, replacing, cancelling and applying a change (R40, R41, R43). -/
namespace Sys2Proof.Machine

/-- What a field of a register would hold after a write of the low 32 bits. -/
theorem wfld_low32 (old : BitVec 64) (v : BitVec 32) {lsb w : Nat} (h : lsb + w ≤ 32) :
    wfld old low32 (v.setWidth 64) lsb w = v.toNat / 2 ^ lsb % 2 ^ w := by
  rw [wfld, ← getField_setWidth]
  refine Nat.eq_of_testBit_eq fun b => ?_
  rw [testBit_getField, testBit_getField]
  by_cases hb : b < w
  · have hlow : low32.getLsbD (lsb + b) = true := by
      rw [getLsbD_low32]
      exact decide_eq_true (by omega)
    simp [hlow]
  · simp [hb]

theorem goodPeriod_iff (c : Nat) : goodPeriod c = true ↔ 600 ≤ c ∧ c ≤ 4800 ∧ c % 8 = 0 := by
  unfold goodPeriod
  simp [and_assoc]

/-- A field of TIK_PERIOD_NEXT, all of which is RW, after it has been written whole. -/
theorem State.fld_plainWrite_periodNext (s : State) (v : BitVec 32) {lsb w : Nat} (h : lsb + w ≤ 15) :
    getField ((s.plainWrite .TIK_PERIOD_NEXT 0 low32 (v.setWidth 64)).reg .TIK_PERIOD_NEXT 0) lsb w = v.toNat / 2 ^ lsb % 2 ^ w := by
  have hrw (b : Nat) (hb : b < 15) : (Reg.rwMask .TIK_PERIOD_NEXT).getLsbD b = true := by
    revert b
    decide
  rw [State.reg_plainWrite, show low32 = Reg.wordMask .TIK_PERIOD_NEXT from rfl,
    Reg.getField_written_rw _ _ fun b hb => ⟨show lsb + b < 32 by omega, hrw _ (by omega)⟩, getField_setWidth]

/-- A taken write of TIK_PERIOD_NEXT that would arm a period outside 600 to 4,800 clocks, or no multiple of 8 (R41). -/
def badPeriodWrite (v : BitVec 32) : Prop :=
  v.toNat / 8192 % 2 = 1 ∧ ¬ (600 ≤ v.toNat % 8192 ∧ v.toNat % 8192 ≤ 4800 ∧ v.toNat % 8192 % 8 = 0)

theorem exec_periodArm {a : Agent} {s : State} (h : s.takes a .TIK_PERIOD_NEXT 0) (v : BitVec 32) :
    let u := s.begin.touch a (Reg.key .TIK_PERIOD_NEXT 0)
    (badPeriodWrite v → exec (.periodArm a v) s = .next (u.setFld F.TIK_SYNC_STS_BADPER 0 1)) ∧
      (¬ badPeriodWrite v → exec (.periodArm a v) s = .next (u.plainWrite .TIK_PERIOD_NEXT 0 low32 (v.setWidth 64))) := by
  intro u
  have hexec : exec (.periodArm a v) s = .next (u.writePeriodNext low32 (v.setWidth 64)) :=
    congrArg _ (writeBy_takes h fun t => t.writePeriodNext low32 (v.setWidth 64))
  have hbad : (wfld (u.reg .TIK_PERIOD_NEXT 0) low32 (v.setWidth 64) 13 1 = 1 &&
      !goodPeriod (wfld (u.reg .TIK_PERIOD_NEXT 0) low32 (v.setWidth 64) 0 13)) = true ↔ badPeriodWrite v := by
    rw [wfld_low32 _ _ (by decide), wfld_low32 _ _ (by decide), Nat.pow_zero, Nat.div_one]
    simp only [Bool.and_eq_true, decide_eq_true_eq, Bool.not_eq_true', ← Bool.not_eq_true, goodPeriod_iff]
    rfl
  unfold State.writePeriodNext at hexec
  exact ⟨fun hb => by rw [hexec, if_pos (hbad.2 hb)], fun hb => by rw [hexec, if_neg (mt hbad.1 hb)]⟩

theorem State.periodDue_iff (s : State) : s.periodDue = true ↔ s.fld F.TIK_CLK_CLK 0 = 0 ∧ s.fld F.TIK_PERIOD_NEXT_ARM 0 = 1 ∧
    s.eff F.TIK_PERIOD_NEXT_ARM 0 = 1 ∧ (s.eff F.TIK_PERIOD_NEXT_IMM 0 = 1 ∨ s.tikCount.toNat % 2 ^ 32 = s.eff F.TIK_PERIOD_AT_AT 0) := by
  unfold State.periodDue State.atEdge State.bit State.effBit
  simp only [Bool.and_eq_true, Bool.or_eq_true, beq_iff_eq, and_assoc]

/-- The state in which an armed change has applied: the tick that begins has the new length (R41, R45). -/
def State.periodApplied (s : State) : State :=
  let l := tickOf (s.eff F.TIK_PERIOD_NEXT_CLOCKS 0) s.tick.adjust s.tick.stepped
  let s1 := (s.setFld F.TIK_PERIOD_CLOCKS 0 (s.eff F.TIK_PERIOD_NEXT_CLOCKS 0)).disarmPeriod
  { s1 with tick := { s1.tick with len := l.1, remainder := l.2 } }

theorem State.reg_periodApplied (s : State) (r : Reg) (i : Nat) : s.periodApplied.reg r i =
    ((s.setFld F.TIK_PERIOD_CLOCKS 0 (s.eff F.TIK_PERIOD_NEXT_CLOCKS 0)).setFld F.TIK_PERIOD_NEXT_ARM 0 0).reg r i := rfl

theorem State.clocks_periodApplied (s : State) : s.periodApplied.fld F.TIK_PERIOD_CLOCKS 0 = s.eff F.TIK_PERIOD_NEXT_CLOCKS 0 := by
  have hlt : s.eff F.TIK_PERIOD_NEXT_CLOCKS 0 < 2 ^ 13 := BitVec.isLt _
  rw [State.fld, State.reg_periodApplied]
  refine (State.fld_setFld_ne _ F.TIK_PERIOD_NEXT_ARM F.TIK_PERIOD_CLOCKS 0 0 0 (.inl (by decide))).trans ?_
  rw [State.fld_setFld_self _ _ _ _ (by decide)]
  exact Nat.mod_eq_of_lt hlt

theorem State.regs_periodApplied (s : State) :
    RegsBut (fun r _ => r = .TIK_PERIOD ∨ r = .TIK_PERIOD_NEXT) s s.periodApplied := by
  have hclocks := RegsBut.setFld (p := fun r _ => r = .TIK_PERIOD ∨ r = .TIK_PERIOD_NEXT) s (f := F.TIK_PERIOD_CLOCKS) (i := 0)
    (s.eff F.TIK_PERIOD_NEXT_CLOCKS 0) (.inl rfl)
  exact fun r i h => (s.reg_periodApplied r i).trans ((hclocks.trans (.setFld _ 0 (.inr rfl))) r i h)

theorem exec_periodChangeApply (s : State) :
    exec .periodChangeApply s = .next (if s.begin.periodDue then s.begin.periodApplied else s.begin) := by
  show execPeriodChangeApply s = _
  unfold execPeriodChangeApply
  dsimp only
  split <;> rfl

/-- Settles O13: a write of TIK_PERIOD_NEXT is taken or discarded by the fields it would leave, and the change applies in the
first clock of the tick at whose edge it stood due. -/
theorem tickPeriodChanges : Obligations.TickPeriodChanges := by
  refine ⟨fun a v s htakes => ?_, fun s hclk harm hforce hdue => ?_, fun s hnot => ?_⟩
  · obtain ⟨hbad, hgood⟩ := exec_periodArm htakes v
    have htouch (p : Reg → Nat → Prop) : OnlyRegs p s (s.begin.touch a (Reg.key .TIK_PERIOD_NEXT 0)) := .begin_touch p s a _
    refine ⟨fun hb => ⟨_, hbad hb, ?_, (htouch _).trans (.setFld _ _ rfl)⟩,
      fun hg => ⟨_, hgood hg, ?_, ?_, ?_, (htouch _).trans (.setReg _ _ rfl)⟩⟩
    · rw [State.fld_setFld_self _ _ _ _ (by decide)]
      rfl
    · refine (State.fld_plainWrite_periodNext _ v (lsb := 0) (w := 13) (by decide)).trans ?_
      rw [Nat.pow_zero, Nat.div_one]
      rfl
    · exact State.fld_plainWrite_periodNext _ v (lsb := 13) (w := 1) (by decide)
    · exact State.fld_plainWrite_periodNext _ v (lsb := 14) (w := 1) (by decide)
  · have hdue' : s.begin.periodDue = true := s.begin.periodDue_iff.2 ⟨hclk, harm, hforce, hdue⟩
    refine ⟨s.begin.periodApplied, by rw [exec_periodChangeApply, if_pos hdue'], s.begin.clocks_periodApplied, ?_, ?_, rfl, ?_, rfl,
      s.begin.regs_periodApplied⟩
    · exact State.fld_setFld_self _ F.TIK_PERIOD_NEXT_ARM 0 0 (by decide)
    · refine (State.fld_setFld_ne _ F.TIK_PERIOD_NEXT_ARM F.TIK_PERIOD_NEXT_CLOCKS 0 0 0 (by decide)).trans ?_
      exact State.fld_setFld_ne _ F.TIK_PERIOD_CLOCKS F.TIK_PERIOD_NEXT_CLOCKS 0 0 _ (.inl (by decide))
    · intro hadjust hstep
      show (tickOf (s.eff F.TIK_PERIOD_NEXT_CLOCKS 0) s.tick.adjust s.tick.stepped).1 = _
      rw [hadjust, hstep]
      simp [tickOf]
  · have hnotDue : ¬ s.begin.periodDue = true := fun h => by
      obtain ⟨hclk, harm, hforce, hdue⟩ := s.begin.periodDue_iff.1 h
      rcases hnot with h | h | h | ⟨himm, hat⟩
      · exact h hclk
      · exact absurd (harm.symm.trans h) (by decide)
      · exact absurd (hforce.symm.trans h) (by decide)
      · exact hdue.elim (fun h => absurd (h.symm.trans himm) (by decide)) hat
    rw [exec_periodChangeApply, if_neg hnotDue]
    rfl

end Sys2Proof.Machine
end

section
/-! PROOFS. A step: the command at the front of the queue, or a core clock that passes (R40, R414). -/
namespace Sys2Proof.Machine

theorem step_pending {s : State} {c : Instr} {rest : List Instr} (h : s.pending = c :: rest) :
    step s = exec c { s with pending := rest } := by
  unfold step
  rw [h]

theorem step_idle {s : State} (h : s.pending = []) : step s = .next s.begin.clock := by
  unfold step
  rw [h]

/-! ### The watchdog is no counter of Gauge, and no clock -/

theorem State.boot_gaugeAdd (s : State) (c n : Nat) : (s.gaugeAdd c n).boot = s.boot :=
  (congrArg State.boot (Gauged.refl s).gaugeAdd.reports.1 :)

/-- Clocks that pass are counted by the watchdog (R414). -/
theorem State.boot_passClocks (s : State) {n : Nat} (hn : n ≠ 0) :
    (s.passClocks n).boot = { s.boot with wdog := s.boot.wdog - n } := by
  have htod : (s.todClocks n).boot = s.boot := by
    unfold State.todClocks State.setTod
    split <;> rfl
  have hgauge (t : State) (l : List Nat) (level : State → Nat → Option Nat) :
      (t.each l (fun u c => u.gaugePass n c (level u c))).boot = t.boot :=
    List.foldlRecOn (motive := fun u : State => u.boot = t.boot) l _ rfl fun u hu c _ => (u.boot_gaugeAdd c _).trans hu
  unfold State.passClocks
  rw [if_neg hn]
  dsimp only
  rw [hgauge _ _ fun t c => t.levelOf (gaugeBlock c) (t.eff F.GGE_CTL_EVENT c) (fun q => t.gaugeQual c (some q)), htod]

theorem State.imageRuns_iff (s : State) : s.imageRuns = true ↔ s.curMode ≠ 0 ∧ 3 ≤ s.boot.step := by
  unfold State.imageRuns
  simp

/-- Settles O1, by the three states of the clock on an empty queue: counting, counting for the watchdog only, and still. -/
theorem stepRunsFront : Obligations.StepRunsFront := by
  refine ⟨fun c rest s h => step_pending h, fun s hnone hmode hboot hlen hclk => ?_, fun s hnone hmode hboot => ?_, fun s hnone h => ?_⟩
  · have hon : s.begin.clockOn = true := s.begin.clockOn_iff.2 ⟨hmode, hboot⟩
    have hstep : step s = .next ((s.begin.passClocks 1).setFld F.TIK_CLK_CLK 0 (s.fld F.TIK_CLK_CLK 0 + 1)) := by
      rw [step_idle hnone, State.clock, if_pos hon]
      exact congrArg _ (if_pos hlen)
    have hpass : Steady .early s.begin (s.begin.passClocks 1) := (Steady.refl _ _).passClocks
    refine ⟨_, hstep, ?_, ?_, ?_, ?_⟩
    · rw [State.fld_setFld_self _ _ _ _ (by decide)]
      exact Nat.mod_eq_of_lt (show s.fld F.TIK_CLK_CLK 0 + 1 < 8192 by omega)
    · exact (State.reg_setReg_ne (by decide)).trans hpass.tikCount
    · exact congrArg BootSt.wdog (s.begin.boot_passClocks (n := 1) (by decide))
    · exact (keeps_passClocks (Keeps.rfl' s.begin) 1).pending.trans hnone
  · have hoff : ¬ s.begin.clockOn = true := fun h => by
      have h4 : 4 ≤ s.boot.step := (s.begin.clockOn_iff.1 h).2
      omega
    have hruns : s.begin.imageRuns = true := s.begin.imageRuns_iff.2 ⟨hmode, Nat.le_of_eq hboot.symm⟩
    rw [step_idle hnone, State.clock, if_neg hoff, if_pos hruns]
    rfl
  · rw [step_idle hnone, State.clock]
    rcases h with hmode | hboot | ⟨hboot, hlen⟩
    · rw [if_neg fun h => (s.begin.clockOn_iff.1 h).1 hmode, if_neg fun h => (s.begin.imageRuns_iff.1 h).1 hmode]
      rfl
    · have hlt : s.begin.boot.step < 3 := hboot
      rw [if_neg fun h => absurd (s.begin.clockOn_iff.1 h).2 (by omega), if_neg fun h => absurd (s.begin.imageRuns_iff.1 h).2 (by omega)]
      rfl
    · have hlast : ¬ s.begin.fld F.TIK_CLK_CLK 0 + 1 < s.begin.tick.len := Nat.not_lt.2 hlen
      rw [if_neg hlast]
      by_cases hmode : s.curMode = 0
      · rw [if_neg fun h => (s.begin.clockOn_iff.1 h).1 hmode, if_neg fun h => (s.begin.imageRuns_iff.1 h).1 hmode]
        rfl
      · rw [if_pos (s.begin.clockOn_iff.2 ⟨hmode, hboot⟩)]
        rfl

end Sys2Proof.Machine
end

section
/-! PROOFS. The egress scheduler: its choice, what it charges, and the copy it selects (R260 to R267). -/
namespace Sys2Proof.Machine

/-! ### The choice of R263 -/

/-- DWRR chooses an eligible member of the ring. -/
theorem dwrrFrom_ok {ring : List Member} {b b' : BufSt} {i j n : Nat} (h : dwrrFrom ring b i n = some (j, b')) :
    ∃ m, ring[j]? = some m ∧ m.ok = true := by
  induction n generalizing b i with
  | zero => cases h
  | succ n ih =>
    unfold dwrrFrom at h
    split at h
    · cases h
    next x hx =>
      split at h
      next hok =>
        cases h
        rw [Bool.and_eq_true] at hok
        exact ⟨x, hx, hok.1⟩
      next =>
        dsimp only at h
        split at h
        · cases h
        · exact ih h

theorem dwrr_ok {node : Nat} {first : Option Nat} {ring : List Member} {b b' : BufSt} {m : Member}
    (h : dwrr node first ring b = some (m, b')) : m ∈ ring ∧ m.ok = true := by
  unfold dwrr at h
  dsimp only at h
  split at h
  next j b1 hj =>
    obtain ⟨x, hx, hok⟩ := dwrrFrom_ok hj
    rw [hx] at h
    cases h
    exact ⟨List.mem_of_getElem? hx, hok⟩
  next => cases h

/-- The last number of a range with a property. -/
theorem getLast?_filter_range {n x : Nat} (p : Nat → Bool) (hx : x < n) (hp : p x = true) (hlast : ∀ y, x < y → y < n → p y = false) :
    ((List.range n).filter p).getLast? = some x := by
  induction n with
  | zero => omega
  | succ n ih =>
    rw [List.range_succ, List.filter_append]
    rcases Nat.lt_or_eq_of_le (Nat.le_of_lt_succ hx) with hlt | rfl
    · rw [show [n].filter p = [] by simp [hlast n hlt (Nat.lt_succ_self n)], List.append_nil]
      exact ih hlt fun y h1 h2 => hlast y h1 (Nat.lt_succ_of_lt h2)
    · rw [show [x].filter p = [x] by simp [hp], List.getLast?_concat]

/-- With an eligible strict-priority class the choice lies in the highest of them, and no DWRR of classes is charged (R263). -/
theorem State.choose_strict {s : State} {d lp x : Nat} {cls leaf : Option Nat} {mem : Nat} {b : BufSt} (hx : x < 8)
    (hsp : bitOf (s.eff F.SCH_PORT_SP (d * 75 + lp)) x = true) (hok : (s.classMember d lp x).ok = true)
    (hlast : ∀ y, x < y → y < 8 → bitOf (s.eff F.SCH_PORT_SP (d * 75 + lp)) y = true → (s.classMember d lp y).ok = false)
    (h : s.choose d lp = some (cls, mem, leaf, b)) : cls = none ∧ ∃ m, m ∈ s.classRing d lp x ∧ m.node = mem ∧ m.ok = true := by
  have hstrict : (((List.range 8).map (fun c => (c, s.classMember d lp c))).filter
      (fun e => bitOf (s.eff F.SCH_PORT_SP (d * 75 + lp)) e.1 && e.2.ok)).getLast? = some (x, s.classMember d lp x) := by
    rw [List.filter_map, List.getLast?_map, getLast?_filter_range (x := x) _ hx]
    · rfl
    · simp [hsp, hok]
    · intro y hxy hy
      by_cases hb : bitOf (s.eff F.SCH_PORT_SP (d * 75 + lp)) y = true
      · simp [hlast y hxy hy hb]
      · simp [hb]
  unfold State.choose at h
  dsimp only at h
  rw [hstrict] at h
  simp only [Option.bind_some] at h
  obtain ⟨⟨m, b1⟩, hm, hrest⟩ := Option.bind_eq_some_iff.1 h
  obtain ⟨hmem, hmok⟩ := dwrr_ok hm
  split at hrest
  · obtain ⟨l, -, hl⟩ := Option.map_eq_some_iff.1 hrest
    cases hl
    exact ⟨rfl, m, hmem, rfl, hmok⟩
  · cases hrest
    exact ⟨rfl, m, hmem, rfl, hmok⟩

/-! ### What a selection charges -/

/-- The token registers that a selection charges (R267). -/
def tokenRegs : List Reg := [.SCH_PORT_TOK, .SCH_Q_TOK, .SCH_GRP_TOK]

/-- From `s` to `t` a selection for queue `k` is charged: deficits, tokens and the turn move. -/
structure Charged (k : Nat) (s t : State) : Prop where
  rest : { t with bufs := s.bufs, queues := s.queues, pipes := s.pipes, regs := s.regs } = s
  regs : RegsBut (fun r _ => r ∈ tokenRegs) s t
  queue : { t.queue k with tok := (s.queue k).tok } = s.queue k
  queues : ∀ j, j ≠ k → t.queue j = s.queue j
  egress : ∀ n, (t.pipe n).egress = (s.pipe n).egress

namespace Charged
variable {k : Nat} {s t u : State}

theorem refl (k : Nat) (s : State) : Charged k s s := ⟨rfl, RegsBut.refl _ s, rfl, fun _ _ => rfl, fun _ => rfl⟩

theorem trans (h : Charged k s t) (h' : Charged k t u) : Charged k s u where
  rest := by
    have h1 := h.rest
    have h2 := h'.rest
    rw [← h1]
    conv => rhs; rw [← h2]
  regs := h.regs.trans h'.regs
  queue := by
    have h1 := h.queue
    have h2 := h'.queue
    rw [← h1]
    conv => rhs; rw [← h2]
  queues j hj := (h'.queues j hj).trans (h.queues j hj)
  egress n := (h'.egress n).trans (h.egress n)

theorem setBuf (s : State) (d : Nat) (b : BufSt) : Charged k s (s.setBuf d b) :=
  ⟨rfl, RegsBut.of_regs rfl, rfl, fun _ _ => rfl, fun _ => rfl⟩

theorem chargeReg (s : State) (shp : Reg) {tok : Reg} (i : Nat) (cost : Int) (h : tok ∈ tokenRegs) :
    Charged k s (s.chargeReg shp tok i cost) := by
  unfold State.chargeReg
  split
  · exact ⟨rfl, RegsBut.setReg s _ h, rfl, fun _ _ => rfl, fun _ => rfl⟩
  · exact refl k s

theorem chargeLeaf (s : State) (d q : Nat) (cost : Int) : Charged (d * 65536 + q) s (s.chargeLeaf d q cost) := by
  unfold State.chargeLeaf
  split
  · refine ⟨rfl, RegsBut.of_regs rfl, ?_, fun j hj => ?_, fun _ => rfl⟩
    · rw [State.queue_setQueue, if_pos rfl]
    · rw [State.queue_setQueue, if_neg hj.symm]
  · exact refl _ s

theorem takeTurn (s : State) (d lp : Nat) : Charged k s (s.takeTurn d lp) := by
  unfold State.takeTurn
  split
  · exact refl k s
  next n i _ =>
    refine ⟨rfl, RegsBut.of_regs rfl, rfl, fun _ _ => rfl, fun m => ?_⟩
    rw [State.pipe_setPipe]
    split
    next e => rw [e]
    next => rfl

end Charged

/-! ### What a selection reads is not charged -/

section
variable {k : Nat} {s u : State}

theorem Charged.copies (h : Charged k s u) : u.copies = s.copies := (congrArg State.copies h.rest :)

theorem Charged.firstCopy (h : Charged k s u) : u.firstCopy k = s.firstCopy k := by
  have hcopy (id : Nat) : u.copy id = s.copy id := by rw [State.copy, State.copy, h.copies]
  have hqueue := h.queue
  have hchain : (u.queue k).chain = (s.queue k).chain := (congrArg QSt.chain hqueue :)
  have hspill : (u.queue k).spill = (s.queue k).spill := (congrArg QSt.spill hqueue :)
  have hwhole (q : QSt) (n : Nat) : u.noWhole q n = s.noWhole q n := by simp only [State.noWhole, hcopy]
  have hstarved : u.starved k = s.starved k := by
    simp only [State.starved, hspill, hwhole]
    simp only [State.noWhole, hchain]
  simp only [State.firstCopy, hchain, hcopy, hstarved]

/-- The copy as it is selected from state `s` (R49, R100, R118, R262). -/
def State.asSelected (s : State) (c : Copy) : Copy :=
  let n := if c.port < 128 then c.port / 8 else c.port - 144
  { c with sel := true, len := c.bytes.length, tag := s.tag, egSet := s.activeSet n 1, egBudget := s.budget n 1 }

theorem Charged.asSelected (h : Charged k s u) (c : Copy) : u.asSelected c = s.asSelected c := by
  have hforce : u.inForce = s.inForce := (congrArg State.inForce h.rest :)
  have htag : u.tag = s.tag := by
    unfold State.tag State.fld
    rw [h.regs .TIK_COUNT 0 (by decide)]
  have hset (n : Nat) : u.activeSet n 1 = s.activeSet n 1 := by
    unfold State.activeSet State.fld
    rw [if_neg (by decide), if_neg (by decide), h.regs .STE_IMG n (show Reg.STE_IMG ∉ tokenRegs by decide)]
  have hbudget (n : Nat) : u.budget n 1 = s.budget n 1 := by
    unfold State.budget State.eff State.regInForce
    rw [hforce]
  simp only [State.asSelected, htag, hset, hbudget]

end

/-! ### The copy that is selected -/

/-- From `s` to `t` copy `id`, which is `c`, goes to its egress pipeline, or past it to its port (R108, R262). -/
def Handed (id : Nat) (c : Copy) (s t : State) : Prop :=
  let n := if c.port < 128 then c.port / 8 else c.port - 144
  if (c.port < 128 ∧ s.isYarn c.port = false) ∨ 144 ≤ c.port then (t.pipe n).egress = (s.pipe n).egress ++ [id] ∧ t.txq = s.txq
  else SMap.get (fun _ => []) t.txq c.port = SMap.get (fun _ => []) s.txq c.port ++ [id] ∧ ∀ m, (t.pipe m).egress = (s.pipe m).egress

/-- From `s` to `t` the copy `id` of queue `k`, which is `c`, is selected (R262). -/
structure Selected (k id : Nat) (c : Copy) (s t : State) : Prop where
  chain : (t.queue k).chain = (s.queue k).chain.drop 1
  copy : t.copy id = some (s.asSelected c)
  copies : ∀ j, j ≠ id → t.copy j = s.copy j
  queues : ∀ j, j ≠ k → t.queue j = s.queue j
  handed : Handed id c s t
  tabs : t.tabs = s.tabs
  ports : t.ports = s.ports

theorem State.handOver_pipe {s : State} {id : Nat} {c : Copy} (h : (c.port < 128 ∧ s.isYarn c.port = false) ∨ 144 ≤ c.port) :
    let n := if c.port < 128 then c.port / 8 else c.port - 144
    s.handOver id c = s.setPipe n { s.pipe n with egress := (s.pipe n).egress ++ [id] } := by
  have hcond : ((c.port < 128 && !s.effBit F.MAC_PORT_CFG_YARN c.port) || 144 ≤ c.port) = true := by
    rcases h with ⟨h1, h2⟩ | h
    · rw [State.isYarn, decide_eq_true h1, Bool.true_and] at h2
      simp [h1, h2]
    · simp [h]
  unfold State.handOver
  exact if_pos hcond

theorem State.handOver_port {s : State} {id : Nat} {c : Copy} (h : ¬ ((c.port < 128 ∧ s.isYarn c.port = false) ∨ 144 ≤ c.port)) :
    s.handOver id c = { s with txq := SMap.set (fun _ => []) s.txq c.port (SMap.get (fun _ => []) s.txq c.port ++ [id]) } := by
  have hcond : ¬ ((c.port < 128 && !s.effBit F.MAC_PORT_CFG_YARN c.port) || 144 ≤ c.port) = true := by
    obtain ⟨h1, h2⟩ := not_or.1 h
    simp only [Bool.or_eq_true, Bool.and_eq_true, decide_eq_true_eq, h2, or_false]
    rintro ⟨hp, hy⟩
    refine h1 ⟨hp, ?_⟩
    rw [State.isYarn, decide_eq_true hp, Bool.true_and]
    simpa using hy
  unfold State.handOver
  exact if_neg hcond

theorem State.handOver_handed (s : State) (id : Nat) (c : Copy) : Handed id c s (s.handOver id c) := by
  unfold Handed
  by_cases h : (c.port < 128 ∧ s.isYarn c.port = false) ∨ 144 ≤ c.port
  · rw [if_pos h, State.handOver_pipe h]
    refine ⟨?_, rfl⟩
    rw [State.pipe_setPipe, if_pos rfl]
  · rw [if_neg h, State.handOver_port h]
    exact ⟨by rw [SMap.get_set, if_pos rfl], fun _ => rfl⟩

/-- What is left of the state where a copy is handed over. -/
theorem State.handOver_rest (s : State) (id : Nat) (c : Copy) :
    { s.handOver id c with pipes := s.pipes, txq := s.txq } = s := by
  by_cases h : (c.port < 128 ∧ s.isYarn c.port = false) ∨ 144 ≤ c.port
  · rw [State.handOver_pipe h]
    rfl
  · rw [State.handOver_port h]

theorem State.selectFrom_selected {s : State} {k id : Nat} {c : Copy} (h : s.firstCopy k = some (id, c)) :
    Selected k id c s (s.selectFrom k) ∧ (s.selectFrom k).regs = s.regs ∧ (s.selectFrom k).gauge = s.gauge := by
  let s1 := s.setQueue k { s.queue k with
    chain := (s.queue k).chain.drop 1
    spill := (s.queue k).spill.map (fun p => { p with head := p.head - c.cells.length }) }
  let s2 := s1.setCopy id (some (s.asSelected c))
  have hsel : s.selectFrom k = s2.handOver id (s.asSelected c) := by
    unfold State.selectFrom
    rw [h]
    rfl
  have hrest := s2.handOver_rest id (s.asSelected c)
  have hqueue (j : Nat) : (s2.handOver id (s.asSelected c)).queue j = s1.queue j :=
    (congrArg (fun v : State => v.queue j) hrest : _)
  have hcopy (j : Nat) : (s2.handOver id (s.asSelected c)).copy j = s2.copy j := (congrArg (fun v : State => v.copy j) hrest : _)
  rw [hsel]
  refine ⟨⟨?_, ?_, fun j hj => ?_, fun j hj => ?_, s2.handOver_handed id (s.asSelected c), (congrArg State.tabs hrest :),
    (congrArg State.ports hrest :)⟩, (congrArg State.regs hrest :), (congrArg State.gauge hrest :)⟩
  · rw [hqueue, State.queue_setQueue, if_pos rfl]
  · rw [hcopy, State.copy_setCopy, if_pos rfl]
  · rw [hcopy, State.copy_setCopy, if_neg hj.symm]
    rfl
  · rw [hqueue, State.queue_setQueue, if_neg hj.symm]

/-- Reports and counts leave the copy selected. -/
theorem Selected.reports {p : Reg → Nat → Prop} {k id : Nat} {c : Copy} {s t u : State} (h : Selected k id c s t)
    (hr : OnlyReports p t u) : Selected k id c s u := by
  have hrest := hr.1
  have hqueue (j : Nat) : u.queue j = t.queue j := (congrArg (fun v : State => v.queue j) hrest : _)
  have hcopy (j : Nat) : u.copy j = t.copy j := (congrArg (fun v : State => v.copy j) hrest : _)
  have hpipe (j : Nat) : u.pipe j = t.pipe j := (congrArg (fun v : State => v.pipe j) hrest : _)
  have htxq : u.txq = t.txq := (congrArg State.txq hrest : _)
  refine ⟨by rw [hqueue]; exact h.chain, by rw [hcopy]; exact h.copy, fun j hj => (hcopy j).trans (h.copies j hj),
    fun j hj => (hqueue j).trans (h.queues j hj), ?_, (congrArg State.tabs hrest : _).trans h.tabs,
    (congrArg State.ports hrest : _).trans h.ports⟩
  have hh := h.handed
  unfold Handed at hh ⊢
  simp only [hpipe, htxq]
  exact hh

/-- A selection after its charges is one from the state before. -/
theorem Selected.charged {k id : Nat} {c : Copy} {s t u : State} (hc : Charged k s t) (h : Selected k id c t u) : Selected k id c s u := by
  have hrest := hc.rest
  have hchain : (t.queue k).chain = (s.queue k).chain := (congrArg QSt.chain hc.queue :)
  have hyarn (p : Nat) : t.isYarn p = s.isYarn p := (congrArg (fun v : State => v.isYarn p) hrest : _)
  have htxq : t.txq = s.txq := (congrArg State.txq hrest : _)
  refine ⟨h.chain.trans (congrArg _ hchain), by rw [h.copy, hc.asSelected], fun j hj => (h.copies j hj).trans ?_,
    fun j hj => (h.queues j hj).trans (hc.queues j hj), ?_, h.tabs.trans (congrArg State.tabs hrest : _),
    h.ports.trans (congrArg State.ports hrest : _)⟩
  · rw [State.copy, State.copy, hc.copies]
  · have hh := h.handed
    unfold Handed at hh ⊢
    simp only [hyarn, htxq, hc.egress] at hh
    exact hh

/-! ### EGRESS_SELECT -/

theorem State.portEligible_begin (s : State) (d lp : Nat) : s.begin.portEligible d lp = s.portEligible d lp := rfl

theorem State.choose_begin (s : State) (d lp : Nat) : s.begin.choose d lp = s.choose d lp := rfl

theorem State.isTurn_begin (s : State) (d lp : Nat) : s.begin.isTurn d lp = s.isTurn d lp := rfl

/-- What a selection for a local port charges, by the nodes that the choice goes through (R263, R267). -/
def State.chargeSelection (s : State) (d lp : Nat) (cls : Option Nat) (mem : Nat) (leaf : Option Nat) (b : BufSt) : State :=
  let q := leaf.getD mem - 8192
  let len := (s.firstCopy (d * 65536 + q)).elim 0 (fun e => e.2.bytes.length)
  let s1 := s.setBuf d ((cls.toList ++ [mem] ++ leaf.toList).foldl (fun a x => a.setDeficit x (a.deficit x - (len : Int))) b)
  let cost := s1.shapeCost d len
  let s2 := s1.chargeReg .SCH_PORT_SHP .SCH_PORT_TOK (d * 75 + lp) cost
  let s3 := match leaf with
    | some l => (s2.chargeReg .SCH_GRP_SHP .SCH_GRP_TOK (d * 4096 + (mem - 1024)) cost).chargeLeaf d (l - 8192) cost
    | none => s2.chargeReg .SCH_Q_SHP .SCH_Q_TOK ((d * 75 + lp) * 10 + (q - 32768) % 16) cost
  s3.takeTurn d lp

theorem State.chargeSelection_charged (s : State) (d lp : Nat) (cls : Option Nat) (mem : Nat) (leaf : Option Nat) (b : BufSt) :
    Charged (d * 65536 + (leaf.getD mem - 8192)) s (s.chargeSelection d lp cls mem leaf b) := by
  unfold State.chargeSelection
  extract_lets q len s1 cost s2
  have h2 : Charged (d * 65536 + (leaf.getD mem - 8192)) s s2 := (Charged.setBuf s d _).trans (.chargeReg s1 _ _ _ (by decide))
  cases leaf with
  | none => exact (h2.trans (.chargeReg _ _ _ _ (by decide))).trans (.takeTurn _ d lp)
  | some l =>
    exact ((h2.trans (.chargeReg _ _ _ _ (by decide))).trans (.chargeLeaf _ d (l - 8192) cost)).trans (.takeTurn _ d lp)

/-- A selection is counted, and its event where the port has a MAC (R267, R393). -/
def State.countSelection (s : State) (d lp : Nat) : State :=
  let p := globalPort d lp
  if p < 128 then (s.schCount d 2 1).gauge! (p / 8) 0x12 1 (some (p % 8)) else s.schCount d 2 1

theorem State.countSelection_effect (s : State) (d lp : Nat) :
    OnlyReports (fun r i => r ∈ gaugeRegs ∨ r = .SCH_CNT ∧ i = d * 10 + 2) s (s.countSelection d lp) ∧
      (s.counts .SCH_CNT (d * 10 + 2) → (s.countSelection d lp).reg .SCH_CNT (d * 10 + 2) = s.reg .SCH_CNT (d * 10 + 2) + 1) := by
  have hbump : OnlyReports (fun r i => r = .SCH_CNT ∧ i = d * 10 + 2) s (s.schCount d 2 1) := OnlyReports.bump s 1 (.inr ⟨rfl, rfl⟩)
  have hgauge : Gauged (s.schCount d 2 1) (s.countSelection d lp) := Gauged.ite (Gauged.refl _).gauge! (Gauged.refl _)
  refine ⟨(hbump.mono fun _ _ h => .inr h).trans (hgauge.reports.mono fun _ _ h => .inl h), fun hc => ?_⟩
  exact (hgauge.reports.reg (by decide) (show Reg.SCH_CNT ∉ gaugeRegs by decide)).trans (State.reg_bump_counts hc 1)

theorem exec_egressSelect_chosen {d : Fin 2} {lp : Fin 75} {cls : Option Nat} {mem : Nat} {leaf : Option Nat} {b : BufSt} {s : State}
    (hex : localExists d.val lp.val = true) (hel : s.portEligible d.val lp.val = true)
    (hch : s.choose d.val lp.val = some (cls, mem, leaf, b)) (hturn : s.isTurn d.val lp.val = true) :
    exec (.egressSelect d lp) s = .next (((s.begin.chargeSelection d.val lp.val cls mem leaf b).selectFrom
      (d.val * 65536 + (leaf.getD mem - 8192))).countSelection d.val lp.val) := by
  show execEgressSelect d lp s = _
  unfold execEgressSelect
  dsimp only
  rw [State.portEligible_begin, State.choose_begin, hex, hel, hch, if_neg (by decide)]
  dsimp only
  rw [State.isTurn_begin, hturn]
  rfl

theorem exec_egressSelect_still {d : Fin 2} {lp : Fin 75} {s : State} (h : s.portEligible d.val lp.val = false ∨
    (s.choose d.val lp.val).isSome = true ∧ s.isTurn d.val lp.val = false) : exec (.egressSelect d lp) s = .next s.begin := by
  show execEgressSelect d lp s = _
  unfold execEgressSelect
  dsimp only
  rw [State.portEligible_begin, State.choose_begin]
  split
  · rfl
  next hel =>
    obtain ⟨hch, hturn⟩ := h.resolve_left fun hf => hel (by rw [hf]; simp)
    obtain ⟨⟨cls, mem, leaf, b⟩, hb⟩ := Option.isSome_iff_exists.1 hch
    rw [hb]
    dsimp only
    rw [State.isTurn_begin, hturn]
    rfl

theorem exec_egressSelect_none {d : Fin 2} {lp : Fin 75} {s : State} (h : s.choose d.val lp.val = none) :
    ∃ t, exec (.egressSelect d lp) s = .next t ∧ OnlyReports (fun r i => r = .SKN_CNT ∧ i = d.val * 11 + 8) s t := by
  have hs : OnlyReports (fun r i => r = .SKN_CNT ∧ i = d.val * 11 + 8) s s.begin := .begin _ s
  have hexec : exec (.egressSelect d lp) s = .next (if (!(localExists d.val lp.val && s.portEligible d.val lp.val)) = true then s.begin
      else if s.begin.headWait d.val lp.val then s.begin.sknCount d.val 8 1 else s.begin) := by
    show execEgressSelect d lp s = _
    unfold execEgressSelect
    dsimp only
    rw [State.portEligible_begin, State.choose_begin, h]
    split <;> rfl
  refine ⟨_, hexec, ?_⟩
  split
  · exact hs
  · split
    · exact hs.trans (OnlyReports.bump _ 1 (.inr ⟨rfl, rfl⟩))
    · exact hs

end Sys2Proof.Machine
end

section
/-! PROOFS. Writes to the egress hierarchy, and multicast replication (R266, R270, R271). -/
namespace Sys2Proof.Machine

/-! ### Writes to leaves and groups -/

theorem exec_schLeafWrite {a : Agent} {d : Fin 2} {q : Fin 32768} {s : State} (h : s.takes a .SCH_LEAF (d.val * 32768 + q.val)) (v : BitVec 64) :
    let i := d.val * 32768 + q.val
    let u := s.begin.touch a (Reg.key .SCH_LEAF i)
    let new := Reg.written .SCH_LEAF (s.reg .SCH_LEAF i) all64 v
    let x := s.queue (d.val * 65536 + q.val)
    exec (.schLeafWrite a d q v) s = .next (if getField new 0 12 ≠ s.fld F.SCH_LEAF_GROUP i ∧ (x.used + x.other ≠ 0 ∨ x.spill ≠ none)
      then u.setFld F.SCH_LEAF_CFG_REFUSED i 1 else u.setReg .SCH_LEAF i new) := by
  intro i u new x
  have hexec : exec (.schLeafWrite a d q v) s = .next (u.writeLeaf i all64 v) :=
    congrArg _ (writeBy_takes h fun t => t.writeLeaf i all64 v)
  have hqueue : u.queue (i / 32768 * 65536 + i % 32768) = x := by
    obtain ⟨sh, hsh⟩ := s.begin.touch_eq a (Reg.key .SCH_LEAF i)
    have hq := q.isLt
    rw [show u = _ from hsh, show i / 32768 * 65536 + i % 32768 = d.val * 65536 + q.val by omega]
    rfl
  have hreg : u.reg .SCH_LEAF i = s.reg .SCH_LEAF i := touch_reg ..
  have hcond : (getField (u.reg .SCH_LEAF i) 0 12 ≠ getField (Reg.written .SCH_LEAF (u.reg .SCH_LEAF i) all64 v) 0 12 &&
      ((u.queue (i / 32768 * 65536 + i % 32768)).cells != 0 || (u.queue (i / 32768 * 65536 + i % 32768)).spill.isSome)) = true ↔
      getField new 0 12 ≠ s.fld F.SCH_LEAF_GROUP i ∧ (x.used + x.other ≠ 0 ∨ x.spill ≠ none) := by
    rw [hqueue, hreg]
    simp only [Bool.and_eq_true, Bool.or_eq_true, decide_eq_true_eq, bne_iff_ne, Option.isSome_iff_ne_none, QSt.cells]
    exact and_congr_left' ne_comm
  rw [hexec]
  unfold State.writeLeaf
  simp only [hcond]
  rw [hreg]

theorem exec_schGrpWrite {a : Agent} {d : Fin 2} {g : Fin 4096} {s : State} (h : s.takes a .SCH_GRP (d.val * 4096 + g.val)) (v : BitVec 32) :
    let i := d.val * 4096 + g.val
    let u := s.begin.touch a (Reg.key .SCH_GRP i)
    let new := Reg.written .SCH_GRP (s.reg .SCH_GRP i) low32 (v.setWidth 64)
    exec (.schGrpWrite a d g v) s = .next (if (getField new 0 6 ≠ s.fld F.SCH_GRP_PORT i ∨ getField new 8 3 ≠ s.fld F.SCH_GRP_CLASS i) ∧
      s.backlog i ≠ 0 then u.setFld F.SCH_GRP_STS_CFG_REFUSED i 1 else u.setReg .SCH_GRP i new) := by
  intro i u new
  have hexec : exec (.schGrpWrite a d g v) s = .next (u.writeGrp i low32 (v.setWidth 64)) :=
    congrArg _ (writeBy_takes h fun t => t.writeGrp i low32 (v.setWidth 64))
  have hback : u.backlog i = s.backlog i := by
    obtain ⟨sh, hsh⟩ := s.begin.touch_eq a (Reg.key .SCH_GRP i)
    rw [show u = _ from hsh]
    rfl
  have hreg : u.reg .SCH_GRP i = s.reg .SCH_GRP i := touch_reg ..
  have hcond : ((getField (u.reg .SCH_GRP i) 0 6 ≠ getField (Reg.written .SCH_GRP (u.reg .SCH_GRP i) low32 (v.setWidth 64)) 0 6 ||
      getField (u.reg .SCH_GRP i) 8 3 ≠ getField (Reg.written .SCH_GRP (u.reg .SCH_GRP i) low32 (v.setWidth 64)) 8 3) && u.backlog i != 0) = true ↔
      (getField new 0 6 ≠ s.fld F.SCH_GRP_PORT i ∨ getField new 8 3 ≠ s.fld F.SCH_GRP_CLASS i) ∧ s.backlog i ≠ 0 := by
    rw [hback, hreg]
    simp only [Bool.and_eq_true, Bool.or_eq_true, decide_eq_true_eq, bne_iff_ne]
    exact and_congr_left' (or_congr ne_comm ne_comm)
  rw [hexec]
  unfold State.writeGrp
  simp only [hcond]
  rw [hreg]

/-! ### Replication -/

/-- From `s` to `t` the engine of die `d` makes copies of packet `r`, numbered from `s.nextId` on: one for each of the local ports
`lps`, in order, of high class from `hi` on (R271). -/
structure Replicated (d : Nat) (r : Repl) (hi : Nat) (lps : List Nat) (s t : State) : Prop where
  nextId : t.nextId = s.nextId + lps.length
  made : ∀ i lp, lps[i]? = some lp → t.copy (s.nextId + i) = some (r.copyTo d lp hi) ∧
    (10, Claim.copy (s.nextId + i)) ∈ (t.buf d).claims
  claims : ∀ x, x ∈ (s.buf d).claims → x ∈ (t.buf d).claims
  old : ∀ k, k < s.nextId → t.copy k = s.copy k
  rest : { t with out := s.out, bus := s.bus, regs := s.regs, dma := s.dma, flt := s.flt, jrn := s.jrn, gauge := s.gauge,
                  nextId := s.nextId, copies := s.copies, bufs := s.bufs } = s
  regs : RegsBut (fun q _ => q ∈ reportRegs ∨ q ∈ .SCH_CNT :: gaugeRegs) s t

namespace Replicated
variable {d hi : Nat} {r : Repl} {l l' : List Nat} {s t u : State}

theorem refl (s : State) : Replicated d r hi [] s s :=
  ⟨rfl, by simp, fun _ h => h, fun _ _ => rfl, rfl, RegsBut.refl _ s⟩

/-- Further copies are numbered behind those made before, which stay. -/
theorem trans (h : Replicated d r hi l s t) (h' : Replicated d r hi l' t u) : Replicated d r hi (l ++ l') s u where
  nextId := by rw [h'.nextId, h.nextId, List.length_append, Nat.add_assoc]
  made i lp hlp := by
    rw [List.getElem?_append] at hlp
    split at hlp
    next hi =>
      obtain ⟨hcopy, hclaim⟩ := h.made i lp hlp
      exact ⟨(h'.old _ (by rw [h.nextId]; omega)).trans hcopy, h'.claims _ hclaim⟩
    next hi =>
      obtain ⟨hcopy, hclaim⟩ := h'.made _ lp hlp
      rw [h.nextId, show s.nextId + l.length + (i - l.length) = s.nextId + i by omega] at hcopy hclaim
      exact ⟨hcopy, hclaim⟩
  claims x hx := h'.claims x (h.claims x hx)
  old k hk := (h'.old k (by rw [h.nextId]; omega)).trans (h.old k hk)
  rest := by
    have h1 := h.rest
    have h2 := h'.rest
    rw [← h1]
    conv => rhs; rw [← h2]
  regs := h.regs.trans h'.regs

/-- Counts of the scheduler and of gauges. -/
theorem reports {p : Reg → Nat → Prop} (h : Replicated d r hi l s t) (hr : OnlyReports p t u)
    (hp : ∀ q i, p q i → q ∈ Reg.SCH_CNT :: gaugeRegs) : Replicated d r hi l s u := by
  have hrest := hr.1
  have hcopy (k : Nat) : u.copy k = t.copy k := (congrArg (fun v : State => v.copy k) hrest : _)
  have hbuf : u.buf d = t.buf d := (congrArg (fun v : State => v.buf d) hrest : _)
  have h' : Replicated d r hi [] t u := ⟨(congrArg State.nextId hrest : _), by simp, fun _ hx => by rwa [hbuf],
    fun k _ => hcopy k, (congrArg (fun v : State => { v with nextId := t.nextId, copies := t.copies, bufs := t.bufs }) hrest :),
    hr.2.mono fun q i e => e.imp_right (hp q i)⟩
  simpa using h.trans h'

/-- A copy claims cells (R236). -/
theorem claim (s : State) (d lp hi : Nat) (r : Repl) : Replicated d r hi [lp] s (s.claim (r.copyTo d lp hi)) := by
  have hbuf : (s.claim (r.copyTo d lp hi)).buf d =
      { s.buf d with claims := (s.buf d).claims ++ [(10, Claim.copy s.nextId)] } := by
    unfold State.claim
    exact (State.buf_setBuf _ _ _ _).trans (if_pos rfl)
  have hcopy (k : Nat) : (s.claim (r.copyTo d lp hi)).copy k = if s.nextId = k then some (r.copyTo d lp hi) else s.copy k :=
    SMap.get_set (d := fun _ => (none : Option Copy)) s.copies s.nextId k (some (r.copyTo d lp hi))
  refine ⟨rfl, fun i q hq => ?_, fun x hx => ?_, fun k hk => ?_, rfl, RegsBut.of_regs rfl⟩
  · cases i with
    | zero =>
      cases hq
      rw [hbuf]
      exact ⟨(hcopy _).trans (if_pos rfl), List.mem_append.2 (.inr (.head _))⟩
    | succ i => cases hq
  · rw [hbuf]
    exact List.mem_append.2 (.inl hx)
  · exact (hcopy k).trans (if_neg (Nat.ne_of_gt hk))

end Replicated

/-- A local port of a packet that does not carry a Yarn header: one copy (R271). -/
theorem State.replicaTo_plain {z : State} {d : Nat} {r : Repl} (hy : r.base.yarn = none) (a : State × Nat) (lp : Nat) :
    z.replicaTo d r false a lp = (((a.1.claim (r.copyTo d lp (z.eff F.SCH_MC_CFG_HI_TC d))).schCount d 5 1).gauge! (16 + d) 0x4F 1,
      a.2 + 1) := by
  have hc (lp hi : Nat) : (r.copyTo d lp hi).yarn = none := hy
  unfold State.replicaTo
  dsimp only
  rw [Bool.false_and, if_neg (by decide)]
  split
  next h _ e _ => rw [hc] at e; cases e
  next => rfl

theorem State.replicas_replicated {z : State} {d : Nat} {r : Repl} (hy : r.base.yarn = none) (lps : List Nat) (a : State × Nat) :
    Replicated d r (z.eff F.SCH_MC_CFG_HI_TC d) lps a.1 (lps.foldl (z.replicaTo d r false) a).1 := by
  induction lps generalizing a with
  | nil => exact .refl _
  | cons lp l ih =>
    rw [List.foldl_cons, State.replicaTo_plain hy]
    have h1 := Replicated.claim a.1 d lp (z.eff F.SCH_MC_CFG_HI_TC d) r
    have h2 := h1.reports (p := fun q _ => q = .SCH_CNT) (OnlyReports.bump (i := d * 10 + 5) _ 1 (.inr rfl)) fun _ _ e => e ▸ .head _
    have h3 := h2.reports ((Gauged.refl _).gauge! (b := 16 + d) (code := 0x4F) (v := 1) (q := none)).reports fun _ _ e => .tail _ e
    exact h3.trans (ih (_, a.2 + 1))

/-- The engine of die `d` with other packets waiting. -/
def State.withRepl (s : State) (d : Nat) (l : List Repl) : State := s.setBuf d { s.buf d with repl := l }

theorem State.buf_withRepl (s : State) (d : Nat) (l : List Repl) : (s.withRepl d l).buf d = { s.buf d with repl := l } :=
  (State.buf_setBuf _ _ _ _).trans (if_pos rfl)

/-- REPLICATION with one packet waiting that has not started: it is taken (R271). -/
theorem exec_replication {d : Fin 2} {r : Repl} {s : State} (h : (s.buf d.val).repl = [r]) (hmade : r.made = none) (err : Bool) :
    exec (.replication d err false) s = .next (
      let s1 := s.begin.withRepl d.val [r]
      if err then (s1.withRepl d.val []).fault 15 1 d.val
      else
        let e := s1.readGroup s1.tabs d.val r.grp
        let a := ((List.range (if d.val = 0 then 75 else 72)).filter (fun lp => e.getLsbD lp && e.getLsbD 96)).foldl
          (s1.replicaTo d.val r (e.getLsbD 97)) (s1, 0)
        let ids := (List.range (a.1.nextId - s1.nextId)).map (s1.nextId + ·)
        let s2 := (a.1.withRepl d.val [{ r with made := some ids }]).schCount d.val 4 1
        if a.2 = 0 then s2.schCount d.val 7 1 else s2) := by
  have hwait : (s.begin.buf d.val).repl.filter (fun x => !s.begin.replDone x) = [r] := by
    rw [show (s.begin.buf d.val).repl = [r] from h, List.filter_cons, State.replDone, hmade]
    rfl
  have hbuf : ((s.begin.withRepl d.val [r]).buf d.val).repl = [r] := by rw [State.buf_withRepl]
  have hfind : [r].find? (fun x => x.high) = some r ∨ [r].find? (fun x => x.high) = none := by
    cases hh : r.high <;> simp [hh]
  have hrest : removeFirst (fun x => x == r) [r] = [] := by
    rw [removeFirst, if_pos (beq_self_eq_true r)]
  show execReplication d err false s = _
  unfold execReplication
  dsimp only
  rw [hwait]
  rw [show s.begin.setBuf d.val { s.begin.buf d.val with repl := [r] } = s.begin.withRepl d.val [r] from rfl, hbuf]
  rcases hfind with hf | hf
  all_goals
    rw [hf]
    dsimp only [List.head?_cons]
    rw [List.any_cons, hmade, hrest]
    cases err <;> rfl

theorem Replicated.withRepl {d hi : Nat} {r : Repl} {l : List Nat} {s t : State} (h : Replicated d r hi l s t) (x : List Repl) :
    Replicated d r hi l s (t.withRepl d x) := by
  have hclaims : ((t.withRepl d x).buf d).claims = (t.buf d).claims := by rw [State.buf_withRepl]
  have h' : Replicated d r hi [] t (t.withRepl d x) :=
    ⟨rfl, by simp, fun y hy => by rwa [hclaims], fun _ _ => rfl, rfl, RegsBut.of_regs rfl⟩
  simpa using h.trans h'

/-- A packet with an uncorrectable cell is dropped, and the fault reported (R271, Table 16-3). -/
theorem replication_err {d : Fin 2} {r : Repl} {s : State} (h : (s.buf d.val).repl = [r]) (hmade : r.made = none) :
    ∃ t, exec (.replication d true false) s = .next t ∧ (t.buf d.val).repl = [] ∧ t.copies = s.copies ∧
      OnlyReports (fun _ _ => False) s { t with bufs := s.bufs } := by
  let w := (s.begin.withRepl d.val [r]).withRepl d.val []
  have hfault : OnlyReports (fun _ _ => False) w (w.fault 15 1 d.val) := .fault _ w 15 1 d.val 0
  have hrest := hfault.1
  refine ⟨w.fault 15 1 d.val, exec_replication h hmade true, ?_, (congrArg State.copies hrest : _),
    (congrArg (fun v : State => { v with out := s.out, bufs := s.bufs }) hrest :), hfault.2⟩
  have hbuf : (w.fault 15 1 d.val).buf d.val = w.buf d.val := (congrArg (fun v : State => v.buf d.val) hrest :)
  rw [hbuf, State.buf_withRepl]

/-- A packet without a Yarn header is copied to each local port that its group's entry names (R271). -/
theorem replication_copies {d : Fin 2} {r : Repl} {s : State} (h : (s.buf d.val).repl = [r]) (hmade : r.made = none)
    (hy : r.base.yarn = none) (hvalid : (s.readGroup s.tabs d.val r.grp).getLsbD 96 = true)
    (hsrc : (s.readGroup s.tabs d.val r.grp).getLsbD 97 = false) :
    ∃ t, exec (.replication d false false) s = .next t ∧
      Replicated d.val r (s.eff F.SCH_MC_CFG_HI_TC d.val) ((List.range (if d.val = 0 then 75 else 72)).filter
        (fun lp => (s.readGroup s.tabs d.val r.grp).getLsbD lp)) s t := by
  let s1 := s.begin.withRepl d.val [r]
  have hcount {t : State} {l : List Nat} {i n : Nat} (ht : Replicated d.val r (s.eff F.SCH_MC_CFG_HI_TC d.val) l s t) :
      Replicated d.val r (s.eff F.SCH_MC_CFG_HI_TC d.val) l s (t.schCount d.val i n) :=
    ht.reports (p := fun q _ => q = .SCH_CNT) (OnlyReports.bump t n (.inr rfl)) fun _ _ e => e ▸ .head _
  have hs1 : Replicated d.val r (s.eff F.SCH_MC_CFG_HI_TC d.val) [] s s1 :=
    ((Replicated.refl s).reports (.begin (fun _ _ => False) s) fun _ _ h => h.elim).withRepl [r]
  refine ⟨_, exec_replication h hmade false, ?_⟩
  rw [if_neg (show ¬ (false = true) by decide)]
  have hgroup : s1.readGroup s1.tabs d.val r.grp = s.readGroup s.tabs d.val r.grp := rfl
  dsimp only
  rw [hgroup, hvalid, hsrc]
  simp only [Bool.and_true]
  have hfold := hs1.trans (State.replicas_replicated (z := s1) (d := d.val) hy ((List.range (if d.val = 0 then 75 else 72)).filter
        (fun lp => (s.readGroup s.tabs d.val r.grp).getLsbD lp)) (s1, 0))
  rw [List.nil_append] at hfold
  generalize (List.range (if d.val = 0 then 75 else 72)).filter (fun lp => (s.readGroup s.tabs d.val r.grp).getLsbD lp) = lps at hfold ⊢
  split
  · exact hcount (hcount (hfold.withRepl _))
  · exact hcount (hfold.withRepl _)

/-- A copy selected from the state in which its command begins. -/
theorem Selected.begin {k id : Nat} {c : Copy} {s t : State} (h : Selected k id c s.begin t) : Selected k id c s t :=
  ⟨h.chain, h.copy, h.copies, h.queues, h.handed, h.tabs, h.ports⟩

theorem egressSelect_selects {d : Fin 2} {lp : Fin 75} {cls : Option Nat} {mem : Nat} {leaf : Option Nat} {b : BufSt} {id : Nat}
    {c : Copy} {s : State} (hex : localExists d.val lp.val = true) (hel : s.portEligible d.val lp.val = true)
    (hch : s.choose d.val lp.val = some (cls, mem, leaf, b)) (hturn : s.isTurn d.val lp.val = true)
    (hfirst : s.firstCopy (d.val * 65536 + (leaf.getD mem - 8192)) = some (id, c)) :
    ∃ t, exec (.egressSelect d lp) s = .next t ∧ Selected (d.val * 65536 + (leaf.getD mem - 8192)) id c s t ∧
      (s.counts .SCH_CNT (d.val * 10 + 2) → t.reg .SCH_CNT (d.val * 10 + 2) = s.reg .SCH_CNT (d.val * 10 + 2) + 1) ∧
      RegsBut (fun r _ => r ∈ reportRegs ++ [.SCH_CNT, .SCH_PORT_TOK, .SCH_Q_TOK, .SCH_GRP_TOK, .GGE_CNT, .GGE_OVF, .GGE_FRZ]) s t := by
  have hcharged := s.begin.chargeSelection_charged d.val lp.val cls mem leaf b
  have hexec := exec_egressSelect_chosen hex hel hch hturn
  generalize s.begin.chargeSelection d.val lp.val cls mem leaf b = u at hcharged hexec
  obtain ⟨hsel, hregs, hgauge⟩ := State.selectFrom_selected (hcharged.firstCopy.trans hfirst)
  have hcount := (u.selectFrom (d.val * 65536 + (leaf.getD mem - 8192))).countSelection_effect d.val lp.val
  have hheld : (u.selectFrom (d.val * 65536 + (leaf.getD mem - 8192))).gauge = s.gauge :=
    hgauge.trans (congrArg State.gauge hcharged.rest : _)
  have hreg (r : Reg) (i : Nat) (hr : r ∉ tokenRegs) :
      (u.selectFrom (d.val * 65536 + (leaf.getD mem - 8192))).reg r i = s.reg r i :=
    (congrArg (SMap.get Reg.resetAt · (r.key i)) hregs).trans (hcharged.regs r i hr)
  refine ⟨_, hexec, ((hsel.charged hcharged).reports hcount.1).begin, fun hc => ?_, fun r i hr => ?_⟩
  · rw [hcount.2 (by rw [State.counts, hheld]; exact hc), hreg _ _ (by decide)]
  · simp only [List.mem_append, List.mem_cons, not_or] at hr
    obtain ⟨hrep, hsch, hport, hq, hgrp, hcnt, hovf, hfrz, -⟩ := hr
    refine (hcount.1.2 r i ?_).trans (hreg r i ?_)
    · simp [gaugeRegs, hrep, hsch, hcnt, hovf, hfrz]
    · simp [tokenRegs, hport, hq, hgrp]

/-- Settles O39: the selection by the copy that `deq` takes, refused writes by their guards, replication by the fold over the
ports of the entry. -/
theorem egressSelectionAndReplication : Obligations.EgressSelectionAndReplication := by
  refine ⟨fun d lp s h => exec_egressSelect_still h, fun d lp s h => exec_egressSelect_none h, ?_, ?_, ?_, ?_⟩
  case refine_1 =>
    intro d lp cls mem leaf b id c s hex hel hch hturn k hfirst hcnt n
    obtain ⟨t, ht, hsel, hcount, hregs⟩ := egressSelect_selects hex hel hch hturn hfirst
    exact ⟨t, ht, hsel.chain, hsel.copy, hsel.copies, hsel.queues, hsel.handed,
      fun x hx hsp hok hlast => State.choose_strict hx hsp hok hlast hch, hcount hcnt, hsel.tabs, hsel.ports, hregs⟩
  case refine_2 =>
    intro a d q v s i htakes new x refused
    have hexec := exec_schLeafWrite htakes v
    have htouch (p : Reg → Nat → Prop) := OnlyRegs.begin_touch p s a (Reg.key .SCH_LEAF i)
    refine ⟨fun hr => ⟨_, hexec.trans (congrArg _ (if_pos hr)), ?_, ?_, (htouch _).trans (.setFld _ _ ⟨rfl, rfl⟩)⟩,
      fun hn => ⟨_, hexec.trans (congrArg _ (if_neg hn)), State.reg_setReg_self .., (htouch _).trans (.setReg _ _ ⟨rfl, rfl⟩)⟩⟩
    · exact State.fld_setFld_self _ _ _ _ (by decide)
    · exact (State.fld_setFld_ne _ F.SCH_LEAF_CFG_REFUSED F.SCH_LEAF_GROUP i i 1 (.inr (.inr (by decide)))).trans (touch_fld ..)
  case refine_3 =>
    intro a d g v s i htakes new refused
    have hexec := exec_schGrpWrite htakes v
    have htouch (p : Reg → Nat → Prop) := OnlyRegs.begin_touch p s a (Reg.key .SCH_GRP i)
    exact ⟨fun hr => ⟨_, hexec.trans (congrArg _ (if_pos hr)), State.fld_setFld_self _ _ _ _ (by decide),
        (htouch _).trans (.setFld _ _ ⟨rfl, rfl⟩)⟩,
      fun hn => ⟨_, hexec.trans (congrArg _ (if_neg hn)), State.reg_setReg_self .., (htouch _).trans (.setReg _ _ ⟨rfl, rfl⟩)⟩⟩
  case refine_4 =>
    intro d r s hone hmade
    refine ⟨replication_err hone hmade, fun hvalid hsrc hy => ?_⟩
    obtain ⟨t, ht, hrep⟩ := replication_copies hone hmade hy hvalid hsrc
    have hrest := hrep.rest
    refine ⟨t, ht, hrep.nextId, fun i lp hlp => ?_, hrep.old, (congrArg State.tabs hrest : _), (congrArg State.queues hrest : _),
      (congrArg State.ports hrest : _), hrep.regs.mono fun q _ hq => ?_⟩
    · obtain ⟨hcopy, hclaim⟩ := hrep.made i lp hlp
      exact ⟨_, hcopy, rfl, rfl, rfl, rfl, hclaim⟩
    · exact List.mem_append.2 hq

end Sys2Proof.Machine
end

section
/-! PROOFS. What an operation leaves of a follower's state (R45): the rules of the relation, reports, copies and queues. -/
namespace Sys2Proof.Machine

/-- What an edge has made of the follower's pulse: nothing waits any more, or what does, and the correction in force. -/
def TickSt.follow (x : TickSt) : Option Int × Bool × Int := (x.pulse, x.fixCount, x.adjust)

/-- What a follower keeps of its last pulse between edges: its status, the pulse that waits for the edge, and the correction in
force. -/
structure Following (z t : State) : Prop where
  status : t.reg .TIK_SYNC_STS 0 = z.reg .TIK_SYNC_STS 0
  tick : t.tick.follow = z.tick.follow

namespace Following
variable {z s t : State}

theorem refl (z : State) : Following z z := ⟨rfl, rfl⟩

theorem trans (h : Following z s) (k : Following s t) : Following z t := ⟨k.status.trans h.status, k.tick.trans h.tick⟩

/-- An update that leaves the registers and the follower's part of the tick. -/
theorem upd (h : Following z s) (hr : t.regs = s.regs) (hv : t.tick.follow = s.tick.follow) : Following z t :=
  h.trans ⟨by rw [State.reg, State.reg, hr], hv⟩

/-- What reports and changes other registers only. -/
theorem reports (h : Following z s) {p : Reg → Nat → Prop} (k : OnlyReports p s t) (hp : ¬ p .TIK_SYNC_STS 0) : Following z t :=
  h.trans ⟨k.reg (by decide) hp, congrArg TickSt.follow k.tick⟩

/-- What changes tables only, as the writes of a commit do. -/
theorem tables (h : Following z s) (k : TableStep s t) : Following z t :=
  h.trans ⟨k.regs _ _ (by decide), (congrArg (fun u : State => u.tick.follow) k.rest :)⟩

theorem setReg (h : Following z s) {r : Reg} {i : Nat} {v : BitVec 64} (hr : r ≠ .TIK_SYNC_STS) : Following z (s.setReg r i v) :=
  h.trans ⟨State.reg_setReg_ne fun e => hr e.1, rfl⟩

theorem setFld (h : Following z s) {f : Fld} {i v : Nat} (hr : f.reg ≠ .TIK_SYNC_STS) : Following z (s.setFld f i v) := h.setReg hr

theorem satFld (h : Following z s) {f : Fld} {i n : Nat} (hr : f.reg ≠ .TIK_SYNC_STS) : Following z (s.satFld f i n) := h.setReg hr

theorem bump (h : Following z s) {r : Reg} {i n : Nat} (hr : r ≠ .TIK_SYNC_STS) : Following z (s.bump r i n) :=
  h.reports (OnlyReports.bump (p := fun q _ => q = r) s n (.inr rfl)) hr.symm

theorem ite {p : Prop} [Decidable p] {a b : State} (ha : p → Following z a) (hb : ¬ p → Following z b) :
    Following z (if p then a else b) := by
  split
  · exact ha ‹_›
  · exact hb ‹_›

theorem whenever (h : Following z s) {b : Bool} {f : State → State} (hf : b = true → Following z (f s)) : Following z (s.when b f) :=
  ite hf fun _ => h

theorem foldl (h : Following z s) {α : Type} (l : List α) {f : State → α → State}
    (hf : ∀ u a, a ∈ l → Following z u → Following z (f u a)) : Following z (l.foldl f s) :=
  List.foldlRecOn l f h fun u hu a ha => hf u a ha hu

theorem each (h : Following z s) (l : List Nat) {f : State → Nat → State} (hf : ∀ u a, Following z u → Following z (f u a)) :
    Following z (s.each l f) := h.foldl l fun u a _ => hf u a

/-! Reports and gauges. -/

theorem emit (h : Following z s) {o : Out} : Following z (s.emit o) := h.upd rfl rfl

theorem sendTlp (h : Following z s) {o : Out} : Following z (s.sendTlp o) :=
  h.reports (OnlyReports.sendTlp (p := fun _ _ => False) s o) id

theorem interrupt (h : Following z s) {i : Nat} : Following z (s.interrupt i) := h.reports (.interrupt (fun _ _ => False) s i) id

theorem journalNow (h : Following z s) {k flags : Nat} {body : Bytes} : Following z (s.journalNow k flags body) :=
  h.reports (.journalNow (fun _ _ => False) s k flags body) id

theorem faultWith (h : Following z s) {k src inst : Nat} {info : BitVec 48} {lasting inj : Bool} :
    Following z (s.faultWith k src inst info lasting inj) :=
  h.reports (.faultWith (fun _ _ => False) s k src inst info lasting inj) id

theorem fault (h : Following z s) {k src inst info : Nat} : Following z (s.fault k src inst info) := h.faultWith

theorem faultLasting (h : Following z s) {k src inst info : Nat} : Following z (s.faultLasting k src inst info) := h.faultWith

theorem notify (h : Following z s) {k die a b : Nat} {body : Bytes} : Following z (s.notify k die a b body) :=
  h.reports (.notify (fun _ _ => False) s k die a b body) id

theorem cqPush (h : Following z s) {g : Nat} {e : Bytes} : Following z (s.cqPush g e) :=
  h.reports (.cqPush (fun _ _ => False) s g e) id

theorem cqWrite (h : Following z s) {g : Nat} {e : Bytes} : Following z (s.cqWrite g e) :=
  h.reports (.cqWrite (fun _ _ => False) s g e) id

theorem pend (h : Following z s) {k n : Nat} : Following z (s.pend k n) := by
  unfold State.pend State.lose
  refine ite (fun _ => h.upd rfl rfl) fun _ => ite (fun _ => h) fun _ => h.trans ⟨?_, rfl⟩
  exact State.reg_setReg_ne fun e => absurd e.1 (by decide)

theorem gaugeAdd (h : Following z s) {k n : Nat} : Following z (s.gaugeAdd k n) :=
  h.reports (Gauged.gaugeAdd (.refl s)).reports (by decide)

theorem gauge! (h : Following z s) {b code v : Nat} {q : Option Nat} : Following z (s.gauge! b code v q) :=
  h.reports (Gauged.gauge! (.refl s)).reports (by decide)

theorem jrnPower (h : Following z s) {kind dom old new : Nat} : Following z (s.jrnPower kind dom old new) := h.journalNow

theorem setMode (h : Following z s) {m reason tag : Nat} : Following z (s.setMode m reason tag) :=
  h.reports (OnlyReports.setMode s m reason tag) (by decide)

theorem applyLevel (h : Following z s) {n : Nat} : Following z (s.applyLevel n) :=
  h.reports (OnlyReports.applyLevel s n) (by decide)

theorem lkpCount (h : Following z s) {d i n : Nat} : Following z (s.lkpCount d i n) := h.bump (by decide)
theorem tcmCount (h : Following z s) {d i n : Nat} : Following z (s.tcmCount d i n) := h.bump (by decide)
theorem sknCount (h : Following z s) {d i n : Nat} : Following z (s.sknCount d i n) := h.bump (by decide)
theorem yrnCount (h : Following z s) {d i n : Nat} : Following z (s.yrnCount d i n) := h.bump (by decide)
theorem bpmCount (h : Following z s) {d i n : Nat} : Following z (s.bpmCount d i n) := h.bump (by decide)
theorem macCount (h : Following z s) {p i n : Nat} : Following z (s.macCount p i n) := h.bump (by decide)
theorem secyCount (h : Following z s) {p i : Nat} : Following z (s.secyCount p i) := h.bump (by decide)

/-! Copies, queues and buffers. -/

theorem setCq (h : Following z s) {g : Nat} {v : CqSt} : Following z (s.setCq g v) := h.upd rfl rfl
theorem setSq (h : Following z s) {g : Nat} {v : SqSt} : Following z (s.setSq g v) := h.upd rfl rfl
theorem setCtx (h : Following z s) {k : Nat} {v : Option Ctx} : Following z (s.setCtx k v) := h.upd rfl rfl
theorem setTabs (h : Following z s) {v : Tables} : Following z (s.setTabs v) := h.upd rfl rfl
theorem setBuf (h : Following z s) {d : Nat} {b : BufSt} : Following z (s.setBuf d b) := h.upd rfl rfl
theorem setCopy (h : Following z s) {d : Nat} {b : Option Copy} : Following z (s.setCopy d b) := h.upd rfl rfl
theorem setQueue (h : Following z s) {k : Nat} {q : QSt} : Following z (s.setQueue k q) := h.upd rfl rfl
theorem setPipe (h : Following z s) {k : Nat} {q : PipeSt} : Following z (s.setPipe k q) := h.upd rfl rfl
theorem setStaged (h : Following z s) {k : Nat} {q : Staged} : Following z (s.setStaged k q) := h.upd rfl rfl
theorem setPort (h : Following z s) {p : Nat} {v : PortSt} : Following z (s.setPort p v) := h.upd rfl rfl

theorem sendCtrl (h : Following z s) {p cls : Nat} {off : Bool} : Following z (s.sendCtrl p cls off) := h.setPort

theorem fixGroup (h : Following z s) {p tc : Nat} : Following z (s.fixGroup p tc) := by
  have hx (l : List Nat) : Following z { s with xoff := l } := h.upd rfl rfl
  unfold State.fixGroup
  exact ite (fun _ => ite (fun _ => ite (fun _ => (hx _).sendCtrl) fun _ => h) fun _ =>
    ite (fun _ => (hx _).bpmCount.sendCtrl) fun _ => h) fun _ => hx _

theorem groupMove (h : Following z s) {g : Option (Nat × Nat)} {n : Int} : Following z (s.groupMove g n) := by
  unfold State.groupMove
  split
  · exact h
  · refine fixGroup ?_
    exact h.upd rfl rfl

theorem account (h : Following z s) {x : Copy} {dn dh ds : Int} : Following z (s.account x dn dh ds) := by
  unfold State.account
  dsimp only
  split
  · exact h.setQueue.setBuf
  · exact h.setQueue.setBuf
  · exact h.setQueue

theorem freeBanks (h : Following z s) {d : Nat} {l : List Nat} : Following z (s.freeBanks d l) := h.setBuf

theorem spillStart (h : Following z s) {k : Nat} : Following z (s.spillStart k) := by
  unfold State.spillStart
  refine ite (fun _ => h) fun _ => ?_
  split
  · exact h.setQueue.sknCount
  · exact h.sknCount.fault

theorem linkTo (h : Following z s) {k : Nat} {ids : List Nat} : Following z (s.linkTo k ids) := by
  have h1 := h.each ids (f := fun t id => match t.copy id with
    | some c => t.setCopy id (some { c with linked := true })
    | none => t) fun u a hu => by
      split
      · exact hu.setCopy
      · exact hu
  exact h1.setQueue.sknCount.spillStart

theorem linkWaiting (h : Following z s) {k : Nat} : Following z (s.linkWaiting k) := h.setQueue.linkTo

theorem leaveStaging (h : Following z s) {k : Nat} : Following z (s.leaveStaging k) := by
  unfold State.leaveStaging
  split
  · exact h.setStaged
  · exact h

theorem release (h : Following z s) {id : Nat} {x : Copy} : Following z (s.release id x) := by
  unfold State.release
  extract_lets s1 q s2 s3 s4
  have h3 : Following z s3 := h.account.groupMove.setQueue.freeBanks.setCopy
  have h4 : Following z s4 := ite (fun _ => h3.linkWaiting) fun _ => h3
  split
  · exact h4.leaveStaging
  · exact h4

theorem flushCopies (h : Following z s) {d : Nat} {ids : List Nat} : Following z (s.flushCopies d ids) :=
  h.each ids fun _ _ hu => by
    split
    · exact hu.sknCount.release
    · exact hu

theorem flushQueue (h : Following z s) {k : Nat} : Following z (s.flushQueue k) := by
  unfold State.flushQueue
  extract_lets d q s1 q1
  have h1 : Following z s1 := h.flushCopies
  split
  · exact h1.setQueue
  · extract_lets waiting p1 s2 b s3
    have h3 : Following z s3 := ite (fun _ => h1.sknCount) fun _ => h1.sknCount.setBuf
    exact h3.setQueue

theorem flushPort (h : Following z s) {p : Nat} : Following z (s.flushPort p) := by
  unfold State.flushPort
  extract_lets s1 s2
  have h2 : Following z s2 := h.flushCopies.upd rfl rfl
  exact h2.each _ fun _ _ hu => hu.flushQueue

theorem flushAll (h : Following z s) : Following z s.flushAll := by
  unfold State.flushAll
  extract_lets sel s1 keys
  have h1 : Following z s1 := h.each _ fun _ _ hu => by
    split
    · exact hu.sknCount.release
    · exact hu
  have h2 : Following z { s1 with txq := [] } := h1.upd rfl rfl
  exact h2.each _ fun _ _ hu => hu.flushQueue

end Following
end Sys2Proof.Machine
end

section
/-! PROOFS. What an operation leaves of a follower's state (R45): ports, programs, the MACsec staging and the loss of a unit. -/
namespace Sys2Proof.Machine

namespace Following
variable {z s t : State}

/-! Ports and programs. -/

theorem usePn (h : Following z s) {p i : Nat} : Following z (s.usePn p i) := by
  unfold State.usePn
  extract_lets x pn warn s1 s2
  have h1 : Following z s1 := h.setReg (by decide)
  have h2 : Following z s2 := ite (fun _ => h1.setFld (by decide)) fun _ => h1
  exact ite (fun _ => (h2.setFld (by decide)).fault) fun _ => h2

theorem secySend (h : Following z s) {p : Nat} {b : Bytes} : Following z (s.secySend p b).2 := by
  unfold State.secySend
  split
  · exact h
  · split
    · exact h.secyCount
    · split
      · exact h.secyCount
      · exact h.usePn.secyCount

theorem macStomp (h : Following z s) {p : Nat} {b : Bytes} : Following z (s.macStomp p b) := h.emit.macCount

theorem macSent (h : Following z s) {p : Nat} {b : Bytes} : Following z (s.macSent p b) := by
  unfold State.macSent
  extract_lets f s1
  have h1 : Following z s1 := h.emit.macCount.macCount
  exact ite (fun _ => h1) fun _ => h1.gauge!

theorem twoStepRecord (h : Following z s) {p : Nat} {md : Bytes} {now : Nat} : Following z (s.twoStepRecord p md now) := h.notify

theorem sendCopy (h : Following z s) {p : Nat} {x : Copy} {n : Nat} {stomp : Bool} : Following z (s.sendCopy p x n stomp) := by
  unfold State.sendCopy
  extract_lets now b r
  have hr : Following z r.2 := by
    unfold r
    split
    · exact h
    · exact h.secySend
  clear_value r
  split
  · exact hr
  · extract_lets y t u
    have ht : Following z t := ite (fun _ => hr.macStomp) fun _ => hr.macSent
    have hu : Following z u := ite (fun _ => ht.yrnCount) fun _ => ht
    exact ite (fun _ => hu.twoStepRecord) fun _ => hu

theorem endTransmission (h : Following z s) {p : Nat} : Following z (s.endTransmission p) := by
  unfold State.endTransmission
  refine ite (fun _ => ?_) fun _ => h
  split
  · exact h
  · split
    · exact h
    · have h1 : Following z s.drawn.drawn := h.upd rfl rfl
      exact ite (fun _ => h1.sendCopy) fun _ => h1

theorem bindoffFlush (h : Following z s) {p : Nat} : Following z (s.bindoffFlush p) := ite (fun _ => h.upd rfl rfl) fun _ => h

theorem enterState (h : Following z s) {p st : Nat} : Following z (s.enterState p st) :=
  (h.setFld (by decide)).setPort

theorem enterBindoff (h : Following z s) {p : Nat} {marked : Bool} : Following z (s.enterBindoff p marked) :=
  ((h.endTransmission.setFld (by decide)).setFld (by decide)).setPort.flushPort.bindoffFlush

theorem portEval (h : Following z s) {p : Nat} {en : Bool} : Following z (s.portEval p en) := by
  unfold State.portEval
  extract_lets q
  split
  · exact ite (fun _ => h.enterState) fun _ => h
  · exact ite (fun _ => h.setPort) fun _ => h.enterState
  · exact ite (fun _ => h.enterBindoff) fun _ => ite (fun _ => h) fun _ => ite (fun _ => h.enterBindoff) fun _ => h
  · exact ite (fun _ => h.enterBindoff) fun _ => ite (fun _ => h.enterBindoff) fun _ =>
      ite (fun _ => h.enterState) fun _ => h
  · exact ite (fun _ => ite (fun _ => h.enterState) fun _ => h) fun _ => ite (fun _ => h.setPort) fun _ => h
  · exact h

theorem consume (h : Following z s) {g : Nat} (l : List (Nat × Nat × Option (Option Bytes))) : Following z (s.consume g l) := by
  induction l generalizing s with
  | nil => exact h.setSq
  | cons x l ih =>
    obtain ⟨k, n, e⟩ := x
    cases e with
    | none => exact h.setSq
    | some e =>
      refine ih ?_
      split
      · exact ite (fun _ => (h.setFld (by decide)).setCq.cqPush) fun _ => (h.setFld (by decide)).setCq
      · exact (h.setFld (by decide)).setCq

theorem finishEntries (h : Following z s) {g last : Nat} {e : Option Bytes} : Following z (s.finishEntries g last e) := h.consume _

theorem chartEnd (h : Following z s) {k : Nat} {x : Ctx} : Following z (s.chartEnd k x) :=
  ite (fun _ => h.setCtx) fun _ => ite (fun _ => h.setCtx.setSq) fun _ => (h.setCtx.setSq.bump (by decide)).finishEntries

theorem forgetAhead (h : Following z s) {x : Ctx} {i : Nat} : Following z (s.forgetAhead x i) := h.upd rfl rfl

theorem takeEntry (h : Following z s) {k : Nat} {x : Ctx} {i : Nat} {e : Bytes} {x' : Ctx} (ht : s.takeEntry k x = some (i, e, x', t)) :
    Following z t := by
  unfold State.takeEntry at ht
  split at ht
  · contradiction
  · cases ht
    exact Following.setCtx (forgetAhead (ite (fun _ => h) fun _ => h.setSq))

theorem chartDrain (h : Following z s) {k : Nat} (n : Nat) : Following z (s.chartDrain k n) := by
  induction n generalizing s with
  | zero => exact h
  | succ n ih =>
    unfold State.chartDrain
    split
    · exact h
    · refine ite (fun _ => h.chartEnd) fun _ => ?_
      split
      next ht => exact ih (h.takeEntry ht)
      next => exact ite (fun _ => h.chartEnd) fun _ => h

theorem drainAll (h : Following z s) {k : Nat} : Following z (s.drainAll k) := by
  unfold State.drainAll
  split
  · exact h
  · exact h.chartDrain _

theorem chartFail (h : Following z s) {k st : Nat} : Following z (s.chartFail k st) := by
  unfold State.chartFail
  split
  · exact h
  · extract_lets q s1 s2
    have h2 : Following z s2 := ite (fun _ => h.bump (by decide)) fun _ => (h.bump (by decide)).setReg (by decide)
    exact h2.setCtx.drainAll

theorem zeroStaging (h : Following z s) {o : Nat} : Following z (s.zeroStaging o) :=
  (h.each _ fun _ _ hu => hu.setReg (by decide)).each _ fun _ _ hu => hu.setReg (by decide)

theorem zeroKey (h : Following z s) {i : Nat} : Following z (s.zeroKey i) :=
  (h.setFld (f := F.MSC_SA_STS_KEYED) (by decide)).upd rfl rfl

theorem zeroOctet (h : Following z s) {o : Nat} {dis : Bool} : Following z (s.zeroOctet o dis) :=
  (h.each _ fun _ _ hu => ite (fun _ => (hu.setFld (by decide)).zeroKey) fun _ => hu.zeroKey).zeroStaging

/-! Loss of a unit (R22, R425). -/

/-- The follower's status has no power domain to lose. -/
theorem dropRegs (h : Following z s) : Following z s.dropRegs :=
  have haon : Reg.power .TIK_SYNC_STS = .aon := rfl
  h.trans ⟨SMap.get_filter fun _ => by simp [State.keyLost_key, State.supplyLost, Reg.domains, haon], rfl⟩

/-- A reset of the host side's registers. -/
theorem resetHostFacing (h : Following z s) : Following z (s.resetRegs hostFacing) :=
  h.trans ⟨SMap.get_filter fun _ => by rw [Reg.key_mod]; decide, rfl⟩

theorem setDom (h : Following z s) {d st : Nat} : Following z (s.setDom d st) := by
  unfold State.setDom
  extract_lets s1 pwr s2
  have h2 : Following z s2 := (h.setReg (by decide)).upd rfl rfl
  exact ite (fun _ => h2.setReg (by decide)) fun _ => h2

theorem loseCopies (h : Following z s) {p : Copy → Bool} : Following z (s.loseCopies p) :=
  h.each _ fun _ _ hu => by
    split
    · exact hu.release
    · exact hu

theorem dropPipe (h : Following z s) {n : Nat} : Following z (s.dropPipe n) := by
  unfold State.dropPipe
  extract_lets eg s1
  have h1 : Following z s1 := h.each _ fun _ _ hu => by
    split
    · exact hu.release
    · exact hu
  have h2 : Following z { s1 with needles := s1.needles.filter (fun e => enginePipe (e.1 / 96) != n) } := h1.upd rfl rfl
  exact h2.upd rfl rfl

theorem dropOctet (h : Following z s) {k : Nat} : Following z (s.dropOctet k) := by
  unfold State.dropOctet
  extract_lets s1 s2
  have h2 : Following z s2 := h.loseCopies.zeroOctet
  clear_value s2
  have h3 : Following z { s2 with ports := s2.ports.filter (fun e => e.1 / 8 != k) } := h2.upd rfl rfl
  exact h3.upd rfl rfl

theorem dropSpilled (h : Following z s) {k : Nat} : Following z (s.dropSpilled k) := by
  unfold State.dropSpilled
  extract_lets q
  split
  · exact h
  · exact h.flushCopies.sknCount.setBuf.setQueue

theorem dropStack (h : Following z s) {k : Nat} : Following z (s.dropStack k) := by
  unfold State.dropStack
  extract_lets hit s1
  have h1 : Following z s1 := h.each _ fun _ _ hu => hu.dropSpilled
  exact h1.upd rfl rfl

theorem setTwin (h : Following z s) {q : Nat} {v : Twin} : Following z (s.setTwin q v) := h.upd rfl rfl

theorem dropPanel (h : Following z s) {q : Nat} : Following z (s.dropPanel q) := by
  unfold State.dropPanel
  extract_lets s1 s2 keep cut
  have h1 : Following z s1 := h.each _ fun u _ hu => by
    split
    · exact hu.upd rfl rfl
    · exact hu
  have h2 : Following z s2 := h1.upd rfl rfl
  have h3 : Following z (s2.setTabs (cut s2.tabs)) := h2.setTabs
  exact h3.upd rfl rfl

theorem dropQuarter (h : Following z s) {d k : Nat} : Following z (s.dropQuarter d k) :=
  h.each _ fun _ _ hu => by
    split
    · exact hu.setCopy
    · exact hu

theorem dropTables (h : Following z s) {p k g : Nat → Bool} : Following z (s.dropTables p k g) :=
  (h.setTabs (v := s.tabs.without p k g)).upd rfl rfl

theorem dropStore (h : Following z s) {d : Nat} {sess : Bool} : Following z (s.dropStore d sess) := by
  unfold State.dropStore
  extract_lets no s1
  have h1 : Following z s1 := h.dropTables
  exact ite (fun _ => h.dropTables) fun _ => h1.upd rfl rfl

theorem dropRepl (h : Following z s) {d : Nat} : Following z (s.dropRepl d) := by
  unfold State.dropRepl
  extract_lets s1 s2
  have h2 : Following z s2 := h.dropTables.loseCopies
  exact (h2.setBuf (d := d) (b := { s2.buf d with repl := [] })).upd rfl rfl

theorem operandFails (h : Following z s) {k : Nat} : Following z (s.operandFails k) := by
  unfold State.operandFails
  split
  · exact h
  · refine ite (fun _ => ?_) fun _ => h
    split
    next ht => exact (h.takeEntry ht).chartFail
    next => exact h

theorem operandArrives (h : Following z s) {k : Nat} {b : Bytes} : Following z (s.operandArrives k b) := by
  unfold State.operandArrives
  split
  · exact h
  · exact ite (fun _ => h.setCtx) fun _ => h

theorem aheadEnds (h : Following z s) {n : Nat} {got : Option Bytes} : Following z (s.aheadEnds n got) := by
  unfold State.aheadEnds
  split
  · exact h
  · extract_lets dma s1
    have h1 : Following z s1 := h.upd rfl rfl
    refine h1.each _ fun u k hu => ite (fun _ => ?_) fun _ => hu
    split
    · exact hu.operandArrives
    · exact hu.operandFails

theorem readLost (h : Following z s) {w : ReadFor} : Following z (s.readLost w) := by
  unfold State.readLost
  split
  · exact h.setCq
  · exact h.setSq
  · exact h.operandFails
  · exact h.aheadEnds
  · exact h

theorem dropOps (h : Following z s) {p : ReadOp → Bool} : Following z (s.dropOps p) := by
  unfold State.dropOps
  extract_lets gone pcie s1
  have h1 : Following z s1 := h.upd rfl rfl
  exact h1.foldl _ fun _ _ _ hu => hu.readLost

theorem abandonFrames (h : Following z s) {g : Nat} : Following z (s.abandonFrames g) := h.upd rfl rfl

theorem chartCut (h : Following z s) {g : Nat} {w : Bool} : Following z (s.chartCut g w) :=
  h.each _ fun _ _ hu => by
    split
    · exact hu
    · exact ite (fun _ => hu.setCtx.drainAll) fun _ => ite (fun _ => hu.setCtx.chartFail) fun _ => hu.setCtx

theorem hostFacingReset (h : Following z s) : Following z s.hostFacingReset := by
  unfold State.hostFacingReset
  extract_lets sqOn cqOn s0 s1 pcie s2 s3
  have h0 : Following z s0 := (h.each _ fun _ _ hu => hu.chartCut.abandonFrames).dropOps
  have h1 : Following z s1 := (h0.bump (by decide)).resetHostFacing
  clear_value s1
  have h2 : Following z s2 := h1.upd rfl rfl
  have h3 : Following z s3 := h2.each _ fun _ _ hu => hu.setFld (by decide)
  exact h3.each _ fun _ _ hu => hu.setFld (by decide)

theorem dropUnit (h : Following z s) {d : Nat} : Following z (s.dropUnit d) :=
  ite (fun _ => h.dropPipe) fun _ =>
  ite (fun _ => h.dropOctet) fun _ =>
  ite (fun _ => h.dropStack) fun _ =>
  ite (fun _ => h.each _ fun _ _ hu => hu.dropPanel) fun _ =>
  ite (fun _ => h.dropQuarter) fun _ =>
  ite (fun _ => h.dropStore) fun _ =>
  ite (fun _ => h.dropStore) fun _ =>
  ite (fun _ => h.dropRepl) fun _ =>
  ite (fun _ => h.upd rfl rfl) fun _ =>
  ite (fun _ => h.hostFacingReset) fun _ =>
  ite (fun _ => h.upd rfl rfl) fun _ =>
  ite (fun _ => h.upd rfl rfl) fun _ => h

theorem removeDomain (h : Following z s) {d : Nat} : Following z (s.removeDomain d) := by
  unfold State.removeDomain
  have hdown : Following z (s.domDown d 6) := h.setDom.dropUnit.dropRegs
  exact ite (fun _ => h) fun _ => hdown.jrnPower

end Following
end Sys2Proof.Machine
end

section
/-! PROOFS. What the table work of an edge leaves of a follower's state (R45): learning, commits and the TCAM. -/
namespace Sys2Proof.Machine

namespace Following
variable {z s t : State}

theorem setLearning (h : Following z s) {d : Nat} {v : LearnSt} : Following z (s.setLearning d v) := h.tables (.setLearning (.refl s))
theorem deleteEntry (h : Following z s) {d tb loc : Nat} : Following z (s.deleteEntry d tb loc) := h.tables (.deleteEntry (.refl s))

theorem runPath (h : Following z s) {d tb : Nat} {path : List Nat} {new : HEnt} : Following z (s.runPath d tb path new) :=
  h.tables (.runPath (.refl s))

theorem lkpNotify (h : Following z s) {k d a : Nat} {body : Bytes} : Following z (s.lkpNotify k d a body) :=
  h.tables (.lkpNotify (.refl s))

theorem applyWrites (h : Following z s) {l : List CWrite} {plans : List CPlan} : Following z (s.applyWrites l plans) :=
  h.tables (.applyWrites (.refl s) l plans)

theorem setTod (h : Following z s) {u : Nat} : Following z (s.setTod u) := by
  unfold State.setTod
  extract_lets ns s1
  have h1 : Following z s1 := (h.setFld (by decide)).setFld (by decide)
  exact h1.upd rfl rfl

theorem roomFlush (d n : Nat) {r : Room} (h : Following z r.1) : Following z (Room.flush d n r).1 := by
  induction n generalizing r with
  | zero => exact h
  | succ n ih =>
    unfold Room.flush
    extract_lets l
    split
    · extract_lets f pop
      have hpop {u : State} (hu : Following z u) : Following z (pop u) := hu.setLearning
      split
      · exact ih (hpop h)
      · split
        · split
          · exact h
          · exact ih (hpop h).deleteEntry.lkpCount.setLearning
        · exact ih (hpop h)
    · exact h

theorem roomAge (d n : Nat) {r : Room} (h : Following z r.1) : Following z (Room.age d n r).1 := by
  induction n generalizing r with
  | zero => exact h
  | succ n ih =>
    unfold Room.age
    extract_lets l
    split
    · exact h
    · extract_lets s1 s2
      have h1 : Following z s1 := h.setLearning
      split
      · split
        · extract_lets other
          split
          · exact h
          · have h2 : Following z s2 := h1.deleteEntry.lkpCount
            clear_value other
            split
            · exact ih h2
            · exact ih h2.deleteEntry.lkpCount
        · exact ih h1.lkpCount
      · exact ih h1.lkpCount

theorem retryDone (h : Following z s) {d : Nat} {e : LEvent} {b : Bool} : Following z (s.retryDone d e b) :=
  h.whenever fun _ => h.setLearning

theorem learnFail (h : Following z s) {d : Nat} {e : LEvent} {b : Bool} : Following z (s.learnFail d e b) := by
  unfold State.learnFail
  extract_lets s1 s2
  have h2 : Following z s2 := ite (fun _ => h.lkpCount.lkpNotify) fun _ => h.lkpCount
  exact ite (fun _ => ite (fun _ => h2.setLearning.lkpCount) fun _ => h2.setLearning) fun _ => h2

theorem setStat (h : Following z s) {i : Nat} {v : Nat × Nat} : Following z (s.setStat i v) := h.upd rfl rfl

theorem applyPlan (h : Following z s) {d sid : Nat} {p : LPlan} : Following z (s.applyPlan d p sid) := by
  unfold State.applyPlan
  extract_lets tb stamp idx src new s1
  refine ite (fun _ => ?_) fun _ => ite (fun _ => h.runPath.lkpCount) fun _ => ?_
  · split
    · exact h.runPath.lkpCount
    · exact h
  · have h1 : Following z s1 := h.runPath.setStat
    exact h1.setLearning.lkpCount

theorem roomLearn (d n : Nat) {r : Room} (h : Following z r.1) : Following z (Room.learn d n r).1 := by
  induction n generalizing r with
  | zero => exact h
  | succ n ih =>
    unfold Room.learn
    extract_lets l
    split
    · exact h
    · extract_lets popped stands s1
      have h1 : Following z s1 := ite (fun _ => h.setLearning) fun _ => h.setLearning.lkpCount
      clear_value s1
      split
      · exact ih h1.lkpCount.retryDone
      · exact ih (Following.upd (s := s1.retryDone d _ _) h1.retryDone rfl rfl)
      · exact ih h1.learnFail
      · split
        · exact h1.setLearning
        · split
          · split
            · exact ih h1.lkpCount.learnFail
            · exact ih h1.applyPlan
          · exact ih h1.applyPlan.retryDone

theorem sweepEnd (h : Following z s) {d : Nat} : Following z (s.sweepEnd d) := by
  unfold State.sweepEnd
  extract_lets l s1
  have h1 : Following z s1 := h.setLearning
  split
  · exact h
  · exact ite (fun _ => h1.upd rfl rfl) fun _ => h

theorem hwWrites (h : Following z s) : Following z s.hwWrites := by
  unfold State.hwWrites
  extract_lets n r0 r1 r2 r3 g s1
  have hg (t : State) (d : Nat) (ht : Following z t) : Following z (g t d) := ht.gauge!
  have h3 : Following z r3.1 := roomLearn _ _ (roomLearn _ _ (roomAge _ _ (roomAge _ _ (roomFlush _ _ (roomFlush _ _ h)))))
  have h1 : Following z s1 := (hg _ 1 (hg _ 0 h3)).sweepEnd.sweepEnd
  exact Following.upd (s := s1) h1 rfl rfl

theorem commitRefuse (h : Following z s) {k st : Nat} {x : Ctx} : Following z (s.commitRefuse k x st) :=
  (h.setCtx.bump (by decide)).chartFail

theorem setTslot (h : Following z s) {i : Nat} {m : TSlot} : Following z (s.setTslot i m) := h.upd rfl rfl

theorem setTval (h : Following z s) {i : Nat} {m : TVal} : Following z (s.setTval i m) := h.upd rfl rfl

theorem setValid (h : Following z s) {i : Nat} {b : Bool} : Following z (s.setValid i b) := h.setTval

theorem chartDone (h : Following z s) {k : Nat} : Following z (s.chartDone k) := by
  unfold State.chartDone
  split
  · exact h
  · extract_lets x s1
    have h1 : Following z s1 := (h.bump (by decide)).setCtx
    exact ite (fun _ => h1.chartEnd) fun _ => ite (fun _ => h1.chartFail) fun _ => h1

theorem commitApplied (h : Following z s) {x : Commit} {plans : List CPlan} {n : Nat × Nat} :
    Following z (s.commitApplied x plans n) := by
  unfold State.commitApplied
  extract_lets s1 w s2 s3 s4
  have h1 : Following z s1 := h.applyWrites
  have h2 : Following z s2 := Following.setReg (h1.upd (t := { s1 with wrote := w }) rfl rfl) (by decide)
  have h4 : Following z s4 := (h2.gauge!.gauge!.bump (by decide)).bump (by decide)
  split
  · exact h4
  · exact h4.setCtx.chartDone

theorem takeCommits (h : Following z s) (stop : Bool) (l : List Commit) : Following z (s.takeCommits stop l).1 := by
  induction l generalizing s stop with
  | nil => exact h
  | cons x l ih =>
    unfold State.takeCommits
    extract_lets later deferred
    have hdef {t : State} (ht : Following z t) : Following z (deferred t).1 := ih (ht.satFld (by decide)) true
    split
    · exact hdef h
    · split
      · refine ih ?_ false
        split
        · exact h.commitRefuse
        · exact h
      · exact hdef ((h.whenever fun _ => h.tcmCount).whenever fun _ => (h.whenever fun _ => h.tcmCount).tcmCount)
      · exact ih h.commitApplied false

theorem edgeCommits (h : Following z s) : Following z s.edgeCommits := by
  unfold State.edgeCommits
  extract_lets due rest chart r
  have h0 : Following z { s with chart := { s.chart with commits := [] } } := h.upd rfl rfl
  have hr : Following z r.1 := h0.takeCommits false due
  clear_value r
  exact hr.upd rfl rfl

theorem scrubFound (h : Following z s) {d i : Nat} {f : ScrubFind} : Following z (s.scrubFound d i f) := by
  cases f with
  | fixed => exact h.tcmCount.fault
  | lost => exact (h.setValid.setFld (by decide)).tcmCount.fault

theorem edgeScrub (h : Following z s) {x : EdgeIn} {d : Nat} : Following z (s.edgeScrub x d) := by
  unfold State.edgeScrub
  extract_lets n k in_ s0 s1
  refine ite (fun _ => h) fun _ => ?_
  have h0 : Following z s0 := h.upd rfl rfl
  have h1 : Following z s1 := h0.foldl _ fun _ _ _ hu => ite (fun _ => hu.scrubFound) fun _ => hu
  exact (h1.setFld (by decide)).whenever fun _ => (h1.setFld (by decide)).setFld (by decide)

theorem setTwinState (h : Following z s) {q v : Nat} : Following z (s.setTwinState q v) :=
  (h.setFld (by decide)).setFld (by decide)

theorem copyRow (h : Following z s) {q k r : Nat} : Following z (s.copyRow q k r) :=
  h.each _ fun _ _ hu => hu.setTslot.setTval.setTabs

theorem edgeTwin (h : Following z s) {q : Nat} : Following z (s.edgeTwin q) := by
  unfold State.edgeTwin
  extract_lets en w
  refine ite (fun _ => h) fun _ => ?_
  split
  · exact ite (fun _ => h.setTwinState.setTwin) fun _ => h
  · exact ite (fun _ => (h.foldl _ fun _ _ _ hu => hu.copyRow).setTwin) fun _ => h.setTwinState.setTwin
  · exact ite (fun _ => h) fun _ => h.setTwinState.setTwin
  · exact h.setTwin

theorem edgeTables (h : Following z s) {x : EdgeIn} : Following z (s.edgeTables x) := by
  have hseeds : Following z s.edgeSeeds := h.setTabs
  have hval : Following z s.edgeSeeds.edgeTcamValidity := hseeds.upd rfl rfl
  exact (hval.each _ fun _ _ hu => hu.edgeTwin).edgeScrub.edgeScrub

theorem edgeForce (h : Following z s) : Following z s.edgeForce := h.upd rfl rfl

end Following
end Sys2Proof.Machine
end

section
/-! PROOFS. What the rest of an edge leaves of a follower's state (R45): modes, power, refills, counts and the host side. -/
namespace Sys2Proof.Machine

namespace Following
variable {z s t : State}

theorem edgeGo (h : Following z s) : Following z s.edgeGo := h.upd rfl rfl

theorem edgeMode (h : Following z s) : Following z s.edgeMode := by
  unfold State.edgeMode
  extract_lets pwr s1 u
  have h1 : Following z s1 := h.upd rfl rfl
  have hu : Following z u := h1.flushAll
  clear_value s1
  refine ite (fun _ => h1) fun _ => ite (fun _ => h1.setMode) fun _ => ite (fun _ => ?_) fun _ => ite (fun _ => ?_) fun _ => h1
  · exact hu.upd rfl rfl
  · exact h1.upd rfl rfl

theorem stepDomain (h : Following z s) {bad : List Nat} {d : Nat} : Following z (s.stepDomain bad d) := by
  unfold State.stepDomain
  extract_lets count tgt
  have hcount : Following z (count s) := h.upd rfl rfl
  split
  · exact hcount
  · exact ite (fun _ => h.removeDomain.fault) fun _ => h.setDom
  · exact ite (fun _ => h) fun _ => (h.whenever fun _ => h.zeroOctet).setDom
  · exact hcount
  · exact ite (fun _ => h.upd rfl rfl) fun _ => h
  · exact h

theorem edgeDomains (h : Following z s) {bad : List Nat} : Following z (s.edgeDomains bad) :=
  (h.each _ fun _ _ hu => hu.stepDomain).each _ fun _ _ hu => hu.setDom

theorem copyLag (h : Following z s) {m n : Nat} : Following z (s.copyLag m n) :=
  (h.each _ fun _ _ hu => hu.setReg (by decide)).each _ fun _ _ hu => hu.setReg (by decide)

theorem edgePower (h : Following z s) {bad : List Nat} : Following z (s.edgePower bad) := by
  unfold State.edgePower
  extract_lets was s1
  have h1 : Following z s1 := h.edgeDomains
  clear_value was
  split
  · exact h1
  · exact h1.each _ fun _ _ hu => hu.copyLag

theorem edgeLevel (h : Following z s) : Following z s.edgeLevel := by
  unfold State.edgeLevel
  refine Following.applyLevel ?_
  exact h.upd rfl rfl

theorem edgeLag (h : Following z s) : Following z s.edgeLag := by
  unfold State.edgeLag
  extract_lets s1
  have h1 : Following z s1 := h.foldl _ fun _ _ _ hu => hu.each _ fun _ _ hv =>
    ite (fun _ => hv.setReg (by decide)) fun _ => hv.setReg (by decide)
  exact h1.upd rfl rfl

theorem refillRegs (h : Following z s) {shp tok : Reg} (ht : tok ≠ .TIK_SYNC_STS) : Following z (s.refillRegs shp tok) :=
  h.each _ fun _ _ hu => hu.setReg ht

theorem refillLeaves (h : Following z s) {d : Nat} : Following z (s.refillLeaves d) := by
  unfold State.refillLeaves
  extract_lets b0 buf s1
  have h1 : Following z s1 := ite (fun _ => h) fun _ => h.setBuf
  exact h1.each _ fun _ _ hu => hu.setQueue

theorem edgeShapers (h : Following z s) : Following z s.edgeShapers :=
  (((h.refillRegs (by decide)).refillRegs (by decide)).refillRegs (by decide)).each _ fun _ _ hu => hu.refillLeaves

theorem edgeResponders (h : Following z s) : Following z s.edgeResponders := h.each _ fun _ _ hu => hu.setPipe

theorem losFld_free (i : Nat) : (losFld i).reg ≠ .TIK_SYNC_STS := by unfold losFld; split_ifs <;> decide

theorem losStFld_free (i : Nat) : (losStFld i).reg ≠ .TIK_SYNC_STS := by unfold losStFld; split_ifs <;> decide

theorem synceBack (h : Following z s) {i : Nat} : Following z (s.synceBack i) := (h.setFld (losFld_free i)).upd rfl rfl

theorem synceLost (h : Following z s) {i : Nat} : Following z (s.synceLost i) :=
  ite (fun _ => h) fun _ => ((h.setFld (losFld_free i)).setFld (losStFld_free i)).faultLasting

theorem edgeSynceOne (h : Following z s) {i : Fin 2} : Following z (s.edgeSynceOne i) := by
  unfold State.edgeSynceOne
  extract_lets lane moved s1
  have h1 : Following z s1 := ite (fun _ => h) fun _ => ite (fun _ => h.synceBack) fun _ => h.synceLost
  exact ite (fun _ => h1.emit.emit) fun _ => h1

theorem setBfd (h : Following z s) {k : Nat} {b : BfdSt} : Following z (s.setBfd k b) := by
  unfold State.setBfd
  refine Following.setFld ?_ (by decide)
  exact h.upd rfl rfl

theorem edgeBfd (h : Following z s) {fresh : Bool} {k : Nat} : Following z (s.edgeBfd fresh k) := by
  unfold State.edgeBfd
  exact ite (fun _ => ite (fun _ => h) fun _ => (h.setFld (by decide)).setBfd) fun _ =>
    ite (fun _ => (h.setFld (by decide)).setBfd) fun _ =>
    ite (fun _ => h.setBfd) fun _ => ite (fun _ => h) fun _ => h.setBfd

theorem edgeTimers (h : Following z s) {was : Nat} : Following z (s.edgeTimers was) := by
  unfold State.edgeTimers
  extract_lets listed run s1
  have h1 : Following z s1 := h.each _ fun _ _ hu => hu.edgeBfd
  exact h1.each _ fun _ _ hu => ite (fun _ => hu.upd rfl rfl) fun _ => hu.upd rfl rfl

theorem edgeRefill (h : Following z s) {was : Nat} {old : SMap (BitVec 64)} : Following z (s.edgeRefill was old) := by
  have hm : Following z (s.withForce old).edgeMeters := h.upd rfl rfl
  exact hm.edgeShapers.edgeResponders.edgeSynceOne.edgeSynceOne.edgeTimers.edgeForce

theorem setHbc (h : Following z s) {k : Nat} {v : HbcSt} : Following z (s.setHbc k v) := h.upd rfl rfl

theorem quiesce (h : Following z s) {k : Nat} : Following z (s.quiesce k) := (h.setFld (by decide)).setFld (by decide)

theorem startChange (h : Following z s) {k u : Nat} : Following z (s.startChange k u) := (h.quiesce.setFld (by decide)).setHbc

theorem decideSpeed (h : Following z s) {k u : Nat} : Following z (s.decideSpeed k u) :=
  ite (fun _ => h.startChange) fun _ => (h.setFld (by decide)).setFld (by decide)

theorem startWake (h : Following z s) {k : Nat} : Following z (s.startWake k) :=
  ((h.setFld (by decide)).setFld (by decide)).emit.setHbc

theorem edgeStack (h : Following z s) {k : Nat} : Following z (s.edgeStack k) := by
  unfold State.edgeStack
  extract_lets x s1 s2
  have h1 : Following z s1 := h.setHbc
  have h2 : Following z s2 := by
    unfold s2
    split
    · exact h1.decideSpeed
    · exact h1
  exact ite (fun _ => h2.startWake) fun _ => ite (fun _ => h2.startChange) fun _ => h2

theorem edgeHbc (h : Following z s) : Following z s.edgeHbc :=
  (h.each _ fun _ _ hu => hu.setHbc).each _ fun _ _ hu => hu.edgeStack

theorem releaseSeq (h : Following z s) {k id : Nat} : Following z (s.releaseSeq k id) := by
  unfold State.releaseSeq
  split
  · exact h.setCopy.setBuf
  · exact h

theorem setHeld (h : Following z s) {k : Nat} {l : List Held} : Following z (s.setHeld k l) := by
  unfold State.setHeld
  refine Following.setFld ?_ (by decide)
  exact h.upd rfl rfl

theorem unmarkSeq (h : Following z s) {k : Nat} : Following z (s.unmarkSeq k) := h.setFld (by decide)

theorem runSeq (h : Following z s) {k : Nat} (n : Nat) : Following z (s.runSeq k n) := by
  induction n generalizing s with
  | zero => exact h
  | succ n ih =>
    unfold State.runSeq
    extract_lets next
    split
    · exact h
    · exact ih (h.setHeld.unmarkSeq.setFld (by decide)).releaseSeq

theorem skipTo (h : Following z s) {k lim : Nat} : Following z (s.skipTo k lim) := by
  unfold State.skipTo
  extract_lets next near order s1 s2
  have h1 : Following z s1 := h.setHeld.whenever fun _ => h.setHeld.unmarkSeq
  have h2 : Following z s2 := h1.foldl _ fun _ _ _ hu => hu.releaseSeq
  exact (h2.setFld (by decide)).yrnCount

theorem closeGap (h : Following z s) {k : Nat} : Following z (s.closeGap k) :=
  ite (fun _ => h) fun _ => (h.skipTo.runSeq _).yrnCount.unmarkSeq

theorem edgeReseq (h : Following z s) : Following z s.edgeReseq := by
  unfold State.edgeReseq
  extract_lets s1
  have h1 : Following z s1 := by
    refine Following.foldl ?_ _ fun _ _ _ hu => ite (fun _ => hu.closeGap) fun _ => hu
    exact h.upd rfl rfl
  exact h1.upd rfl rfl

theorem edgeLink (h : Following z s) {p : Nat} : Following z (s.edgeLink p) := by
  unfold State.edgeLink
  extract_lets q ok off s1
  have h1 : Following z s1 := h.setPort
  exact ite (fun _ => h1.setFld (by decide)) fun _ => h1

theorem laneRates (h : Following z s) {p : Nat} : Following z (s.laneRates p) := h.each _ fun _ _ hu => hu.setFld (by decide)

theorem edgePorts (h : Following z s) : Following z s.edgePorts :=
  ((h.each _ fun _ _ hu => hu.edgeLink.portEval).each _ fun _ _ hu => hu.laneRates).each _ fun _ _ hu => hu.laneRates

theorem thawCounter (h : Following z s) {i : Nat} : Following z (s.thaw .GGE_CNT i) := by
  unfold State.thaw
  extract_lets k p gauge s1
  have h1 : Following z s1 := h.upd rfl rfl
  rw [if_pos rfl]
  exact ite (fun _ => h1.pend) fun _ => h1.gaugeAdd

theorem edgeFreeze (h : Following z s) : Following z s.edgeFreeze :=
  ite (fun _ => (h.setFld (by decide)).each _ fun _ _ hu => ite (fun _ => hu) fun _ => hu.thawCounter) fun _ => h.setFld (by decide)

theorem edgeJournal (h : Following z s) : Following z s.edgeJournal := by
  unfold State.edgeJournal
  exact ite (fun _ => h.upd rfl rfl) fun _ => h.upd rfl rfl

theorem edgeTod (h : Following z s) : Following z s.edgeTod := by
  unfold State.edgeTod
  extract_lets tim s1 s2 s3
  have h1 : Following z s1 := h.upd rfl rfl
  have h2 : Following z s2 := ite (fun _ => h1.setTod) fun _ => h1
  have h3 : Following z s3 := ite (fun _ => h2.setTod) fun _ => h2
  clear_value s3
  exact h3.upd rfl rfl

theorem edgeScan (h : Following z s) : Following z s.edgeScan := by
  unfold State.edgeScan
  extract_lets s1 cmb s2
  have h1 : Following z s1 := ite (fun _ => h.setFld (by decide)) fun _ => h
  clear_value s1
  have h2 : Following z s2 := h1.upd rfl rfl
  exact ite (fun _ => h1.upd rfl rfl) fun _ => ite (fun _ => h1) fun _ => h2.whenever fun _ => (h2.setFld (by decide)).fault

theorem edgeCages (h : Following z s) {n : Nat} : Following z (s.edgeCages n) := by
  unfold State.edgeCages
  refine Following.edgeScan ?_
  exact h.upd rfl rfl

theorem edgeBeat (h : Following z s) : Following z s.edgeBeat := h.upd rfl rfl

theorem edgeHold (h : Following z s) : Following z s.edgeHold := h.each _ fun _ _ hu => hu.setFld (by decide)

theorem edgeLanes (h : Following z s) {x : EdgeIn} : Following z (s.edgeLanes x) :=
  h.foldl _ fun u _ _ hu => by
    extract_lets l prbs t1 t2
    have h2 : Following z t2 := ite (fun _ => hu.setFld (by decide)) fun _ => (hu.setFld (by decide)).setFld (by decide)
    exact h2.whenever fun _ => h2.satFld (by decide)

theorem edgeFec (h : Following z s) {x : EdgeIn} : Following z (s.edgeFec x) :=
  h.foldl _ fun _ _ _ hu => ite (fun _ => hu.macCount.macCount.each _ fun _ _ hv => hv.fault) fun _ => hu

theorem edgeAvs (h : Following z s) {b : Bool} : Following z (s.edgeAvs b) := by
  unfold State.edgeAvs
  exact ite (fun _ => h) fun _ => h.upd rfl rfl

theorem edgeTemp (h : Following z s) {tj : BitVec 8} : Following z (s.edgeTemp tj) :=
  ite (fun _ => (h.setFld (by decide)).setFld (by decide)) fun _ => h.setFld (by decide)

theorem edgeBoot (h : Following z s) : Following z s.edgeBoot := by
  unfold State.edgeBoot
  extract_lets s1
  have h1 : Following z s1 := ite (fun _ => (h.setFld (by decide)).setFld (by decide)) fun _ => h
  clear_value s1
  exact h1.upd rfl rfl

theorem edgeDebug (h : Following z s) : Following z s.edgeDebug := by
  unfold State.edgeDebug
  split
  next => exact h
  next l _ =>
    extract_lets s1
    have h1 : Following z s1 := h.whenever fun _ => h.each _ fun _ _ hu => hu.zeroOctet
    clear_value s1
    exact (h1.setFld (f := F.SEC_DBG_STS_LEVEL) (i := 0) (v := l) (by decide)).upd rfl rfl

theorem edgeChart (h : Following z s) : Following z s.edgeChart := h.upd rfl rfl

theorem edgeCounts (h : Following z s) {x : EdgeIn} {n : Nat} : Following z (s.edgeCounts x n) :=
  h.edgeFreeze.edgePorts.edgeReseq.edgeHbc.edgeHold.edgeBeat.edgeCages.edgeTod.edgeJournal.edgeChart.edgeDebug.edgeBoot.edgeTemp
    |>.edgeAvs.edgeFec.edgeLanes

theorem writeIndex (h : Following z s) {cq : Bool} {g : Nat} : Following z (s.writeIndex cq g) := by
  unfold State.writeIndex
  exact ite (fun _ => h) fun _ => ite (fun _ => h.sendTlp.setCq) fun _ => h.sendTlp.setSq

theorem publish (h : Following z s) {n : Nat} {cq : Bool} {g : Nat} : Following z (s.publish n cq g) :=
  ite (fun _ => h.writeIndex) fun _ => h

theorem cqDrain (h : Following z s) {g : Nat} (n : Nat) : Following z (s.cqDrain g n) := by
  induction n generalizing s with
  | zero => exact h
  | succ n ih =>
    unfold State.cqDrain
    split
    · exact h
    · exact ite (fun _ => h) fun _ => ih h.setCq.cqWrite

theorem issueNext (h : Following z s) : Following z s.issueNext := by
  unfold State.issueNext
  split
  · exact Following.upd (s := s.sendTlp _) h.sendTlp rfl rfl
  · exact h

theorem issueReads (h : Following z s) (n : Nat) : Following z (s.issueReads n) := by
  induction n generalizing s with
  | zero => exact h
  | succ n ih => exact ih h.issueNext

theorem edgeRings (h : Following z s) : Following z s.edgeRings := by
  unfold State.edgeRings
  extract_lets s1
  have h1 : Following z s1 := h.each _ fun _ _ hu => (hu.cqDrain _).publish
  exact (h1.each _ fun _ _ hu => hu.publish).issueReads _

theorem edgeL0p (h : Following z s) : Following z s.edgeL0p := h.upd rfl rfl

theorem edgeClkreq (h : Following z s) {on : Bool} : Following z (s.edgeClkreq on) := h.upd rfl rfl

/-- An edge after the split of duties. -/
theorem edgeRest (h : Following z s) {x : EdgeIn} {was n : Nat} {old : SMap (BitVec 64)} :
    Following z ((((s.edgeRefill was old).edgeCounts x n).edgeL0p.edgeRings).edgeClkreq x.clkreq) :=
  h.edgeRefill.edgeCounts.edgeL0p.edgeRings.edgeClkreq

end Following
end Sys2Proof.Machine
end

section
/-! PROOFS. Tick alignment (R44, R45): what a follower does with a pulse at the edge, and TICK_IN_PULSE and TICK_HOLDOVER. -/
namespace Sys2Proof.Machine

/-! ### The status that an error leaves (Tables 2-1 and 2-6) -/

/-- Beside reports, a status bit that is set is a write of its field. -/
theorem OnlyReports.syncStatus (s : State) (f : Fld) (src : Nat) :
    OnlyReports (fun _ _ => False) (s.setFld f 0 1) (s.syncStatus f src) :=
  (OnlyReports.interrupt _ _ 1).trans (OnlyReports.fault _ _ 1 src 1 0)

theorem State.fld_syncStatus (s : State) {f g : Fld} (src : Nat) (hg : g.reg = .TIK_SYNC_STS) :
    (s.syncStatus f src).fld g 0 = (s.setFld f 0 1).fld g 0 :=
  (OnlyReports.syncStatus s f src).fld (by rw [hg]; decide) id

theorem State.correction_slew {s : State} {e : Int} (h : e.natAbs ≤ max (s.fld F.TIK_SYNC_LOCK_WIN 0) (s.fld F.TIK_SYNC_STEP_LIMIT 0)) :
    (s.correction e).1.natAbs = min e.natAbs (min 8 (s.fld F.TIK_SYNC_SLEW 0)) ∧ (s.correction e).2 = false := by
  unfold State.correction
  rw [if_pos h]
  refine ⟨?_, rfl⟩
  dsimp only
  split <;> omega

theorem State.correction_step {s : State} {e : Int} (hwin : s.fld F.TIK_SYNC_LOCK_WIN 0 < e.natAbs)
    (hlim : s.fld F.TIK_SYNC_STEP_LIMIT 0 < e.natAbs) : s.correction e = (-e, true) := by
  unfold State.correction
  exact if_neg (by omega)

/-- Within LOCK_WIN the follower is locked. -/
theorem State.lockStatus_locked {s : State} {e : Int} (h : e.natAbs ≤ s.fld F.TIK_SYNC_LOCK_WIN 0) :
    (s.lockStatus e).fld F.TIK_SYNC_STS_LOCKED 0 = 1 := by
  unfold State.lockStatus
  rw [if_pos h]
  exact State.fld_setFld_self s F.TIK_SYNC_STS_LOCKED 0 1 (by decide)

/-- Up to STEP_LIMIT it has lost its lock. -/
theorem State.lockStatus_slewing {s : State} {e : Int} (hwin : s.fld F.TIK_SYNC_LOCK_WIN 0 < e.natAbs)
    (hlim : e.natAbs ≤ s.fld F.TIK_SYNC_STEP_LIMIT 0) :
    (s.lockStatus e).fld F.TIK_SYNC_STS_LOCKED 0 = 0 ∧ (s.lockStatus e).fld F.TIK_SYNC_STS_LOCK_LOST 0 = 1 := by
  have hstep : (s.correction e).2 = false := (State.correction_slew (le_max_of_le_right hlim)).2
  have heq : s.lockStatus e = (s.setFld F.TIK_SYNC_STS_LOCKED 0 0).syncStatus F.TIK_SYNC_STS_LOCK_LOST 0 := by
    unfold State.lockStatus
    rw [if_neg (by omega), hstep]
    rfl
  rw [heq, State.fld_syncStatus _ _ rfl, State.fld_syncStatus _ _ rfl, State.fld_setFld_ne _ _ _ _ _ _ (.inr (.inr (by decide)))]
  exact ⟨State.fld_setFld_self s F.TIK_SYNC_STS_LOCKED 0 0 (by decide),
    State.fld_setFld_self _ F.TIK_SYNC_STS_LOCK_LOST 0 1 (by decide)⟩

/-- Beyond STEP_LIMIT it steps, unlocked. -/
theorem State.lockStatus_stepped {s : State} {e : Int} (hwin : s.fld F.TIK_SYNC_LOCK_WIN 0 < e.natAbs)
    (hlim : s.fld F.TIK_SYNC_STEP_LIMIT 0 < e.natAbs) :
    (s.lockStatus e).fld F.TIK_SYNC_STS_LOCKED 0 = 0 ∧ (s.lockStatus e).fld F.TIK_SYNC_STS_STEPPED 0 = 1 := by
  have hlocked : (s.setFld F.TIK_SYNC_STS_LOCKED 0 0).fld F.TIK_SYNC_STS_LOCKED 0 = 0 :=
    State.fld_setFld_self s F.TIK_SYNC_STS_LOCKED 0 0 (by decide)
  unfold State.lockStatus
  rw [if_neg (by omega), State.correction_step hwin hlim]
  generalize s.setFld F.TIK_SYNC_STS_LOCKED 0 0 = u at hlocked
  have hlost (b : Bool) : (u.when b (fun v => v.syncStatus F.TIK_SYNC_STS_LOCK_LOST 0)).fld F.TIK_SYNC_STS_LOCKED 0 = 0 := by
    cases b
    · exact hlocked
    · rw [State.when, if_pos rfl, State.fld_syncStatus _ _ rfl, State.fld_setFld_ne _ _ _ _ _ _ (.inr (.inr (by decide)))]
      exact hlocked
  dsimp only
  rw [State.when, if_pos rfl, State.fld_syncStatus _ _ rfl, State.fld_syncStatus _ _ rfl,
    State.fld_setFld_ne _ _ _ _ _ _ (.inr (.inr (by decide)))]
  exact ⟨hlost _, State.fld_setFld_self _ F.TIK_SYNC_STS_STEPPED 0 1 (by decide)⟩

/-! ### The edge that acts on a pulse -/

/-- State `t` has acted on error `e` as the settings and the pulse of `s` ask. -/
structure Acted (e : Int) (s t : State) : Prop where
  fixed : s.tick.fixCount = true → t.fld F.TIK_SYNC_STS_COUNT_FIX 0 = 1
  locked : e.natAbs ≤ s.fld F.TIK_SYNC_LOCK_WIN 0 → t.fld F.TIK_SYNC_STS_LOCKED 0 = 1
  slewing : s.fld F.TIK_SYNC_LOCK_WIN 0 < e.natAbs → e.natAbs ≤ s.fld F.TIK_SYNC_STEP_LIMIT 0 →
    t.fld F.TIK_SYNC_STS_LOCKED 0 = 0 ∧ t.fld F.TIK_SYNC_STS_LOCK_LOST 0 = 1
  stepped : s.fld F.TIK_SYNC_LOCK_WIN 0 < e.natAbs → s.fld F.TIK_SYNC_STEP_LIMIT 0 < e.natAbs →
    t.fld F.TIK_SYNC_STS_LOCKED 0 = 0 ∧ t.fld F.TIK_SYNC_STS_STEPPED 0 = 1

theorem Acted.kept {e : Int} {s t u : State} (h : Acted e s t) (k : u.reg .TIK_SYNC_STS 0 = t.reg .TIK_SYNC_STS 0) : Acted e s u := by
  have hfld {f : Fld} (hf : f.reg = .TIK_SYNC_STS) : u.fld f 0 = t.fld f 0 := by
    unfold State.fld
    rw [hf, k]
  refine ⟨fun hfix => ?_, fun hwin => ?_, fun hwin hlim => ?_, fun hwin hlim => ?_⟩
  · rw [hfld rfl, h.fixed hfix]
  · rw [hfld rfl, h.locked hwin]
  · rw [hfld rfl, hfld rfl]
    exact h.slewing hwin hlim
  · rw [hfld rfl, hfld rfl]
    exact h.stepped hwin hlim

/-- The settings and the pulse are those before the edge's first items. -/
theorem Acted.ofSteady {c : Scope} {e : Int} {z s t : State} (h : Acted e s t) (k : Steady c z s) (hc : c.tick = true) : Acted e z t := by
  have hwin : s.fld F.TIK_SYNC_LOCK_WIN 0 = z.fld F.TIK_SYNC_LOCK_WIN 0 := k.clockFld (by decide)
  have hlim : s.fld F.TIK_SYNC_STEP_LIMIT 0 = z.fld F.TIK_SYNC_STEP_LIMIT 0 := k.clockFld (by decide)
  obtain ⟨hfixed, hlocked, hslewing, hstepped⟩ := h
  rw [k.tick hc] at hfixed
  rw [hwin] at hlocked hslewing hstepped
  rw [hlim] at hslewing hstepped
  exact ⟨hfixed, hlocked, hslewing, hstepped⟩

theorem State.edgeFollow_acted {s : State} {e : Int} (hrole : s.tickRole = 2) (hpulse : s.tick.pulse = some e) :
    Acted e s s.edgeFollow := by
  have heq : s.edgeFollow = (s.lockStatus e).when s.tick.fixCount (fun u => u.syncStatus F.TIK_SYNC_STS_COUNT_FIX 2) := by
    unfold State.edgeFollow
    rw [if_pos hrole, hpulse]
  have hother {f : Fld} (hf : f.reg = .TIK_SYNC_STS) (hbits : f.lsb + f.width ≤ 20) :
      s.edgeFollow.fld f 0 = (s.lockStatus e).fld f 0 := by
    rw [heq, State.when]
    split
    · rw [State.fld_syncStatus _ _ hf, State.fld_setFld_ne _ _ _ _ _ _ (.inr (.inr (.inl hbits)))]
    · rfl
  refine ⟨fun hfix => ?_, fun hwin => ?_, fun hwin hlim => ?_, fun hwin hlim => ?_⟩
  · rw [heq, State.when, if_pos hfix, State.fld_syncStatus _ _ rfl]
    exact State.fld_setFld_self _ F.TIK_SYNC_STS_COUNT_FIX 0 1 (by decide)
  · rw [hother rfl (by decide), State.lockStatus_locked hwin]
  · rw [hother rfl (by decide), hother rfl (by decide)]
    exact State.lockStatus_slewing hwin hlim
  · rw [hother rfl (by decide), hother rfl (by decide)]
    exact State.lockStatus_stepped hwin hlim

/-- The count uses the pulse up and puts its correction in force. -/
theorem State.edgeCount_follow (s : State) :
    s.edgeCount.tick.follow = (none, false, s.nextAdjust.1) ∧ s.edgeCount.reg .TIK_SYNC_STS 0 = s.edgeFollow.reg .TIK_SYNC_STS 0 := by
  unfold State.edgeCount
  extract_lets a l s1 tick s2
  have h1 : s1.reg .TIK_SYNC_STS 0 = s.edgeFollow.reg .TIK_SYNC_STS 0 :=
    (State.reg_setReg_ne (by decide)).trans (State.reg_setReg_ne (by decide))
  clear_value s1
  split
  · exact ⟨rfl, h1⟩
  · exact ⟨rfl, h1⟩

/-- The instant of the edge leaves what the count has made of the pulse. -/
theorem State.edgeTime_following (s : State) : Following (s.edgeStamps s.tikCount).edgeCount s.edgeTime := by
  unfold State.edgeTime
  extract_lets s1 tick chart s2
  change Following s1 (s2.setReg .TIK_COMMIT_STS 0 0)
  clear_value s1
  have h1 : Following s1 s2 := (Following.refl s1).upd rfl rfl
  exact h1.setReg (by decide)

theorem State.edgeTime_acted {s : State} {e : Int} (hrole : s.tickRole = 2) (hpulse : s.tick.pulse = some e) :
    Acted e s s.edgeTime ∧ s.edgeTime.tick.follow = (none, false, (s.correction e).1) := by
  have hstamps := (Steady.refl .early s).edgeStamps (k := s.tikCount)
  have hrole' : (s.edgeStamps s.tikCount).tickRole = 2 := hstamps.tickRole.trans hrole
  have hpulse' : (s.edgeStamps s.tikCount).tick.pulse = some e := (congrArg TickSt.pulse (hstamps.tick rfl)).trans hpulse
  have hadj : s.nextAdjust = s.correction e := by rw [State.nextAdjust, if_pos hrole, hpulse]
  obtain ⟨hfollow, hstatus⟩ := (s.edgeStamps s.tikCount).edgeCount_follow
  have hkept := s.edgeTime_following
  refine ⟨((State.edgeFollow_acted hrole' hpulse').ofSteady hstamps rfl).kept (hkept.status.trans hstatus), ?_⟩
  rw [hkept.tick, hfollow, hstamps.nextAdjust rfl, hadj]

theorem Following.edgeSplit {z s : State} (h : Following z s) : Following z s.edgeSplit := by
  unfold State.edgeSplit
  extract_lets s1
  have h1 : Following z s1 := ite (fun _ => h.reports (OnlyRegs.hostLoss s _).reports (by decide)) fun _ => h
  exact h1.setReg (by decide)

/-- A tick edge after its instant leaves what the count has made of the pulse. -/
theorem Following.edgeAfter {z s : State} (h : Following z s) {x : EdgeIn} {was n : Nat} {old : SMap (BitVec 64)} :
    Following z (((((((s.edgeForce).edgeTables x).edgeCommits).hwWrites.edgeModes x).edgeRefill was old).edgeCounts x n)
      |>.edgeL0p.edgeRings.edgeClkreq x.clkreq) :=
  h.edgeForce.edgeTables.edgeCommits.hwWrites.edgeSplit.edgeGo.edgeMode.edgePower.edgeLevel.edgeLag.edgeRest

/-- TICK_EDGE of a follower after a pulse (R45). -/
theorem exec_tickEdge_follower {x : EdgeIn} {e : Int} {s : State} (h : s.clockOn = true) (hrole : s.tickRole = 2)
    (hpulse : s.tick.pulse = some e) :
    ∃ t, exec (.tickEdge x) s = .next t ∧ Acted e s t ∧ t.tick.follow = (none, false, (s.correction e).1) := by
  have hbefore := (Steady.refl .early s).begin.edgeBefore (x := x)
  have hpulse' : (s.begin.edgeBefore x).tick.pulse = some e := (congrArg TickSt.pulse (hbefore.tick rfl)).trans hpulse
  obtain ⟨hacted, hfollow⟩ := State.edgeTime_acted (hbefore.tickRole.trans hrole) hpulse'
  have hafter := (Following.refl (s.begin.edgeBefore x).edgeTime).edgeAfter (x := x) (was := s.begin.fld F.GLB_SPLIT_EFF_ALL 0)
    (n := s.begin.tick.len) (old := (s.begin.edgeBefore x).edgeTime.inForce)
  refine ⟨_, if_neg (by rw [show s.begin.clockOn = true from h]; decide), (hacted.ofSteady hbefore rfl).kept hafter.status, ?_⟩
  rw [hafter.tick, hfollow, hbefore.correction]

/-! ### Pulses and holdover -/

theorem unsignedOf_lt (w : Nat) (v : Int) : unsignedOf w v < 2 ^ w := by
  have hpos : (0 : Int) < (2 ^ w : Nat) := Int.natCast_pos.2 (Nat.two_pow_pos w)
  have hlt := Int.emod_lt_of_pos v hpos
  unfold unsignedOf
  omega

/-- A follower takes a pulse: its error is recorded, holdover ends, and the next edge is to act on it. -/
theorem State.followPulse_effect (s : State) (long : Bool) :
    (s.followPulse long).fld F.TIK_SYNC_STS_ERR 0 = unsignedOf 16 s.tickError ∧ (s.followPulse long).fld F.TIK_SYNC_STS_HOLDOVER 0 = 0 ∧
      OnlyRegs (fun r _ => r = .TIK_SYNC_STS) s { s.followPulse long with tick := s.tick } := by
  unfold State.followPulse
  extract_lets err s1
  change s1.fld F.TIK_SYNC_STS_ERR 0 = unsignedOf 16 err ∧ s1.fld F.TIK_SYNC_STS_HOLDOVER 0 = 0 ∧ _
  have herr : unsignedOf 16 err < 2 ^ 16 := unsignedOf_lt 16 err
  clear_value err
  refine ⟨?_, State.fld_setFld_self _ F.TIK_SYNC_STS_HOLDOVER 0 0 (by decide), ?_⟩
  · refine (State.fld_setFld_ne _ F.TIK_SYNC_STS_HOLDOVER _ _ _ _ (.inr (.inr (by decide)))).trans ?_
    exact (State.fld_setFld_self s F.TIK_SYNC_STS_ERR 0 _ (by decide)).trans (Nat.mod_eq_of_lt herr)
  · have honly : OnlyRegs (fun r _ => r = .TIK_SYNC_STS) s s1 := (OnlyRegs.setFld s _ rfl).trans (OnlyRegs.setFld _ 0 rfl)
    have htick : { s1 with tick := s.tick } = s1 := by rw [← honly.tick]
    clear_value s1
    exact htick ▸ honly

/-- A follower without pulses free-runs. -/
def State.freeRun (s : State) : State :=
  ((s.setFld F.TIK_SYNC_STS_HOLDOVER 0 1).setFld F.TIK_SYNC_STS_LOCKED 0 0).syncStatus F.TIK_SYNC_STS_LOCK_LOST 0

theorem State.freeRun_effect (s : State) :
    s.freeRun.fld F.TIK_SYNC_STS_HOLDOVER 0 = 1 ∧ s.freeRun.fld F.TIK_SYNC_STS_LOCKED 0 = 0 ∧
      s.freeRun.fld F.TIK_SYNC_STS_LOCK_LOST 0 = 1 ∧ OnlyReports (fun r _ => r = .TIK_SYNC_STS) s s.freeRun := by
  have hfld {f : Fld} (hf : f.reg = .TIK_SYNC_STS) := State.fld_syncStatus
    ((s.setFld F.TIK_SYNC_STS_HOLDOVER 0 1).setFld F.TIK_SYNC_STS_LOCKED 0 0) (f := F.TIK_SYNC_STS_LOCK_LOST) 0 hf
  refine ⟨?_, ?_, ?_, ?_⟩
  · refine (hfld rfl).trans ?_
    rw [State.fld_setFld_ne _ _ _ _ _ _ (.inr (.inr (by decide))), State.fld_setFld_ne _ _ _ _ _ _ (.inr (.inr (by decide)))]
    exact State.fld_setFld_self _ F.TIK_SYNC_STS_HOLDOVER 0 1 (by decide)
  · refine (hfld rfl).trans ?_
    rw [State.fld_setFld_ne _ _ _ _ _ _ (.inr (.inr (by decide)))]
    exact State.fld_setFld_self _ F.TIK_SYNC_STS_LOCKED 0 0 (by decide)
  · exact (hfld rfl).trans (State.fld_setFld_self _ F.TIK_SYNC_STS_LOCK_LOST 0 1 (by decide))
  · have hregs := (OnlyRegs.setFld s 1 (f := F.TIK_SYNC_STS_HOLDOVER) (i := 0) rfl).trans
      (OnlyRegs.setFld _ 0 (f := F.TIK_SYNC_STS_LOCKED) (i := 0) rfl) |>.trans
      (OnlyRegs.setFld _ 1 (f := F.TIK_SYNC_STS_LOCK_LOST) (i := 0) (p := fun r _ => r = .TIK_SYNC_STS) rfl)
    exact hregs.reports.trans ((OnlyReports.syncStatus _ _ 0).mono fun _ _ => False.elim)

/-- Settles O14: the role decides what a pulse does; at the edge `Acted` says what the follower makes of the error, and the rest
of the edge leaves it (`Following`). -/
theorem tickAlignment : Obligations.TickAlignment := by
  refine ⟨fun long s hrole => ?idle, fun long s hrole => ?master, fun long s hrole => ?pulse, fun x e s hmode hboot hrole hpulse => ?edge,
    fun s hrole => ?holdover⟩
  case idle =>
    have hrun : execTickInPulse long s = .next s.begin := by
      unfold execTickInPulse
      dsimp only
      rw [show s.begin.tickRole = 0 from hrole]
      rfl
    exact hrun
  case master =>
    have hrun : execTickInPulse long s = .next (s.begin.setFld F.TIK_SYNC_STS_PEER 0 1) := by
      unfold execTickInPulse
      dsimp only
      rw [show s.begin.tickRole = 1 from hrole]
      rfl
    exact ⟨_, hrun, State.fld_setFld_self _ F.TIK_SYNC_STS_PEER 0 1 (by decide), (OnlyRegs.begin _ s).trans (OnlyRegs.setFld _ _ rfl)⟩
  case pulse =>
    have hrun : execTickInPulse long s = .next (s.begin.followPulse long) := by
      unfold execTickInPulse
      dsimp only
      rw [show s.begin.tickRole = 2 from hrole]
      rfl
    obtain ⟨herr, hhold, honly⟩ := s.begin.followPulse_effect long
    exact ⟨_, hrun, herr, hhold, rfl, (OnlyRegs.begin _ s).trans honly⟩
  case edge =>
    obtain ⟨t, hexec, hacted, hfollow⟩ := exec_tickEdge_follower (x := x) (s.clockOn_iff.2 ⟨hmode, hboot⟩) hrole hpulse
    simp only [TickSt.follow, Prod.mk.injEq] at hfollow
    obtain ⟨hnone, hfix, hadj⟩ := hfollow
    refine ⟨t, hexec, hnone, hfix, hacted.fixed, fun hwin => ⟨hacted.locked hwin, ?_⟩, fun hwin hlim => ?_, fun hwin hlim => ?_⟩
    · rw [hadj, (State.correction_slew (le_max_of_le_left hwin)).1]
    · obtain ⟨hlocked, hlost⟩ := hacted.slewing hwin hlim
      exact ⟨hlocked, hlost, by rw [hadj, (State.correction_slew (le_max_of_le_right hlim)).1]⟩
    · obtain ⟨hlocked, hstepped⟩ := hacted.stepped hwin hlim
      exact ⟨hlocked, hstepped, by rw [hadj, State.correction_step hwin hlim]⟩
  case holdover =>
    have hrun : execTickHoldover s =
        .next { s.begin.freeRun with tick := { s.begin.freeRun.tick with pulse := none, remainder := 0 } } := by
      unfold execTickHoldover
      dsimp only
      rw [show s.begin.tickRole = 2 from hrole]
      rfl
    obtain ⟨hhold, hlocked, hlost, honly⟩ := s.begin.freeRun_effect
    have htick : { s.begin.freeRun with tick := s.tick } = s.begin.freeRun := by
      rw [show s.tick = s.begin.freeRun.tick from honly.tick.symm]
    exact ⟨_, hrun, hhold, hlocked, hlost, rfl, rfl, (OnlyReports.begin _ s).trans (htick ▸ honly)⟩

end Sys2Proof.Machine
end

section
/-! PROOFS. A write of a port's configuration: accepted as a whole, or refused with CFG_ERR (R58 to R61). -/

namespace Sys2Proof.Machine

theorem getField_eq_iff {a b : BitVec 64} {lsb w : Nat} :
    getField a lsb w = getField b lsb w ↔ ∀ i, i < w → a.getLsbD (lsb + i) = b.getLsbD (lsb + i) := by
  constructor
  · intro h i hi
    have hbit := congrArg (Nat.testBit · i) h
    simpa [testBit_getField, hi] using hbit
  · intro h
    refine Nat.eq_of_testBit_eq fun i => ?_
    rw [testBit_getField, testBit_getField]
    by_cases hi : i < w
    · rw [h i hi]
    · simp [hi]

/-- Two values agree on the bits of a mask. -/
theorem xor_and_eq_zero_iff {a b m : BitVec 64} :
    (a ^^^ b) &&& m = 0 ↔ ∀ i : Fin 64, m.getLsbD i = true → a.getLsbD i = b.getLsbD i := by
  constructor
  · intro h i hm
    have hbit := congrArg (fun z => BitVec.getLsbD z i) h
    rw [BitVec.getLsbD_and, BitVec.getLsbD_xor, hm, Bool.and_true] at hbit
    exact bne_eq_false_iff_eq.1 (hbit.trans BitVec.getLsbD_zero)
  · intro h
    refine BitVec.eq_of_getLsbD_eq fun i hi => ?_
    rw [BitVec.getLsbD_and, BitVec.getLsbD_xor]
    cases hm : m.getLsbD i with
    | false => simp
    | true => rw [h ⟨i, hi⟩ hm]; simp

theorem getLsbD_modeBits : ∀ i : Fin 64, modeBits.getLsbD i = true ↔ (1 ≤ i.val ∧ i.val < 8) ∨ i.val = 11 := by decide

/-- WIDTH, SPEED, FEC and YARN stay (R60). -/
theorem modeBits_same_iff {old new : BitVec 64} :
    (old ^^^ new) &&& modeBits = 0 ↔
      getField new 1 2 = getField old 1 2 ∧ getField new 3 3 = getField old 3 3 ∧ getField new 6 2 = getField old 6 2 ∧
        new.getLsbD 11 = old.getLsbD 11 := by
  simp only [xor_and_eq_zero_iff, getLsbD_modeBits, getField_eq_iff]
  constructor
  · intro h
    have hbit (i : Nat) (hi : i < 64) (hm : (1 ≤ i ∧ i < 8) ∨ i = 11) : new.getLsbD i = old.getLsbD i := (h ⟨i, hi⟩ hm).symm
    exact ⟨fun i hi => hbit _ (by omega) (by omega), fun i hi => hbit _ (by omega) (by omega),
      fun i hi => hbit _ (by omega) (by omega), hbit 11 (by omega) (by omega)⟩
  · rintro ⟨hwidth, hspeed, hfec, hyarn⟩ ⟨i, hi⟩ hm
    dsimp only at hm ⊢
    have hcase : (1 ≤ i ∧ i < 3) ∨ (3 ≤ i ∧ i < 6) ∨ (6 ≤ i ∧ i < 8) ∨ i = 11 := by omega
    rcases hcase with h | h | h | rfl
    · simpa [show 1 + (i - 1) = i by omega] using (hwidth (i - 1) (by omega)).symm
    · simpa [show 3 + (i - 3) = i by omega] using (hspeed (i - 3) (by omega)).symm
    · simpa [show 6 + (i - 6) = i by omega] using (hfec (i - 6) (by omega)).symm
    · exact hyarn.symm

/-- Every field of MAC_PORT_CFG is RW (R6, R61). -/
theorem written_MAC_PORT_CFG (old v : BitVec 64) :
    Reg.written .MAC_PORT_CFG old low32 v = (old &&& ~~~ (0x3FFF0FFF : BitVec 64)) ||| (v &&& 0x3FFF0FFF) := by
  have hrw : Reg.rwMask .MAC_PORT_CFG &&& low32 = 0x3FFF0FFF := by decide
  have hw1c : Reg.w1cMask .MAC_PORT_CFG = 0#64 := by decide
  have hcount : Reg.countMask .MAC_PORT_CFG = 0#64 := by decide
  have hset : v &&& Reg.rwMask .MAC_PORT_CFG &&& low32 = v &&& 0x3FFF0FFF := by rw [BitVec.and_assoc, hrw]
  have hnone : v &&& low32 &&& 0#64 = 0 := BitVec.and_zero
  unfold Reg.written
  dsimp only
  rw [hw1c, hcount, hset, hrw, hnone, if_pos rfl]
  exact BitVec.and_allOnes

/-- What `State.portCfgOk` asks of a configuration with EN (R58, R59, R60, R62). -/
theorem State.portCfgOk_iff (s : State) (p : Fin 130) (v : BitVec 64) :
    s.portCfgOk p.val v = true ↔
      if 128 ≤ p.val then getField v 3 3 = 1 ∧ getField v 1 2 = 0 ∧ getField v 6 2 ≤ 1 ∧ v.getLsbD 11 = false
      else portRate (getField v 3 3) (getField v 1 2) (getField v 6 2) ≠ none ∧ p.val % 8 % 2 ^ getField v 1 2 = 0 ∧
        s.lanesTaken p.val (getField v 1 2) = false := by
  have hmgt : isMgt p.val = Decidable.decide (128 ≤ p.val) := by
    unfold isMgt
    rw [Bool.eq_iff_iff]
    simp only [Bool.or_eq_true, beq_iff_eq, decide_eq_true_eq]
    omega
  unfold State.portCfgOk
  rw [hmgt]
  by_cases hp : 128 ≤ p.val
  · rw [if_pos hp, decide_eq_true hp, if_pos rfl]
    simp only [Bool.and_eq_true, Bool.or_eq_true, beq_iff_eq, Bool.not_eq_true']
    constructor
    · rintro ⟨⟨⟨hspeed, hwidth⟩, hfec⟩, hyarn⟩
      exact ⟨hspeed, hwidth, by omega, hyarn⟩
    · rintro ⟨hspeed, hwidth, hfec, hyarn⟩
      exact ⟨⟨⟨hspeed, hwidth⟩, by omega⟩, hyarn⟩
  · rw [if_neg hp, decide_eq_false hp, if_neg Bool.false_ne_true]
    simp only [Bool.and_eq_true, beq_iff_eq, Bool.not_eq_true', Option.isSome_iff_ne_none, and_assoc]

/-- What R60 asks of a write. -/
theorem State.portWriteOk_iff (s : State) (p : Nat) (old new : BitVec 64) :
    s.portWriteOk p old new = true ↔
      (new.getLsbD 0 = true → s.portCfgOk p new = true) ∧
        (¬ (getField new 1 2 = getField old 1 2 ∧ getField new 3 3 = getField old 3 3 ∧ getField new 6 2 = getField old 6 2 ∧
            new.getLsbD 11 = old.getLsbD 11) → old.getLsbD 0 = false ∧ s.portState p = 0) := by
  unfold State.portWriteOk
  rw [Bool.and_eq_true, Bool.or_eq_true, Bool.or_eq_true, Bool.and_eq_true, Bool.not_eq_true', Bool.not_eq_true', beq_iff_eq,
    beq_iff_eq, modeBits_same_iff]
  refine and_congr ?_ ?_
  · cases new.getLsbD 0 <;> simp
  · exact or_iff_not_imp_left

/-- The shadow rule leaves what acceptance looks at. -/
theorem State.portWriteOk_touch (s : State) (a : Agent) (k p : Nat) (old new : BitVec 64) :
    (s.begin.touch a k).portWriteOk p old new = s.portWriteOk p old new := by
  have hreg (r : Reg) (i : Nat) : (s.begin.touch a k).reg r i = s.reg r i := touch_reg s.begin a k r i
  simp only [State.portWriteOk, State.portCfgOk, State.lanesTaken, State.bit, State.fld, hreg]

theorem OnlyRegs.inForce {p} {s t : State} (h : OnlyRegs p s t) : t.inForce = s.inForce := (congrArg State.inForce h.1 :)

/-- Settles O16: `State.portWriteOk_iff` says what is accepted, and the write sets one register or one bit. -/
theorem portConfigWrites : Obligations.PortConfigWrites := by
  intro a p v s ht old new width speed fec good ok
  let t := s.begin.touch a (Reg.key .MAC_PORT_CFG p.val)
  have hreg : t.reg .MAC_PORT_CFG p.val = old := touch_reg s.begin _ _ _ _
  have hexec : exec (.portCfgWrite a p v) s = .next (t.writePortCfg p.val low32 (v.setWidth 64)) :=
    congrArg Host.Outcome.next (writeBy_takes ht _)
  have hnew : Reg.written .MAC_PORT_CFG old low32 (v.setWidth 64) = new := written_MAC_PORT_CFG _ _
  have hok : t.portWriteOk p.val old new = true ↔ ok := by
    rw [State.portWriteOk_touch, State.portWriteOk_iff, State.portCfgOk_iff]
  have hrun : t.writePortCfg p.val low32 (v.setWidth 64) =
      if t.portWriteOk p.val old new then t.setReg .MAC_PORT_CFG p.val new else t.setFld F.MAC_PORT_STS_CFG_ERR p.val 1 := by
    unfold State.writePortCfg
    dsimp only
    rw [hreg, hnew]
  have honly (q : Reg → Nat → Prop) : OnlyRegs q s t := OnlyRegs.begin_touch q s a _
  refine ⟨fun h => ⟨_, hexec, ?_⟩, fun h => ⟨_, hexec, ?_⟩⟩
  · rw [hrun, if_pos (hok.2 h)]
    refine ⟨State.reg_setReg_self .., ?_, (honly _).trans (OnlyRegs.setReg t new ⟨rfl, rfl⟩)⟩
    exact (honly fun _ _ => False).inForce
  · rw [hrun, if_neg (mt hok.1 h)]
    exact ⟨State.fld_setFld_self _ _ _ _ (by decide), (honly _).trans (OnlyRegs.setFld t 1 ⟨rfl, rfl⟩)⟩

end Sys2Proof.Machine
end

section
/-! PROOFS. I²C transfers, commands to the time of day, and the locks of SyncE (R85, R86, R91). -/

namespace Sys2Proof.Machine

theorem OnlyRegs.cmb {p} {s t : State} (h : OnlyRegs p s t) : t.cmb = s.cmb := (congrArg State.cmb h.1 :)

theorem OnlyRegs.tim {p} {s t : State} (h : OnlyRegs p s t) : t.tim = s.tim := (congrArg State.tim h.1 :)

/-- A one-bit field reads as a bit. -/
theorem State.bit_eq_true_iff (s : State) (f : Fld) (i : Nat) : s.bit f i = true ↔ s.fld f i = 1 := by
  rw [State.bit, beq_iff_eq]

/-- A field of other bits reads what it read. -/
theorem State.fld_setFld_apart (s : State) {f g : Fld} {i j x : Nat} (h : g.lsb + g.width ≤ f.lsb ∨ f.lsb + f.width ≤ g.lsb) :
    (s.setFld f i x).fld g j = s.fld g j := State.fld_setFld_ne _ _ _ _ _ _ (.inr (.inr h))

/-- A bit of a 32-bit value that is written whole. -/
theorem wbit_low32 (v : BitVec 32) {b : Nat} (hb : b < 32) : wbit low32 (v.setWidth 64) b = v.getLsbD b := by
  rw [wbit, BitVec.getLsbD_and, getLsbD_low32, BitVec.getLsbD_setWidth, decide_eq_true hb,
    decide_eq_true (show b < 64 by omega), Bool.true_and, Bool.and_true]

theorem wbit_all64 (v : BitVec 64) {b : Nat} (hb : b < 64) : wbit all64 v b = v.getLsbD b := by
  rw [wbit, BitVec.getLsbD_and, getLsbD_all64, decide_eq_true hb, Bool.and_true]

/-! ### The buffer of an I²C master -/

theorem length_leBytes (n v : Nat) : (leBytes n v).length = n := by
  induction n generalizing v with
  | zero => rfl
  | succ n ih => rw [leBytes, List.length_cons, ih]

theorem ofLe_lt (l : Bytes) : ofLe l < 256 ^ l.length := by
  induction l with
  | nil => decide
  | cons b l ih =>
    have hb : b.toNat < 256 := b.isLt
    rw [ofLe, List.length_cons, pow_succ]
    omega

/-- The bytes of the number that given bytes make are those bytes (R3). -/
theorem leBytes_ofLe (l : Bytes) : leBytes l.length (ofLe l) = l := by
  induction l with
  | nil => rfl
  | cons b l ih =>
    have hb : b.toNat < 256 := b.isLt
    rw [List.length_cons, ofLe, leBytes, Nat.add_mul_div_left _ _ (by decide), Nat.div_eq_of_lt hb, Nat.zero_add, ih]
    congr 1
    refine BitVec.eq_of_toNat_eq ?_
    rw [BitVec.toNat_ofNat]
    omega

theorem length_sliceZ (l : Bytes) (off n : Nat) : (sliceZ l off n).length = n := by simp [sliceZ]

theorem leBytes_leAt (l : Bytes) (off n : Nat) : leBytes n (leAt l off n) = sliceZ l off n := by
  have h := leBytes_ofLe (sliceZ l off n)
  rwa [length_sliceZ] at h

theorem leAt_lt (l : Bytes) (off n : Nat) : leAt l off n < 256 ^ n := by
  have h := ofLe_lt (sliceZ l off n)
  rwa [length_sliceZ] at h

theorem sliceZ_add (l : Bytes) (off m n : Nat) : sliceZ l off (m + n) = sliceZ l off m ++ sliceZ l (off + m) n := by
  simp [sliceZ, List.range_add, Function.comp_def, Nat.add_assoc]

/-- A string cut into words of four bytes. -/
theorem flatMap_sliceZ (l : Bytes) (n : Nat) : (List.range n).flatMap (fun w => sliceZ l (w * 4) 4) = sliceZ l 0 (n * 4) := by
  induction n with
  | zero => rfl
  | succ n ih => rw [List.range_succ, List.flatMap_append, ih, Nat.succ_mul, sliceZ_add, Nat.zero_add]; simp

theorem sliceZ_whole (l : Bytes) : sliceZ l 0 l.length = l := by
  refine List.ext_getElem (length_sliceZ l 0 _) fun i h1 h2 => ?_
  simp [sliceZ, List.getD_eq_getElem?_getD, List.getElem?_eq_getElem h2]

theorem State.length_i2cBytes (s : State) (m : Nat) : (s.i2cBytes m 128).length = 128 := by
  simp [State.i2cBytes, length_leBytes]

theorem State.i2cBytes_congr {s t : State} (h : ∀ i, t.reg .CAGE_I2C_DATA i = s.reg .CAGE_I2C_DATA i) (m n : Nat) :
    t.i2cBytes m n = s.i2cBytes m n := by
  simp only [State.i2cBytes, h]

/-- What a register reads at the numbers from `b` on that have been written one by one. -/
theorem State.reg_each_setReg (s : State) (r : Reg) (b : Nat) (v : Nat → BitVec 64) (l : List Nat) {w : Nat} (hw : w ∈ l) :
    (s.each l (fun t w => t.setReg r (b + w) (v w))).reg r (b + w) = v w := by
  have hstep (t : State) (l : List Nat) (h : w ∈ l ∨ t.reg r (b + w) = v w) :
      (t.each l (fun t w => t.setReg r (b + w) (v w))).reg r (b + w) = v w := by
    induction l generalizing t with
    | nil => simpa [State.each] using h
    | cons x l ih =>
      refine ih _ ?_
      rw [State.reg_setReg]
      by_cases hx : x = w
      · exact .inr (by rw [if_pos ⟨rfl, by rw [hx]⟩, hx])
      · rcases h with h | h
        · exact .inl ((List.mem_cons.1 h).resolve_left (Ne.symm hx))
        · exact .inr (by rw [if_neg (by omega), h])
  exact hstep s l (.inl hw)

/-- The buffer starts with the bytes that were read (R85). -/
theorem State.i2cBytes_i2cFill (s : State) (m : Nat) {data : Bytes} (hlen : data.length = (s.i2cRun m).2) (hmax : data.length ≤ 128) :
    (s.i2cFill m data).i2cBytes m data.length = data := by
  have hall : overwrite (s.i2cBytes m 128) 0 data = data ++ (s.i2cBytes m 128).drop data.length := by
    unfold overwrite
    rw [s.length_i2cBytes, List.take_zero, List.nil_append, List.take_of_length_le (by omega), Nat.zero_add]
  have hword (w : Nat) (hw : w ∈ List.range 32) :
      leBytes 4 ((s.i2cFill m data).reg .CAGE_I2C_DATA (m * 32 + w)).toNat = sliceZ (overwrite (s.i2cBytes m 128) 0 data) (w * 4) 4 := by
    unfold State.i2cFill
    rw [← hlen, List.take_length]
    dsimp only
    rw [State.reg_each_setReg _ _ _ _ _ hw, BitVec.toNat_ofNat, Nat.mod_eq_of_lt, leBytes_leAt]
    exact (leAt_lt _ _ _).trans (by decide)
  have hlen128 : (overwrite (s.i2cBytes m 128) 0 data).length = 32 * 4 := by
    rw [hall, List.length_append, List.length_drop, s.length_i2cBytes]
    omega
  unfold State.i2cBytes
  rw [List.flatMap_congr hword, flatMap_sliceZ, ← hlen128, sliceZ_whole, hall, List.take_left]

/-! ### I²C transfers (R85) -/

theorem exec_i2cGo {a : Agent} {m : Fin 8} {s : State} (h : s.takes a .CAGE_I2C_CTL m.val) (v : BitVec 32) :
    exec (.i2cGo a m v) s = .next ((s.begin.touch a (Reg.key .CAGE_I2C_CTL m.val)).writeI2c m.val low32 (v.setWidth 64)) :=
  congrArg Host.Outcome.next (writeBy_takes h _)

/-- The registers of I²C master `m` that a command to it writes. -/
abbrev I2cCtlSts (m : Nat) : Reg → Nat → Prop := fun r i => (r = .CAGE_I2C_CTL ∨ r = .CAGE_I2C_STS) ∧ i = m

/-- The transfer that GO with a LEN starts in a master that idles. -/
def State.i2cStart (s : State) (m : Nat) : State :=
  { (s.setFld F.CAGE_I2C_STS_BUSY m 1).emit (.i2c m (s.fld F.CAGE_I2C_CTL_ADDR m) (s.fld F.CAGE_I2C_CTL_OFFSET m)
      (s.bit F.CAGE_I2C_CTL_RD m) (s.i2cLen m) (if s.bit F.CAGE_I2C_CTL_RD m then [] else s.i2cBytes m (s.i2cLen m))) with
    cmb := { s.cmb with i2c := SMap.set (fun _ => (false, 0)) s.cmb.i2c m (s.bit F.CAGE_I2C_CTL_RD m, s.i2cLen m) } }

/-- BUSY lies in CAGE_I2C_STS, so that a started transfer keeps every other register. -/
theorem State.reg_i2cStart (s : State) (m : Nat) {r : Reg} {i : Nat} (h : ¬(r = .CAGE_I2C_STS ∧ i = m)) :
    (s.i2cStart m).reg r i = s.reg r i :=
  State.reg_setReg_ne fun e => h ⟨e.1.symm, e.2.symm⟩

theorem State.fld_i2cStart (s : State) (m : Nat) {f : Fld} (h : f.reg ≠ .CAGE_I2C_STS) : (s.i2cStart m).fld f m = s.fld f m := by
  rw [State.fld, State.fld, s.reg_i2cStart m fun e => h e.1]

theorem State.bit_i2cStart (s : State) (m : Nat) {f : Fld} (h : f.reg ≠ .CAGE_I2C_STS) : (s.i2cStart m).bit f m = s.bit f m := by
  rw [State.bit, State.bit, s.fld_i2cStart m h]

theorem State.i2cRun_i2cStart (s : State) (m : Nat) : (s.i2cStart m).i2cRun m = (s.bit F.CAGE_I2C_CTL_RD m, s.i2cLen m) := by
  unfold State.i2cStart State.i2cRun
  dsimp only
  rw [SMap.get_set, if_pos rfl]

theorem State.with_cmb {s : State} {c : CmbSt} (h : s.cmb = c) : { s with cmb := c } = s := by
  subst h
  rfl

theorem State.setFld_emit_with_cmb (s : State) (c : CmbSt) (f : Fld) (i v : Nat) (o : Out) :
    ({ s with cmb := c }.setFld f i v).emit o = { (s.setFld f i v).emit o with cmb := c } := rfl

theorem OnlyRegs.i2cStart (s : State) (m : Nat) : OnlyRegs (I2cCtlSts m) s { s.i2cStart m with cmb := s.cmb } := by
  unfold State.i2cStart
  have h := (OnlyRegs.setFld (p := I2cCtlSts m) (f := F.CAGE_I2C_STS_BUSY) s 1 ⟨.inr rfl, rfl⟩).trans (OnlyRegs.emit _ _ (.i2c m
    (s.fld F.CAGE_I2C_CTL_ADDR m) (s.fld F.CAGE_I2C_CTL_OFFSET m) (s.bit F.CAGE_I2C_CTL_RD m) (s.i2cLen m)
    (if s.bit F.CAGE_I2C_CTL_RD m then [] else s.i2cBytes m (s.i2cLen m))))
  dsimp only
  rw [State.with_cmb h.cmb]
  exact h

/-- What a write to CAGE_I2C_CTL of an idle master, or one without GO, comes to: by GO and LEN (R85). -/
theorem State.writeI2c_taken {s : State} {m : Nat} {mask v : BitVec 64}
    (h : ¬(wbit mask v 31 = true ∧ s.fld F.CAGE_I2C_STS_BUSY m = 1)) :
    s.writeI2c m mask v =
      if wbit mask v 31 = true then
        if (s.plainWrite .CAGE_I2C_CTL m mask v).fld F.CAGE_I2C_CTL_LEN m = 0 then
          (s.plainWrite .CAGE_I2C_CTL m mask v).setFld F.CAGE_I2C_STS_DONE m 1
        else (s.plainWrite .CAGE_I2C_CTL m mask v).i2cStart m
      else s.plainWrite .CAGE_I2C_CTL m mask v := by
  unfold State.writeI2c
  by_cases hgo : wbit mask v 31 = true
  · rw [if_pos hgo, if_pos hgo, if_neg fun e => h ⟨hgo, (s.bit_eq_true_iff _ _).1 e⟩]
    dsimp only
    have hlen (t : State) : t.i2cLen m = 0 ↔ t.fld F.CAGE_I2C_CTL_LEN m = 0 := by rw [State.i2cLen]; omega
    rw [State.setFld_emit_with_cmb]
    unfold State.i2cStart
    exact if_congr (hlen _) rfl rfl
  · rw [if_neg hgo, if_neg hgo]

theorem State.fld_with_cmb (s : State) (c : CmbSt) (f : Fld) (i : Nat) : { s with cmb := c }.fld f i = s.fld f i := rfl

theorem State.fld_i2cEnd (s : State) (m : Nat) :
    (s.i2cEnd m).fld F.CAGE_I2C_STS_BUSY m = 0 ∧ (s.i2cEnd m).fld F.CAGE_I2C_STS_DONE m = 1 := by
  unfold State.i2cEnd
  dsimp only
  simp only [State.fld_with_cmb]
  refine ⟨?_, State.fld_setFld_self _ F.CAGE_I2C_STS_DONE m 1 (by decide)⟩
  exact (State.fld_setFld_apart _ (f := F.CAGE_I2C_STS_DONE) (by decide)).trans
    (State.fld_setFld_self s F.CAGE_I2C_STS_BUSY m 0 (by decide))

/-- The end of a transfer writes the master's status, and forgets what the transfer was. -/
theorem OnlyRegs.i2cEnd (s : State) (m : Nat) :
    OnlyRegs (fun r i => r = .CAGE_I2C_STS ∧ i = m) s { s.i2cEnd m with cmb := s.cmb } := by
  have h := (OnlyRegs.setFld (p := fun r i => r = .CAGE_I2C_STS ∧ i = m) (f := F.CAGE_I2C_STS_BUSY) s 0 ⟨rfl, rfl⟩).trans
    (OnlyRegs.setFld (f := F.CAGE_I2C_STS_DONE) _ 1 ⟨rfl, rfl⟩)
  unfold State.i2cEnd
  dsimp only
  rw [State.with_cmb h.cmb]
  exact h

theorem OnlyRegs.i2cFill (s : State) (m : Nat) (data : Bytes) :
    OnlyRegs (fun r i => r = .CAGE_I2C_DATA ∧ i / 32 = m) s (s.i2cFill m data) := by
  refine List.foldlRecOn _ _ (OnlyRegs.refl _ s) fun t ht w hw => ht.trans (OnlyRegs.setReg t _ ⟨rfl, ?_⟩)
  have := List.mem_range.1 hw
  omega

/-! ### The time of day (R86) -/

theorem exec_todStep {a : Agent} {s : State} (h : s.takes a .TIM_ADJ 0) (v : BitVec 64) :
    exec (.todStep a v) s = .next ((s.begin.touch a (Reg.key .TIM_ADJ 0)).writeTimAdj all64 v) :=
  congrArg Host.Outcome.next (writeBy_takes h _)

theorem exec_todSet {a : Agent} {s : State} (h : s.takes a .TIM_SET_SEC 0) (v : BitVec 64) :
    exec (.todSet a v) s = .next ((s.begin.touch a (Reg.key .TIM_SET_SEC 0)).writeTimSet all64 v) :=
  congrArg Host.Outcome.next (writeBy_takes h _)

/-- A GO bit is kept in the state beside the register. -/
theorem State.writeTimAdj_eq (s : State) (v : BitVec 64) :
    s.writeTimAdj all64 v =
      { s.plainWrite .TIM_ADJ 0 all64 v with tim := { s.tim with stepGo := s.tim.stepGo || v.getLsbD 32 } } := by
  unfold State.writeTimAdj
  rw [wbit_all64 v (by decide)]
  cases v.getLsbD 32 with
  | false => rw [Bool.or_false]; rfl
  | true => rw [Bool.or_true]; rfl

theorem State.writeTimSet_eq (s : State) (v : BitVec 64) :
    s.writeTimSet all64 v =
      { s.plainWrite .TIM_SET_SEC 0 all64 v with tim := { s.tim with setGo := s.tim.setGo || v.getLsbD 63 } } := by
  unfold State.writeTimSet
  rw [wbit_all64 v (by decide)]
  cases v.getLsbD 63 with
  | false => rw [Bool.or_false]; rfl
  | true => rw [Bool.or_true]; rfl

/-! ### SyncE (R91) -/

theorem losFld_reg (i : Nat) : (losFld i).reg = .TIM_SYNCE_STS := by unfold losFld; split_ifs <;> rfl

theorem losFld_width (i : Nat) : (losFld i).width = 1 := by unfold losFld; split_ifs <;> rfl

theorem losStFld_reg (i : Nat) : (losStFld i).reg = .TIM_SYNCE_STS := by unfold losStFld; split_ifs <;> rfl

theorem losStFld_width (i : Nat) : (losStFld i).width = 1 := by unfold losStFld; split_ifs <;> rfl

/-- The live bit lies below the sticky bit. -/
theorem losFld_below (i : Nat) : (losFld i).lsb + (losFld i).width ≤ (losStFld i).lsb ∧ (losStFld i).lsb < 64 := by
  unfold losFld losStFld; split_ifs <;> decide

theorem State.fld_setFld_bit (s : State) {f : Fld} (i b : Nat) (hw : f.width = 1) (hl : f.lsb < 64) : (s.setFld f i b).fld f i = b % 2 := by
  rw [State.fld_setFld_self _ _ _ _ (by omega), hw, pow_one]

/-- SyncE output `i` has lost its source (R91). -/
theorem State.synceLost_effect (s : State) (i : Nat) :
    (s.synceLost i).fld (losFld i) 0 = 1 ∧ (s.fld (losFld i) 0 = 0 → (s.synceLost i).fld (losStFld i) 0 = 1) ∧
      OnlyReports (fun r _ => r = .TIM_SYNCE_STS) s (s.synceLost i) := by
  obtain ⟨hbelow, hst⟩ := losFld_below i
  unfold State.synceLost
  split
  next hlos =>
    have h1 := (s.bit_eq_true_iff _ _).1 hlos
    exact ⟨h1, fun h0 => absurd (h1.symm.trans h0) (by decide), OnlyReports.refl _ s⟩
  next =>
    have hset := (OnlyReports.setFld (p := fun r _ => r = .TIM_SYNCE_STS) s (f := losFld i) (i := 0) 1 (.inr (losFld_reg i))).trans
      (OnlyReports.setFld _ (f := losStFld i) (i := 0) 1 (.inr (losStFld_reg i)))
    have hfault := OnlyReports.faultLasting (fun _ _ => False) ((s.setFld (losFld i) 0 1).setFld (losStFld i) 0 1) 7 0 i 0
    refine ⟨?_, fun _ => ?_, hset.trans (hfault.mono fun _ _ => False.elim)⟩
    · rw [hfault.fld (by rw [losFld_reg]; decide) id, State.fld_setFld_apart _ (.inl hbelow),
        State.fld_setFld_bit _ _ _ (losFld_width i) (by omega)]
    · rw [hfault.fld (by rw [losStFld_reg]; decide) id, State.fld_setFld_bit _ _ _ (losStFld_width i) hst]

/-- SyncE output `i` has its source back (R91). -/
theorem State.synceBack_effect (s : State) (i : Nat) :
    (s.synceBack i).fld (losFld i) 0 = 0 ∧ (s.synceBack i).fld (losStFld i) 0 = s.fld (losStFld i) 0 ∧
      (s.synceBack i).flt.live.contains (7, 0, i) = false ∧ OnlyReports (fun r _ => r = .TIM_SYNCE_STS) s (s.synceBack i) := by
  obtain ⟨hbelow, hst⟩ := losFld_below i
  have hset : OnlyReports (fun r _ => r = .TIM_SYNCE_STS) s (s.setFld (losFld i) 0 0) := OnlyReports.setFld s 0 (.inr (losFld_reg i))
  refine ⟨?_, ?_, ?_, hset.trans (OnlyReports.of_eq rfl rfl)⟩
  · exact State.fld_setFld_bit s 0 0 (losFld_width i) (by omega)
  · exact State.fld_setFld_apart s (.inr hbelow)
  · simp [State.synceBack, State.faultEnds]

/-- The lock of a SyncE source is a bit of SDS_LANE_STS, apart from what its loss sets. -/
theorem State.synceLock_effect {s t : State} {i : Fin 2} {lock : Bool}
    (ht : OnlyReports (fun r _ => r = .TIM_SYNCE_STS) (s.setFld F.SDS_LANE_STS_CDR_LOCK (s.eff F.TIM_SYNCE_LANE i.val) (boolNat lock)) t)
    (o : Out) : (t.emit o).fld F.SDS_LANE_STS_CDR_LOCK (s.eff F.TIM_SYNCE_LANE i.val) = boolNat lock ∧
      OnlyReports (fun r _ => r = .SDS_LANE_STS ∨ r = .TIM_SYNCE_STS) s (t.emit o) := by
  constructor
  · refine (ht.fld (f := F.SDS_LANE_STS_CDR_LOCK) (by decide) (by decide)).trans ?_
    rw [State.fld_setFld_bit _ _ _ rfl (by decide)]
    cases lock <;> rfl
  · exact ((OnlyReports.setFld s (f := F.SDS_LANE_STS_CDR_LOCK) _ (.inr (.inl rfl))).trans (ht.mono fun _ _ => .inr)).trans
      (OnlyReports.emit t o)

theorem OnlyRegs.with_cmb {p} {s t : State} (h : OnlyRegs p s t) : OnlyRegs p s { t with cmb := s.cmb } := by
  rw [State.with_cmb h.cmb]
  exact h

/-- What a write to CAGE_I2C_CTL that is not discarded does, in terms of the register it leaves (R85). -/
theorem State.writeI2c_effect {s : State} {m : Nat} {mask v : BitVec 64} (hout : s.out = [])
    (h : ¬(wbit mask v 31 = true ∧ s.fld F.CAGE_I2C_STS_BUSY m = 1)) {t : State} (ht : s.writeI2c m mask v = t) :
    t.reg .CAGE_I2C_CTL m = Reg.written .CAGE_I2C_CTL (s.reg .CAGE_I2C_CTL m) mask v ∧
      (wbit mask v 31 = false → t.out = [] ∧ t.reg .CAGE_I2C_STS m = s.reg .CAGE_I2C_STS m) ∧
      (wbit mask v 31 = true → t.fld F.CAGE_I2C_CTL_LEN m = 0 → t.out = [] ∧ t.fld F.CAGE_I2C_STS_DONE m = 1) ∧
      (wbit mask v 31 = true → t.fld F.CAGE_I2C_CTL_LEN m ≠ 0 → t.fld F.CAGE_I2C_STS_BUSY m = 1 ∧
        t.i2cRun m = (t.bit F.CAGE_I2C_CTL_RD m, min 128 (t.fld F.CAGE_I2C_CTL_LEN m)) ∧
        t.out = [.i2c m (t.fld F.CAGE_I2C_CTL_ADDR m) (t.fld F.CAGE_I2C_CTL_OFFSET m) (t.bit F.CAGE_I2C_CTL_RD m)
          (min 128 (t.fld F.CAGE_I2C_CTL_LEN m))
          (if t.bit F.CAGE_I2C_CTL_RD m then [] else s.i2cBytes m (min 128 (t.fld F.CAGE_I2C_CTL_LEN m)))]) ∧
      OnlyRegs (I2cCtlSts m) s { t with cmb := s.cmb } := by
  rw [State.writeI2c_taken h] at ht
  have hwrite : OnlyRegs (I2cCtlSts m) s (s.plainWrite .CAGE_I2C_CTL m mask v) := OnlyRegs.setReg s _ ⟨.inl rfl, rfl⟩
  have hreg : (s.plainWrite .CAGE_I2C_CTL m mask v).reg .CAGE_I2C_CTL m = _ := State.reg_setReg_self ..
  have hother {r : Reg} (i : Nat) (hr : r ≠ .CAGE_I2C_CTL) : (s.plainWrite .CAGE_I2C_CTL m mask v).reg r i = s.reg r i :=
    State.reg_setReg_ne fun e => hr e.1.symm
  have hnone : (s.plainWrite .CAGE_I2C_CTL m mask v).out = [] := hout
  have hdata := State.i2cBytes_congr (fun i => hother (r := .CAGE_I2C_DATA) i (by decide)) m
  generalize s.plainWrite .CAGE_I2C_CTL m mask v = u at ht hwrite hreg hother hnone hdata
  split at ht
  next hgo =>
    have hset : wbit mask v 31 ≠ false := by rw [hgo]; decide
    split at ht
    next hlen =>
      subst ht
      have hkept {f : Fld} (hf : f.reg ≠ .CAGE_I2C_STS) : (u.setFld F.CAGE_I2C_STS_DONE m 1).fld f m = u.fld f m :=
        State.fld_setFld_ne _ _ _ _ _ _ (.inl hf.symm)
      refine ⟨(State.reg_setReg_ne fun e => absurd e.1 (by decide)).trans hreg, fun e => absurd e hset, fun _ _ => ⟨hnone, ?_⟩,
        fun _ hne => ?_, ?_⟩
      · exact State.fld_setFld_self _ _ _ _ (by decide)
      · exact absurd ((hkept (by decide)).trans hlen) hne
      · exact (hwrite.trans (OnlyRegs.setFld u (f := F.CAGE_I2C_STS_DONE) 1 ⟨.inr rfl, rfl⟩)).with_cmb
    next hlen =>
      subst ht
      have hkept {f : Fld} (hf : f.reg ≠ .CAGE_I2C_STS) := u.fld_i2cStart m hf
      have hrd : (u.i2cStart m).bit F.CAGE_I2C_CTL_RD m = u.bit F.CAGE_I2C_CTL_RD m := u.bit_i2cStart m (by decide)
      refine ⟨(u.reg_i2cStart m fun e => absurd e.1 (by decide)).trans hreg, fun e => absurd e hset, fun _ h0 => ?_,
        fun _ _ => ⟨?_, ?_, ?_⟩, ?_⟩
      · exact absurd ((hkept (by decide)).symm.trans h0) hlen
      · exact State.fld_setFld_self u F.CAGE_I2C_STS_BUSY m 1 (by decide)
      · rw [u.i2cRun_i2cStart, hrd, hkept (by decide), State.i2cLen]
      · rw [hkept (by decide), hkept (by decide), hkept (by decide), hrd, ← hdata]
        show u.out ++ [_] = _
        rw [hnone, List.nil_append]
        rfl
      · exact hwrite.cmb ▸ hwrite.trans (OnlyRegs.i2cStart u m)
  next hgo =>
    subst ht
    exact ⟨hreg, fun _ => ⟨hnone, hother m (by decide)⟩, fun e => absurd e hgo, fun e => absurd e hgo, hwrite.with_cmb⟩

/-- The end of a transfer leaves the buffer and the agents' data as the transfer left them. -/
theorem State.i2cBytes_i2cEnd (s : State) (m k n : Nat) : (s.i2cEnd m).i2cBytes k n = s.i2cBytes k n :=
  State.i2cBytes_congr (fun _ => (OnlyRegs.i2cEnd s m).2 _ _ fun e => absurd e.1 (by decide)) k n

theorem execI2cDone_busy {m : Fin 8} {s : State} (h : s.fld F.CAGE_I2C_STS_BUSY m.val = 1) (nack : Bool) (data : Bytes) :
    exec (.i2cDone m nack data) s = .next (
      if nack then (s.begin.i2cEnd m.val).setFld F.CAGE_I2C_STS_NACK m.val 1
      else if (s.i2cRun m.val).1 then (s.begin.i2cFill m.val data).i2cEnd m.val else s.begin.i2cEnd m.val) := by
  have hb : s.begin.bit F.CAGE_I2C_STS_BUSY m.val = true := (s.begin.bit_eq_true_iff _ _).2 h
  show execI2cDone m nack data s = _
  unfold execI2cDone
  dsimp only
  rw [if_pos hb]
  rfl

theorem exec_i2cTimeout {m : Fin 8} {s : State} (h : s.fld F.CAGE_I2C_STS_BUSY m.val = 1) :
    exec (.i2cTimeout m) s = .next (((s.begin.i2cEnd m.val).setFld F.CAGE_I2C_STS_TIMEOUT m.val 1).fault 22 2 (16 * m.val)) := by
  have hb : s.begin.bit F.CAGE_I2C_STS_BUSY m.val = true := (s.begin.bit_eq_true_iff _ _).2 h
  show execI2cTimeout m s = _
  unfold execI2cTimeout
  dsimp only
  rw [if_pos hb]

/-- The status register of I²C master `m`. -/
abbrev I2cSts (m : Nat) : Reg → Nat → Prop := fun r i => r = .CAGE_I2C_STS ∧ i = m

theorem OnlyReports.with_cmb {p} {s t : State} (h : OnlyReports p s t) (c : CmbSt) : OnlyReports p { s with cmb := c } { t with cmb := c } :=
  ⟨(congrArg (fun x : State => { x with cmb := c }) h.1 :), h.2⟩

theorem OnlyRegs.setFld_with_cmb {p} {s t : State} {c : CmbSt} (h : OnlyRegs p s { t with cmb := c }) {f : Fld} {i : Nat} (v : Nat)
    (hp : p f.reg i) : OnlyRegs p s { t.setFld f i v with cmb := c } := h.trans (OnlyRegs.setFld { t with cmb := c } v hp)

theorem State.reg_with_tim (s : State) (c : TimSt) (r : Reg) (i : Nat) : { s with tim := c }.reg r i = s.reg r i := rfl

theorem State.with_tim {s : State} {c : TimSt} (h : s.tim = c) : { s with tim := c } = s := by
  subst h
  rfl

/-- What a write of a whole register does that also changes the record of the clock. -/
theorem State.plainWrite_with_tim (s : State) (a : Agent) (r : Reg) (v : BitVec 64) (f : TimSt → TimSt) :
    let t := (s.begin.touch a (Reg.key r 0)).plainWrite r 0 all64 v
    { t with tim := f (s.begin.touch a (Reg.key r 0)).tim }.reg r 0 = Reg.written r (s.reg r 0) all64 v ∧
      f (s.begin.touch a (Reg.key r 0)).tim = f s.tim ∧
      OnlyRegs (fun q _ => q = r) s { t with tim := s.tim } := by
  have hframe : OnlyRegs (fun q _ => q = r) s ((s.begin.touch a (Reg.key r 0)).plainWrite r 0 all64 v) :=
    (OnlyRegs.begin_touch _ s a _).trans (OnlyRegs.setReg _ _ rfl)
  refine ⟨?_, ?_, ?_⟩
  · rw [State.reg_with_tim, State.reg_plainWrite]
    exact congrArg (Reg.written r · all64 v) (touch_reg s.begin _ _ r 0)
  · rw [(OnlyRegs.begin_touch (fun _ _ => False) s a _).tim]
  · rw [State.with_tim hframe.tim]
    exact hframe

/-- Settles O21: each command is its effect on the state with the agent's shadow handled; the transfer is `State.i2cStart`. -/
theorem i2cTimeOfDayAndSyncE : Obligations.I2cTimeOfDayAndSyncE := by
  refine ⟨fun a m v s ht => ?go, fun m nack data s hbusy => ?done, fun m s hbusy => ?timeout, fun a v s ht => ?step,
    fun a v s ht => ?set, fun i s => ?los, fun i s => ?back⟩
  case go =>
    intro new busy
    let t := s.begin.touch a (Reg.key .CAGE_I2C_CTL m.val)
    have honly (p : Reg → Nat → Prop) : OnlyRegs p s t := OnlyRegs.begin_touch p s a _
    have hbit := wbit_low32 v (b := 31) (by decide)
    have hfld (f : Fld) : t.fld f m.val = s.fld f m.val := touch_fld s.begin _ _ _ _
    have hout : t.out = [] := State.out_begin_touch ..
    refine ⟨fun hgo hb => ⟨_, exec_i2cGo ht v, ?_⟩, fun hnot => ⟨_, exec_i2cGo ht v, ?_⟩⟩
    · have hrun : t.writeI2c m.val low32 (v.setWidth 64) = t := by
        unfold State.writeI2c
        rw [if_pos (hbit.trans hgo), if_pos ((State.bit_eq_true_iff _ _ _).2 ((hfld _).trans hb))]
      rw [hrun]
      exact ⟨hout, honly _⟩
    · obtain ⟨hctl, hplain, hempty, hstart, hframe⟩ := State.writeI2c_effect hout (mask := low32) (v := v.setWidth 64)
        (by rw [hbit, hfld]; exact hnot) rfl
      have hreg (r : Reg) (i : Nat) : t.reg r i = s.reg r i := touch_reg s.begin _ _ r i
      rw [hbit] at hplain hempty hstart
      rw [hreg] at hctl hplain
      simp only [State.i2cBytes_congr (hreg .CAGE_I2C_DATA)] at hstart
      exact ⟨hctl, hplain, hempty, hstart, (honly (I2cCtlSts m.val)).cmb ▸ (honly _).trans hframe⟩
  case done =>
    obtain ⟨hidle, hend⟩ := State.fld_i2cEnd s.begin m.val
    have hframe := (OnlyRegs.begin (p := I2cSts m.val) s).trans (OnlyRegs.i2cEnd s.begin m.val)
    have hwide (r : Reg) (i : Nat) (h : I2cSts m.val r i) : (r = .CAGE_I2C_STS ∧ i = m.val) ∨ (r = .CAGE_I2C_DATA ∧ i / 32 = m.val) := .inl h
    refine ⟨_, execI2cDone_busy hbusy nack data, ?_⟩
    cases nack with
    | true =>
      have hnack := hframe.setFld_with_cmb (f := F.CAGE_I2C_STS_NACK) 1 ⟨rfl, rfl⟩
      exact ⟨(State.fld_setFld_apart _ (by decide)).trans hidle, (State.fld_setFld_apart _ (by decide)).trans hend,
        fun _ => State.fld_setFld_self _ F.CAGE_I2C_STS_NACK _ 1 (by decide), fun e => absurd e (by decide), fun _ => hnack.2, hnack.mono hwide⟩
    | false =>
      rw [if_neg (by decide)]
      split
      next hread =>
        obtain ⟨hidle, hend⟩ := State.fld_i2cEnd (s.begin.i2cFill m.val data) m.val
        have hfill := (OnlyRegs.begin _ s).trans (OnlyRegs.i2cFill s.begin m.val data)
        refine ⟨hidle, hend, fun e => absurd e (by decide), fun _ _ hlen hmax => ?_, fun h => ?_, ?_⟩
        · rw [State.i2cBytes_i2cEnd]
          exact State.i2cBytes_i2cFill _ _ hlen hmax
        · rw [hread] at h
          exact absurd h (by decide)
        · exact hfill.cmb ▸ (hfill.mono fun _ _ => .inr).trans ((OnlyRegs.i2cEnd (s.begin.i2cFill m.val data) m.val).mono hwide)
      next hwrite => exact ⟨hidle, hend, fun e => absurd e (by decide), fun _ h => absurd h hwrite, fun _ => hframe.2, hframe.mono hwide⟩
  case timeout =>
    obtain ⟨hidle, hend⟩ := State.fld_i2cEnd s.begin m.val
    let t := (s.begin.i2cEnd m.val).setFld F.CAGE_I2C_STS_TIMEOUT m.val 1
    have hfault := OnlyReports.fault (fun _ _ => False) t 22 2 (16 * m.val) 0
    have hkept {f : Fld} (hf : f.reg = .CAGE_I2C_STS) : (t.fault 22 2 (16 * m.val)).fld f m.val = t.fld f m.val :=
      hfault.fld (by rw [hf]; decide) id
    refine ⟨_, exec_i2cTimeout hbusy, ?_, ?_, ?_, ?_⟩
    · exact (hkept rfl).trans ((State.fld_setFld_apart _ (by decide)).trans hidle)
    · exact (hkept rfl).trans ((State.fld_setFld_apart _ (by decide)).trans hend)
    · exact (hkept rfl).trans (State.fld_setFld_self _ F.CAGE_I2C_STS_TIMEOUT _ 1 (by decide))
    · have hset : OnlyRegs (I2cSts m.val) s { t with cmb := s.cmb } :=
        ((OnlyRegs.begin _ s).trans (OnlyRegs.i2cEnd s.begin m.val)).setFld_with_cmb (f := F.CAGE_I2C_STS_TIMEOUT) 1 ⟨rfl, rfl⟩
      exact hset.reports.trans (hfault.with_cmb s.cmb |>.mono fun _ _ => False.elim)
  case step =>
    refine ⟨_, exec_todStep ht v, ?_⟩
    rw [State.writeTimAdj_eq]
    exact State.plainWrite_with_tim s a .TIM_ADJ v fun tim => { tim with stepGo := tim.stepGo || v.getLsbD 32 }
  case set =>
    refine ⟨_, exec_todSet ht v, ?_⟩
    rw [State.writeTimSet_eq]
    exact State.plainWrite_with_tim s a .TIM_SET_SEC v fun tim => { tim with setGo := tim.setGo || v.getLsbD 63 }
  case los =>
    obtain ⟨hlos, hst, honly⟩ := State.synceLost_effect
      (s.begin.setFld F.SDS_LANE_STS_CDR_LOCK (s.eff F.TIM_SYNCE_LANE i.val) (boolNat false)) i.val
    obtain ⟨hlock, hall⟩ := State.synceLock_effect (s := s.begin) (lock := false) honly
      (.synceClk i (State.synceClk _ i.val))
    refine ⟨_, rfl, hlock, hlos, fun h0 => hst ?_, (OnlyReports.begin _ s).trans hall⟩
    exact (State.fld_setFld_ne _ _ _ _ _ _ (.inl (by rw [losFld_reg]; decide))).trans h0
  case back =>
    obtain ⟨hlos, hst, hlive, honly⟩ := State.synceBack_effect
      (s.begin.setFld F.SDS_LANE_STS_CDR_LOCK (s.eff F.TIM_SYNCE_LANE i.val) (boolNat true)) i.val
    obtain ⟨hlock, hall⟩ := State.synceLock_effect (s := s.begin) (lock := true) honly
      (.synceClk i (State.synceClk _ i.val))
    refine ⟨_, rfl, hlock, hlos, hst.trans ?_, hlive, (OnlyReports.begin _ s).trans hall⟩
    exact State.fld_setFld_ne _ _ _ _ _ _ (.inl (by rw [losStFld_reg]; decide))

end Sys2Proof.Machine
end

section
/-! PROOFS. Received frames and pause timers (R63, R66, R92, R464). -/

namespace Sys2Proof.Machine

/-! ### Timers of pause, as bits of a number -/

/-- A number with bit `c` taken out, where it is set. -/
theorem bitOf_sub_two_pow {v c : Nat} (h : bitOf v c = true) (k : Nat) : bitOf (v - 2 ^ c) k = (bitOf v k && k != c) := by
  have hodd : v / 2 ^ c % 2 = 1 := by simpa [bitOf] using h
  rcases Nat.lt_or_ge k c with hk | hk
  · obtain ⟨j, rfl⟩ : ∃ j, c = k + (j + 1) := ⟨c - k - 1, by omega⟩
    have hdiv : (v - 2 ^ (k + (j + 1))) / 2 ^ k = v / 2 ^ k - 2 * 2 ^ j := by
      rw [pow_add, Nat.sub_mul_div, pow_succ, Nat.mul_comm]
    have hle : 2 * 2 ^ j ≤ v / 2 ^ k := by
      rw [Nat.le_div_iff_mul_le (by positivity)]
      have hpos : 0 < v / 2 ^ (k + (j + 1)) := Nat.pos_of_ne_zero fun h0 => absurd hodd (by rw [h0]; decide)
      have := (Nat.div_pos_iff.1 hpos).2
      rw [pow_add, pow_succ] at this
      linarith
    have hne : (k != k + (j + 1)) = true := by simp
    rw [hne, Bool.and_true, bitOf, bitOf, hdiv]
    congr 1
    omega
  · obtain ⟨j, rfl⟩ : ∃ j, k = c + j := ⟨k - c, by omega⟩
    have hdiv : (v - 2 ^ c) / 2 ^ c = v / 2 ^ c - 1 := by simpa using Nat.sub_mul_div v (2 ^ c) 1
    rw [bitOf, bitOf, pow_add, ← Nat.div_div_eq_div_mul, ← Nat.div_div_eq_div_mul, hdiv]
    generalize v / 2 ^ c = x at hodd
    cases j with
    | zero =>
      have : (x - 1) % 2 = 0 := by omega
      simp [this]
    | succ j =>
      have : (x - 1) / 2 = x / 2 := by omega
      rw [pow_succ', ← Nat.div_div_eq_div_mul, ← Nat.div_div_eq_div_mul, this]
      simp

/-- The timer of a priority is cleared, and no other. -/
theorem State.setPause_release (s : State) (p c : Nat) :
    (∀ k, bitOf ((s.setPause p c 0).port p).paused k = (bitOf (s.port p).paused k && k != c)) ∧
      ∀ q, q ≠ p → (s.setPause p c 0).port q = s.port q := by
  unfold State.setPause
  dsimp only
  refine ⟨fun k => ?_, fun q hq => (State.port_setPort ..).trans (if_neg (Ne.symm hq))⟩
  rw [State.port_setPort, if_pos rfl, if_pos rfl]
  split
  next h => exact bitOf_sub_two_pow h k
  next h =>
    rw [Nat.sub_zero]
    by_cases hk : k = c
    · subst hk
      rw [bne_self_eq_false, Bool.and_false]
      exact Bool.eq_false_iff.2 h
    · rw [bne_iff_ne.2 hk, Bool.and_true]

/-! ### Reception -/

/-- The packet that a port makes of a frame that it has taken. -/
def State.rxPkt (s : State) (p : Nat) (b : Bytes) (arr : Nat) : Pkt :=
  let t := s.portTime (s.fld F.TIM_PORT_DLY_RX_DLY p)
  ⟨0, p / 8, p, b, 0, t % 1000000000, t / 1000000000 % 65536, false, 0, arr, 0, 0⟩

theorem isMgt_front {p : Nat} (h : p < 128) : isMgt p = false := by
  have h1 : p ≠ 128 := by omega
  have h2 : p ≠ 129 := by omega
  simp [isMgt, h1, h2]

/-- A frame of a front port without Yarn and with its SecY off goes to staging as it is. -/
theorem State.rxPass_front {s : State} {p : Nat} (hp : p < 128) (hy : s.isYarn p = false) (he : s.effBit F.MSC_SECY_CFG_EN p = false)
    (b : Bytes) (arr : Nat) (same : Bool) : s.rxPass p b false arr same = s.enterStaging (p / 8) (s.rxPkt p b arr) same := by
  have hsec : s.secyReceive p b = (some b, s) := by
    unfold State.secyReceive
    dsimp only
    rw [he]
    rfl
  unfold State.rxPass
  dsimp only
  rw [isMgt_front hp, hy, hsec]
  rfl

/-- A frame that staging takes is the last one ready, and only the staging and the ready frames of its pipeline change (R92). -/
theorem State.enterStaging_room {s : State} {n : Nat} {p : Pkt} (hon : s.domState n = 3) (h3 : s.curMode ≠ 3) (h7 : s.curMode ≠ 7)
    (hroom : s.stageUsed n + stageCells p.bytes.length ≤ 2048) (same : Bool) :
    (∃ q, ((s.enterStaging n p same).pipe n).ready = (s.pipe n).ready ++ [q] ∧ q.bytes = p.bytes ∧ q.src = p.src ∧ q.pass = p.pass ∧
        q.bad = p.bad ∧ q.pipe = n) ∧
      (s.enterStaging n p same).regs = s.regs ∧ (s.enterStaging n p same).tabs = s.tabs ∧
      (s.enterStaging n p same).copies = s.copies := by
  unfold State.enterStaging
  dsimp only
  rw [if_neg (by omega), if_neg (by omega)]
  refine ⟨?_, rfl, rfl, rfl⟩
  rw [State.pipe_setPipe, if_pos rfl]
  exact ⟨_, rfl, rfl, rfl, rfl, rfl, rfl⟩

/-- A received frame that is no MAC control frame, on a front port without Yarn and with its SecY off: by its fault. -/
theorem exec_rxFrame_front {p : Fin 130} {frame : Bytes} {arr : Fin 3} {same : Bool} {s : State} (hp : p.val < 128)
    (htakes : s.portTakes p.val = true) (hy : s.isYarn p.val = false) (he : s.effBit F.MSC_SECY_CFG_EN p.val = false)
    (hctl : beAt (frame.take (frame.length - 4)) 12 2 ≠ 0x8808) :
    exec (.rxFrame p frame arr same) s = .next (match s.rxFault p.val frame frame.length with
      | some i => if arr.val = 0 then s.begin.macCount p.val i 1
          else (s.begin.macCount p.val i 1).rxPass p.val ((frame.take (frame.length - 4)).take (s.maxLen p.val)) true arr.val same
      | none => (((s.begin.macCount p.val 0 1).macCount p.val 1 frame.length).gauge! (p.val / 8) 0x10 1 (some (p.val % 8))).rxPass
          p.val (frame.take (frame.length - 4)) false arr.val same) := by
  have htakes' : s.begin.portTakes p.val = true := htakes
  have hy' : s.begin.isYarn p.val = false := hy
  have hc : (beAt (frame.take (frame.length - 4)) 12 2 == 0x8808) = false := beq_eq_false_iff_ne.2 hctl
  have hlen : s.begin.secyLength p.val (frame.take (frame.length - 4)) frame.length = frame.length := by
    have he' : s.begin.effBit F.MSC_SECY_CFG_EN p.val = false := he
    unfold State.secyLength
    rw [he']
    rfl
  show execRxFrame p frame arr same s = _
  unfold execRxFrame
  dsimp only
  rw [htakes', hy', hc, hlen, isMgt_front hp]
  show (match (s.rxFault p.val frame frame.length).orElse (fun _ => none) with | some i => _ | none => _) = _
  cases s.rxFault p.val frame frame.length with
  | some i =>
    by_cases h : arr.val = 0
    · simp only [h]
      rfl
    · simp only [h]
      rfl
  | none => rfl

/-- The first fault of R63. -/
theorem State.rxFault_eq_none_iff (s : State) (p : Nat) (frame : Bytes) : s.rxFault p frame frame.length = none ↔
    64 ≤ frame.length ∧ frame.length ≤ s.maxLen p ∧ fcsOf (frame.take (frame.length - 4)) = frame.drop (frame.length - 4) := by
  unfold State.rxFault
  split_ifs with h1 h2 h3
  · exact iff_of_false (by simp) fun h => absurd h.1 (by omega)
  · exact iff_of_false (by simp) fun h => absurd h.2.1 (by omega)
  · exact iff_of_false (by simp) fun h => h3 h.2.2
  · exact iff_of_true rfl ⟨by omega, by omega, not_not.1 h3⟩

theorem State.rxFault_eq_some {s : State} {p : Nat} {frame : Bytes} (h : s.rxFault p frame frame.length ≠ none) :
    s.rxFault p frame frame.length = some (if frame.length < 64 then 3 else if s.maxLen p < frame.length then 4 else 2) := by
  unfold State.rxFault at h ⊢
  split_ifs at h ⊢
  · rfl
  · rfl
  · rfl
  · exact absurd rfl h

/-- From `s` to `t` only a port's counters, gauges and reports change, and no counter comes to be held frozen. -/
structure RxCounted (s t : State) : Prop where
  reports : OnlyReports (fun r _ => r = .MAC_CNT ∨ r ∈ gaugeRegs) s t
  held : t.gauge.held = s.gauge.held

namespace RxCounted
variable {s t u : State}

theorem refl (s : State) : RxCounted s s := ⟨OnlyReports.refl _ s, rfl⟩

theorem macCount (h : RxCounted s t) (p i n : Nat) : RxCounted s (t.macCount p i n) :=
  ⟨h.reports.trans (OnlyReports.bump t n (.inr (.inl rfl))), (t.held_bump _ _ _).trans h.held⟩

theorem gauge! (h : RxCounted s t) (b code v : Nat) (q : Option Nat) : RxCounted s (t.gauge! b code v q) := by
  have hg : Gauged t (t.gauge! b code v q) := (Gauged.refl t).gauge!
  exact ⟨h.reports.trans (hg.reports.mono fun _ _ => .inr), hg.held.trans h.held⟩

theorem begin (h : RxCounted s.begin t) : RxCounted s t := ⟨(OnlyReports.begin _ s).trans h.reports, h.held⟩

theorem effBit (h : RxCounted s t) (f : Fld) (i : Nat) : t.effBit f i = s.effBit f i := by
  have hf : t.inForce = s.inForce := (congrArg State.inForce h.reports.1 :)
  unfold State.effBit State.eff State.regInForce
  rw [hf]

theorem isYarn (h : RxCounted s t) (p : Nat) : t.isYarn p = s.isYarn p := by
  rw [State.isYarn, State.isYarn, h.effBit]

theorem fld (h : RxCounted s t) {f : Fld} (hr : f.reg ∉ reportRegs) (hf : f.reg ≠ .MAC_CNT ∧ f.reg ∉ gaugeRegs) (i : Nat) :
    t.fld f i = s.fld f i := h.reports.fld hr (not_or.2 hf)

theorem curMode (h : RxCounted s t) : t.curMode = s.curMode := h.fld (by decide) (by decide) 0

theorem domState (h : RxCounted s t) (d : Nat) : t.domState d = s.domState d := by
  have hp : t.part = s.part := (congrArg State.part h.reports.1 :)
  rw [State.domState, State.domState, h.fld (by decide) (by decide), hp]

theorem stageUsed (h : RxCounted s t) (n : Nat) : t.stageUsed n = s.stageUsed n := by
  have hp : t.staged = s.staged := (congrArg State.staged h.reports.1 :)
  rw [State.stageUsed, State.stageUsed, hp]

theorem pipe (h : RxCounted s t) (n : Nat) : t.pipe n = s.pipe n := by
  have hp : t.pipes = s.pipes := (congrArg State.pipes h.reports.1 :)
  rw [State.pipe, State.pipe, hp]

end RxCounted

/-- A counter that no collection holds frozen is a register like any other (R396). -/
theorem State.bump_eq_setReg (s : State) {r : Reg} {i : Nat} (h : s.counts r i) (n : Nat) :
    s.bump r i n = s.setReg r i (s.reg r i + BitVec.ofNat 64 n) := by
  unfold State.bump
  rw [if_neg (by rw [h]; decide)]

/-- A frame without fault is counted with its bytes, whatever gauges count of it. -/
theorem State.reg_counted (s : State) {p : Nat} {n : Nat} (h0 : s.counts .MAC_CNT (p * 16)) (h1 : s.counts .MAC_CNT (p * 16 + 1))
    {t : State} (ht : Gauged ((s.macCount p 0 1).macCount p 1 n) t) :
    t.reg .MAC_CNT (p * 16) = s.reg .MAC_CNT (p * 16) + 1 ∧
      t.reg .MAC_CNT (p * 16 + 1) = s.reg .MAC_CNT (p * 16 + 1) + BitVec.ofNat 64 n := by
  have hgauge (i : Nat) : t.reg .MAC_CNT i = _ := ht.reports.reg (by decide) (by decide)
  have hframes : s.macCount p 0 1 = s.setReg .MAC_CNT (p * 16) (s.reg .MAC_CNT (p * 16) + 1) := s.bump_eq_setReg h0 1
  have hbytes : (s.macCount p 0 1).counts .MAC_CNT (p * 16 + 1) := by
    rw [State.counts, State.macCount, State.held_bump]
    exact h1
  rw [hgauge, hgauge, State.macCount, State.bump_eq_setReg _ hbytes, hframes]
  refine ⟨?_, ?_⟩
  · rw [State.reg_setReg_ne (fun e => by omega), State.reg_setReg_self]
  · rw [State.reg_setReg_self, State.reg_setReg_ne (fun e => by omega)]

/-- Settles O18: counting a frame leaves what its way to staging reads (`RxCounted`), and that way is `State.enterStaging`. -/
theorem framesReceived : Obligations.FramesReceived := by
  refine ⟨fun p frame arr same s hp htakes hy he hlen hctl => ?rx, fun p frame arr same s h => ?closed, fun p c s => ?pause⟩
  case rx =>
    intro b good drop
    have hrun := exec_rxFrame_front (arr := arr) (same := same) hp htakes hy he hctl
    have hgood : s.rxFault p.val frame frame.length = none ↔ good := s.rxFault_eq_none_iff p.val frame
    refine ⟨fun hbad harr hcount => ?_, fun hok h0 h1 hon h3 h7 hroom => ?_⟩
    · rw [State.rxFault_eq_some fun h => hbad (hgood.1 h)] at hrun
      dsimp only at hrun
      rw [if_pos harr] at hrun
      have hset := s.begin.bump_eq_setReg hcount 1
      refine ⟨_, hrun, State.reg_bump_counts (s := s.begin) hcount 1, ?_⟩
      rw [State.macCount, hset]
      exact (OnlyRegs.begin _ s).trans (OnlyRegs.setReg _ _ ⟨rfl, rfl⟩)
    · rw [hgood.2 hok] at hrun
      dsimp only at hrun
      let t := ((s.begin.macCount p.val 0 1).macCount p.val 1 frame.length).gauge! (p.val / 8) 0x10 1 (some (p.val % 8))
      have hc : RxCounted s t :=
        ((((RxCounted.refl s.begin).macCount p.val 0 1).macCount p.val 1 frame.length).gauge! _ _ _ _).begin
      obtain ⟨hframes, hbytes⟩ := s.begin.reg_counted (n := frame.length) h0 h1 (Gauged.refl _).gauge!
      rw [State.rxPass_front hp ((hc.isYarn _).trans hy) ((hc.effBit _ _).trans he)] at hrun
      obtain ⟨hready, hregs, htabs, hcopies⟩ := State.enterStaging_room (p := t.rxPkt p.val b arr.val) ((hc.domState _).trans hon)
        (hc.curMode ▸ h3) (hc.curMode ▸ h7) (by rw [hc.stageUsed]; exact hroom) same
      rw [hc.pipe] at hready
      refine ⟨_, hrun, ?_, ?_, hready, htabs.trans (congrArg State.tabs hc.reports.1 :), hcopies.trans (congrArg State.copies hc.reports.1 :)⟩
      · rw [State.reg, hregs]
        exact hframes
      · rw [State.reg, hregs]
        exact hbytes
  case closed =>
    have h' : s.begin.portTakes p.val = false := h
    show execRxFrame p frame arr same s = _
    unfold execRxFrame
    dsimp only
    rw [h']
    rfl
  case pause =>
    obtain ⟨hbits, hports⟩ := s.begin.setPause_release p.val c.val
    refine ⟨_, rfl, ?_, fun k hk => ?_, hports, OnlyRegs.begin _ s⟩
    · rw [hbits, bne_self_eq_false, Bool.and_false]
    · rw [hbits, bne_iff_ne.2 hk, Bool.and_true]
      rfl

end Sys2Proof.Machine
end

section
/-! PROOFS. Cages: scans, accepted inputs, the attention button, power (R76 to R84). -/

namespace Sys2Proof.Machine

/-! ### What operations on a cage leave -/

/-- The registers of cage `g`. -/
abbrev CageRegs (g : Nat) : Reg → Nat → Prop := fun r i => (r = .CAGE_CTL ∨ r = .CAGE_STS) ∧ i = g

/-- From `s` to `t` nothing changes but registers of `p` and cages. -/
def CageWrites (p : Reg → Nat → Prop) (s t : State) : Prop := OnlyRegs p s { t with cages := s.cages }

/-- From `s` to `t` nothing changes but registers of `p`, cages, and reports. -/
def CageStep (p : Reg → Nat → Prop) (s t : State) : Prop := OnlyReports p s { t with cages := s.cages }

namespace CageWrites
variable {p : Reg → Nat → Prop} {s t u : State}

theorem of_onlyRegs (h : OnlyRegs p s t) : CageWrites p s t :=
  ⟨(congrArg (fun x : State => { x with cages := s.cages }) h.1 :), h.2⟩

theorem trans (h : CageWrites p s t) (k : CageWrites p t u) : CageWrites p s u :=
  ⟨(congrArg (fun x : State => { x with cages := s.cages, out := s.out, bus := s.bus, regs := s.regs }) k.1 :).trans h.1, h.2.trans k.2⟩

theorem setCage (h : CageWrites p s t) (g : Nat) (c : CageSt) : CageWrites p s (t.setCage g c) := h

theorem setFld (h : CageWrites p s t) {f : Fld} {i : Nat} (v : Nat) (hp : p f.reg i) : CageWrites p s (t.setFld f i v) :=
  h.trans (of_onlyRegs (OnlyRegs.setFld t v hp))

theorem putCageCtl (h : CageWrites p s t) {g : Nat} (v : BitVec 64) (hp : p .CAGE_CTL g) : CageWrites p s (t.putCageCtl g v) :=
  h.trans ((of_onlyRegs (OnlyRegs.setReg t v hp)).setCage _ _)

theorem putCageFld (h : CageWrites p s t) {g : Nat} (f : Fld) (v : Nat) (hp : p .CAGE_CTL g) : CageWrites p s (t.putCageFld g f v) :=
  h.putCageCtl _ hp

theorem cagePower (h : CageWrites p s t) {g : Nat} (pwr pind : Nat) (hp : p .CAGE_CTL g) : CageWrites p s (t.cagePower g pwr pind) :=
  (h.putCageFld _ _ hp).putCageFld _ _ hp

theorem cageSeq (h : CageWrites p s t) {g : Nat} (q : Nat) (hp : p .CAGE_STS g) : CageWrites p s (t.cageSeq g q) :=
  h.setFld (f := F.CAGE_STS_SEQ) q hp

end CageWrites

namespace CageStep
variable {p : Reg → Nat → Prop} {s t u : State}

theorem of_onlyReports (h : OnlyReports p s t) : CageStep p s t :=
  ⟨(congrArg (fun x : State => { x with cages := s.cages }) h.1 :), h.2⟩

theorem of_writes (h : CageWrites p s t) : CageStep p s t := h.reports

theorem trans (h : CageStep p s t) (k : CageStep p t u) : CageStep p s u :=
  ⟨(congrArg (fun x : State => { x with cages := s.cages, out := s.out, bus := s.bus, regs := s.regs, dma := s.dma, flt := s.flt,
                                        jrn := s.jrn, gauge := s.gauge }) k.1 :).trans h.1, h.2.trans k.2⟩

theorem begin (h : CageStep p s.begin t) : CageStep p s t := (of_onlyReports (OnlyReports.begin p s)).trans h

theorem setCage (h : CageStep p s t) (g : Nat) (c : CageSt) : CageStep p s (t.setCage g c) := h

theorem setFld (h : CageStep p s t) {f : Fld} {i : Nat} (v : Nat) (hp : p f.reg i) : CageStep p s (t.setFld f i v) :=
  h.trans (of_onlyReports (OnlyReports.setFld t v (.inr hp)))

theorem cagePower (h : CageStep p s t) {g : Nat} (pwr pind : Nat) (hp : p .CAGE_CTL g) : CageStep p s (t.cagePower g pwr pind) :=
  h.trans (of_writes ((CageWrites.of_onlyRegs (OnlyRegs.refl p t)).cagePower _ _ hp))

theorem putCageFld (h : CageStep p s t) {g : Nat} (f : Fld) (v : Nat) (hp : p .CAGE_CTL g) : CageStep p s (t.putCageFld g f v) :=
  h.trans (of_writes ((CageWrites.of_onlyRegs (OnlyRegs.refl p t)).putCageFld _ _ hp))

theorem cageSeq (h : CageStep p s t) {g : Nat} (q : Nat) (hp : p .CAGE_STS g) : CageStep p s (t.cageSeq g q) :=
  h.setFld (f := F.CAGE_STS_SEQ) q hp

end CageStep

/-! ### Fields of a cage -/

theorem State.cage_setCage (s : State) (g k : Nat) (c : CageSt) : (s.setCage g c).cage k = if g = k then c else s.cage k := by
  unfold State.setCage State.cage
  rw [SMap.get_set]

theorem State.cage_setFld (s : State) (f : Fld) (i v k : Nat) : (s.setFld f i v).cage k = s.cage k := rfl

/-- A field of CAGE_CTL is written like any other, and whether outputs change is kept beside it. -/
theorem State.fld_putCageFld (s : State) {f : Fld} (hf : f.reg = .CAGE_CTL) (g v : Nat) (h : Fld) (i : Nat) :
    (s.putCageFld g f v).fld h i = (s.setFld f g v).fld h i := by
  have hreg (r : Reg) (i : Nat) : (s.putCageFld g f v).reg r i = (s.setFld f g v).reg r i := by
    have hput : (s.putCageFld g f v).reg r i = (s.setReg .CAGE_CTL g ((s.setFld f g v).reg .CAGE_CTL g)).reg r i := rfl
    rw [hput, State.reg_setReg]
    split
    next h =>
      obtain ⟨rfl, rfl⟩ := h
      rfl
    next h => exact (State.reg_setReg_ne (by rw [hf]; exact h)).symm
  rw [State.fld, State.fld, hreg]

theorem State.fld_putCageFld_self (s : State) {f : Fld} (hf : f.reg = .CAGE_CTL) (hw : f.lsb + f.width ≤ 64) (g v : Nat) :
    (s.putCageFld g f v).fld f g = v % 2 ^ f.width := by
  rw [s.fld_putCageFld hf, State.fld_setFld_self _ _ _ _ hw]

theorem State.fld_putCageFld_ne (s : State) {f h : Fld} (hf : f.reg = .CAGE_CTL) (g v i : Nat)
    (hne : f.reg ≠ h.reg ∨ g ≠ i ∨ h.lsb + h.width ≤ f.lsb ∨ f.lsb + f.width ≤ h.lsb) :
    (s.putCageFld g f v).fld h i = s.fld h i := by
  rw [s.fld_putCageFld hf, State.fld_setFld_ne _ _ _ _ _ _ hne]

/-- Power and its indicator as the device sets them. -/
theorem State.fld_cagePower (s : State) (g pwr pind : Nat) :
    (s.cagePower g pwr pind).fld F.CAGE_CTL_PWR_CTL g = pwr % 2 ∧ (s.cagePower g pwr pind).fld F.CAGE_CTL_PIND_CTL g = pind % 4 := by
  refine ⟨?_, State.fld_putCageFld_self _ rfl (by decide) g pind⟩
  exact (State.fld_putCageFld_ne _ rfl _ _ _ (.inr (.inr (by decide)))).trans (State.fld_putCageFld_self s rfl (by decide) g pwr)

/-- PWR_CTL and PIND_CTL lie in bits 6 to 8 of CAGE_CTL: every other field keeps its value. -/
theorem State.fld_cagePower_ne (s : State) {h : Fld} (g pwr pind i : Nat)
    (hne : h.reg ≠ .CAGE_CTL ∨ h.lsb + h.width ≤ 6 ∨ 9 ≤ h.lsb) : (s.cagePower g pwr pind).fld h i = s.fld h i := by
  have happart {f : Fld} (hf : f.reg = .CAGE_CTL) (hl : 6 ≤ f.lsb ∧ f.lsb + f.width ≤ 9) :
      f.reg ≠ h.reg ∨ g ≠ i ∨ h.lsb + h.width ≤ f.lsb ∨ f.lsb + f.width ≤ h.lsb := by
    rcases hne with hr | hlsb
    · exact .inl (hf ▸ hr.symm)
    · exact .inr (.inr (by omega))
  exact (State.fld_putCageFld_ne _ rfl _ _ _ (happart rfl (by decide))).trans
    (State.fld_putCageFld_ne _ rfl _ _ _ (happart rfl (by decide)))

/-- Beside its status bit an event of a cage makes reports only (R84). -/
theorem State.cageEvent_reports (s : State) (g : Nat) (f en : Fld) :
    OnlyReports (fun _ _ => False) (s.setFld f g 1) (s.cageEvent g f en) := by
  unfold State.cageEvent
  dsimp only
  split
  · exact (OnlyReports.notify _ _ _ _ _ _ _).trans (OnlyReports.interrupt _ _ _)
  · exact OnlyReports.refl _ _

theorem State.fld_cageEvent (s : State) (g : Nat) (f en : Fld) {h : Fld} (hr : h.reg ∉ reportRegs) (i : Nat) :
    (s.cageEvent g f en).fld h i = (s.setFld f g 1).fld h i := (s.cageEvent_reports g f en).fld hr id

theorem OnlyReports.cage {p} {s t : State} (h : OnlyReports p s t) (k : Nat) : t.cage k = s.cage k := by
  have hc : t.cages = s.cages := (congrArg State.cages h.1 :)
  rw [State.cage, State.cage, hc]

theorem State.cage_cageEvent (s : State) (g : Nat) (f en : Fld) (k : Nat) : (s.cageEvent g f en).cage k = s.cage k :=
  (s.cageEvent_reports g f en).cage k

theorem CageStep.cageEvent {p} {s t : State} (h : CageStep p s t) {g : Nat} {f : Fld} (en : Fld) (hp : p f.reg g) :
    CageStep p s (t.cageEvent g f en) :=
  (h.setFld (f := f) 1 hp).trans (.of_onlyReports ((t.cageEvent_reports g f en).mono fun _ _ => False.elim))

/-! ### Inputs accepted (R78 to R82) -/

/-- Presence as it is accepted: PDS and PDC, and their reports. -/
def State.notePresence (s : State) (g : Nat) : State :=
  ((s.setCage g { s.cage g with presRun := 0 }).setFld F.CAGE_STS_PDS g (boolNat (!(s.cage g).raw.getLsbD 0))).cageEvent g
    F.CAGE_STS_PDC F.CAGE_CTL_PDC_EN

theorem State.fld_notePresence (s : State) (g : Nat) :
    (s.notePresence g).fld F.CAGE_STS_PDS g = boolNat (!(s.cage g).raw.getLsbD 0) ∧ (s.notePresence g).fld F.CAGE_STS_PDC g = 1 := by
  unfold State.notePresence
  rw [State.fld_cageEvent _ _ _ _ (by decide), State.fld_cageEvent _ _ _ _ (by decide)]
  refine ⟨?_, State.fld_setFld_self _ _ _ _ (by decide)⟩
  rw [State.fld_setFld_apart _ (by decide), State.fld_setFld_bit _ _ _ rfl (by decide)]
  cases (s.cage g).raw.getLsbD 0 <;> rfl

/-- CAGE_CTL keeps its fields where presence is accepted, and CAGE_STS those other than PDS and PDC. -/
theorem State.fld_notePresence_ne (s : State) (g : Nat) {h : Fld} (hr : h.reg ∉ reportRegs)
    (hne : h.reg ≠ .CAGE_STS ∨ F.CAGE_STS_SEQ = h) : (s.notePresence g).fld h g = s.fld h g := by
  unfold State.notePresence
  rw [State.fld_cageEvent _ _ _ _ hr]
  rcases hne with hne | rfl
  · exact (State.fld_setFld_ne _ _ _ _ _ _ (.inl hne.symm)).trans (State.fld_setFld_ne _ _ _ _ _ _ (.inl hne.symm))
  · exact (State.fld_setFld_apart _ (by decide)).trans (State.fld_setFld_apart _ (by decide))

theorem State.noAuto_notePresence (s : State) (g : Nat) : ((s.notePresence g).cage g).noAuto = (s.cage g).noAuto := by
  unfold State.notePresence
  rw [State.cage_cageEvent, State.cage_setFld, State.cage_setCage, if_pos rfl]

theorem CageStep.notePresence (s : State) (g : Nat) : CageStep (CageRegs g) s (s.notePresence g) :=
  ((((CageStep.of_onlyReports (OnlyReports.refl _ s)).setCage g _).setFld (f := F.CAGE_STS_PDS) _ ⟨.inr rfl, rfl⟩).cageEvent
    (f := F.CAGE_STS_PDC) _ ⟨.inr rfl, rfl⟩)

/-- A sequence that waits ends; the cage's other fields keep their values. -/
theorem State.endWait_effect (s : State) (g : Nat) {t : State} (ht : t = if s.fld F.CAGE_STS_SEQ g = 1 then s.cageSeq g 0 else s) :
    t.fld F.CAGE_STS_SEQ g ≠ 1 ∧ (∀ h : Fld, h.reg ≠ .CAGE_STS ∨ F.CAGE_STS_SEQ.lsb + F.CAGE_STS_SEQ.width ≤ h.lsb ∨
      h.lsb + h.width ≤ F.CAGE_STS_SEQ.lsb → t.fld h g = s.fld h g) ∧ CageStep (CageRegs g) s t := by
  have hrefl : CageStep (CageRegs g) s s := .of_onlyReports (OnlyReports.refl _ s)
  split at ht <;> subst ht
  next =>
    refine ⟨?_, fun h hne => State.fld_setFld_ne _ _ _ _ _ _ ?_, hrefl.cageSeq 0 ⟨.inr rfl, rfl⟩⟩
    · have h0 : (s.cageSeq g 0).fld F.CAGE_STS_SEQ g = 0 := State.fld_setFld_self s F.CAGE_STS_SEQ g 0 (by decide)
      rw [h0]
      decide
    · rcases hne with h1 | h1 | h1
      · exact .inl h1.symm
      · exact .inr (.inr (.inr h1))
      · exact .inr (.inr (.inl h1))
  next hseq => exact ⟨hseq, fun _ _ => rfl, hrefl⟩

/-- A module's arrival: power, where the cage powers itself and no fault withholds it. A module's removal: power off, where the
cage powers itself or a sequence waits, which ends (R80, Table 3-6). -/
theorem State.acceptPresence_effect (s : State) (g : Nat) :
    let here := !(s.cage g).raw.getLsbD 0
    let t := s.acceptPresence g
    t.fld F.CAGE_STS_PDS g = boolNat here ∧ t.fld F.CAGE_STS_PDC g = 1 ∧
      t.fld F.CAGE_CTL_LPMODE g = s.fld F.CAGE_CTL_LPMODE g ∧
      (here = true → s.fld F.CAGE_CTL_AUTO_PWR g = 1 → (s.cage g).noAuto = false →
        t.fld F.CAGE_CTL_PWR_CTL g = 0 ∧ t.fld F.CAGE_CTL_PIND_CTL g = 1) ∧
      (here = false → s.fld F.CAGE_CTL_AUTO_PWR g = 1 ∨ s.fld F.CAGE_STS_SEQ g = 1 →
        t.fld F.CAGE_CTL_PWR_CTL g = 1 ∧ t.fld F.CAGE_CTL_PIND_CTL g = 3 ∧ t.fld F.CAGE_STS_SEQ g ≠ 1) ∧
      CageStep (CageRegs g) s t := by
  intro here t
  obtain ⟨hpds, hpdc⟩ := s.fld_notePresence g
  have hstep := CageStep.notePresence s g
  have hlp := s.fld_notePresence_ne g (h := F.CAGE_CTL_LPMODE) (by decide) (.inl (by decide))
  have hseq := s.fld_notePresence_ne g (h := F.CAGE_STS_SEQ) (by decide) (.inr rfl)
  have hauto := s.fld_notePresence_ne g (h := F.CAGE_CTL_AUTO_PWR) (by decide) (.inl (by decide))
  have hno := s.noAuto_notePresence g
  have hpower (u : State) (pwr pind : Nat) {h : Fld} (hne : h.reg ≠ .CAGE_CTL ∨ h.lsb + h.width ≤ 6 ∨ 9 ≤ h.lsb) :
    (u.cagePower g pwr pind).fld h g = u.fld h g := u.fld_cagePower_ne g pwr pind g hne
  cases hhere : here with
  | true =>
    have ht : t = if ((s.notePresence g).bit F.CAGE_CTL_AUTO_PWR g && !((s.notePresence g).cage g).noAuto) = true
        then (s.notePresence g).cagePower g 0 1 else s.notePresence g := if_pos hhere
    clear_value t
    split at ht <;> subst ht
    next =>
      obtain ⟨hon, hind⟩ := (s.notePresence g).fld_cagePower g 0 1
      exact ⟨(hpower _ _ _ (by decide)).trans (hpds.trans (congrArg boolNat hhere)), (hpower _ _ _ (by decide)).trans hpdc,
        (hpower _ _ _ (by decide)).trans hlp, fun _ _ _ => ⟨hon, hind⟩, fun e => absurd e (by decide), hstep.cagePower 0 1 ⟨.inl rfl, rfl⟩⟩
    next hc =>
      rw [hno, Bool.and_eq_true, State.bit_eq_true_iff, hauto, Bool.not_eq_true'] at hc
      exact ⟨hpds.trans (congrArg boolNat hhere), hpdc, hlp, fun _ h1 h2 => absurd ⟨h1, h2⟩ hc, fun e => absurd e (by decide), hstep⟩
  | false =>
    let u := (s.notePresence g).setCage g { (s.notePresence g).cage g with noAuto := false }
    have hu : CageStep (CageRegs g) s u := hstep.setCage _ _
    let w := if (u.bit F.CAGE_CTL_AUTO_PWR g || u.fld F.CAGE_STS_SEQ g == 1) = true then u.cagePower g 1 3 else u
    have ht : t = if w.fld F.CAGE_STS_SEQ g = 1 then w.cageSeq g 0 else w := if_neg (Bool.eq_false_iff.1 hhere)
    have hcond : (u.bit F.CAGE_CTL_AUTO_PWR g || u.fld F.CAGE_STS_SEQ g == 1) = true ↔
        s.fld F.CAGE_CTL_AUTO_PWR g = 1 ∨ s.fld F.CAGE_STS_SEQ g = 1 := by
      rw [Bool.or_eq_true, State.bit_eq_true_iff, beq_iff_eq]
      exact or_congr (by rw [← hauto]; rfl) (by rw [← hseq]; rfl)
    have hw : (∀ h : Fld, h.reg ≠ .CAGE_CTL ∨ h.lsb + h.width ≤ 6 ∨ 9 ≤ h.lsb → w.fld h g = (s.notePresence g).fld h g) ∧
        (s.fld F.CAGE_CTL_AUTO_PWR g = 1 ∨ s.fld F.CAGE_STS_SEQ g = 1 → w.fld F.CAGE_CTL_PWR_CTL g = 1 ∧ w.fld F.CAGE_CTL_PIND_CTL g = 3) ∧
        CageStep (CageRegs g) s w := by
      by_cases hc : s.fld F.CAGE_CTL_AUTO_PWR g = 1 ∨ s.fld F.CAGE_STS_SEQ g = 1
      · have hwu : w = u.cagePower g 1 3 := if_pos (hcond.2 hc)
        rw [hwu]
        exact ⟨fun h hne => hpower u 1 3 hne, fun _ => u.fld_cagePower g 1 3, hu.cagePower 1 3 ⟨.inl rfl, rfl⟩⟩
      · have hwu : w = u := if_neg fun e => hc (hcond.1 e)
        rw [hwu]
        exact ⟨fun _ _ => rfl, fun h => absurd h hc, hu⟩
    obtain ⟨hkept, hoff, hwstep⟩ := hw
    obtain ⟨hend, hrest, htstep⟩ := w.endWait_effect g ht
    refine ⟨?_, ?_, ?_, fun e => absurd e (by decide), fun _ hc => ?_, hwstep.trans htstep⟩
    · rw [hrest _ (by decide), hkept _ (by decide), hpds]
      exact congrArg boolNat hhere
    · rw [hrest _ (by decide), hkept _ (by decide), hpdc]
    · rw [hrest _ (by decide), hkept _ (by decide), hlp]
    · rw [hrest _ (by decide), hrest _ (by decide)]
      exact ⟨(hoff hc).1, (hoff hc).2, hend⟩

/-! ### The attention button (R82) -/

theorem State.waitLeft_putCageFld (s : State) (g : Nat) (f : Fld) (v : Nat) :
    ((s.putCageFld g f v).cage g).waitLeft = (s.cage g).waitLeft := by
  unfold State.putCageFld State.putCageCtl
  rw [State.cage_setCage, if_pos rfl]

/-- The sequence of the attention button goes to WAIT (Table 3-6). -/
def State.startWait (s : State) (g : Nat) : State :=
  ((s.setCage g { s.cage g with
    waitLeft := 16 * s.fld F.CAGE_CMB_CFG2_BTN_WAIT 0
    pindWas := s.fld F.CAGE_CTL_PIND_CTL g
    wasOn := !s.bit F.CAGE_CTL_PWR_CTL g }).putCageFld g F.CAGE_CTL_PIND_CTL 2).cageSeq g 1

theorem State.startWait_effect (s : State) (g : Nat) :
    (s.startWait g).fld F.CAGE_STS_ABP g = s.fld F.CAGE_STS_ABP g ∧ (s.startWait g).fld F.CAGE_STS_SEQ g = 1 ∧
      (s.startWait g).fld F.CAGE_CTL_PIND_CTL g = 2 ∧
      ((s.startWait g).cage g).waitLeft = 16 * s.fld F.CAGE_CMB_CFG2_BTN_WAIT 0 ∧ CageStep (CageRegs g) s (s.startWait g) := by
  unfold State.startWait
  refine ⟨?_, State.fld_setFld_self _ F.CAGE_STS_SEQ g 1 (by decide), ?_, ?_, ?_⟩
  · exact (State.fld_setFld_apart _ (by decide)).trans (State.fld_putCageFld_ne _ rfl _ _ _ (.inl (by decide)))
  · exact (State.fld_setFld_ne _ _ _ _ _ _ (.inl (by decide))).trans (State.fld_putCageFld_self _ rfl (by decide) g 2)
  · rw [State.cageSeq, State.cage_setFld, State.waitLeft_putCageFld, State.cage_setCage, if_pos rfl]
  · exact (((CageStep.of_onlyReports (OnlyReports.refl _ s)).setCage g _).putCageFld _ _ ⟨.inl rfl, rfl⟩).cageSeq 1 ⟨.inr rfl, rfl⟩

theorem State.pressButton_idle {s : State} {g : Nat} (hsplit : s.split 7 = false) (hseq : s.fld F.CAGE_STS_SEQ g = 0)
    (hpds : s.fld F.CAGE_STS_PDS g = 1) : s.pressButton g = (s.cageEvent g F.CAGE_STS_ABP F.CAGE_CTL_ABP_EN).startWait g := by
  unfold State.pressButton
  dsimp only
  rw [if_neg (by rw [hsplit]; decide), if_pos hseq, if_pos ((s.bit_eq_true_iff _ _).2 hpds)]
  rfl

/-! ### Bind-off that a cage asks for -/

/-- Ports that are UP or HELD are marked for bind-off; only ports change. -/
theorem State.each_requestBindoff (s : State) (l : List Nat) :
    { s.each l (fun t p => t.requestBindoff p) with ports := s.ports } = s ∧
      ∀ p, p ∈ l ∨ (s.port p).bindoff = true → s.portState p = 2 ∨ s.portState p = 4 →
        ((s.each l (fun t p => t.requestBindoff p)).port p).bindoff = true := by
  induction l generalizing s with
  | nil => exact ⟨rfl, fun p hp _ => hp.resolve_left List.not_mem_nil⟩
  | cons q l ih =>
    obtain ⟨hrest, hports⟩ := ih (s.requestBindoff q)
    have hreq : { s.requestBindoff q with ports := s.ports } = s := by
      unfold State.requestBindoff
      split <;> rfl
    have hstate (p : Nat) : (s.requestBindoff q).portState p = s.portState p := by
      unfold State.requestBindoff
      split <;> rfl
    refine ⟨(congrArg (fun x : State => { x with ports := s.ports }) hrest :).trans hreq, fun p hp hup => ?_⟩
    refine hports p ?_ ((hstate p).symm ▸ hup)
    rw [List.mem_cons, or_assoc] at hp
    unfold State.requestBindoff
    by_cases hq : p = q
    · subst hq
      rw [if_pos hup, State.port_setPort, if_pos rfl]
      exact .inr rfl
    · refine (hp.resolve_left hq).imp_right fun h => ?_
      split
      · rw [State.port_setPort, if_neg (Ne.symm hq)]
        exact h
      · exact h

theorem CageStep.fld {p} {s t : State} (h : CageStep p s t) {f : Fld} {i : Nat} (hr : f.reg ∉ reportRegs) (hp : ¬ p f.reg i) :
    t.fld f i = s.fld f i := OnlyReports.fld (t := { t with cages := s.cages }) h hr hp

theorem CageStep.cagePorts {s t : State} {g : Nat} (h : CageStep (CageRegs g) s t) (k : Nat) : t.cagePorts k = s.cagePorts k := by
  have hpart : t.part = s.part := (congrArg State.part h.1 :)
  have hlanes (i : Nat) : t.fld F.CAGE_CAP_LANES i = s.fld F.CAGE_CAP_LANES i := h.fld (by decide) fun e => absurd e.1 (by decide)
  have hwidth (i : Nat) : t.fld F.MAC_PORT_CFG_WIDTH i = s.fld F.MAC_PORT_CFG_WIDTH i := h.fld (by decide) fun e => absurd e.1 (by decide)
  have hen (i : Nat) : t.fld F.MAC_PORT_CFG_EN i = s.fld F.MAC_PORT_CFG_EN i := h.fld (by decide) fun e => absurd e.1 (by decide)
  simp only [State.cagePorts, State.cageLanes, State.bit, hpart, hlanes, hwidth, hen]

theorem CageStep.portState {s t : State} {g : Nat} (h : CageStep (CageRegs g) s t) (p : Nat) : t.portState p = s.portState p :=
  h.fld (f := F.MAC_PORT_STS_STATE) (by decide) fun e => absurd e.1 (by decide)

/-- Ports marked after what a cage does: the frame of a power fault. -/
theorem CageStep.withPorts {p} {s t u : State} (h : CageStep p s t) (hu : { u with ports := t.ports } = t) :
    OnlyReports p s { u with cages := s.cages, ports := s.ports } := by
  have hports : t.ports = s.ports := (congrArg State.ports h.1 :)
  have hsame : { u with cages := s.cages, ports := s.ports } = { t with cages := s.cages } :=
    hports ▸ (congrArg (fun x : State => { x with cages := s.cages }) hu :)
  rw [hsame]
  exact h

theorem CageStep.trans_ports {p} {s t u : State} (h : CageStep p s t) (k : OnlyReports p t { u with cages := t.cages, ports := t.ports }) :
    OnlyReports p s { u with cages := s.cages, ports := s.ports } :=
  ⟨(congrArg (fun x : State => { x with cages := s.cages, ports := s.ports, out := s.out, bus := s.bus, regs := s.regs,
                                        dma := s.dma, flt := s.flt, jrn := s.jrn, gauge := s.gauge }) k.1 :).trans
    (congrArg (fun x : State => { x with ports := s.ports }) h.1 :), h.2.trans k.2⟩

/-! ### A power fault (R81) -/

theorem State.cagePowerFault_effect (s : State) (g : Nat) :
    let t := s.cagePowerFault g
    t.fld F.CAGE_STS_PFD g = 1 ∧ t.fld F.CAGE_CTL_PWR_CTL g = 1 ∧ t.fld F.CAGE_CTL_PIND_CTL g = 3 ∧
      (∀ p, p ∈ s.cagePorts g → s.portState p = 2 ∨ s.portState p = 4 → (t.port p).bindoff = true) ∧
      OnlyReports (CageRegs g) s { t with cages := s.cages, ports := s.ports } := by
  let noted := (s.setCage g { s.cage g with badRun := 0, noAuto := true }).cageEvent g F.CAGE_STS_PFD F.CAGE_CTL_PFD_EN
  let off := (noted.cagePower g 1 3).fault 22 0 g
  have hnoted : CageStep (CageRegs g) s noted :=
    ((CageStep.of_onlyReports (OnlyReports.refl _ s)).setCage g _).cageEvent (f := F.CAGE_STS_PFD) _ ⟨.inr rfl, rfl⟩
  have hfault := OnlyReports.fault (fun _ _ => False) (noted.cagePower g 1 3) 22 0 g 0
  have hoff : CageStep (CageRegs g) s off :=
    (hnoted.cagePower 1 3 ⟨.inl rfl, rfl⟩).trans (.of_onlyReports (hfault.mono fun _ _ => False.elim))
  obtain ⟨hpwr, hind⟩ := noted.fld_cagePower g 1 3
  obtain ⟨hrest, hports⟩ := off.each_requestBindoff (off.cagePorts g)
  have hfld (f : Fld) (hf : f.reg ∉ reportRegs) : (s.cagePowerFault g).fld f g = (noted.cagePower g 1 3).fld f g := by
    have heach : (s.cagePowerFault g).fld f g = off.fld f g := (congrArg (State.fld · f g) hrest :)
    rw [heach]
    exact hfault.fld hf id
  refine ⟨?_, ?_, ?_, fun p hp hup => ?_, hoff.withPorts hrest⟩
  · rw [hfld _ (by decide), State.fld_cagePower_ne _ _ _ _ _ (by decide), State.fld_cageEvent _ _ _ _ (by decide)]
    exact State.fld_setFld_self _ F.CAGE_STS_PFD g 1 (by decide)
  · rw [hfld _ (by decide), hpwr]
  · rw [hfld _ (by decide), hind]
  · exact hports p (.inl ((hoff.cagePorts g).symm ▸ hp)) (by rw [hoff.portState]; exact hup)

/-- A change of PGOOD that comes first is no more than PGOOD and its debounce. -/
theorem State.acceptGood_fault {s : State} {g : Nat} (h : s.cageDeb ≤ (s.cage g).badRun) :
    ∃ u, CageStep (CageRegs g) s u ∧ u.ports = s.ports ∧ s.acceptGood g = u.cagePowerFault g := by
  have hrefl : CageStep (CageRegs g) s s := .of_onlyReports (OnlyReports.refl _ s)
  unfold State.acceptGood
  dsimp only
  rw [if_pos h]
  split
  · exact ⟨_, (hrefl.setCage g _).setFld (f := F.CAGE_STS_PGOOD) _ ⟨.inr rfl, rfl⟩, rfl, rfl⟩
  · exact ⟨s, hrefl, rfl, rfl⟩

/-! ### Writes to CAGE_CTL, and the ends of WAIT and BINDOFF (R79, R82, R83) -/

/-- The field of bits 6 to 8 stays, whatever the other bits become. -/
theorem getField_power_kept (new old : BitVec 64) :
    getField ((new &&& ~~~ (0x1C0 : BitVec 64)) ||| (old &&& 0x1C0)) 6 3 = getField old 6 3 := by
  refine Nat.eq_of_testBit_eq fun b => ?_
  rw [testBit_getField, testBit_getField]
  by_cases hb : b < 3
  · have hmask : (0x1C0 : BitVec 64).getLsbD (6 + b) = true := by interval_cases b <;> rfl
    have hclear : (~~~ (0x1C0 : BitVec 64)).getLsbD (6 + b) = false := by interval_cases b <;> rfl
    simp only [BitVec.getLsbD_or, BitVec.getLsbD_and, hmask, hclear, Bool.and_false, Bool.and_true, Bool.false_or]
  · simp [hb]

theorem exec_cageCtlWrite {a : Agent} {g : Fin 128} {s : State} (h : s.takes a .CAGE_CTL g.val) (v : BitVec 32) :
    exec (.cageCtlWrite a g v) s = .next ((s.begin.touch a (Reg.key .CAGE_CTL g.val)).writeCageCtl g.val low32 (v.setWidth 64)) :=
  congrArg Host.Outcome.next (writeBy_takes h _)

/-- Power that a write switches on is no longer withheld after a fault. -/
def State.allowAuto (s : State) (g : Nat) (on : Bool) : State :=
  if on then s.setCage g { s.cage g with noAuto := false } else s

theorem CageWrites.allowAuto (p) (s : State) (g : Nat) (on : Bool) : CageWrites p s (s.allowAuto g on) := by
  have h : CageWrites p s s := .of_onlyRegs (OnlyRegs.refl p s)
  cases on
  · exact h
  · exact h.setCage _ _

theorem State.reg_putCageCtl (s : State) (g : Nat) (v : BitVec 64) : (s.putCageCtl g v).reg .CAGE_CTL g = v :=
  State.reg_setReg_self ..

/-- A write of all of CAGE_CTL outside BINDOFF is stored, and ends a sequence that waits. -/
theorem State.writeCageCtl_stored {s : State} {g : Nat} (hseq : s.fld F.CAGE_STS_SEQ g ≠ 2) (v : BitVec 64) :
    let t := s.writeCageCtl g low32 v
    t.reg .CAGE_CTL g = Reg.written .CAGE_CTL (s.reg .CAGE_CTL g) low32 v ∧
      (s.fld F.CAGE_STS_SEQ g = 1 → t.fld F.CAGE_STS_SEQ g = 0 ∧ t.fld F.CAGE_STS_BTN_CANCEL g = 1) ∧ CageWrites (CageRegs g) s t := by
  intro t
  let new := Reg.written .CAGE_CTL (s.reg .CAGE_CTL g) low32 v
  let u := (s.allowAuto g (!new.getLsbD 8)).putCageCtl g new
  have hu : CageWrites (CageRegs g) s u := (CageWrites.allowAuto _ s g _).putCageCtl _ ⟨.inl rfl, rfl⟩
  have ht : t = if s.fld F.CAGE_STS_SEQ g = 1 then (u.cageSeq g 0).setFld F.CAGE_STS_BTN_CANCEL g 1 else u := by
    have hmask : (low32 &&& 0x100 != 0) = true := by decide
    simp only [t, State.writeCageCtl, hmask, if_neg hseq, Bool.true_or, and_true, Bool.true_and]
    rfl
  clear_value t
  split at ht <;> subst ht
  next =>
    refine ⟨?_, fun _ => ⟨?_, State.fld_setFld_self _ F.CAGE_STS_BTN_CANCEL g 1 (by decide)⟩,
      (hu.cageSeq 0 ⟨.inr rfl, rfl⟩).setFld (f := F.CAGE_STS_BTN_CANCEL) 1 ⟨.inr rfl, rfl⟩⟩
    · exact (State.reg_setReg_ne fun e => absurd e.1 (by decide)).trans
        ((State.reg_setReg_ne fun e => absurd e.1 (by decide)).trans (State.reg_putCageCtl _ g new))
    · exact (State.fld_setFld_apart _ (by decide)).trans (State.fld_setFld_self u F.CAGE_STS_SEQ g 0 (by decide))
  next h1 => exact ⟨State.reg_putCageCtl _ g new, fun h => absurd h h1, hu⟩

/-- A write of all of CAGE_CTL in BINDOFF: what it says of power is held (R83). -/
theorem State.writeCageCtl_held {s : State} {g : Nat} (hseq : s.fld F.CAGE_STS_SEQ g = 2) (v : BitVec 64) :
    let new := Reg.written .CAGE_CTL (s.reg .CAGE_CTL g) low32 v
    let t := s.writeCageCtl g low32 v
    getField (t.reg .CAGE_CTL g) 6 3 = getField (s.reg .CAGE_CTL g) 6 3 ∧
      (t.cage g).held = (some (getField new 8 1), some (getField new 6 2)) ∧ CageWrites (CageRegs g) s t := by
  intro new t
  let u := (s.allowAuto g (!new.getLsbD 8)).putCageCtl g ((new &&& ~~~ (0x1C0 : BitVec 64)) ||| (s.reg .CAGE_CTL g &&& 0x1C0))
  have hu : CageWrites (CageRegs g) s u := (CageWrites.allowAuto _ s g _).putCageCtl _ ⟨.inl rfl, rfl⟩
  have ht : t = u.setCage g { u.cage g with held := (some (getField new 8 1), some (getField new 6 2)) } := by
    have hmask : (low32 &&& 0x100 != 0) = true := by decide
    have hmask' : (low32 &&& 0xC0 != 0) = true := by decide
    simp only [t, State.writeCageCtl, hmask, hmask', if_pos hseq, Bool.true_and]
    rfl
  clear_value t
  subst ht
  refine ⟨?_, ?_, hu.setCage _ _⟩
  · have hreg : u.reg .CAGE_CTL g = _ := State.reg_putCageCtl _ g _
    exact (congrArg (getField · 6 3) hreg).trans (getField_power_kept new _)
  · rw [State.cage_setCage, if_pos rfl]

/-- The end of the sequence after BINDOFF (R80, R83). -/
theorem State.cageFinal_effect (s : State) (g : Nat) :
    let h := (s.cage g).held
    let t := s.cageFinal g
    t.fld F.CAGE_STS_SEQ g = 0 ∧ t.fld F.CAGE_CTL_PWR_CTL g = h.1.getD 1 % 2 ∧ t.fld F.CAGE_CTL_PIND_CTL g = h.2.getD 3 % 4 ∧
      t.fld F.CAGE_CTL_LPMODE g = (if h.1 = none then 1 else s.fld F.CAGE_CTL_LPMODE g) ∧ CageWrites (CageRegs g) s t := by
  intro h t
  let u := s.cagePower g (h.1.getD 1) (h.2.getD 3)
  let w := if h.1.isSome = true then u else u.putCageFld g F.CAGE_CTL_LPMODE 1
  have hu : CageWrites (CageRegs g) s u := (CageWrites.of_onlyRegs (OnlyRegs.refl _ s)).cagePower _ _ ⟨.inl rfl, rfl⟩
  obtain ⟨hpwr, hind⟩ := s.fld_cagePower g (h.1.getD 1) (h.2.getD 3)
  have hlp := s.fld_cagePower_ne (h := F.CAGE_CTL_LPMODE) g (h.1.getD 1) (h.2.getD 3) g (by decide)
  have hw : w.fld F.CAGE_CTL_PWR_CTL g = h.1.getD 1 % 2 ∧ w.fld F.CAGE_CTL_PIND_CTL g = h.2.getD 3 % 4 ∧
      w.fld F.CAGE_CTL_LPMODE g = (if h.1 = none then 1 else s.fld F.CAGE_CTL_LPMODE g) ∧ CageWrites (CageRegs g) s w := by
    cases hh : h.1 with
    | some x =>
      have hwu : w = u := if_pos (by rw [hh]; rfl)
      rw [hwu]
      exact ⟨hh ▸ hpwr, hind, hlp, hu⟩
    | none =>
      have hwu : w = u.putCageFld g F.CAGE_CTL_LPMODE 1 := if_neg (by rw [hh]; decide)
      rw [hwu]
      refine ⟨?_, ?_, State.fld_putCageFld_self u rfl (by decide) g 1, hu.putCageFld _ _ ⟨.inl rfl, rfl⟩⟩
      · exact (State.fld_putCageFld_ne u rfl _ _ _ (.inr (.inr (by decide)))).trans (hh ▸ hpwr)
      · exact (State.fld_putCageFld_ne u rfl _ _ _ (.inr (.inr (by decide)))).trans hind
  obtain ⟨hpwr', hind', hlp', hstep⟩ := hw
  have ht : t = (w.setCage g { w.cage g with held := (none, none), flushing := [] }).cageSeq g 0 := rfl
  have hkept {f : Fld} (hf : f.reg ≠ .CAGE_STS) : t.fld f g = w.fld f g := by
    rw [ht]
    exact State.fld_setFld_ne _ _ _ _ _ _ (.inl hf.symm)
  refine ⟨State.fld_setFld_self _ F.CAGE_STS_SEQ g 0 (by decide), (hkept (by decide)).trans hpwr', (hkept (by decide)).trans hind',
    (hkept (by decide)).trans hlp', (hstep.setCage _ _).cageSeq 0 ⟨.inr rfl, rfl⟩⟩

theorem CageWrites.withPorts {p} {s t u : State} (h : CageWrites p s t) (hu : { u with ports := t.ports } = t) :
    OnlyRegs p s { u with cages := s.cages, ports := s.ports } := by
  have hports : t.ports = s.ports := (congrArg State.ports h.1 :)
  have hsame : { u with cages := s.cages, ports := s.ports } = { t with cages := s.cages } :=
    hports ▸ (congrArg (fun x : State => { x with cages := s.cages }) hu :)
  rw [hsame]
  exact h

/-- BINDOFF starts at the end of WAIT with power on: the cage's ports are asked for bind-off (R82). -/
theorem State.btnBindoff_effect (s : State) (g : Nat) :
    let u := (s.setCage g { s.cage g with flushing := s.cagePorts g, held := (none, none) }).cageSeq g 2
    let t := u.each (s.cagePorts g) (fun t p => t.requestBindoff p)
    t.fld F.CAGE_STS_SEQ g = 2 ∧ (∀ p, p ∈ s.cagePorts g → s.portState p = 2 ∨ s.portState p = 4 → (t.port p).bindoff = true) ∧
      OnlyRegs (CageRegs g) s { t with cages := s.cages, ports := s.ports } := by
  intro u t
  have hu : CageWrites (CageRegs g) s u := ((CageWrites.of_onlyRegs (OnlyRegs.refl _ s)).setCage g _).cageSeq 2 ⟨.inr rfl, rfl⟩
  obtain ⟨hrest, hports⟩ := u.each_requestBindoff (s.cagePorts g)
  refine ⟨?_, fun p hp hup => hports p (.inl hp) ?_, hu.withPorts hrest⟩
  · exact (congrArg (State.fld · F.CAGE_STS_SEQ g) hrest :).trans (State.fld_setFld_self _ F.CAGE_STS_SEQ g 2 (by decide))
  · rw [(CageStep.of_writes hu).portState]
    exact hup

/-- The cage powers on at the end of WAIT with power off (R82). -/
theorem State.btnPower_effect (s : State) (g : Nat) :
    let t := (s.cagePower g 0 1).cageSeq g 0
    t.fld F.CAGE_STS_SEQ g = 0 ∧ t.fld F.CAGE_CTL_PWR_CTL g = 0 ∧ t.fld F.CAGE_CTL_PIND_CTL g = 1 ∧ CageWrites (CageRegs g) s t := by
  obtain ⟨hpwr, hind⟩ := s.fld_cagePower g 0 1
  have hkept {f : Fld} (hf : f.reg ≠ .CAGE_STS) : ((s.cagePower g 0 1).cageSeq g 0).fld f g = (s.cagePower g 0 1).fld f g :=
    State.fld_setFld_ne _ _ _ _ _ _ (.inl hf.symm)
  exact ⟨State.fld_setFld_self _ F.CAGE_STS_SEQ g 0 (by decide), (hkept (by decide)).trans hpwr, (hkept (by decide)).trans hind,
    ((CageWrites.of_onlyRegs (OnlyRegs.refl _ s)).cagePower 0 1 ⟨.inl rfl, rfl⟩).cageSeq 0 ⟨.inr rfl, rfl⟩⟩

/-! ### Scan frames (R76 to R79) -/

/-- The edge makes a frame due (R77). -/
theorem State.edgeScan_due {s : State} (hcages : s.nCage ≠ 0) (hedge : s.tikCount.toNat % max 1 (s.fld F.CAGE_CMB_CFG_SCAN 0) = 0) :
    s.edgeScan.cmb = { s.cmb with due := true } ∧ s.edgeScan.cages = s.cages ∧
      (s.cmb.left ≠ 0 → s.edgeScan.fld F.CAGE_CMB_STS_OVERRUN 0 = 1) ∧
      OnlyReports (fun r _ => r = .CAGE_CMB_STS) s { s.edgeScan with cmb := s.cmb } := by
  let u := if s.cmb.left = 0 then s.setFld F.CAGE_CMB_STS_RUN 0 0 else s
  have hu : OnlyRegs (fun r _ => r = .CAGE_CMB_STS) s u := by
    dsimp only [u]
    split
    · exact OnlyRegs.setFld s (f := F.CAGE_CMB_STS_RUN) 0 rfl
    · exact OnlyRegs.refl _ s
  have hnum : u.nCage = s.nCage := congrArg (min 128) (hu.fld (f := F.CAGE_CMB_CFG_NCAGE) (by decide))
  have hscan : u.tikCount.toNat % max 1 (u.fld F.CAGE_CMB_CFG_SCAN 0) = 0 := by
    rw [hu.fld (f := F.CAGE_CMB_CFG_SCAN) (by decide), State.tikCount, hu.2 _ _ (by decide)]
    exact hedge
  have ht : s.edgeScan = { u with cmb := { u.cmb with due := true } }.when (u.cmb.left != 0)
      (fun t => (t.setFld F.CAGE_CMB_STS_OVERRUN 0 1).fault 22 1 0 0) := by
    unfold State.edgeScan
    dsimp only
    rw [if_neg (hnum ▸ hcages), if_neg (not_not.2 hscan)]
  have hstep : OnlyReports (fun r _ => r = .CAGE_CMB_STS) { u with cmb := { u.cmb with due := true } } s.edgeScan := by
    rw [ht]
    unfold State.when
    split
    · exact (OnlyReports.setFld _ (f := F.CAGE_CMB_STS_OVERRUN) 1 (.inr rfl)).trans (OnlyReports.fault _ _ 22 1 0 0)
    · exact OnlyReports.refl _ _
  refine ⟨?_, ?_, fun hleft => ?_, ?_⟩
  · have hcmb : s.edgeScan.cmb = { u.cmb with due := true } := (congrArg State.cmb hstep.1 :)
    rw [hcmb, hu.cmb]
  · exact (congrArg State.cages hstep.1 :).trans (congrArg State.cages hu.1 :)
  · rw [ht, State.when, if_pos (bne_iff_ne.2 (hu.cmb ▸ hleft)),
      (OnlyReports.fault (fun _ _ => False) _ 22 1 0 0).fld (f := F.CAGE_CMB_STS_OVERRUN) (by decide) id]
    exact State.fld_setFld_self _ F.CAGE_CMB_STS_OVERRUN 0 1 (by decide)
  · exact hu.with_cmb.reports.trans (hstep.with_cmb s.cmb)

/-- The scan frame shifts the outputs of the cages below `n`. -/
def State.shiftCages (s : State) (stagger n : Nat) : State × Nat :=
  (List.range n).foldl (fun a g => a.1.shiftCage stagger a.2 g) (s, 0)

/-- The power of cage `g` goes on from `s` to `t`. -/
def State.powersOn (s t : State) (g : Nat) : Bool := (t.cage g).shifted.getLsbD 0 && !(s.cage g).shifted.getLsbD 0

theorem State.shiftCage_effect (s : State) (stagger acc g : Nat) :
    let u := s.shiftCage stagger acc g
    (u.1.cage g).latched = (s.cage g).shifted ∧ (∀ k, k ≠ g → u.1.cage k = s.cage k) ∧
      u.2 = acc + boolNat (s.powersOn u.1 g) ∧ (s.powersOn u.1 g = true → acc < stagger) ∧
      CageWrites (fun r _ => r = .CAGE_STS) s u.1 := by
  intro u
  let c := s.cage g
  let rising := (s.cageWant g).getLsbD 0 && !c.shifted.getLsbD 0
  let wait := rising && Decidable.decide (stagger ≤ acc)
  let out := if wait then s.cageWant g &&& 0xE else s.cageWant g
  let s1 := s.setCage g { c with latched := c.shifted, shifted := out, changed := c.changed && wait, carried := c.changed && !wait }
  have hu : u = (if c.carried then s1.setFld F.CAGE_STS_CC g 1 else s1, if rising && !wait then acc + 1 else acc) := rfl
  have hs1 : CageWrites (fun r _ => r = .CAGE_STS) s s1 := (CageWrites.of_onlyRegs (OnlyRegs.refl _ s)).setCage g _
  have hcage (k : Nat) : u.1.cage k = s1.cage k := by
    rw [hu]
    dsimp only
    split <;> rfl
  have hself : s1.cage g = _ := (s.cage_setCage g g _).trans (if_pos rfl)
  have hpow : s.powersOn u.1 g = (rising && !wait) := by
    rw [State.powersOn, hcage, hself]
    show (out.getLsbD 0 && _) = _
    cases hw : wait with
    | true =>
      have hout : out.getLsbD 0 = false := by
        simp only [out, hw, if_true, BitVec.getLsbD_and]
        exact Bool.and_false _
      rw [hout, Bool.false_and, Bool.not_true, Bool.and_false]
    | false =>
      have hout : out = s.cageWant g := if_neg (Bool.eq_false_iff.1 hw)
      rw [hout, Bool.not_false, Bool.and_true]
  refine ⟨?_, fun k hk => ?_, ?_, fun hon => ?_, ?_⟩
  · rw [hcage, hself]
  · rw [hcage, State.cage_setCage, if_neg (Ne.symm hk)]
  · rw [hpow, hu]
    cases rising && !wait <;> rfl
  · rw [hpow, Bool.and_eq_true, Bool.not_eq_true'] at hon
    have hfree : Decidable.decide (stagger ≤ acc) = false := by
      have hw := hon.2
      simp only [wait, hon.1, Bool.true_and] at hw
      exact hw
    exact Nat.lt_of_not_le (of_decide_eq_false hfree)
  · rw [hu]
    dsimp only
    split
    · exact hs1.setFld (f := F.CAGE_STS_CC) 1 rfl
    · exact hs1

theorem State.shiftCages_effect (s : State) (stagger n : Nat) :
    let u := s.shiftCages stagger n
    (∀ g, g < n → (u.1.cage g).latched = (s.cage g).shifted) ∧ (∀ g, n ≤ g → u.1.cage g = s.cage g) ∧
      u.2 = ((List.range n).filter (s.powersOn u.1)).length ∧ u.2 ≤ stagger ∧ CageWrites (fun r _ => r = .CAGE_STS) s u.1 := by
  induction n with
  | zero => exact ⟨fun g hg => absurd hg (Nat.not_lt_zero g), fun _ _ => rfl, rfl, Nat.zero_le _, .of_onlyRegs (OnlyRegs.refl _ s)⟩
  | succ n ih =>
    obtain ⟨hlatched, hrest, hcount, hle, hstep⟩ := ih
    obtain ⟨hl, hother, hacc, hfree, hstep'⟩ := (s.shiftCages stagger n).1.shiftCage_effect stagger (s.shiftCages stagger n).2 n
    have hsucc : s.shiftCages stagger (n + 1) = (s.shiftCages stagger n).1.shiftCage stagger (s.shiftCages stagger n).2 n := by
      unfold State.shiftCages
      rw [List.range_succ, List.foldl_append]
      rfl
    rw [← hsucc] at hl hother hacc hfree hstep'
    intro u
    have hn : (s.shiftCages stagger n).1.powersOn u.1 n = s.powersOn u.1 n := by rw [State.powersOn, State.powersOn, hrest n le_rfl]
    have hbelow : (List.range n).filter (s.powersOn u.1) = (List.range n).filter (s.powersOn (s.shiftCages stagger n).1) := by
      refine List.filter_congr fun g hg => ?_
      rw [State.powersOn, State.powersOn, hother g (Nat.ne_of_lt (List.mem_range.1 hg))]
    rw [hn] at hacc hfree
    refine ⟨fun g hg => ?_, fun g hg => ?_, ?_, ?_, hstep.trans hstep'⟩
    · rcases Nat.lt_succ_iff_lt_or_eq.1 hg with hlt | rfl
      · rw [hother g (Nat.ne_of_lt hlt), hlatched g hlt]
      · rw [hl, hrest _ le_rfl]
    · rw [hother g (by omega), hrest g (by omega)]
    · rw [List.range_succ, List.filter_append, List.length_append, hbelow, hacc, hcount]
      cases hp : s.powersOn u.1 n <;> simp only [List.filter_cons, List.filter_nil, hp] <;> rfl
    · cases hp : s.powersOn u.1 n with
      | true =>
        rw [hp] at hacc
        exact hacc.le.trans (hfree hp)
      | false =>
        rw [hp] at hacc
        exact hacc.le.trans hle

/-- A cage with its inputs captured and debounced (R78, R81). -/
def State.captured (s : State) (g : Nat) (raw : BitVec 4) : CageSt :=
  let c := s.cage g
  let run (n : Nat) (differs : Bool) : Nat := if differs then n + 1 else 0
  { c with
    raw := raw
    presRun := run c.presRun (raw.getLsbD 0 == s.bit F.CAGE_STS_PDS g)
    btnRun := run c.btnRun (s.bit F.CAGE_CAP_ABP_PRES g && raw.getLsbD 1 != c.btn)
    goodRun := run c.goodRun (raw.getLsbD 2 != s.bit F.CAGE_STS_PGOOD g)
    badRun := run c.badRun (c.latched.getLsbD 0 && !raw.getLsbD 2) }

/-- A captured cage keeps its outputs; the other cages stay (R78). -/
theorem State.captureCage_effect (s : State) (g : Nat) (raw : BitVec 4) :
    let t := s.captureCage g raw
    (t.cage g).raw = raw ∧ (t.cage g).latched = (s.cage g).latched ∧ (t.cage g).shifted = (s.cage g).shifted ∧
      (∀ k, k ≠ g → t.cage k = s.cage k) ∧ CageStep (fun r _ => r = .CAGE_STS) s t := by
  intro t
  let c := s.captured g raw
  have ht : t = if (s.cage g).raw.getLsbD 3 && !raw.getLsbD 3 then
        ((s.setCage g c).setFld F.CAGE_STS_MINT_LIVE g (boolNat (!raw.getLsbD 3))).cageEvent g F.CAGE_STS_MINT F.CAGE_CTL_MINT_EN
      else (s.setCage g c).setFld F.CAGE_STS_MINT_LIVE g (boolNat (!raw.getLsbD 3)) := rfl
  have hcage (k : Nat) : t.cage k = (s.setCage g c).cage k := by
    rw [ht]
    split
    · rw [State.cage_cageEvent, State.cage_setFld]
    · rw [State.cage_setFld]
  have hself : t.cage g = c := by rw [hcage, State.cage_setCage, if_pos rfl]
  have hstep : CageStep (fun r _ => r = .CAGE_STS) s ((s.setCage g c).setFld F.CAGE_STS_MINT_LIVE g (boolNat (!raw.getLsbD 3))) :=
    ((CageStep.of_onlyReports (OnlyReports.refl _ s)).setCage g c).setFld (f := F.CAGE_STS_MINT_LIVE) _ rfl
  rw [hself]
  refine ⟨rfl, rfl, rfl, fun k hk => ?_, ?_⟩
  · rw [hcage, State.cage_setCage, if_neg (Ne.symm hk)]
  · rw [ht]
    split
    · exact hstep.cageEvent (f := F.CAGE_STS_MINT) _ rfl
    · exact hstep

/-- All cages below `n` are captured. -/
theorem State.captureCages_effect (s : State) (raw : Nat → BitVec 4) (n : Nat) :
    let t := s.each (List.range n) (fun t g => t.captureCage g (raw g))
    (∀ g, g < n → (t.cage g).raw = raw g) ∧
      (∀ g, (t.cage g).latched = (s.cage g).latched ∧ (t.cage g).shifted = (s.cage g).shifted) ∧
      CageStep (fun r _ => r = .CAGE_STS) s t := by
  induction n with
  | zero => exact ⟨fun g hg => absurd hg (Nat.not_lt_zero g), fun _ => ⟨rfl, rfl⟩, .of_onlyReports (OnlyReports.refl _ s)⟩
  | succ n ih =>
    have hsucc : s.each (List.range (n + 1)) (fun t g => t.captureCage g (raw g)) =
        (s.each (List.range n) (fun t g => t.captureCage g (raw g))).captureCage n (raw n) := by
      unfold State.each
      rw [List.range_succ, List.foldl_append]
      rfl
    rw [hsucc]
    generalize s.each (List.range n) (fun t g => t.captureCage g (raw g)) = u at ih
    obtain ⟨hraw, hout, hstep⟩ := ih
    obtain ⟨hself, hlatched, hshifted, hother, hstep'⟩ := u.captureCage_effect n (raw n)
    refine ⟨fun g hg => ?_, fun g => ?_, hstep.trans hstep'⟩
    · by_cases h : g = n
      · rw [h, hself]
      · rw [hother g h, hraw g (by omega)]
    · by_cases h : g = n
      · subst h
        exact ⟨hlatched.trans (hout g).1, hshifted.trans (hout g).2⟩
      · rw [hother g h]
        exact hout g

/-- A scan frame that falls due with none in progress: cages shifted, then captured. -/
def State.scanCages (s : State) (inputs : List (BitVec 4)) : State :=
  (s.shiftCages (max 1 (s.fld F.CAGE_CMB_CFG2_PWR_STAGGER 0)) s.nCage).1.each (List.range 128) (fun t g =>
    t.captureCage g (if g < s.nCage then inputs.getD g 0xB else 0xB))

theorem State.scanCages_effect (s : State) (inputs : List (BitVec 4)) :
    let v := s.scanCages inputs
    (∀ g, g < 128 → (v.cage g).raw = if g < s.nCage then inputs.getD g 0xB else 0xB) ∧
      (∀ g, g < s.nCage → (v.cage g).latched = (s.cage g).shifted) ∧
      ((List.range s.nCage).filter (s.powersOn v)).length ≤ max 1 (s.fld F.CAGE_CMB_CFG2_PWR_STAGGER 0) ∧
      CageStep (fun r _ => r = .CAGE_STS) s v := by
  obtain ⟨hlatched, -, hcount, hle, hstep⟩ := s.shiftCages_effect (max 1 (s.fld F.CAGE_CMB_CFG2_PWR_STAGGER 0)) s.nCage
  obtain ⟨hraw, hout, hstep'⟩ := State.captureCages_effect
    (s.shiftCages (max 1 (s.fld F.CAGE_CMB_CFG2_PWR_STAGGER 0)) s.nCage).1 (fun g => if g < s.nCage then inputs.getD g 0xB else 0xB) 128
  refine ⟨hraw, fun g hg => (hout g).1.trans (hlatched g hg), ?_, (CageStep.of_writes hstep).trans hstep'⟩
  refine le_of_eq_of_le (congrArg List.length (List.filter_congr fun g _ => ?_)) (hcount ▸ hle)
  exact congrArg (fun x : BitVec 4 => x.getLsbD 0 && !(s.cage g).shifted.getLsbD 0) (hout g).2

theorem CageStep.mono {p q : Reg → Nat → Prop} {s t : State} (h : CageStep p s t) (hpq : ∀ r i, p r i → q r i) : CageStep q s t :=
  OnlyReports.mono h hpq

theorem CageStep.with_cmb {p} {s t : State} (h : CageStep p s t) (c : CmbSt) :
    OnlyReports p s { { t with cmb := c } with cages := s.cages, cmb := s.cmb } :=
  ⟨(congrArg (fun x : State => { x with cmb := s.cmb }) h.1 :), h.2⟩

theorem exec_cmbScanFrame_scans {s : State} (inputs : List (BitVec 4)) (h0 : s.nCage ≠ 0) (hleft : s.cmb.left = 0)
    (hdue : s.cmb.due = true) (hedge : s.atEdge = true) :
    let u := (s.begin.scanCages inputs).emit (.cmb ((List.range s.nCage).map (fun g => ((s.begin.scanCages inputs).cage g).latched)))
    exec (.cmbScanFrame inputs) s = .next { u.setFld F.CAGE_CMB_STS_RUN 0 1 with
      cmb := { u.cmb with scans := u.cmb.scans + 1, left := s.frameClocks, due := false } } := by
  have hgo : (decide (s.begin.nCage = 0) || s.begin.cmb.left != 0 || !s.begin.cmb.due || !s.begin.atEdge) = false := by
    have h0' : s.begin.nCage ≠ 0 := h0
    have hleft' : s.begin.cmb.left = 0 := hleft
    have hdue' : s.begin.cmb.due = true := hdue
    have hedge' : s.begin.atEdge = true := hedge
    rw [decide_eq_false h0', hleft', hdue', hedge']
    rfl
  show execCmbScanFrame inputs s = _
  unfold execCmbScanFrame
  dsimp only
  rw [if_neg (Bool.eq_false_iff.1 hgo)]
  rfl

theorem exec_cmbScanFrame_idle {s : State} (inputs : List (BitVec 4))
    (h : s.nCage = 0 ∨ s.cmb.left ≠ 0 ∨ s.cmb.due = false ∨ s.atEdge = false) :
    exec (.cmbScanFrame inputs) s = .next { s with out := [] } := by
  have hgo : (decide (s.begin.nCage = 0) || s.begin.cmb.left != 0 || !s.begin.cmb.due || !s.begin.atEdge) = true := by
    have h' : s.begin.nCage = 0 ∨ s.begin.cmb.left ≠ 0 ∨ s.begin.cmb.due = false ∨ s.begin.atEdge = false := h
    simpa [or_assoc] using h'
  show execCmbScanFrame inputs s = _
  unfold execCmbScanFrame
  dsimp only
  rw [if_pos hgo]
  rfl

/-- Settles O20: each command is its effect on the cage (`State.shiftCages`, `State.notePresence`, `State.startWait`, …). -/
theorem cagesScanAndPower : Obligations.CagesScanAndPower := by
  refine ⟨fun s hcages hedge => State.edgeScan_due hcages hedge, fun inputs s h => exec_cmbScanFrame_idle inputs h,
    fun inputs s h0 hleft hdue hedge => ?scan, fun g s hrun => ?presence, fun g s hrun hbtn hsplit hseq hpds => ?button,
    fun g s hrun => ?fault, fun a g v s ht => ?write, fun g s hseq hleft => ?expire, fun g s hseq hover => ?done⟩
  case scan =>
    obtain ⟨hraw, hlatched, hstagger, hstep⟩ := s.begin.scanCages_effect inputs
    have hrun := exec_cmbScanFrame_scans inputs h0 hleft hdue hedge
    generalize s.begin.scanCages inputs = v at *
    have hcmb : v.cmb = s.cmb := (congrArg State.cmb hstep.1 :)
    have houts : (List.range s.nCage).map (fun g => (v.cage g).latched) = (List.range s.nCage).map (fun g => (s.cage g).shifted) :=
      List.map_congr_left fun g hg => hlatched g (List.mem_range.1 hg)
    rw [houts] at hrun
    have h128 : s.nCage ≤ 128 := Nat.min_le_left _ _
    refine ⟨_, hrun, List.mem_append_right _ (List.mem_singleton_self _), fun g hg => ⟨hlatched g hg, ?_⟩, fun g hg hg' => ?_, hstagger,
      congrArg (·.scans + 1) hcmb, rfl, rfl, State.fld_setFld_self _ F.CAGE_CMB_STS_RUN 0 1 (by decide), ?_⟩
    · exact (hraw g (by omega)).trans (if_pos hg)
    · exact (hraw g hg').trans (if_neg (Nat.not_lt.2 hg))
    · exact ((((hstep.begin.mono fun _ _ => .inr).trans (.of_onlyReports (OnlyReports.emit v _))).setFld
        (f := F.CAGE_CMB_STS_RUN) 1 (.inl rfl)).with_cmb _)
  case presence =>
    intro here
    obtain ⟨hpds, hpdc, hlp, hon, hoff, hstep⟩ := s.begin.acceptPresence_effect g.val
    exact ⟨_, congrArg Host.Outcome.next (if_pos hrun), hpds, hpdc, hlp, hon, hoff, hstep.begin⟩
  case button =>
    let pressed := s.begin.setCage g.val { s.begin.cage g.val with btnRun := 0, btn := !(s.begin.cage g.val).btn }
    let noted := pressed.cageEvent g.val F.CAGE_STS_ABP F.CAGE_CTL_ABP_EN
    have hnoted : CageStep (CageRegs g.val) s noted :=
      (((CageStep.of_onlyReports (OnlyReports.refl _ s.begin)).setCage g.val _).cageEvent (f := F.CAGE_STS_ABP) _ ⟨.inr rfl, rfl⟩).begin
    have hpress : s.begin.acceptButton g.val = noted.startWait g.val :=
      (if_pos hbtn).trans (State.pressButton_idle (s := pressed) hsplit hseq hpds)
    obtain ⟨habp, hwait, hind, hleft, hstep⟩ := noted.startWait_effect g.val
    refine ⟨_, congrArg Host.Outcome.next ((if_pos hrun).trans hpress), habp.trans ?_, hwait, hind, hleft.trans ?_, hnoted.trans hstep⟩
    · rw [State.fld_cageEvent _ _ _ _ (by decide)]
      exact State.fld_setFld_self _ F.CAGE_STS_ABP g.val 1 (by decide)
    · rw [hnoted.fld (f := F.CAGE_CMB_CFG2_BTN_WAIT) (by decide) fun e => absurd e.1 (by decide)]
  case fault =>
    obtain ⟨u, hu, hports, hrun'⟩ := State.acceptGood_fault (s := s.begin) (g := g.val) hrun
    obtain ⟨hpfd, hpwr, hind, hbind, hstep⟩ := u.cagePowerFault_effect g.val
    refine ⟨_, congrArg Host.Outcome.next hrun', hpfd, hpwr, hind, fun p hp hup => hbind p ?_ ?_, hu.begin.trans_ports hstep⟩
    · rw [hu.cagePorts]
      exact hp
    · rw [hu.portState]
      exact hup
  case write =>
    intro old new
    have htouch (r : Reg) (i : Nat) : (s.begin.touch a (Reg.key .CAGE_CTL g.val)).reg r i = s.reg r i := touch_reg s.begin _ _ r i
    have htouchf (f : Fld) (i : Nat) : (s.begin.touch a (Reg.key .CAGE_CTL g.val)).fld f i = s.fld f i := touch_fld s.begin _ _ f i
    have honly : CageWrites (CageRegs g.val) s (s.begin.touch a (Reg.key .CAGE_CTL g.val)) := .of_onlyRegs (OnlyRegs.begin_touch _ s a _)
    refine ⟨_, exec_cageCtlWrite ht v, ?_⟩
    generalize s.begin.touch a (Reg.key .CAGE_CTL g.val) = u at htouch htouchf honly
    by_cases hseq : s.fld F.CAGE_STS_SEQ g.val = 2
    · obtain ⟨hkept, hheld, hstep⟩ := State.writeCageCtl_held ((htouchf _ _).trans hseq) (v.setWidth 64)
      rw [htouch] at hkept hheld
      exact ⟨fun h => absurd hseq h, fun _ => ⟨hkept, hheld⟩, fun h => absurd (hseq.symm.trans h) (by decide), honly.trans hstep⟩
    · obtain ⟨hreg, hwait, hstep⟩ := State.writeCageCtl_stored (fun h => hseq ((htouchf _ _).symm.trans h)) (v.setWidth 64)
      rw [htouch] at hreg
      rw [htouchf] at hwait
      exact ⟨fun _ => hreg, fun h => absurd h hseq, hwait, honly.trans hstep⟩
  case expire =>
    have hrun : exec (.btnWaitExpire g) s = .next (if (s.cage g.val).wasOn then
        ((s.begin.setCage g.val { s.begin.cage g.val with flushing := s.begin.cagePorts g.val, held := (none, none) }).cageSeq
          g.val 2).each (s.begin.cagePorts g.val) (fun t p => t.requestBindoff p)
        else (s.begin.cagePower g.val 0 1).cageSeq g.val 0) := congrArg Host.Outcome.next (if_pos ⟨hseq, hleft⟩)
    cases hon : (s.cage g.val).wasOn with
    | true =>
      rw [hon, if_pos rfl] at hrun
      obtain ⟨hbind, hports, hstep⟩ := s.begin.btnBindoff_effect g.val
      exact ⟨_, hrun, fun _ => ⟨hbind, hports⟩, fun h => absurd h (by decide), (OnlyRegs.begin _ s).trans hstep⟩
    | false =>
      rw [hon, if_neg (by decide)] at hrun
      obtain ⟨hidle, hpwr, hind, hstep⟩ := s.begin.btnPower_effect g.val
      refine ⟨_, hrun, fun h => absurd h (by decide), fun _ => ⟨hidle, hpwr, hind⟩, ?_⟩
      exact (OnlyRegs.begin _ s).trans (hstep.withPorts (u := (s.begin.cagePower g.val 0 1).cageSeq g.val 0) rfl)
  case done =>
    obtain ⟨hidle, hpwr, hind, hlp, hstep⟩ := s.begin.cageFinal_effect g.val
    exact ⟨_, congrArg Host.Outcome.next (if_pos ⟨hseq, hover⟩), hidle, hpwr, hind, hlp, (OnlyRegs.begin _ s).trans hstep⟩

end Sys2Proof.Machine
end

section
/-! PROOFS. The link state machine and bind-off (R58, R70, R71, R72, R248). -/

namespace Sys2Proof.Machine

/-! ### The registers that a port's end of transmission and its flush write -/

/-- The registers that a port's way into bind-off writes beside those of reports. -/
def bindoffRegs : List Reg :=
  [.MAC_PORT_STS, .BPM_CNT, .SKN_CNT, .MAC_CNT, .YRN_CNT, .MSC_SA_PN, .MSC_SA_STS, .MSC_SECY_CNT, .GGE_CNT, .GGE_OVF, .GGE_FRZ]

/-- From `z` to `t` registers change only as reports and a port's way into bind-off have it. -/
def BindoffRegs (z t : State) : Prop := RegsBut (fun r _ => r ∈ reportRegs ∨ r ∈ bindoffRegs) z t

namespace BindoffRegs
variable {z s t : State}

theorem refl (z : State) : BindoffRegs z z := RegsBut.refl _ z

theorem upd (h : BindoffRegs z s) (hr : t.regs = s.regs) : BindoffRegs z t := RegsBut.trans h (RegsBut.of_regs hr)

theorem reports (h : BindoffRegs z s) {p : Reg → Nat → Prop} (k : OnlyReports p s t) (hp : ∀ r i, p r i → r ∈ bindoffRegs) :
    BindoffRegs z t := RegsBut.trans h (k.2.mono fun r i e => e.imp_right (hp r i))

theorem setReg (h : BindoffRegs z s) {r : Reg} {i : Nat} {v : BitVec 64} (hr : r ∈ bindoffRegs) : BindoffRegs z (s.setReg r i v) :=
  RegsBut.trans h (RegsBut.setReg s v (.inr hr))

theorem setFld (h : BindoffRegs z s) {f : Fld} {i v : Nat} (hr : f.reg ∈ bindoffRegs) : BindoffRegs z (s.setFld f i v) := h.setReg hr

theorem bump (h : BindoffRegs z s) {r : Reg} {i n : Nat} (hr : r ∈ bindoffRegs) : BindoffRegs z (s.bump r i n) :=
  h.reports (p := fun q _ => q = r) (OnlyReports.bump s n (.inr rfl)) fun _ _ e => e ▸ hr

theorem fault (h : BindoffRegs z s) {k src inst info : Nat} : BindoffRegs z (s.fault k src inst info) :=
  h.reports (OnlyReports.fault (fun _ _ => False) s k src inst info) fun _ _ => False.elim

theorem notify (h : BindoffRegs z s) {k die a b : Nat} {body : Bytes} : BindoffRegs z (s.notify k die a b body) :=
  h.reports (OnlyReports.notify (fun _ _ => False) s k die a b body) fun _ _ => False.elim

theorem gauge! (h : BindoffRegs z s) {b code v : Nat} {q : Option Nat} : BindoffRegs z (s.gauge! b code v q) := by
  have hg : Gauged s (s.gauge! b code v q) := (Gauged.refl s).gauge!
  exact h.reports hg.reports fun r _ hr => by
    simp only [gaugeRegs, List.mem_cons, List.not_mem_nil, or_false] at hr
    rcases hr with rfl | rfl | rfl <;> decide

theorem ite {p : Prop} [Decidable p] {a b : State} (ha : BindoffRegs z a) (hb : BindoffRegs z b) : BindoffRegs z (if p then a else b) := by
  split
  · exact ha
  · exact hb

theorem each (h : BindoffRegs z s) (l : List Nat) {f : State → Nat → State} (hf : ∀ u a, BindoffRegs z u → BindoffRegs z (f u a)) :
    BindoffRegs z (s.each l f) := State.each_induction l h hf

/-! Copies, queues and buffers. -/

theorem setBuf (h : BindoffRegs z s) {d : Nat} {b : BufSt} : BindoffRegs z (s.setBuf d b) := h.upd rfl
theorem setCopy (h : BindoffRegs z s) {k : Nat} {c : Option Copy} : BindoffRegs z (s.setCopy k c) := h.upd rfl
theorem setQueue (h : BindoffRegs z s) {k : Nat} {q : QSt} : BindoffRegs z (s.setQueue k q) := h.upd rfl
theorem setPort (h : BindoffRegs z s) {p : Nat} {v : PortSt} : BindoffRegs z (s.setPort p v) := h.upd rfl

theorem sknCount (h : BindoffRegs z s) {d i n : Nat} : BindoffRegs z (s.sknCount d i n) := h.bump (by decide)
theorem macCount (h : BindoffRegs z s) {p i n : Nat} : BindoffRegs z (s.macCount p i n) := h.bump (by decide)

theorem fixGroup (h : BindoffRegs z s) {p tc : Nat} : BindoffRegs z (s.fixGroup p tc) := by
  have hx (l : List Nat) : BindoffRegs z { s with xoff := l } := h.upd rfl
  have hon (l : List Nat) : BindoffRegs z ({ s with xoff := l }.bpmCount (p / 64) 5 1) := (hx l).bump (by decide)
  unfold State.fixGroup
  exact ite (ite (ite (hx _).setPort h) (ite (hon _).setPort h)) (hx _)

theorem groupMove (h : BindoffRegs z s) {g : Option (Nat × Nat)} {n : Int} : BindoffRegs z (s.groupMove g n) := by
  unfold State.groupMove
  split
  · exact h
  · refine fixGroup ?_
    exact h.upd rfl

theorem account (h : BindoffRegs z s) {x : Copy} {dn dh ds : Int} : BindoffRegs z (s.account x dn dh ds) := by
  unfold State.account
  dsimp only
  split
  · exact h.setQueue.setBuf
  · exact h.setQueue.setBuf
  · exact h.setQueue

theorem spillStart (h : BindoffRegs z s) {k : Nat} : BindoffRegs z (s.spillStart k) := by
  unfold State.spillStart
  refine ite h ?_
  split
  · exact h.setQueue.sknCount
  · exact h.sknCount.fault

theorem linkTo (h : BindoffRegs z s) {k : Nat} {ids : List Nat} : BindoffRegs z (s.linkTo k ids) := by
  have h1 := h.each ids (f := fun t id => match t.copy id with
    | some c => t.setCopy id (some { c with linked := true })
    | none => t) fun u a hu => by
      split
      · exact hu.setCopy
      · exact hu
  exact h1.setQueue.sknCount.spillStart

theorem leaveStaging (h : BindoffRegs z s) {k : Nat} : BindoffRegs z (s.leaveStaging k) := by
  unfold State.leaveStaging
  split
  · exact h.upd rfl
  · exact h

theorem release (h : BindoffRegs z s) {id : Nat} {x : Copy} : BindoffRegs z (s.release id x) := by
  unfold State.release
  extract_lets s1 q s2 s3 s4
  have h3 : BindoffRegs z s3 := h.account.groupMove.setQueue.setBuf.setCopy
  have h4 : BindoffRegs z s4 := ite h3.setQueue.linkTo h3
  split
  · exact h4.leaveStaging
  · exact h4

theorem flushCopies (h : BindoffRegs z s) {d : Nat} {ids : List Nat} : BindoffRegs z (s.flushCopies d ids) :=
  h.each ids fun _ _ hu => by
    split
    · exact hu.sknCount.release
    · exact hu

theorem flushQueue (h : BindoffRegs z s) {k : Nat} : BindoffRegs z (s.flushQueue k) := by
  unfold State.flushQueue
  extract_lets d q s1 q1
  have h1 : BindoffRegs z s1 := h.flushCopies
  split
  · exact h1.setQueue
  · extract_lets waiting p1 s2 b s3
    have h3 : BindoffRegs z s3 := ite h1.sknCount h1.sknCount.setBuf
    exact h3.setQueue

theorem flushPort (h : BindoffRegs z s) {p : Nat} : BindoffRegs z (s.flushPort p) := by
  unfold State.flushPort
  extract_lets s1 s2
  have h2 : BindoffRegs z s2 := h.flushCopies.upd rfl
  exact h2.each _ fun _ _ hu => hu.flushQueue

/-! A frame in transmission. -/

theorem usePn (h : BindoffRegs z s) {p i : Nat} : BindoffRegs z (s.usePn p i) := by
  unfold State.usePn
  extract_lets x pn warn s1 s2
  have h1 : BindoffRegs z s1 := h.setReg (by decide)
  have h2 : BindoffRegs z s2 := ite (h1.setFld (by decide)) h1
  exact ite (h2.setFld (by decide)).fault h2

theorem secySend (h : BindoffRegs z s) {p : Nat} {b : Bytes} : BindoffRegs z (s.secySend p b).2 := by
  have hcount (i : Nat) : BindoffRegs z (s.secyCount p i) := h.bump (by decide)
  unfold State.secySend
  split
  · exact h
  · split
    · exact hcount 1
    · split
      · exact hcount 1
      · exact h.usePn.bump (by decide)

theorem macStomp (h : BindoffRegs z s) {p : Nat} {b : Bytes} : BindoffRegs z (s.macStomp p b) :=
  (h.upd (t := s.emit _) rfl).macCount

theorem macSent (h : BindoffRegs z s) {p : Nat} {b : Bytes} : BindoffRegs z (s.macSent p b) := by
  unfold State.macSent
  extract_lets f s1
  have h1 : BindoffRegs z s1 := (h.upd (t := s.emit _) rfl).macCount.macCount
  exact ite h1 h1.gauge!

theorem sendCopy (h : BindoffRegs z s) {p : Nat} {x : Copy} {n : Nat} {stomp : Bool} : BindoffRegs z (s.sendCopy p x n stomp) := by
  unfold State.sendCopy
  extract_lets now b r
  have hr : BindoffRegs z r.2 := by
    unfold r
    split
    · exact h
    · exact h.secySend
  clear_value r
  split
  · exact hr
  · extract_lets y t u
    have ht : BindoffRegs z t := ite hr.macStomp hr.macSent
    have hu : BindoffRegs z u := ite (ht.bump (by decide)) ht
    exact ite hu.notify hu

theorem endTransmission (h : BindoffRegs z s) {p : Nat} : BindoffRegs z (s.endTransmission p) := by
  unfold State.endTransmission
  refine ite ?_ h
  split
  · exact h
  · split
    · exact h
    · have h1 : BindoffRegs z s.drawn.drawn := h.upd rfl
      exact ite h1.sendCopy h1

theorem enterState (h : BindoffRegs z s) {p st : Nat} : BindoffRegs z (s.enterState p st) :=
  (h.setFld (f := F.MAC_PORT_STS_STATE) (by decide)).setPort

theorem enterBindoff (h : BindoffRegs z s) {p : Nat} {marked : Bool} : BindoffRegs z (s.enterBindoff p marked) := by
  have h1 : BindoffRegs z (((s.endTransmission p).setFld F.MAC_PORT_STS_STATE p 3).setFld F.MAC_PORT_STS_HOLD_LEFT p
      (s.fld F.MAC_PORT_LINK_PRT_HOLDDOWN p)) := (h.endTransmission.setFld (by decide)).setFld (by decide)
  exact ite (h1.setPort.flushPort.upd rfl) h1.setPort.flushPort

end BindoffRegs

/-! ### Moves of the link state machine -/

/-- A port's status as it enters bind-off: its state and hold count are set, and neither the end of a frame nor the flush writes
another field of it. -/
theorem State.reg_enterBindoff (s : State) (p : Nat) (marked : Bool) : (s.enterBindoff p marked).reg .MAC_PORT_STS p =
    ((s.setFld F.MAC_PORT_STS_STATE p 3).setFld F.MAC_PORT_STS_HOLD_LEFT p (s.fld F.MAC_PORT_LINK_PRT_HOLDDOWN p)).reg .MAC_PORT_STS p := by
  have hleaves : Scope.full.leaves .MAC_PORT_STS p := .inr (.inr (.inr (.inl ⟨rfl, rfl⟩)))
  have hend : (s.endTransmission p).reg .MAC_PORT_STS p = s.reg .MAC_PORT_STS p :=
    (Steady.refl Scope.full s).endTransmission.regs _ _ hleaves
  have hflush (u : State) : ((u.flushPort p).bindoffFlush p).reg .MAC_PORT_STS p = u.reg .MAC_PORT_STS p :=
    (Steady.refl Scope.full u).flushPort.bindoffFlush.regs _ _ hleaves
  have hport (u : State) (v : PortSt) : (u.setPort p v).reg .MAC_PORT_STS p = u.reg .MAC_PORT_STS p := rfl
  unfold State.enterBindoff
  dsimp only
  rw [hflush, hport]
  generalize s.endTransmission p = e at hend
  rw [State.reg_setFld, State.reg_setFld, if_pos ⟨rfl, rfl⟩, if_pos ⟨rfl, rfl⟩, State.reg_setFld, State.reg_setFld,
    if_pos ⟨rfl, rfl⟩, if_pos ⟨rfl, rfl⟩]
  exact congrArg (fun v => putField (putField v _ _ 3) _ _ _) hend

theorem State.fld_setPort (s : State) (p : Nat) (v : PortSt) (f : Fld) (i : Nat) : (s.setPort p v).fld f i = s.fld f i := rfl

theorem State.fld_enterState (s : State) (p st : Nat) (f : Fld) (i : Nat) :
    (s.enterState p st).fld f i = (s.setFld F.MAC_PORT_STS_STATE p st).fld f i := by
  unfold State.enterState
  dsimp only
  rw [State.fld_setPort]

theorem State.portState_enterState (s : State) (p : Nat) {st : Nat} (h : st < 8) : (s.enterState p st).portState p = st := by
  rw [State.portState, State.fld_enterState, State.fld_setFld_self _ _ _ _ (by decide)]
  exact Nat.mod_eq_of_lt h

theorem OnlyRegs.setFld_with_ports {q} {s t : State} {l : SMap PortSt} (h : OnlyRegs q s { t with ports := l }) {f : Fld} {i : Nat} (v : Nat)
    (hq : q f.reg i) : OnlyRegs q s { t.setFld f i v with ports := l } := h.trans (OnlyRegs.setFld { t with ports := l } v hq)

/-- A port's own state changes beside registers. -/
theorem OnlyRegs.setPort {q} {s t : State} (h : OnlyRegs q s t) (p : Nat) (v : PortSt) :
    OnlyRegs q s { t.setPort p v with ports := s.ports } :=
  ⟨(congrArg (fun x : State => { x with ports := s.ports }) h.1 :), h.2⟩

theorem State.port_setPort_ne (s : State) {p q : Nat} (h : q ≠ p) (v : PortSt) : (s.setPort p v).port q = s.port q := by
  rw [State.port_setPort, if_neg (Ne.symm h)]

theorem State.port_setFld (s : State) (f : Fld) (i v p : Nat) : (s.setFld f i v).port p = s.port p := rfl

/-- A port goes to a state other than BINDOFF: only the port's own state changes. -/
theorem State.enterState_effect (s : State) (p st : Nat) :
    (∀ q, q ≠ p → (s.enterState p st).port q = s.port q) ∧
      OnlyRegs (fun r i => r = .MAC_PORT_STS ∧ i = p) s { s.enterState p st with ports := s.ports } := by
  unfold State.enterState
  dsimp only
  refine ⟨fun q hq => (State.port_setPort_ne _ hq _).trans (State.port_setFld ..), ?_⟩
  exact (OnlyRegs.setFld s (f := F.MAC_PORT_STS_STATE) st ⟨rfl, rfl⟩).setPort p _

theorem State.tabs_setPort (s : State) (p : Nat) (v : PortSt) : (s.setPort p v).tabs = s.tabs := rfl

theorem State.tabs_setFld (s : State) (f : Fld) (i v : Nat) : (s.setFld f i v).tabs = s.tabs := rfl

/-- A debounced link fault: reported, and the port goes to BINDOFF, or while LINKFLUSH is 1 to HELD (R71). -/
theorem State.linkFault_effect (s : State) (p : Nat) :
    let u := (s.setFld F.MAC_PORT_STS_LINK_DOWN p 1).fault 20 0 p
    let t := if u.split 8 then u.enterState p 4 else u.enterBindoff p false
    t.fld F.MAC_PORT_STS_LINK_DOWN p = 1 ∧ t.portState p = (if s.split 8 then 4 else 3) ∧
      (s.split 8 = false → t.fld F.MAC_PORT_STS_HOLD_LEFT p = s.fld F.MAC_PORT_LINK_PRT_HOLDDOWN p) ∧ BindoffRegs s t ∧ t.tabs = s.tabs := by
  intro u t
  have hfault := OnlyReports.fault (fun _ _ => False) (s.setFld F.MAC_PORT_STS_LINK_DOWN p 1) 20 0 p 0
  have hregs : BindoffRegs s u := ((BindoffRegs.refl s).setFld (f := F.MAC_PORT_STS_LINK_DOWN) (by decide)).fault
  have hdown : u.fld F.MAC_PORT_STS_LINK_DOWN p = 1 :=
    (hfault.fld (by decide) id).trans (State.fld_setFld_self s F.MAC_PORT_STS_LINK_DOWN p 1 (by decide))
  have hhold : u.fld F.MAC_PORT_LINK_PRT_HOLDDOWN p = s.fld F.MAC_PORT_LINK_PRT_HOLDDOWN p :=
    (hfault.fld (by decide) id).trans (State.fld_setFld_ne _ _ _ _ _ _ (.inl (by decide)))
  have hsplit : u.split 8 = s.split 8 := by
    unfold State.split
    rw [hfault.fld (f := F.GLB_SPLIT_EFF_ALL) (by decide) id, State.fld_setFld_ne _ _ _ _ _ _ (.inl (by decide))]
  have htabs : u.tabs = s.tabs := (congrArg State.tabs hfault.1 :)
  have ht : t = if s.split 8 then u.enterState p 4 else u.enterBindoff p false := by rw [← hsplit]
  clear_value t u
  cases hs : s.split 8 with
  | true =>
    rw [hs, if_pos rfl] at ht
    subst ht
    refine ⟨?_, u.portState_enterState p (by decide), fun h => absurd h (by decide), hregs.enterState, htabs⟩
    rw [State.fld_enterState, State.fld_setFld_apart u (by decide), hdown]
  | false =>
    rw [hs, if_neg (by decide)] at ht
    subst ht
    have hsts (f : Fld) (hf : f.reg = .MAC_PORT_STS) : (u.enterBindoff p false).fld f p = ((u.setFld F.MAC_PORT_STS_STATE p 3).setFld
        F.MAC_PORT_STS_HOLD_LEFT p (u.fld F.MAC_PORT_LINK_PRT_HOLDDOWN p)).fld f p := by
      rw [State.fld, State.fld, hf, State.reg_enterBindoff]
    refine ⟨?_, ?_, fun _ => ?_, hregs.enterBindoff, ?_⟩
    · rw [hsts _ rfl, State.fld_setFld_apart _ (by decide), State.fld_setFld_apart _ (by decide), hdown]
    · rw [State.portState, hsts _ rfl, State.fld_setFld_apart _ (by decide)]
      exact State.fld_setFld_self u F.MAC_PORT_STS_STATE p 3 (by decide)
    · rw [hsts _ rfl, State.fld_setFld_self _ _ _ _ (by decide), hhold]
      exact Nat.mod_eq_of_lt (State.fld_lt s F.MAC_PORT_LINK_PRT_HOLDDOWN p)
    · have hend : (u.endTransmission p).tabs = u.tabs := (Steady.refl Scope.full u).endTransmission.tabs rfl
      have hflush (w : State) : ((w.flushPort p).bindoffFlush p).tabs = w.tabs := (Steady.refl Scope.full w).flushPort.bindoffFlush.tabs rfl
      unfold State.enterBindoff
      dsimp only
      rw [hflush, State.tabs_setPort, State.tabs_setFld, State.tabs_setFld, hend, htabs]

/-- The live bits of a port's link are shown, with the port's own state (R70). -/
def State.showLink (s : State) (p : Nat) (q : PortSt) (ok lfault rfault : Bool) : State :=
  (((s.setPort p q).setFld F.MAC_PORT_STS_LINK_OK p (boolNat ok)).setFld F.MAC_PORT_STS_LFAULT p
    (boolNat lfault)).setFld F.MAC_PORT_STS_RFAULT p (boolNat rfault)

theorem State.showLink_effect (s : State) (p : Nat) (q : PortSt) (ok lfault rfault : Bool) :
    let t := s.showLink p q ok lfault rfault
    t.fld F.MAC_PORT_STS_LINK_OK p = boolNat ok ∧ t.fld F.MAC_PORT_STS_LFAULT p = boolNat lfault ∧
      t.fld F.MAC_PORT_STS_RFAULT p = boolNat rfault ∧ t.port p = q ∧ t.portState p = s.portState p ∧
      (∀ k, k ≠ p → t.port k = s.port k) ∧ OnlyRegs (fun r i => r = .MAC_PORT_STS ∧ i = p) s { t with ports := s.ports } := by
  have hset (u : State) {f : Fld} (hw : f.width = 1) (hl : f.lsb < 64) (b : Bool) : (u.setFld f p (boolNat b)).fld f p = boolNat b :=
    (State.fld_setFld_bit u p _ hw hl).trans (by cases b <;> rfl)
  unfold State.showLink
  refine ⟨?_, ?_, hset _ rfl (by decide) _, ?_, ?_, fun k hk => ?_, ?_⟩
  · rw [State.fld_setFld_apart _ (by decide), State.fld_setFld_apart _ (by decide), hset _ rfl (by decide)]
  · rw [State.fld_setFld_apart _ (by decide), hset _ rfl (by decide)]
  · rw [State.port_setFld, State.port_setFld, State.port_setFld, State.port_setPort, if_pos rfl]
  · rw [State.portState, State.fld_setFld_apart _ (by decide), State.fld_setFld_apart _ (by decide),
      State.fld_setFld_apart _ (by decide), State.fld_setPort]
    rfl
  · rw [State.port_setFld, State.port_setFld, State.port_setFld, State.port_setPort_ne _ hk]
  · exact ((((OnlyRegs.refl _ s).setPort p q).setFld_with_ports (f := F.MAC_PORT_STS_LINK_OK) _ ⟨rfl, rfl⟩).setFld_with_ports
      (f := F.MAC_PORT_STS_LFAULT) _ ⟨rfl, rfl⟩).setFld_with_ports (f := F.MAC_PORT_STS_RFAULT) _ ⟨rfl, rfl⟩

/-- Settles O17: a debounced link fault by `State.linkFault_effect`, every other command by the fields it writes. -/
theorem linkStateMachine : Obligations.LinkStateMachine := by
  refine ⟨fun p aligned fecOk lfault rfault s => ?change, fun l s hen => ?training, fun p s hedge hst hen hdeb => ?up,
    fun p s hedge hst hen hdeb => ?fault, fun a p v s ht hv => ?cmd, fun p s hfl hempty hsel => ?flushed,
    fun p s hedge hst hmark hfin hhold => ?hold⟩
  case change =>
    intro bad
    let q : PortSt := { s.port p.val with
      aligned := aligned, fecOk := fecOk, lfault := lfault, rfault := rfault, faultSeen := (s.port p.val).faultSeen || bad }
    obtain ⟨hok, hl, hr, hport, hstate, hother, honly⟩ := s.begin.showLink_effect p.val q (!bad) lfault rfault
    exact ⟨s.begin.showLink p.val q (!bad) lfault rfault, rfl, hok, hl, hr, congrArg PortSt.faultSeen hport, hstate, hother,
      (OnlyRegs.begin _ s).trans honly⟩
  case training =>
    have hbit : s.begin.bit F.SDS_LANE_CFG_LT_EN l.val = true := (s.begin.bit_eq_true_iff _ _).2 hen
    exact ⟨_, congrArg Host.Outcome.next (if_pos hbit), State.fld_setFld_self _ F.SDS_LANE_STS_LT_DONE l.val 1 (by decide),
      (OnlyRegs.begin _ s).trans (OnlyRegs.setFld _ (f := F.SDS_LANE_STS_LT_DONE) 1 ⟨rfl, rfl⟩)⟩
  case up =>
    obtain ⟨hports, honly⟩ := s.begin.enterState_effect p.val 2
    exact ⟨_, congrArg Host.Outcome.next (if_pos ⟨hedge, hst, hen, hdeb⟩), s.begin.portState_enterState p.val (by decide), hports,
      (OnlyRegs.begin _ s).trans honly⟩
  case fault =>
    obtain ⟨hdown, hstate, hleft, hregs, htabs⟩ := s.begin.linkFault_effect p.val
    refine ⟨_, ?_, hdown, hstate, hleft, hregs, htabs⟩
    show execLinkFaultDebounced p s = _
    unfold execLinkFaultDebounced
    dsimp only
    rw [if_pos ⟨hedge, hst, hen, hdeb⟩]
  case cmd =>
    have htouch : OnlyRegs (fun _ _ => False) s (s.begin.touch a (Reg.key .MAC_PORT_CMD p.val)) := OnlyRegs.begin_touch _ s a _
    have hrun : exec (.bindoffCmd a p v) s = .next ((s.begin.touch a (Reg.key .MAC_PORT_CMD p.val)).requestBindoff p.val) :=
      (congrArg Host.Outcome.next (writeBy_takes ht _)).trans (congrArg Host.Outcome.next (if_pos ((wbit_low32 v (by decide)).trans hv)))
    refine ⟨_, hrun, ?_⟩
    generalize s.begin.touch a (Reg.key .MAC_PORT_CMD p.val) = u at htouch
    have hstate : u.portState p.val = s.portState p.val := htouch.fld id
    have hport (k : Nat) : u.port k = s.port k := by
      have hports : u.ports = s.ports := (congrArg State.ports htouch.1 :)
      rw [State.port, State.port, hports]
    unfold State.requestBindoff
    rw [hstate]
    split
    next hup =>
      refine ⟨?_, fun q hq => (u.port_setPort_ne hq _).trans (hport q), htouch.setPort _ _⟩
      rw [State.port_setPort, if_pos rfl]
      exact iff_of_true rfl (.inr hup)
    next hdown =>
      refine ⟨?_, fun q _ => hport q, ?_⟩
      · rw [hport, or_iff_left hdown]
      · exact ⟨(congrArg (fun x : State => { x with ports := s.ports }) htouch.1 :), htouch.2⟩
  case flushed =>
    have hrun : exec (.bindoffFlushComplete p) s = .next (s.begin.setPort p.val { s.begin.port p.val with flushing := false, flushed := true }) := by
      have hcond : ((s.begin.port p.val).flushing && s.begin.flushEmpty p.val && (s.begin.selectedOf p.val).isEmpty) = true := by
        have hfl' : (s.begin.port p.val).flushing = true := hfl
        have hempty' : s.begin.flushEmpty p.val = true := hempty
        have hsel' : s.begin.selectedOf p.val = [] := hsel
        rw [hfl', hempty', hsel']
        rfl
      exact congrArg Host.Outcome.next (if_pos hcond)
    have hself (v : PortSt) : (s.begin.setPort p.val v).port p.val = v := (State.port_setPort ..).trans (if_pos rfl)
    refine ⟨_, hrun, by rw [hself], by rw [hself], fun q hq => s.begin.port_setPort_ne hq _, (OnlyRegs.begin _ s).setPort _ _⟩
  case hold =>
    obtain ⟨hports, honly⟩ := s.begin.enterState_effect p.val (if (s.port p.val).okRun ≠ 0 then 2 else 1)
    refine ⟨_, congrArg Host.Outcome.next (if_pos ⟨hedge, hst, hmark, hfin, hhold⟩), ?_, hports, (OnlyRegs.begin _ s).trans honly⟩
    rw [State.portState_enterState _ _ (by split <;> decide), ite_not]
    rfl

end Sys2Proof.Machine
end

section
/-! PROOFS. Admission of copies, the crossbar, and linking (R73, R232 to R237, R250, R254, R255). -/

namespace Sys2Proof.Machine

/-! ### A matching with one offered cell (R255, R256) -/

/-- Every input may send a cell, and one cell is offered: by FIFO `f` of input `i`, for bank group `g`. -/
structure XState.Offered (x : XState) (i f id g : Nat) : Prop where
  cap : x.cap.getD i 0 ≠ 0
  offers : x.offers = [(i * 16 + f, [(id, g)])]
  taken : x.taken = []
  placed : x.placed = []
  won : x.won = []

/-- The one offered cell is placed. -/
structure XState.Placed (x : XState) (i f id g : Nat) : Prop where
  offers : x.offers = [(i * 16 + f, [])]
  placed : x.placed = [(i, id, g)]
  won : x.won = [i]

/-- A rotation of `n` numbers reaches each of them. -/
theorem mem_rotation {n a : Nat} (b : Nat) (ha : a < n) : a ∈ (List.range n).map (fun k => (b + k) % n) := by
  refine List.mem_map.2 ⟨(a + (n - b % n)) % n, List.mem_range.2 (Nat.mod_lt _ (by omega)), ?_⟩
  have hb : b % n < n := Nat.mod_lt _ (by omega)
  rw [Nat.add_mod, Nat.mod_mod, ← Nat.add_mod, ← Nat.add_assoc, Nat.add_comm b a, Nat.add_assoc]
  have hsum : b + (n - b % n) = (b / n + 1) * n := by
    have := Nat.div_add_mod b n
    rw [Nat.add_mul, Nat.one_mul, Nat.mul_comm (b / n)]
    omega
  rw [hsum, Nat.add_mul_mod_self_right, Nat.mod_eq_of_lt ha]

/-- A search finds the only number that meets its condition. -/
theorem find?_eq_some_of_unique {l : List Nat} {p : Nat → Bool} {a : Nat} (ha : a ∈ l) (hp : p a = true)
    (honly : ∀ b, p b = true → b = a) : l.find? p = some a := by
  obtain ⟨b, hb⟩ := Option.isSome_iff_exists.1 (List.find?_isSome.2 ⟨a, ha, hp⟩)
  rw [hb, honly b (List.find?_some hb)]

namespace XState
variable {x : XState} {i f id g : Nat}

theorem Offered.of_eq (h : x.Offered i f id g) (hf : f < 16) (j : Nat) : x.of j = if j = i then x.offers else [] := by
  have hdiv : (i * 16 + f) / 16 = i := by omega
  unfold XState.of
  rw [h.offers, List.filter_singleton, hdiv]
  by_cases hj : j = i
  · rw [hj, beq_self_eq_true, if_pos rfl]
    rfl
  · rw [if_neg hj, beq_eq_false_iff_ne.2 (Ne.symm hj)]
    rfl

theorem Offered.requests_iff (h : x.Offered i f id g) (hf : f < 16) (j y : Nat) : x.requests j y = true ↔ j = i ∧ g = y / 2 := by
  unfold XState.requests
  rw [h.of_eq hf j]
  by_cases hj : j = i
  · subst hj
    have hcap : (x.cap.getD j 0 != 0) = true := bne_iff_ne.2 h.cap
    simp only [hcap, h.offers, if_true, Bool.true_and, List.any_cons, List.any_nil, Bool.or_false, beq_iff_eq, true_and]
  · simp [hj]

/-- The two outputs of the cell's bank group grant its input, and no other output grants. -/
theorem Offered.granted_eq (h : x.Offered i f id g) (hi : i < 15) (hf : f < 16) (y : Nat) :
    x.granted y = if g = y / 2 then some i else none := by
  unfold XState.granted
  rw [h.taken, List.contains_nil, if_neg Bool.false_ne_true]
  split
  next hg =>
    exact find?_eq_some_of_unique (mem_rotation _ hi) ((h.requests_iff hf i y).2 ⟨rfl, hg⟩) fun j hj => ((h.requests_iff hf j y).1 hj).1
  next hg => exact List.find?_eq_none.2 fun j _ hj => hg ((h.requests_iff hf j y).1 hj).2

theorem Offered.candidate_eq (h : x.Offered i f id g) (hf : f < 16) {y : Nat} (hy : g = y / 2) : x.candidate i y = some f := by
  have hmod : (i * 16 + f) % 16 = f := by omega
  have hiff (e : Nat) : (x.of i).any (fun o => o.1 % 16 == e && (o.2.head?.map (fun c => c.2)) == some (y / 2)) = true ↔ e = f := by
    rw [h.of_eq hf i, if_pos rfl, h.offers, List.any_cons, List.any_nil, Bool.or_false, hmod, Bool.and_eq_true, beq_iff_eq]
    exact ⟨fun e => e.1.symm, fun e => ⟨e.symm, by rw [hy]; exact beq_self_eq_true _⟩⟩
  exact find?_eq_some_of_unique (mem_rotation _ hf) ((hiff f).2 rfl) fun e he => (hiff e).1 he

/-- A grant of an output of the cell's bank group is accepted, and places it. -/
theorem Offered.tryAccept (h : x.Offered i f id g) (hf : f < 16) {y : Nat} (hy : g = y / 2) (first : Bool) :
    (x.tryAccept first i y).Placed i f id g := by
  have hmod : (i * 16 + f) % 16 = f := by omega
  have hfifo : (x.of i).find? (fun o => o.1 % 16 == f) = some (i * 16 + f, [(id, g)]) := by
    rw [h.of_eq hf i, if_pos rfl, h.offers]
    simp [hmod]
  unfold XState.tryAccept
  rw [if_neg h.cap, h.candidate_eq hf hy]
  dsimp only
  rw [hfifo]
  exact ⟨by simp [h.offers], by simp [h.placed], by simp [h.won]⟩

/-- Once the cell is placed, no grant changes anything. -/
theorem Placed.tryAccept (h : x.Placed i f id g) (first : Bool) (j y : Nat) : (x.tryAccept first j y).Placed i f id g := by
  have hnone : x.candidate j y = none := by
    refine List.find?_eq_none.2 fun e _ he => ?_
    obtain ⟨o, ho, hc⟩ := List.any_eq_true.1 he
    have hmem : o ∈ x.offers := List.mem_of_mem_filter ho
    rw [h.offers, List.mem_singleton] at hmem
    subst hmem
    simp at hc
  unfold XState.tryAccept
  split
  · exact h
  · rw [hnone]
    exact h

end XState

/-- A fold whose steps keep `P` or reach `Q`, and keep `Q`, has reached `Q` where one of them is sure to. -/
theorem foldl_reaches {α β : Type} {P Q : α → Prop} {step : α → β → α} {l : List β} {a : α} (ha : P a)
    (hkeep : ∀ a b, b ∈ l → P a → P (step a b) ∨ Q (step a b)) (hstay : ∀ a b, Q a → Q (step a b))
    (hhit : ∃ b ∈ l, ∀ a, P a → Q (step a b)) : Q (l.foldl step a) := by
  have hdone (l : List β) (a : α) (h : Q a) : Q (l.foldl step a) := List.foldlRecOn l step h fun a ha b _ => hstay a b ha
  induction l generalizing a with
  | nil =>
    obtain ⟨b, hb, -⟩ := hhit
    cases hb
  | cons b l ih =>
    rw [List.foldl_cons]
    obtain ⟨c, hc, hit⟩ := hhit
    rcases List.mem_cons.1 hc with rfl | hc
    · exact hdone l _ (hit a ha)
    · rcases hkeep a b (List.mem_cons_self ..) ha with h | h
      · exact ih h (fun a b hb => hkeep a b (List.mem_cons_of_mem _ hb)) ⟨c, hc, hit⟩
      · exact hdone l _ h

namespace XState
variable {x : XState} {i f id g : Nat}

/-- The first iteration places the cell: its input accepts one of the two outputs that grant it. -/
theorem Offered.iterate (h : x.Offered i f id g) (hi : i < 15) (hf : f < 16) (hg : g < 16) (first : Bool) :
    (x.iterate first).Placed i f id g := by
  have hgrants (j y : Nat) : ((List.range 32).filterMap (fun y => (x.granted y).map (fun i => (i, y)))).contains (j, y) = true ↔
      j = i ∧ g = y / 2 ∧ y < 32 := by
    rw [List.contains_iff_mem, List.mem_filterMap]
    constructor
    · rintro ⟨y', hy', hm⟩
      rw [h.granted_eq hi hf] at hm
      split at hm
      next hgy =>
        cases hm
        exact ⟨rfl, hgy, List.mem_range.1 hy'⟩
      next => cases hm
    · rintro ⟨rfl, hgy, hy⟩
      exact ⟨y, List.mem_range.2 hy, by rw [h.granted_eq hi hf, if_pos hgy]; rfl⟩
  unfold XState.iterate
  extract_lets grants
  have hstep (a : XState) (j y : Nat) (ha : a.Offered i f id g) : (if grants.contains (j, y) then a.tryAccept first j y else a).Offered i f id g ∨
      (if grants.contains (j, y) then a.tryAccept first j y else a).Placed i f id g := by
    split
    next hc =>
      obtain ⟨rfl, hgy, -⟩ := (hgrants j y).1 hc
      exact .inr (ha.tryAccept hf hgy first)
    next => exact .inl ha
  have hstay (a : XState) (j y : Nat) (ha : a.Placed i f id g) : (if grants.contains (j, y) then a.tryAccept first j y else a).Placed i f id g := by
    split
    · exact ha.tryAccept first j y
    · exact ha
  refine foldl_reaches (P := fun a : XState => a.Offered i f id g) (Q := fun a : XState => a.Placed i f id g) h
    (fun a j _ ha => ?_) (fun a j ha => ?_) ⟨i, List.mem_range.2 hi, fun a ha => ?_⟩
  · refine List.foldlRecOn (motive := fun b : XState => b.Offered i f id g ∨ b.Placed i f id g) _ _ (.inl ha) fun b hb y _ => ?_
    exact hb.elim (hstep b j y) fun hp => .inr (hstay b j y hp)
  · exact List.foldlRecOn (motive := fun b : XState => b.Placed i f id g) _ _ ha fun b hb y _ => hstay b j y hb
  · refine foldl_reaches (P := fun a : XState => a.Offered i f id g) (Q := fun a : XState => a.Placed i f id g) ha
      (fun b y _ hb => hstep b i y hb) (fun b y hb => hstay b i y hb) ⟨2 * g, ?_, fun b hb => ?_⟩
    · exact mem_rotation _ (by omega)
    · rw [if_pos ((hgrants i (2 * g)).2 ⟨rfl, by omega, by omega⟩)]
      exact hb.tryAccept hf (by omega) first

theorem Placed.iterate (h : x.Placed i f id g) (first : Bool) : (x.iterate first).Placed i f id g := by
  unfold XState.iterate
  refine List.foldlRecOn (motive := fun a : XState => a.Placed i f id g) _ _ h fun a ha j _ =>
    List.foldlRecOn (motive := fun a : XState => a.Placed i f id g) _ _ ha fun b hb y _ => ?_
  split
  · exact hb.tryAccept first j y
  · exact hb

theorem Placed.run (h : x.Placed i f id g) (n : Nat) : (x.run n).Placed i f id g := by
  induction n generalizing x with
  | zero => exact h
  | succ n ih => exact ih (h.iterate false)

end XState

/-! ### One clock of the crossbar (R253 to R257) -/

/-- A FIFO without unsent copies offers nothing more. -/
theorem State.offer_nothing {s : State} {d i f : Nat} (h : ((s.buf d).fifo i f).copies = []) (n : Nat) : s.offer d i f n = s := by
  cases n with
  | zero => rfl
  | succ n =>
    unfold State.offer
    dsimp only
    rw [h]

theorem State.offerAll_nothing {s : State} {d : Nat} (h : (s.buf d).fifos = []) : s.offerAll d = s := by
  unfold State.offerAll
  rw [h]
  rfl

theorem State.offerAll_offered {s : State} {d k : Nat} {o : List (Nat × Nat)} (h : (s.buf d).fifos = [(k, ⟨[], o⟩)]) : s.offerAll d = s := by
  have hfifo : ((s.buf d).fifo (k / 16) (k % 16)).copies = [] := by
    rw [BufSt.fifo, h, Nat.div_add_mod', SMap.get, if_pos rfl]
  unfold State.offerAll
  rw [h]
  exact State.offer_nothing hfifo 3

/-- The counters of a clock in which the crossbar placed one cell and none waited. -/
def State.xbarCounts (s : State) (d : Nat) : State :=
  (((s.schCount d 0 1).schCount d 1 0).gauge! (16 + d) 0x41 1).gauge! (16 + d) 0x42 0

/-- A clock of the crossbar with one offered cell places it, and no FIFO offers anything any more. -/
theorem exec_xbarMatch_one {d : Fin 2} {i f id g : Nat} {s : State} (h : (s.buf d.val).fifos = [(i * 16 + f, ⟨[], [(id, g)]⟩)])
    (hi : i < 15) (hf : f < 16) (hg : g < 16) : ∃ b : BufSt, b.fifos = [] ∧
      exec (.xbarMatch d) s = .next (((if i = 14 then (s.begin.setBuf d.val b).placeFetched id g
        else (s.begin.setBuf d.val b).placeCell d.val id g).xbarCounts d.val).offerAll d.val) := by
  have hall : s.begin.offerAll d.val = s.begin := State.offerAll_offered h
  let x0 : XState := ⟨(List.range 15).map xbarCap, [], [(i * 16 + f, [(id, g)])], [], (s.buf d.val).grant, (s.buf d.val).accept,
    (s.buf d.val).last, []⟩
  have hcap : ∀ j < 15, ((List.range 15).map xbarCap).getD j 0 ≠ 0 := by decide
  have hx0 : x0.Offered i f id g := ⟨hcap i hi, rfl, rfl, rfl, rfl⟩
  have hx := (hx0.iterate hi hf hg true).run (min 4 (max 1 (s.eff F.SCH_XBAR_CFG_ITER d.val)) - 1)
  generalize hrun : (x0.iterate true).run (min 4 (max 1 (s.eff F.SCH_XBAR_CFG_ITER d.val)) - 1) = x at hx
  have hoffers : ((s.buf d.val).fifos.map (fun e => (e.1, e.2.offer))).filter (fun o => !o.2.isEmpty) = [(i * 16 + f, [(id, g)])] := by
    rw [h]
    rfl
  have hwaiting : (List.range 15).filter (fun j => !(x0.of j).isEmpty && !x.won.contains j) = [] := by
    refine List.filter_eq_nil_iff.2 fun j _ hj => ?_
    rw [hx0.of_eq hf j, hx.won] at hj
    by_cases hji : j = i
    · simp [hji] at hj
    · simp [hji] at hj
  have hfifos : x.offers.foldl (fun m o => let f := SMap.get (fun _ => (⟨[], []⟩ : XFifo)) m o.1
      SMap.set (fun _ => ⟨[], []⟩) m o.1 { f with offer := o.2 }) (s.buf d.val).fifos = [] := by
    rw [hx.offers, h]
    simp [SMap.get, SMap.set, SMap.drop]
  refine ⟨{ s.buf d.val with fifos := [], grant := x.grant, accept := x.accept, last := x.last }, rfl, ?_⟩
  show execXbarMatch d s = _
  unfold execXbarMatch
  dsimp only
  have hbuf : s.begin.buf d.val = s.buf d.val := rfl
  rw [hall, hbuf, hoffers]
  generalize hx' : XState.run _ _ = x'
  obtain rfl : x' = x := hx'.symm.trans hrun
  generalize hw : List.filter _ (List.range 15) = w
  obtain rfl : w = [] := hw.symm.trans hwaiting
  rw [hfifos, hx.placed]
  rfl

theorem OnlyReports.bufs {p} {s t : State} (h : OnlyReports p s t) (d : Nat) : t.buf d = s.buf d := by
  have hb : t.bufs = s.bufs := (congrArg State.bufs h.1 :)
  rw [State.buf, State.buf, hb]

theorem OnlyReports.copies {p} {s t : State} (h : OnlyReports p s t) : t.copies = s.copies := (congrArg State.copies h.1 :)

theorem OnlyReports.queues {p} {s t : State} (h : OnlyReports p s t) : t.queues = s.queues := (congrArg State.queues h.1 :)

theorem State.xbarCounts_effect (s : State) (d : Nat) :
    OnlyReports (fun r _ => r = .SCH_CNT ∨ r ∈ gaugeRegs) s (s.xbarCounts d) ∧
      (s.counts .SCH_CNT (d * 10) → (s.xbarCounts d).reg .SCH_CNT (d * 10) = s.reg .SCH_CNT (d * 10) + 1) := by
  let placed := s.schCount d 0 1
  let waiting := placed.schCount d 1 0
  have hgauge : Gauged waiting (s.xbarCounts d) := (Gauged.refl waiting).gauge!.gauge!
  have hwaiting : OnlyReports (fun r i => r = .SCH_CNT ∧ i = d * 10 + 1) placed waiting := OnlyReports.bump placed 0 (.inr ⟨rfl, rfl⟩)
  constructor
  · exact ((OnlyReports.bump s 1 (.inr (.inl rfl))).trans (hwaiting.mono fun _ _ e => .inl e.1)).trans (hgauge.reports.mono fun _ _ => .inr)
  · intro h
    rw [hgauge.reports.reg (by decide) (by decide), hwaiting.reg (by decide) fun e => by omega]
    exact State.reg_bump_counts h 1

/-- A clock of the crossbar after its cell is placed: only counters, gauges and reports change. -/
theorem State.xbarCounts_offerAll {d : Fin 2} {t : State} {b : BufSt} (hb : b.fifos = [])
    (hbuf : t.buf d.val = b) (hcount : t.counts .SCH_CNT (d.val * 10)) :
    OnlyReports (fun r _ => r = .SCH_CNT ∨ r ∈ gaugeRegs) t ((t.xbarCounts d.val).offerAll d.val) ∧
      ((t.xbarCounts d.val).offerAll d.val).reg .SCH_CNT (d.val * 10) = t.reg .SCH_CNT (d.val * 10) + 1 ∧
      (((t.xbarCounts d.val).offerAll d.val).buf d.val).fifos = [] := by
  obtain ⟨honly, hreg⟩ := t.xbarCounts_effect d.val
  have hfifos : ((t.xbarCounts d.val).buf d.val).fifos = [] := by rw [honly.bufs, hbuf, hb]
  rw [State.offerAll_nothing hfifos]
  exact ⟨honly, hreg hcount, hfifos⟩

/-- A cell of a copy that is not the only one of its frame is written where it was placed: no cut through. -/
theorem State.placeCell_stored {s : State} {id : Nat} {c : Copy} (h : s.copy id = some c) (hsolo : c.solo = false) (d g : Nat) :
    s.placeCell d id g = s.setCopy id (some { c with cells := c.cells ++ [g] }) := by
  have hcut : s.cutsThrough id c = false := by simp [State.cutsThrough, hsolo]
  unfold State.placeCell
  rw [h]
  dsimp only
  rw [hcut, Bool.and_false, Bool.or_false]
  rfl

/-- A fetched cell joins the first batch of its queue, where that is granted and not whole. -/
theorem State.placeFetched_first {s : State} {k : Nat} {p : Spill} {f : Fetch} {rest : List Fetch} (hspill : (s.queue k).spill = some p)
    (hfetch : p.fetches = f :: rest) (hgrant : f.granted = true) (hopen : f.placed.length < f.cells) (g : Nat) :
    s.placeFetched k g =
      s.setQueue k { s.queue k with spill := some { p with fetches := { f with placed := f.placed ++ [g] } :: rest } } := by
  have hfind : p.fetches.findIdx? (fun f => f.granted && f.placed.length < f.cells) = some 0 := by
    rw [hfetch, List.findIdx?_cons, hgrant, decide_eq_true hopen]
    rfl
  unfold State.placeFetched
  dsimp only
  rw [hspill]
  dsimp only
  rw [hfind]
  dsimp only
  rw [hfetch]
  rfl

theorem State.buf_setCopy (s : State) (id : Nat) (c : Option Copy) (d : Nat) : (s.setCopy id c).buf d = s.buf d := rfl

/-- The registers that a clock of the crossbar writes beside those of reports. -/
theorem sch_of_xbar {r : Reg} (h : r = .SCH_CNT ∨ r ∈ gaugeRegs) : r ∈ [Reg.SCH_CNT, .GGE_CNT, .GGE_OVF, .GGE_FRZ] := by
  rcases h with rfl | h
  · decide
  · exact List.mem_cons_of_mem _ h

/-- One offered cell of a copy is written into it. -/
theorem xbarMatch_copy {d : Fin 2} {i f id g : Nat} {c : Copy} {s : State}
    (h : (s.buf d.val).fifos = [(i * 16 + f, ⟨[], [(id, g)]⟩)]) (hi : i < 14) (hf : f < 16) (hg : g < 16)
    (hc : s.copy id = some c) (hsolo : c.solo = false) (hcount : s.counts .SCH_CNT (d.val * 10)) :
    ∃ t, exec (.xbarMatch d) s = .next t ∧ t.copy id = some { c with cells := c.cells ++ [g] } ∧ (t.buf d.val).fifos = [] ∧
      (∀ k, k ≠ id → t.copy k = s.copy k) ∧ t.reg .SCH_CNT (d.val * 10) = s.reg .SCH_CNT (d.val * 10) + 1 ∧
      t.queues = s.queues ∧ t.tabs = s.tabs ∧ t.ports = s.ports ∧
      RegsBut (fun r _ => r ∈ reportRegs ∨ r ∈ [.SCH_CNT, .GGE_CNT, .GGE_OVF, .GGE_FRZ]) s t := by
  obtain ⟨b, hb, hrun⟩ := exec_xbarMatch_one h (by omega) hf hg
  rw [if_neg (by omega), State.placeCell_stored (s := s.begin.setBuf d.val b) hc hsolo] at hrun
  let u := (s.begin.setBuf d.val b).setCopy id (some { c with cells := c.cells ++ [g] })
  have hbuf : u.buf d.val = b := (State.buf_setCopy ..).trans ((State.buf_setBuf ..).trans (if_pos rfl))
  obtain ⟨honly, hreg, hfifos⟩ := State.xbarCounts_offerAll hb hbuf hcount
  have hcopy (k : Nat) : ((u.xbarCounts d.val).offerAll d.val).copy k = u.copy k := by rw [State.copy, State.copy, honly.copies]
  refine ⟨_, hrun, ?_, hfifos, fun k hk => ?_, hreg, honly.queues, (congrArg State.tabs honly.1 :), (congrArg State.ports honly.1 :), ?_⟩
  · exact (hcopy id).trans ((State.copy_setCopy ..).trans (if_pos rfl))
  · exact (hcopy k).trans ((State.copy_setCopy ..).trans (if_neg (Ne.symm hk)))
  · exact (RegsBut.of_regs (t := u) rfl).trans (honly.2.mono fun r _ e => e.imp_right sch_of_xbar)

/-- One offered cell of input 14 is written into the batch that its queue fetches. -/
theorem xbarMatch_fetched {d : Fin 2} {k g : Nat} {p : Spill} {f : Fetch} {rest : List Fetch} {s : State}
    (h : (s.buf d.val).fifos = [(14 * 16, ⟨[], [(k, g)]⟩)]) (hg : g < 16) (hspill : (s.queue k).spill = some p)
    (hfetch : p.fetches = f :: rest) (hgrant : f.granted = true) (hopen : f.placed.length < f.cells)
    (hcount : s.counts .SCH_CNT (d.val * 10)) :
    ∃ t, exec (.xbarMatch d) s = .next t ∧ (t.buf d.val).fifos = [] ∧ t.copies = s.copies ∧
      t.queue k = { s.queue k with spill := some { p with fetches := { f with placed := f.placed ++ [g] } :: rest } } ∧
      (∀ j, j ≠ k → t.queue j = s.queue j) ∧ t.reg .SCH_CNT (d.val * 10) = s.reg .SCH_CNT (d.val * 10) + 1 ∧
      RegsBut (fun r _ => r ∈ reportRegs ∨ r ∈ [.SCH_CNT, .GGE_CNT, .GGE_OVF, .GGE_FRZ]) s t := by
  obtain ⟨b, hb, hrun⟩ := exec_xbarMatch_one (i := 14) (f := 0) h (by omega) (by omega) hg
  rw [if_pos rfl, State.placeFetched_first (s := s.begin.setBuf d.val b) hspill hfetch hgrant hopen] at hrun
  let u := (s.begin.setBuf d.val b).setQueue k
    { s.queue k with spill := some { p with fetches := { f with placed := f.placed ++ [g] } :: rest } }
  have hbuf : u.buf d.val = b := (State.buf_setBuf ..).trans (if_pos rfl)
  obtain ⟨honly, hreg, hfifos⟩ := State.xbarCounts_offerAll hb hbuf hcount
  have hqueue (j : Nat) : ((u.xbarCounts d.val).offerAll d.val).queue j = u.queue j := by rw [State.queue, State.queue, honly.queues]
  refine ⟨_, hrun, hfifos, honly.copies, ?_, fun j hj => ?_, hreg, ?_⟩
  · exact (hqueue k).trans ((State.queue_setQueue ..).trans (if_pos rfl))
  · exact (hqueue j).trans ((State.queue_setQueue ..).trans (if_neg (Ne.symm hj)))
  · exact (RegsBut.of_regs (t := u) rfl).trans (honly.2.mono fun r _ e => e.imp_right sch_of_xbar)

/-! ### What operations on copies, queues and buffers leave -/

/-- From `s` to `t` registers, tables, ports and pipelines stay, and so do the claims that wait. -/
structure BufferStep (s t : State) : Prop where
  regs : t.regs = s.regs
  tabs : t.tabs = s.tabs
  ports : t.ports = s.ports
  pipes : t.pipes = s.pipes
  claims : ∀ d, (t.buf d).claims = (s.buf d).claims

namespace BufferStep
variable {z s t : State}

theorem refl (s : State) : BufferStep s s := ⟨rfl, rfl, rfl, rfl, fun _ => rfl⟩

theorem trans (h : BufferStep z s) (k : BufferStep s t) : BufferStep z t :=
  ⟨k.regs.trans h.regs, k.tabs.trans h.tabs, k.ports.trans h.ports, k.pipes.trans h.pipes, fun d => (k.claims d).trans (h.claims d)⟩

theorem regs_eq (h : BufferStep s t) {r : Reg} {i : Nat} : t.reg r i = s.reg r i := by
  rw [State.reg, State.reg, h.regs]

theorem setCopy (h : BufferStep z s) (id : Nat) (c : Option Copy) : BufferStep z (s.setCopy id c) := h.trans ⟨rfl, rfl, rfl, rfl, fun _ => rfl⟩
theorem setQueue (h : BufferStep z s) (k : Nat) (q : QSt) : BufferStep z (s.setQueue k q) := h.trans ⟨rfl, rfl, rfl, rfl, fun _ => rfl⟩
theorem drawn (h : BufferStep z s) : BufferStep z s.drawn := h.trans ⟨rfl, rfl, rfl, rfl, fun _ => rfl⟩

theorem setBuf (h : BufferStep z s) {d : Nat} {b : BufSt} (hb : b.claims = (s.buf d).claims) : BufferStep z (s.setBuf d b) := by
  refine h.trans ⟨rfl, rfl, rfl, rfl, fun e => ?_⟩
  rw [State.buf_setBuf]
  split
  next he => rw [hb, he]
  next => rfl

theorem freeBanks (h : BufferStep z s) (d : Nat) (l : List Nat) : BufferStep z (s.freeBanks d l) := h.setBuf rfl

theorem account (h : BufferStep z s) (c : Copy) (dn dh ds : Int) : BufferStep z (s.account c dn dh ds) := by
  unfold State.account
  dsimp only
  split
  · exact (h.setQueue _ _).setBuf rfl
  · exact (h.setQueue _ _).setBuf rfl
  · exact h.setQueue _ _

theorem leaveStaging (h : BufferStep z s) (id : Nat) : BufferStep z (s.leaveStaging id) := by
  unfold State.leaveStaging
  split
  · exact h.trans ⟨rfl, rfl, rfl, rfl, fun _ => rfl⟩
  · exact h

end BufferStep

theorem State.copies_account (s : State) (c : Copy) (dn dh ds : Int) : (s.account c dn dh ds).copies = s.copies := by
  unfold State.account
  dsimp only
  split <;> rfl

theorem State.copy_leaveStaging (s : State) (id k : Nat) : (s.leaveStaging id).copy k = s.copy k := by
  unfold State.leaveStaging
  split <;> rfl

/-- A copy without a lossless group that is not cut through is gone: no other copy, register, table or port takes part. -/
theorem State.release_effect (s : State) (id : Nat) {c : Copy} (hgroup : c.group = none) (hcut : c.cut = false) :
    (∀ k, (s.release id c).copy k = if k = id then none else s.copy k) ∧ BufferStep s (s.release id c) := by
  let a := s.account c (-c.need) (-c.hr) (-c.sh)
  let freed := a.setQueue c.key { a.queue c.key with used := (a.queue c.key).used - c.fetched, sh := (a.queue c.key).sh - c.fsh }
  let gone := (freed.freeBanks c.die c.cells).setCopy id none
  have ht : s.release id c = match c.stage with | some f => gone.leaveStaging f | none => gone := by
    unfold State.release
    dsimp only
    rw [hgroup, hcut]
    rfl
  have hgone : BufferStep s gone := ((((BufferStep.refl s).account c _ _ _).setQueue _ _).freeBanks _ _).setCopy id none
  have hcopy (k : Nat) : gone.copy k = if k = id then none else s.copy k := by
    have hcopies : freed.copies = s.copies := s.copies_account c _ _ _
    rw [State.copy_setCopy]
    by_cases hk : k = id
    · rw [if_pos hk, if_pos hk.symm]
    · rw [if_neg hk, if_neg (Ne.symm hk)]
      exact congrArg (fun m => SMap.get (fun _ => none) m k) hcopies
  rw [ht]
  cases c.stage with
  | none => exact ⟨hcopy, hgone⟩
  | some f => exact ⟨fun k => (gone.copy_leaveStaging f k).trans (hcopy k), hgone.leaveStaging f⟩

/-- From `s` to `t` cells are offered: beside a `BufferStep`, copies and what queues have in use stay. -/
structure OfferStep (s t : State) : Prop where
  step : BufferStep s t
  copies : t.copies = s.copies
  used : ∀ k, (t.queue k).used = (s.queue k).used

namespace OfferStep
variable {z s t : State}

theorem refl (s : State) : OfferStep s s := ⟨BufferStep.refl s, rfl, fun _ => rfl⟩

theorem setBuf (h : OfferStep z s) {d : Nat} {b : BufSt} (hb : b.claims = (s.buf d).claims) : OfferStep z (s.setBuf d b) :=
  ⟨h.step.setBuf hb, h.copies, h.used⟩

theorem setQueue (h : OfferStep z s) {k : Nat} {q : QSt} (hq : q.used = (s.queue k).used) : OfferStep z (s.setQueue k q) := by
  refine ⟨h.step.setQueue k q, h.copies, fun j => ?_⟩
  rw [State.queue_setQueue]
  split
  next hj => rw [hq, ← h.used, hj]
  next => exact h.used j

theorem drawn (h : OfferStep z s) : OfferStep z s.drawn := ⟨h.step.drawn, h.copies, h.used⟩

theorem takeBank (h : OfferStep z s) {k g : Nat} (ht : s.takeBank k = some (g, t)) : OfferStep z t := by
  unfold State.takeBank at ht
  obtain ⟨g', -, he⟩ := Option.map_eq_some_iff.1 ht
  cases he
  exact (h.setBuf (by rfl)).setQueue (by rfl)

theorem offer (h : OfferStep z s) (d i f n : Nat) : OfferStep z (s.offer d i f n) := by
  induction n generalizing s with
  | zero => exact h
  | succ n ih =>
    unfold State.offer
    extract_lets x
    split
    · exact h
    · split
      · exact h
      · split
        · refine ih ?_
          exact h.setBuf (by rfl)
        · extract_lets s0
          have h0 : OfferStep z s0 := by
            unfold s0
            split
            · exact h.drawn
            · exact h
          split
          · exact h0
          · split
            · exact h0
            next ht =>
              refine ih ?_
              exact (h0.takeBank ht).setBuf (by rfl)

theorem offerAll (h : OfferStep z s) (d : Nat) : OfferStep z (s.offerAll d) := by
  unfold State.offerAll
  exact State.each_induction _ h fun t k ht => ht.offer d _ _ 3

end OfferStep

/-! ### Linking (R232, R236, R250) -/

theorem SMap.mem_put {α : Type} {m : SMap α} {k : Nat} {v : α} {e : Nat × α} (h : e ∈ SMap.put m k v) : e = (k, v) ∨ e ∈ m := by
  induction m with
  | nil => exact .inl (List.mem_singleton.1 h)
  | cons x m ih =>
    obtain ⟨j, w⟩ := x
    unfold SMap.put at h
    split at h
    · exact List.mem_cons.1 h
    · split at h
      · exact (List.mem_cons.1 h).imp_right (List.mem_cons_of_mem _)
      · rcases List.mem_cons.1 h with rfl | h
        · exact .inr (List.mem_cons_self ..)
        · exact (ih h).imp_right (List.mem_cons_of_mem _)

/-- A copy of a frame that is stored and forwarded opens no queue for what waits behind a cut. -/
theorem State.cutOpen_setCopy {s : State} {k : Nat} {x : Copy} (hx : x.cut = false) (h : s.cutOpen k = false) (id : Nat) :
    (s.setCopy id (some x)).cutOpen k = false := by
  have hput : (s.setCopy id (some x)).copies = SMap.put s.copies id (some x) := by
    unfold State.setCopy SMap.set
    dsimp only
    rw [if_neg (Option.some_ne_none x)]
  unfold State.cutOpen at h ⊢
  rw [hput]
  rw [List.any_eq_false] at h ⊢
  intro e he
  rcases SMap.mem_put he with rfl | he
  · simp [hx]
  · exact h e he

/-- A linking that brings a queue above SPILL_HI leaves its chain, other queues, copies, tables and ports. -/
theorem State.spillStart_effect (s : State) (k : Nat) :
    let t := s.spillStart k
    (t.queue k).chain = (s.queue k).chain ∧ (∀ j, j ≠ k → t.queue j = s.queue j) ∧
      OnlyReports (fun r _ => r = .SKN_CNT) s { t with queues := s.queues } := by
  intro t
  have hcount (u : State) (d i n : Nat) : OnlyReports (fun r _ => r = .SKN_CNT) u (u.sknCount d i n) := OnlyReports.bump u n (.inr rfl)
  have hkeep {u t : State} (h : OnlyReports (fun r _ => r = .SKN_CNT) u t) (j : Nat) : t.queue j = u.queue j := by
    rw [State.queue, State.queue, h.queues]
  have hframe {u t : State} {l : SMap QSt} (h : OnlyReports (fun r _ => r = .SKN_CNT) u t) :
      OnlyReports (fun r _ => r = .SKN_CNT) { u with queues := l } { t with queues := l } :=
    ⟨(congrArg (fun x : State => { x with queues := l }) h.1 :), h.2⟩
  have ht : s.spillStart k = t := rfl
  clear_value t
  unfold State.spillStart at ht
  extract_lets d q pr n at ht
  split at ht
  · subst ht
    exact ⟨rfl, fun _ _ => rfl, OnlyReports.refl _ s⟩
  · split at ht <;> subst ht
    next x p _ _ =>
      let v : QSt := { q with spill := some ⟨x, min n pr.2.2.1, 0, false, 0, [], [p], 0, false⟩ }
      have h := hcount (s.setQueue k v) d 5 1
      refine ⟨?_, fun j hj => ?_, hframe (u := s.setQueue k v) (l := s.queues) h⟩
      · rw [hkeep h, State.queue_setQueue, if_pos rfl]
      · rw [hkeep h, State.queue_setQueue, if_neg (Ne.symm hj)]
    next =>
      have h := (hcount s d 6 1).trans (OnlyReports.fault _ (s.sknCount d 6 1) 14 3 d 0)
      exact ⟨by rw [hkeep h], fun j _ => hkeep h j, hframe (l := s.queues) h⟩

/-- One copy joins the tail of its queue's chain. -/
theorem State.linkTo_one {s : State} {id k : Nat} {c : Copy} (h : s.copy id = some c) :
    let t := s.linkTo k [id]
    t.copy id = some { c with linked := true } ∧ (t.queue k).chain = (s.queue k).chain ++ [id] ∧
      (∀ j, j ≠ id → t.copy j = s.copy j) ∧ (∀ j, j ≠ k → t.queue j = s.queue j) ∧ t.tabs = s.tabs ∧ t.ports = s.ports ∧
      RegsBut (fun r _ => r ∈ reportRegs ∨ r = .SKN_CNT) s t := by
  intro t
  let linked := s.setCopy id (some { c with linked := true })
  let chained := linked.setQueue k { linked.queue k with chain := (linked.queue k).chain ++ [id] }
  let counted := chained.sknCount (k / 65536) 0 1
  have ht : t = counted.spillStart k := by
    simp only [t, State.linkTo, State.each, List.foldl_cons, List.foldl_nil, h]
    rfl
  have hcount : OnlyReports (fun r _ => r = .SKN_CNT) chained counted := OnlyReports.bump chained 1 (.inr rfl)
  obtain ⟨hchain, hother, hspill⟩ := counted.spillStart_effect k
  rw [← ht] at hchain hother hspill
  have hcopies : t.copies = linked.copies := (hspill.copies :).trans hcount.copies
  have hcopy (j : Nat) : t.copy j = linked.copy j := by rw [State.copy, State.copy, hcopies]
  have hqueue (j : Nat) : counted.queue j = chained.queue j := by rw [State.queue, State.queue, hcount.queues]
  refine ⟨?_, ?_, fun j hj => ?_, fun j hj => ?_, ?_, ?_, ?_⟩
  · rw [hcopy, State.copy_setCopy, if_pos rfl]
  · rw [hchain, hqueue, State.queue_setQueue, if_pos rfl]
    rfl
  · rw [hcopy, State.copy_setCopy, if_neg (Ne.symm hj)]
  · rw [hother j hj, hqueue, State.queue_setQueue, if_neg (Ne.symm hj)]
    rfl
  · exact (congrArg State.tabs hspill.1 :).trans (congrArg State.tabs hcount.1 :)
  · exact (congrArg State.ports hspill.1 :).trans (congrArg State.ports hcount.1 :)
  · exact ((RegsBut.of_regs (t := chained) rfl).trans hcount.2).trans hspill.2

/-- The claim of a whole copy is settled: cells not used are returned to its account. -/
theorem State.settle_effect (s : State) (id : Nat) {c : Copy} (hgroup : c.group = none) (hcut : c.cut = false)
    (hopen : s.cutOpen c.key = false) :
    let t := s.settle id c
    (∃ x : Copy, t.copy id = some x ∧ x.done = true ∧ x.need = min c.need c.cells.length ∧ x.bytes = c.bytes ∧ x.cells = c.cells) ∧
      (t.queue c.key).chain = (s.queue c.key).chain ∧ (∀ j, j ≠ id → t.copy j = s.copy j) ∧
      (∀ j, j ≠ c.key → t.queue j = s.queue j) ∧ t.cutOpen c.key = false ∧ BufferStep s t := by
  intro t
  let extra := c.need - c.cells.length
  let g := c.gives extra
  let a := s.account c (-extra) (-g.1) (-g.2)
  let x : Copy := { c with need := c.need - extra, hr := c.hr - g.1, sh := c.sh - g.2, done := true }
  have ht : t = a.setCopy id (some x) := by
    have hmove (n : Int) : a.groupMove c.group n = a := by
      rw [hgroup]
      rfl
    exact congrArg (State.setCopy · id (some x)) (hmove _)
  have hcopies : a.copies = s.copies := s.copies_account c _ _ _
  have haccount : (a.queue c.key).chain = (s.queue c.key).chain ∧ ∀ j, j ≠ c.key → a.queue j = s.queue j := by
    obtain ⟨q, hq, ha⟩ : ∃ q : QSt, q.chain = (s.queue c.key).chain ∧ a.queues = (s.setQueue c.key q).queues := by
      unfold a State.account
      dsimp only
      split <;> exact ⟨_, by rfl, rfl⟩
    have hqueue (j : Nat) : a.queue j = (s.setQueue c.key q).queue j := by rw [State.queue, State.queue, ha]
    refine ⟨?_, fun j hj => ?_⟩
    · rw [hqueue, State.queue_setQueue, if_pos rfl, hq]
    · rw [hqueue, State.queue_setQueue, if_neg (Ne.symm hj)]
  have hcut' : a.cutOpen c.key = false := by
    unfold State.cutOpen at hopen ⊢
    rw [hcopies]
    exact hopen
  rw [ht]
  refine ⟨⟨x, ?_, rfl, ?_, rfl, rfl⟩, haccount.1, fun j hj => ?_, haccount.2, State.cutOpen_setCopy (x := x) hcut hcut' id, ?_⟩
  · rw [State.copy_setCopy, if_pos rfl]
  · show c.need - (c.need - c.cells.length) = _
    omega
  · rw [State.copy_setCopy, if_neg (Ne.symm hj), State.copy, hcopies]
    rfl
  · exact ((BufferStep.refl s).account c _ _ _).setCopy id _

/-- A copy as COPY_LINK takes it here: whole, stored and forwarded, neither done nor linked, and with no part in a lossless group, in
staging, in a program or in a frame of PKT_TX. -/
structure Copy.Whole (c : Copy) : Prop where
  need : c.need ≠ 0
  cells : cellsOf c.bytes.length ≤ c.cells.length
  cut : c.cut = false
  done : c.done = false
  tx : c.tx = none
  stage : c.stage = none
  group : c.group = none

theorem Copy.withoutStage {c : Copy} (h : c.stage = none) : { c with stage := none } = c := by
  rw [← h]

theorem exec_copyLink_whole {id : Nat} {c : Copy} {s : State} (hc : s.copy id = some c) (hw : c.Whole) (hflush : s.flushing c.port = false)
    (hopen : s.cutOpen c.key = false) :
    exec (.copyLink id) s = .next (if c.bad then (s.begin.sknCount c.die 1 1).release id c else (s.begin.settle id c).linkTo c.key [id]) := by
  have hc' : s.begin.copy id = some c := hc
  have hstage : s.begin.unstage id c = s.begin := by
    unfold State.unstage
    rw [hw.stage]
  have hwhole : (c.need != 0 && Decidable.decide (cellsOf c.bytes.length ≤ c.cells.length)) = true := by
    rw [decide_eq_true hw.cells, bne_iff_ne.2 hw.need]
    rfl
  have htx : (s.begin.settle id c).txDone c 0 = s.begin.settle id c := by
    unfold State.txDone
    rw [hw.tx]
  obtain ⟨-, -, -, -, hcutOpen, hstep⟩ := s.begin.settle_effect id hw.group hw.cut hopen
  have hflush' : (s.begin.settle id c).flushing c.port = false := by
    have hports : (s.begin.settle id c).ports = s.ports := hstep.ports
    unfold State.flushing State.port at hflush ⊢
    rw [hports]
    exact hflush
  show execCopyLink id s = _
  unfold execCopyLink
  dsimp only
  rw [hc']
  dsimp only
  rw [Copy.withoutStage hw.stage, hstage, htx, hflush', hcutOpen, hwhole, hw.cut, hw.done]
  cases c.bad <;> rfl

/-- A whole copy whose frame proved bad is dropped and counted. -/
theorem copyLink_bad {id : Nat} {c : Copy} {s : State} (hc : s.copy id = some c) (hw : c.Whole) (hflush : s.flushing c.port = false)
    (hopen : s.cutOpen c.key = false) (hbad : c.bad = true) (hcount : s.counts .SKN_CNT (c.die * 11 + 1)) :
    ∃ t, exec (.copyLink id) s = .next t ∧ t.copy id = none ∧ (∀ k, k ≠ id → t.copy k = s.copy k) ∧
      t.reg .SKN_CNT (c.die * 11 + 1) = s.reg .SKN_CNT (c.die * 11 + 1) + 1 ∧ t.tabs = s.tabs := by
  have hrun := exec_copyLink_whole hc hw hflush hopen
  rw [hbad, if_pos rfl] at hrun
  have hskn : OnlyReports (fun r _ => r = .SKN_CNT) s (s.begin.sknCount c.die 1 1) :=
    (OnlyReports.begin _ s).trans (OnlyReports.bump s.begin 1 (.inr rfl))
  obtain ⟨hcopy, hstep⟩ := (s.begin.sknCount c.die 1 1).release_effect id hw.group hw.cut
  refine ⟨_, hrun, ?_, fun k hk => ?_, ?_, hstep.tabs.trans (congrArg State.tabs hskn.1 :)⟩
  · rw [hcopy, if_pos rfl]
  · rw [hcopy, if_neg hk, State.copy, State.copy, hskn.copies]
  · rw [State.reg, hstep.regs]
    exact State.reg_bump_counts (s := s.begin) hcount 1

/-- A whole copy gives back what it did not use, and is the last of its queue's chain. -/
theorem copyLink_good {id : Nat} {c : Copy} {s : State} (hc : s.copy id = some c) (hw : c.Whole) (hflush : s.flushing c.port = false)
    (hopen : s.cutOpen c.key = false) (hbad : c.bad = false) :
    ∃ t x, exec (.copyLink id) s = .next t ∧ t.copy id = some x ∧ x.linked = true ∧ x.done = true ∧
      x.need = min c.need c.cells.length ∧ x.bytes = c.bytes ∧ x.cells = c.cells ∧
      (t.queue c.key).chain = (s.queue c.key).chain ++ [id] ∧ (∀ k, k ≠ id → t.copy k = s.copy k) ∧
      (∀ k, k ≠ c.key → t.queue k = s.queue k) ∧ t.tabs = s.tabs ∧ t.ports = s.ports ∧
      RegsBut (fun r _ => r ∈ reportRegs ∨ r = .SKN_CNT) s t := by
  have hrun := exec_copyLink_whole hc hw hflush hopen
  rw [hbad, if_neg (by decide)] at hrun
  obtain ⟨⟨x, hx, hdone, hneed, hbytes, hcells⟩, hchain, hcopies, hqueues, -, hstep⟩ := s.begin.settle_effect id hw.group hw.cut hopen
  obtain ⟨hlinked, hchain', hcopies', hqueues', htabs, hports, hregs⟩ := State.linkTo_one (k := c.key) hx
  exact ⟨_, _, hrun, hlinked, rfl, hdone, hneed, hbytes, hcells, hchain'.trans (congrArg (· ++ [id]) hchain),
    fun k hk => (hcopies' k hk).trans (hcopies k hk), fun k hk => (hqueues' k hk).trans (hqueues k hk), htabs.trans hstep.tabs,
    hports.trans hstep.ports, (RegsBut.of_regs hstep.regs).trans hregs⟩

/-! ### Admission (R73, R237) -/

/-- A port in BINDOFF refuses a copy, and one that is not linked (R73). -/
theorem State.refusedBy_eq (s : State) (p : Nat) : s.refusedBy p =
    if p < 130 ∧ s.portState p ≠ 2 ∧ s.portState p ≠ 4 then some (if s.portState p = 3 then 12 else 13) else none := by
  unfold State.refusedBy
  by_cases hp : p < 130
  · rw [if_pos hp]
    split
    next h => rw [if_pos ⟨hp, by omega, by omega⟩, if_pos h]
    next h => rw [if_neg fun e => e.2.1 h]
    next h => rw [if_neg fun e => e.2.2 h]
    next h3 h2 h4 => rw [if_pos ⟨hp, h2, h4⟩, if_neg h3]
  · rw [if_neg hp, if_neg fun e => hp e.1]

/-- A network copy whose claim waits, of the length its frame has: it holds nothing yet, and belongs to no lossless group, program or
frame of PKT_TX. -/
structure Copy.Fresh (c : Copy) : Prop where
  notHost : c.kind ≠ .hostTx
  notChart : c.kind ≠ .chartTx
  group : c.group = none
  arriving : c.arriving = false
  chart : c.chart = none
  tx : c.tx = none
  hr : c.hr = 0
  cut : c.cut = false

/-- Cells of a copy's claim beyond its queue's reserve. -/
def State.sharedCells (s : State) (c : Copy) : Nat :=
  cellsOf c.bytes.length - min (cellsOf c.bytes.length) (s.qmin c.key - (s.queue c.key).used)

/-- The threshold of a copy's colour in its queue's profile. -/
def State.alpha (s : State) (c : Copy) : Nat :=
  s.fld (if c.colour = 0 then F.BPM_QPROF_A_G else if c.colour = 1 then F.BPM_QPROF_A_Y else F.BPM_QPROF_A_R) (s.qprof c.key)

/-- The cells beyond a queue's reserve exceed the threshold of the copy's colour (R237). -/
def State.aboveLimit (s : State) (c : Copy) : Prop :=
  s.sharedCells c ≠ 0 ∧ s.alpha c * s.freeS c.die < 16 * ((s.queue c.key).used - s.qmin c.key + s.sharedCells c)

theorem State.decideCopy_refused {s : State} {c : Copy} {m : Nat} (h : s.refusedBy c.port = some m) (free0 : Nat) :
    s.decideCopy c free0 = .refuse m := by
  unfold State.decideCopy
  dsimp only
  rw [h]

/-- A claim that its port does not refuse: LIMIT, else EMPTY, else granted. -/
theorem State.decideCopy_network {s : State} {c : Copy} (hf : c.Fresh) (hup : s.refusedBy c.port = none) :
    (s.aboveLimit c → s.decideCopy c (s.freeS c.die) = .drop 2) ∧
      (¬ s.aboveLimit c → s.freeS c.die < s.sharedCells c → s.decideCopy c (s.freeS c.die) = .drop 1) ∧
      (¬ s.aboveLimit c → s.sharedCells c ≤ s.freeS c.die → ∃ r, s.decideCopy c (s.freeS c.die) =
        .grant (cellsOf c.bytes.length) r (s.sharedCells c) 0) := by
  have hdecide : s.decideCopy c (s.freeS c.die) =
      if (Decidable.decide (s.sharedCells c ≠ 0) && Decidable.decide (s.alpha c * s.freeS c.die <
        16 * ((s.queue c.key).used - s.qmin c.key + s.sharedCells c))) = true then .drop 2
      else if s.freeS c.die < s.sharedCells c then .drop 1
      else .grant (cellsOf c.bytes.length) (min (cellsOf c.bytes.length) (s.qmin c.key - (s.queue c.key).used)) (s.sharedCells c) 0 := by
    have h01 (n : Nat) : n + 2 ≠ 0 ∧ n + 2 ≠ 1 := by omega
    unfold State.decideCopy State.claimCells State.sharedCells State.alpha
    dsimp only
    rw [hup, hf.arriving, hf.group]
    cases hk : c.kind
    case hostTx => exact absurd hk hf.notHost
    case chartTx => exact absurd hk hf.notChart
    all_goals
      rcases c.colour with _ | _ | n
      · rfl
      · rfl
      · rw [if_neg (h01 n).1, if_neg (h01 n).2]
        rfl
  have habove : (Decidable.decide (s.sharedCells c ≠ 0) && Decidable.decide (s.alpha c * s.freeS c.die <
      16 * ((s.queue c.key).used - s.qmin c.key + s.sharedCells c))) = true ↔ s.aboveLimit c := by
    rw [Bool.and_eq_true, decide_eq_true_eq, decide_eq_true_eq, State.aboveLimit]
  rw [hdecide]
  refine ⟨fun h => if_pos (habove.2 h), fun h hsh => ?_, fun h hsh =>
    ⟨min (cellsOf c.bytes.length) (s.qmin c.key - (s.queue c.key).used), ?_⟩⟩
  · rw [if_neg fun e => h (habove.1 e), if_pos hsh]
  · rw [if_neg fun e => h (habove.1 e), if_neg (by omega)]

/-- The registers that an admission writes beside those of reports. -/
def claimRegs : List Reg := [.BPM_CNT, .MAC_CNT, .HBC_CNT, .GGE_CNT, .GGE_OVF, .GGE_FRZ]

/-- From `s` to `t` the claim of copy `id` is decided: other copies, tables, ports, pipelines and the waiting claims stay. -/
structure Decided (id : Nat) (s t : State) : Prop where
  copies : ∀ k, k ≠ id → t.copy k = s.copy k
  tabs : t.tabs = s.tabs
  ports : t.ports = s.ports
  pipes : t.pipes = s.pipes
  claims : ∀ d, (t.buf d).claims = (s.buf d).claims
  regs : RegsBut (fun r _ => r ∈ reportRegs ∨ r ∈ claimRegs) s t

namespace Decided
variable {id : Nat} {s t u : State}

theorem of_reports {p : Reg → Nat → Prop} (h : OnlyReports p s t) (hp : ∀ r i, p r i → r ∈ claimRegs) : Decided id s t where
  copies k _ := by rw [State.copy, State.copy, h.copies]
  tabs := (congrArg State.tabs h.1 :)
  ports := (congrArg State.ports h.1 :)
  pipes := (congrArg State.pipes h.1 :)
  claims d := by rw [h.bufs]
  regs := h.2.mono fun r i e => e.imp_right (hp r i)

theorem of_buffers (h : BufferStep s t) (hc : ∀ k, k ≠ id → t.copy k = s.copy k) : Decided id s t :=
  ⟨hc, h.tabs, h.ports, h.pipes, h.claims, RegsBut.of_regs h.regs⟩

theorem trans (h : Decided id s t) (k : Decided id t u) : Decided id s u :=
  ⟨fun j hj => (k.copies j hj).trans (h.copies j hj), k.tabs.trans h.tabs, k.ports.trans h.ports, k.pipes.trans h.pipes,
    fun d => (k.claims d).trans (h.claims d), h.regs.trans k.regs⟩

/-- Nothing but a copy that goes. -/
theorem release (s : State) (id : Nat) {c : Copy} (hf : c.Fresh) : Decided id s (s.release id c) := by
  obtain ⟨hcopy, hstep⟩ := s.release_effect id hf.group hf.cut
  exact of_buffers hstep fun k hk => (hcopy k).trans (if_neg hk)

end Decided

theorem State.release_copy (s : State) (id : Nat) {c : Copy} (hf : c.Fresh) : (s.release id c).copy id = none := by
  rw [(s.release_effect id hf.group hf.cut).1, if_pos rfl]

theorem State.reg_release (s : State) (id : Nat) {c : Copy} (hf : c.Fresh) (r : Reg) (i : Nat) : (s.release id c).reg r i = s.reg r i := by
  rw [State.reg, State.reg, (s.release_effect id hf.group hf.cut).2.regs]

/-- A refused claim: counted at the port, and the copy is gone. -/
theorem State.decideClaim_refused {s : State} {id m : Nat} {c : Copy} (hc : s.copy id = some c) (hf : c.Fresh)
    (h : s.refusedBy c.port = some m) (d free0 : Nat) :
    ∃ u, s.decideClaim d (.copy id) free0 = (u, false, false) ∧ u.copy id = none ∧ Decided id s u ∧
      (s.counts .MAC_CNT (c.port * 16 + m) → u.reg .MAC_CNT (c.port * 16 + m) = s.reg .MAC_CNT (c.port * 16 + m) + 1) := by
  have hcount : OnlyReports (fun r _ => r = .MAC_CNT) s (s.macCount c.port m 1) := OnlyReports.bump s 1 (.inr rfl)
  have hrun : s.decideClaim d (.copy id) free0 = ((s.macCount c.port m 1).release id c, false, false) := by
    unfold State.decideClaim
    dsimp only
    rw [hc]
    dsimp only
    rw [State.decideCopy_refused h]
    dsimp only
    unfold State.chartFrame State.txDone
    rw [hf.chart, hf.tx]
  refine ⟨_, hrun, State.release_copy _ id hf, ?_, fun hcounts => ?_⟩
  · exact (Decided.of_reports hcount fun _ _ e => by rw [e]; decide).trans (Decided.release _ id hf)
  · rw [State.reg_release _ id hf]
    exact State.reg_bump_counts hcounts 1

/-- A dropped claim: counted by its cause, and the copy is gone. -/
theorem State.decideClaim_dropped {s : State} {id w : Nat} {c : Copy} {free0 : Nat} (hc : s.copy id = some c) (hf : c.Fresh)
    (h : s.decideCopy c free0 = .drop w) (hw : w ≠ 3) (d : Nat) :
    ∃ u, s.decideClaim d (.copy id) free0 = (u, false, false) ∧ u.copy id = none ∧ Decided id s u ∧
      (s.counts .BPM_CNT (d * 6 + w) → u.reg .BPM_CNT (d * 6 + w) = s.reg .BPM_CNT (d * 6 + w) + 1) := by
  let speed := (s.bpmCount d w 1).dropSpeed d
  have hspeed : OnlyReports (fun r _ => r = .HBC_CNT) (s.bpmCount d w 1) speed :=
    State.each_induction _ (OnlyReports.refl _ _) fun u k hu => hu.trans (OnlyReports.bump u 1 (.inr rfl))
  have hgauge : Gauged speed (speed.gauge! (16 + d) 0x45 1 (some (w - 1))) := (Gauged.refl speed).gauge!
  have hcount : OnlyReports (fun r _ => r = .BPM_CNT) s (s.bpmCount d w 1) := OnlyReports.bump s 1 (.inr rfl)
  have hrun : s.decideClaim d (.copy id) free0 = ((speed.gauge! (16 + d) 0x45 1 (some (w - 1))).release id c, false, false) := by
    unfold State.decideClaim
    dsimp only
    rw [hc]
    dsimp only
    rw [h]
    dsimp only
    unfold State.dropClaim
    dsimp only
    rw [if_neg hw]
  refine ⟨_, hrun, State.release_copy _ id hf, ?_, fun hcounts => ?_⟩
  · have hbpm : Decided id s (s.bpmCount d w 1) := .of_reports hcount fun _ _ e => by rw [e]; decide
    have hhbm : Decided id (s.bpmCount d w 1) speed := .of_reports hspeed fun _ _ e => by rw [e]; decide
    have hgge : Decided id speed _ := .of_reports hgauge.reports fun r _ e => List.mem_append_right [Reg.BPM_CNT, .MAC_CNT, .HBC_CNT] e
    exact ((hbpm.trans hhbm).trans hgge).trans (Decided.release _ id hf)
  · rw [State.reg_release _ id hf, hgauge.reports.reg (by decide) (by decide), hspeed.reg (by decide) (by decide)]
    exact State.reg_bump_counts hcounts 1

/-- A claim of a network copy is charged to its queue. -/
theorem State.used_account (s : State) {c : Copy} (hf : c.Fresh) (n : Nat) (dh ds : Int) :
    ((s.account c n dh ds).queue c.key).used = (s.queue c.key).used + n := by
  have hmove (a : Nat) : moveBy a n = a + n := by
    unfold moveBy
    omega
  unfold State.account
  dsimp only
  split
  next h => exact absurd h hf.notHost
  next h => exact absurd h hf.notChart
  next => rw [State.queue_setQueue, if_pos rfl, hmove]

theorem State.gauge_account (s : State) (c : Copy) (dn dh ds : Int) : (s.account c dn dh ds).gauge = s.gauge := by
  unfold State.account
  dsimp only
  split <;> rfl

/-- A granted claim: counted and charged to its queue, and the copy waits at its crossbar input. -/
theorem State.decideClaim_granted {s : State} {id n r sh : Nat} {c : Copy} {free0 : Nat} (hc : s.copy id = some c) (hf : c.Fresh)
    (h : s.decideCopy c free0 = .grant n r sh 0) (d : Nat) :
    ∃ u b, s.decideClaim d (.copy id) free0 = (u, false, b) ∧ u.copy id = some { c with need := n, sh := sh } ∧ Decided id s u ∧
      (u.queue c.key).used = (s.queue c.key).used + n ∧
      (s.counts .BPM_CNT (c.die * 6) → u.reg .BPM_CNT (c.die * 6) = s.reg .BPM_CNT (c.die * 6) + 1) := by
  let charged := s.account c n 0 sh
  let counted := charged.bpmCount c.die 0 1
  let noted := counted.setCopy id (some { c with need := n, sh := sh })
  let x := (noted.buf c.die).fifo c.req c.fifo
  let u := noted.setBuf c.die ((noted.buf c.die).setFifo c.req c.fifo { x with copies := x.copies ++ [(id, cellsOf c.bytes.length)] })
  have hrecord : ({ c with need := n, hr := 0, sh := sh } : Copy) = { c with need := n, sh := sh } := by rw [← hf.hr]
  have hchart (v : State) : v.chartFrame c true = v := by
    unfold State.chartFrame
    rw [hf.chart]
  have hmove (v : State) (m : Int) : v.groupMove c.group m = v := by
    rw [hf.group]
    rfl
  have hrun : s.decideClaim d (.copy id) free0 = (u, false, sh + 0 != 0) := by
    unfold State.decideClaim
    dsimp only
    rw [hc]
    dsimp only
    rw [h]
    dsimp only
    rw [hchart]
    unfold State.accept
    dsimp only
    rw [hrecord, hmove]
    rfl
  have haccount : BufferStep s charged := (BufferStep.refl s).account c _ _ _
  have hcopies : charged.copies = s.copies := s.copies_account c _ _ _
  have hcount : OnlyReports (fun r _ => r = .BPM_CNT) charged counted := OnlyReports.bump charged 1 (.inr rfl)
  have hput : BufferStep counted u := ((BufferStep.refl counted).setCopy id _).setBuf rfl
  have hcopy (k : Nat) : u.copy k = noted.copy k := rfl
  refine ⟨u, _, hrun, ?_, ?_, ?_, fun hcounts => ?_⟩
  · rw [hcopy, State.copy_setCopy, if_pos rfl]
  · have hcharge : Decided id s charged := .of_buffers haccount fun k _ => by rw [State.copy, State.copy, hcopies]
    refine (hcharge.trans (.of_reports hcount fun _ _ e => by rw [e]; decide)).trans (.of_buffers hput fun k hk => ?_)
    rw [hcopy, State.copy_setCopy, if_neg (Ne.symm hk)]
  · have hqueue : u.queue c.key = charged.queue c.key := by
      have hq : u.queue c.key = counted.queue c.key := rfl
      rw [hq, State.queue, State.queue, hcount.queues]
    rw [hqueue, s.used_account hf]
  · have hregs : u.reg .BPM_CNT (c.die * 6) = counted.reg .BPM_CNT (c.die * 6) := by rw [State.reg, State.reg, hput.regs]
    rw [hregs, ← haccount.regs_eq]
    exact State.reg_bump_counts (s := charged) ((congrArg (fun g : GaugeSt => g.held.contains _) (s.gauge_account c _ _ _)).trans hcounts) 1

/-- Requesters without a claim have none decided. -/
theorem State.claimRound_none {s : State} {d : Nat} (h : (s.buf d).claims = []) (free0 : Nat) (l : List Nat) :
    s.claimRound d free0 l = s := by
  induction l with
  | nil => rfl
  | cons r l ih =>
    unfold State.claimRound
    rw [h]
    exact ih

/-- The one claim that waits is decided when its requester's turn comes, and waits no more. -/
theorem State.claimRound_one {s u : State} {d r free0 : Nat} {cl : Claim} {b : Bool} (h : (s.buf d).claims = [(r, cl)])
    (hu : s.decideClaim d cl free0 = (u, false, b)) (hcl : (u.buf d).claims = [(r, cl)]) {l : List Nat} (hr : r ∈ l) :
    ∃ v : BufSt, v.claims = [] ∧ s.claimRound d free0 l = u.setBuf d v := by
  induction l with
  | nil => cases hr
  | cons a l ih =>
    unfold State.claimRound
    rw [h]
    by_cases ha : r = a
    · subst ha
      rw [List.find?_cons_of_pos (by exact beq_self_eq_true r)]
      dsimp only
      rw [hu]
      let waiting : BufSt := { u.buf d with claims := removeFirst (fun x => x.1 == r) (u.buf d).claims }
      have hnone : waiting.claims = [] := by
        show removeFirst _ (u.buf d).claims = []
        rw [hcl, removeFirst, if_pos (beq_self_eq_true r)]
      have hv : (if b then { waiting with ptr := (r + 1) % 15 } else waiting).claims = [] := by
        split
        · exact hnone
        · exact hnone
      exact ⟨_, hv, State.claimRound_none (by rw [State.buf_setBuf, if_pos rfl]; exact hv) free0 l⟩
    · rw [List.find?_cons_of_neg (by simpa using ha)]
      exact ih ((List.mem_cons.1 hr).resolve_left ha)

theorem State.freeS_begin (s : State) (d : Nat) : s.begin.freeS d = s.freeS d := rfl

theorem State.sharedCells_begin (s : State) (c : Copy) : s.begin.sharedCells c = s.sharedCells c := rfl

theorem State.aboveLimit_begin (s : State) (c : Copy) : s.begin.aboveLimit c ↔ s.aboveLimit c := Iff.rfl

/-- What a clock of the BPM of die `d` leaves that decides the claim of copy `id`, the only one that waits. -/
structure ClaimClock (d : Fin 2) (id : Nat) (s t : State) : Prop where
  run : exec (.bpmClaim d) s = .next t
  waiting : (t.buf d.val).claims = []
  copies : ∀ k, k ≠ id → t.copy k = s.copy k
  tabs : t.tabs = s.tabs
  ports : t.ports = s.ports
  pipes : t.pipes = s.pipes
  regs : RegsBut (fun r _ => r ∈ reportRegs ++ claimRegs) s t

/-- A clock of the BPM with one waiting claim: it is decided, and then cells are offered. -/
theorem exec_bpmClaim_one {d : Fin 2} {r id : Nat} {s u : State} {b : Bool} (h : (s.buf d.val).claims = [(r, .copy id)]) (hr : r < 15)
    (hu : s.begin.decideClaim d.val (.copy id) (s.begin.freeS d.val) = (u, false, b)) (hdec : Decided id s.begin u) :
    ∃ t, ClaimClock d id s t ∧ t.copy id = u.copy id ∧ (∀ q i, t.reg q i = u.reg q i) ∧ ∀ k, (t.queue k).used = (u.queue k).used := by
  have hcl : (u.buf d.val).claims = [(r, .copy id)] := (hdec.claims d.val).trans h
  obtain ⟨v, hv, hround⟩ := State.claimRound_one (s := s.begin) h hu hcl (mem_rotation (s.begin.buf d.val).ptr hr)
  have hoffer : OfferStep (u.setBuf d.val v) ((u.setBuf d.val v).offerAll d.val) := (OfferStep.refl _).offerAll d.val
  have hrun : exec (.bpmClaim d) s = .next ((u.setBuf d.val v).offerAll d.val) :=
    congrArg (fun t : State => Host.Outcome.next (t.offerAll d.val)) hround
  generalize (u.setBuf d.val v).offerAll d.val = t at hoffer hrun
  have hcopy (k : Nat) : t.copy k = u.copy k := by
    rw [State.copy, hoffer.copies]
    rfl
  have hreg (q : Reg) (i : Nat) : t.reg q i = u.reg q i := hoffer.step.regs_eq
  refine ⟨t, ⟨hrun, ?_, fun k hk => (hcopy k).trans (hdec.copies k hk), hoffer.step.tabs.trans hdec.tabs, hoffer.step.ports.trans hdec.ports,
    hoffer.step.pipes.trans hdec.pipes, fun q i hq => (hreg q i).trans (hdec.regs q i fun e => hq (List.mem_append.2 e))⟩, hcopy id, hreg,
    hoffer.used⟩
  rw [hoffer.step.claims, State.buf_setBuf, if_pos rfl, hv]

/-- The clock in which a claim is refused, dropped or granted (R73, R237). -/
theorem bpmClaim_outcome {d : Fin 2} {r id : Nat} {c : Copy} {s : State} (h : (s.buf d.val).claims = [(r, .copy id)]) (hr : r < 15)
    (hc : s.copy id = some c) (hdie : c.die = d.val) (hf : c.Fresh) :
    let down := c.port < 130 ∧ s.portState c.port ≠ 2 ∧ s.portState c.port ≠ 4
    let counted : State → Reg → Nat → Prop := fun t r i => s.counts r i → t.reg r i = s.reg r i + 1
    (down → ∃ t, ClaimClock d id s t ∧ t.copy id = none ∧ counted t .MAC_CNT (c.port * 16 + if s.portState c.port = 3 then 12 else 13)) ∧
    (¬ down → s.aboveLimit c → ∃ t, ClaimClock d id s t ∧ t.copy id = none ∧ counted t .BPM_CNT (d.val * 6 + 2)) ∧
    (¬ down → ¬ s.aboveLimit c → s.freeS d.val < s.sharedCells c →
      ∃ t, ClaimClock d id s t ∧ t.copy id = none ∧ counted t .BPM_CNT (d.val * 6 + 1)) ∧
    (¬ down → ¬ s.aboveLimit c → s.sharedCells c ≤ s.freeS d.val → ∃ t, ClaimClock d id s t ∧
      t.copy id = some { c with need := cellsOf c.bytes.length, sh := s.sharedCells c } ∧
      (t.queue c.key).used = (s.queue c.key).used + cellsOf c.bytes.length ∧ counted t .BPM_CNT (d.val * 6)) := by
  intro down counted
  have hc' : s.begin.copy id = some c := hc
  have hrefused : s.begin.refusedBy c.port = if down then some (if s.portState c.port = 3 then 12 else 13) else none :=
    s.begin.refusedBy_eq c.port
  have hdrop {w : Nat} (hw : s.begin.decideCopy c (s.begin.freeS c.die) = .drop w) (h3 : w ≠ 3) :
      ∃ t, ClaimClock d id s t ∧ t.copy id = none ∧ counted t .BPM_CNT (d.val * 6 + w) := by
    obtain ⟨u, hu, hnone, hdec, hcount⟩ := State.decideClaim_dropped hc' hf hw h3 d.val
    rw [hdie] at hu
    obtain ⟨t, hclock, hcopy, hreg, -⟩ := exec_bpmClaim_one h hr hu hdec
    exact ⟨t, hclock, hcopy.trans hnone, fun hh => (hreg _ _).trans (hcount hh)⟩
  refine ⟨fun hdown => ?_, fun hup habove => ?_, fun hup hlimit hempty => ?_, fun hup hlimit hroom => ?_⟩
  · rw [if_pos hdown] at hrefused
    obtain ⟨u, hu, hnone, hdec, hcount⟩ := State.decideClaim_refused hc' hf hrefused d.val (s.begin.freeS d.val)
    obtain ⟨t, hclock, hcopy, hreg, -⟩ := exec_bpmClaim_one h hr hu hdec
    exact ⟨t, hclock, hcopy.trans hnone, fun hh => (hreg _ _).trans (hcount hh)⟩
  all_goals
    rw [if_neg hup] at hrefused
    obtain ⟨hlim, hemp, hgrant⟩ := State.decideCopy_network hf hrefused
    rw [State.aboveLimit_begin] at hlim hemp hgrant
    rw [State.sharedCells_begin, State.freeS_begin, hdie] at hemp hgrant
  · exact hdrop (hlim habove) (by decide)
  · exact hdrop (by rw [State.freeS_begin, hdie]; exact hemp hlimit hempty) (by decide)
  · obtain ⟨n, hverdict⟩ := hgrant hlimit hroom
    obtain ⟨u, b, hu, hcopy, hdec, hused, hcount⟩ := State.decideClaim_granted hc' hf hverdict d.val
    obtain ⟨t, hclock, hcopy', hreg, hused'⟩ := exec_bpmClaim_one h hr hu hdec
    rw [hdie] at hcount
    exact ⟨t, hclock, hcopy'.trans hcopy, (hused' _).trans hused, fun hh => (hreg _ _).trans (hcount hh)⟩

/-- Settles O37: admission by `bpmClaim_outcome`, the crossbar by `xbarMatch_copy` and `xbarMatch_fetched`, linking by `copyLink_bad` and
`copyLink_good`. -/
theorem bufferAdmissionToLinking : Obligations.BufferAdmissionToLinking := by
  refine ⟨?claim, ?copy, ?fetched, ?link⟩
  case claim =>
    intro d r id c s hclaims hr hc hdie hhost hchart hgroup harr hprog htx hneed hhr hfetched hcells hcut n q mn sh a above down frame counted
    have hframe {t : State} (h : ClaimClock d id s t) : frame t := ⟨h.run, h.waiting, h.copies, h.tabs, h.ports, h.pipes, h.regs⟩
    have hlimit : above ↔ s.aboveLimit c := by
      unfold State.aboveLimit
      rw [hdie]
      exact Iff.rfl
    obtain ⟨hrefused, hlim, hempty, hgrant⟩ := bpmClaim_outcome hclaims hr hc hdie ⟨hhost, hchart, hgroup, harr, hprog, htx, hhr, hcut⟩
    refine ⟨fun h => ?_, fun hup h => ?_, fun hup hl h => ?_, fun hup hl h => ?_⟩
    · obtain ⟨t, ht, hnone, hcount⟩ := hrefused h
      exact ⟨t, hframe ht, hnone, hcount⟩
    · obtain ⟨t, ht, hnone, hcount⟩ := hlim hup (hlimit.1 h)
      exact ⟨t, hframe ht, hnone, hcount⟩
    · obtain ⟨t, ht, hnone, hcount⟩ := hempty hup (fun e => hl (hlimit.2 e)) h
      exact ⟨t, hframe ht, hnone, hcount⟩
    · obtain ⟨t, ht, hcopy, hused, hcount⟩ := hgrant hup (fun e => hl (hlimit.2 e)) h
      exact ⟨t, hframe ht, hcopy, hused, hcount⟩
  case copy =>
    intro d i f id g c s hfifo hi hf hg hc hsolo hcount
    obtain ⟨t, hrun, hcopy, hempty, hother, hreg, hqueues, htabs, hports, hregs⟩ := xbarMatch_copy hfifo hi hf hg hc hsolo hcount
    refine ⟨t, hrun, hcopy, hempty, hother, hreg, hqueues, htabs, hports, hregs.mono fun r _ e => ?_⟩
    rcases e with e | e
    · exact List.mem_append_left _ e
    · simp only [List.mem_cons, List.not_mem_nil, or_false, List.mem_append] at e ⊢
      tauto
  case fetched =>
    intro d k g p f rest s hfifo hg hspill hfetch hgrant hopen hcount
    obtain ⟨t, hrun, hempty, hcopies, hqueue, hother, hreg, hregs⟩ := xbarMatch_fetched hfifo hg hspill hfetch hgrant hopen hcount
    exact ⟨t, hrun, hempty, hcopies, hqueue, hother, hreg, hregs.mono fun r _ e => List.mem_append.2 e⟩
  case link =>
    intro id c s hc hneed hcells hcut hdone hlinked htx hstage hprog hgroup hkind hflush hopen
    have hw : c.Whole := ⟨hneed, hcells, hcut, hdone, htx, hstage, hgroup⟩
    refine ⟨fun hbad hcount => copyLink_bad hc hw hflush hopen hbad hcount, fun hgood _ => ?_⟩
    obtain ⟨t, x, hrun, hx, hlink, hd, hn, hb, hcl, hchain, hcopies, hqueues, htabs, hports, hregs⟩ := copyLink_good hc hw hflush hopen hgood
    refine ⟨t, x, hrun, hx, hlink, hd, hn, hb, hcl, hchain, hcopies, hqueues, htabs, hports, hregs.mono fun r _ e => ?_⟩
    rcases e with e | rfl
    · exact List.mem_append_left _ e
    · exact List.mem_append_right _ (by decide)

end Sys2Proof.Machine
end

section
/-! PROOFS. What the work of engines and pipelines leaves: needles, pipelines and staging change, and counts. -/
namespace Sys2Proof.Machine

/-- From `s` to `t` nothing changes but needles, pipelines, the staging of frames, the registers of `p` and reports, and no counter
comes to be held frozen. -/
structure EngineStep (p : Reg → Nat → Prop) (s t : State) : Prop where
  reports : OnlyReports p s { t with needles := s.needles, pipes := s.pipes, staged := s.staged }
  held : t.gauge.held = s.gauge.held

namespace EngineStep
variable {p : Reg → Nat → Prop} {s t u : State}

theorem trans (h : EngineStep p s t) (h' : EngineStep p t u) : EngineStep p s u := by
  have hrest := (congrArg (fun x : State => { x with needles := s.needles, pipes := s.pipes, staged := s.staged }) h'.reports.1 :)
  exact ⟨h.reports.trans ⟨hrest, h'.reports.2⟩, h'.held.trans h.held⟩

theorem mono {q : Reg → Nat → Prop} (h : EngineStep p s t) (hpq : ∀ r i, p r i → q r i) : EngineStep q s t :=
  ⟨h.reports.mono hpq, h.held⟩

/-- A report or a count leaves needles, pipelines and staging as well. -/
theorem of_reports (h : OnlyReports p s t) (hh : t.gauge.held = s.gauge.held) : EngineStep p s t :=
  ⟨⟨(congrArg (fun x : State => { x with needles := s.needles, pipes := s.pipes, staged := s.staged }) h.1 :), h.2⟩, hh⟩

/-- Needles, pipelines and staging change alone. -/
theorem of_rest (h : { t with out := s.out, needles := s.needles, pipes := s.pipes, staged := s.staged } = s) : EngineStep p s t := by
  have hrest := (congrArg (fun x : State =>
    { x with bus := s.bus, regs := s.regs, dma := s.dma, flt := s.flt, jrn := s.jrn, gauge := s.gauge }) h :)
  exact ⟨⟨hrest, fun r i _ => (congrArg (fun x : State => x.reg r i) h :)⟩, (congrArg (fun x : State => x.gauge.held) h :)⟩

theorem setPipe (s : State) (n : Nat) (v : PipeSt) : EngineStep p s (s.setPipe n v) := of_rest rfl

theorem dropStaged (s : State) (id : Nat) : EngineStep p s (s.dropStaged id) := of_rest rfl

theorem begin (s : State) : EngineStep p s s.begin := of_rest rfl

theorem bump (s : State) {r : Reg} {i : Nat} (n : Nat) (h : r ∈ reportRegs ∨ p r i) : EngineStep p s (s.bump r i n) :=
  of_reports (OnlyReports.bump s n h) (s.held_bump r i n)

theorem setFld (s : State) {f : Fld} {i : Nat} (v : Nat) (h : f.reg ∈ reportRegs ∨ p f.reg i) : EngineStep p s (s.setFld f i v) :=
  of_reports (OnlyReports.setFld s v h) rfl

/-- A counted event. -/
theorem gauge! (hp : ∀ r i, r ∈ gaugeRegs → p r i) (s : State) (b code v : Nat) (q : Option Nat) :
    EngineStep p s (s.gauge! b code v q) := by
  have h : Gauged s (s.gauge! b code v q) := (Gauged.refl s).gauge!
  exact of_reports (h.reports.mono hp) h.held

theorem reg (h : EngineStep p s t) {r : Reg} {i : Nat} (hr : r ∉ reportRegs) (hp : ¬ p r i) : t.reg r i = s.reg r i :=
  h.reports.2 r i fun e => e.elim hr hp

theorem fld (h : EngineStep p s t) {f : Fld} {i : Nat} (hr : f.reg ∉ reportRegs) (hp : ¬ p f.reg i) : t.fld f i = s.fld f i := by
  unfold State.fld
  rw [h.reg hr hp]

theorem inForce (h : EngineStep p s t) : t.inForce = s.inForce := (congrArg State.inForce h.reports.1 :)

theorem effBit (h : EngineStep p s t) (f : Fld) (i : Nat) : t.effBit f i = s.effBit f i := by
  unfold State.effBit State.eff State.regInForce
  rw [h.inForce]

theorem isYarn (h : EngineStep p s t) (q : Nat) : t.isYarn q = s.isYarn q := by
  rw [State.isYarn, State.isYarn, h.effBit]

theorem counts (h : EngineStep p s t) {r : Reg} {i : Nat} (hc : s.counts r i) : t.counts r i := by
  unfold State.counts
  rw [h.held]
  exact hc

/-- A counter that is not held counts at once, behind what leaves it alone. -/
theorem reg_bump (h : EngineStep p s t) {r : Reg} {i : Nat} (hc : s.counts r i) (hr : r ∉ reportRegs) (hp : ¬ p r i) (n : Nat) :
    (t.bump r i n).reg r i = s.reg r i + BitVec.ofNat 64 n := by
  rw [State.reg_bump_counts (h.counts hc), h.reg hr hp]

/-- Where needles stay. -/
theorem of_needles (h : EngineStep p s t) (hn : t.needles = s.needles) :
    OnlyReports p s { t with pipes := s.pipes, staged := s.staged } := by
  have h' := h.reports
  rw [← hn] at h'
  exact h'

end EngineStep

/-- A counter that is held or not leaves needles, pipelines, staging and all else that is no count. -/
theorem State.bump_rest (s : State) (r : Reg) (i n : Nat) :
    { s.bump r i n with regs := s.regs, gauge := s.gauge } = s := by
  unfold State.bump State.pend State.lose
  split
  · dsimp only
    split
    · rfl
    · split <;> rfl
  · rfl

@[simp] theorem State.pipes_bump (s : State) (r : Reg) (i n : Nat) : (s.bump r i n).pipes = s.pipes :=
  (congrArg State.pipes (s.bump_rest r i n) :)

@[simp] theorem State.staged_bump (s : State) (r : Reg) (i n : Nat) : (s.bump r i n).staged = s.staged :=
  (congrArg State.staged (s.bump_rest r i n) :)

@[simp] theorem State.needles_bump (s : State) (r : Reg) (i n : Nat) : (s.bump r i n).needles = s.needles :=
  (congrArg State.needles (s.bump_rest r i n) :)

@[simp] theorem State.pipe_bump (s : State) (r : Reg) (i n m : Nat) : (s.bump r i n).pipe m = s.pipe m := by
  rw [State.pipe, State.pipe, State.pipes_bump]

theorem State.pipes_gauge! (s : State) (b code v : Nat) (q : Option Nat) : (s.gauge! b code v q).pipes = s.pipes :=
  (congrArg State.pipes (Gauged.gauge! (Gauged.refl s) (b := b) (code := code) (v := v) (q := q)).reports.1 :)

/-! ### Work on one needle of a pipeline -/

theorem State.needle_setPipe (s : State) (n : Nat) (v : PipeSt) (k : Nat) : (s.setPipe n v).needle k = s.needle k := rfl

theorem State.pipes_setNeedle (s : State) (k : Nat) (v : Option Needle) : (s.setNeedle k v).pipes = s.pipes := by
  unfold State.setNeedle
  rfl

theorem State.staged_setNeedle (s : State) (k : Nat) (v : Option Needle) : (s.setNeedle k v).staged = s.staged := by
  unfold State.setNeedle
  rfl

/-- A needle starts, goes on or ends: the counts of its engine change with it (Table 4-9). -/
theorem EngineStep.setNeedle {p : Reg → Nat → Prop} (s : State) {k : Nat} (v : Option Needle) (h : p .STE_ENG_STS (k / 96)) :
    EngineStep p s (s.setNeedle k v) := by
  have hset : EngineStep p s { s with needles := SMap.set (fun _ => none) s.needles k v } := of_rest rfl
  unfold State.setNeedle
  exact (hset.trans (setFld _ _ (.inr h))).trans (setFld _ _ (.inr h))

/-- From `s` to `t` nothing changes but needle `k`, pipeline `n`, the registers of `p` and reports. -/
structure NeedleStep (p : Reg → Nat → Prop) (n k : Nat) (s t : State) : Prop where
  step : EngineStep p s t
  staged : t.staged = s.staged
  pipes : ∀ m, m ≠ n → t.pipe m = s.pipe m
  needles : ∀ j, j ≠ k → t.needle j = s.needle j

namespace NeedleStep
variable {p : Reg → Nat → Prop} {n k : Nat} {s t u : State}

theorem trans (h : NeedleStep p n k s t) (h' : NeedleStep p n k t u) : NeedleStep p n k s u where
  step := h.step.trans h'.step
  staged := h'.staged.trans h.staged
  pipes m hm := (h'.pipes m hm).trans (h.pipes m hm)
  needles j hj := (h'.needles j hj).trans (h.needles j hj)

theorem mono {q : Reg → Nat → Prop} (h : NeedleStep p n k s t) (hpq : ∀ r i, p r i → q r i) : NeedleStep q n k s t :=
  { h with step := h.step.mono hpq }

/-- Reports and counts leave needles and pipelines. -/
theorem of_reports (h : OnlyReports p s t) (hh : t.gauge.held = s.gauge.held) : NeedleStep p n k s t where
  step := EngineStep.of_reports h hh
  staged := (congrArg State.staged h.1 :)
  pipes m _ := (congrArg (fun x : State => x.pipe m) h.1 :)
  needles j _ := (congrArg (fun x : State => x.needle j) h.1 :)

theorem refl (p : Reg → Nat → Prop) (n k : Nat) (s : State) : NeedleStep p n k s s := of_reports (OnlyReports.refl p s) rfl

theorem begin (s : State) : NeedleStep p n k s s.begin := of_reports (OnlyReports.begin p s) rfl

theorem bump (s : State) {r : Reg} {i : Nat} (x : Nat) (h : r ∈ reportRegs ∨ p r i) : NeedleStep p n k s (s.bump r i x) :=
  of_reports (OnlyReports.bump s x h) (s.held_bump r i x)

theorem gauge! (hp : ∀ r i, r ∈ gaugeRegs → p r i) (s : State) (b code v : Nat) (q : Option Nat) :
    NeedleStep p n k s (s.gauge! b code v q) := by
  have h : Gauged s (s.gauge! b code v q) := (Gauged.refl s).gauge!
  exact of_reports (h.reports.mono hp) h.held

theorem setPipe (s : State) (v : PipeSt) : NeedleStep p n k s (s.setPipe n v) where
  step := EngineStep.setPipe s n v
  staged := rfl
  pipes m hm := by rw [State.pipe_setPipe, if_neg hm.symm]
  needles _ _ := rfl

theorem setNeedle (s : State) (v : Option Needle) (h : p .STE_ENG_STS (k / 96)) : NeedleStep p n k s (s.setNeedle k v) where
  step := EngineStep.setNeedle s v h
  staged := State.staged_setNeedle s k v
  pipes m _ := by rw [State.pipe, State.pipes_setNeedle, State.pipe]
  needles j hj := by rw [State.needle_setNeedle, if_neg hj.symm]

theorem onlyReports (h : NeedleStep p n k s t) : OnlyReports p s { t with needles := s.needles, pipes := s.pipes } := by
  have h' := h.step.reports
  rw [← h.staged] at h'
  exact h'

end NeedleStep

end Sys2Proof.Machine
end

section
/-! PROOFS. O40: the fixed parser takes one Yarn frame, and drops it or passes it on (R107, R280 to R282). -/
namespace Sys2Proof.Machine

/-- Pipeline `n` has taken a frame from its fixed parser, leaving `rest`, and has counted it; counters `p` of YRN_CNT may have counted
as well. -/
structure YarnTaken (n : Nat) (rest : List Pkt) (p : Nat → Prop) (s t : State) : Prop where
  step : EngineStep (fun r i => r = .STE_CNT ∧ i = n * 16 + 13 ∨ r = .YRN_CNT ∧ p i) s t
  counted : t.reg .STE_CNT (n * 16 + 13) = s.reg .STE_CNT (n * 16 + 13) + 1
  needles : t.needles = s.needles
  parser : (t.pipe n).parser = rest
  others : ∀ m, m ≠ n → t.pipe m = s.pipe m

/-- The state in which pipeline `n` has taken and counted a frame of its fixed parser. -/
def State.parsed (s : State) (n : Nat) (rest : List Pkt) : State :=
  (s.begin.setPipe n { s.pipe n with parser := rest }).steCount n 13

theorem State.pipe_parsed (s : State) (n m : Nat) (rest : List Pkt) :
    (s.parsed n rest).pipe m = if n = m then { s.pipe n with parser := rest } else s.pipe m := by
  rw [State.parsed, State.steCount, State.pipe_bump, State.pipe_setPipe]
  rfl

@[simp] theorem State.staged_parsed (s : State) (n : Nat) (rest : List Pkt) : (s.parsed n rest).staged = s.staged := by
  rw [State.parsed, State.steCount, State.staged_bump]
  rfl

namespace YarnTaken
variable {n : Nat} {rest : List Pkt} {p : Nat → Prop} {s t : State}

theorem start (hc : s.counts .STE_CNT (n * 16 + 13)) : YarnTaken n rest (fun _ => False) s (s.parsed n rest) where
  step := ((EngineStep.begin s).trans (EngineStep.setPipe _ n _)).trans (EngineStep.bump _ 1 (.inr (.inl ⟨rfl, rfl⟩)))
  counted := by
    rw [State.parsed, State.steCount, State.reg_bump_counts]
    · rfl
    · exact hc
  needles := by
    rw [State.parsed, State.steCount, State.needles_bump]
    rfl
  parser := by rw [State.pipe_parsed, if_pos rfl]
  others m hm := by rw [State.pipe_parsed, if_neg hm.symm]

/-- A count of the port's die. -/
theorem yrnCount (h : YarnTaken n rest p s t) (d i : Nat) :
    YarnTaken n rest (fun k => p k ∨ k = d * 19 + i) s (t.yrnCount d i 1) where
  step := (h.step.mono fun _ _ e => e.imp_right fun e => ⟨e.1, .inl e.2⟩).trans (EngineStep.bump _ 1 (.inr (.inr ⟨rfl, .inr rfl⟩)))
  counted := by
    have hreg : (t.yrnCount d i 1).reg .STE_CNT (n * 16 + 13) = t.reg .STE_CNT (n * 16 + 13) :=
      (EngineStep.bump (p := fun r _ => r = .YRN_CNT) t 1 (.inr rfl)).reg (by decide) (by decide)
    rw [hreg, h.counted]
  needles := (State.needles_bump ..).trans h.needles
  parser := by rw [State.yrnCount, State.pipe_bump, h.parser]
  others m hm := by rw [State.yrnCount, State.pipe_bump, h.others m hm]

theorem reg_yrnCount (h : YarnTaken n rest p s t) {d i : Nat} (hp : ¬ p (d * 19 + i)) (hc : s.counts .YRN_CNT (d * 19 + i)) :
    (t.yrnCount d i 1).reg .YRN_CNT (d * 19 + i) = s.reg .YRN_CNT (d * 19 + i) + 1 :=
  h.step.reg_bump hc (by decide) (by rintro (⟨e, -⟩ | ⟨-, e⟩); exacts [absurd e (by decide), hp e]) 1

/-- The frame's staging goes. -/
theorem dropStaged (h : YarnTaken n rest p s t) (id : Nat) : YarnTaken n rest p s (t.dropStaged id) where
  step := h.step.trans (EngineStep.dropStaged t id)
  counted := h.counted
  needles := h.needles
  parser := h.parser
  others := h.others

/-- The frame goes on to action merge. -/
theorem setMerge (h : YarnTaken n rest p s t) (l : List Merge) :
    YarnTaken n rest p s (t.setPipe n { t.pipe n with merge := l }) where
  step := h.step.trans (EngineStep.setPipe t n _)
  counted := h.counted
  needles := h.needles
  parser := by rw [State.pipe_setPipe, if_pos rfl, h.parser]
  others m hm := by rw [State.pipe_setPipe, if_neg (Ne.symm hm), h.others m hm]

/-- All that the command changes but the pipeline and the staging are its two counts. -/
theorem onlyReports (h : YarnTaken n rest p s t) :
    OnlyReports (fun r _ => r = .STE_CNT ∨ r = .YRN_CNT) s { t with pipes := s.pipes, staged := s.staged } :=
  (h.step.mono fun _ _ e => e.imp And.left And.left).of_needles h.needles

end YarnTaken

/-- A frame that the fixed parser drops leaves its staging and is counted. -/
theorem State.yarnDrop_effect {n : Nat} {rest : List Pkt} {p : Nat → Prop} {s t : State} (h : YarnTaken n rest p s t) (x : Pkt)
    {i : Nat} (hp : ¬ p (portDie x.src * 19 + i)) :
    (∃ q, YarnTaken n rest q s (t.yarnDrop x i)) ∧ (t.yarnDrop x i).pipe n = t.pipe n ∧ (t.yarnDrop x i).stagedOf x.id = none ∧
    (s.counts .YRN_CNT (portDie x.src * 19 + i) →
      (t.yarnDrop x i).reg .YRN_CNT (portDie x.src * 19 + i) = s.reg .YRN_CNT (portDie x.src * 19 + i) + 1) := by
  refine ⟨⟨_, (h.dropStaged x.id).yrnCount _ i⟩, ?_, ?_, fun hc => (h.dropStaged x.id).reg_yrnCount hp hc⟩
  · rw [State.yarnDrop, State.yrnCount, State.pipe_bump]
    rfl
  · rw [State.yarnDrop, State.yrnCount, State.stagedOf, State.staged_bump]
    simp [State.dropStaged, SMap.get_set]

/-- Action merge's entry of a Yarn frame that goes on: the frame without header and CFS (R280). -/
def State.yarnEntry (s : State) (p : Pkt) (h : YHdr) (own : Bool) : Merge :=
  let b := p.bytes
  let body := (b.drop 16).take (b.length - 20)
  .yarn { p with bytes := body } (s.yarnMd p b body.length) (beAt b 0 1 % 8) (beAt b 1 1 / 64) h (sliceZ b 12 4) own

/-- A frame goes on to action merge behind what stands there, and is counted as `i`. -/
def State.yarnPass (s : State) (n : Nat) (p : Pkt) (i : Nat) (e : Merge) : State :=
  let t := s.yrnCount (portDie p.src) i 1
  t.setPipe n { t.pipe n with merge := (t.pipe n).merge ++ [e] }

theorem State.yarnPass_effect {n : Nat} {rest : List Pkt} {s : State} (hc : s.counts .STE_CNT (n * 16 + 13)) (x : Pkt) (i : Nat)
    (e : Merge) : let t := (s.parsed n rest).yarnPass n x i e
    (∃ q, YarnTaken n rest q s t) ∧ (t.pipe n).merge = (s.pipe n).merge ++ [e] ∧ t.staged = s.staged ∧
    (s.counts .YRN_CNT (portDie x.src * 19 + i) →
      t.reg .YRN_CNT (portDie x.src * 19 + i) = s.reg .YRN_CNT (portDie x.src * 19 + i) + 1) := by
  have h : YarnTaken n rest _ s _ := (YarnTaken.start hc).yrnCount (portDie x.src) i
  refine ⟨⟨_, h.setMerge _⟩, ?_, ?_, fun hi => (YarnTaken.start hc).reg_yrnCount id hi⟩
  · rw [State.yarnPass, State.pipe_setPipe, if_pos rfl, State.yrnCount, State.pipe_bump, State.pipe_parsed, if_pos rfl]
  · exact (State.staged_bump ..).trans (State.staged_parsed ..)

/-- YARN_PARSE of a frame: Table 11-3 from the top (R107, R281). -/
theorem exec_yarnParse {n : Fin 16} {p : Pkt} {rest : List Pkt} {s : State} (hp : (s.pipe n.val).parser = p :: rest) :
    let b := p.bytes
    let h := yarnHdr b
    let u := s.parsed n.val rest
    let me := u.fld F.YRN_ID_DEV 0
    exec (.yarnParse n) s = .next (
      if !u.bit F.YRN_ID_EN 0 || beAt b 0 1 / 64 != 1 || h.type == 3 || b.length < 80 then u.yarnDrop p 7
      else if h.type ≤ 1 && h.src == me then u.yarnDrop p 11
      else if h.type = 2 then u.yarnPass n.val p 5 (u.yarnEntry p h true)
      else if h.type = 1 then u.yarnPass n.val p 4
        (u.yarnEntry p { h with dst := (h.dst + u.fld F.YRN_MC_MC_OFF 0) % 65536, hops := h.hops - 1 } true)
      else if h.dst % 16384 ≠ me then
        if h.hops ≤ 1 then (u.yrnCount (portDie p.src) 6 1).yarnDrop p 10
        else u.yarnPass n.val p 6 (u.yarnEntry p { h with hops := h.hops - 1, dst := h.dst % 16384 } false)
      else if u.isYarn h.port then u.yarnDrop p 7
      else u.yarnPass n.val p 3 (u.yarnEntry p h true)) := by
  intro b h u me
  show execYarnParse n s = _
  have hp' : (s.begin.pipe n.val).parser = p :: rest := hp
  simp only [execYarnParse, hp']
  simp only [apply_ite Host.Outcome.next]
  rfl

/-- Settles O40: Table 11-3 row by row, over what every taken frame leaves and what a drop and a pass add. -/
theorem yarnFramesParsed : Obligations.YarnFramesParsed := by
  intro n p rest s hp hc b h d me good frame dropped passed
  have hstart := YarnTaken.start (rest := rest) hc
  have hfld : ∀ f : Fld, f.reg ≠ .STE_CNT → f.reg ∉ reportRegs → ∀ i, (s.parsed n.val rest).fld f i = s.fld f i := by
    intro f h1 h2 i
    exact hstart.step.fld h2 (by rintro (⟨e, -⟩ | ⟨-, e⟩); exacts [h1 e, e])
  have drop : ∀ {q : Nat → Prop} {t : State} (i : Nat), YarnTaken n.val rest q s t → (t.pipe n.val).merge = (s.pipe n.val).merge →
      ¬ q (d * 19 + i) → exec (.yarnParse n) s = .next (t.yarnDrop p i) → dropped i := by
    intro q t i ht hmerge hq he
    obtain ⟨⟨_, hd⟩, hpipe, hstaged, hcount⟩ := State.yarnDrop_effect ht p hq
    exact ⟨_, ⟨he, hd.parser, hd.counted, hd.others, hd.onlyReports⟩, by rw [hpipe, hmerge], hstaged, hcount⟩
  have pass : ∀ i x own, exec (.yarnParse n) s = .next ((s.parsed n.val rest).yarnPass n.val p i
      ((s.parsed n.val rest).yarnEntry p x own)) → passed i x own := by
    intro i x own he
    obtain ⟨⟨_, hd⟩, hmerge, hstaged, hcount⟩ := State.yarnPass_effect (rest := rest) hc p i ((s.parsed n.val rest).yarnEntry p x own)
    exact ⟨_, _, ⟨he, hd.parser, hd.counted, hd.others, hd.onlyReports⟩, hmerge, hstaged, hcount⟩
  have hmerge : ((s.parsed n.val rest).pipe n.val).merge = (s.pipe n.val).merge := by rw [State.pipe_parsed, if_pos rfl]
  have hrun := exec_yarnParse hp
  simp only [hstart.step.isYarn, hfld F.YRN_ID_DEV (by decide) (by decide), hfld F.YRN_MC_MC_OFF (by decide) (by decide)] at hrun
  have hgood : (!(s.parsed n.val rest).bit F.YRN_ID_EN 0 || beAt p.bytes 0 1 / 64 != 1 || (yarnHdr p.bytes).type == 3 ||
      p.bytes.length < 80) = true ↔ ¬ good := by
    rw [State.bit, hfld F.YRN_ID_EN (by decide) (by decide)]
    simp [good, b, h]
    omega
  have hown : (decide ((yarnHdr p.bytes).type ≤ 1) && (yarnHdr p.bytes).src == s.fld F.YRN_ID_DEV 0) = true ↔
      h.type ≤ 1 ∧ h.src = me := by
    rw [Bool.and_eq_true, decide_eq_true_iff, beq_iff_eq]
  simp only [hgood, hown] at hrun
  refine ⟨fun hg => ?_, fun hg h1 hs => ?_, fun hg h2 => ?_, fun hg h1 hs => ?_, fun hg h0 hs => ⟨fun hd hh => ?_, fun hd hh => ?_,
    fun hd hy => ?_, fun hd hy => ?_⟩⟩
  · exact drop 7 hstart hmerge id (by rw [hrun, if_pos hg])
  · exact drop 11 hstart hmerge id (by rw [hrun, if_neg (not_not.2 hg), if_pos ⟨h1, hs⟩])
  · have hs : ¬ (h.type ≤ 1 ∧ h.src = me) := by omega
    exact pass 5 h true (by rw [hrun, if_neg (not_not.2 hg), if_neg hs, if_pos h2])
  · have h2 : h.type ≠ 2 := by omega
    exact pass 4 _ true (by rw [hrun, if_neg (not_not.2 hg), if_neg (hs ·.2), if_neg h2, if_pos h1])
  all_goals
    have h2 : h.type ≠ 2 := by omega
    have h1 : h.type ≠ 1 := by omega
    rw [if_neg (not_not.2 hg), if_neg (hs ·.2), if_neg h2, if_neg h1] at hrun
  · refine drop 10 (hstart.yrnCount (portDie p.src) 6) ?_ (by rintro (e | e); exacts [e, absurd (Nat.add_left_cancel e) (by decide)]) ?_
    · rw [State.yrnCount, State.pipe_bump, hmerge]
    · rw [hrun, if_pos hd, if_pos hh]
  · exact pass 6 _ false (by rw [hrun, if_pos hd, if_neg (Nat.not_le.2 hh)])
  · exact drop 7 hstart hmerge id (by rw [hrun, if_neg (not_not.2 hd), if_pos hy])
  · exact pass 3 h true (by rw [hrun, if_neg (not_not.2 hd), if_neg (by rw [hy]; decide)])

end Sys2Proof.Machine
end

section
/-! PROOFS. O24: program images are written, armed, switched and drained (R113, R116 to R118). -/
namespace Sys2Proof.Machine

theorem modifyAt_const {α : Type} (l : List α) (i : Nat) (v : α) : modifyAt l i (fun _ => v) = l.set i v := by
  induction l generalizing i with
  | nil => rfl
  | cons x l ih =>
    cases i with
    | zero => rfl
    | succ i => rw [modifyAt, ih, List.set_cons_succ]

theorem getField_one (v : BitVec 64) (b : Nat) : getField v b 1 = if v.getLsbD b then 1 else 0 := by
  refine Nat.eq_of_testBit_eq fun i => ?_
  rw [testBit_getField]
  cases i with
  | zero => cases v.getLsbD b <;> simp
  | succ i => cases v.getLsbD b <;> simp [Nat.testBit_succ]

/-- A field of another register reads what it read. -/
theorem State.fld_setFld_reg (s : State) {f g : Fld} {i j x : Nat} (h : f.reg ≠ g.reg) : (s.setFld f i x).fld g j = s.fld g j :=
  State.fld_setFld_ne _ _ _ _ _ _ (.inl h)

/-! ### What a program image's operations leave -/

/-- From `s` to `t` nothing changes but STE_IMG and STE_IMG_STS of pipeline `n`, the pipeline itself, and reports. -/
structure ImageStep (n : Nat) (s t : State) : Prop where
  reports : OnlyReports (fun r k => (r = .STE_IMG ∨ r = .STE_IMG_STS) ∧ k = n) s { t with pipes := s.pipes }
  others : ∀ m, m ≠ n → t.pipe m = s.pipe m

namespace ImageStep
variable {n : Nat} {s t u : State}

theorem of_onlyReports (h : OnlyReports (fun r k => (r = .STE_IMG ∨ r = .STE_IMG_STS) ∧ k = n) s t) : ImageStep n s t where
  reports := ⟨(congrArg (fun x : State => { x with pipes := s.pipes }) h.1 :), h.2⟩
  others m _ := (congrArg (fun x : State => x.pipe m) h.1 :)

theorem refl (n : Nat) (s : State) : ImageStep n s s := of_onlyReports (OnlyReports.refl _ s)

theorem trans (h : ImageStep n s t) (h' : ImageStep n t u) : ImageStep n s u := by
  have hrest := (congrArg (fun x : State => { x with pipes := s.pipes }) h'.reports.1 :)
  exact ⟨h.reports.trans ⟨hrest, h'.reports.2⟩, fun m hm => (h'.others m hm).trans (h.others m hm)⟩

theorem setFld (s : State) {f : Fld} (v : Nat) (hf : f.reg = .STE_IMG ∨ f.reg = .STE_IMG_STS) : ImageStep n s (s.setFld f n v) :=
  of_onlyReports (OnlyReports.setFld s v (.inr ⟨hf, rfl⟩))

theorem imageEvent (s : State) {f : Fld} (hf : f.reg = .STE_IMG_STS) : ImageStep n s (s.imageEvent f n) :=
  (setFld s 1 (.inr hf)).trans (of_onlyReports (OnlyReports.interrupt _ _ _))

theorem setArm (s : State) (d : Nat) (v : Option (Nat × Bool × Nat × Nat)) : ImageStep n s (s.setArm n d v) where
  reports := ⟨rfl, fun _ _ _ => rfl⟩
  others m hm := by rw [State.setArm, State.pipe_setPipe, if_neg hm.symm]

theorem fld_at (h : ImageStep n s t) : t.fld F.STE_IMG_AT_AT n = s.fld F.STE_IMG_AT_AT n :=
  h.reports.fld (by decide) (by simp)

theorem tikCount (h : ImageStep n s t) : t.tikCount = s.tikCount := h.reports.reg (by decide) (by simp)

end ImageStep

theorem State.fld_imageEvent (s : State) {f g : Fld} {n m : Nat} (hg : g.reg ∉ reportRegs) :
    (s.imageEvent f n).fld g m = (s.setFld f n 1).fld g m :=
  (OnlyReports.interrupt (fun _ _ => False) (s.setFld f n 1) 4).fld hg id

@[simp] theorem State.fld_setArm (s : State) (n d : Nat) (v : Option (Nat × Bool × Nat × Nat)) (f : Fld) (i : Nat) :
    (s.setArm n d v).fld f i = s.fld f i := rfl

/-- An event of a program image leaves the pipelines. -/
theorem State.pipes_imageEvent (s : State) (f : Fld) (n : Nat) : (s.imageEvent f n).pipes = s.pipes :=
  (congrArg State.pipes (OnlyReports.interrupt (fun _ _ => False) (s.setFld f n 1) 4).1 :)

@[simp] theorem State.arm_imageEvent (s : State) (f : Fld) (n m d : Nat) : (s.imageEvent f n).arm m d = s.arm m d := by
  rw [State.arm, State.pipe, State.pipes_imageEvent]
  rfl

theorem State.arm_setArm (s : State) (n : Nat) {d d' : Nat} (v : Option (Nat × Bool × Nat × Nat)) (h : d < (s.pipe n).arms.length) :
    (s.setArm n d v).arm n d' = if d = d' then v else s.arm n d' := by
  rw [State.setArm, State.arm, State.pipe_setPipe, if_pos rfl]
  simp only [modifyAt_const, State.arm, List.getD_eq_getElem?_getD, List.getElem?_set]
  split
  · rfl
  · rfl

/-- The two switches of a pipeline stay two. -/
def State.twoArms (s : State) (n : Nat) : Prop := (s.pipe n).arms.length = 2

theorem State.twoArms_setArm {s : State} {n : Nat} (h : s.twoArms n) (d : Nat) (v : Option (Nat × Bool × Nat × Nat)) :
    (s.setArm n d v).twoArms n := by
  rw [State.twoArms, State.setArm, State.pipe_setPipe, if_pos rfl, modifyAt_const, List.length_set]
  exact h

/-! ### The write that arms and cancels (R117) -/

/-- What the write for direction `d` leaves of direction `e`: all of it where they differ, and OLD_BUSY, the active set and
ARM_REFUSED, once it is set, in either. -/
structure ArmKept (n : Nat) (s t : State) : Prop extends ImageStep n s t where
  active : ∀ d, t.activeSet n d = s.activeSet n d
  busy : ∀ d, t.fld (oldBusyFld d) n = s.fld (oldBusyFld d) n
  refused : s.fld F.STE_IMG_STS_ARM_REFUSED n = 1 → t.fld F.STE_IMG_STS_ARM_REFUSED n = 1
  two : s.twoArms n → t.twoArms n

/-- Direction `d`'s switch is as it was. -/
structure ArmSame (n d : Nat) (s t : State) : Prop where
  arm : t.arm n d = s.arm n d
  arming : t.fld (imgArm d) n = s.fld (imgArm d) n
  next : t.fld (imgNext d) n = s.fld (imgNext d) n

/-- What a write of `arm`, `next` and `imm` does to direction `d` (R117). -/
structure ArmWritten (n d : Nat) (arm : Bool) (next : Nat) (imm : Bool) (s t : State) : Prop where
  pending : arm = true → (s.arm n d).isSome = true → t.arm n d = s.arm n d
  barred : arm = true → s.arm n d = none → s.fld (oldBusyFld d) n = 1 ∨ next = s.activeSet n d →
    t.fld F.STE_IMG_STS_ARM_REFUSED n = 1 ∧ t.arm n d = none
  armed : arm = true → s.arm n d = none → ¬ (s.fld (oldBusyFld d) n = 1 ∨ next = s.activeSet n d) →
    t.arm n d = some (next, imm, s.fld F.STE_IMG_AT_AT n, s.tikCount.toNat) ∧ t.fld (imgArm d) n = 1 ∧ t.fld (imgNext d) n = next
  cancelled : arm = false → t.arm n d = none ∧ t.fld (imgArm d) n = 0

/-- The state with direction `d`'s NEXT and ARM written and its switch pending as `x`. -/
def State.recordArm (s : State) (n d next arm : Nat) (x : Option (Nat × Bool × Nat × Nat)) : State :=
  ((s.setFld (imgNext d) n next).setFld (imgArm d) n arm).setArm n d x

theorem imgFlds_reg (d : Nat) : (imgNext d).reg = .STE_IMG ∧ (imgArm d).reg = .STE_IMG ∧ (imgActive d).reg = .STE_IMG ∧
    (oldBusyFld d).reg = .STE_IMG_STS ∧ (switchedFld d).reg = .STE_IMG_STS := by
  unfold imgNext imgArm imgActive oldBusyFld switchedFld
  split <;> exact ⟨rfl, rfl, rfl, rfl, rfl⟩

/-- NEXT and ARM of both directions lie apart from ACTIVE, and from each other but for the same field. -/
theorem imgFlds_apart : ∀ d e : Fin 2, (imgNext d).lsb ≠ (imgActive e).lsb ∧ (imgArm d).lsb ≠ (imgActive e).lsb ∧
    (imgNext d).lsb ≠ (imgArm e).lsb ∧ (d ≠ e → (imgNext d).lsb ≠ (imgNext e).lsb ∧ (imgArm d).lsb ≠ (imgArm e).lsb) := by decide

theorem imgFlds_width (d : Nat) : (imgNext d).width = 1 ∧ (imgArm d).width = 1 ∧ (imgActive d).width = 1 ∧
    (imgNext d).lsb < 64 ∧ (imgArm d).lsb < 64 ∧ (imgActive d).lsb < 64 := by
  unfold imgNext imgArm imgActive
  split <;> decide

theorem State.activeSet_eq_fld (s : State) (n d : Nat) : s.activeSet n d = s.fld (imgActive d) n := by
  unfold State.activeSet imgActive
  split <;> rfl

/-- A one-bit field leaves a one-bit field elsewhere. -/
theorem State.fld_setFld_bits (s : State) {f g : Fld} {i j x : Nat} (hf : f.width = 1) (hg : g.width = 1) (h : f.lsb ≠ g.lsb) :
    (s.setFld f i x).fld g j = s.fld g j :=
  s.fld_setFld_apart (by omega)

/-- Directions beyond the second are the second. -/
theorem exists_imgActive (d : Nat) : ∃ e : Fin 2, imgActive d = imgActive e := by
  unfold imgActive
  split
  · exact ⟨0, rfl⟩
  · exact ⟨1, rfl⟩

theorem State.recordArm_effect (s : State) (n : Nat) (d : Fin 2) (next arm : Nat) (x : Option (Nat × Bool × Nat × Nat)) (h2 : s.twoArms n) :
    let t := s.recordArm n d next arm x
    ArmKept n s t ∧ (∀ e : Fin 2, d ≠ e → ArmSame n e s t) ∧
      t.arm n d = x ∧ t.fld (imgArm d) n = arm % 2 ∧ t.fld (imgNext d) n = next % 2 := by
  obtain ⟨hn, ha, -⟩ := imgFlds_reg d
  obtain ⟨hnw, haw, -, hnl, hal, -⟩ := imgFlds_width d
  have hfld (f : Fld) (hf : f.reg ≠ .STE_IMG) : (s.recordArm n d next arm x).fld f n = s.fld f n := by
    rw [State.recordArm, State.fld_setArm, State.fld_setFld_reg _ (ha ▸ hf.symm), State.fld_setFld_reg _ (hn ▸ hf.symm)]
  have hlen : d.val < (s.pipe n).arms.length := by
    rw [show (s.pipe n).arms.length = 2 from h2]
    exact d.isLt
  have harm (e : Nat) : (s.recordArm n d next arm x).arm n e = if d.val = e then x else s.arm n e :=
    State.arm_setArm ((s.setFld (imgNext d) n next).setFld (imgArm d) n arm) n x hlen
  have htwo (h : s.twoArms n) : (s.recordArm n d next arm x).twoArms n := by
    rw [State.recordArm]
    exact State.twoArms_setArm (s := (s.setFld (imgNext d) n next).setFld (imgArm d) n arm) h d x
  refine ⟨⟨((ImageStep.setFld s _ (.inl hn)).trans (ImageStep.setFld _ _ (.inl ha))).trans (ImageStep.setArm _ _ _), fun e => ?_,
    fun e => hfld _ ?_, fun h => (hfld _ (by decide)).trans h, htwo⟩, fun e he => ⟨?_, ?_, ?_⟩, ?_, ?_, ?_⟩
  · obtain ⟨e', he⟩ := exists_imgActive e
    obtain ⟨hna, haa, -⟩ := imgFlds_apart d e'
    obtain ⟨-, -, hw, -⟩ := imgFlds_width e'
    rw [State.activeSet_eq_fld, State.activeSet_eq_fld, he, State.recordArm, State.fld_setArm, State.fld_setFld_bits _ haw hw haa,
      State.fld_setFld_bits _ hnw hw hna]
  · obtain ⟨-, -, -, h, -⟩ := imgFlds_reg e
    rw [h]; decide
  · rw [harm, if_neg fun h => he (Fin.ext h)]
  · obtain ⟨-, -, hna, hapart⟩ := imgFlds_apart d e
    obtain ⟨-, hw, -⟩ := imgFlds_width e
    rw [State.recordArm, State.fld_setArm, State.fld_setFld_bits _ haw hw (hapart he).2, State.fld_setFld_bits _ hnw hw hna]
  · obtain ⟨-, -, -, hapart⟩ := imgFlds_apart d e
    obtain ⟨-, -, hna, -⟩ := imgFlds_apart e d
    obtain ⟨hw, -⟩ := imgFlds_width e
    rw [State.recordArm, State.fld_setArm, State.fld_setFld_bits _ haw hw hna.symm, State.fld_setFld_bits _ hnw hw (hapart he).1]
  · rw [harm, if_pos rfl]
  · rw [State.recordArm, State.fld_setArm, State.fld_setFld_bit _ _ _ haw hal]
  · obtain ⟨-, -, hna, -⟩ := imgFlds_apart d d
    rw [State.recordArm, State.fld_setArm, State.fld_setFld_bits _ haw hnw hna.symm, State.fld_setFld_bit _ _ _ hnw hnl]

theorem ArmKept.refl (n : Nat) (s : State) : ArmKept n s s := ⟨ImageStep.refl n s, fun _ => rfl, fun _ => rfl, id, id⟩

theorem ArmKept.trans {n : Nat} {s t u : State} (h : ArmKept n s t) (h' : ArmKept n t u) : ArmKept n s u :=
  ⟨h.toImageStep.trans h'.toImageStep, fun d => (h'.active d).trans (h.active d), fun d => (h'.busy d).trans (h.busy d),
    fun hr => h'.refused (h.refused hr), fun h2 => h'.two (h.two h2)⟩

theorem ArmSame.refl (n d : Nat) (s : State) : ArmSame n d s s := ⟨rfl, rfl, rfl⟩

/-- A refused arming is recorded, and changes nothing else of STE_IMG and STE_IMG_STS (R117). -/
theorem State.armRefused_effect (s : State) (n : Nat) :
    let t := s.imageEvent F.STE_IMG_STS_ARM_REFUSED n
    ArmKept n s t ∧ (∀ d, ArmSame n d s t) ∧ t.fld F.STE_IMG_STS_ARM_REFUSED n = 1 := by
  have himg (f : Fld) (hf : f.reg = .STE_IMG) : (s.imageEvent F.STE_IMG_STS_ARM_REFUSED n).fld f n = s.fld f n := by
    rw [State.fld_imageEvent _ (by rw [hf]; decide), State.fld_setFld_reg _ (by rw [hf]; decide)]
  have hset : (s.imageEvent F.STE_IMG_STS_ARM_REFUSED n).fld F.STE_IMG_STS_ARM_REFUSED n = 1 := by
    rw [State.fld_imageEvent _ (by decide), State.fld_setFld_bit _ _ _ rfl (by decide)]
  refine ⟨⟨ImageStep.imageEvent s rfl, fun d => ?_, fun d => ?_, fun _ => hset, fun h => ?_⟩,
    fun d => ⟨State.arm_imageEvent .., ?_, ?_⟩, hset⟩
  · obtain ⟨-, -, ha, -⟩ := imgFlds_reg d
    rw [State.activeSet_eq_fld, State.activeSet_eq_fld, himg _ ha]
  · have hb : oldBusyFld d = F.STE_IMG_STS_IG_OLD_BUSY ∨ oldBusyFld d = F.STE_IMG_STS_EG_OLD_BUSY := by
      unfold oldBusyFld
      split
      · exact .inl rfl
      · exact .inr rfl
    rcases hb with hb | hb <;>
      rw [hb, State.fld_imageEvent _ (by decide), State.fld_setFld_apart _ (by decide)]
  · rw [State.twoArms, State.pipe, State.pipes_imageEvent]
    exact h
  · obtain ⟨-, ha, -⟩ := imgFlds_reg d
    exact himg _ ha
  · obtain ⟨hn, -⟩ := imgFlds_reg d
    exact himg _ hn

theorem State.armDir_effect (s : State) (n : Nat) (w : BitVec 64) (d : Fin 2) (h2 : s.twoArms n) :
    let b := if d.val = 0 then 1 else 9
    ArmKept n s (s.armDir n d w) ∧ (∀ e : Fin 2, d ≠ e → ArmSame n e s (s.armDir n d w)) ∧
      ArmWritten n d (w.getLsbD (b + 1)) (getField w b 1) (w.getLsbD 16) s (s.armDir n d w) := by
  intro b
  have hnext : getField w b 1 % 2 = getField w b 1 := Nat.mod_eq_of_lt (by rw [getField_one]; split <;> decide)
  have hbar : (s.bit (oldBusyFld d) n || getField w b 1 == s.activeSet n d) = true ↔
      s.fld (oldBusyFld d) n = 1 ∨ getField w b 1 = s.activeSet n d := by
    rw [Bool.or_eq_true, State.bit, beq_iff_eq, beq_iff_eq]
  cases ha : w.getLsbD (b + 1) with
  | false =>
    have hrun : s.armDir n d w = s.recordArm n d (getField w b 1) 0 none := by
      rw [State.armDir]
      exact if_neg (by rw [show w.getLsbD _ = false from ha]; decide)
    obtain ⟨hkept, hsame, harm, harming, -⟩ := s.recordArm_effect n d (getField w b 1) 0 none h2
    rw [hrun]
    exact ⟨hkept, hsame, ⟨nofun, nofun, nofun, fun _ => ⟨harm, harming⟩⟩⟩
  | true =>
    have hrun : s.armDir n d w = if (s.arm n d).isSome then s
        else if s.bit (oldBusyFld d) n || getField w b 1 == s.activeSet n d then s.imageEvent F.STE_IMG_STS_ARM_REFUSED n
        else s.recordArm n d (getField w b 1) 1 (some (getField w b 1, w.getLsbD 16, s.fld F.STE_IMG_AT_AT n, s.tikCount.toNat)) := by
      rw [State.armDir]
      exact if_pos ha
    rw [hrun]
    by_cases hp : (s.arm n d).isSome = true
    · rw [if_pos hp]
      exact ⟨ArmKept.refl n s, fun e _ => ArmSame.refl n e s,
        ⟨fun _ _ => rfl, fun _ h => absurd hp (by rw [h]; decide), fun _ h => absurd hp (by rw [h]; decide), nofun⟩⟩
    rw [if_neg hp]
    by_cases hb : s.fld (oldBusyFld d) n = 1 ∨ getField w b 1 = s.activeSet n d
    · rw [if_pos (hbar.2 hb)]
      obtain ⟨hkept, hsame, hset⟩ := s.armRefused_effect n
      have hnone : s.arm n d = none := Option.not_isSome_iff_eq_none.1 hp
      exact ⟨hkept, fun e _ => hsame e,
        ⟨fun _ h => absurd h hp, fun _ _ _ => ⟨hset, (hsame d).arm.trans hnone⟩, fun _ _ h => absurd hb h, nofun⟩⟩
    · rw [if_neg fun h => hb (hbar.1 h)]
      obtain ⟨hkept, hsame, harm, harming, hn⟩ := s.recordArm_effect n d (getField w b 1) 1
        (some (getField w b 1, w.getLsbD 16, s.fld F.STE_IMG_AT_AT n, s.tikCount.toNat)) h2
      exact ⟨hkept, hsame, ⟨fun _ h => absurd h hp, fun _ _ h => absurd h hb, fun _ _ _ => ⟨harm, harming, hn.trans hnext⟩, nofun⟩⟩

/-- What a later write for the other direction leaves of a direction's own. -/
theorem ArmWritten.keep {n d next : Nat} {arm imm : Bool} {s t u : State} (h : ArmWritten n d arm next imm s t) (hk : ArmKept n t u)
    (hs : ArmSame n d t u) : ArmWritten n d arm next imm s u where
  pending h1 h2 := hs.arm.trans (h.pending h1 h2)
  barred h1 h2 h3 := (h.barred h1 h2 h3).imp hk.refused hs.arm.trans
  armed h1 h2 h3 := (h.armed h1 h2 h3).imp hs.arm.trans fun e => e.imp hs.arming.trans hs.next.trans
  cancelled h1 := (h.cancelled h1).imp hs.arm.trans hs.arming.trans

/-- A direction's write, behind a write for the other. -/
theorem ArmWritten.behind {n d next : Nat} {arm imm : Bool} {s t u : State} (hk : ArmKept n s t) (hs : ArmSame n d s t)
    (h : ArmWritten n d arm next imm t u) : ArmWritten n d arm next imm s u where
  pending h1 h2 := (h.pending h1 (by rw [hs.arm]; exact h2)).trans hs.arm
  barred h1 h2 h3 := h.barred h1 (hs.arm.trans h2) (by rw [hk.busy, hk.active]; exact h3)
  armed h1 h2 h3 := by
    have ha := h.armed h1 (hs.arm.trans h2) (by rw [hk.busy, hk.active]; exact h3)
    rw [hk.fld_at, hk.tikCount] at ha
    exact ha
  cancelled := h.cancelled

/-- IMM is written apart from all else (R117). -/
theorem State.setImm_effect (s : State) (n v : Nat) :
    ArmKept n s (s.setFld F.STE_IMG_IMM n v) ∧ ∀ d, ArmSame n d s (s.setFld F.STE_IMG_IMM n v) := by
  refine ⟨⟨ImageStep.setFld s v (.inl rfl), fun d => ?_, fun d => ?_, fun h => ?_, fun h => h⟩, fun d => ⟨rfl, ?_, ?_⟩⟩
  · unfold State.activeSet
    split <;> exact State.fld_setFld_apart _ (by decide)
  · obtain ⟨-, -, -, h, -⟩ := imgFlds_reg d
    exact State.fld_setFld_reg _ (by rw [h]; decide)
  · rw [State.fld_setFld_reg _ (by decide), h]
  · unfold imgArm
    split <;> exact State.fld_setFld_apart _ (by decide)
  · unfold imgNext
    split <;> exact State.fld_setFld_apart _ (by decide)

/-- The write of STE_IMG acts on both directions, each by its own bits (R117). -/
theorem State.writeImg_effect (s : State) (n : Nat) (v : BitVec 32) (h2 : s.twoArms n) :
    ArmKept n s (s.writeImg n low32 (v.setWidth 64)) ∧ ∀ d, d < 2 → let b := if d = 0 then 1 else 9
      ArmWritten n d (v.getLsbD (b + 1)) (if v.getLsbD b then 1 else 0) (v.getLsbD 16) s (s.writeImg n low32 (v.setWidth 64)) := by
  let w := (s.reg .STE_IMG n &&& ~~~ low32) ||| (v.setWidth 64 &&& low32)
  have hbit (b : Nat) (hb : b < 32) : w.getLsbD b = v.getLsbD b := by
    rw [BitVec.getLsbD_or, BitVec.getLsbD_and, BitVec.getLsbD_and, BitVec.getLsbD_not, getLsbD_low32, BitVec.getLsbD_setWidth]
    simp [hb, show b < 64 by omega]
  obtain ⟨hk0, hs0, hw0⟩ := s.armDir_effect n w 0 h2
  obtain ⟨hk1, hs1, hw1⟩ := (s.armDir n 0 w).armDir_effect n w 1 (hk0.two h2)
  obtain ⟨hk, hs⟩ := ((s.armDir n 0 w).armDir n 1 w).setImm_effect n (getField w 16 1)
  refine ⟨(hk0.trans hk1).trans hk, ?_⟩
  intro d hd b
  have hb : b ≤ 9 := by simp only [b]; split <;> decide
  rw [← hbit (b + 1) (by omega), ← hbit b (by omega), ← hbit 16 (by decide), ← getField_one]
  obtain rfl | rfl : d = 0 ∨ d = 1 := by omega
  · exact (hw0.keep hk1 (hs1 0 (by decide))).keep hk (hs 0)
  · exact (ArmWritten.behind hk0 (hs0 1 (by decide)) hw1).keep hk (hs 1)

/-! ### The write of an image's place, the switch and the drained set (R116, R118) -/

/-- A write to a page or an entry set that the statement calls refused is the one the model refuses (R116). -/
theorem State.imageRefused_iff (s : State) (n d : Nat) (x : ImageReg) :
    s.imageRefused n d x = true ↔ match x with
      | .word j => bitOf (s.fld F.STE_PAGES_PAGES ((n * 2 + d) * 2 + s.activeSet n d)) (j.val / 1024) = true ∨
        s.fld (oldBusyFld d) n = 1 ∧ bitOf (s.fld F.STE_PAGES_PAGES ((n * 2 + d) * 2 + (1 - s.activeSet n d))) (j.val / 1024) = true
      | .entry k _ | .srcMap k | .pages k => k.val = s.activeSet n d ∨ s.fld (oldBusyFld d) n = 1 := by
  cases x <;> simp [State.imageRefused, State.bit]

theorem State.imageRefused_effect (s : State) (n d : Nat) (x : ImageReg) (mask v : BitVec 64) (hd : d < 2)
    (h : s.imageRefused n d x = true) : let t := s.writeImage n d x mask v
    t.fld F.STE_IMG_STS_WR_REFUSED n = 1 ∧ t.fld F.STE_IMG_STS_REF_INDEX n = imageIndex x ∧ t.fld F.STE_IMG_STS_REF_DIR n = d ∧
      OnlyReports (fun q j => q = .STE_IMG_STS ∧ j = n) s t := by
  have hx : imageIndex x < 2 ^ 13 := by
    cases x with
    | word i => exact i.isLt
    | _ => exact Nat.two_pow_pos 13
  rw [State.writeImage, if_pos h]
  refine ⟨?_, ?_, ?_, ?_⟩
  · rw [State.fld_setFld_apart _ (by decide), State.fld_setFld_apart _ (by decide), State.fld_imageEvent _ (by decide),
      State.fld_setFld_bit _ _ _ rfl (by decide)]
  · rw [State.fld_setFld_apart _ (by decide), State.fld_setFld_self _ _ _ _ (by decide), Nat.mod_eq_of_lt hx]
  · rw [State.fld_setFld_bit _ _ _ rfl (by decide), Nat.mod_eq_of_lt hd]
  · have hset := OnlyReports.setFld (p := fun q j => q = .STE_IMG_STS ∧ j = n) s (f := F.STE_IMG_STS_WR_REFUSED) (i := n) 1 (.inr ⟨rfl, rfl⟩)
    exact ((hset.trans (OnlyReports.interrupt _ _ _)).trans (OnlyReports.setFld _ _ (.inr ⟨rfl, rfl⟩))).trans
      (OnlyReports.setFld _ _ (.inr ⟨rfl, rfl⟩))

theorem stsFlds_bits : ∀ d : Fin 2, (oldBusyFld d).lsb ≠ (switchedFld d).lsb ∧ (oldBusyFld d).width = 1 ∧ (switchedFld d).width = 1 ∧
    (oldBusyFld d).lsb < 64 ∧ (switchedFld d).lsb < 64 := by decide

/-- The switch takes effect: the set becomes active, and OLD_BUSY tells whether a needle runs under the old one (R117, R118). -/
def State.switchSet (s : State) (n d set : Nat) (b : Bool) : State :=
  let u := (((s.setArm n d none).setFld (imgArm d) n 0).setFld (imgActive d) n set).imageEvent (switchedFld d) n
  if b then u.setFld (oldBusyFld d) n 1 else u

theorem State.switchSet_effect (s : State) (n set : Nat) (d : Fin 2) (b : Bool) (h2 : s.twoArms n) (hset : set < 2) :
    let t := s.switchSet n d set b
    t.activeSet n d = set ∧ t.fld (imgArm d) n = 0 ∧ t.arm n d = none ∧ t.fld (switchedFld d) n = 1 ∧
      t.fld (oldBusyFld d) n = (if b then 1 else s.fld (oldBusyFld d) n) ∧ ImageStep n s t := by
  obtain ⟨-, harm, hact, hbusy, hsw⟩ := imgFlds_reg d
  obtain ⟨-, haw, hcw, -, hal, hcl⟩ := imgFlds_width d
  obtain ⟨-, hapart, -⟩ := imgFlds_apart d d
  obtain ⟨hbs, hbw, hsw', hbl, hsl⟩ := stsFlds_bits d
  have hlen : d.val < (s.pipe n).arms.length := by
    rw [show (s.pipe n).arms.length = 2 from h2]
    exact d.isLt
  let w := ((s.setArm n d none).setFld (imgArm d) n 0).setFld (imgActive d) n set
  let u := w.imageEvent (switchedFld d) n
  have huimg (f : Fld) (hf : f.reg = .STE_IMG) : u.fld f n = w.fld f n := by
    rw [State.fld_imageEvent _ (by rw [hf]; decide), State.fld_setFld_reg _ (by rw [hf, hsw]; decide)]
  have htimg (f : Fld) (hf : f.reg = .STE_IMG) : (s.switchSet n d set b).fld f n = w.fld f n := by
    rw [← huimg f hf]
    cases b
    · rfl
    · exact State.fld_setFld_reg _ (by rw [hf, hbusy]; decide)
  have hustep : ImageStep n s u := (((ImageStep.setArm s _ _).trans (ImageStep.setFld _ _ (.inl harm))).trans
    (ImageStep.setFld _ _ (.inl hact))).trans (ImageStep.imageEvent _ hsw)
  have huarm : u.arm n d = none := by
    rw [State.arm_imageEvent]
    exact (State.arm_setArm s n none hlen).trans (if_pos rfl)
  have husw : u.fld (switchedFld d) n = 1 := by
    rw [State.fld_imageEvent _ (by rw [hsw]; decide), State.fld_setFld_bit _ _ _ hsw' hsl]
  refine ⟨?_, ?_, ?_, ?_, ?_, ?_⟩
  · rw [State.activeSet_eq_fld, htimg _ hact, State.fld_setFld_bit _ _ _ hcw hcl, Nat.mod_eq_of_lt hset]
  · rw [htimg _ harm, State.fld_setFld_bits _ hcw haw hapart.symm, State.fld_setFld_bit _ _ _ haw hal]
  · cases b <;> exact huarm
  · cases b
    · exact husw
    · exact (State.fld_setFld_bits _ hbw hsw' hbs).trans husw
  · cases b
    · refine (State.fld_imageEvent _ (by rw [hbusy]; decide)).trans ?_
      rw [State.fld_setFld_bits _ hsw' hbw hbs.symm, State.fld_setFld_reg _ (by rw [hact, hbusy]; decide),
        State.fld_setFld_reg _ (by rw [harm, hbusy]; decide)]
      rfl
    · exact State.fld_setFld_bit _ _ _ hbw hbl
  · cases b
    · exact hustep
    · exact hustep.trans (ImageStep.setFld _ _ (.inr hbusy))

theorem State.switchDue_eq {s : State} {n d set time armed : Nat} {imm : Bool} (h : s.arm n d = some (set, imm, time, armed)) :
    s.switchDue n d = if s.atEdge = true ∧ s.tikCount.toNat ≠ armed ∧ (imm = true ∨ s.tikCount.toNat % 2 ^ 32 = time) then some set
      else none := by
  rw [State.switchDue, h]
  cases s.atEdge <;> cases imm <;> simp [ite_and]

/-- Settles O24: the write of a place, of STE_IMG for each direction, the switch at an edge and the end of OLD_BUSY. -/
theorem programImages : Obligations.ProgramImages := by
  refine ⟨?_, ?_, ?_, ?_⟩
  · intro a n eg x v s d r i act pages busy refused htakes
    have hd : d < 2 := by cases eg <;> decide
    have hrun : exec (.programStoreWrite a n eg x v) s =
        .next ((s.begin.touch a (r.key i)).writeImage n.val d x (if r.width = 64 then all64 else low32) v) := by
      show execProgramStoreWrite a n eg x v s = _
      rw [execProgramStoreWrite]
      exact congrArg Host.Outcome.next (writeBy_takes htakes _)
    have hstep : OnlyRegs (fun _ _ => False) s (s.begin.touch a (r.key i)) := (OnlyRegs.begin _ s).trans (OnlyRegs.touch _ _ a _)
    have href : (s.begin.touch a (r.key i)).imageRefused n.val d x = true ↔ refused := by
      have hfld (f : Fld) (j : Nat) : (s.begin.touch a (r.key i)).fld f j = s.fld f j := touch_fld ..
      rw [State.imageRefused_iff]
      cases x <;> simp only [refused, pages, busy, act, State.activeSet_eq_fld, hfld]
    rw [hrun]
    constructor
    · intro hr
      obtain ⟨hwr, hidx, hdir, honly⟩ := State.imageRefused_effect _ n.val d x (if r.width = 64 then all64 else low32) v hd (href.2 hr)
      refine ⟨_, rfl, hwr, hidx.trans ?_, hdir, (hstep.reports.mono fun _ _ h => h.elim).trans honly⟩
      cases x <;> rfl
    · intro hr
      have hplain : (s.begin.touch a (r.key i)).writeImage n.val d x (if r.width = 64 then all64 else low32) v =
          (s.begin.touch a (r.key i)).plainWrite r i (if r.width = 64 then all64 else low32) v := if_neg fun h => hr (href.1 h)
      refine ⟨_, rfl, ?_, ?_⟩
      · rw [hplain, State.reg_plainWrite, touch_reg]
        rfl
      · rw [hplain]
        exact (hstep.mono fun _ _ h => h.elim).trans (OnlyRegs.plainWrite _ r i _ v)
  · intro a n v s htakes h2
    let s1 := s.begin.touch a (Reg.key .STE_IMG n.val)
    have hrun : exec (.imageArm a n v) s = .next (s1.writeImg n.val low32 (v.setWidth 64)) :=
      congrArg Host.Outcome.next (writeBy_takes htakes _)
    have hstep : OnlyRegs (fun _ _ => False) s s1 := (OnlyRegs.begin _ s).trans (OnlyRegs.touch _ _ a _)
    have hpipe (m : Nat) : s1.pipe m = s.pipe m := (congrArg (fun x : State => x.pipe m) hstep.1 :)
    have hfld (f : Fld) : s1.fld f n.val = s.fld f n.val := touch_fld ..
    obtain ⟨hk, hw⟩ := s1.writeImg_effect n.val v (by rw [State.twoArms, hpipe]; exact h2)
    have hsame : ArmKept n.val s s1 := ⟨(ImageStep.of_onlyReports (hstep.reports.mono fun _ _ h => h.elim)), fun d => by
      rw [State.activeSet_eq_fld, State.activeSet_eq_fld, hfld], fun d => hfld _, fun h => (hfld _).trans h,
      fun h => by rw [State.twoArms, hpipe]; exact h⟩
    have hall := hsame.trans hk
    refine ⟨_, hrun, fun d hd => ?_, hall.others, hall.reports⟩
    intro b next barred
    have harm : ArmSame n.val d s s1 := ⟨by rw [State.arm, State.arm, hpipe], hfld _, hfld _⟩
    have hd := ArmWritten.behind hsame harm (hw d hd)
    exact ⟨hd.pending, hd.barred, hd.armed, hd.cancelled, hall.active d⟩
  · intro n eg imm set time armed s d harm h2 hset due
    have hdue : s.begin.switchDue n.val d = if due then some set else none := State.switchDue_eq (s := s.begin) harm
    constructor
    · intro hn
      show execImageSwitch n eg s = _
      rw [if_neg hn] at hdue
      rw [execImageSwitch, hdue]
      rfl
    · intro hy
      rw [if_pos hy] at hdue
      have hrun : exec (.imageSwitch n eg) s = .next (s.begin.switchSet n.val d set (s.setRunning n.val d (s.activeSet n.val d))) := by
        show execImageSwitch n eg s = _
        rw [execImageSwitch, hdue]
        rfl
      obtain ⟨hact, harming, hnone, hsw, hbusy, hstep⟩ := s.begin.switchSet_effect n.val set ⟨d, by cases eg <;> decide⟩
        (s.setRunning n.val d (s.activeSet n.val d)) h2 hset
      exact ⟨_, hrun, hact, harming, hnone, hsw, hbusy, hstep.others,
        (ImageStep.of_onlyReports (OnlyReports.begin _ s)).trans hstep |>.reports⟩
  · intro n eg s d
    obtain ⟨-, -, -, hbusy, -⟩ := imgFlds_reg d
    obtain ⟨-, hw, -, hl, -⟩ := stsFlds_bits ⟨d, by cases eg <;> decide⟩
    constructor
    · intro h
      show execOldSetDrained n eg s = _
      rw [execOldSetDrained]
      exact if_pos h
    · intro h
      refine ⟨s.begin.setFld (oldBusyFld d) n.val 0, ?_, State.fld_setFld_bit _ _ _ hw hl, ?_⟩
      · show execOldSetDrained n eg s = _
        rw [execOldSetDrained]
        exact if_neg (ne_true_of_eq_false h)
      · exact (OnlyRegs.begin _ s).trans (OnlyRegs.setFld _ _ ⟨hbusy, rfl⟩)

end Sys2Proof.Machine
end

section
/-! PROOFS. O22: dispatch starts a packet on the lowest free needle of the engine that the pointer names (R93 to R98, R108). -/
namespace Sys2Proof.Machine

/-- The registers that change when a program starts: counter `c` of its pipeline, the needle counts of its engine, and gauges. -/
def startRegs (c e : Nat) (r : Reg) (k : Nat) : Prop :=
  r = .STE_CNT ∧ k = c ∨ r = .STE_ENG_STS ∧ k = e ∨ r ∈ [.GGE_CNT, .GGE_OVF, .GGE_FRZ]

/-- The engine that dispatch picks is one of the two of the pipeline and direction (R95). -/
theorem State.pickEngine_eq {s : State} {n dir e : Nat} {taken : List Nat} (h : s.pickEngine n dir taken = some e) (hdir : dir ≤ 1)
    (hptr : (if dir = 0 then (s.pipe n).igPtr else (s.pipe n).egPtr) ≤ 1) : enginePipe e = n ∧ engineDir e = dir := by
  unfold State.pickEngine at h
  extract_lets ptr ok p o at h
  have he : e = p ∨ e = o := by
    split at h
    · exact .inl (Option.some.inj h).symm
    · split at h
      · exact .inr (Option.some.inj h).symm
      · cases h
  have hptr' : ptr ≤ 1 := hptr
  unfold enginePipe engineDir
  rcases he with rfl | rfl
  · simp only [p]; omega
  · simp only [o]; omega

/-- The lowest free needle is one of the engine's 96, and free. -/
theorem State.freeNeedles_head {s : State} {e i : Nat} {rest : List Nat} (h : s.freeNeedles e = i :: rest) :
    i < 96 ∧ s.needle (e * 96 + i) = none := by
  have hmem : i ∈ s.freeNeedles e := by rw [h]; exact List.mem_cons_self
  rw [State.freeNeedles, List.mem_filter, List.mem_range, Option.isNone_iff_eq_none] at hmem
  exact hmem

/-- The pipeline once a packet has started on engine `e`: the pointer names the other (R95). -/
def PipeSt.pointed (p : PipeSt) (e : Nat) : PipeSt :=
  if engineDir e = 0 then { p with igPtr := 1 - e % 2 } else { p with egPtr := 1 - e % 2 }

theorem State.startOn_eq {s : State} {e i : Nat} {rest : List Nat} (nd : Needle) (h : s.freeNeedles e = i :: rest) :
    s.startOn e nd = (s.setNeedle (e * 96 + i) (some nd)).setPipe (enginePipe e) ((s.pipe (enginePipe e)).pointed e) := by
  have hp : (s.setNeedle (e * 96 + i) (some nd)).pipe (enginePipe e) = s.pipe (enginePipe e) := by
    rw [State.pipe, State.pipes_setNeedle, State.pipe]
  rw [State.startOn, h, PipeSt.pointed, ← hp]

/-- A program starts on the engine's lowest free needle, its pipeline going on as `q`, and is counted (R95, R96). -/
theorem State.start_effect {s : State} {n e i : Nat} {rest : List Nat} (nd : Needle) (q : PipeSt) (c code : Nat)
    (hn : enginePipe e = n) (hfree : s.freeNeedles e = i :: rest) :
    let t := (((s.startOn e nd).setPipe n q).steCount n c).gauge! n code 1
    t.needle (e * 96 + i) = some nd ∧ t.pipe n = q ∧ NeedleStep (startRegs (n * 16 + c) e) n (e * 96 + i) s t ∧
      (s.counts .STE_CNT (n * 16 + c) → t.reg .STE_CNT (n * 16 + c) = s.reg .STE_CNT (n * 16 + c) + 1) := by
  obtain ⟨hi, -⟩ := State.freeNeedles_head hfree
  let u := (s.startOn e nd).setPipe n q
  have hu : NeedleStep (fun r k => r = .STE_ENG_STS ∧ k = e) n (e * 96 + i) s u := by
    simp only [u]
    rw [State.startOn_eq nd hfree, hn]
    exact ((NeedleStep.setNeedle s _ ⟨rfl, by omega⟩).trans (NeedleStep.setPipe _ _)).trans (NeedleStep.setPipe _ _)
  have hneedle : u.needle (e * 96 + i) = some nd := by
    simp only [u]
    rw [State.startOn_eq nd hfree, State.needle_setPipe, State.needle_setPipe, State.needle_setNeedle, if_pos rfl]
  have hcount := NeedleStep.bump (n := n) (k := e * 96 + i) (p := fun r k => r = .STE_CNT ∧ k = n * 16 + c) u 1 (.inr ⟨rfl, rfl⟩)
  have hgauge := NeedleStep.gauge! (n := n) (k := e * 96 + i) (p := fun r _ => r ∈ gaugeRegs) (fun _ _ => id) (u.steCount n c) n code 1 none
  refine ⟨?_, ?_, ?_, fun hc => ?_⟩
  · have hg := (congrArg (fun x : State => x.needle (e * 96 + i)) ((Gauged.refl (u.steCount n c)).gauge! (b := n) (code := code) (v := 1)
      (q := none)).reports.1 :)
    rw [← hneedle]
    exact hg.trans (congrArg (fun x : SMap (Option Needle) => SMap.get (fun _ => none) x (e * 96 + i)) (State.needles_bump u _ _ _))
  · rw [State.pipe, State.pipes_gauge!, State.steCount, State.pipes_bump]
    exact (State.pipe_setPipe ..).trans (if_pos rfl)
  · exact ((hu.mono fun _ _ h => .inr (.inl h)).trans (hcount.mono fun _ _ h => .inl h)).trans (hgauge.mono fun _ _ h => .inr (.inr h))
  · rw [hgauge.step.reg (by decide) (by decide)]
    exact hu.step.reg_bump hc (by decide) (fun h => nomatch h.1) 1

/-- A direction that does not sample only forgets its sampling count (R403). -/
theorem State.sampleStep_off {s : State} {n dir : Nat}
    (h : (if dir = 0 then s.effBit F.GGE_SMP_CFG_IG_EN n else s.effBit F.GGE_SMP_CFG_EG_EN n) = false) :
    s.sampleStep n dir = (false, s.setPipe n ((s.pipe n).setSample dir none)) := by
  rw [State.sampleStep, h]
  rfl

theorem State.pipe_startOn {s : State} {n e i : Nat} {rest : List Nat} (nd : Needle) (hn : enginePipe e = n)
    (hfree : s.freeNeedles e = i :: rest) : (s.startOn e nd).pipe n = (s.pipe n).pointed e := by
  rw [State.startOn_eq nd hfree, hn, State.pipe_setPipe, if_pos rfl]

/-- An ingress packet that is not sampled starts its program (R95 to R98, R114, R120, R121). -/
theorem State.startIngress_effect {s : State} {n e i : Nat} {rest : List Nat} (p : Pkt) (hsmp : s.effBit F.GGE_SMP_CFG_IG_EN n = false)
    (hn : enginePipe e = n) (hd : engineDir e = 0) (hfree : s.freeNeedles e = i :: rest) :
    let t := s.startIngress n e p
    (∃ md clk tick, t.needle (e * 96 + i) = some (Needle.start p.id (s.activeSet n 0) (s.entryPc n 0 (s.activeSet n 0) p.src)
      (p.bytes.take 256) (min 256 p.bytes.length) md (s.budget n 0) false clk tick)) ∧
    (t.pipe n).ready = (s.pipe n).ready ∧ (t.pipe n).igPtr = 1 - e % 2 ∧ NeedleStep (startRegs (n * 16) e) n (e * 96 + i) s t ∧
    (s.counts .STE_CNT (n * 16) → t.reg .STE_CNT (n * 16) = s.reg .STE_CNT (n * 16) + 1) := by
  let u := s.setPipe n ((s.pipe n).setSample 0 none)
  have hfree' : u.freeNeedles e = i :: rest := hfree
  have hrun : ∃ nd q, s.startIngress n e p = (((u.startOn e nd).setPipe n q).steCount n 0).gauge! n 1 1 ∧
      (∃ md clk tick, nd = Needle.start p.id (s.activeSet n 0) (s.entryPc n 0 (s.activeSet n 0) p.src) (p.bytes.take 256)
        (min 256 p.bytes.length) md (s.budget n 0) false clk tick) ∧ ∃ l, q = { (u.startOn e nd).pipe n with ig := l } := by
    rw [State.startIngress, State.sampleStep_off (dir := 0) hsmp]
    exact ⟨_, _, rfl, ⟨_, _, _, rfl⟩, _, rfl⟩
  obtain ⟨nd, q, hrun, ⟨md, clk, tick, hnd⟩, l, hq⟩ := hrun
  obtain ⟨hneedle, hpipe, hstep, hcount⟩ := u.start_effect nd q 0 1 hn hfree'
  rw [State.pipe_startOn nd hn hfree', PipeSt.pointed, if_pos hd, State.pipe_setPipe, if_pos rfl] at hq
  intro t
  simp only [t, hrun]
  refine ⟨⟨md, clk, tick, hneedle.trans (by rw [hnd])⟩, ?_, ?_, (NeedleStep.setPipe s _).trans hstep, fun hc => hcount hc⟩
  · rw [hpipe, hq]
    rfl
  · rw [hpipe, hq]

/-- An egress packet that is not sampled starts its program (R100, R108, R118, R120, R121). -/
theorem State.startEgress_effect {s : State} {n e i id : Nat} {rest : List Nat} (c : Copy) (hsmp : s.effBit F.GGE_SMP_CFG_EG_EN n = false)
    (hn : enginePipe e = n) (hd : engineDir e = 1) (hfree : s.freeNeedles e = i :: rest) :
    let t := s.startEgress n e id c
    (∃ md clk tick, t.needle (e * 96 + i) = some (Needle.start id c.egSet (s.entryPc n 1 c.egSet c.port)
      (c.bytes.take (min 192 c.bytes.length)) (min 192 c.bytes.length) md c.egBudget false clk tick)) ∧
    (t.pipe n).egress = (s.pipe n).egress ∧ (t.pipe n).egPtr = 1 - e % 2 ∧ NeedleStep (startRegs (n * 16 + 8) e) n (e * 96 + i) s t ∧
    (s.counts .STE_CNT (n * 16 + 8) → t.reg .STE_CNT (n * 16 + 8) = s.reg .STE_CNT (n * 16 + 8) + 1) := by
  let u := s.setPipe n ((s.pipe n).setSample 1 none)
  have hfree' : u.freeNeedles e = i :: rest := hfree
  have hrun : ∃ nd q, s.startEgress n e id c = (((u.startOn e nd).setPipe n q).steCount n 8).gauge! n 2 1 ∧
      (∃ md clk tick, nd = Needle.start id c.egSet (s.entryPc n 1 c.egSet c.port) (c.bytes.take (min 192 c.bytes.length))
        (min 192 c.bytes.length) md c.egBudget false clk tick) ∧ ∃ l, q = { (u.startOn e nd).pipe n with eg := l } := by
    rw [State.startEgress, State.sampleStep_off (dir := 1) hsmp]
    exact ⟨_, _, rfl, ⟨_, _, _, rfl⟩, _, rfl⟩
  obtain ⟨nd, q, hrun, ⟨md, clk, tick, hnd⟩, l, hq⟩ := hrun
  obtain ⟨hneedle, hpipe, hstep, hcount⟩ := u.start_effect nd q 8 2 hn hfree'
  rw [State.pipe_startOn nd hn hfree', PipeSt.pointed, if_neg (by rw [hd]; decide), State.pipe_setPipe, if_pos rfl] at hq
  intro t
  simp only [t, hrun]
  refine ⟨⟨md, clk, tick, hneedle.trans (by rw [hnd])⟩, ?_, ?_, (NeedleStep.setPipe s _).trans hstep, fun hc => hcount hc⟩
  · rw [hpipe, hq]
    rfl
  · rw [hpipe, hq]

/-! ### A clock of ingress dispatch with one frame -/

theorem PipeSt.next_one {q : PipeSt} {p : Pkt} (h : q.ready = [p]) : q.next = some p := by
  simp [PipeSt.next, h]

theorem State.ready_takeReady {s : State} {n : Nat} {p : Pkt} (h : (s.pipe n).ready = [p]) : ((s.takeReady n p).pipe n).ready = [] := by
  rw [State.takeReady, State.pipe_setPipe, if_pos rfl, h]
  simp [removeFirst]

/-- A slot with one frame, of a front port without Yarn, starts it on the engine that is picked. -/
theorem State.dispatchSlot_one {s : State} {n e : Nat} {p : Pkt} (h : (s.pipe n).ready = [p]) (hsrc : p.src < 128)
    (hyarn : s.effBit F.MAC_PORT_CFG_YARN p.src = false) (he : s.pickEngine n 0 [] = some e) :
    let v := (s.takeReady n p).startIngress n e p
    s.dispatchSlot n [] = (v.setPipe n { v.pipe n with recirc := (v.pipe n).recirc + 0 }, [e], true) := by
  have hnot : ¬ 144 ≤ p.src := by omega
  simp [State.dispatchSlot, PipeSt.next_one h, hyarn, hnot, he]

theorem State.dispatchSlot_none {s : State} {n : Nat} (taken : List Nat) (h : (s.pipe n).ready = []) :
    s.dispatchSlot n taken = (s, taken, false) := by
  have hnext : (s.pipe n).next = none := by rw [PipeSt.next, h]
  rw [State.dispatchSlot, hnext]

/-- The job of a packet that takes no egress program: it goes to reorder as ended, as it was (R108, R225, R374). -/
def passedJob (n id : Nat) (c : Copy) : Job :=
  ⟨id, c.port, ⟨id, n, c.port, c.bytes, 0, 0, 0, false, 0, 0, 0, 0⟩, some id, c.tag, c.mode, 0, true, 0, c.md,
    c.bytes.take (min 192 c.bytes.length), false, [], []⟩

/-- Settles O22: the slot that takes the frame, the packet that passes by, and the egress packet that starts. -/
theorem dispatchStartsNeedles : Obligations.DispatchStartsNeedles := by
  refine ⟨?_, ?_, ?_⟩
  · intro n p e i rest s hon hlevel hready hsrc hyarn hsmp hptr hpick hfree hc
    obtain ⟨hn, hd⟩ := State.pickEngine_eq hpick (by decide) hptr
    let u := s.begin.setPipe n.val { s.begin.pipe n.val with recirc := (s.begin.pipe n.val).recirc * 4 % 2 ^ 32, paced := false }
    have hu : (u.pipe n.val).ready = [p] := by rw [State.pipe_setPipe, if_pos rfl]; exact hready
    have hpick' : u.pickEngine n.val 0 [] = some e := by
      rw [← hpick]
      simp only [State.pickEngine, u, State.pipe_setPipe]
      rfl
    obtain ⟨⟨md, clk, tick, hneedle⟩, hnone, hpointed, hstep, hcount⟩ :=
      (u.takeReady n.val p).startIngress_effect (n := n.val) p hsmp hn hd hfree
    let v := (u.takeReady n.val p).startIngress n.val e p
    let w := v.setPipe n.val { v.pipe n.val with recirc := (v.pipe n.val).recirc + 0 }
    have hw : (w.pipe n.val).ready = [] := by
      rw [State.pipe_setPipe, if_pos rfl]
      exact hnone.trans (State.ready_takeReady hu)
    have hrun : exec (.ingressDispatch n) s = .next (w.setPipe n.val { w.pipe n.val with paced := false }) := by
      have hone : u.dispatchSlot n.val [] = (w, [e], true) := State.dispatchSlot_one hu hsrc hyarn hpick'
      show execIngressDispatch n s = _
      have hon' : s.begin.domOn n.val = true := hon
      have hlevel' : s.begin.fld F.PWR_CAP_STS_LEVEL 0 = 0 := hlevel
      simp only [execIngressDispatch, hon', hlevel']
      rw [hone]
      simp [State.dispatchSlot_none _ hw]
    have hpipe : (w.setPipe n.val { w.pipe n.val with paced := false }).pipe n.val = { w.pipe n.val with paced := false } := by
      rw [State.pipe_setPipe, if_pos rfl]
    have hall : NeedleStep (startRegs (n.val * 16) e) n.val (e * 96 + i) s (w.setPipe n.val { w.pipe n.val with paced := false }) :=
      (((((NeedleStep.begin s).trans (NeedleStep.setPipe _ _)).trans (NeedleStep.setPipe _ _)).trans hstep).trans
        (NeedleStep.setPipe _ _)).trans (NeedleStep.setPipe _ _)
    refine ⟨_, _, hrun, hneedle, rfl, rfl, rfl, rfl, rfl, rfl, rfl, rfl, rfl, ?_, ?_, hall.needles, hall.pipes, hcount hc, hall.onlyReports⟩
    · rw [hpipe]
      exact hw
    · rw [hpipe]
      exact (congrArg PipeSt.igPtr ((State.pipe_setPipe ..).trans (if_pos rfl))).trans hpointed
  · intro n id c ids s hegress hcopy hplain
    let u := s.begin.setPipe n.val { s.begin.pipe n.val with egress := ids }
    have hrun : exec (.egressDispatch n) s = .next (u.passEgress n.val id c) := by
      show execEgressDispatch n s = _
      have hegress' : (s.begin.pipe n.val).egress = id :: ids := hegress
      have hcopy' : s.begin.copy id = some c := hcopy
      simp only [execEgressDispatch, hegress', hcopy', hplain]
      rfl
    have hpipe : (u.passEgress n.val id c).pipe n.val = { u.pipe n.val with eg := (u.pipe n.val).eg ++ [passedJob n.val id c] } := by
      rw [State.passEgress, State.pipe_setPipe, if_pos rfl]
      rfl
    rw [State.pipe_setPipe, if_pos rfl] at hpipe
    refine ⟨_, passedJob n.val id c, hrun, ?_, ?_, rfl, rfl, rfl, rfl, rfl, List.take_eq_take_min.symm, fun m hm => ?_, rfl, fun _ _ _ => rfl⟩
    · rw [hpipe]
    · rw [hpipe]
      rfl
    · rw [State.passEgress, State.pipe_setPipe, if_neg hm.symm, State.pipe_setPipe, if_neg hm.symm]
      rfl
  · intro n id e i c ids rest s hegress hcopy hplain hsmp hptr hpick hfree hc
    obtain ⟨hn, hd⟩ := State.pickEngine_eq hpick (by decide) hptr
    let u := s.begin.setPipe n.val { s.begin.pipe n.val with egress := ids }
    have hrun : exec (.egressDispatch n) s = .next (u.startEgress n.val e id c) := by
      show execEgressDispatch n s = _
      have hegress' : (s.begin.pipe n.val).egress = id :: ids := hegress
      have hcopy' : s.begin.copy id = some c := hcopy
      have hpick' : s.begin.pickEngine n.val 1 [] = some e := hpick
      simp only [execEgressDispatch, hegress', hcopy', hplain, hpick']
      rfl
    obtain ⟨⟨md, clk, tick, hneedle⟩, hids, hpointed, hstep, hcount⟩ := u.startEgress_effect (n := n.val) (id := id) c hsmp hn hd hfree
    have hall : NeedleStep (startRegs (n.val * 16 + 8) e) n.val (e * 96 + i) s (u.startEgress n.val e id c) :=
      ((NeedleStep.begin s).trans (NeedleStep.setPipe _ _)).trans hstep
    refine ⟨_, _, hrun, hneedle, rfl, rfl, rfl, rfl, rfl, rfl, rfl, ?_, rfl, ?_, hpointed, hall.needles, hall.pipes, hcount hc,
      hall.onlyReports⟩
    · exact congrArg (padTo 256) List.take_eq_take_min.symm
    · rw [hids, State.pipe_setPipe, if_pos rfl]

end Sys2Proof.Machine
end

section
/-! PROOFS. How a needle's program ends: the needle is free, its packet's jobs have ended, and the sample and the counts of the end are
made (R99, R101, R102, R109, R403 to R405, R466). -/
namespace Sys2Proof.Machine

/-- The registers that the end of a program writes. -/
def endRegs : List Reg := .ACT_CNT :: needleRegs

theorem gaugeRegs_endRegs : ∀ r ∈ gaugeRegs, r ∈ endRegs := by decide

theorem NeedleStep.setFld {p : Reg → Nat → Prop} {n k : Nat} (s : State) {f : Fld} {i : Nat} (v : Nat)
    (h : f.reg ∈ reportRegs ∨ p f.reg i) : NeedleStep p n k s (s.setFld f i v) :=
  NeedleStep.of_reports (OnlyReports.setFld s v h) rfl

/-- A sample record enters its die's buffer, or is counted as dropped (R405). -/
theorem NeedleStep.sampleEnter {p : Reg → Nat → Prop} {n k : Nat} (hp : ∀ i, p .GGE_SBUF_STS i) (s : State) (d a : Nat) (body : Bytes)
    (tick : Nat) : NeedleStep p n k s (s.sampleEnter d a body tick) := by
  have hgauge (u : State) (g : GaugeSt) (hg : g.held = u.gauge.held) : NeedleStep p n k u { u with gauge := g } :=
    of_reports (OnlyReports.of_eq rfl rfl) hg
  have hmissed (u : State) (x : Nat) : NeedleStep p n k u (u.setMissed d x) := hgauge u _ rfl
  have hsamples (u : State) (l : List Sample) : NeedleStep p n k u (u.setSamples d l) :=
    (setFld u _ (.inr (hp d))).trans (hgauge _ _ rfl)
  unfold State.sampleEnter
  extract_lets miss s1
  split
  · exact (hsamples s _).trans (hmissed _ 0)
  · have h1 : NeedleStep p n k s s1 := (setFld s _ (.inr (hp d))).trans (hmissed _ _)
    split
    · exact h1
    · exact (h1.trans (setFld _ _ (.inr (hp d)))).trans (of_reports (OnlyReports.interrupt p _ _) (State.held_interrupt _ _))

/-- The counts of a program's end: of its direction, and of what an abort discards (R101, R466). -/
def State.countEnd (s : State) (e r lost : Nat) : State :=
  let n := enginePipe e
  if engineDir e = 0 then (s.bump .ACT_CNT (n * 25 + 24) lost).steCount n (if r = 0 then 1 else r + 1)
  else if r = 0 then s else s.steCount n 9

/-- The jobs of a list once the program of the packet of needle `nd` has ended. -/
def endJobs (r : Nat) (nd : Needle) (l : List Job) : List Job := l.map (fun j => if j.id = nd.job then j.end r nd else j)

/-- The ACL answers collected for the ingress packet of needle `nd`, which an abort discards (R466). -/
def State.collected (s : State) (n : Nat) (nd : Needle) : Nat :=
  (((s.pipe n).ig.filter (fun j => j.id == nd.job)).map (fun j => j.acls.length)).sum

/-- The sample of an ended program, where its packet is sampled in MODE 0, and the event of an abort (R403, R404). -/
def State.noteEnd (s : State) (k : Nat) (nd : Needle) (r res endPc : Nat) (md : Bytes) : State :=
  let s1 := if nd.sample && s.fld F.GGE_SMP_CFG_MODE (enginePipe (k / 96)) == 0 then s.sampleRecord k nd r res endPc md else s
  if r = 0 then s1 else s1.gauge! (enginePipe (k / 96)) 0x0A 1 (some (r - 1))

theorem State.noteEnd_step (s : State) (k : Nat) (nd : Needle) (r res endPc : Nat) (md : Bytes) (m j : Nat) :
    NeedleStep (fun q _ => q ∈ gaugeRegs ∨ q = .GGE_SBUF_STS) m j s (s.noteEnd k nd r res endPc md) := by
  unfold State.noteEnd
  extract_lets s1
  have h1 : NeedleStep (fun q _ => q ∈ gaugeRegs ∨ q = .GGE_SBUF_STS) m j s s1 := by
    simp only [s1]
    split
    · exact NeedleStep.sampleEnter (fun _ => .inr rfl) s _ _ _ _
    · exact NeedleStep.refl _ m j s
  split
  · exact h1
  · exact h1.trans (NeedleStep.gauge! (fun _ _ => .inl) _ _ _ _ _)

/-- The state with needle `k` free and its packet's jobs ended. -/
def State.freeNeedle (s : State) (k : Nat) (nd : Needle) (r : Nat) : State :=
  let p := s.pipe (enginePipe (k / 96))
  (s.setPipe (enginePipe (k / 96)) { p with ig := endJobs r nd p.ig, eg := endJobs r nd p.eg }).setNeedle k none

theorem State.freeNeedle_effect (s : State) (k : Nat) (nd : Needle) (r : Nat) :
    let n := k / 96 / 4
    (s.freeNeedle k nd r).needle k = none ∧
    (s.freeNeedle k nd r).pipe n = { s.pipe n with ig := endJobs r nd (s.pipe n).ig, eg := endJobs r nd (s.pipe n).eg } ∧
    NeedleStep (fun q i => q = .STE_ENG_STS ∧ i = k / 96) n k s (s.freeNeedle k nd r) := by
  refine ⟨?_, ?_, (NeedleStep.setPipe s _).trans (NeedleStep.setNeedle _ _ ⟨rfl, rfl⟩)⟩
  · rw [State.freeNeedle, State.needle_setNeedle, if_pos rfl]
  · rw [State.freeNeedle, State.pipe, State.pipes_setNeedle]
    exact (State.pipe_setPipe ..).trans (if_pos rfl)

/-- The end of a program: the needle freed, the end noted, and counted. -/
theorem State.endNeedle_eq (s : State) (k : Nat) (nd : Needle) (r res endPc : Nat) : ∃ md, s.endNeedle k nd r res endPc =
    ((s.freeNeedle k nd r).noteEnd k nd r res endPc md).countEnd (k / 96) r (if r = 0 then 0 else s.collected (k / 96 / 4) nd) :=
  ⟨_, rfl⟩

theorem State.countEnd_step (s : State) (e r lost n k : Nat) :
    NeedleStep (fun q _ => q ∈ [.ACT_CNT, .STE_CNT]) n k s (s.countEnd e r lost) := by
  unfold State.countEnd State.steCount
  extract_lets m
  split
  · exact (NeedleStep.bump s _ (.inr (by decide))).trans (NeedleStep.bump _ _ (.inr (by decide)))
  · split
    · exact NeedleStep.refl _ n k s
    · exact NeedleStep.bump s _ (.inr (by decide))

/-- What stays of a needle and a pipeline where a step leaves all needles and pipelines. -/
theorem NeedleStep.same {p : Reg → Nat → Prop} {s t : State} (h : ∀ n k, NeedleStep p n k s t) (m j : Nat) :
    t.pipe m = s.pipe m ∧ t.needle j = s.needle j :=
  ⟨(h (m + 1) 0).pipes m (by omega), (h 0 (j + 1)).needles j (by omega)⟩

/-- A program ends: its needle is free and its packet's jobs have ended; nothing else changes but counts and the Gauge. -/
theorem State.endNeedle_effect (s : State) (k : Nat) (nd : Needle) (r res endPc : Nat) :
    let n := k / 96 / 4
    let t := s.endNeedle k nd r res endPc
    t.needle k = none ∧
    t.pipe n = { s.pipe n with ig := endJobs r nd (s.pipe n).ig, eg := endJobs r nd (s.pipe n).eg } ∧
    NeedleStep (fun q _ => q ∈ endRegs) n k s t := by
  intro n t
  obtain ⟨md, ht⟩ := s.endNeedle_eq k nd r res endPc
  simp only [t, ht]
  obtain ⟨hneedle, hpipe, hfree⟩ := s.freeNeedle_effect k nd r
  have hnote := (s.freeNeedle k nd r).noteEnd_step k nd r res endPc md
  have hcount := ((s.freeNeedle k nd r).noteEnd k nd r res endPc md).countEnd_step (k / 96) r (if r = 0 then 0 else s.collected (k / 96 / 4) nd)
  have h1 := NeedleStep.same hnote n k
  have h2 := NeedleStep.same hcount n k
  refine ⟨by rw [h2.2, h1.2, hneedle], by rw [h2.1, h1.1, hpipe], ?_⟩
  refine ((hfree.mono ?_).trans ((hnote n k).mono ?_)).trans ((hcount n k).mono ?_)
  · rintro q i ⟨rfl, -⟩
    decide
  · rintro q i (hq | rfl)
    · exact gaugeRegs_endRegs q hq
    · decide
  · have hsub : ∀ q ∈ [Reg.ACT_CNT, .STE_CNT], q ∈ endRegs := by decide
    exact fun q _ => hsub q

end Sys2Proof.Machine
end

section
/-! PROOFS. How a needle issues the instruction it fetches (R120, R124, R127 to R129). -/
namespace Sys2Proof.Machine

/-- A word of opcode `op` whose other bits lie in `used` has the opcode in its field, and no undefined bit (R124). -/
theorem opWord_fields {op : Nat} {used w : BitVec 64} (h : opWord op used w) (hop : op < 256)
    (hused : ∀ i : Fin 8, used.getLsbD (56 + i.val) = false) :
    getField w 56 8 = op ∧ w &&& ~~~ (mOp ||| used) = 0 := by
  have hbit (j : Nat) (hj : j < 64) : (w.getLsbD j && !used.getLsbD j) = (decide (56 ≤ j) && op.testBit (j - 56)) := by
    have hw := congrArg (fun z => BitVec.getLsbD z j) h
    rw [BitVec.getLsbD_and, BitVec.getLsbD_not, BitVec.getLsbD_ofNat, Nat.testBit_mul_two_pow, decide_eq_true hj, Bool.true_and,
      Bool.true_and] at hw
    exact hw
  have hmop (j : Nat) (hj : j < 64) : mOp.getLsbD j = decide (56 ≤ j) := by
    have hall : ∀ j : Fin 64, mOp.getLsbD j.val = decide (56 ≤ j.val) := by decide
    exact hall ⟨j, hj⟩
  constructor
  · refine Nat.eq_of_testBit_eq fun i => ?_
    rw [testBit_getField]
    by_cases hi : i < 8
    · have h1 := hbit (56 + i) (by omega)
      rw [hused ⟨i, hi⟩] at h1
      simpa [hi] using h1
    · simp only [hi, decide_false, Bool.false_and]
      exact (Nat.testBit_lt_two_pow (lt_of_lt_of_le hop (Nat.pow_le_pow_right (n := 2) (i := 8) (by decide) (by omega)))).symm
  · refine BitVec.eq_of_getLsbD_eq fun j hj => ?_
    have h1 := hbit j hj
    simp only [BitVec.getLsbD_and, BitVec.getLsbD_not, BitVec.getLsbD_or, hmop j hj, hj, decide_true, Bool.true_and]
    by_cases h56 : 56 ≤ j
    · simp [h56]
    · simpa [h56] using h1

/-- The record that MODE 1 makes at an instruction is not due here (R404). -/
theorem State.samplePoint_none {s : State} {k : Nat} {nd : Needle}
    (h : ¬ (nd.sample = true ∧ s.fld F.GGE_SMP_CFG_MODE (k / 384) = 1 ∧ nd.pc = s.fld F.GGE_SMP_CFG_PC (k / 384))) :
    s.samplePoint k nd = (s, nd) := by
  have hn : enginePipe (k / 96) = k / 384 := by unfold enginePipe; omega
  rw [State.samplePoint, hn]
  refine if_neg fun hc => h ?_
  rw [Bool.and_eq_true, Bool.and_eq_true, beq_iff_eq, beq_iff_eq] at hc
  obtain ⟨⟨h1, h2⟩, h3⟩ := hc
  exact ⟨h1, h2, h3⟩

/-- The state that what an instruction did leaves of needle `k`, which issued it as `nd` in state `u`. -/
def Did.outcome (x : Did) (u : State) (k : Nat) (nd : Needle) : State :=
  match x with
  | .go s nd' => s.setNeedle k (some nd')
  | .hold => u.setNeedle k (some { nd with lastPc := nd.pc, stalled := true })
  | .stop s nd' r => s.endNeedle k nd' r nd'.clk nd.pc

/-- A fetched instruction of defined encoding, on a side that allows it, is issued: its effect `f` decides how the needle goes on, over
a state in which the instruction may have been counted (R120, R127, R128). -/
theorem State.issue_eq {s : State} {e : Fin 64} {i : Fin 96} {nd : Needle} {w : BitVec 64} {op : Nat} {used : BitVec 64} {side : Side}
    (hf : s.fetches (e.val * 96 + i.val) nd w) (hw : opWord op used w) (hop : op < 256)
    (hused : ∀ j : Fin 8, used.getLsbD (56 + j.val) = false) (hside : side.allows (engineDir e.val) = true)
    (f : State → Nat → Needle → BitVec 64 → Did) : ∃ u, (∀ n k, NeedleStep (fun r _ => r ∈ gaugeRegs) n k s u) ∧ u.pipes = s.pipes ∧
    s.issue op used side e i f = .next ((f u (e.val * 96 + i.val) { nd with lastPc := nd.pc } w).outcome u (e.val * 96 + i.val) nd) := by
  obtain ⟨hneedle, hclk, hfetch, hsample⟩ := hf
  obtain ⟨hop', hbits⟩ := opWord_fields hw hop hused
  have hneedle' : s.begin.needle (e.val * 96 + i.val) = some nd := hneedle
  have hfetch' : s.begin.fetch (e.val * 96 + i.val) nd = some w := hfetch
  let g := s.begin.gauge! (enginePipe e.val) 0x05 1 (some (engineDir e.val))
  have hg (n k : Nat) : NeedleStep (fun r _ => r ∈ gaugeRegs) n k s g := (NeedleStep.begin s).trans (NeedleStep.gauge! (fun _ _ => id) _ _ _ _ _)
  have hpoint : g.samplePoint (e.val * 96 + i.val) nd = (g, nd) := by
    refine State.samplePoint_none ?_
    rw [(hg 0 0).step.fld (f := F.GGE_SMP_CFG_MODE) (by decide) (by decide), (hg 0 0).step.fld (f := F.GGE_SMP_CFG_PC) (by decide) (by decide)]
    exact hsample
  have hq : ∃ u, (∀ n k, NeedleStep (fun r _ => r ∈ gaugeRegs) n k s u) ∧ u.pipes = s.pipes ∧
      (if nd.stalled then (s.begin, nd) else g.samplePoint (e.val * 96 + i.val) nd) = (u, nd) := by
    cases nd.stalled
    · exact ⟨g, hg, State.pipes_gauge! .., hpoint⟩
    · exact ⟨s.begin, fun n k => NeedleStep.begin s, rfl, rfl⟩
  obtain ⟨u, hu, hpipes, hq⟩ := hq
  refine ⟨u, hu, hpipes, ?_⟩
  have hbad : (w &&& ~~~ (mOp ||| used) != 0 || !side.allows (engineDir e.val)) = false := by
    rw [hbits, hside]
    rfl
  simp only [State.issue, hneedle', hfetch', hop']
  rw [if_neg (by omega), if_pos trivial]
  simp only [g] at hq
  rw [hq, if_neg (by rw [hbad]; decide)]
  cases f u (e.val * 96 + i.val) { nd with lastPc := nd.pc } w <;> rfl

/-- Once a program has ended with reason `r`, its packet's jobs have. -/
theorem ended_of_mem_endJobs {r : Nat} {nd : Needle} {l : List Job} {j : Job} (h : j ∈ endJobs r nd l) (hid : j.id = nd.job) :
    j.ended = true ∧ (r ≠ 0 → j.reason = r ∧ j.acls = []) := by
  obtain ⟨x, -, hx⟩ := List.mem_map.1 h
  by_cases hj : x.id = nd.job
  · rw [if_pos hj] at hx
    subst hx
    unfold Job.end
    split
    · exact ⟨rfl, fun h => absurd ‹r = 0› h⟩
    · exact ⟨rfl, fun _ => ⟨rfl, rfl⟩⟩
  · rw [if_neg hj] at hx
    rw [hx] at hj
    exact absurd hid hj

section
variable {s : State} {e : Fin 64} {i : Fin 96} {nd : Needle} {w : BitVec 64} {op : Nat} {used : BitVec 64} {side : Side}
  {f : State → Nat → Needle → BitVec 64 → Did} {c : Instr}

/-- An instruction whose effect leaves the needle as `x` and nothing else changed. -/
theorem State.leaves_of_go {x : Needle} (hc : exec c s = s.issue op used side e i f) (hf : s.fetches (e.val * 96 + i.val) nd w)
    (hw : opWord op used w) (hop : op < 256) (hused : ∀ j : Fin 8, used.getLsbD (56 + j.val) = false)
    (hside : side.allows (engineDir e.val) = true)
    (hgo : ∀ u, f u (e.val * 96 + i.val) { nd with lastPc := nd.pc } w = .go u x) : s.leaves c (e.val * 96 + i.val) x := by
  obtain ⟨u, hu, hpipes, hrun⟩ := State.issue_eq hf hw hop hused hside f
  rw [hgo u] at hrun
  have hset : NeedleStep (fun r k => r = .STE_ENG_STS ∧ k = (e.val * 96 + i.val) / 96) 0 (e.val * 96 + i.val) u
      (u.setNeedle (e.val * 96 + i.val) (some x)) := NeedleStep.setNeedle u _ ⟨rfl, rfl⟩
  have hall := ((hu 0 (e.val * 96 + i.val)).mono fun _ _ h => Or.inr h).trans (hset.mono fun _ _ h => Or.inl h)
  refine ⟨_, hc.trans hrun, (State.needle_setNeedle ..).trans (if_pos rfl), hall.needles, ?_⟩
  have honly := hall.onlyReports
  rw [← hpipes, ← State.pipes_setNeedle u (e.val * 96 + i.val) (some x)] at honly
  exact honly

/-- An instruction whose effect ends the program with reason `r` (R102, R128). -/
theorem State.endsWith_of_stop {r : Nat} (hc : exec c s = s.issue op used side e i f) (hf : s.fetches (e.val * 96 + i.val) nd w)
    (hw : opWord op used w) (hop : op < 256) (hused : ∀ j : Fin 8, used.getLsbD (56 + j.val) = false)
    (hside : side.allows (engineDir e.val) = true)
    (hstop : ∀ u, f u (e.val * 96 + i.val) { nd with lastPc := nd.pc } w = .stop u { nd with lastPc := nd.pc } r) :
    s.endsWith c (e.val * 96 + i.val) nd.job r := by
  obtain ⟨u, hu, -, hrun⟩ := State.issue_eq hf hw hop hused hside f
  rw [hstop u] at hrun
  have hend : s.issue op used side e i f = .next (u.endNeedle (e.val * 96 + i.val) { nd with lastPc := nd.pc } r nd.clk nd.pc) := hrun
  obtain ⟨hnone, hpipe, hstep⟩ := u.endNeedle_effect (e.val * 96 + i.val) { nd with lastPc := nd.pc } r nd.clk nd.pc
  have hall := ((hu _ _).mono fun r _ => gaugeRegs_endRegs r).trans hstep
  refine ⟨_, hc.trans hend, hnone, hall.needles, fun j hj hid => ?_, hall.pipes, hall.onlyReports⟩
  rw [hpipe] at hj
  rcases List.mem_append.1 hj with hj | hj
  · exact ended_of_mem_endJobs hj hid
  · exact ended_of_mem_endJobs hj hid

end

end Sys2Proof.Machine
end

section
/-! PROOFS. O26: window, metadata and key accesses of a needle (R122, R123, R124, R156). -/
namespace Sys2Proof.Machine

theorem Needle.setG_eq (nd : Needle) (i : Nat) (v : Word) : nd.setG i v = { nd with regs := nd.regs.set i v } := by
  rw [Needle.setG, modifyAt_const]

/-- Size codes 0 to 2 name 1, 2 and 4 bytes; code 3 names none (R124). -/
theorem accessSize_eq (w : BitVec 64) : accessSize w = if getField w 40 2 = 3 then none else some (2 ^ getField w 40 2) := by
  have hlt : getField w 40 2 < 4 := BitVec.isLt _
  unfold accessSize
  rcases (by omega : getField w 40 2 = 0 ∨ getField w 40 2 = 1 ∨ getField w 40 2 = 2 ∨ getField w 40 2 = 3) with h | h | h | h <;>
    rw [h] <;> rfl

theorem windowOk_iff (nd : Needle) (off n : Nat) : windowOk nd off n = true ↔ off < 256 ∧ off + n ≤ nd.vlen := by
  rw [windowOk, Bool.and_eq_true, decide_eq_true_iff, decide_eq_true_iff]

/-- An effect that writes a register, in `cost` clocks. -/
theorem Needle.adv_setG (nd : Needle) (rd : Nat) (v : Word) (cost : Nat) :
    (({ nd with lastPc := nd.pc } : Needle).setG rd v).adv cost = nd.after { nd with regs := nd.regs.set rd v } nd.clk cost := by
  rw [Needle.setG_eq]
  rfl

/-- A store to metadata stays in its bytes where every byte is one that programs may store to (Table 5-2). -/
theorem mdStore_iff (o sz : Nat) (h : 1 ≤ sz) : (o + sz ≤ 128 && (List.range sz).all (fun j => mdWritable (o + j))) = true ↔
    ∀ j, j < sz → 0x20 ≤ o + j ∧ o + j ≤ 0x25 ∨ 0x30 ≤ o + j ∧ o + j ≤ 0x5F ∨ 0x70 ≤ o + j ∧ o + j ≤ 0x7F := by
  have hone (j : Nat) : mdWritable j = true ↔ 0x20 ≤ j ∧ j ≤ 0x25 ∨ 0x30 ≤ j ∧ j ≤ 0x5F ∨ 0x70 ≤ j ∧ j ≤ 0x7F := by
    simp only [mdWritable, Bool.or_eq_true, Bool.and_eq_true, decide_eq_true_iff, or_assoc]
  rw [Bool.and_eq_true, decide_eq_true_iff, List.all_eq_true]
  constructor
  · rintro ⟨-, h⟩ j hj
    exact (hone _).1 (h j (List.mem_range.2 hj))
  · intro hall
    refine ⟨?_, fun j hj => (hone _).2 (hall j (List.mem_range.1 hj))⟩
    have hlast := hall (sz - 1) (by omega)
    omega

/-- Settles O26: each instruction's effect on the needle, or the reason for which it ends the program. -/
theorem needleLoadsAndStores : Obligations.NeedleLoadsAndStores := by
  intro e i nd w s k hf a b c sz o x put off inWin rw'
  have hsize3 (h : c = 3) : accessSize w = none := by rw [accessSize_eq]; exact if_pos h
  have hsize (h : c ≠ 3) : accessSize w = some sz := by rw [accessSize_eq]; exact if_neg h
  have hsz : 1 ≤ sz := Nat.one_le_two_pow
  have hwin (f n : Nat) : windowOk { nd with lastPc := nd.pc } f n = true ↔ inWin f n := windowOk_iff _ f n
  refine ⟨fun hw => ?_, fun hw => ?_, fun hw => ?_, fun hw => ?_, fun hw => ?_, fun hw => ?_, fun hw => ?_, fun hw hdir => ?_⟩
  · intro f
    have hgo {x : Needle} := State.leaves_of_go (c := .ldh e i) (x := x) (side := .any) (execLdh.eq_1 e i s) hf hw (by decide) (by decide) rfl
    have hstop {r : Nat} := State.endsWith_of_stop (c := .ldh e i) (r := r) (side := .any) (execLdh.eq_1 e i s) hf hw (by decide) (by decide) rfl
    refine ⟨fun hc => hstop fun u => ?_, fun hc hin => hgo fun u => ?_, fun hc hin => hstop fun u => ?_⟩
    · simp only [hsize3 hc]
    · simp only [hsize hc]
      exact (if_pos ((hwin f sz).2 hin)).trans (congrArg (Did.go u) (Needle.adv_setG nd _ _ 1))
    · simp only [hsize hc]
      exact if_neg fun h => hin ((hwin f sz).1 h)
  · show _ ∧ _
    have hgo {x : Needle} := State.leaves_of_go (c := .ldm e i) (x := x) (side := .any) (execLdm.eq_1 e i s) hf hw (by decide) (by decide) rfl
    have hstop {r : Nat} := State.endsWith_of_stop (c := .ldm e i) (r := r) (side := .any) (execLdm.eq_1 e i s) hf hw (by decide) (by decide) rfl
    refine ⟨fun hc hin => hgo fun u => ?_, fun h => hstop fun u => ?_⟩
    · simp only [hsize hc]
      rw [if_pos hin, Did.write, Needle.adv_setG]
    · by_cases hc : c = 3
      · simp only [hsize3 hc]
      · simp only [hsize hc]
        exact if_neg (Nat.not_le.2 (h.resolve_left hc))
  · intro good
    have hgo {x : Needle} := State.leaves_of_go (c := .stm e i) (x := x) (side := .any) (execStm.eq_1 e i s) hf hw (by decide) (by decide) rfl
    have hstop {r : Nat} := State.endsWith_of_stop (c := .stm e i) (r := r) (side := .any) (execStm.eq_1 e i s) hf hw (by decide) (by decide) rfl
    refine ⟨fun hg => hgo fun u => ?_, fun h => hstop fun u => ?_⟩
    · simp only [hsize hg.1]
      rw [if_pos ((mdStore_iff o sz hsz).2 hg.2)]
      rfl
    · by_cases hc : c = 3
      · simp only [hsize3 hc]
      · simp only [hsize hc]
        exact if_neg fun hs => h ⟨hc, (mdStore_iff o sz hsz).1 hs⟩
  · show _ ∧ _
    have hgo {x : Needle} := State.leaves_of_go (c := .kput e i) (x := x) (side := .any) (execKput.eq_1 e i s) hf hw (by decide) (by decide) rfl
    have hstop {r : Nat} := State.endsWith_of_stop (c := .kput e i) (r := r) (side := .any) (execKput.eq_1 e i s) hf hw (by decide) (by decide) rfl
    refine ⟨fun hc hin => hgo fun u => ?_, fun h => hstop fun u => ?_⟩
    · simp only [hsize hc]
      rw [if_pos hin]
      rfl
    · by_cases hc : c = 3
      · simp only [hsize3 hc]
      · simp only [hsize hc]
        exact if_neg (Nat.not_le.2 (h.resolve_left hc))
  · intro f q bad
    have hgo {x : Needle} := State.leaves_of_go (c := .kcpy e i) (x := x) (side := .any) (execKcpy.eq_1 e i s) hf hw (by decide) (by decide) rfl
    have hstop {r : Nat} := State.endsWith_of_stop (c := .kcpy e i) (r := r) (side := .any) (execKcpy.eq_1 e i s) hf hw (by decide) (by decide) rfl
    refine ⟨fun hb => hstop fun u => if_pos hb, fun hb hin => hgo fun u => ?_, fun hb hin => hstop fun u => ?_⟩
    · exact (if_neg hb).trans (if_pos ((hwin f x).2 hin))
    · exact (if_neg hb).trans (if_neg fun h => hin ((hwin f x).1 h))
  · intro bad
    have hgo {x : Needle} := State.leaves_of_go (c := .kclr e i) (x := x) (side := .any) (execKclr.eq_1 e i s) hf hw (by decide) (by decide) rfl
    have hstop {r : Nat} := State.endsWith_of_stop (c := .kclr e i) (r := r) (side := .any) (execKclr.eq_1 e i s) hf hw (by decide) (by decide) rfl
    have hbad : x = 0 ∨ 80 < x ∨ 80 < o + x ↔ bad := by simp only [bad]; omega
    exact ⟨fun hb => hstop fun u => if_pos (hbad.2 hb), fun hb => hgo fun u => if_neg fun h => hb (hbad.1 h)⟩
  · intro bad
    have hgo {x : Needle} := State.leaves_of_go (c := .hash e i) (x := x) (side := .any) (execHash.eq_1 e i s) hf hw (by decide) (by decide) rfl
    have hstop {r : Nat} := State.endsWith_of_stop (c := .hash e i) (r := r) (side := .any) (execHash.eq_1 e i s) hf hw (by decide) (by decide) rfl
    have hbad : x = 0 ∨ 80 < x ∨ 80 < o + x ↔ bad := by simp only [bad]; omega
    refine ⟨fun hb => hstop fun u => if_pos (hbad.2 hb), fun hb => hgo fun u => ?_⟩
    exact (if_neg fun h => hb (hbad.1 h)).trans (congrArg (Did.go u) (Needle.adv_setG nd _ _ 2))
  · intro f
    have hside : Side.allows .egress (engineDir e.val) = true := beq_iff_eq.2 hdir
    have hgo {x : Needle} := State.leaves_of_go (c := .sth e i) (x := x) (side := .egress) (execSth.eq_1 e i s) hf hw (by decide) (by decide) hside
    have hstop {r : Nat} := State.endsWith_of_stop (c := .sth e i) (r := r) (side := .egress) (execSth.eq_1 e i s) hf hw (by decide) (by decide) hside
    refine ⟨fun hc => hstop fun u => ?_, fun hc hin => hgo fun u => ?_, fun hc hin => hstop fun u => ?_⟩
    · simp only [hsize3 hc]
    · simp only [hsize hc]
      exact if_pos ((hwin f sz).2 hin)
    · simp only [hsize hc]
      exact if_neg fun h => hin ((hwin f sz).1 h)

end Sys2Proof.Machine
end

section
/-! PROOFS. O23: a program at its budget is aborted, and reorder releases what has ended (R99, R106, R108, R109, R466). -/
namespace Sys2Proof.Machine

/-! ### The counts of an abort -/

/-- An aborted program is counted in its direction, and with an ingress one the ACL answers that it discards (R101, R466). -/
theorem State.reg_endNeedle (s : State) (k : Nat) (nd : Needle) {r : Nat} (res endPc : Nat) (hr : r ≠ 0) :
    let n := k / 96 / 4
    let t := s.endNeedle k nd r res endPc
    (engineDir (k / 96) = 0 →
      (s.counts .STE_CNT (n * 16 + (r + 1)) → t.reg .STE_CNT (n * 16 + (r + 1)) = s.reg .STE_CNT (n * 16 + (r + 1)) + 1) ∧
      (s.counts .ACT_CNT (n * 25 + 24) →
        t.reg .ACT_CNT (n * 25 + 24) = s.reg .ACT_CNT (n * 25 + 24) + BitVec.ofNat 64 (s.collected n nd))) ∧
    (engineDir (k / 96) ≠ 0 → s.counts .STE_CNT (n * 16 + 9) → t.reg .STE_CNT (n * 16 + 9) = s.reg .STE_CNT (n * 16 + 9) + 1) := by
  intro n t
  obtain ⟨md, ht⟩ := s.endNeedle_eq k nd r res endPc
  obtain ⟨-, -, hfree⟩ := s.freeNeedle_effect k nd r
  have hnote := (s.freeNeedle k nd r).noteEnd_step k nd r res endPc md n k
  rw [if_neg hr] at ht
  let u := (s.freeNeedle k nd r).noteEnd k nd r res endPc md
  have hu : EngineStep (fun q _ => q = .STE_ENG_STS ∨ q ∈ gaugeRegs ∨ q = .GGE_SBUF_STS) s u :=
    (hfree.mono fun _ _ h => .inl h.1).step.trans (hnote.mono fun _ _ h => .inr h).step
  have hcounted (v : State) (i x : Nat) : EngineStep (fun q _ => q = .STE_CNT) v (v.bump .STE_CNT i x) := EngineStep.bump v x (.inr rfl)
  have hacl : EngineStep (fun q _ => q = .STE_ENG_STS ∨ q ∈ gaugeRegs ∨ q = .GGE_SBUF_STS ∨ q = .ACT_CNT) s
      (u.bump .ACT_CNT (n * 25 + 24) (s.collected n nd)) :=
    (hu.mono fun _ _ h => h.imp_right (·.imp_right .inl)).trans (EngineStep.bump u _ (.inr (.inr (.inr (.inr rfl)))))
  refine ⟨fun hd => ?_, fun hd hc => ?_⟩
  · have ht' : t = (u.bump .ACT_CNT (n * 25 + 24) (s.collected n nd)).steCount n (r + 1) := by
      simp only [t]
      rw [ht, State.countEnd]
      exact (if_pos hd).trans (by rw [if_neg hr]; rfl)
    rw [ht']
    refine ⟨fun hc => hacl.reg_bump hc (by decide) (by decide) 1, fun hc => ?_⟩
    rw [State.steCount, (hcounted _ _ _).reg (by decide) (by decide)]
    exact hu.reg_bump hc (by decide) (by decide) _
  · have ht' : t = u.steCount n 9 := by
      simp only [t]
      rw [ht, State.countEnd]
      exact (if_neg hd).trans (if_neg hr)
    rw [ht']
    exact hu.reg_bump hc (by decide) (by decide) 1

/-! ### What the end of a copy leaves -/

/-- From `s` to `t` pipelines and transmissions stay, of the registers only the buffer's and the Skein's counters and reports change, and
copies stay but that, where `may`, some are linked. -/
structure LinkStep (may : Prop) (s t : State) : Prop where
  pipes : t.pipes = s.pipes
  txq : t.txq = s.txq
  regs : RegsBut (fun r _ => r ∈ reportRegs ∨ r ∈ [.BPM_CNT, .SKN_CNT]) s t
  copies : ∀ k, t.copy k = s.copy k ∨ may ∧ ∃ x, s.copy k = some x ∧ t.copy k = some { x with linked := true }

namespace LinkStep
variable {may : Prop} {z s t : State}

theorem refl (s : State) : LinkStep may s s := ⟨rfl, rfl, fun _ _ _ => rfl, fun _ => .inl rfl⟩

/-- A step that leaves all four leaves them behind any other. -/
theorem upd (h : LinkStep may z s) (hp : t.pipes = s.pipes) (hx : t.txq = s.txq) (hc : t.copies = s.copies)
    (hr : RegsBut (fun r _ => r ∈ reportRegs ∨ r ∈ [.BPM_CNT, .SKN_CNT]) s t) : LinkStep may z t where
  pipes := hp.trans h.pipes
  txq := hx.trans h.txq
  regs := h.regs.trans hr
  copies k := by
    have hk : t.copy k = s.copy k := by rw [State.copy, State.copy, hc]
    rw [hk]
    exact h.copies k

theorem reports {p : Reg → Nat → Prop} (h : LinkStep may z s) (ht : OnlyReports p s t) (hp : ∀ r i, p r i → r ∈ [.BPM_CNT, .SKN_CNT]) :
    LinkStep may z t :=
  h.upd (congrArg State.pipes ht.1 :) (congrArg State.txq ht.1 :) ht.copies (ht.2.mono fun r i e => e.imp_right (hp r i))

theorem ite {p : Prop} [Decidable p] {a b : State} (ha : LinkStep may z a) (hb : LinkStep may z b) : LinkStep may z (if p then a else b) := by
  split
  · exact ha
  · exact hb

theorem setQueue (h : LinkStep may z s) {k : Nat} {q : QSt} : LinkStep may z (s.setQueue k q) := h.upd rfl rfl rfl fun _ _ _ => rfl
theorem setBuf (h : LinkStep may z s) {d : Nat} {b : BufSt} : LinkStep may z (s.setBuf d b) := h.upd rfl rfl rfl fun _ _ _ => rfl

theorem bump (h : LinkStep may z s) {r : Reg} {i n : Nat} (hr : r ∈ [.BPM_CNT, .SKN_CNT]) : LinkStep may z (s.bump r i n) :=
  h.reports (p := fun q _ => q = r) (OnlyReports.bump s n (.inr rfl)) fun _ _ e => e ▸ hr

theorem account (h : LinkStep may z s) {c : Copy} {dn dh ds : Int} : LinkStep may z (s.account c dn dh ds) := by
  unfold State.account
  dsimp only
  split
  · exact h.setQueue.setBuf
  · exact h.setQueue.setBuf
  · exact h.setQueue

theorem groupMove (h : LinkStep may z s) {g : Option (Nat × Nat)} {n : Int} : LinkStep may z (s.groupMove g n) := by
  have hfix {u : State} (hu : LinkStep may z u) (p tc : Nat) : LinkStep may z (u.fixGroup p tc) := by
    have hx (l : List Nat) : LinkStep may z { u with xoff := l } := hu.upd rfl rfl rfl fun _ _ _ => rfl
    have hoff (l : List Nat) (cls : Nat) : LinkStep may z (State.sendCtrl { u with xoff := l } p cls false) :=
      (hx l).upd rfl rfl rfl fun _ _ _ => rfl
    have hon (l : List Nat) (cls : Nat) : LinkStep may z ((State.bpmCount { u with xoff := l } (p / 64) 5 1).sendCtrl p cls true) :=
      ((hx l).bump (by decide)).upd rfl rfl rfl fun _ _ _ => rfl
    unfold State.fixGroup
    exact ite (ite (ite (hoff _ _) hu) (ite (hon _ _) hu)) (hx _)
  unfold State.groupMove
  split
  · exact h
  · refine hfix ?_ _ _
    exact h.upd rfl rfl rfl fun _ _ _ => rfl

theorem leaveStaging (h : LinkStep may z s) {id : Nat} : LinkStep may z (s.leaveStaging id) := by
  unfold State.leaveStaging
  split
  · exact h.upd rfl rfl rfl fun _ _ _ => rfl
  · exact h

theorem spillStart (h : LinkStep may z s) {k : Nat} : LinkStep may z (s.spillStart k) := by
  obtain ⟨-, -, hspill⟩ := s.spillStart_effect k
  exact h.upd (congrArg State.pipes hspill.1 :) (congrArg State.txq hspill.1 :) (hspill.copies :)
    (hspill.2.mono fun r i e => e.imp_right fun e => by rw [e]; decide)

/-- A copy is linked. -/
theorem link (h : LinkStep may z s) (hmay : may) {id : Nat} {c : Copy} (hc : s.copy id = some c) :
    LinkStep may z (s.setCopy id (some { c with linked := true })) where
  pipes := h.pipes
  txq := h.txq
  regs := h.regs
  copies k := by
    rw [State.copy_setCopy]
    split
    next hk =>
      subst hk
      rcases h.copies id with he | ⟨-, x, hx, he⟩
      · exact .inr ⟨hmay, c, he.symm.trans hc, rfl⟩
      · obtain rfl : c = { x with linked := true } := Option.some.inj (hc.symm.trans he)
        exact .inr ⟨hmay, x, hx, rfl⟩
    next => exact h.copies k

theorem linkTo (h : LinkStep may z s) (hmay : may) {k : Nat} {ids : List Nat} : LinkStep may z (s.linkTo k ids) := by
  have h1 : LinkStep may z (s.each ids fun t id => match t.copy id with
      | some c => t.setCopy id (some { c with linked := true })
      | none => t) := State.each_induction ids h fun u a hu => by
    split
    next hc => exact hu.link hmay hc
    next => exact hu
  exact (h1.setQueue.bump (by decide)).spillStart

/-- The same copy goes from both. -/
theorem setCopy_none (h : LinkStep may s t) (id : Nat) : LinkStep may (s.setCopy id none) (t.setCopy id none) where
  pipes := h.pipes
  txq := h.txq
  regs := h.regs
  copies k := by
    rw [State.copy_setCopy, State.copy_setCopy]
    split
    · exact .inl rfl
    · exact h.copies k

/-- A copy is gone; copies that waited are linked only behind one that is cut through (R232). -/
theorem release (s : State) (id : Nat) (c : Copy) : LinkStep (c.cut = true) (s.setCopy id none) (s.release id c) := by
  unfold State.release
  extract_lets s1 q s2 s3 s4
  have h2 : LinkStep (c.cut = true) s s2 := (refl s).account.groupMove.setQueue
  have h3 : LinkStep (c.cut = true) (s.setCopy id none) s3 := h2.setBuf.setCopy_none id
  have h4 : LinkStep (c.cut = true) (s.setCopy id none) s4 := by
    simp only [s4]
    split
    next hc =>
      rw [Bool.and_eq_true, Bool.and_eq_true, Bool.and_eq_true] at hc
      obtain ⟨⟨⟨hcut, -⟩, -⟩, -⟩ := hc
      exact h3.setQueue.linkTo hcut
    next => exact h3
  split
  · exact h4.leaveStaging
  · exact h4

end LinkStep

/-! ### The abort and the releases -/

/-- The job of a packet whose program ended with a reason (R99, R102, R466). -/
theorem Job.end_reason (j : Job) {r : Nat} (nd : Needle) (hr : r ≠ 0) :
    j.end r nd = { j with ended := true, reason := r, md := (if j.copy.isNone then j.outerMd r else j.md), acls := [] } := if_neg hr

/-- A needle that has used its budget is aborted (R99). -/
theorem exec_budgetAbort {e : Fin 64} {n : Fin 96} {nd : Needle} {s : State} (h : s.needle (e.val * 96 + n.val) = some nd)
    (hclk : nd.budget ≤ nd.clk) :
    exec (.budgetAbort e n) s = .next (s.begin.endNeedle (e.val * 96 + n.val) nd 1 nd.budget nd.pc) := by
  show execBudgetAbort e n s = _
  have h' : s.begin.needle (e.val * 96 + n.val) = some nd := h
  simp only [execBudgetAbort, h']
  exact if_pos hclk

/-- A needle within its budget that waits for nothing, or for what has come, goes on (R99). -/
theorem exec_budgetAbort_within {e : Fin 64} {n : Fin 96} {nd : Needle} {s : State} (h : s.needle (e.val * 96 + n.val) = some nd)
    (hclk : nd.clk < nd.budget) (hwait : (nd.stalled && (nd.ready (s.awaits (e.val * 96 + n.val) nd)).isNone) = false) :
    exec (.budgetAbort e n) s = .next { s with out := [] } := by
  show execBudgetAbort e n s = _
  have h' : s.begin.needle (e.val * 96 + n.val) = some nd := h
  have hwait' : (nd.stalled && (nd.ready (s.begin.awaits (e.val * 96 + n.val) nd)).isNone) = false := hwait
  simp only [execBudgetAbort, h', hwait']
  exact if_neg (Nat.not_le.2 hclk)

/-- Pipeline `q` without its packet of number `id` in ingress reorder, which is `j`, now last at action merge (R106). -/
def PipeSt.toMerge (q : PipeSt) (j : Job) : PipeSt := { q with ig := removeFirst (fun x => x.id == j.id) q.ig, merge := q.merge ++ [.job j] }

theorem exec_releaseIngress {n : Fin 16} {src : Fin 160} {j : Job} {s : State} (late : Bool)
    (h : (s.pipe n.val).ig.find? (fun j => j.src == src.val) = some j) :
    (j.ended = false → exec (.reorderRelease n false src late) s = .next s.begin) ∧
    (j.ended = true → j.reason ≠ 0 ∨ s.aclOut j = [] →
      exec (.reorderRelease n false src late) s = .next (s.begin.setPipe n.val ((s.pipe n.val).toMerge j))) := by
  have h' : (s.begin.pipe n.val).ig.find? (fun j => j.src == src.val) = some j := h
  refine ⟨fun hend => ?_, fun hend hacl => ?_⟩
  · show execReorderRelease n false src late s = _
    simp only [execReorderRelease, State.releaseIngress, h', hend]
    rfl
  · have hout : (if j.reason = 0 then s.begin.aclOut j else []) = [] := by
      split
      next h0 => exact hacl.resolve_left (not_not.2 h0)
      next => rfl
    show execReorderRelease n false src late s = _
    simp only [execReorderRelease, State.releaseIngress, h', hend, hout]
    rfl

/-- Pipeline `q` without its packet of number `id` in egress reorder. -/
def PipeSt.fromReorder (q : PipeSt) (id : Nat) : PipeSt := { q with eg := removeFirst (fun x => x.id == id) q.eg }

/-- A copy as its program and its edits leave it (R108). -/
def Copy.edited (c : Copy) (j : Job) : Copy :=
  { c with bytes := j.head ++ c.bytes.drop (min 192 c.bytes.length), md := j.md, twoStep := j.twoStep }

theorem exec_releaseEgress {n : Fin 16} {src : Fin 160} {j : Job} {c : Copy} {s : State} (late : Bool)
    (h : (s.pipe n.val).eg.find? (fun j => j.src == src.val) = some j) (hc : s.copy j.id = some c) :
    let u := s.begin.setPipe n.val ((s.pipe n.val).fromReorder j.id)
    (j.ended = false → exec (.reorderRelease n true src late) s = .next s.begin) ∧
    (j.ended = true → j.reason = 0 → beAt j.md 0x14 1 = 0 → src.val < 144 →
      exec (.reorderRelease n true src late) s = .next { u.setCopy j.id (some (c.edited j)) with
        txq := SMap.set (fun _ => []) s.txq src.val (SMap.get (fun _ => []) s.txq src.val ++ [j.id]) }) ∧
    (j.ended = true → j.reason ≠ 0 → s.bit F.STE_DISP_CFG_EG_ABORT_PASS n.val = false →
      exec (.reorderRelease n true src late) s = .next (u.release j.id c)) := by
  intro u
  have h' : (s.begin.pipe n.val).eg.find? (fun j => j.src == src.val) = some j := h
  have hc' : (s.begin.setPipe n.val { s.begin.pipe n.val with
      eg := removeFirst (fun x => x.id == j.id) (s.begin.pipe n.val).eg }).copy j.id = some c := hc
  refine ⟨fun hend => ?_, fun hend hr hdrop hsrc => ?_, fun hend hr hpass => ?_⟩
  · show execReorderRelease n true src late s = _
    simp only [execReorderRelease, State.releaseEgress, h', hend]
    rfl
  · have hsrc' : ¬ 144 ≤ src.val := by omega
    show execReorderRelease n true src late s = _
    simp only [execReorderRelease, State.releaseEgress, h', hend, hc', hr, hdrop, hsrc']
    rfl
  · have hpass' : (s.begin.setPipe n.val { s.begin.pipe n.val with
        eg := removeFirst (fun x => x.id == j.id) (s.begin.pipe n.val).eg }).bit F.STE_DISP_CFG_EG_ABORT_PASS n.val = false := hpass
    have hr' : decide (j.reason ≠ 0) = true := decide_eq_true hr
    show execReorderRelease n true src late s = _
    simp only [execReorderRelease, State.releaseEgress, h', hend, hc', hpass', hr']
    rfl

/-- Settles O23: the abort and its counts, the needle that is left alone, and the two releases. -/
theorem abortAndReorder : Obligations.AbortAndReorder := by
  refine ⟨?_, fun e n nd s => exec_budgetAbort_within, ?_, ?_⟩
  · intro e n nd s k hneedle hclk hc
    have hk : k / 96 = e.val := by simp only [k]; omega
    obtain ⟨hnone, hpipe, hstep⟩ := s.begin.endNeedle_effect k nd 1 nd.budget nd.pc
    obtain ⟨hig, heg⟩ := s.begin.reg_endNeedle k nd nd.budget nd.pc (r := 1) (by decide)
    have hall := (NeedleStep.begin s).trans hstep
    rw [hk] at hpipe hig heg hall
    refine ⟨_, exec_budgetAbort hneedle hclk, hnone, hall.needles, ?_, ?_, hall.pipes, ?_, fun hd hacl => ?_, ?_⟩
    · rw [hpipe]
      exact List.map_congr_left fun j _ => by rw [Job.end_reason j nd (by decide)]
    · rw [hpipe]
      exact List.map_congr_left fun j _ => by rw [Job.end_reason j nd (by decide)]
    · by_cases hd : e.val % 4 < 2
      · rw [if_pos hd] at hc ⊢
        exact (hig (by unfold engineDir; omega)).1 hc
      · rw [if_neg hd] at hc ⊢
        exact heg (by unfold engineDir; omega) hc
    · exact (hig (by unfold engineDir; omega)).2 hacl
    · have hregs : ∀ r ∈ endRegs, r ∈ [.STE_CNT, .ACT_CNT, .STE_ENG_STS, .GGE_CNT, .GGE_OVF, .GGE_FRZ, .GGE_SBUF_STS] := by decide
      exact hall.onlyReports.mono fun r _ => hregs r
  · intro n src late j s hj
    obtain ⟨hwait, hgo⟩ := exec_releaseIngress (n := n) late hj
    have hpipe : (s.begin.setPipe n.val ((s.pipe n.val).toMerge j)).pipe n.val = (s.pipe n.val).toMerge j := by
      rw [State.pipe_setPipe, if_pos rfl]
    refine ⟨hwait, fun hend hacl => ⟨_, hgo hend hacl, ?_, ?_, ?_, fun m hm => ?_, rfl, fun _ _ _ => rfl⟩⟩
    · exact congrArg PipeSt.ig hpipe
    · exact congrArg PipeSt.merge hpipe
    · exact (congrArg PipeSt.eg hpipe :)
    · rw [State.pipe_setPipe, if_neg hm.symm]
      rfl
  · intro n src late j c s hj hc
    obtain ⟨hwait, hsent, hgone⟩ := exec_releaseEgress (n := n) late hj hc
    have hpipe : (s.begin.setPipe n.val ((s.pipe n.val).fromReorder j.id)).pipe n.val = (s.pipe n.val).fromReorder j.id := by
      rw [State.pipe_setPipe, if_pos rfl]
    refine ⟨hwait, fun hend hr hdrop hsrc => ⟨_, hsent hend hr hdrop hsrc, ?_, ?_, ?_, fun k hk => ?_, rfl, fun _ _ _ => rfl⟩,
      fun hend hr hpass => ?_⟩
    · exact congrArg PipeSt.eg hpipe
    · exact (SMap.get_set ..).trans (if_pos rfl)
    · show ((s.begin.setPipe n.val ((s.pipe n.val).fromReorder j.id)).setCopy j.id (some (c.edited j))).copy j.id = _
      rw [State.copy_setCopy, if_pos rfl]
      rfl
    · show ((s.begin.setPipe n.val ((s.pipe n.val).fromReorder j.id)).setCopy j.id (some (c.edited j))).copy k = _
      rw [State.copy_setCopy, if_neg hk.symm]
      rfl
    · have hstep := LinkStep.release (s.begin.setPipe n.val ((s.pipe n.val).fromReorder j.id)) j.id c
      refine ⟨_, hgone hend hr hpass, ?_, hstep.txq, ?_, fun k hk => ?_, hstep.regs⟩
      · rw [State.pipe, hstep.pipes]
        exact congrArg PipeSt.eg hpipe
      · rcases hstep.copies j.id with h | ⟨-, x, h, -⟩
        · exact h.trans ((State.copy_setCopy ..).trans (if_pos rfl))
        · rw [State.copy_setCopy, if_pos rfl] at h
          cases h
      · have h := hstep.copies k
        rw [State.copy_setCopy, if_neg hk.symm] at h
        exact h

end Sys2Proof.Machine
end

section
/-! PROOFS. O35: action merge drops, forwards or hands over the next packet (R104, R105, R110, R137, R207 to R211). -/
namespace Sys2Proof.Machine

/-! ### The packet taken, and what is counted -/

/-- Pipeline `n` has taken a packet at action merge, leaving `rest`, and counted it as MERGED; counts `p` may have been made as well. -/
structure Merged (n : Nat) (rest : List Merge) (p : Reg → Nat → Prop) (s t : State) : Prop where
  step : EngineStep (fun r i => r = .ACT_CNT ∧ i = n * 25 ∨ p r i) s t
  pipes : t.pipes = (s.setPipe n { s.pipe n with merge := rest }).pipes
  counted : t.reg .ACT_CNT (n * 25) = s.reg .ACT_CNT (n * 25) + 1

/-- The state in which pipeline `n` has taken a packet at action merge. -/
def State.takeMerge (s : State) (n : Nat) (rest : List Merge) : State :=
  (s.begin.setPipe n { s.pipe n with merge := rest }).actCount n 0

namespace Merged
variable {n : Nat} {rest : List Merge} {p : Reg → Nat → Prop} {s t : State}

theorem start (hc : s.counts .ACT_CNT (n * 25)) : Merged n rest (fun _ _ => False) s (s.takeMerge n rest) where
  step := ((EngineStep.begin s).trans (EngineStep.setPipe _ n _)).trans (EngineStep.bump _ 1 (.inr (.inl ⟨rfl, rfl⟩)))
  pipes := State.pipes_bump ..
  counted := State.reg_bump_counts (s := s.begin.setPipe n { s.pipe n with merge := rest }) hc 1

/-- Another count. -/
theorem bump (h : Merged n rest p s t) {r : Reg} {i : Nat} (hne : ¬ (r = .ACT_CNT ∧ i = n * 25)) :
    Merged n rest (fun q k => p q k ∨ q = r ∧ k = i) s (t.bump r i 1) where
  step := (h.step.mono fun _ _ e => e.imp_right .inl).trans (EngineStep.bump t 1 (.inr (.inr (.inr ⟨rfl, rfl⟩))))
  pipes := (State.pipes_bump ..).trans h.pipes
  counted := by
    have hstep : EngineStep (fun q k => q = r ∧ k = i) t (t.bump r i 1) := EngineStep.bump t 1 (.inr ⟨rfl, rfl⟩)
    rw [hstep.reg (by decide) (fun e => hne ⟨e.1.symm, e.2.symm⟩), h.counted]

/-- Its own counter counts one, where nothing has counted there. -/
theorem reg_bump (h : Merged n rest p s t) {r : Reg} {i : Nat} (hr : r ∉ reportRegs) (hne : ¬ (r = .ACT_CNT ∧ i = n * 25)) (hp : ¬ p r i)
    (hc : s.counts r i) : (t.bump r i 1).reg r i = s.reg r i + 1 :=
  h.step.reg_bump hc hr (fun e => e.elim hne hp) 1

/-- A counted event. -/
theorem gauge! (h : Merged n rest p s t) (b code v : Nat) (q : Option Nat) :
    Merged n rest (fun r k => p r k ∨ r ∈ gaugeRegs) s (t.gauge! b code v q) where
  step := (h.step.mono fun _ _ e => e.imp_right .inl).trans (EngineStep.gauge! (fun _ _ e => .inr (.inr e)) t b code v q)
  pipes := (State.pipes_gauge! ..).trans h.pipes
  counted := by
    have hstep : EngineStep (fun r _ => r ∈ gaugeRegs) t (t.gauge! b code v q) := EngineStep.gauge! (fun _ _ => id) t b code v q
    rw [hstep.reg (by decide) (by decide), h.counted]

theorem reg_gauge! (t : State) (b code v : Nat) (q : Option Nat) {r : Reg} {i : Nat} (hr : r ∉ reportRegs) (hg : r ∉ gaugeRegs) :
    (t.gauge! b code v q).reg r i = t.reg r i :=
  EngineStep.reg (EngineStep.gauge! (p := fun r _ => r ∈ gaugeRegs) (fun _ _ => id) t b code v q) hr hg

/-- A change of the staging alone. -/
theorem staged (h : Merged n rest p s t) (l : SMap (Option Staged)) : Merged n rest p s { t with staged := l } where
  step := h.step.trans (EngineStep.of_rest rfl)
  pipes := h.pipes
  counted := h.counted

end Merged

/-- Action merge has a frame: only its staging record changes (R92). -/
theorem State.mergedStage_eq (s : State) (id : Nat) : ∃ l, s.mergedStage id = { s with staged := l } := by
  unfold State.mergedStage
  split
  · exact ⟨_, rfl⟩
  · exact ⟨_, rfl⟩

/-! ### What a packet at action merge may change -/

/-- From `s` to `t` pipeline `n` has taken a packet at action merge, leaving `rest`, and nothing else has changed but copies, buffers,
staging, counts and reports. -/
def MergeFrame (n : Nat) (rest : List Merge) (s t : State) : Prop :=
  (t.pipe n).merge = rest ∧ t.reg .ACT_CNT (n * 25) = s.reg .ACT_CNT (n * 25) + 1 ∧ (∀ q, q ≠ n → t.pipe q = s.pipe q) ∧
    t.tabs = s.tabs ∧ t.queues = s.queues ∧ t.txq = s.txq ∧ t.ports = s.ports ∧
    RegsBut (fun r _ => r ∈ reportRegs ++ [.ACT_CNT, .STE_CNT, .SCH_CNT, .GGE_CNT, .GGE_OVF, .GGE_FRZ]) s t

/-- The counters of action merge and the Gauge. -/
def mergeRegs : List Reg := [.ACT_CNT, .STE_CNT, .SCH_CNT, .GGE_CNT, .GGE_OVF, .GGE_FRZ]

theorem gaugeRegs_mergeRegs : ∀ r ∈ gaugeRegs, r ∈ mergeRegs := by decide

theorem Merged.frame {n : Nat} {rest : List Merge} {p : Reg → Nat → Prop} {s t : State} (h : Merged n rest p s t)
    (hp : ∀ r i, p r i → r ∈ mergeRegs) : MergeFrame n rest s t := by
  have hpipe (q : Nat) : t.pipe q = (s.setPipe n { s.pipe n with merge := rest }).pipe q := by rw [State.pipe, State.pipe, h.pipes]
  have hrest := h.step.reports.1
  refine ⟨?_, h.counted, fun q hq => ?_, (congrArg State.tabs hrest :), (congrArg State.queues hrest :), (congrArg State.txq hrest :),
    (congrArg State.ports hrest :), fun r i hr => h.step.reports.2 r i fun e => hr ?_⟩
  · rw [hpipe, State.pipe_setPipe, if_pos rfl]
  · rw [hpipe, State.pipe_setPipe, if_neg hq.symm]
  · rcases e with e | ⟨rfl, -⟩ | e
    · exact List.mem_append.2 (.inl e)
    · decide
    · exact List.mem_append.2 (.inr (hp r i e))

/-- No copy is made. -/
theorem Merged.noCopy {n : Nat} {rest : List Merge} {p : Reg → Nat → Prop} {s t : State} (h : Merged n rest p s t) :
    t.copies = s.copies ∧ t.bufs = s.bufs :=
  ⟨(congrArg State.copies h.step.reports.1 :), (congrArg State.bufs h.step.reports.1 :)⟩

/-- A copy claims its cells: it has the next number, and its claim is last at its die (R236). -/
theorem Merged.claim {n : Nat} {rest : List Merge} {p : Reg → Nat → Prop} {s u : State} (h : Merged n rest p s u)
    (hp : ∀ r i, p r i → r ∈ mergeRegs) (c : Copy) (l : SMap (Option Staged)) : let t := { u.claim c with staged := l }
    MergeFrame n rest s t ∧ t.copy s.nextId = some c ∧ (∀ k, k ≠ s.nextId → t.copy k = s.copy k) ∧
      (t.buf c.die).claims = (s.buf c.die).claims ++ [(c.req, .copy s.nextId)] ∧ ∀ d, d ≠ c.die → t.buf d = s.buf d := by
  intro t
  obtain ⟨hcopies, hbufs⟩ := h.noCopy
  have hid : u.nextId = s.nextId := (congrArg State.nextId h.step.reports.1 :)
  have hcopy (k : Nat) : t.copy k = if s.nextId = k then some c else s.copy k := by
    rw [← hid, State.copy, State.copy, ← hcopies]
    exact SMap.get_set (d := fun _ => (none : Option Copy)) u.copies u.nextId k (some c)
  have hbuf (d : Nat) : t.buf d = if c.die = d then { s.buf c.die with claims := (s.buf c.die).claims ++ [(c.req, .copy s.nextId)] }
      else s.buf d := by
    have hsame (e : Nat) : u.buf e = s.buf e := by rw [State.buf, State.buf, hbufs]
    rw [← hid, ← hsame, ← hsame]
    exact State.buf_setBuf (({ u with nextId := u.nextId + 1 } : State).setCopy u.nextId (some c)) c.die d _
  refine ⟨h.frame hp, ?_, fun k hk => ?_, ?_, fun d hd => ?_⟩
  · rw [hcopy, if_pos rfl]
  · rw [hcopy, if_neg hk.symm]
  · rw [hbuf, if_pos rfl]
  · rw [hbuf, if_neg hd.symm]

/-- A copy leaves action merge: what crosses dies is counted, and the frame's staging holds one more (R23, R92). -/
theorem Merged.submit {n : Nat} {rest : List Merge} {p : Reg → Nat → Prop} {s t : State} (h : Merged n rest p s t) (c : Copy) :
    ∃ u, Merged n rest (fun r k => p r k ∨ r ∈ gaugeRegs) s u ∧ t.submit n c = u.claim c ∧
      ∀ r i, r ∉ reportRegs → r ∉ gaugeRegs → u.reg r i = t.reg r i := by
  let v := if c.die = pipeDie n then t else t.gauge! (16 + pipeDie n) 0x4E (cellsOf c.bytes.length)
  have hv : Merged n rest (fun r k => p r k ∨ r ∈ gaugeRegs) s v ∧ ∀ r i, r ∉ reportRegs → r ∉ gaugeRegs → v.reg r i = t.reg r i := by
    simp only [v]
    split
    · exact ⟨{ h with step := h.step.mono fun _ _ e => e.imp_right .inl }, fun _ _ _ _ => rfl⟩
    · exact ⟨h.gauge! _ _ _ _, fun _ _ h1 h2 => Merged.reg_gauge! _ _ _ _ _ h1 h2⟩
  have hstage : ∃ l, t.submit n c = State.claim { v with staged := l } c := by
    unfold State.submit
    dsimp only
    split
    · split
      · exact ⟨_, rfl⟩
      · exact ⟨v.staged, rfl⟩
    · exact ⟨v.staged, rfl⟩
  obtain ⟨l, hl⟩ := hstage
  exact ⟨_, hv.1.staged l, hl, hv.2⟩

/-- Whether a number is a usable port stays where the domains' states do. -/
theorem EngineStep.portOk {p : Reg → Nat → Prop} {s t : State} (h : EngineStep p s t) (hp : ∀ i, ¬ p .PWR_DOM_STS i) (q : Nat) :
    t.portOk q = s.portOk q := by
  have hdom (d : Nat) : t.domOn d = s.domOn d := by
    have hpart : t.part = s.part := (congrArg State.part h.reports.1 :)
    rw [State.domOn, State.domOn, State.domState, State.domState, hpart, h.fld (f := F.PWR_DOM_STS_STATE) (by decide) (hp d)]
  rw [State.portOk, State.portOk, hdom, hdom]

/-! ### The packet's steps -/

/-- A packet with no ACL answer, host copy, mirror or responder mark is dropped, or forwarded, alone (R207, R208). -/
theorem State.mergeJob_unmarked (u : State) (n : Nat) {j : Job} (errs : Nat) (hacl : j.acls = []) (hcopy : beAt j.md 0x15 1 = 0)
    (hrsp : beAt j.md 0x16 1 = 0) (hmir : ∀ i, i < 4 → (j.md.getD (0x18 + i) 0).getLsbD 7 = false) :
    let fwd := beAt j.md 0x10 4 % 2 ^ 24
    let cause := if beAt j.md 0x14 1 ≠ 0 then 1 else if fwd / 2 ^ 20 = 0 then 3 else 0
    u.mergeJob n j errs = (if cause ≠ 0 then u.mergeDrop n cause
      else u.forward n j fwd (beAt j.md 0x0F 1 % 8) errs false true).mergedStage j.pkt.id := by
  intro fwd cause
  have hmark : j.marked = j := by
    rw [Job.marked, hacl]
    rfl
  have hresp : u.respond n j = (false, u) := by
    rw [State.respond, hrsp]
    rfl
  have hnone : mirrorSet j.md j.mirSeq [] = [] := by
    have hprog : (List.range 4).filter (fun i => (j.md.getD (0x18 + i) 0).getLsbD 7) = [] := by
      rw [List.filter_eq_nil_iff]
      intro i hi
      rw [hmir i (List.mem_range.1 hi)]
      decide
    rw [mirrorSet, hprog]
    rfl
  have hbest (ok : Acl → Bool) : aclBest [] ok = none := rfl
  simp only [State.mergeJob, hmark, hresp, hacl, hbest, hcopy, hnone]
  simp [cause, fwd]

/-- KIND 1 with a usable port that is no Yarn link, without a policer: the packet goes on as one copy (R211). -/
theorem State.forward_port {u : State} {j : Job} {p : Nat} (n tc errs : Nat) (hp : p < 128) (hok : u.portOk p = true)
    (hyarn : u.isYarn p = false) (hpol : beAt j.md 0x1C 4 < 2 ^ 31) :
    u.forward n j (2 ^ 20 + p) tc errs false true =
      u.sendForward n { Copy.of j.pkt j.md (2 ^ 20 + p) .forward p tc 0 j.mode with solo := true } true := by
  have hres : u.resolve n j.tag (beAt j.md 0x20 4) (2 ^ 20 + p) errs = (.port p (2 ^ 20 + p), u) := by
    have hkind : (2 ^ 20 + p) / 2 ^ 20 % 16 = 1 := by omega
    have hid : (2 ^ 20 + p) % 2 ^ 20 = p := by omega
    simp only [State.resolve, hkind, hid, State.portTarget, hok]
    rfl
  have hbit : bitOf (beAt j.md 0x1C 4) 31 = false := by
    rw [bitOf, Nat.div_eq_of_lt hpol]
    rfl
  have hfab (c : Copy) (hc : c.port = p) : u.fabric n c true = (some c, u) := by
    rw [State.fabric, hc, hyarn]
    rfl
  simp only [State.forward, hres, hbit]
  split
  all_goals
    rw [if_neg Bool.false_ne_true, hfab _ rfl]
    rfl

/-- A forwarding copy to a port whose queues no metadata names goes to the port's unicast queue of its class (R258). -/
theorem State.sendForward_unicast {u : State} {c : Copy} (n : Nat) (hp : c.port < 128) (hy : c.yarn = none)
    (hleaf : u.effBit F.SCH_PORT_LEAF_SRC (c.port / 64 * 75 + c.port % 64) = false) :
    u.sendForward n c true = u.submit n (c.ofGroup.route n (beAt c.md 0 1) (32768 + 16 * (c.port % 64) + c.tc)) := by
  have hlocal : localPort c.port = (c.port / 64, c.port % 64) := if_pos hp
  simp [State.sendForward, hy, State.queueFor, hlocal, hleaf, portQueue]

/-- The forwarding copy as it claims its cells (R211, R258). -/
def forwardedCopy (n : Nat) (j : Job) (p tc : Nat) : Copy :=
  let c : Copy := { Copy.of j.pkt j.md (2 ^ 20 + p) .forward p tc 0 j.mode with solo := true }
  c.ofGroup.route n (beAt c.md 0 1) (32768 + 16 * (p % 64) + tc)

theorem State.forward_unicast {u : State} {j : Job} {p : Nat} (n tc errs : Nat) (hp : p < 128) (hok : u.portOk p = true)
    (hyarn : u.isYarn p = false) (hpol : beAt j.md 0x1C 4 < 2 ^ 31)
    (hleaf : u.effBit F.SCH_PORT_LEAF_SRC (p / 64 * 75 + p % 64) = false) :
    u.forward n j (2 ^ 20 + p) tc errs false true = u.submit n (forwardedCopy n j p tc) := by
  rw [State.forward_port n tc errs hp hok hyarn hpol, State.sendForward_unicast n]
  · rfl
  · exact hp
  · rfl
  · exact hleaf

/-- A packet whose outer action is drop is counted so (R104). -/
theorem State.mergeOuter_drop {u : State} {n : Nat} {j : Job}
    (h : (u.actCount n 23).fld F.STE_OUTER_ACT_ACT (n * 8 + j.oclass) = 0) :
    u.mergeOuter n j = ((u.actCount n 23).steCount n 15).mergedStage j.pkt.id := by
  simp only [State.mergeOuter, h]

/-- The copy of a host frame, before it claims its cells (R211, R343). -/
def hostedCopy (mode : Nat) (b md : Bytes) (dest tc : Nat) (tx : Option (Nat × Nat × Nat × Bool)) (ch : Option Nat) : Copy :=
  { Copy.own (if ch.isSome then .chartTx else .hostTx) dest tc b with
    md := overwrite md 0x10 (beBytes 4 (2 ^ 20 + dest)), tx := tx, chart := ch, mode := mode, yarn := none }

theorem State.mergeHost_port {u : State} (n : Nat) (b md : Bytes) {dest : Nat} (tc : Nat) (tx : Option (Nat × Nat × Nat × Bool))
    (ch : Option Nat) (hok : (u.steCount n 14).portOk dest = true) (hyarn : (u.steCount n 14).isYarn dest = false) :
    u.mergeHost n b md dest tc tx ch =
      (u.steCount n 14).sendPlain n 130 (hostedCopy (u.steCount n 14).curMode b md dest tc tx ch) := by
  simp only [State.mergeHost, hok, hyarn]
  rfl

/-! ### The command -/

theorem exec_actionMerge_job {n : Fin 16} {j : Job} {rest : List Merge} {s : State} (errs : BitVec 8)
    (h : (s.pipe n.val).merge = .job j :: rest) : exec (.actionMerge n errs) s = .next (
      if j.pkt.bad && j.pkt.arr ≠ 2 then (s.takeMerge n.val rest).mergedStage j.pkt.id
      else if j.reason ≠ 0 then (s.takeMerge n.val rest).mergeOuter n.val j
      else (s.takeMerge n.val rest).mergeJob n.val j errs.toNat) := by
  show execActionMerge n errs s = _
  have h' : (s.begin.pipe n.val).merge = .job j :: rest := h
  simp only [execActionMerge, h']
  rfl

theorem exec_actionMerge_yarn {n : Fin 16} {p : Pkt} {md : Bytes} {tc dp : Nat} {x : YHdr} {xu : Bytes} {own : Bool} {rest : List Merge}
    {s : State} (errs : BitVec 8) (h : (s.pipe n.val).merge = .yarn p md tc dp x xu own :: rest) (hbad : p.bad = true) (harr : p.arr ≠ 2) :
    exec (.actionMerge n errs) s = .next ((s.takeMerge n.val rest).mergedStage p.id) := by
  show execActionMerge n errs s = _
  have h' : (s.begin.pipe n.val).merge = .yarn p md tc dp x xu own :: rest := h
  have harr' : decide (p.arr ≠ 2) = true := decide_eq_true harr
  simp only [execActionMerge, h', hbad, harr']
  rfl

theorem exec_actionMerge_host {n : Fin 16} {b md : Bytes} {dest tc : Nat} {tx : Option (Nat × Nat × Nat × Bool)} {ch : Option Nat}
    {rest : List Merge} {s : State} (errs : BitVec 8) (h : (s.pipe n.val).merge = .host b md dest tc tx ch :: rest) :
    exec (.actionMerge n errs) s = .next ((s.takeMerge n.val rest).mergeHost n.val b md dest tc tx ch) := by
  show execActionMerge n errs s = _
  have h' : (s.begin.pipe n.val).merge = .host b md dest tc tx ch :: rest := h
  simp only [execActionMerge, h']
  rfl

/-! ### The outcomes -/

/-- ACTION_MERGE of pipeline `n` takes a packet, leaving `rest`, and makes no copy. -/
def MergesNone (n : Fin 16) (errs : BitVec 8) (rest : List Merge) (s t : State) : Prop :=
  (exec (.actionMerge n errs) s = .next t ∧ MergeFrame n.val rest s t) ∧ t.copies = s.copies ∧ t.bufs = s.bufs

/-- ACTION_MERGE of pipeline `n` takes a packet, leaving `rest`, and makes copy `c`, whose claim is last at its die (R236). -/
def MergesOne (n : Fin 16) (errs : BitVec 8) (rest : List Merge) (s t : State) (c : Copy) : Prop :=
  (exec (.actionMerge n errs) s = .next t ∧ MergeFrame n.val rest s t) ∧ t.copy s.nextId = some c ∧
    (∀ k, k ≠ s.nextId → t.copy k = s.copy k) ∧
    (t.buf c.die).claims = (s.buf c.die).claims ++ [(c.req, .copy s.nextId)] ∧ ∀ d, d ≠ c.die → t.buf d = s.buf d

section
variable {n : Fin 16} {errs : BitVec 8} {rest : List Merge} {s : State}

theorem Merged.none {p : Reg → Nat → Prop} {t : State} (h : Merged n.val rest p s t) (hp : ∀ r i, p r i → r ∈ mergeRegs) (id : Nat)
    (he : exec (.actionMerge n errs) s = .next (t.mergedStage id)) : MergesNone n errs rest s (t.mergedStage id) := by
  obtain ⟨l, hl⟩ := t.mergedStage_eq id
  rw [hl] at he ⊢
  exact ⟨⟨he, (h.staged l).frame hp⟩, (h.staged l).noCopy⟩

theorem Merged.one {p : Reg → Nat → Prop} {u : State} (h : Merged n.val rest p s u) (hp : ∀ r i, p r i → r ∈ mergeRegs) (c : Copy)
    (l : SMap (Option Staged)) (he : exec (.actionMerge n errs) s = .next { u.claim c with staged := l }) :
    MergesOne n errs rest s { u.claim c with staged := l } c := by
  obtain ⟨hf, hrest⟩ := h.claim hp c l
  exact ⟨⟨he, hf⟩, hrest⟩

theorem State.reg_mergedStage (t : State) (id : Nat) (r : Reg) (i : Nat) : (t.mergedStage id).reg r i = t.reg r i := by
  obtain ⟨l, hl⟩ := t.mergedStage_eq id
  rw [hl]
  rfl

/-- A packet dropped at action merge is counted by its cause (R208, Table 8-2). -/
theorem merges_dropped {id i : Nat} (hc : s.counts .ACT_CNT (n.val * 25)) (hi : i ≠ 0)
    (he : exec (.actionMerge n errs) s = .next (((s.takeMerge n.val rest).mergeDrop n.val i).mergedStage id)) :
    ∃ t, MergesNone n errs rest s t ∧ (s.counts .ACT_CNT (n.val * 25 + i) →
      t.reg .ACT_CNT (n.val * 25 + i) = s.reg .ACT_CNT (n.val * 25 + i) + 1) := by
  have hstart : Merged n.val rest _ s _ := Merged.start hc
  have hne : ¬ (Reg.ACT_CNT = .ACT_CNT ∧ n.val * 25 + i = n.val * 25) := by omega
  have hu : (s.takeMerge n.val rest).mergeDrop n.val i = ((s.takeMerge n.val rest).actCount n.val i).gauge! n.val 0x0E 1 := by
    rw [State.mergeDrop, if_neg hi]
  rw [hu] at he
  refine ⟨_, ((hstart.bump hne).gauge! _ _ _ _).none ?_ id he, fun hi => ?_⟩
  · rintro r k ((h | ⟨rfl, -⟩) | h)
    · exact h.elim
    · decide
    · exact gaugeRegs_mergeRegs r h
  · rw [State.reg_mergedStage, Merged.reg_gauge! _ _ _ _ _ (by decide) (by decide)]
    exact hstart.reg_bump (by decide) hne (fun h => h) hi

/-- A packet that outer classification ended with the drop action (R104). -/
theorem merges_outerDrop {j : Job} (hc : s.counts .ACT_CNT (n.val * 25)) (hact : s.fld F.STE_OUTER_ACT_ACT (n.val * 8 + j.oclass) = 0)
    (he : exec (.actionMerge n errs) s = .next ((s.takeMerge n.val rest).mergeOuter n.val j)) :
    ∃ t, MergesNone n errs rest s t ∧
      (s.counts .ACT_CNT (n.val * 25 + 23) → t.reg .ACT_CNT (n.val * 25 + 23) = s.reg .ACT_CNT (n.val * 25 + 23) + 1) ∧
      (s.counts .STE_CNT (n.val * 16 + 15) → t.reg .STE_CNT (n.val * 16 + 15) = s.reg .STE_CNT (n.val * 16 + 15) + 1) := by
  have hstart : Merged n.val rest _ s _ := Merged.start hc
  have hne : ¬ (Reg.ACT_CNT = .ACT_CNT ∧ n.val * 25 + 23 = n.val * 25) := by omega
  have hne' : ¬ (Reg.STE_CNT = .ACT_CNT ∧ n.val * 16 + 15 = n.val * 25) := by simp
  have h23 := hstart.bump hne
  rw [State.mergeOuter_drop ((h23.step.fld (by decide) (by simp)).trans hact)] at he
  refine ⟨_, (h23.bump hne').none ?_ _ he, fun hi => ?_, fun hi => ?_⟩
  · rintro r k ((h | ⟨rfl, -⟩) | ⟨rfl, -⟩)
    · exact h.elim
    · decide
    · decide
  · have hste (v : State) (i : Nat) : EngineStep (fun q _ => q = .STE_CNT) v (v.bump .STE_CNT i 1) := EngineStep.bump v 1 (.inr rfl)
    rw [State.reg_mergedStage]
    exact ((hste _ _).reg (by decide) (by decide)).trans (hstart.reg_bump (by decide) hne (fun h => h) hi)
  · rw [State.reg_mergedStage]
    exact h23.reg_bump (by decide) hne' (by simp) hi

/-- A packet forwarded to a usable port, as one copy (R211, R258). -/
theorem merges_forwarded {j : Job} {p tc : Nat} (hc : s.counts .ACT_CNT (n.val * 25)) (hp : p < 128) (hok : s.portOk p = true)
    (hyarn : s.isYarn p = false) (hpol : beAt j.md 0x1C 4 < 2 ^ 31)
    (hleaf : s.effBit F.SCH_PORT_LEAF_SRC (p / 64 * 75 + p % 64) = false)
    (he : exec (.actionMerge n errs) s = .next (((s.takeMerge n.val rest).forward n.val j (2 ^ 20 + p) tc errs.toNat false true).mergedStage
      j.pkt.id)) : ∃ t, MergesOne n errs rest s t (forwardedCopy n.val j p tc) := by
  have hstart : Merged n.val rest _ s _ := Merged.start hc
  rw [State.forward_unicast n.val _ errs.toNat hp ((hstart.step.portOk (by simp) p).trans hok) ((hstart.step.isYarn p).trans hyarn) hpol
    ((hstart.step.effBit _ _).trans hleaf)] at he
  obtain ⟨v, hv, hsub, -⟩ := hstart.submit (forwardedCopy n.val j p tc)
  obtain ⟨l, hl⟩ := (v.claim (forwardedCopy n.val j p tc)).mergedStage_eq j.pkt.id
  rw [hsub, hl] at he
  refine ⟨_, hv.one ?_ _ l he⟩
  rintro r k (h | h)
  · exact h.elim
  · exact gaugeRegs_mergeRegs r h

/-- A host frame with a usable destination makes one copy (R110, R211). -/
theorem merges_hosted {b md : Bytes} {dest tc : Nat} {tx : Option (Nat × Nat × Nat × Bool)} {ch : Option Nat}
    (hc : s.counts .ACT_CNT (n.val * 25)) (hok : s.portOk dest = true) (hyarn : s.isYarn dest = false)
    (he : exec (.actionMerge n errs) s = .next ((s.takeMerge n.val rest).mergeHost n.val b md dest tc tx ch)) :
    ∃ t c, MergesOne n errs rest s t c ∧ c.port = dest ∧ c.tc = tc ∧ c.bytes = b ∧ c.tx = tx ∧ c.chart = ch ∧
      (s.counts .STE_CNT (n.val * 16 + 14) → t.reg .STE_CNT (n.val * 16 + 14) = s.reg .STE_CNT (n.val * 16 + 14) + 1) := by
  have hstart : Merged n.val rest _ s _ := Merged.start hc
  have hne : ¬ (Reg.STE_CNT = .ACT_CNT ∧ n.val * 16 + 14 = n.val * 25) := by simp
  have h14 := hstart.bump hne
  rw [State.mergeHost_port _ _ _ _ _ _ ((h14.step.portOk (by simp) dest).trans hok) ((h14.step.isYarn dest).trans hyarn)] at he
  obtain ⟨v, hv, hsub, hsame⟩ := h14.submit _
  rw [State.sendPlain] at he
  have hclaim := he.trans (congrArg Host.Outcome.next hsub)
  refine ⟨_, _, hv.one ?_ _ v.staged hclaim, rfl, rfl, rfl, rfl, rfl, fun hi => ?_⟩
  · rintro r k ((h | ⟨rfl, -⟩) | h)
    · exact h.elim
    · decide
    · exact gaugeRegs_mergeRegs r h
  · exact (hsame _ _ (by decide) (by decide)).trans (hstart.reg_bump (by decide) hne (fun h => h) hi)

end

theorem forwardedCopy_fields (n : Nat) (j : Job) {p : Nat} (tc : Nat) (hp : p < 128) : let c := forwardedCopy n j p tc
    c.port = p ∧ c.die = p / 64 ∧ c.tc = tc ∧ c.bytes = j.pkt.bytes ∧ c.md = overwrite j.md 0x10 (beBytes 4 (2 ^ 20 + p)) ∧
      c.queue = 32768 + 16 * (p % 64) + c.tc ∧ c.colour = 0 := by
  have hlocal : localPort p = (p / 64, p % 64) := if_pos hp
  simp [forwardedCopy, Copy.route, Copy.ofGroup, Copy.of, Copy.own, hlocal]

/-- Settles O35: each way that a packet takes, over what every taken packet leaves and what a claim adds. -/
theorem actionMergeDecides : Obligations.ActionMergeDecides := by
  intro n errs m rest s hm hc frame none' one counted
  refine ⟨fun j hj hbad harr => ?_, fun p md tc dp h x own hj hbad harr => ?_, fun j hj hgood hr hacl hcopy hrsp hmir => ?_,
    fun j hj hgood hr hact => ?_, fun b md dest tc tx ch hj hok hyarn => ?_⟩
  all_goals subst hj
  · have he := exec_actionMerge_job errs hm
    rw [if_pos (by rw [hbad, decide_eq_true harr]; rfl)] at he
    exact ⟨_, (Merged.start hc).none (fun _ _ => False.elim) _ he⟩
  · exact ⟨_, (Merged.start hc).none (fun _ _ => False.elim) _ (exec_actionMerge_yarn errs hm hbad harr)⟩
  · intro fwd
    have he := exec_actionMerge_job errs hm
    rw [if_neg (by simpa using hgood), if_neg (not_not.2 hr), State.mergeJob_unmarked _ _ _ hacl hcopy hrsp hmir] at he
    refine ⟨fun hd => merges_dropped (id := j.pkt.id) (i := 1) hc (by decide) ?_,
      fun hd hk => merges_dropped (id := j.pkt.id) (i := 3) hc (by decide) ?_, fun p hp hd hk hok hpol hyarn hleaf => ?_⟩
    · rw [if_pos hd, if_pos (by decide)] at he
      exact he
    · rw [if_neg (not_not.2 hd), if_pos hk, if_pos (by decide)] at he
      exact he
    · have hk' : ¬ fwd / 2 ^ 20 = 0 := by rw [hk]; omega
      rw [if_neg (not_not.2 hd), if_neg hk', if_neg (by decide), show beAt j.md 0x10 4 % 2 ^ 24 = _ from hk] at he
      obtain ⟨t, ht⟩ := merges_forwarded hc hp hok hyarn hpol hleaf he
      exact ⟨t, _, ht, forwardedCopy_fields n.val j _ hp⟩
  · have he := exec_actionMerge_job errs hm
    rw [if_neg (by simpa using hgood), if_pos hr] at he
    exact merges_outerDrop hc hact he
  · exact merges_hosted hc hok hyarn (exec_actionMerge_host errs hm)

end Sys2Proof.Machine
end

section
/-! PROOFS. O47 fails: where a completer ends the read of a frame's buffers in error, AER logs the header of its completion (R305,
R325), which the statement gives no room for. -/
namespace Sys2Proof.Machine

/-- A PKT_TX descriptor: a frame of its own, of the 64 bytes at 0x1000, for port 130 (Table 14-4). -/
def hostFrame : Bytes := leBytes 8 0x1000 ++ leBytes 2 64 ++ leBytes 2 64 ++ leBytes 1 130 ++ List.replicate 19 0

/-- PF0 is a bus master, pipeline 0 is ON, and submission ring 5, a PKT_TX ring, has fetched one descriptor. -/
def frameSender : State :=
  let s := ((State.reset.setCfg 0 1 4).setFld F.DMA_SQ_STS_ENABLED 5 1).setFld F.PWR_DOM_STS_STATE 0 3
  s.setSq 5 { SqSt.idle with entries := [(0, hostFrame)] }

theorem frameSender_entries : txEntries 16 (frameSender.sq 5).entries = some [(0, hostFrame)] := by decide +kernel

/-- The ring may send, and its completion ring has a place. -/
theorem frameSender_maySend : frameSender.fld F.DMA_SQ_STS_ENABLED 5 = 1 ∧ frameSender.fld F.DMA_SQ_CFG_KIND 5 = 0 ∧
    (frameSender.sq 5).stopping = false ∧ frameSender.sqBlocked 5 = false ∧
    frameSender.cqPlaces (frameSender.boundCq 5) ≠ 0 ∧ frameSender.hostPipe ≠ none ∧
    txEntries 16 (frameSender.sq 5).entries ≠ none ∧ frameSender.fnMayIssue (frameSender.ownerOf false 5) = true := by
  decide +kernel

/-- No read is under way, the frame's finds a tag at once, and no other frame of the ring is being read. -/
theorem frameSender_quiet : frameSender.readsAtOnce (frameSender.ownerOf false 5) [(leAt hostFrame 0 8, txLen hostFrame)] ∧
    ∀ x, x ∈ frameSender.dma.frames → x.ring ≠ 5 := by
  unfold State.readsAtOnce
  decide +kernel

/-- Four free values stand for the header that AER logs: the first uncorrectable error of the function. -/
theorem frameSender_aborted : ∀ t, exec (.txFrame 5 (.error .abort) []) frameSender = .next t → t.fresh = frameSender.fresh + 4 := by
  have h : (match exec (.txFrame 5 (.error .abort) []) frameSender with
      | .next t => t.fresh == frameSender.fresh + 4
      | _ => true) = true := by decide +kernel
  intro t ht
  rw [ht] at h
  exact beq_iff_eq.1 h

/-- Refutes O47: a completer's abort ends the read of a frame's buffers, and the header that AER logs draws four free values, so that
more changes than the ring, its completion, reports and the function's reads and configuration. -/
theorem not_ringTrafficMoves : ¬ Obligations.RingTrafficMoves := by
  rintro ⟨-, -, -, hframe, -⟩
  obtain ⟨-, hsend⟩ := hframe 5 (.error .abort) [] frameSender
  obtain ⟨-, -, -, -, -, hon, -⟩ := frameSender_maySend
  obtain ⟨pipe, hpipe⟩ := Option.ne_none_iff_exists'.1 hon
  obtain ⟨hlost, -⟩ := hsend [(0, hostFrame)] (0, hostFrame) (0, hostFrame) pipe.1 pipe.2 frameSender_maySend frameSender_entries rfl rfl
    hpipe
  obtain ⟨t, ht, -, -, -, -, -, honly, -⟩ := hlost (.inr ⟨frameSender_quiet, .abort, .inl rfl⟩) rfl rfl
  have hfresh : t.fresh = frameSender.fresh := (congrArg State.fresh honly :)
  rw [frameSender_aborted t ht] at hfresh
  omega

end Sys2Proof.Machine
end
